-- ==== Sys2Proof/Word.lean ====
section
/-! DEFINITION. The word types of the model and their plainest arithmetic: bytes, little-endian and big-endian byte
strings, object values. -/

namespace Sys2Proof

/-- A byte is 8 bits (R7). -/
abbrev Byte := BitVec 8

/-- A string of bytes, offset 0 first. -/
abbrev Bytes := List Byte

/-- A scalar register word of a weaver tile (R106). -/
abbrev Word := BitVec 64

/-- Value of a dictionary object (R399): a number, or the bytes of a STR or BLOB. -/
inductive Val where
  | num (n : Nat)
  | blob (b : Bytes)
deriving DecidableEq, Repr

/-- The number an object value holds (0 for a byte string). -/
def Val.toNat : Val → Nat
  | .num n => n
  | .blob _ => 0

/-- The bytes an object value holds (none for a number). -/
def Val.toBytes : Val → Bytes
  | .num _ => []
  | .blob b => b

/-- The `k` low bytes of `n`, offset 0 holding the least significant (R9). -/
def leBytes : Nat → Nat → Bytes
  | 0, _ => []
  | k + 1, n => BitVec.ofNat 8 n :: leBytes k (n / 256)

/-- The number that bytes hold in little-endian order (R9). -/
def leNat : Bytes → Nat
  | [] => 0
  | b :: bs => b.toNat + 256 * leNat bs

/-- The `k` low bytes of `n`, most significant first (R9). -/
def beBytes (k n : Nat) : Bytes := (leBytes k n).reverse

/-- The number that bytes hold most significant first (R9). -/
def beNat (b : Bytes) : Nat := leNat b.reverse

/-- `len` bytes of `b` from `off`; bytes past the end are missing. -/
def slice (b : Bytes) (off len : Nat) : Bytes := (b.drop off).take len

/-- The little-endian number in `len` bytes of `b` from `off`. -/
def field (b : Bytes) (off len : Nat) : Nat := leNat (slice b off len)

/-- The bytes of an ASCII string. -/
def asciiBytes (t : String) : Bytes := t.toList.map fun c => BitVec.ofNat 8 c.toNat

/-- Bit `i` of `n`. -/
def bitAt (n i : Nat) : Bool := n.testBit i

/-- Bits high to low of `n` (R8). -/
def bits (n hi lo : Nat) : Nat := (n >>> lo) % 2 ^ (hi + 1 - lo)

/-- `n` with bit `i` set to `b`. -/
def setBit (n i : Nat) (b : Bool) : Nat :=
  if b then n ||| 2 ^ i else if n.testBit i then n - 2 ^ i else n

/-- Number of bits set among the low `k`. -/
def popCount (k n : Nat) : Nat := ((List.range k).filter fun i => n.testBit i).length

/-- The bits set among the low `k`, ascending. -/
def bitList (k n : Nat) : List Nat := (List.range k).filter fun i => n.testBit i

/-- The two's-complement value of a `w`-bit number (R16). -/
def toSigned (w n : Nat) : Int :=
  let m := n % 2 ^ w
  if m < 2 ^ (w - 1) then (m : Int) else (m : Int) - (2 ^ w : Nat)

/-- The `w`-bit two's complement of an integer (R16). -/
def ofSigned (w : Nat) (x : Int) : Nat := (x % (2 ^ w : Nat)).toNat

end Sys2Proof
end

