-- ==== Sys2Proof/Syntax.lean ====
section
/-! DEFINITION. The commands of the KC4810 block: one constructor of `Instr` for each row of the opcode table, and the types
of their operands. -/

namespace Sys2Proof

/-- Hoop h (R23: 16 hoops). -/
abbrev Hoop := Fin 16
/-- Weaver tile Tn (R19). -/
abbrev Tile := Fin 48
/-- Memory channel Cn (R19). -/
abbrev Channel := Fin 640
/-- Fabric lane FLn (R19). -/
abbrev FabLane := Fin 64
/-- Fabric MAC n (R19). -/
abbrev Mac := Fin 8
/-- Fabric port FPp (R21). -/
abbrev Port := Fin 16
/-- DSP line lane LNk (R19). -/
abbrev Lane := Fin 32
/-- Wale w (R252). -/
abbrev Wale := Fin 32
/-- Line session number of a wale (R290: sessions 0–32). -/
abbrev SessionNo := Fin 33
/-- In-package optical lane IPk (R19). -/
abbrev Ip := Fin 16
/-- Board engine site BEk (R20). -/
abbrev Engine := Fin 16
/-- Optical end pair k (R22). -/
abbrev Pair := Fin 16
/-- Laser KLn (R19). -/
abbrev Laser := Fin 20
/-- Collective group g (R23). -/
abbrev GroupNo := Fin 4096
/-- Queue pair q (R215). -/
abbrev Qp := Fin 16384
/-- Memory window w (R217). -/
abbrev Window := Fin 16384
/-- Clock domain CDd (R370). -/
abbrev Domain := Fin 100
/-- Clock source s (R366). -/
abbrev Source := Fin 5
/-- Time base TBb (R351). -/
abbrev Base := Fin 4
/-- Die number (R396). -/
abbrev Die := Fin 25
/-- M die Mm (R18). -/
abbrev MDie := Fin 8
/-- Mailbox MBn (R409). -/
abbrev Mailbox := Fin 64
/-- PCIe request slot (R406). -/
abbrev ReqSlot := Fin 16
/-- PDP session number (R413: at most 16). -/
abbrev PdpSession := Fin 16
/-- Status code of R456. -/
abbrev StatusCode := Nat
/-- A 16-bit fabric address (R324). -/
abbrev FabAddr := BitVec 16

/-- Who sends a dictionary request, and what its answer needs: a PCIe request slot with its Tag and Flags[0] (R407), a PDP
session with the message's sequence number (R413), a peer module over a wale with its Tag (R414), or hub firmware (R409). -/
inductive Requester where
  | pcie (slot : ReqSlot) (tag : BitVec 32) (interrupt : Bool)
  | pdp (session : PdpSession) (seq : Nat)
  | peer (wale : Wale) (tag : BitVec 32)
  | hubFirmware
deriving DecidableEq, Repr

/-- The 4,663-byte token of a SIG write (R402). -/
structure Token where
  keyId : BitVec 64
  node : BitVec 64
  index : BitVec 16
  sub : BitVec 8
  counter : BitVec 64
  signature : Bytes
deriving DecidableEq, Repr


/-- The reservation objects that HOOP_RESERVATION_WRITE writes (R32). -/
inductive Reservation where
  | memory | tiles | contexts
  | pool (owner cls : Fin 4)
deriving DecidableEq, Repr

/-- Where an RDMA packet arrives and whence it comes (R222): port, destination QPN, source address and QPN. -/
structure PacketOrigin where
  port : Port
  qpn : BitVec 24
  source : Bytes
  sourceQpn : BitVec 24
deriving DecidableEq, Repr

/-- An RDMA packet as it arrives (R211–R213, R218): PSN, opcode; the RETH's address, key and length; payload; AckReq; the CE mark;
`tileFull` says that the receive buffer of the tile it goes to has no room for it (R220; log entry 154). -/
structure RdmaPacket extends PacketOrigin where
  psn : BitVec 24
  opcode : BitVec 8
  address : BitVec 64
  key : BitVec 32
  length : BitVec 32
  data : Bytes
  ackReq : Bool
  ce : Bool
  tileFull : Bool
deriving DecidableEq, Repr

/-- A clock that a monitor watches (R372). -/
inductive ClockUnit where
  | source (s : Source)
  | domain (d : Domain)
deriving DecidableEq, Repr

/-- A large block (R376). -/
inductive LargeBlock where
  | tile (t : Tile) | channel (c : Channel) | lineLane (k : Lane) | fabricLane (l : FabLane) | ip (i : Ip)
deriving DecidableEq, Repr

/-- The fields of a tile instruction beside its opcode (R115): D, A, B, C, IMM. -/
structure TileWord where
  d : BitVec 6 := 0
  a : BitVec 6 := 0
  b : BitVec 6 := 0
  c : BitVec 6 := 0
  imm : BitVec 32 := 0
deriving DecidableEq, Repr

/-- A segment as the line delivers it (R256, R257): header, payload or ciphertext, tag, which of its parts carry an FEC flag,
and whether it came in a fixed slot. -/
structure RxSegment where
  header : Bytes
  body : Bytes
  tag : Bytes
  headerFlag : Bool
  bodyFlag : Bool
  fixedSlot : Bool
deriving DecidableEq, Repr

/-- A laser that the health checks watch (R298, R299): of the K die's bank, or of a board engine. -/
inductive LaserUnit where
  | bank (n : Laser)
  | engine (k : Engine)
deriving DecidableEq, Repr

/-- A fibre connector whose presence is sensed (R304, R490): OPMq, or BEPk. -/
inductive FibrePort where
  | opm (q : Fin 8)
  | bep (k : Engine)
deriving DecidableEq, Repr

/-- The increments that one meter link frame carries (R438, R439): for a hoop, the counter number (0–4 VcBytes0–4,
5 FabricRxBytes, 6 FabricTxBytes, 7 TileMicroseconds) and the amount; from a G die, a tile's mesh-busy cycles (R440). -/
inductive MeterIncrement where
  | counter (hoop : Hoop) (counter : Fin 8) (amount : Nat)
  | meshBusy (hoop : Hoop) (cycles : Nat)
deriving DecidableEq, Repr

/-- A power input of the module (R480). -/
inductive PowerInput where
  | main
  | standby
deriving DecidableEq, Repr

/-- What INPUT_FAULT detects (R454): reversed polarity, or a 54 V input outside 44–60 V. -/
inductive InputFault where
  | reversed
  | outOfRange
deriving DecidableEq, Repr

/-- The commands: one constructor for each row of the opcode table. -/
inductive Instr where
  /-- CONFIGURE (R27): HoopCommand Configure checks R31 and reserves the hoop's capacity, tiles and minima, or reports a failing status. -/
  | configure (rq : Requester) (h : Hoop)
  /-- ADMIT (R27): HoopCommand Admit binds the loaded job plan, allocating plan buffers, or reports a shortfall or state refusal. -/
  | admitJob (rq : Requester) (h : Hoop)
  /-- START (R27): HoopCommand Start takes a Configured hoop with a bound job and filled image slots, or a Stopped hoop, to Running. -/
  | start (rq : Requester) (h : Hoop)
  /-- DRAIN (R27): HoopCommand Drain refuses new operations and takes the hoop to Draining, or to Stopped if no operation holds a context. -/
  | drain (rq : Requester) (h : Hoop)
  /-- EVACUATE (R39): HoopCommand Evacuate checks the target and begins writing the hoop's state, or defers until Stopped. -/
  | evacuate (rq : Requester) (h : Hoop)
  /-- UNBIND (R27): HoopCommand Unbind frees a Stopped hoop's job memory and keeps its reservation. -/
  | unbind (rq : Requester) (h : Hoop)
  /-- RELEASE (R43): HoopCommand Release zeroises keys, clears stores and buffers, returns reservations and resets H objects. -/
  | release (rq : Requester) (h : Hoop)
  /-- HOOP_RESERVATION_WRITE (R32): A write of HoopMemoryCapacity, HoopTileMask, HoopContextMinimum or a pool minimum on a non-Empty hoop is checked and changes the reservation at once. -/
  | hoopReservationWrite (rq : Requester) (h : Hoop) (object : Reservation) (value : BitVec 64)
  /-- EVACUATION_TARGET_WRITE (R40): A write of EvacuationTarget with the wrong length or a Kind above 2 is refused. -/
  | evacuationTargetWrite (rq : Requester) (h : Hoop) (value : Bytes)
  /-- EVACUATION_COMPLETE (R39): The evacuation finishes writing its parts and the manifest, and sets EvacuationStatus. -/
  | evacuationComplete (h : Hoop)
  /-- EVACUATION_TIMEOUT (R41): The target accepts no data for 10 s and the evacuation ends with ST_TIMEOUT. -/
  | evacuationTimeout (h : Hoop)
  /-- EVACUATION_RECEIVED (R40): A peer module receives an evacuation manifest, takes the state if it may, and answers with a status segment. -/
  | evacuationReceived (w : Wale) (session : SessionNo) (parts : List Bytes) (manifest : Bytes)
  /-- EVACUATION_STATUS_RECEIVED (R40): The evacuating module receives the peer's status segment and sets EvacuationStatus from it. -/
  | evacuationStatusReceived (w : Wale) (session : SessionNo) (payload : Bytes)
  /-- GROUP_CREATE (R47): GroupCommand Create runs the Create checks of R493 and opens the group with its reserves, queue and window. -/
  | groupCreate (rq : Requester) (g : GroupNo)
  /-- GROUP_REFORM (R47): GroupCommand Reform aborts pending operations and takes the new epoch, sequence and membership. -/
  | groupReform (rq : Requester) (g : GroupNo)
  /-- GROUP_DELETE (R47): GroupCommand Delete aborts pending operations, releases reservations and frees the group. -/
  | groupDelete (rq : Requester) (g : GroupNo)
  /-- QUEUE_DOORBELL (R49): A doorbell write advances the producer index after earlier writes are placed, or is discarded with EV_QUEUE_OVERRUN. -/
  | queueDoorbell (q : Qp) (w : Window) (value : BitVec 32)
  /-- HOST_SUBMIT (R50): A HostSubmit write places one descriptor in the group's ring and advances the producer index, or reports why not. -/
  | hostSubmit (rq : Requester) (data : Bytes)
  /-- CONTEXT_GRANTED (R61): A freed context goes to the longest-waiting descriptor, which is re-checked from check 1. -/
  | contextGranted (g : GroupNo)
  /-- OPERATION_RUN (R63): An operation whose predecessor condition of R57 is met goes from Queued to Running and offers chunks to the sequencer. -/
  | operationRun (g : GroupNo) (seq : BitVec 32)
  /-- CHUNK_DONE (R68): After every result write of a chunk is acknowledged, the ChunkDone record is written and the operation advances. -/
  | chunkDone (g : GroupNo) (seq : BitVec 32) (chunk : BitVec 32)
  /-- RESUPPLY_LANDED (R63): The chunk's input has fully landed again, the timer stops and the chunk runs again from its start. -/
  | resupplyLanded (g : GroupNo) (seq : BitVec 32) (chunk : BitVec 32)
  /-- RESUPPLY_TIMEOUT (R63): The resupply timer expires and the operation ends with ST_UNCORRECTABLE. -/
  | resupplyTimeout (g : GroupNo) (seq : BitVec 32) (chunk : BitVec 32)
  /-- MEMBER_LOST (R331): A member module suspected for MemberLostHold is lost, breaking its groups and ending their operations with ST_TIMEOUT. -/
  | memberLost (member : FabAddr)
  /-- SMALL_CONTRIBUTION_RECEIVED (R70): A Barrier or SmallAllReduce contribution arrives, is checked against the local descriptor and folded, completing the operation when all are in. -/
  | smallContributionReceived (g : GroupNo) (member : FabAddr) (epoch seq : BitVec 32) (opcode elementType reduceOp : BitVec 8) (elementCount : BitVec 48) (payload : Bytes)
  /-- REPRO_DIGEST_RECEIVED (R84): A peer's reproducibility digest and ArithmeticVersion arrive on VC0 and are compared, raising EV_REPRO_MISMATCH on a difference. -/
  | reproDigestReceived (g : GroupNo) (peer : FabAddr) (digest : Bytes) (version : BitVec 32)
  /-- TILE_SENSOR_SAMPLE (R98): Every 10 µs each tile's four sensors are sampled and the fast-drop and trip conditions evaluated. -/
  | tileSensorSample (t : Tile) (r0 r1 r2 r3 : Int)
  /-- TILE_RETURN_HOLD_EXPIRY (R99): All sensors have stayed below 95.0 °C for TileReturnHold and the tile leaves Excluded or Tripped. -/
  | tileReturnHoldExpiry (t : Tile)
  /-- CHUNK_BIND (R94): The plan sequencer binds the next bindable chunk to a free zone of the highest-scoring eligible tile. -/
  | chunkBind (h : Hoop)
  /-- CHUNK_START (R94): A bound chunk whose slots are complete starts once its tile has finished the previous chunk, loading image and staged area as needed. -/
  | chunkStart (t : Tile)
  /-- TILE_FAULT (R102): A detected tile error stops the tile as Faulted and rebinds its chunks, faulting the hoop where R102 says. -/
  | tileFault (t : Tile) (cause : BitVec 8) (address : BitVec 23) (readable : Bool)
  /-- SEQUENCER_HANG_TIMEOUT (R101): The sequencer has not progressed for 1 ms with work queued, which is a tile fault. -/
  | sequencerHangTimeout (t : Tile)
  /-- TILE_TEST (R104): TileCommand Test starts the self-test on an Unowned or Faulted tile. -/
  | tileTest (rq : Requester) (t : Tile)
  /-- TILE_OUT_OF_SERVICE (R104): TileCommand OutOfService makes the tile Faulted with cause 7 and moves its chunks. -/
  | tileOutOfService (rq : Requester) (t : Tile)
  /-- TILE_SELF_TEST_DONE (R104): The self-test ends and the tile returns to service or becomes Faulted with cause 8. -/
  | tileSelfTestDone (t : Tile) (pass : Bool)
  /-- NOP (R120): No operation. -/
  | nop (t : Tile) (x : TileWord)
  /-- JMP (R120): Jump by a signed instruction offset. -/
  | jmp (t : Tile) (x : TileWord)
  /-- BEQZ (R120): Branch when s[A] is zero. -/
  | beqz (t : Tile) (x : TileWord)
  /-- BNEZ (R120): Branch when s[A] is not zero. -/
  | bnez (t : Tile) (x : TileWord)
  /-- JAL (R120): Jump and link the return address into s[D]. -/
  | jal (t : Tile) (x : TileWord)
  /-- JR (R120): Jump to the address in s[A]. -/
  | jr (t : Tile) (x : TileWord)
  /-- LOOP (R120): Run the next n instructions s[A] times. -/
  | loopS (t : Tile) (x : TileWord)
  /-- FENCE (R120): Wait until every queue is empty. -/
  | fence (t : Tile) (x : TileWord)
  /-- CDONE (R121): End the chunk: drain queues, check emit coverage, release the zone and hand the chunk to the sequencer. -/
  | cdone (t : Tile) (x : TileWord)
  /-- TRAP (R120): Raise EX_TRAP with a code, faulting the hoop. -/
  | trap (t : Tile) (x : TileWord)
  /-- ADD (R122): Scalar u64 addition. -/
  | addS (t : Tile) (x : TileWord)
  /-- SUB (R122): Scalar u64 subtraction. -/
  | subS (t : Tile) (x : TileWord)
  /-- MUL (R122): Low 64 bits of a scalar product. -/
  | mulS (t : Tile) (x : TileWord)
  /-- MULHU (R122): High 64 bits of the unsigned product. -/
  | mulhu (t : Tile) (x : TileWord)
  /-- AND (R122): Scalar bitwise AND. -/
  | andS (t : Tile) (x : TileWord)
  /-- OR (R122): Scalar bitwise OR. -/
  | orS (t : Tile) (x : TileWord)
  /-- XOR (R122): Scalar bitwise XOR. -/
  | xorS (t : Tile) (x : TileWord)
  /-- SHL (R122): Scalar shift left. -/
  | shl (t : Tile) (x : TileWord)
  /-- SHR (R122): Scalar logical shift right. -/
  | shr (t : Tile) (x : TileWord)
  /-- SRA (R122): Scalar arithmetic shift right. -/
  | sra (t : Tile) (x : TileWord)
  /-- SLTU (R122): Set when less, unsigned. -/
  | sltu (t : Tile) (x : TileWord)
  /-- SLT (R122): Set when less, signed. -/
  | slt (t : Tile) (x : TileWord)
  /-- SEQ (R122): Set when equal. -/
  | seq (t : Tile) (x : TileWord)
  /-- LIH (R122): Load the immediate into the upper half of s[D]. -/
  | lih (t : Tile) (x : TileWord)
  /-- AMOV (R123): Move a scalar plus immediate into an address register. -/
  | amov (t : Tile) (x : TileWord)
  /-- AADD (R123): Add a scalar and immediate to an address register. -/
  | aadd (t : Tile) (x : TileWord)
  /-- SMOVA (R123): Move an address register into a scalar register. -/
  | smova (t : Tile) (x : TileWord)
  /-- SLD (R123): Load a u64 from the tile store. -/
  | sld (t : Tile) (x : TileWord)
  /-- SST (R123): Store a u64 to the tile store. -/
  | sst (t : Tile) (x : TileWord)
  /-- CTX (R107): Read a chunk context item into s[D]. -/
  | ctx (t : Tile) (x : TileWord)
  /-- FADD (R123): Scalar FP32 addition. -/
  | fadd (t : Tile) (x : TileWord)
  /-- FMUL (R123): Scalar FP32 multiplication. -/
  | fmul (t : Tile) (x : TileWord)
  /-- FRSQ (R123): Scalar FP32 reciprocal square root. -/
  | frsq (t : Tile) (x : TileWord)
  /-- FRCP (R123): Scalar FP32 reciprocal. -/
  | frcp (t : Tile) (x : TileWord)
  /-- FCVTI (R123): Convert an i64 to FP32. -/
  | fcvti (t : Tile) (x : TileWord)
  /-- DLD (R124): DMA a module-memory region range into the tile store. -/
  | dld (t : Tile) (x : TileWord)
  /-- DST (R124): DMA tile-store bytes into a module-memory region. -/
  | dst (t : Tile) (x : TileWord)
  /-- DGATH (R124): Gather listed region records into the tile store. -/
  | dgath (t : Tile) (x : TileWord)
  /-- DOUT (R124): RDMA WRITE tile-store bytes to the DestinationTarget. -/
  | dout (t : Tile) (x : TileWord)
  /-- DXFER (R125): Copy bytes to the exchange region of a later chunk of the same operation. -/
  | dxfer (t : Tile) (x : TileWord)
  /-- DXWAIT (R124): Wait until the exchange region has received the given bytes. -/
  | dxwait (t : Tile) (x : TileWord)
  /-- DCLAIM (R124): Claim local slots, waiting until they are complete. -/
  | dclaim (t : Tile) (x : TileWord)
  /-- DREL (R126): Release the chunk's zone to the plan sequencer. -/
  | drel (t : Tile) (x : TileWord)
  /-- DMA_TRANSFER_COMPLETE (R124): A DMA transfer's data becomes visible at its destination and the instruction completes. -/
  | dmaTransferComplete (t : Tile)
  /-- DCLAIM_COMPLETE (R111): The claimed local slots become complete and DCLAIM completes. -/
  | dclaimComplete (t : Tile)
  /-- DXWAIT_COMPLETE (R111): The awaited exchange bytes have arrived and DXWAIT completes. -/
  | dxwaitComplete (t : Tile)
  /-- MLOAD (R127): Load a resident operand into a mesh slot. -/
  | mload (t : Tile) (x : TileWord)
  /-- MMA (R128): Stream rows through the resident operand into accumulator rows. -/
  | mma (t : Tile) (x : TileWord)
  /-- MDRAIN (R128): Write accumulator rows to the tile store, narrowing as selected. -/
  | mdrain (t : Tile) (x : TileWord)
  /-- VLD (R130): Load a vector register from the tile store. -/
  | vld (t : Tile) (x : TileWord)
  /-- VST (R130): Store a vector register to the tile store. -/
  | vst (t : Tile) (x : TileWord)
  /-- VADD (R130): Lane-wise FP32 addition. -/
  | vadd (t : Tile) (x : TileWord)
  /-- VSUB (R130): Lane-wise FP32 subtraction. -/
  | vsub (t : Tile) (x : TileWord)
  /-- VMUL (R130): Lane-wise FP32 multiplication. -/
  | vmul (t : Tile) (x : TileWord)
  /-- VFMA (R130): Lane-wise fused multiply-add. -/
  | vfma (t : Tile) (x : TileWord)
  /-- VMAX (R130): Lane-wise maximum. -/
  | vmax (t : Tile) (x : TileWord)
  /-- VMIN (R130): Lane-wise minimum. -/
  | vmin (t : Tile) (x : TileWord)
  /-- VABS (R130): Clear each lane's sign bit. -/
  | vabs (t : Tile) (x : TileWord)
  /-- VNEG (R130): Flip each lane's sign bit. -/
  | vneg (t : Tile) (x : TileWord)
  /-- VSCL (R130): Multiply each lane by a scalar. -/
  | vscl (t : Tile) (x : TileWord)
  /-- VCMPLT (R130): Lane-wise less-than mask. -/
  | vcmplt (t : Tile) (x : TileWord)
  /-- VSEL (R130): Bitwise select between two vectors. -/
  | vsel (t : Tile) (x : TileWord)
  /-- VBCAST (R130): Broadcast a scalar to every lane. -/
  | vbcast (t : Tile) (x : TileWord)
  /-- VIOTA (R130): Set each lane to its index. -/
  | viota (t : Tile) (x : TileWord)
  /-- VIADD (R130): Lane-wise u32 addition. -/
  | viadd (t : Tile) (x : TileWord)
  /-- VISUB (R130): Lane-wise u32 subtraction. -/
  | visub (t : Tile) (x : TileWord)
  /-- VAND (R130): Lane-wise bitwise AND. -/
  | vand (t : Tile) (x : TileWord)
  /-- VOR (R130): Lane-wise bitwise OR. -/
  | vor (t : Tile) (x : TileWord)
  /-- VXOR (R130): Lane-wise bitwise XOR. -/
  | vxor (t : Tile) (x : TileWord)
  /-- VSHL (R130): Lane-wise shift left. -/
  | vshl (t : Tile) (x : TileWord)
  /-- VSHR (R130): Lane-wise logical shift right. -/
  | vshr (t : Tile) (x : TileWord)
  /-- VEXT (R130): Extract one lane into a scalar register. -/
  | vext (t : Tile) (x : TileWord)
  /-- VRSUM (R131): Fixed-tree sum of all lanes. -/
  | vrsum (t : Tile) (x : TileWord)
  /-- VRMAX (R131): Fixed-tree maximum of all lanes. -/
  | vrmax (t : Tile) (x : TileWord)
  /-- VDOT (R130): Fixed-tree sum of lane products. -/
  | vdot (t : Tile) (x : TileWord)
  /-- VLDC (R130): Load narrow elements and widen them to FP32. -/
  | vldc (t : Tile) (x : TileWord)
  /-- VSTC (R130): Narrow lanes and store them. -/
  | vstc (t : Tile) (x : TileWord)
  /-- VQMX (R165): Quantise 16 blocks to an MX format with E8M0 scales. -/
  | vqmx (t : Tile) (x : TileWord)
  /-- VDQMX (R166): Decode 16 MX blocks to FP32. -/
  | vdqmx (t : Tile) (x : TileWord)
  /-- VCVTI (R130): Convert i32 lanes to FP32. -/
  | vcvti (t : Tile) (x : TileWord)
  /-- VCVTF (R130): Convert FP32 lanes to saturating i32. -/
  | vcvtf (t : Tile) (x : TileWord)
  /-- VRSQRT (R130): Correctly rounded reciprocal square root per lane. -/
  | vrsqrt (t : Tile) (x : TileWord)
  /-- VRCP (R130): Correctly rounded reciprocal per lane. -/
  | vrcp (t : Tile) (x : TileWord)
  /-- VNSCOEF (R130): Set the Newton-Schulz coefficients c0-c2. -/
  | vnscoef (t : Tile) (x : TileWord)
  /-- VNSCOMB (R130): Combine three vectors with the Newton-Schulz coefficients. -/
  | vnscomb (t : Tile) (x : TileWord)
  /-- VSUMSQ (R130): Fixed-tree sum of squared lanes. -/
  | vsumsq (t : Tile) (x : TileWord)
  /-- VPHILOX (R131): Make 128 Philox calls into a vector register. -/
  | vphilox (t : Tile) (x : TileWord)
  /-- VRUNI (R130): Convert draws to uniform values. -/
  | vruni (t : Tile) (x : TileWord)
  /-- VRSGN (R130): Convert draws to signs. -/
  | vrsgn (t : Tile) (x : TileWord)
  /-- SWAIT (R113): Hold a queue until a semaphore reaches a count, then subtract it. -/
  | swait (t : Tile) (x : TileWord)
  /-- SSIG (R113): After the queue's earlier instructions complete, add a count to a semaphore. -/
  | ssig (t : Tile) (x : TileWord)
  /-- SWAIT_RELEASE (R113): The semaphore reaches the count and the waiting queue resumes. -/
  | swaitRelease (t : Tile) (q : Fin 5)
  /-- MBPOST (R132): Post a word to a declared mailbox once earlier instructions complete and the mailbox is empty. -/
  | mbpost (t : Tile) (x : TileWord)
  /-- MBPOST_COMPLETE (R132): The mailbox becomes empty and the waiting MBPOST posts its word. -/
  | mbpostComplete (t : Tile)
  /-- LARM (R133): Arm a site slot, placing any segments already waiting. -/
  | larm (t : Tile) (x : TileWord)
  /-- LEMIT (R133): Emit a stream range as one segment to every other site of the peer set and copy it into the own slot. -/
  | lemit (t : Tile) (x : TileWord)
  /-- LEMIT_COMPLETE (R319): Every wale has taken its copy of the segment into the line path and LEMIT completes. -/
  | lemitComplete (t : Tile)
  /-- LAWAIT (R133): Wait until an armed site slot is complete. -/
  | lawait (t : Tile) (x : TileWord)
  /-- LAWAIT_COMPLETE (R111): The site slot becomes complete from verified segments and LAWAIT completes. -/
  | lawaitComplete (t : Tile)
  /-- FENCE_COMPLETE (R120): Every queue has emptied and the waiting FENCE completes. -/
  | fenceComplete (t : Tile)
  /-- DEADLOCK_TIMEOUT (R114): The tile has been unable to dispatch for 64 cycles with only SWAITs at queue heads and raises EX_DEADLOCK. -/
  | deadlockTimeout (t : Tile)
  /-- IMAGE_STAGE_WRITE (R147): A piece of an image or plan is written into the hoop's staging buffer at its offset. -/
  | imageStageWrite (rq : Requester) (h : Hoop) (piece : Bytes)
  /-- IMAGE_LOAD (R148): ImageCommand Load checks and verifies the staged image and makes it the slot's current image. -/
  | imageLoad (rq : Requester) (h : Hoop)
  /-- IMAGE_LOAD_PENDING (R158): ImageCommand LoadPending installs a pending image for activation at a step. -/
  | imageLoadPending (rq : Requester) (h : Hoop)
  /-- IMAGE_CANCEL_PENDING (R159): ImageCommand CancelPending removes the slot's pending image. -/
  | imageCancelPending (rq : Requester) (h : Hoop)
  /-- IMAGE_CLEAR (R146): ImageCommand Clear empties the slot. -/
  | imageClear (rq : Requester) (h : Hoop)
  /-- IMAGE_COMMAND_COMPLETE (R149): A running image command finishes and ImageCommandStatus takes its final status. -/
  | imageCommandComplete (h : Hoop)
  /-- PLAN_LOAD (R153): PlanCommand Load checks the staged plan and makes it the hoop's plan. -/
  | planLoad (rq : Requester) (h : Hoop)
  /-- PLAN_UNLOAD (R153): PlanCommand Unload removes the plan of a Configured hoop with no job bound. -/
  | planUnload (rq : Requester) (h : Hoop)
  /-- PLAN_COMMAND_COMPLETE (R153): A running plan command finishes and PlanCommandStatus takes its final status. -/
  | planCommandComplete (h : Hoop)
  /-- PENDING_IMAGE_ACTIVATION (R158): Once step k is reached and no earlier chunk remains, the pending image becomes current and the R84 exchange repeats. -/
  | pendingImageActivation (h : Hoop) (slot : Fin 16)
  /-- SCRUB_CODEWORD_READ (R185): The patrol scrub reads a codeword, writing back corrections or counting uncorrectable errors. -/
  | scrubCodewordRead (c : Channel) (word : Bytes)
  /-- SCRUB_PASS_COMPLETE (R185): A channel completes a scrub pass, its counts are judged under R186 and cleared. -/
  | scrubPassComplete (c : Channel)
  /-- SCRUB_PERIOD_EXPIRY (R185): A scrub pass has not completed by the end of ScrubPeriod and EV_SCRUB_LATE is raised. -/
  | scrubPeriodExpiry (c : Channel)
  /-- CHANNEL_MAP_OUT (R187): ChannelCommand MapOut starts map-out of a channel: record, adjust capacity and move top frames. -/
  | channelMapOut (rq : Requester) (c : Channel)
  /-- CHANNEL_RESTORE (R188): ChannelCommand Restore schedules the channel's return at the next power-on or cold reset. -/
  | channelRestore (rq : Requester) (c : Channel)
  /-- MIGRATION_COMPLETE (R187): The die finishes copying, switches to N − 1 channels, powers the channel down and resumes scrubbing. -/
  | migrationComplete (m : MDie) (failed : List Nat)
  /-- POOL_ALLOCATE (R198): An owner requests a buffer, which is granted from minima, free buffers or a new frame, or waits. -/
  | poolAllocate (h : Hoop) (k : Fin 4) (group : Option GroupNo) (bytes : Nat)
  /-- POOL_FREE (R195): A buffer is freed, checked for integrity, given to waiting requests or returned with its frame. -/
  | poolFree (h : Hoop) (handle : BitVec 64)
  /-- POOL_WAIT_GRANTED (R200): A waiting buffer request receives a freed buffer in the order of R200. -/
  | poolWaitGranted (h : Hoop) (cls : Fin 4)
  /-- POOL_MINIMUM_WRITE (R204): A write of an owner's pool minimum adds or returns backing frames, or is refused. -/
  | poolMinimumWrite (rq : Requester) (h : Hoop) (k cls : Fin 4) (value : BitVec 32)
  /-- MAC_RETRAIN (R208): MacCommand Retrain takes the MAC's ports down and trains them with the configured width and rate. -/
  | macRetrain (rq : Requester) (n : Mac)
  /-- LANE_LOCK_TIMEOUT (R208): In Auto mode a port not locked at 400 Gbit/s within 500 ms falls back to auto-negotiation at 200 Gbit/s. -/
  | laneLockTimeout (p : Port)
  /-- PORT_TRAINING_COMPLETE (R209): A port's training completes with lane order and polarity corrected and PortState Up or Degraded. -/
  | portTrainingComplete (p : Port) (lanes : List (Nat × Bool)) (reversed : Bool)
  /-- FABRIC_LANE_FAIL (R210): A fabric lane loses lock or exceeds the uncorrectable ratio, and its port degrades or goes down. -/
  | fabricLaneFail (l : FabLane)
  /-- FABRIC_LINK_HOLD_EXPIRY (R210): A port has stayed down for FabricLinkHold and its queue pairs enter Error. -/
  | fabricLinkHoldExpiry (p : Port)
  /-- FABRIC_FRAME_RECEIVED (R211): An Ethernet frame is received and dropped unless it meets the implemented subset. -/
  | fabricFrameReceived (p : Port) (frame : Bytes) (fcsOk icrcOk : Bool)
  /-- PFC_FRAME_RECEIVED (R211): A PFC frame pauses transmission on its enabled priorities. -/
  | pfcFrameReceived (p : Port) (enabled : BitVec 8) (quanta : List Nat)
  /-- NEIGHBOR_SOLICITATION_RECEIVED (R211): A Neighbor Solicitation for PortAddress is answered with an Advertisement. -/
  | neighborSolicitationReceived (p : Port) (target source : Bytes)
  /-- NEIGHBOR_ADVERTISEMENT_RECEIVED (R211): A Neighbor Advertisement resolves one of the module's next hops. -/
  | neighborAdvertisementReceived (p : Port) (target mac : Bytes)
  /-- ECHO_REQUEST_RECEIVED (R211): An ICMPv6 Echo Request is answered. -/
  | echoRequestReceived (p : Port) (source payload : Bytes)
  /-- RDMA_WRITE_RECEIVED (R220): An RDMA WRITE packet passes R213 and R218 and is placed, spilled, discarded or answered with RNR NAK. -/
  | rdmaWriteReceived (x : RdmaPacket)
  /-- RDMA_READ_REQUEST_RECEIVED (R212): A READ Request on a readable Buffer window is checked and answered with READ Responses. -/
  | rdmaReadRequestReceived (x : RdmaPacket)
  /-- UNSUPPORTED_OPCODE_RECEIVED (R212): A packet with an opcode outside the subset is answered with NAK Invalid Request and the queue pair enters Error. -/
  | unsupportedOpcodeReceived (x : RdmaPacket)
  /-- ACK_RECEIVED (R213): An ACK frees acknowledged requester packets and marks results acknowledged for R68. -/
  | ackReceived (x : PacketOrigin) (psn : BitVec 24)
  /-- NAK_RECEIVED (R213): A NAK makes the requester go back to the named PSN, or puts the queue pair in Error. -/
  | nakReceived (x : PacketOrigin) (psn : BitVec 24) (code : Fin 3)
  /-- RNR_NAK_RECEIVED (R213): An RNR NAK holds the requester's queue pair until the RNR timer. -/
  | rnrNakReceived (x : PacketOrigin) (psn : BitVec 24)
  /-- CNP_RECEIVED (R214): A CNP halves the queue pair's rate. -/
  | cnpReceived (x : PacketOrigin)
  /-- RATE_RECOVERY_TIMER (R214): After RateRecoveryPeriod without a CNP the queue pair's rate rises by 1/16 of the port rate. -/
  | rateRecoveryTimer (q : Qp)
  /-- ACK_COALESCE_TIMER (R213): 2 µs after the last unacknowledged packet the responder sends an ACK. -/
  | ackCoalesceTimer (q : Qp)
  /-- RDMA_LOCAL_ACK_TIMEOUT (R213): The requester's ACK timer expires and it resends from the PSN, or enters Error when retries are exhausted. -/
  | rdmaLocalAckTimeout (q : Qp)
  /-- RNR_TIMER_EXPIRY (R213): The RNR timer of a held requester queue pair expires and it resends. -/
  | rnrTimerExpiry (q : Qp)
  /-- QP_TO_INIT (R216): QpCommand ToInit binds the queue pair to its hoop and port. -/
  | qpToInit (rq : Requester) (q : Qp)
  /-- QP_TO_RTR (R216): QpCommand ToRtr makes the queue pair accept packets. -/
  | qpToRtr (rq : Requester) (q : Qp)
  /-- QP_TO_RTS (R216): QpCommand ToRts lets the queue pair send. -/
  | qpToRts (rq : Requester) (q : Qp)
  /-- QP_TO_RESET (R216): QpCommand ToReset clears PSNs and counters and ends operations that needed it. -/
  | qpToReset (rq : Requester) (q : Qp)
  /-- QP_TO_ERROR (R216): QpCommand ToError moves the queue pair to Error, discarding queued sends. -/
  | qpToError (rq : Requester) (q : Qp)
  /-- WINDOW_CREATE_LANDING (R217): WindowCommand Create Landing creates a landing window with a new generation and key. -/
  | windowCreateLanding (rq : Requester) (w : Window)
  /-- WINDOW_CREATE_BUFFER (R217): WindowCommand Create Buffer creates a window on a plan buffer. -/
  | windowCreateBuffer (rq : Requester) (w : Window)
  /-- WINDOW_DELETE (R217): WindowCommand Delete frees a window not named by an accepted operation. -/
  | windowDelete (rq : Requester) (w : Window)
  /-- WINDOW_CONFIG_WRITE (R217): A write of window configuration is accepted only while the window is Free. -/
  | windowConfigWrite (rq : Requester) (w : Window) (object : BitVec 8) (value : BitVec 64)
  /-- TARGET_WRITE (R221): A write of a remote target named by an accepted operation is refused with ST_BUSY. -/
  | targetWrite (rq : Requester) (h : Hoop) (n : Fin 1024) (object : Fin 4) (value : BitVec 64)
  /-- FRAME_TRANSMIT (R235): Each frame period every enabled lane starts a Sarsia frame with the wale's counter, overhead and slot contents. -/
  | frameTransmit
  /-- SARSIA_FRAME_RECEIVED (R240): A frame position from the FEC is checked for alignment, overhead, trace, label and defects, and its units delivered. -/
  | sarsiaFrameReceived (k : Lane) (mark : Bool) (line : Bytes) (flagged : List Nat)
  /-- LOS_DECLARE (R242): Input bad for 100 µs declares LOS, holding OOF and removing the member from the map. -/
  | losDeclare (k : Lane)
  /-- LOS_CLEAR (R242): Input good for 1 ms clears LOS. -/
  | losClear (k : Lane)
  /-- LOF_DECLARE (R242): OOF lasting 3 ms declares LOF. -/
  | lofDeclare (k : Lane)
  /-- LOF_CLEAR (R242): InFrame lasting 3 ms clears LOF. -/
  | lofClear (k : Lane)
  /-- SKEW_DECLARE (R246): A member's unit has not arrived within LineSkewLimit of the frame's first unit and SKEW is declared. -/
  | skewDeclare (k : Lane)
  /-- SKEW_CLEAR (R246): A member's skew has stayed below the limit less 100 µs for WaleRejoinHold and SKEW clears. -/
  | skewClear (k : Lane)
  /-- MEMBER_REJOIN (R247): A member free of defects and reports for WaleRejoinHold enters the transmit map. -/
  | memberRejoin (k : Lane)
  /-- STAKE_RESTORE (R248): A member in the map for WaleRejoinHold takes the free stake plan and the survivor clears Protection. -/
  | stakeRestore (k : Lane)
  /-- WALE_CREATE (R252): WaleCommand Create forms a wale from its configured lanes. -/
  | waleCreate (rq : Requester) (w : Wale)
  /-- WALE_ADD_LANE (R252): WaleCommand AddLane adds a lane and its repeat share to the wale. -/
  | waleAddLane (rq : Requester) (w : Wale)
  /-- WALE_REMOVE_LANE (R252): WaleCommand RemoveLane takes a lane out of the wale and the transmit map. -/
  | waleRemoveLane (rq : Requester) (w : Wale)
  /-- WALE_DELETE (R252): WaleCommand Delete removes the wale and frees its shares and window. -/
  | waleDelete (rq : Requester) (w : Wale)
  /-- REPEAT_SHARE_RETURN (R252): A removed lane's repeat share is returned once outstanding bytes fit the remaining shares. -/
  | repeatShareReturn (w : Wale) (k : Lane)
  /-- FEC_LOCK (R254): The FEC achieves frame lock and starts marking Sarsia frame starts. -/
  | fecLock (k : Lane)
  /-- FEC_LOCK_LOSS (R254): The FEC loses frame lock and stops marking frame starts. -/
  | fecLockLoss (k : Lane)
  /-- FEC_BER_EVALUATION (R255): Once a second the pre-FEC BER is computed and EV_FEC_DEGRADED raised after 10 seconds above threshold. -/
  | fecBerEvaluation (k : Lane) (correctedBits uncorrectable ber : Nat)
  /-- SEGMENT_RECEIVED (R260): A delineated segment is checked, decrypted and accepted, discarded or requested, and delivered. -/
  | segmentReceived (w : Wale) (segment : RxSegment)
  /-- SACK_RECEIVED (R264): A SACK frees covered segments, samples the round trip and makes segments eligible for resend. -/
  | sackReceived (w : Wale) (payload : Bytes)
  /-- PERIODIC_SACK (R262): Every RepeatSackInterval the receiver sends a SACK. -/
  | periodicSack (w : Wale)
  /-- REQUESTED_SACK (R262): Within 2 µs of the first entry on an empty Request list the receiver sends an extra SACK. -/
  | requestedSack (w : Wale)
  /-- RESEND_GUARD_SCAN (R264): Each microsecond outstanding segments past their guard become eligible for resend. -/
  | resendGuardScan (w : Wale)
  /-- REPEAT_SILENCE_EXPIRY (R266): No valid SACK for RepeatSilence takes the transmit direction to Held. -/
  | repeatSilenceExpiry (w : Wale)
  /-- REPEAT_DARK_HOLD_EXPIRY (R266): The hold timer reaches RepeatDarkHold and the direction becomes Lost with EV_PEER_LOST. -/
  | repeatDarkHoldExpiry (w : Wale)
  /-- FIXED_VC_SELECT (R313): At the cipher entry the next fixed-VC segment is chosen, numbered, encrypted and placed in the earliest slot. -/
  | fixedVcSelect (w : Wale)
  /-- BULK_STREAM_SELECT (R315): When the concatenated stream has room a VC2 or VC3 segment is chosen by deficit round robin and numbered. -/
  | bulkStreamSelect (w : Wale)
  /-- HELLO_RECEIVED (R276): A peer's Hello is checked and answered with Reply. -/
  | helloReceived (w : Wale) (payload : Bytes)
  /-- REPLY_RECEIVED (R276): A peer's Reply is verified, the keys derived and Finished sent under epoch 1. -/
  | replyReceived (w : Wale) (payload : Bytes)
  /-- FINISHED_RECEIVED (R274): The peer's Finished verifies and the module session becomes Established. -/
  | finishedReceived (w : Wale) (payload : Bytes)
  /-- SESSION_RETRY_TIMER (R276): One second after a failed attempt establishment starts again. -/
  | sessionRetryTimer (w : Wale)
  /-- SESSION_OPEN_RECEIVED (R277): A SessionOpen is answered with SessionAccept, a transit accept or SessionRefuse. -/
  | sessionOpenReceived (w : Wale) (session : SessionNo) (mode : Bool) (payload : Bytes)
  /-- SESSION_ACCEPT_RECEIVED (R277): A SessionAccept binds the hoop session and derives its keys. -/
  | sessionAcceptReceived (w : Wale) (session : SessionNo) (payload : Bytes)
  /-- SESSION_REFUSE_RECEIVED (R277): A SessionRefuse ends the opening session with its status. -/
  | sessionRefuseReceived (w : Wale) (session : SessionNo) (payload : Bytes)
  /-- SESSION_CLOSE_RECEIVED (R277): A SessionClose closes the hoop session and zeroises its keys. -/
  | sessionCloseReceived (w : Wale) (session : SessionNo) (payload : Bytes)
  /-- LINE_SESSION_OPEN (R277): LineSessionCommand Open sends SessionOpen for a hoop on the lowest free session number. -/
  | lineSessionOpen (rq : Requester) (w : Wale)
  /-- LINE_SESSION_CLOSE (R277): LineSessionCommand Close closes the named session. -/
  | lineSessionClose (rq : Requester) (w : Wale)
  /-- LINE_REKEY_TX (R278): LineSessionCommand RekeyTx makes a rekey of the session direction due. -/
  | lineRekeyTx (rq : Requester) (w : Wale)
  /-- REKEY_INTERVAL_EXPIRY (R278): LineRekeyInterval passes since the key was installed and a rekey becomes due. -/
  | rekeyIntervalExpiry (w : Wale) (session : SessionNo)
  /-- REKEY_OFFER_RECEIVED (R280): The receiver encapsulates, installs the next epoch's key and sends RekeyAccept. -/
  | rekeyOfferReceived (w : Wale) (session : SessionNo) (epoch : BitVec 8) (payload : Bytes)
  /-- REKEY_ACCEPT_RECEIVED (R279): The transmitter derives the next key and sends new segments under it. -/
  | rekeyAcceptReceived (w : Wale) (session : SessionNo) (epoch : BitVec 8) (payload : Bytes)
  /-- REKEY_RETIRE_RECEIVED (R280): The receiver zeroises the retired epoch's key. -/
  | rekeyRetireReceived (w : Wale) (session : SessionNo) (epoch : BitVec 8) (payload : Bytes)
  /-- LINE_HOOP_CLEAR_ENABLE_A_WRITE (R285): A signed write of clear enable A for a hoop, allowed only while Configured or Stopped. -/
  | lineHoopClearEnableAWrite (rq : Requester) (h : Hoop) (value : BitVec 8) (token : Token)
  /-- LINE_HOOP_CLEAR_ENABLE_B_WRITE (R285): A write of clear enable B sets it for the coded value and clears it otherwise. -/
  | lineHoopClearEnableBWrite (rq : Requester) (h : Hoop) (value : BitVec 32)
  /-- DUAL_RAIL_DISAGREEMENT (R450): The enable A rails disagree for 2 µs, clearing enable B on the die and raising EV_CIPHER_PATH_FAULT. -/
  | dualRailDisagreement (l : Fin 2)
  /-- PAIR_SETTING_WRITE (R294): A PairSetting write places the pair's lanes on their ends, or is refused. -/
  | pairSettingWrite (rq : Requester) (k : Pair) (value : BitVec 8)
  /-- LINE_LANE_MODE_WRITE (R291): A LineLaneMode write changes the lane's mode when it is in no wale. -/
  | lineLaneModeWrite (rq : Requester) (k : Lane) (value : BitVec 8)
  /-- LINE_LANE_RESOLUTION_WRITE (R292): A resolution write takes effect at the next FEC multiframe boundary, or is refused below the mode's lowest. -/
  | lineLaneResolutionWrite (rq : Requester) (k : Lane) (value : BitVec 8)
  /-- LINE_LANE_FREQUENCY_WRITE (R295): A frequency write starts tuning, blocking the laser output, when the lane is in no wale. -/
  | lineLaneFrequencyWrite (rq : Requester) (k : Lane) (value : BitVec 32)
  /-- LASER_TUNING_COMPLETE (R295): The laser locks at the new frequency and its output is unblocked. -/
  | laserTuningComplete (k : Lane)
  /-- LASER_COMMISSION (R298): LaserCommand Commission records the serving laser's mean bias and back-facet power over 1 s. -/
  | laserCommission (rq : Requester) (n : Laser)
  /-- LASER_RETIRE (R301): LaserCommand Retire takes the laser out as at Evict. -/
  | laserRetire (rq : Requester) (n : Laser)
  /-- ENGINE_COMMISSION (R298): EngineCommand Commission records a board engine laser's reference values. -/
  | engineCommission (rq : Requester) (k : Engine)
  /-- LASER_COMMISSION_COMPLETE (R298): The 1 s commissioning measurement ends and the reference values are recorded. -/
  | laserCommissionComplete (x : LaserUnit) (bias : BitVec 32) (power : Int)
  /-- LASER_HEALTH_SAMPLE (R299): Each millisecond every laser is sampled and the Warn, Swap and Evict levels evaluated. -/
  | laserHealthSample (lasers engines : List (Nat × Int))
  /-- SPARE_LOCKED (R300): The spare locks and the switch moves the lane's carrier and LO to it at a frame start. -/
  | spareLocked (n : Laser)
  /-- SPARE_LOCK_TIMEOUT (R301): A spare fails to lock within 250 ms, is retired, and the laser returns to Swap pending. -/
  | spareLockTimeout (n : Laser)
  /-- IP_SELECT (R304): IpCommand Select moves the lane's fibre selectors to the configured ports. -/
  | ipSelect (rq : Requester) (i : Ip)
  /-- IP_CLEAR_TRIP (R305): IpCommand ClearTrip ends a comparator latch when the tap reads below +6.0 dBm. -/
  | ipClearTrip (rq : Requester) (i : Ip) (tap : Int)
  /-- APR_ENTRY (R305): LOS lasting OpticsAprDelay reduces the lane's launch and raises EV_APR_ACTIVE. -/
  | aprEntry (k : Lane)
  /-- EYE_SAFETY_TRIP (R305): The analogue comparator reads above +8.0 dBm for 10 µs and latches the lane's transmit blocked. -/
  | eyeSafetyTrip (k : Lane)
  /-- CONNECTOR_REMOVED (R305): A port loses connector presence and goes dark within 1 ms. -/
  | connectorRemoved (p : FibrePort)
  /-- CONNECTOR_INSERTED (R304): A connector appears at a port and its presence bit is set. -/
  | connectorInserted (p : FibrePort)
  /-- QUEUE_SAMPLE (R320): Every 10 µs every transmit queue's depth and head delay are added to histograms. -/
  | queueSample
  /-- SAMPLE_CLEAR (R320): SchedSampleCommand Clear zeroes every histogram. -/
  | sampleClear (rq : Requester)
  /-- SAMPLE_FREEZE (R320): SchedSampleCommand Freeze stops every histogram. -/
  | sampleFreeze (rq : Requester)
  /-- SAMPLE_RUN (R320): SchedSampleCommand Run restarts the histograms. -/
  | sampleRun (rq : Requester)
  /-- POLICER_WRITE (R317): Enabling the meter or writing its parameters is checked and refills the token buckets. -/
  | policerWrite (rq : Requester) (h : Hoop) (object : BitVec 8) (value : BitVec 64)
  /-- FABRIC_ADDRESS_WRITE (R324): A FabricAddress write is accepted only while every hoop is Empty. -/
  | fabricAddressWrite (rq : Requester) (value : FabAddr)
  /-- AUTO_BOND (R326): A lane that has qualified for WaleRejoinHold is bonded into a wale without commands. -/
  | autoBond (k : Lane)
  /-- FABRIC_HELLO_RECEIVED (R327): A peer's fabric Hello is recorded. -/
  | fabricHelloReceived (w : Wale) (payload : Bytes)
  /-- LINK_STATE_RECEIVED (R327): A newer LinkState replaces the old one, is forwarded and the routes recomputed. -/
  | linkStateReceived (w : Wale) (payload : Bytes)
  /-- LINK_STATE_ORIGINATE (R327): The module originates its LinkState on a change of usable wales and once per second. -/
  | linkStateOriginate
  /-- LINK_STATE_EXPIRY (R327): A LinkState not refreshed for 3 s expires. -/
  | linkStateExpiry (origin : BitVec 64)
  /-- HEARTBEAT_SEND (R329): Every 100 µs a heartbeat goes out on every wale with session 0 Established. -/
  | heartbeatSend
  /-- HEARTBEAT_RECEIVED (R329): A valid heartbeat ends suspicion of its sender and reports its hoop states. -/
  | heartbeatReceived (w : Wale) (payload : Bytes)
  /-- PEER_SUSPECT (R330): No heartbeat from a neighbour for HeartbeatMisses intervals makes it suspected. -/
  | peerSuspect (peer : FabAddr)
  /-- ADDRESS_CONFLICT_END (R325): One of two conflicting announcements stops for 3 s and the conflict ends. -/
  | addressConflictEnd (address : FabAddr) (node : BitVec 64)
  /-- FENCE_RECORD_WRITE (R332): A signed FenceRecord with a higher epoch fences modules, breaks groups and settles a Split. -/
  | fenceRecordWrite (rq : Requester) (h : Hoop) (record : Bytes) (token : Token)
  /-- FENCE_NOTICE_RECEIVED (R333): A verified FenceNotice naming this module faults its hoop with EV_FENCED. -/
  | fenceNoticeReceived (w : Wale) (record : Bytes) (token : Token)
  /-- HEALTH_SCORE_UPDATE (R335): Each second the module recomputes its HealthScore. -/
  | healthScoreUpdate
  /-- EXPEL_PROPOSAL_RECEIVED (R336): A proposal is recorded per site and a competing one suppressed. -/
  | expelProposalReceived (w : Wale) (payload : Bytes)
  /-- SHADOW_START (R337): ShadowCommand Start puts the shadow in Loading. -/
  | shadowStart (rq : Requester) (h : Hoop)
  /-- SHADOW_STOP (R350): ShadowCommand Stop ends shadow mode. -/
  | shadowStop (rq : Requester) (h : Hoop)
  /-- SHADOW_DIGEST_RECEIVED (R338): The primary compares the shadow's chunk digest with its own and counts matches or mismatches. -/
  | shadowDigestReceived (w : Wale) (payload : Bytes)
  /-- PARTITION_HOLD_EXPIRY (R340): A site's members suspected for PartitionHold are cut off and the side's leader sends SideDeclare. -/
  | partitionHoldExpiry (h : Hoop) (site : Fin 16)
  /-- SIDE_DECLARE_RECEIVED (R341): A member restarts or rolls back to BaseStep as autonomous, or enters Split. -/
  | sideDeclareReceived (w : Wale) (h : Hoop) (payload : Bytes)
  /-- MERGE_HOLD_EXPIRY (R343): Two sides mutually reachable for PartitionHold and the lower leader sends Merge. -/
  | mergeHoldExpiry (h : Hoop)
  /-- MERGE_RECEIVED (R343): The hoop begins reconciliation or both sides enter Split. -/
  | mergeReceived (w : Wale) (h : Hoop) (payload : Bytes)
  /-- RECONCILIATION_COMPLETE (R343): Replay of the autonomous steps finishes and the hoop becomes Joined with EV_RECONCILED. -/
  | reconciliationComplete (h : Hoop)
  /-- TB_SET_TIME (R353): TbSetTime steps a base to the written value from the next tick. -/
  | tbSetTime (rq : Requester) (b : Base) (value : BitVec 80)
  /-- TB_INCREMENT_WRITE (R351): A TbIncrement write changes the base's rate from the next tick. -/
  | tbIncrementWrite (rq : Requester) (b : Base) (value : BitVec 64)
  /-- PTP_ANNOUNCE_RECEIVED (R354): Announce messages drive the BMCA and selection of a master. -/
  | ptpAnnounceReceived (port : Fin 2) (domain : BitVec 8) (master grandmaster : BitVec 64) (dataset : Nat) (masterTime : BitVec 80)
  /-- PTP_SYNC_RECEIVED (R355): A completed Sync exchange updates the servo and the base's state. -/
  | ptpSyncReceived (port : Fin 2) (domain : BitVec 8) (master : BitVec 64) (t1 t2 : Int)
  /-- PTP_DELAY_RESPONSE_RECEIVED (R354): A Delay_Resp completes the end-to-end delay measurement. -/
  | ptpDelayResponseReceived (port : Fin 2) (domain : BitVec 8) (master : BitVec 64) (t3 t4 : Int)
  /-- TIME_SOURCE_TIMEOUT (R355): No valid Sync for TimeSourceTimeout takes a Locked base to Holdover. -/
  | timeSourceTimeout (d : Fin 2)
  /-- TIME_REVERT_HOLD_EXPIRY (R356): The preferred source has been Locked for TimeRevertHold and protected time switches back to it. -/
  | timeRevertHoldExpiry
  /-- TIME_SYNC_SEND (R358): Once per millisecond a TimeSync message goes out on every established wale. -/
  | timeSyncSend
  /-- TIME_SYNC_RECEIVED (R359): A TimeSync from the parent updates the TB3 offset, stepping or steering it. -/
  | timeSyncReceived (w : Wale) (payload : Bytes)
  /-- PPS_IN_EDGE (R360): A rising edge at 1PPS_IN latches TB0-TB3 and P. -/
  | ppsInEdge
  /-- PPS_OUT_EDGE (R360): The selected base reaches a whole second and 1PPS_OUT rises. -/
  | ppsOutEdge
  /-- STEP_BOUNDARY (R361): A hoop's trigger base reaches a boundary and a doorbell is written to StepTriggerTarget. -/
  | stepBoundary (h : Hoop)
  /-- XTAL_READY (R367): XTAL qualifies and the ROM moves powered domains to their DomainSource. -/
  | xtalReady
  /-- SOURCE_READY (R366): A clock source completes its qualifying time and becomes ready. -/
  | sourceReady (c : Source) (frequency : BitVec 32)
  /-- CLOCK_FAIL (R372): A monitor declares a source or domain failed and the domain's safe state is applied. -/
  | clockFail (x : ClockUnit)
  /-- DOMAIN_SOURCE_WRITE (R371): A DomainSource write switches the domain's root to the source, or is refused. -/
  | domainSourceWrite (rq : Requester) (d : Domain) (value : BitVec 8)
  /-- DOMAIN_SWITCH_COMPLETE (R371): The root PLL relocks on the new source and the domain returns to Running. -/
  | domainSwitchComplete (d : Domain)
  /-- DOMAIN_RESTART (R375): DomainCommand Restart relocks a Failed domain and resets its blocks. -/
  | domainRestart (rq : Requester) (d : Domain)
  /-- INTOSC_TRIM_MEASURE (R369): Once a second INTOSC is measured against the reference and the trim code set. -/
  | intoscTrimMeasure (cycles : Nat) (interrupted : Bool)
  /-- CLKOUT_WRITE (R378): A CLKOUT setting takes effect at the next falling edge of the output, or is refused. -/
  | clkoutWrite (rq : Requester) (object : BitVec 8) (value : BitVec 32)
  /-- AUTO_GATE_IDLE (R376): A small block idle for 64 cycles stops its clock. -/
  | autoGateIdle (d : Domain) (block : BitVec 16)
  /-- BLOCK_ENABLE_COMPLETE (R377): An enabled large block's clock has run 20 µs and the block is no longer gated. -/
  | blockEnableComplete (b : LargeBlock)
  /-- DOMAIN_VOTE_HOST_WRITE (R385): A host vote changes the domain's target level or state. -/
  | domainVoteHostWrite (rq : Requester) (d : Domain) (value : BitVec 8)
  /-- TILE_IDLE_HOLD_EXPIRY (R386): A tile with no chunk bound for TileIdleHold gets the hoop's idle-state vote. -/
  | tileIdleHoldExpiry (t : Tile)
  /-- QUIESCE_COMPLETE (R389): A quiescing domain's blocks are idle and its clocks stop. -/
  | quiesceComplete (d : Domain)
  /-- RETENTION_SAVE_COMPLETE (R389): The S2 retention save completes. -/
  | retentionSaveComplete (d : Domain)
  /-- POWER_SWITCH_OPEN (R389): The domain's power switch opens and it enters S2 or S3. -/
  | powerSwitchOpen (d : Domain)
  /-- WAKE_EVENT (R390): A wake event aborts a sleep entry or starts the domain's exit from sleep. -/
  | wakeEvent (d : Domain)
  /-- WAKE_COMPLETE (R389): The restore completes and the domain is Running. -/
  | wakeComplete (d : Domain)
  /-- POWER_GOVERNOR_STEP (R388): Each millisecond the governor updates module and hoop ceilings and die power budgets. -/
  | powerGovernorStep (input standby : Nat) (tilePower : List Nat)
  /-- DIE_SENSOR_SAMPLE (R392): Every 10 µs die sensors are sampled, setting thermal votes, ceilings and warnings. -/
  | dieSensorSample (n : Die) (readings : List Int)
  /-- DICT_READ (R403): A Read request returns part of an object's value, latching it at offset 0. -/
  | dictRead (rq : Requester) (index : BitVec 16) (sub : BitVec 8) (offset length : Nat)
  /-- DICT_WRITE (R404): A Write request to an object with no row of its own is checked and takes effect whole. -/
  | dictWrite (rq : Requester) (index : BitVec 16) (sub : BitVec 8) (offset : Nat) (data : Bytes)
  /-- DICT_DESCRIBE (R403): A Describe request returns the object's descriptor. -/
  | dictDescribe (rq : Requester) (index : BitVec 16) (sub : BitVec 8)
  /-- DICT_READ_SNAPSHOT (R419): A ReadSnapshot request returns the latched snapshot value. -/
  | dictReadSnapshot (rq : Requester) (index : BitVec 16) (sub : BitVec 8) (offset length : Nat)
  /-- SIG_TOKEN_WRITE (R402): A SIG object with no row of its own is written with a verified token and SigCounter advances. -/
  | sigTokenWrite (rq : Requester) (index : BitVec 16) (sub : BitVec 8) (value : Bytes) (token : Token)
  /-- PDP_HELLO_RECEIVED (R412): A PdpHello is checked against PdpKeyTable and answered with PdpReply. -/
  | pdpHelloReceived (publicKey encapKey nonce : Bytes)
  /-- PDP_CONFIRM_RECEIVED (R412): A PdpConfirm verifies and the PDP session opens. -/
  | pdpConfirmReceived (session : PdpSession) (signature : Bytes)
  /-- PDP_REQUEST_RECEIVED (R413): A PDP request is reassembled and executed, or answered from the kept copy if repeated. -/
  | pdpRequestReceived (session : PdpSession) (seq : Nat) (fragment count : Nat) (payload : Bytes)
  /-- PDP_SESSION_IDLE_TIMEOUT (R413): A PDP session idle for 60 s is closed. -/
  | pdpSessionIdleTimeout (session : PdpSession)
  /-- PEER_READ_RECEIVED (R415): A PeerRead is checked for authority and answered with PeerResponse. -/
  | peerReadReceived (wale : Wale) (index : BitVec 16) (sub command : BitVec 8) (offset length : Nat) (tag : BitVec 32)
  /-- PEER_WRITE_RECEIVED (R415): A PeerWrite with a valid grant is executed and answered. -/
  | peerWriteReceived (wale : Wale) (index : BitVec 16) (sub : BitVec 8) (offset : Nat) (value : Bytes) (tag : BitVec 32)
  /-- PEER_RESPONSE_RECEIVED (R414): A PeerResponse answers an earlier peer request. -/
  | peerResponseReceived (wale : Wale) (tag : BitVec 32) (status flags : BitVec 16) (total : Nat) (data : Bytes)
  /-- MAILBOX_POST_REGISTER_WRITE (R409): A host write to a post register stores the word, or sets PostDropped if full. -/
  | mailboxPostRegisterWrite (n : Mailbox) (word : BitVec 32)
  /-- MAILBOX_POST (R409): A MailboxPost write stores the word, or is refused with ST_BUSY if full. -/
  | mailboxPost (rq : Requester) (n : Mailbox) (word : BitVec 32)
  /-- MAILBOX_TAKE_REGISTER_READ (R410): A host read of its take register takes the word and clears the flags. -/
  | mailboxTakeRegisterRead (n : Mailbox)
  /-- MAILBOX_TAKE (R410): A read of MailboxTake takes the word for a non-host receiver. -/
  | mailboxTake (rq : Requester) (n : Mailbox)
  /-- MAILBOX_TIMEOUT (R411): A word not taken within MailboxTimeout sets SenderTimeout and raises EV_MAILBOX_TIMEOUT. -/
  | mailboxTimeout (n : Mailbox)
  /-- SNAP_IN_EDGE (R418): A rising edge at SNAP_IN triggers a snapshot if taken and pulses SNAP_OUT. -/
  | snapInEdge
  /-- SNAPSHOT_TRIGGER (R418): SnapshotCommand Trigger starts a snapshot. -/
  | snapshotTrigger (rq : Requester)
  /-- SNAPSHOT_ARM (R417): SnapshotCommand Arm arms a snapshot at SnapshotArmTime. -/
  | snapshotArm (rq : Requester)
  /-- SNAPSHOT_DISARM (R417): SnapshotCommand Disarm clears the arm. -/
  | snapshotDisarm (rq : Requester)
  /-- SNAPSHOT_UNLOCK (R418): SnapshotCommand Unlock releases the previous snapshot. -/
  | snapshotUnlock (rq : Requester)
  /-- SNAPSHOT_ARM_FIRE (R417): The armed base reaches SnapshotArmTime and a snapshot is triggered. -/
  | snapshotArmFire
  /-- PERSIST_COMMIT_DELAY_EXPIRY (R422): PersistCommitDelay after an uncommitted P or H write, a commit starts. -/
  | persistCommitDelayExpiry
  /-- PERSIST_COMMIT (R422): PersistCommand Commit starts a commit at once. -/
  | persistCommit (rq : Requester)
  /-- PERSIST_COMMIT_COMPLETE (R420): The commit word is written, or the slot write fails and moves on, and vector 3 is raised. -/
  | persistCommitComplete (readBackOk : Bool)
  /-- PCIE_FLR (R408): A function-level reset clears request slots and the MSI-X table. -/
  | pcieFlr
  /-- PERST_L_ASSERT (R482): PERST_L takes the PCIe link down and resets the function as an FLR does. -/
  | perstLAssert
  /-- OWNERSHIP_TRANSFER (R432): A verified ownership record replaces the owner key, resets key tables and commits. -/
  | ownershipTransfer (rq : Requester) (record : Bytes)
  /-- FIRMWARE_STAGE_WRITE (R429): A piece of a firmware image is staged. -/
  | firmwareStageWrite (rq : Requester) (offset : BitVec 32) (data : Bytes)
  /-- FIRMWARE_INSTALL (R430): FirmwareCommand Install verifies the staged image and writes it to the inactive slot. -/
  | firmwareInstall (rq : Requester)
  /-- FIRMWARE_INSTALL_COMPLETE (R430): The written image reads back and FirmwareActiveSlot changes. -/
  | firmwareInstallComplete (readBackOk : Bool)
  /-- ROLLBACK_FLOOR_WRITE (R435): A signed write raises RollbackFloor within the running SecurityVersion. -/
  | rollbackFloorWrite (rq : Requester) (value : BitVec 32) (token : Token)
  /-- ATTEST_NONCE_WRITE (R437): A write of AttestNonce starts a module-scope quote. -/
  | attestNonceWrite (rq : Requester) (nonce : Bytes)
  /-- HOOP_ATTEST_NONCE_WRITE (R437): A write of HoopAttestNonce starts a hoop-scope quote. -/
  | hoopAttestNonceWrite (rq : Requester) (h : Hoop) (nonce : Bytes)
  /-- QUOTE_COMPLETE (R436): The quote is signed and becomes readable. -/
  | quoteComplete (scope : Option Hoop)
  /-- METER_LINK_FRAME (R438): A meter link frame adds its increments, or sets LinkFault on a CRC or count error. -/
  | meterLinkFrame (link : Fin 13) (crcOk : Bool) (count : Nat) (increments : List MeterIncrement)
  /-- METER_ADC_SAMPLE (R438): Every 10 µs the meter ADCs sample the input and rail sensors. -/
  | meterAdcSample (mainInput standbyInput : Nat) (rails : List Nat)
  /-- METER_ENERGY_SPLIT (R440): Every millisecond rail energy is split among hoops by mesh-busy cycles. -/
  | meterEnergySplit
  /-- METER_RECORD (R441): Every 60 s the E die signs and writes a chained meter record. -/
  | meterRecord
  /-- METER_POWER_FAIL_RECORD (R442): Both inputs below undervoltage and the E die writes a power-fail record. -/
  | meterPowerFailRecord
  /-- METER_STAGE_WRITE (R443): A piece of meter firmware is staged. -/
  | meterStageWrite (rq : Requester) (offset : BitVec 32) (data : Bytes)
  /-- METER_INSTALL (R443): MeterCommand Install verifies the image, raises the seal counter and restarts the meter core. -/
  | meterInstall (rq : Requester)
  /-- DIE_LINK_FLIT_ERROR (R451): A flit fails its CRC and is resent, the link failing after 16 consecutive failures. -/
  | dieLinkFlitError (sender receiver : Die)
  /-- EVENT_ACK (R463): EventAck acknowledges entries up to a Sequence, releasing ALERT_L. -/
  | eventAck (rq : Requester) (seq : BitVec 32)
  /-- INPUT_FAULT (R454): A reversed or out-of-range input is detected and reported. -/
  | inputFault (input : PowerInput) (kind : InputFault)
  /-- POWER_ON (R464): Both inputs applied start the power-up sequence at stage 1. -/
  | powerOn (main standby : Bool)
  /-- STARTUP_STAGE_COMPLETE (R464): A power-up stage completes and the next begins, ending at Ready. -/
  | startupStageComplete (ok : Bool) (failedChannels : List Channel)
  /-- REGULATOR_POWER_GOOD (R465): A regulator reports power good. -/
  | regulatorPowerGood (n : BitVec 8)
  /-- REGULATOR_TIMEOUT (R465): A regulator misses its 10 ms limit, is retried, and fails after the fourth miss. -/
  | regulatorTimeout (n : BitVec 8)
  /-- XTAL_READY_TIMEOUT (R467): XTAL is not ready 50 ms after power good and the module enters Limp. -/
  | xtalReadyTimeout
  /-- MAIN_INPUT_APPEAR (R466): A valid main input appears and start-up continues from stage 7. -/
  | mainInputAppear
  /-- MAIN_INPUT_LOSS (R466): The main input is lost and the module goes to Standby. -/
  | mainInputLoss
  /-- RESET_L_ASSERT (R471): RESET_L held low for 1 µs causes a cold reset. -/
  | resetLAssert
  /-- RESET_COLD (R471): ResetCommand Cold resets every die except the E die. -/
  | resetCold (rq : Requester)
  /-- RESET_WARM (R472): ResetCommand Warm resets every die except the E die, keeping memory and time. -/
  | resetWarm (rq : Requester)
  /-- RESET_HUB (R472): ResetCommand Hub resets the hub die blocks. -/
  | resetHub (rq : Requester)
  /-- RESET_DIE (R472): ResetCommand Die resets one die with the effects of R472. -/
  | resetDie (rq : Requester)
  /-- RESET_HOOP (R471): ResetCommand Hoop resets one hoop as Release does. -/
  | resetHoop (rq : Requester)
  /-- LEVEL_CHANGE_COMPLETE (R383): A domain's performance-level change finishes: the supply has settled and the divider or relocked PLL gives the new clock, including the clock restored after Excluded before binding resumes. -/
  | levelChangeComplete (d : Domain)
  /-- SOURCE_NOT_READY (R366): A clock source loses its ready condition, for example REFIN leaving its ppm window, and becomes not ready at once without a monitor failure. -/
  | sourceNotReady (c : Source)
  /-- PCIE_POWER_STATE_WRITE (R408): The host moves the PCIe function into or out of D3hot, switching vectors to PME and sending pending vectors on return. -/
  | pciePowerStateWrite (d3hot : Bool)
  /-- MGT_LINK_STATE_CHANGE (R454): A management Ethernet PHY link goes down or comes up, changing MgtLinkState. -/
  | mgtLinkStateChange (port : Fin 2) (up : Bool)
  /-- METER_RESTART_COMPLETE (R443): The E die core finishes restarting on newly installed meter firmware and MeterState returns from Installing to Counting. -/
  | meterRestartComplete
  /-- RESET_COMPLETE (R476): A warm, hub-only, per-die or per-hoop reset finishes: the module returns to Ready, hub firmware runs, the die runs again or the hoop reaches Empty. -/
  | resetComplete
  /-- PFC_PAUSE_EXPIRY (R211): The pause time of a received PFC frame runs out and transmission on that priority resumes. -/
  | pfcPauseExpiry (p : Port) (priority : Fin 8)
  /-- STANDBY_INPUT_CHANGE (R480): The 12 V standby input is declared present or absent while the main input state is unchanged, updating InputState and the standby regulators' source. -/
  | standbyInputChange (present : Bool)
deriving DecidableEq, Repr

end Sys2Proof
end

