-- ==== Sys2Proof/Decode.lean ====
section
/-! DEFINITION. The table of commands gives none of its rows any bits, so no word spells a command by it. The instructions of a weave
image do have words (R115, R119): the command that the tile's sequencer runs for a word. -/

namespace Sys2Proof

/-- The command that a word spells by the table's bits: none, since no row of the table has bits. -/
def decodeTableWord (_nbits _w : Nat) : Option Instr := none

/-! ### Instruction words of the tile (R115, R119) -/

/-- The word of an instruction with an opcode (R115). -/
def tileWord (op : Nat) (w : TileWord) : Nat :=
  op * 2 ^ 56 + w.d.toNat * 2 ^ 50 + w.a.toNat * 2 ^ 44 + w.b.toNat * 2 ^ 38 + w.c.toNat * 2 ^ 32 + w.imm.toNat

/-- OP of a word (R115). -/
def wordOpcode (n : Nat) : Nat := n / 2 ^ 56

/-- D, A, B, C and IMM of a word (R115). -/
def wordFields (n : Nat) : TileWord :=
  { d := BitVec.ofNat 6 (n / 2 ^ 50), a := BitVec.ofNat 6 (n / 2 ^ 44), b := BitVec.ofNat 6 (n / 2 ^ 38), c := BitVec.ofNat 6 (n / 2 ^ 32),
    imm := BitVec.ofNat 32 n }

/-- Opcodes and commands: control (R119). -/
def controlOpcodes : List (Nat × (Tile → TileWord → Instr)) :=
  [(0x00, .nop), (0x01, .jmp), (0x02, .beqz), (0x03, .bnez), (0x04, .jal), (0x05, .jr), (0x06, .loopS), (0x07, .fence),
   (0x08, .cdone), (0x09, .trap)]

/-- Opcodes and commands: scalar, address, context (R119). -/
def scalarOpcodes : List (Nat × (Tile → TileWord → Instr)) :=
  [(0x10, .addS), (0x11, .subS), (0x12, .mulS), (0x13, .mulhu), (0x14, .andS), (0x15, .orS), (0x16, .xorS),
   (0x17, .shl), (0x18, .shr), (0x19, .sra), (0x1A, .sltu), (0x1B, .slt), (0x1C, .seq), (0x1D, .lih), (0x20, .amov),
   (0x21, .aadd), (0x22, .smova), (0x23, .sld), (0x24, .sst), (0x25, .ctx), (0x26, .fadd), (0x27, .fmul),
   (0x28, .frsq), (0x29, .frcp), (0x2A, .fcvti)]

/-- Opcodes and commands: DMA and landing, matrix (R119). -/
def memoryOpcodes : List (Nat × (Tile → TileWord → Instr)) :=
  [(0x30, .dld), (0x31, .dst), (0x32, .dgath), (0x33, .dout), (0x34, .dxfer), (0x35, .dxwait), (0x36, .dclaim),
   (0x37, .drel), (0x40, .mload), (0x41, .mma), (0x42, .mdrain)]

/-- Opcodes and commands: vector (R119). -/
def vectorOpcodes : List (Nat × (Tile → TileWord → Instr)) :=
  [(0x50, .vld), (0x51, .vst), (0x52, .vadd), (0x53, .vsub), (0x54, .vmul), (0x55, .vfma), (0x56, .vmax),
   (0x57, .vmin), (0x58, .vabs), (0x59, .vneg), (0x5A, .vscl), (0x5B, .vcmplt), (0x5C, .vsel), (0x5D, .vbcast),
   (0x5E, .viota), (0x60, .viadd), (0x61, .visub), (0x62, .vand), (0x63, .vor), (0x64, .vxor), (0x65, .vshl),
   (0x66, .vshr), (0x67, .vext), (0x68, .vrsum), (0x69, .vrmax), (0x6A, .vdot)]

/-- Opcodes and commands: conversion, special, random (R119). -/
def specialOpcodes : List (Nat × (Tile → TileWord → Instr)) :=
  [(0x70, .vldc), (0x71, .vstc), (0x72, .vqmx), (0x73, .vdqmx), (0x74, .vcvti), (0x75, .vcvtf), (0x80, .vrsqrt),
   (0x81, .vrcp), (0x82, .vnscoef), (0x83, .vnscomb), (0x84, .vsumsq), (0x90, .vphilox), (0x91, .vruni), (0x92, .vrsgn)]

/-- Opcodes and commands: synchronisation, line (R119). -/
def lineOpcodes : List (Nat × (Tile → TileWord → Instr)) :=
  [(0xA0, .swait), (0xA1, .ssig), (0xA2, .mbpost), (0xB0, .larm), (0xB1, .lemit), (0xB2, .lawait)]

/-- Every opcode that chapter 6 lists, with its command. -/
def tileOpcodes : List (Nat × (Tile → TileWord → Instr)) :=
  controlOpcodes ++ scalarOpcodes ++ memoryOpcodes ++ vectorOpcodes ++ specialOpcodes ++ lineOpcodes

/-- An opcode that chapter 6 lists (R116). -/
def listedOpcode (op : Nat) : Bool := tileOpcodes.any fun c => c.1 == op

/-- The command that tile t's sequencer runs for a word of code; none for an opcode that is not listed (R115, R116). -/
def decodeTileWord (t : Tile) (n : Nat) : Option Instr :=
  (tileOpcodes.find? fun c => c.1 == wordOpcode n).map fun c => c.2 t (wordFields n)

end Sys2Proof
end

