-- ==== Sys2Proof/Machine/Codes.lean ====
section
/-! DEFINITION. The status codes of R456, the event codes of R461 with their severities, and the hoop fault causes of R453. -/

namespace Sys2Proof.Machine

namespace St

/-- ST_OK: Done, or accepted (R456). -/
def ok : Nat := 0
/-- ST_BUSY: A conflicting action is in progress; retry later (R456). -/
def busy : Nat := 1
/-- ST_REFUSED_NOT_READY: A source, device or end that the request needs is not ready (R456). -/
def refusedNotReady : Nat := 2
/-- ST_CTX_EXHAUSTED: Waiting for an operation context (R456). -/
def ctxExhausted : Nat := 3
/-- ST_CAPACITY_SHORTFALL: A reservation or capacity does not fit (R456). -/
def capacityShortfall : Nat := 4
/-- ST_AUTH_FAIL: Authentication of data failed (R456). -/
def authFail : Nat := 5
/-- ST_LEN_EXCEEDED: A length or range is out of bounds (R456). -/
def lenExceeded : Nat := 6
/-- ST_UNCORRECTABLE: Data could not be read correctly (R456). -/
def uncorrectable : Nat := 7
/-- ST_FENCED: Stale epoch, or fenced by the job controller (R456). -/
def fenced : Nat := 8
/-- ST_ABORTED: Ended by a reform, delete, reset or fault, with no result (R456). -/
def aborted : Nat := 9
/-- ST_TIMEOUT: A time limit or member loss ended the action (R456). -/
def timeout : Nat := 10
/-- ST_ACCESS_DENIED: Not permitted: authority, form or value (R456). -/
def accessDenied : Nat := 11
/-- ST_BAD_SIGNATURE: A signature or token failed (R456). -/
def badSignature : Nat := 12
/-- ST_SPLIT: The hoop is Split (R456). -/
def split : Nat := 13
/-- ST_NOT_PERMITTED_IN_STATE: The object or unit is in the wrong state (R456). -/
def notPermittedInState : Nat := 14

end St

namespace Ev

/-- EV_MAILBOX_TIMEOUT (R411). -/
def mailboxTimeout : Nat := 0x1001
/-- EV_PDP_AUTH_FAIL (R412). -/
def pdpAuthFail : Nat := 0x1002
/-- EV_PERSIST_EMPTY (R421). -/
def persistEmpty : Nat := 0x1003
/-- EV_PERSIST_FAIL (R422). -/
def persistFail : Nat := 0x1004
/-- EV_HOOP_FAULT (R27). -/
def hoopFault : Nat := 0x2001
/-- EV_CAPACITY_LOST (R31). -/
def capacityLost : Nat := 0x2002
/-- EV_HOOP_OVER_DECLARED (R34). -/
def hoopOverDeclared : Nat := 0x2003
/-- EV_QUEUE_OVERRUN (R49). -/
def queueOverrun : Nat := 0x3001
/-- EV_CTX_EXHAUSTED (R61). -/
def ctxExhausted : Nat := 0x3002
/-- EV_GROUP_BROKEN (R63). -/
def groupBroken : Nat := 0x3003
/-- EV_LANDING_DISCARD (R74). -/
def landingDiscard : Nat := 0x3004
/-- EV_REPRO_MISMATCH (R84). -/
def reproMismatch : Nat := 0x3005
/-- EV_LANDING_SPILL (R96). -/
def landingSpill : Nat := 0x4001
/-- EV_TILE_FAST_DROP (R98). -/
def tileFastDrop : Nat := 0x4002
/-- EV_TILE_TRIP (R100). -/
def tileTrip : Nat := 0x4003
/-- EV_TILE_FAULT (R102). -/
def tileFault : Nat := 0x4004
/-- EV_IMAGE_EXCEPTION (R101). -/
def imageException : Nat := 0x4005
/-- EV_MEM_UNCORRECTABLE (R184). -/
def memUncorrectable : Nat := 0x5001
/-- EV_QUEUE_UNREADABLE (R184). -/
def queueUnreadable : Nat := 0x5002
/-- EV_SCRUB_LATE (R185). -/
def scrubLate : Nat := 0x5003
/-- EV_CHANNEL_MAP_OUT (R186). -/
def channelMapOut : Nat := 0x5004
/-- EV_CHANNEL_MAPPED_OUT (R187). -/
def channelMappedOut : Nat := 0x5005
/-- EV_POOL_PRESSURE (R200). -/
def poolPressure : Nat := 0x5006
/-- EV_POOL_INTEGRITY (R202). -/
def poolIntegrity : Nat := 0x5007
/-- EV_FABRIC_LANE_FAIL (R210). -/
def fabricLaneFail : Nat := 0x6001
/-- EV_PORT_DEGRADED (R210). -/
def portDegraded : Nat := 0x6002
/-- EV_QP_ERROR (R216). -/
def qpError : Nat := 0x6003
/-- EV_FABRIC_ACCESS_VIOLATION (R218). -/
def fabricAccessViolation : Nat := 0x6004
/-- EV_LINE_LOS (R242). -/
def lineLos : Nat := 0x7001
/-- EV_LINE_LOF (R242). -/
def lineLof : Nat := 0x7002
/-- EV_LINE_AIS (R243). -/
def lineAis : Nat := 0x7003
/-- EV_LINE_RDI (R243). -/
def lineRdi : Nat := 0x7004
/-- EV_LINE_TIM (R243). -/
def lineTim : Nat := 0x7005
/-- EV_LINE_PLM (R243). -/
def linePlm : Nat := 0x7006
/-- EV_WALE_SKEW_EXCEEDED (R246). -/
def waleSkewExceeded : Nat := 0x7007
/-- EV_WALE_MEMBER_REMOVED (R247). -/
def waleMemberRemoved : Nat := 0x7008
/-- EV_WALE_MEMBER_ADDED (R247). -/
def waleMemberAdded : Nat := 0x7009
/-- EV_STAKE_CHANGE (R248). -/
def stakeChange : Nat := 0x700A
/-- EV_FEC_DEGRADED (R255). -/
def fecDegraded : Nat := 0x700B
/-- EV_REPEAT_WINDOW_FULL (R265). -/
def repeatWindowFull : Nat := 0x700C
/-- EV_REPEAT_HELD (R266). -/
def repeatHeld : Nat := 0x700D
/-- EV_REPEAT_RESUMED (R266). -/
def repeatResumed : Nat := 0x700E
/-- EV_PEER_LOST (R266). -/
def peerLost : Nat := 0x700F
/-- EV_REPEAT_UNSENDABLE (R266). -/
def repeatUnsendable : Nat := 0x7010
/-- EV_SESSION_REFUSED (R276). -/
def sessionRefused : Nat := 0x7801
/-- EV_REKEY_OVERDUE (R278). -/
def rekeyOverdue : Nat := 0x7802
/-- EV_REKEY_DONE (R279). -/
def rekeyDone : Nat := 0x7803
/-- EV_LINE_AUTH_FAIL (R283). -/
def lineAuthFail : Nat := 0x7804
/-- EV_LINE_AUTH_STORM (R283). -/
def lineAuthStorm : Nat := 0x7805
/-- EV_CIPHER_PATH_FAULT (R286, R450). -/
def cipherPathFault : Nat := 0x7806
/-- EV_LASER_WARN (R299). -/
def laserWarn : Nat := 0x8001
/-- EV_LASER_NO_SPARE (R299). -/
def laserNoSpare : Nat := 0x8002
/-- EV_LASER_SWAP_DONE (R300). -/
def laserSwapDone : Nat := 0x8003
/-- EV_LANE_EVICTED (R302). -/
def laneEvicted : Nat := 0x8004
/-- EV_APR_ACTIVE (R305). -/
def aprActive : Nat := 0x8005
/-- EV_EYE_SAFETY_TRIP (R305). -/
def eyeSafetyTrip : Nat := 0x8006
/-- EV_ADDRESS_CONFLICT (R325). -/
def addressConflict : Nat := 0xA001
/-- EV_PEER_SUSPECT (R330). -/
def peerSuspect : Nat := 0xA002
/-- EV_PEER_RECOVERED (R330). -/
def peerRecovered : Nat := 0xA003
/-- EV_FENCED (R333). -/
def fenced : Nat := 0xA004
/-- EV_EXPEL_PROPOSED (R336). -/
def expelProposed : Nat := 0xA005
/-- EV_EXPEL_SUPPRESSED (R336). -/
def expelSuppressed : Nat := 0xA006
/-- EV_SHADOW_MISMATCH (R338). -/
def shadowMismatch : Nat := 0xA007
/-- EV_SHADOW_READY (R339). -/
def shadowReady : Nat := 0xA008
/-- EV_AUTONOMOUS_STEP (R342). -/
def autonomousStep : Nat := 0xA009
/-- EV_RECONCILED (R343). -/
def reconciled : Nat := 0xA00A
/-- EV_EPOCH_AHEAD (R348). -/
def epochAhead : Nat := 0xA00B
/-- EV_TIME_STEP (R353). -/
def timeStep : Nat := 0xB001
/-- EV_TIME_LOCKED (R355). -/
def timeLocked : Nat := 0xB002
/-- EV_TIME_UNLOCKED (R355). -/
def timeUnlocked : Nat := 0xB003
/-- EV_TIME_SOURCE_SWITCH (R356). -/
def timeSourceSwitch : Nat := 0xB004
/-- EV_CLOCK_FAIL (R372). -/
def clockFail : Nat := 0xC001
/-- EV_DIE_TEMP_WARN (R392). -/
def dieTempWarn : Nat := 0xC002
/-- EV_DIE_TEMP_HIGH (R392). -/
def dieTempHigh : Nat := 0xC003
/-- EV_THERMAL_SHUTDOWN (R393). -/
def thermalShutdown : Nat := 0xC004
/-- EV_IDENTITY_FAIL (R427). -/
def identityFail : Nat := 0xD001
/-- EV_FIRMWARE_INVALID (R429). -/
def firmwareInvalid : Nat := 0xD002
/-- EV_OWNERSHIP_CHANGED (R432). -/
def ownershipChanged : Nat := 0xD003
/-- EV_ROLLBACK_RAISED (R435). -/
def rollbackRaised : Nat := 0xD004
/-- EV_FLOOR_INVALID (R435). -/
def floorInvalid : Nat := 0xD005
/-- EV_FIRMWARE_FALLBACK (R429). -/
def firmwareFallback : Nat := 0xD006
/-- EV_WAKE_FAIL (Start-up, wake failure and reset). -/
def wakeFail : Nat := 0xE001
/-- EV_INPUT_FAULT (R454). -/
def inputFault : Nat := 0xE002
/-- EV_DIE_LINK_FAULT (R451). -/
def dieLinkFault : Nat := 0xE003
/-- EV_OWNER_TAG_MISMATCH (R202; raised with the hoop fault of cause 6). -/
def ownerTagMismatch : Nat := 0xE004

end Ev

/-- Severity numbers of R457. -/
inductive Severity where
  | info | notice | warning | alarm | critical
deriving DecidableEq, Repr

/-- The number of a severity (R457). -/
def Severity.num : Severity → Nat
  | .info => 0
  | .notice => 1
  | .warning => 2
  | .alarm => 3
  | .critical => 4

/-- The event catalogue of R461, part 1: code and severity. -/
def eventCatalogue1 : List (Nat × Severity) :=
  [(0x1001, Severity.notice),
   (0x1002, Severity.warning),
   (0x1003, Severity.alarm),
   (0x1004, Severity.alarm),
   (0x2001, Severity.alarm),
   (0x2002, Severity.alarm),
   (0x2003, Severity.warning),
   (0x3001, Severity.warning),
   (0x3002, Severity.notice),
   (0x3003, Severity.alarm),
   (0x3004, Severity.warning),
   (0x3005, Severity.alarm),
   (0x4001, Severity.notice),
   (0x4002, Severity.notice),
   (0x4003, Severity.warning),
   (0x4004, Severity.alarm),
   (0x4005, Severity.alarm),
   (0x5001, Severity.warning),
   (0x5002, Severity.warning),
   (0x5003, Severity.notice),
   (0x5004, Severity.warning),
   (0x5005, Severity.warning),
   (0x5006, Severity.notice),
   (0x5007, Severity.critical),
   (0x6001, Severity.warning),
   (0x6002, Severity.warning),
   (0x6003, Severity.warning),
   (0x6004, Severity.alarm),
   (0x7001, Severity.alarm),
   (0x7002, Severity.alarm)]

/-- The event catalogue of R461, part 2: code and severity. -/
def eventCatalogue2 : List (Nat × Severity) :=
  [(0x7003, Severity.warning),
   (0x7004, Severity.warning),
   (0x7005, Severity.alarm),
   (0x7006, Severity.alarm),
   (0x7007, Severity.warning),
   (0x7008, Severity.notice),
   (0x7009, Severity.info),
   (0x700A, Severity.notice),
   (0x700B, Severity.warning),
   (0x700C, Severity.notice),
   (0x700D, Severity.warning),
   (0x700E, Severity.info),
   (0x700F, Severity.alarm),
   (0x7010, Severity.critical),
   (0x7801, Severity.warning),
   (0x7802, Severity.warning),
   (0x7803, Severity.info),
   (0x7804, Severity.warning),
   (0x7805, Severity.alarm),
   (0x7806, Severity.critical),
   (0x8001, Severity.warning),
   (0x8002, Severity.alarm),
   (0x8003, Severity.notice),
   (0x8004, Severity.warning),
   (0x8005, Severity.warning),
   (0x8006, Severity.critical),
   (0xA001, Severity.alarm),
   (0xA002, Severity.warning),
   (0xA003, Severity.info),
   (0xA004, Severity.alarm)]

/-- The event catalogue of R461, part 3: code and severity. -/
def eventCatalogue3 : List (Nat × Severity) :=
  [(0xA005, Severity.warning),
   (0xA006, Severity.notice),
   (0xA007, Severity.alarm),
   (0xA008, Severity.notice),
   (0xA009, Severity.notice),
   (0xA00A, Severity.notice),
   (0xA00B, Severity.warning),
   (0xB001, Severity.notice),
   (0xB002, Severity.info),
   (0xB003, Severity.warning),
   (0xB004, Severity.notice),
   (0xC001, Severity.critical),
   (0xC002, Severity.warning),
   (0xC003, Severity.alarm),
   (0xC004, Severity.critical),
   (0xD001, Severity.critical),
   (0xD002, Severity.critical),
   (0xD003, Severity.notice),
   (0xD004, Severity.notice),
   (0xD005, Severity.critical),
   (0xD006, Severity.alarm),
   (0xE001, Severity.critical),
   (0xE002, Severity.alarm),
   (0xE003, Severity.critical),
   (0xE004, Severity.critical)]

/-- The event catalogue of R461: code and severity. -/
def eventCatalogue : List (Nat × Severity) :=
  eventCatalogue1 ++ eventCatalogue2 ++ eventCatalogue3

/-- Severity of an event code (R461). -/
def severityOf (code : Nat) : Severity := ((eventCatalogue.find? fun e => e.1 == code).map Prod.snd).getD .info

/-- Hoop fault causes (R453). -/
inductive FaultCause where
  | stateUnreadable | imageStoreUnreadable | noTileLeft | chunkTwoTiles | imageException | ownerTag | poolIntegrity
  | capacityLost | fenced | memoryDieLost | operator
deriving DecidableEq, Repr

/-- The number of a cause in HoopFaultCause (R453). -/
def FaultCause.num : FaultCause → Nat
  | .stateUnreadable => 1
  | .imageStoreUnreadable => 2
  | .noTileLeft => 3
  | .chunkTwoTiles => 4
  | .imageException => 5
  | .ownerTag => 6
  | .poolIntegrity => 7
  | .capacityLost => 8
  | .fenced => 9
  | .memoryDieLost => 10
  | .operator => 11

end Sys2Proof.Machine
end

