-- ==== Sys2Proof/Machine/Gcm.lean ====
section
/-! DEFINITION. AES-256 and its Galois/Counter Mode (R271): FIPS 197 and NIST SP 800-38D, which the spec names without repeating
(PRESUMED, log entry 130), and the CRC-32 of the check circuit of R286. -/

namespace Sys2Proof.Machine

open Sys2Proof

/-! ### AES-256 (FIPS 197) -/

/-- The S-box: entries 0–63, 64–127, 128–191 and 192–255, the lowest entry in the lowest byte. -/
def sBox : List Nat := [
  0x75B227EBE28012079A059618C323C7041531D871F1E5A534CCF73F362693FDB7C072A49CAFA2D4ADF04759FA7DC982CA76ABD7FE2B670130C56F6BF27B777C63,
  0xD2F3FF1021DAB6BCF5389D928F40A351A89F3C507F02F94585334D43FBAAEFD0CF584C4A39BECB6A5BB1FC20ED00D153842FE329B3D63B52A05A6E1B1A2C8309,
  0x08AE7A65EAF4566CA94ED58D6D37C8E779E4959162ACD3C25C2406490A3A32E0DB0B5EDE14B8EE4688902A22DC4F816073195D643D7EA7C41744975FEC130CCD,
  0x16BB54B00F2D99416842E6BF0D89A18CDF2855CEE9871E9B948ED9691198F8E19E1DC186B95735610EF6034866B53E708A8BBD4B1F74DDE8C6B4A61C2E2578BA]

/-- SubBytes on one byte. -/
def subByte (x : Nat) : Nat := (sBox.getD (x / 64) 0 >>> (8 * (x % 64))) % 256

/-- Exclusive or of two strings of bytes. -/
def xorBytes (a b : List Nat) : List Nat := List.zipWith (· ^^^ ·) a b

/-- Multiplication by x in GF(2^8) modulo x^8 + x^4 + x^3 + x + 1. -/
def timesX (a : Nat) : Nat := if a < 128 then 2 * a else (2 * a) ^^^ 0x11B

/-- MixColumns on one column. -/
def mixColumn (c : List Nat) : List Nat :=
  (List.range 4).map fun i =>
    let b (j : Nat) : Nat := c.getD ((i + j) % 4) 0
    timesX (b 0) ^^^ timesX (b 1) ^^^ b 1 ^^^ b 2 ^^^ b 3

/-- ShiftRows on a state of 16 bytes held column by column. -/
def shiftRows (st : List Nat) : List Nat := (List.range 16).map fun i => st.getD ((i + 4 * (i % 4)) % 16) 0

/-- Eight words of the key schedule after eight, with a round constant. -/
def nextWords (rcon : Nat) (w : List (List Nat)) : List (List Nat) :=
  let word (i : Nat) : List Nat := w.getD i []
  let w0 := xorBytes (word 0) (xorBytes (((word 7).drop 1 ++ (word 7).take 1).map subByte) [rcon, 0, 0, 0])
  let w1 := xorBytes (word 1) w0
  let w2 := xorBytes (word 2) w1
  let w3 := xorBytes (word 3) w2
  let w4 := xorBytes (word 4) (w3.map subByte)
  let w5 := xorBytes (word 5) w4
  let w6 := xorBytes (word 6) w5
  [w0, w1, w2, w3, w4, w5, w6, xorBytes (word 7) w6]

/-- The words of the key schedule from eight of them on, one group for each round constant. -/
def keyWords : List Nat → List (List Nat) → List (List Nat)
  | [], w => w
  | r :: rest, w => w ++ keyWords rest (nextWords r w)

/-- The 15 round keys of a 32-byte key. -/
def roundKeys (key : Bytes) : List (List Nat) :=
  let k := key.map BitVec.toNat
  let words := keyWords [1, 2, 4, 8, 16, 32, 64] ((List.range 8).map fun i => (k.drop (4 * i)).take 4)
  (List.range 15).map fun r => ((words.drop (4 * r)).take 4).flatten

/-- The rounds of the cipher on a state; the last has no MixColumns. -/
def aesRounds : List (List Nat) → List Nat → List Nat
  | [], st => st
  | [k], st => xorBytes (shiftRows (st.map subByte)) k
  | k :: rest, st =>
    let r := shiftRows (st.map subByte)
    aesRounds rest (xorBytes ((List.range 4).flatMap fun c => mixColumn ((r.drop (4 * c)).take 4)) k)

/-- The cipher on one block of 16 bytes under the round keys. -/
def aesBlock (keys : List (List Nat)) (block : List Nat) : List Nat :=
  match keys with
  | [] => block
  | k :: rest => aesRounds rest (xorBytes block k)

/-! ### GCM (SP 800-38D) -/

/-- `blocks` blocks of keystream from counter value `first` on, under a 96-bit IV. -/
def gcmStream (keys : List (List Nat)) (iv : Bytes) (first blocks : Nat) : Bytes :=
  (List.range blocks).flatMap fun i =>
    (aesBlock keys ((iv ++ beBytes 4 (first + i)).map BitVec.toNat)).map (BitVec.ofNat 8)

/-- The keystream of `n` whole blocks under a key and an IV: the payload starts at counter value 2. -/
def keystream (key iv : Bytes) (n : Nat) : Bytes := gcmStream (roundKeys key) iv 2 n

/-- Data combined with its keystream: encryption and decryption alike. -/
def gcmCrypt (key iv data : Bytes) : Bytes :=
  List.zipWith (· ^^^ ·) data (keystream key iv ((data.length + 15) / 16))

/-- One step of the multiplication in GF(2^128): the product so far, and the factor times a power of x. -/
def ghashStep (x : Nat) (a : Nat × Nat) (i : Nat) : Nat × Nat :=
  (if x.testBit (127 - i) then a.1 ^^^ a.2 else a.1,
    if a.2 % 2 = 1 then (a.2 / 2) ^^^ (0xE1 * 2 ^ 120) else a.2 / 2)

/-- Multiplication in GF(2^128), bit 0 the most significant. -/
def ghashTimes (x h : Nat) : Nat := ((List.range 128).foldl (ghashStep x) (0, h)).1

/-- Data followed by zeros up to whole blocks. -/
def padded (b : Bytes) : Bytes := b ++ List.replicate ((16 - b.length % 16) % 16) 0

/-- GHASH of additional data and ciphertext under the hash key. -/
def ghash (h : Nat) (aad c : Bytes) : Nat :=
  let data := padded aad ++ padded c ++ beBytes 8 (8 * aad.length) ++ beBytes 8 (8 * c.length)
  (List.range (data.length / 16)).foldl (fun y i => ghashTimes (y ^^^ beNat (slice data (16 * i) 16)) h) 0

/-- The 16-byte tag of additional data and ciphertext. -/
def gcmTag (key iv aad c : Bytes) : Bytes :=
  let keys := roundKeys key
  let h := beNat ((aesBlock keys (List.replicate 16 0)).map (BitVec.ofNat 8))
  List.zipWith (· ^^^ ·) (gcmStream keys iv 1 1) (beBytes 16 (ghash h aad c))

/-- AES-256-GCM encryption: ciphertext and tag. -/
def gcmSeal (key iv aad plaintext : Bytes) : Bytes × Bytes :=
  let c := gcmCrypt key iv plaintext
  (c, gcmTag key iv aad c)

/-- AES-256-GCM decryption: the plaintext when the tag is right. -/
def gcmOpen (key iv aad ciphertext tag : Bytes) : Option Bytes :=
  if gcmTag key iv aad ciphertext = tag then some (gcmCrypt key iv ciphertext) else none

/-! ### CRC-32 (R286) -/

/-- One byte of the CRC-32 of IEEE 802.3 (PRESUMED, log entry 98: the spec names no polynomial). -/
def crc32Byte (c : Nat) (b : Byte) : Nat :=
  (List.range 8).foldl (fun c _ => if c % 2 = 1 then (c / 2) ^^^ 0xEDB88320 else c / 2) (c ^^^ b.toNat)

/-- CRC-32 of a string of bytes. -/
def crc32 (b : Bytes) : Nat := (b.foldl crc32Byte 0xFFFFFFFF) ^^^ 0xFFFFFFFF

end Sys2Proof.Machine
end

