-- ==== Sys2Proof/Config.lean ====
section
/-! DEFINITION. What an implementation fixes and the spec leaves open: the free values, the constants of manufacture and
the functions of the published cryptographic standards that the spec names without giving (R3, R426). None has a body. -/

namespace Sys2Proof.Config

/-- The free values: where the spec states no result, the step takes the next of these (log entry 5). -/
opaque freeValue : (w : Nat) → Nat → BitVec w

/-- SHA3-512 (R426). Byte 0 of the digest is the least significant byte of the number (R496). -/
opaque sha3_512 : Bytes → BitVec 512

/-- SHA3-256 (R427). -/
opaque sha3_256 : Bytes → BitVec 256

/-- SHAKE256 with an output of the given number of bytes (R412, R427). -/
opaque shake256 : Bytes → (bytes : Nat) → BitVec (8 * bytes)

/-- KMAC256 under a key, with a context (R435). -/
opaque kmac256 : (key data context : Bytes) → BitVec 256

/-- ML-DSA-87 verification of a signature over a digest with a context string (R426). -/
opaque mlDsaVerify : (publicKey digest context signature : Bytes) → Bool

/-- ML-DSA-87 signature of 4,627 bytes by the key pair that a seed generates; `nonce` is the signer's own randomness. -/
opaque mlDsaSign : (seed digest context : Bytes) → (nonce : Nat) → BitVec (8 * 4627)

/-- ML-DSA-87 public key of 2,592 bytes that a seed generates (R427). -/
opaque mlDsaPublic : (seed : Bytes) → BitVec (8 * 2592)

/-- ML-KEM-1024 encapsulation key of 1,568 bytes that a seed generates. -/
opaque mlKemPublic : (seed : Nat) → BitVec (8 * 1568)

/-- ML-KEM-1024 encapsulation: ciphertext of 1,568 bytes and shared secret of 32 bytes; `nonce` is the sender's randomness. -/
opaque mlKemEncap : (encapKey : Bytes) → (nonce : Nat) → BitVec (8 * 1568) × BitVec 256

/-- ML-KEM-1024 decapsulation under the key pair that a seed generates; none where it fails (R279). -/
opaque mlKemDecap : (seed : Nat) → (ciphertext : Bytes) → Option (BitVec 256)

/-- The FEC encoder of a lane mode (R253): the frame of the 400ZR or oFEC standard with the payload of one multiframe, given as its
Sarsia frames and its pad bits. -/
opaque fecEncode : (mode : Nat) → (frames : List Bytes) → (pad : List Bool) → List Bool

/-- Payload bits that one FEC multiframe of a lane mode holds beyond its whole Sarsia frames (R254): the standards give them. -/
opaque padBits : (mode : Nat) → Nat

/-- What stands in place of a byte that cannot be read or whose address is refused, by its place: the spec states none (R39, R175;
log entry 25). -/
opaque unreadable : Nat → BitVec 8

/-- The module's own regions that agents read line by line (R189). -/
inductive Region where
  | repeatBuffer | control | skewBuffer | rings | imageStore | staging
deriving DecidableEq, Repr

/-- Where in its region a 64-byte piece of a unit lies, a unit by two numbers: R189 gives the regions' sizes and dies and places no unit
in them (log entry 134). -/
opaque regionSpot : (region : Region) → (a b piece : Nat) → Nat

/-- Where in its hoop's deferred-queue regions a 64-byte piece of a stream lies: the spec places no stream in that ring (R342; log
entry 153). -/
opaque deferredSpot : (hoop group sequence chunk piece : Nat) → Nat

/-- The seed that the SRAM pattern and the activation code of this module give (R427). -/
opaque identitySeed : BitVec 256

/-- PartNumber (R424). -/
opaque partNumber : Bytes
/-- SerialNumber (R424). -/
opaque serialNumber : Bytes
/-- ModuleVariant (R492). -/
opaque moduleVariant : Bytes
/-- FirmwareVersion of the running image (R424). -/
opaque firmwareVersion : BitVec 32
/-- BoardEngineSitesFitted: bit k set, BEk is fitted (R492). -/
opaque boardEngineSitesFitted : BitVec 16
/-- DeviceCertificate, written at manufacture (R436). -/
opaque deviceCertificate : BitVec (8 * 4627)
/-- MeterCertificate, written at manufacture (R448). -/
opaque meterCertificate : BitVec (8 * 4627)
/-- The seed of the meter's key pair (R426). -/
opaque meterSeed : BitVec 256
/-- SHA3-512 digest of the Kolereo root key in hub ROM (R426). -/
opaque rootKeyDigest : BitVec 512
/-- Trailer bytes 0–9,898 of the firmware image that the module carries when it is shipped, slot A (R428, R429). -/
opaque shippedFirmware : BitVec (8 * 9899)
/-- Whether an image of meter firmware carries a valid signature under the metrology key whose digest the E-die ROM holds, and
its SecurityVersion: R443 does not lay the image out (log entry 31). -/
opaque meterImageVersion : Bytes → Option (BitVec 32)
/-- MeterFirmwareHash of an image: the spec does not say over which bytes (log entry 31). -/
opaque meterImageHash : Bytes → BitVec 512
/-- MeterFirmwareHash of the firmware that the meter carries when it is shipped. -/
opaque shippedMeterHash : BitVec 512
/-- PortMacAddress of port p: derived from the device identity, R211 does not say how. -/
opaque portMacAddress : Nat → BitVec 48

end Sys2Proof.Config

namespace Sys2Proof

/-- The 64 bytes of SHA3-512 (R496). -/
def sha3Bytes (b : Bytes) : Bytes := leBytes 64 (Config.sha3_512 b).toNat

/-- Length of an ML-DSA-87 public key (R446). -/
def mlDsaKeyBytes : Nat := 2592

/-- SHA3-512 digest of an ML-DSA-87 verification: the signature is over the digest of `msg`, with an ASCII context. -/
def verifies (key msg : Bytes) (context : String) (sig : Bytes) : Bool :=
  Config.mlDsaVerify key (sha3Bytes msg) (asciiBytes context) sig

/-- The module's identity key pair seed: shake256(seed ‖ "identity", 32) (R427). -/
def identityKeySeed : Bytes :=
  leBytes 32 (Config.shake256 (leBytes 32 Config.identitySeed.toNat ++ asciiBytes "identity") 32).toNat

/-- IdentityKey, the public half (R427, R446). -/
def identityKey : Bytes := leBytes 2592 (Config.mlDsaPublic identityKeySeed).toNat

/-- mac_k := shake256(seed ‖ "storage", 32) (R427). -/
def storageMacKey : Bytes :=
  leBytes 32 (Config.shake256 (leBytes 32 Config.identitySeed.toNat ++ asciiBytes "storage") 32).toNat

/-- node := u64_le(sha3_512("kc4810-node" ‖ public key)[0..7]) (R427): the rule for any identity key. -/
def nodeOfKey (publicKey : Bytes) : Nat := leNat ((sha3Bytes (asciiBytes "kc4810-node" ++ publicKey)).take 8)

/-- NodeIdentity of this module (R324, R427). -/
def nodeIdentity : Nat := nodeOfKey identityKey

end Sys2Proof
end

