-- ==== Sys2Proof/Machine/Maps.lean ====
section
/-! DEFINITION. Sparse data by key: lists of (key, value) pairs, sorted by key, no key twice, and no entry equal to what an
unlisted key reads as, so that equal maps are equal lists. Module memory (`Memory`) is the map of bytes. -/

namespace Sys2Proof.Machine

/-- Sparse data: (key, value) pairs in rising order of key. -/
abbrev Map (β : Type) := List (Nat × β)

namespace Map

/-- What key `k` reads as: its entry, or `d` where nothing is listed. -/
def get {β : Type} (d : β) : Map β → Nat → β
  | [], _ => d
  | (a, v) :: r, k => if a = k then v else get d r k

/-- The map without the keys that satisfy `p`. -/
def clear {β : Type} (p : Nat → Bool) (m : Map β) : Map β := m.filter fun c => !p c.1

/-- Insertion in rising order of key. -/
def insert {β : Type} (k : Nat) (v : β) : Map β → Map β
  | [] => [(k, v)]
  | (a, w) :: r => if k < a then (k, v) :: (a, w) :: r else (a, w) :: insert k v r

/-- The map with `v` at key `k`; writing what an unlisted key reads as removes the entry. -/
def put {β : Type} [DecidableEq β] (d : β) (m : Map β) (k : Nat) (v : β) : Map β :=
  if v = d then clear (fun a => a == k) m else insert k v (clear (fun a => a == k) m)

/-- The canonical form: keys strictly rising, no entry equal to its default. -/
def wf {β : Type} [DecidableEq β] (d : Nat → β) : Map β → Bool
  | [] => true
  | [(a, v)] => decide (v ≠ d a)
  | (a, v) :: (b, w) :: r => decide (v ≠ d a) && decide (a < b) && wf d ((b, w) :: r)

end Map

/-- Module memory, tile stores, plan buffers: bytes by address, an unlisted address reading 0 (R183). -/
abbrev Memory := List (Nat × BitVec 8)

namespace Memory

/-- The byte at an address (R183: an unlisted byte reads 0). -/
def read (m : Memory) (a : Nat) : Byte := Map.get 0 m a

/-- The memory with byte `v` at address `a`. -/
def write (m : Memory) (a : Nat) (v : Byte) : Memory := Map.put 0 m a v

/-- `n` bytes from address `a`. -/
def readBytes (m : Memory) (a n : Nat) : List Byte :=
  let w := m.filter fun c => decide (a ≤ c.1 ∧ c.1 < a + n)
  (List.range n).map fun i => read w (a + i)

/-- The entries of a string of bytes from address `a` on: its bytes that are not zero. -/
def cells (a : Nat) : List Byte → Memory
  | [] => []
  | v :: b => if v = 0 then cells (a + 1) b else (a, v) :: cells (a + 1) b

/-- The memory with the bytes `b` from address `a` on. -/
def writeBytes (m : Memory) (a : Nat) (b : List Byte) : Memory :=
  m.filter (fun c => decide (c.1 < a)) ++ (cells a b ++ m.filter fun c => decide (a + b.length ≤ c.1))

/-- The memory with every byte of `[a, a + n)` zero. -/
def zero (m : Memory) (a n : Nat) : Memory := Map.clear (fun k => decide (a ≤ k ∧ k < a + n)) m

/-- The canonical form: addresses strictly rising, no zero byte listed. -/
def wf (m : Memory) : Bool := Map.wf (fun _ => 0) m

end Memory

end Sys2Proof.Machine
end

