-- ==== Sys2Proof/Machine/Objects.lean ====
section
/-! DEFINITION. The object table of the Penrel dictionary: every object that the chapters' tables define (R11, R399–R401),
with its index, type, access code, retention code, range and default, and the key by which the object store holds it. -/

namespace Sys2Proof.Machine

/-- The type codes of R399. -/
inductive ObjType where
  | u8 | u16 | u32 | u64 | i32 | bool | enum | str | blob | time80
deriving DecidableEq, Repr

/-- The access codes of R400. -/
inductive Access where
  | ro | rw | wo | rws | sig
deriving DecidableEq, Repr

/-- The retention codes of R401. -/
inductive Retention where
  | v | w | p | h
deriving DecidableEq, Repr

/-- One row of an object table: an object of `count` units, `packed` sixteen units to an index (R45, R191, R225, R226)
or one unit to an index. -/
structure ObjRow where
  base : Nat
  count : Nat
  packed : Bool
  sub : Nat
  ty : ObjType
  acc : Access
  ret : Retention
  /-- Size of a fixed type, MaxLength of a STR or BLOB (R399). -/
  size : Nat
  /-- Range the defining table states (check 6 of R404). -/
  range : Option (Int × Int)
  /-- Bits that are not reserved (R10). -/
  mask : Option Nat
  dflt : Nat → Val

/-- Key of unit `i` of an object with one unit per index: Index × 256 + Sub (R11). -/
def linearKey (base sub i : Nat) : Nat := (base + i) * 256 + sub

/-- Key of unit `i` of an object that packs sixteen units into an index, sub (unit mod 16) × 16 + field (R45). -/
def packedKey (base sub i : Nat) : Nat := (base + i / 16) * 256 + (i % 16) * 16 + sub

/-- Key that stands for unit `i` of an object that has no unit `i`: the table defines nothing there, and no index of R11 reaches it. -/
def noUnit (base sub i : Nat) : Nat := 2 ^ 24 * (i + 1) + base * 256 + sub

/-- Key of unit `i` of an object of `count` units, one unit to an index. -/
def linearUnit (base sub count i : Nat) : Nat := if i < count then linearKey base sub i else noUnit base sub i

/-- Key of unit `i` of an object of `count` units, sixteen units to an index. -/
def packedUnit (base sub count i : Nat) : Nat := if i < count then packedKey base sub i else noUnit base sub i

namespace Obj

/-- HoopCount (R30). -/
def hoopCount : Nat := linearKey 0x2000 0x01 0
/-- ModuleHoopMemoryAvailable (R30). -/
def moduleHoopMemoryAvailable : Nat := linearKey 0x2000 0x02 0
/-- ModuleHoopMemoryReserved (R30). -/
def moduleHoopMemoryReserved : Nat := linearKey 0x2000 0x03 0
/-- HoopState (R30). -/
def hoopState (i : Nat) : Nat := linearUnit 0x2100 0x01 16 i
/-- HoopCommand (R30). -/
def hoopCommand (i : Nat) : Nat := linearUnit 0x2100 0x02 16 i
/-- HoopCommandStatus (R30). -/
def hoopCommandStatus (i : Nat) : Nat := linearUnit 0x2100 0x03 16 i
/-- HoopMemoryCapacity (R30). -/
def hoopMemoryCapacity (i : Nat) : Nat := linearUnit 0x2100 0x04 16 i
/-- HoopTileMask (R30). -/
def hoopTileMask (i : Nat) : Nat := linearUnit 0x2100 0x05 16 i
/-- HoopCompactResidual (R30). -/
def hoopCompactResidual (i : Nat) : Nat := linearUnit 0x2100 0x06 16 i
/-- JobDeclaredMemory (R30). -/
def jobDeclaredMemory (i : Nat) : Nat := linearUnit 0x2100 0x07 16 i
/-- AdmissionShortfall (R30). -/
def admissionShortfall (i : Nat) : Nat := linearUnit 0x2100 0x08 16 i
/-- HoopEpoch (R30). -/
def hoopEpoch (i : Nat) : Nat := linearUnit 0x2100 0x09 16 i
/-- HoopAutonomousWindow (R30). -/
def hoopAutonomousWindow (i : Nat) : Nat := linearUnit 0x2100 0x0A 16 i
/-- EvacuationTarget (R30). -/
def evacuationTarget (i : Nat) : Nat := linearUnit 0x2100 0x0B 16 i
/-- EvacuationBytesWritten (R30). -/
def evacuationBytesWritten (i : Nat) : Nat := linearUnit 0x2100 0x0C 16 i
/-- EvacuationStatus (R30). -/
def evacuationStatus (i : Nat) : Nat := linearUnit 0x2100 0x0D 16 i
/-- GroupState (R45). -/
def groupState (i : Nat) : Nat := packedUnit 0x3100 0x00 4096 i
/-- GroupCommand (R45). -/
def groupCommand (i : Nat) : Nat := packedUnit 0x3100 0x01 4096 i
/-- GroupCommandStatus (R45). -/
def groupCommandStatus (i : Nat) : Nat := packedUnit 0x3100 0x02 4096 i
/-- GroupDefinition (R45). -/
def groupDefinition (i : Nat) : Nat := packedUnit 0x3100 0x03 4096 i
/-- GroupHoop (R45). -/
def groupHoop (i : Nat) : Nat := packedUnit 0x3100 0x04 4096 i
/-- GroupKind (R45). -/
def groupKind (i : Nat) : Nat := packedUnit 0x3100 0x05 4096 i
/-- GroupEpoch (R45). -/
def groupEpoch (i : Nat) : Nat := packedUnit 0x3100 0x06 4096 i
/-- GroupNextSequence (R45). -/
def groupNextSequence (i : Nat) : Nat := packedUnit 0x3100 0x07 4096 i
/-- GroupContextMinimum (R45). -/
def groupContextMinimum (i : Nat) : Nat := packedUnit 0x3100 0x08 4096 i
/-- GroupQueueWindow (R45). -/
def groupQueueWindow (i : Nat) : Nat := packedUnit 0x3100 0x09 4096 i
/-- GroupQueueDepth (R45). -/
def groupQueueDepth (i : Nat) : Nat := packedUnit 0x3100 0x0A 4096 i
/-- GroupQueueIndices (R45). -/
def groupQueueIndices (i : Nat) : Nat := packedUnit 0x3100 0x0B 4096 i
/-- GroupQueueStatus (R45). -/
def groupQueueStatus (i : Nat) : Nat := packedUnit 0x3100 0x0C 4096 i
/-- GroupInFlight (R45). -/
def groupInFlight (i : Nat) : Nat := packedUnit 0x3100 0x0D 4096 i
/-- GroupRefusals (R45). -/
def groupRefusals (i : Nat) : Nat := packedUnit 0x3100 0x0E 4096 i
/-- GroupLastRefusal (R45). -/
def groupLastRefusal (i : Nat) : Nat := packedUnit 0x3100 0x0F 4096 i
/-- HostSubmit (R50). -/
def hostSubmit : Nat := linearKey 0x3001 0x01 0
/-- HostSubmitStatus (R50). -/
def hostSubmitStatus : Nat := linearKey 0x3001 0x02 0
/-- ContextCount (R62). -/
def contextCount : Nat := linearKey 0x3000 0x01 0
/-- ContextsInUse (R62). -/
def contextsInUse : Nat := linearKey 0x3000 0x02 0
/-- ContextSharedRemainder (R62). -/
def contextSharedRemainder : Nat := linearKey 0x3000 0x03 0
/-- CtxExhaustedWaits (R62). -/
def ctxExhaustedWaits : Nat := linearKey 0x3000 0x04 0
/-- ResupplyTimeout (R62). -/
def resupplyTimeout : Nat := linearKey 0x3000 0x05 0
/-- GroupsOpen (R62). -/
def groupsOpen : Nat := linearKey 0x3000 0x06 0
/-- SmallGroupsOpen (R62). -/
def smallGroupsOpen : Nat := linearKey 0x3000 0x07 0
/-- HoopContextMinimum (R62). -/
def hoopContextMinimum (i : Nat) : Nat := linearUnit 0x3020 0x01 16 i
/-- HoopContextsInUse (R62). -/
def hoopContextsInUse (i : Nat) : Nat := linearUnit 0x3020 0x02 16 i
/-- HoopCtxExhaustedWaits (R62). -/
def hoopCtxExhaustedWaits (i : Nat) : Nat := linearUnit 0x3020 0x03 16 i
/-- HoopGroupMinimumSum (R62). -/
def hoopGroupMinimumSum (i : Nat) : Nat := linearUnit 0x3020 0x04 16 i
/-- JobSeed (R85). -/
def jobSeed (i : Nat) : Nat := linearUnit 0x3040 0x01 16 i
/-- PlanRandomTag (R85). -/
def planRandomTag (i : Nat) : Nat := linearUnit 0x3040 0x02 16 i
/-- PlanHash (R85). -/
def planHash (i : Nat) : Nat := linearUnit 0x3040 0x03 16 i
/-- OuterStepCounter (R85). -/
def outerStepCounter (i : Nat) : Nat := linearUnit 0x3040 0x04 16 i
/-- ReproducibilityRecord (R85). -/
def reproducibilityRecord (i : Nat) : Nat := linearUnit 0x3040 0x05 16 i
/-- HoopLandingDiscards (R85). -/
def hoopLandingDiscards (i : Nat) : Nat := linearUnit 0x3040 0x06 16 i
/-- ReproMismatchGroups (R85). -/
def reproMismatchGroups (i : Nat) : Nat := linearUnit 0x3040 0x07 16 i
/-- TileCount (R105). -/
def tileCount : Nat := linearKey 0x4000 0x01 0
/-- TileSelectThermalWeight (R105). -/
def tileSelectThermalWeight : Nat := linearKey 0x4000 0x02 0
/-- TileSelectPowerWeight (R105). -/
def tileSelectPowerWeight : Nat := linearKey 0x4000 0x03 0
/-- TileReturnHold (R105). -/
def tileReturnHold : Nat := linearKey 0x4000 0x04 0
/-- LandingSpills (R105). -/
def landingSpills : Nat := linearKey 0x4000 0x05 0
/-- TileState (R105). -/
def tileState (i : Nat) : Nat := linearUnit 0x4100 0x01 48 i
/-- TileOwner (R105). -/
def tileOwner (i : Nat) : Nat := linearUnit 0x4100 0x02 48 i
/-- TileCommand (R105). -/
def tileCommand (i : Nat) : Nat := linearUnit 0x4100 0x03 48 i
/-- TileFaultCause (R105). -/
def tileFaultCause (i : Nat) : Nat := linearUnit 0x4100 0x04 48 i
/-- TileTemperatureMax (R105). -/
def tileTemperatureMax (i : Nat) : Nat := linearUnit 0x4100 0x05 48 i
/-- TileClockDivided (R105). -/
def tileClockDivided (i : Nat) : Nat := linearUnit 0x4100 0x06 48 i
/-- TileBindings (R105). -/
def tileBindings (i : Nat) : Nat := linearUnit 0x4100 0x07 48 i
/-- TileChunksRun (R105). -/
def tileChunksRun (i : Nat) : Nat := linearUnit 0x4100 0x08 48 i
/-- TileMeshBusyCycles (R105). -/
def tileMeshBusyCycles (i : Nat) : Nat := linearUnit 0x4100 0x09 48 i
/-- TileCycles (R105). -/
def tileCycles (i : Nat) : Nat := linearUnit 0x4100 0x0A 48 i
/-- TileStoreCorrected (R105). -/
def tileStoreCorrected (i : Nat) : Nat := linearUnit 0x4100 0x0B 48 i
/-- TileFastDrops (R105). -/
def tileFastDrops (i : Nat) : Nat := linearUnit 0x4100 0x0C 48 i
/-- TileTrips (R105). -/
def tileTrips (i : Nat) : Nat := linearUnit 0x4100 0x0D 48 i
/-- TileCommandStatus (R105). -/
def tileCommandStatus (i : Nat) : Nat := linearUnit 0x4100 0x16 48 i
/-- TileIsaVersion (R136). -/
def tileIsaVersion : Nat := linearKey 0x4000 0x06 0
/-- TileExceptionCode (R136). -/
def tileExceptionCode (i : Nat) : Nat := linearUnit 0x4100 0x0E 48 i
/-- TileExceptionPc (R136). -/
def tileExceptionPc (i : Nat) : Nat := linearUnit 0x4100 0x0F 48 i
/-- TileExceptionWord (R136). -/
def tileExceptionWord (i : Nat) : Nat := linearUnit 0x4100 0x10 48 i
/-- TileIssueStalls (R136). -/
def tileIssueStalls (i : Nat) : Nat := linearUnit 0x4100 0x11 48 i
/-- ImageStageWrite (R160). -/
def imageStageWrite (i : Nat) : Nat := linearUnit 0x4200 0x01 16 i
/-- ImageStageLength (R160). -/
def imageStageLength (i : Nat) : Nat := linearUnit 0x4200 0x02 16 i
/-- ImageCommand (R160). -/
def imageCommand (i : Nat) : Nat := linearUnit 0x4200 0x03 16 i
/-- ImageCommandSlot (R160). -/
def imageCommandSlot (i : Nat) : Nat := linearUnit 0x4200 0x04 16 i
/-- ImageActivateStep (R160). -/
def imageActivateStep (i : Nat) : Nat := linearUnit 0x4200 0x05 16 i
/-- ImageCommandStatus (R160). -/
def imageCommandStatus (i : Nat) : Nat := linearUnit 0x4200 0x06 16 i
/-- ImageCommandDetail (R160). -/
def imageCommandDetail (i : Nat) : Nat := linearUnit 0x4200 0x07 16 i
/-- ImageStoreUsed (R160). -/
def imageStoreUsed (i : Nat) : Nat := linearUnit 0x4200 0x08 16 i
/-- PlanCommand (R160). -/
def planCommand (i : Nat) : Nat := linearUnit 0x4200 0x09 16 i
/-- PlanCommandStatus (R160). -/
def planCommandStatus (i : Nat) : Nat := linearUnit 0x4200 0x0A 16 i
/-- PlanCommandDetail (R160). -/
def planCommandDetail (i : Nat) : Nat := linearUnit 0x4200 0x0B 16 i
/-- PlanEntryCount (R160). -/
def planEntryCount (i : Nat) : Nat := linearUnit 0x4200 0x0C 16 i
/-- SlotState (R160). -/
def slotState (i : Nat) : Nat := linearUnit 0x4300 0x01 256 i
/-- SlotImageHash (R160). -/
def slotImageHash (i : Nat) : Nat := linearUnit 0x4300 0x02 256 i
/-- SlotImageName (R160). -/
def slotImageName (i : Nat) : Nat := linearUnit 0x4300 0x03 256 i
/-- SlotPendingHash (R160). -/
def slotPendingHash (i : Nat) : Nat := linearUnit 0x4300 0x04 256 i
/-- SlotActivateStep (R160). -/
def slotActivateStep (i : Nat) : Nat := linearUnit 0x4300 0x05 256 i
/-- SlotChunksRun (R160). -/
def slotChunksRun (i : Nat) : Nat := linearUnit 0x4300 0x06 256 i
/-- TileImageLoads (R160). -/
def tileImageLoads (i : Nat) : Nat := linearUnit 0x4100 0x12 48 i
/-- TileStagedLoads (R160). -/
def tileStagedLoads (i : Nat) : Nat := linearUnit 0x4100 0x13 48 i
/-- ArithmeticVersion (R174). -/
def arithmeticVersion : Nat := linearKey 0x4000 0x07 0
/-- TileNarrowSaturations (R174). -/
def tileNarrowSaturations (i : Nat) : Nat := linearUnit 0x4100 0x14 48 i
/-- TileNanResults (R174). -/
def tileNanResults (i : Nat) : Nat := linearUnit 0x4100 0x15 48 i
/-- MemoryRawBytes (R190). -/
def memoryRawBytes : Nat := linearKey 0x5000 0x01 0
/-- MemoryUsableBytes (R190). -/
def memoryUsableBytes : Nat := linearKey 0x5000 0x02 0
/-- ChannelsMappedOut (R190). -/
def channelsMappedOut : Nat := linearKey 0x5000 0x03 0
/-- MappedOutChannels (R190). -/
def mappedOutChannels : Nat := linearKey 0x5000 0x04 0
/-- MapOutPolicy (R190). -/
def mapOutPolicy : Nat := linearKey 0x5000 0x05 0
/-- MapOutCorrectedThreshold (R190). -/
def mapOutCorrectedThreshold : Nat := linearKey 0x5000 0x06 0
/-- MapOutPinThreshold (R190). -/
def mapOutPinThreshold : Nat := linearKey 0x5000 0x07 0
/-- MigrationShare (R190). -/
def migrationShare : Nat := linearKey 0x5000 0x08 0
/-- ScrubPeriod (R190). -/
def scrubPeriod : Nat := linearKey 0x5000 0x09 0
/-- ScrubPassCount (R190). -/
def scrubPassCount : Nat := linearKey 0x5000 0x0A 0
/-- ScrubUncorrectable (R190). -/
def scrubUncorrectable : Nat := linearKey 0x5000 0x0B 0
/-- RepeatWindowMs (R190). -/
def repeatWindowMs : Nat := linearKey 0x5000 0x0C 0
/-- ModuleRegionBytes (R190). -/
def moduleRegionBytes : Nat := linearKey 0x5000 0x0D 0
/-- MemoryUncorrectableReads (R190). -/
def memoryUncorrectableReads : Nat := linearKey 0x5000 0x0E 0
/-- MirrorFallbacks (R190). -/
def mirrorFallbacks : Nat := linearKey 0x5000 0x0F 0
/-- DieLiveChannels (R190). -/
def dieLiveChannels (i : Nat) : Nat := linearUnit 0x5010 0x01 8 i
/-- DieUsableBytes (R190). -/
def dieUsableBytes (i : Nat) : Nat := linearUnit 0x5010 0x02 8 i
/-- DieMigrationProgress (R190). -/
def dieMigrationProgress (i : Nat) : Nat := linearUnit 0x5010 0x03 8 i
/-- ChannelState (R191). -/
def channelState (i : Nat) : Nat := packedUnit 0x5100 0x00 640 i
/-- ChannelCorrected (R191). -/
def channelCorrected (i : Nat) : Nat := packedUnit 0x5100 0x01 640 i
/-- ChannelUncorrectable (R191). -/
def channelUncorrectable (i : Nat) : Nat := packedUnit 0x5100 0x02 640 i
/-- ChannelCorrectedPass (R191). -/
def channelCorrectedPass (i : Nat) : Nat := packedUnit 0x5100 0x03 640 i
/-- ChannelWorstPin (R191). -/
def channelWorstPin (i : Nat) : Nat := packedUnit 0x5100 0x04 640 i
/-- ChannelCommand (R191). -/
def channelCommand (i : Nat) : Nat := packedUnit 0x5100 0x05 640 i
/-- ChannelCommandStatus (R191). -/
def channelCommandStatus (i : Nat) : Nat := packedUnit 0x5100 0x06 640 i
/-- PoolFramesTotal (R205). -/
def poolFramesTotal : Nat := linearKey 0x5200 0x01 0
/-- PoolFramesFree (R205). -/
def poolFramesFree : Nat := linearKey 0x5200 0x02 0
/-- PoolFramesMoved (R205). -/
def poolFramesMoved : Nat := linearKey 0x5200 0x03 0
/-- PoolIntegrityErrors (R205). -/
def poolIntegrityErrors : Nat := linearKey 0x5200 0x04 0
/-- SegmentsDeferred (R205). -/
def segmentsDeferred : Nat := linearKey 0x5200 0x05 0
/-- DiePoolFrames (R205). -/
def diePoolFrames (i : Nat) : Nat := linearUnit 0x5210 0x01 8 i
/-- DiePoolFramesFree (R205). -/
def diePoolFramesFree (i : Nat) : Nat := linearUnit 0x5210 0x02 8 i
/-- PoolBitmapSelect (R205). -/
def poolBitmapSelect (i : Nat) : Nat := linearUnit 0x5210 0x03 8 i
/-- PoolBitmapRead (R205). -/
def poolBitmapRead (i : Nat) : Nat := linearUnit 0x5210 0x04 8 i
/-- HoopFrameLimit (R205). -/
def hoopFrameLimit (i : Nat) : Nat := linearUnit 0x5220 0x01 16 i
/-- HoopFramesHeld (R205). -/
def hoopFramesHeld (i : Nat) : Nat := linearUnit 0x5220 0x02 16 i
/-- HoopPlanFrames (R205). -/
def hoopPlanFrames (i : Nat) : Nat := linearUnit 0x5220 0x03 16 i
/-- HoopBackingFrames (R205). -/
def hoopBackingFrames (i : Nat) : Nat := linearUnit 0x5220 0x04 16 i
/-- PoolMinimum0 (R206). -/
def poolMinimum0 (i : Nat) : Nat := linearUnit 0x5300 0x01 64 i
/-- PoolMinimum1 (R206). -/
def poolMinimum1 (i : Nat) : Nat := linearUnit 0x5300 0x02 64 i
/-- PoolMinimum2 (R206). -/
def poolMinimum2 (i : Nat) : Nat := linearUnit 0x5300 0x03 64 i
/-- PoolMinimum3 (R206). -/
def poolMinimum3 (i : Nat) : Nat := linearUnit 0x5300 0x04 64 i
/-- PoolInUse0 (R206). -/
def poolInUse0 (i : Nat) : Nat := linearUnit 0x5300 0x05 64 i
/-- PoolInUse1 (R206). -/
def poolInUse1 (i : Nat) : Nat := linearUnit 0x5300 0x06 64 i
/-- PoolInUse2 (R206). -/
def poolInUse2 (i : Nat) : Nat := linearUnit 0x5300 0x07 64 i
/-- PoolInUse3 (R206). -/
def poolInUse3 (i : Nat) : Nat := linearUnit 0x5300 0x08 64 i
/-- PoolWaits (R206). -/
def poolWaits (i : Nat) : Nat := linearUnit 0x5300 0x09 64 i
/-- PoolWaiting (R206). -/
def poolWaiting (i : Nat) : Nat := linearUnit 0x5300 0x0A 64 i
/-- PoolHighWater (R206). -/
def poolHighWater (i : Nat) : Nat := linearUnit 0x5300 0x0B 64 i
/-- FabricLinkHold (R224). -/
def fabricLinkHold : Nat := linearKey 0x6000 0x01 0
/-- CnpInterval (R224). -/
def cnpInterval : Nat := linearKey 0x6000 0x02 0
/-- RateRecoveryPeriod (R224). -/
def rateRecoveryPeriod : Nat := linearKey 0x6000 0x03 0
/-- RnrTimerCode (R224). -/
def rnrTimerCode : Nat := linearKey 0x6000 0x04 0
/-- FabricAccessViolations (R224). -/
def fabricAccessViolations : Nat := linearKey 0x6000 0x05 0
/-- MacWidth (R224). -/
def macWidth (i : Nat) : Nat := linearUnit 0x6010 0x01 8 i
/-- MacLaneRate (R224). -/
def macLaneRate (i : Nat) : Nat := linearUnit 0x6010 0x02 8 i
/-- MacCommand (R224). -/
def macCommand (i : Nat) : Nat := linearUnit 0x6010 0x03 8 i
/-- MacCommandStatus (R224). -/
def macCommandStatus (i : Nat) : Nat := linearUnit 0x6010 0x04 8 i
/-- PortState (R224). -/
def portState (i : Nat) : Nat := linearUnit 0x6020 0x01 16 i
/-- PortRate (R224). -/
def portRate (i : Nat) : Nat := linearUnit 0x6020 0x02 16 i
/-- PortLanesActive (R224). -/
def portLanesActive (i : Nat) : Nat := linearUnit 0x6020 0x03 16 i
/-- PortMacAddress (R224). -/
def portMacAddress (i : Nat) : Nat := linearUnit 0x6020 0x04 16 i
/-- PortAddress (R224). -/
def portAddress (i : Nat) : Nat := linearUnit 0x6020 0x05 16 i
/-- PortVlan (R224). -/
def portVlan (i : Nat) : Nat := linearUnit 0x6020 0x06 16 i
/-- PortPfcMask (R224). -/
def portPfcMask (i : Nat) : Nat := linearUnit 0x6020 0x07 16 i
/-- PortFcsErrors (R224). -/
def portFcsErrors (i : Nat) : Nat := linearUnit 0x6020 0x08 16 i
/-- PortIcrcErrors (R224). -/
def portIcrcErrors (i : Nat) : Nat := linearUnit 0x6020 0x09 16 i
/-- PortRxDiscards (R224). -/
def portRxDiscards (i : Nat) : Nat := linearUnit 0x6020 0x0A 16 i
/-- PortQpMisses (R224). -/
def portQpMisses (i : Nat) : Nat := linearUnit 0x6020 0x0B 16 i
/-- PortRnrNaksSent (R224). -/
def portRnrNaksSent (i : Nat) : Nat := linearUnit 0x6020 0x0C 16 i
/-- PortCnpsSent (R224). -/
def portCnpsSent (i : Nat) : Nat := linearUnit 0x6020 0x0D 16 i
/-- LaneEnable (R224). -/
def laneEnable (i : Nat) : Nat := linearUnit 0x6040 0x01 64 i
/-- LaneState (R224). -/
def laneState (i : Nat) : Nat := linearUnit 0x6040 0x02 64 i
/-- LaneRate (R224). -/
def laneRate (i : Nat) : Nat := linearUnit 0x6040 0x03 64 i
/-- LaneRxPolarityInverted (R224). -/
def laneRxPolarityInverted (i : Nat) : Nat := linearUnit 0x6040 0x04 64 i
/-- LanePartnerLane (R224). -/
def lanePartnerLane (i : Nat) : Nat := linearUnit 0x6040 0x05 64 i
/-- LaneFecCorrected (R224). -/
def laneFecCorrected (i : Nat) : Nat := linearUnit 0x6040 0x06 64 i
/-- LaneFecUncorrected (R224). -/
def laneFecUncorrected (i : Nat) : Nat := linearUnit 0x6040 0x07 64 i
/-- HoopQpLimit (R224). -/
def hoopQpLimit (i : Nat) : Nat := linearUnit 0x6080 0x01 16 i
/-- HoopQpsInUse (R224). -/
def hoopQpsInUse (i : Nat) : Nat := linearUnit 0x6080 0x02 16 i
/-- HoopWindowsInUse (R224). -/
def hoopWindowsInUse (i : Nat) : Nat := linearUnit 0x6080 0x03 16 i
/-- HoopFabricRxBytes (R224). -/
def hoopFabricRxBytes (i : Nat) : Nat := linearUnit 0x6080 0x04 16 i
/-- HoopFabricTxBytes (R224). -/
def hoopFabricTxBytes (i : Nat) : Nat := linearUnit 0x6080 0x05 16 i
/-- WindowState (R225). -/
def windowState (i : Nat) : Nat := packedUnit 0x6100 0x00 16384 i
/-- WindowCommand (R225). -/
def windowCommand (i : Nat) : Nat := packedUnit 0x6100 0x01 16384 i
/-- WindowCommandStatus (R225). -/
def windowCommandStatus (i : Nat) : Nat := packedUnit 0x6100 0x02 16384 i
/-- WindowHoop (R225). -/
def windowHoop (i : Nat) : Nat := packedUnit 0x6100 0x03 16384 i
/-- WindowLength (R225). -/
def windowLength (i : Nat) : Nat := packedUnit 0x6100 0x04 16384 i
/-- WindowGroup (R225). -/
def windowGroup (i : Nat) : Nat := packedUnit 0x6100 0x05 16384 i
/-- WindowPlanEntry (R225). -/
def windowPlanEntry (i : Nat) : Nat := packedUnit 0x6100 0x06 16384 i
/-- WindowSliceBytes (R225). -/
def windowSliceBytes (i : Nat) : Nat := packedUnit 0x6100 0x07 16384 i
/-- WindowBuffer (R225). -/
def windowBuffer (i : Nat) : Nat := packedUnit 0x6100 0x08 16384 i
/-- WindowBufferOffset (R225). -/
def windowBufferOffset (i : Nat) : Nat := packedUnit 0x6100 0x09 16384 i
/-- WindowAccess (R225). -/
def windowAccess (i : Nat) : Nat := packedUnit 0x6100 0x0A 16384 i
/-- WindowGeneration (R225). -/
def windowGeneration (i : Nat) : Nat := packedUnit 0x6100 0x0B 16384 i
/-- WindowRemoteKey (R225). -/
def windowRemoteKey (i : Nat) : Nat := packedUnit 0x6100 0x0C 16384 i
/-- WindowPackets (R225). -/
def windowPackets (i : Nat) : Nat := packedUnit 0x6100 0x0D 16384 i
/-- QpState (R226). -/
def qpState (i : Nat) : Nat := packedUnit 0x6500 0x00 16384 i
/-- QpCommand (R226). -/
def qpCommand (i : Nat) : Nat := packedUnit 0x6500 0x01 16384 i
/-- QpCommandStatus (R226). -/
def qpCommandStatus (i : Nat) : Nat := packedUnit 0x6500 0x02 16384 i
/-- QpHoop (R226). -/
def qpHoop (i : Nat) : Nat := packedUnit 0x6500 0x03 16384 i
/-- QpPort (R226). -/
def qpPort (i : Nat) : Nat := packedUnit 0x6500 0x04 16384 i
/-- QpRemoteQpn (R226). -/
def qpRemoteQpn (i : Nat) : Nat := packedUnit 0x6500 0x05 16384 i
/-- QpRemoteAddress (R226). -/
def qpRemoteAddress (i : Nat) : Nat := packedUnit 0x6500 0x06 16384 i
/-- QpPsns (R226). -/
def qpPsns (i : Nat) : Nat := packedUnit 0x6500 0x07 16384 i
/-- QpPathMtu (R226). -/
def qpPathMtu (i : Nat) : Nat := packedUnit 0x6500 0x08 16384 i
/-- QpTimers (R226). -/
def qpTimers (i : Nat) : Nat := packedUnit 0x6500 0x09 16384 i
/-- QpTrafficClass (R226). -/
def qpTrafficClass (i : Nat) : Nat := packedUnit 0x6500 0x0A 16384 i
/-- QpErrorCause (R226). -/
def qpErrorCause (i : Nat) : Nat := packedUnit 0x6500 0x0B 16384 i
/-- QpRate (R226). -/
def qpRate (i : Nat) : Nat := packedUnit 0x6500 0x0C 16384 i
/-- QpPacketsSent (R226). -/
def qpPacketsSent (i : Nat) : Nat := packedUnit 0x6500 0x0D 16384 i
/-- QpPacketsReceived (R226). -/
def qpPacketsReceived (i : Nat) : Nat := packedUnit 0x6500 0x0E 16384 i
/-- QpNaksSent (R226). -/
def qpNaksSent (i : Nat) : Nat := packedUnit 0x6500 0x0F 16384 i
/-- TargetQp (R226). -/
def targetQp (i : Nat) : Nat := packedUnit 0x6900 0x00 16384 i
/-- TargetRemoteKey (R226). -/
def targetRemoteKey (i : Nat) : Nat := packedUnit 0x6900 0x01 16384 i
/-- TargetBase (R226). -/
def targetBase (i : Nat) : Nat := packedUnit 0x6900 0x02 16384 i
/-- TargetLength (R226). -/
def targetLength (i : Nat) : Nat := packedUnit 0x6900 0x03 16384 i
/-- LineSkewLimit (R251). -/
def lineSkewLimit : Nat := linearKey 0x7000 0x01 0
/-- LineWalesUp (R251). -/
def lineWalesUp : Nat := linearKey 0x7000 0x02 0
/-- LineLaneWale (R251). -/
def lineLaneWale (i : Nat) : Nat := linearUnit 0x7020 0x01 32 i
/-- LineLaneMemberIndex (R251). -/
def lineLaneMemberIndex (i : Nat) : Nat := linearUnit 0x7020 0x02 32 i
/-- LineLaneAlignState (R251). -/
def lineLaneAlignState (i : Nat) : Nat := linearUnit 0x7020 0x03 32 i
/-- LineLaneDefects (R251). -/
def lineLaneDefects (i : Nat) : Nat := linearUnit 0x7020 0x04 32 i
/-- LineLaneBipErrors (R251). -/
def lineLaneBipErrors (i : Nat) : Nat := linearUnit 0x7020 0x05 32 i
/-- LineLaneFarEndErrors (R251). -/
def lineLaneFarEndErrors (i : Nat) : Nat := linearUnit 0x7020 0x06 32 i
/-- LineLaneOofCount (R251). -/
def lineLaneOofCount (i : Nat) : Nat := linearUnit 0x7020 0x07 32 i
/-- LineLaneCrcErrors (R251). -/
def lineLaneCrcErrors (i : Nat) : Nat := linearUnit 0x7020 0x08 32 i
/-- LineLanePositionMismatch (R251). -/
def lineLanePositionMismatch (i : Nat) : Nat := linearUnit 0x7020 0x09 32 i
/-- LineLaneRxTrace (R251). -/
def lineLaneRxTrace (i : Nat) : Nat := linearUnit 0x7020 0x0A 32 i
/-- LineLaneSkew (R251). -/
def lineLaneSkew (i : Nat) : Nat := linearUnit 0x7020 0x0B 32 i
/-- LineLaneRxLabel (R251). -/
def lineLaneRxLabel (i : Nat) : Nat := linearUnit 0x7020 0x0C 32 i
/-- WaleState (R252). -/
def waleState (i : Nat) : Nat := linearUnit 0x7040 0x01 32 i
/-- WaleCommand (R252). -/
def waleCommand (i : Nat) : Nat := linearUnit 0x7040 0x02 32 i
/-- WaleCommandLane (R252). -/
def waleCommandLane (i : Nat) : Nat := linearUnit 0x7040 0x03 32 i
/-- WaleCommandStatus (R252). -/
def waleCommandStatus (i : Nat) : Nat := linearUnit 0x7040 0x04 32 i
/-- WaleIdentity (R252). -/
def waleIdentity (i : Nat) : Nat := linearUnit 0x7040 0x05 32 i
/-- WaleLanes (R252). -/
def waleLanes (i : Nat) : Nat := linearUnit 0x7040 0x06 32 i
/-- WalePeerNode (R252). -/
def walePeerNode (i : Nat) : Nat := linearUnit 0x7040 0x07 32 i
/-- WaleTxMap (R252). -/
def waleTxMap (i : Nat) : Nat := linearUnit 0x7040 0x08 32 i
/-- WaleRxMap (R252). -/
def waleRxMap (i : Nat) : Nat := linearUnit 0x7040 0x09 32 i
/-- WaleTxStakes (R252). -/
def waleTxStakes (i : Nat) : Nat := linearUnit 0x7040 0x0A 32 i
/-- WaleRxStakes (R252). -/
def waleRxStakes (i : Nat) : Nat := linearUnit 0x7040 0x0B 32 i
/-- WaleSkewMax (R252). -/
def waleSkewMax (i : Nat) : Nat := linearUnit 0x7040 0x0C 32 i
/-- WaleStakeEvents (R252). -/
def waleStakeEvents (i : Nat) : Nat := linearUnit 0x7040 0x0D 32 i
/-- WaleStreamBreaks (R252). -/
def waleStreamBreaks (i : Nat) : Nat := linearUnit 0x7040 0x0E 32 i
/-- WaleRejoinHold (R252). -/
def waleRejoinHold (i : Nat) : Nat := linearUnit 0x7040 0x0F 32 i
/-- LineFecMode (R269). -/
def lineFecMode (i : Nat) : Nat := linearUnit 0x7060 0x01 32 i
/-- LineFecLocked (R269). -/
def lineFecLocked (i : Nat) : Nat := linearUnit 0x7060 0x02 32 i
/-- LineFecLockLosses (R269). -/
def lineFecLockLosses (i : Nat) : Nat := linearUnit 0x7060 0x03 32 i
/-- LineFecCorrectedBits (R269). -/
def lineFecCorrectedBits (i : Nat) : Nat := linearUnit 0x7060 0x04 32 i
/-- LineFecUncorrectable (R269). -/
def lineFecUncorrectable (i : Nat) : Nat := linearUnit 0x7060 0x05 32 i
/-- LineFecPreBer (R269). -/
def lineFecPreBer (i : Nat) : Nat := linearUnit 0x7060 0x06 32 i
/-- LineFecDegradeThreshold (R269). -/
def lineFecDegradeThreshold (i : Nat) : Nat := linearUnit 0x7060 0x07 32 i
/-- LineMapFrames (R269). -/
def lineMapFrames (i : Nat) : Nat := linearUnit 0x7060 0x08 32 i
/-- RepeatSackInterval (R270). -/
def repeatSackInterval : Nat := linearKey 0x7000 0x03 0
/-- RepeatOrderMargin (R270). -/
def repeatOrderMargin : Nat := linearKey 0x7000 0x04 0
/-- RepeatReorderMargin (R270). -/
def repeatReorderMargin : Nat := linearKey 0x7000 0x05 0
/-- RepeatSilence (R270). -/
def repeatSilence : Nat := linearKey 0x7000 0x06 0
/-- RepeatDarkHold (R270). -/
def repeatDarkHold : Nat := linearKey 0x7000 0x07 0
/-- RepeatInitialTimeout (R270). -/
def repeatInitialTimeout : Nat := linearKey 0x7000 0x08 0
/-- RepeatWindowSegments (R270). -/
def repeatWindowSegments : Nat := linearKey 0x7000 0x09 0
/-- RepeatLaneShareBytes (R270). -/
def repeatLaneShareBytes : Nat := linearKey 0x7000 0x0A 0
/-- RepeatState (R270). -/
def repeatState (i : Nat) : Nat := linearUnit 0x7080 0x01 32 i
/-- RepeatTxNext (R270). -/
def repeatTxNext (i : Nat) : Nat := linearUnit 0x7080 0x02 32 i
/-- RepeatTxCumulative (R270). -/
def repeatTxCumulative (i : Nat) : Nat := linearUnit 0x7080 0x03 32 i
/-- RepeatTxOutstanding (R270). -/
def repeatTxOutstanding (i : Nat) : Nat := linearUnit 0x7080 0x04 32 i
/-- RepeatTxBytes (R270). -/
def repeatTxBytes (i : Nat) : Nat := linearUnit 0x7080 0x05 32 i
/-- RepeatShareBytes (R270). -/
def repeatShareBytes (i : Nat) : Nat := linearUnit 0x7080 0x06 32 i
/-- RepeatSrtt (R270). -/
def repeatSrtt (i : Nat) : Nat := linearUnit 0x7080 0x07 32 i
/-- RepeatTimeout (R270). -/
def repeatTimeout (i : Nat) : Nat := linearUnit 0x7080 0x08 32 i
/-- RepeatResends (R270). -/
def repeatResends (i : Nat) : Nat := linearUnit 0x7080 0x09 32 i
/-- RepeatRequestsReceived (R270). -/
def repeatRequestsReceived (i : Nat) : Nat := linearUnit 0x7080 0x0A 32 i
/-- RepeatWindowFullWaits (R270). -/
def repeatWindowFullWaits (i : Nat) : Nat := linearUnit 0x7080 0x0B 32 i
/-- RepeatRxCumulative (R270). -/
def repeatRxCumulative (i : Nat) : Nat := linearUnit 0x7080 0x0C 32 i
/-- RepeatRxDuplicates (R270). -/
def repeatRxDuplicates (i : Nat) : Nat := linearUnit 0x7080 0x0D 32 i
/-- RepeatRxRequestsSent (R270). -/
def repeatRxRequestsSent (i : Nat) : Nat := linearUnit 0x7080 0x0E 32 i
/-- SegmentsFecDiscarded (R270). -/
def segmentsFecDiscarded (i : Nat) : Nat := linearUnit 0x7080 0x0F 32 i
/-- SegmentHeaderErrors (R270). -/
def segmentHeaderErrors (i : Nat) : Nat := linearUnit 0x7080 0x10 32 i
/-- RepeatHoldElapsed (R270). -/
def repeatHoldElapsed (i : Nat) : Nat := linearUnit 0x7080 0x11 32 i
/-- RepeatSessionDiscards (R270). -/
def repeatSessionDiscards (i : Nat) : Nat := linearUnit 0x7080 0x12 32 i
/-- LineRekeySegments (R289). -/
def lineRekeySegments : Nat := linearKey 0x7800 0x01 0
/-- LineRekeyInterval (R289). -/
def lineRekeyInterval : Nat := linearKey 0x7800 0x02 0
/-- LineDummyRate (R289). -/
def lineDummyRate : Nat := linearKey 0x7800 0x03 0
/-- LineShuffle (R289). -/
def lineShuffle : Nat := linearKey 0x7800 0x04 0
/-- LineAuthFailLimit (R289). -/
def lineAuthFailLimit : Nat := linearKey 0x7800 0x05 0
/-- LineTransitEnable (R289). -/
def lineTransitEnable : Nat := linearKey 0x7800 0x06 0
/-- LineCipherPathFaults (R289). -/
def lineCipherPathFaults : Nat := linearKey 0x7800 0x07 0
/-- LineEpochUnknown (R289). -/
def lineEpochUnknown : Nat := linearKey 0x7800 0x08 0
/-- LineHoopClearEnableA (R289). -/
def lineHoopClearEnableA (i : Nat) : Nat := linearUnit 0x7820 0x01 16 i
/-- LineHoopClearEnableB (R289). -/
def lineHoopClearEnableB (i : Nat) : Nat := linearUnit 0x7820 0x02 16 i
/-- LineHoopAuthFailures (R289). -/
def lineHoopAuthFailures (i : Nat) : Nat := linearUnit 0x7820 0x03 16 i
/-- LineHoopSessions (R289). -/
def lineHoopSessions (i : Nat) : Nat := linearUnit 0x7820 0x04 16 i
/-- LineSession0State (R290). -/
def lineSession0State (i : Nat) : Nat := linearUnit 0x7880 0x01 32 i
/-- LineSessionStatus (R290). -/
def lineSessionStatus (i : Nat) : Nat := linearUnit 0x7880 0x02 32 i
/-- LinePeerIdentityDigest (R290). -/
def linePeerIdentityDigest (i : Nat) : Nat := linearUnit 0x7880 0x03 32 i
/-- LineSessionCommand (R290). -/
def lineSessionCommand (i : Nat) : Nat := linearUnit 0x7880 0x04 32 i
/-- LineSessionCommandArg (R290). -/
def lineSessionCommandArg (i : Nat) : Nat := linearUnit 0x7880 0x05 32 i
/-- LineSessionCommandStatus (R290). -/
def lineSessionCommandStatus (i : Nat) : Nat := linearUnit 0x7880 0x06 32 i
/-- LineSessionTable (R290). -/
def lineSessionTable (i : Nat) : Nat := linearUnit 0x7880 0x07 32 i
/-- LineHandshakeStray (R290). -/
def lineHandshakeStray (i : Nat) : Nat := linearUnit 0x7880 0x08 32 i
/-- LineAuthFailures (R290). -/
def lineAuthFailures (i : Nat) : Nat := linearUnit 0x7880 0x09 32 i
/-- OpticsAprDelay (R309). -/
def opticsAprDelay : Nat := linearKey 0x8000 0x01 0
/-- OpticsAprLaunch (R309). -/
def opticsAprLaunch : Nat := linearKey 0x8000 0x02 0
/-- OpticsEvictOnFecDegrade (R309). -/
def opticsEvictOnFecDegrade : Nat := linearKey 0x8000 0x03 0
/-- SparesFree (R309). -/
def sparesFree : Nat := linearKey 0x8000 0x04 0
/-- OpticsEyeSafetyTrips (R309). -/
def opticsEyeSafetyTrips : Nat := linearKey 0x8000 0x05 0
/-- PairSetting (R309). -/
def pairSetting (i : Nat) : Nat := linearUnit 0x8020 0x01 16 i
/-- PairSingleEnd (R309). -/
def pairSingleEnd (i : Nat) : Nat := linearUnit 0x8020 0x02 16 i
/-- PairCommandStatus (R309). -/
def pairCommandStatus (i : Nat) : Nat := linearUnit 0x8020 0x03 16 i
/-- LineLaneMode (R310). -/
def lineLaneMode (i : Nat) : Nat := linearUnit 0x8040 0x01 32 i
/-- LineLaneResolution (R310). -/
def lineLaneResolution (i : Nat) : Nat := linearUnit 0x8040 0x02 32 i
/-- LineLaneFrequency (R310). -/
def lineLaneFrequency (i : Nat) : Nat := linearUnit 0x8040 0x03 32 i
/-- LineLaneLaunch (R310). -/
def lineLaneLaunch (i : Nat) : Nat := linearUnit 0x8040 0x04 32 i
/-- LineLosThreshold (R310). -/
def lineLosThreshold (i : Nat) : Nat := linearUnit 0x8040 0x05 32 i
/-- LineLaneEnd (R310). -/
def lineLaneEnd (i : Nat) : Nat := linearUnit 0x8040 0x06 32 i
/-- LineLaneOpticalState (R310). -/
def lineLaneOpticalState (i : Nat) : Nat := linearUnit 0x8040 0x07 32 i
/-- LineRxPower (R310). -/
def lineRxPower (i : Nat) : Nat := linearUnit 0x8040 0x08 32 i
/-- LineTxPower (R310). -/
def lineTxPower (i : Nat) : Nat := linearUnit 0x8040 0x09 32 i
/-- LineLaneDspPower (R310). -/
def lineLaneDspPower (i : Nat) : Nat := linearUnit 0x8040 0x0A 32 i
/-- IpTxSelect (R310). -/
def ipTxSelect (i : Nat) : Nat := linearUnit 0x80A0 0x01 16 i
/-- IpRxSelect (R310). -/
def ipRxSelect (i : Nat) : Nat := linearUnit 0x80A0 0x02 16 i
/-- IpPortsPresent (R310). -/
def ipPortsPresent (i : Nat) : Nat := linearUnit 0x80A0 0x03 16 i
/-- IpLaser (R310). -/
def ipLaser (i : Nat) : Nat := linearUnit 0x80A0 0x04 16 i
/-- IpCommand (R310). -/
def ipCommand (i : Nat) : Nat := linearUnit 0x80A0 0x05 16 i
/-- IpCommandStatus (R310). -/
def ipCommandStatus (i : Nat) : Nat := linearUnit 0x80A0 0x06 16 i
/-- LaserState (R311). -/
def laserState (i : Nat) : Nat := linearUnit 0x80C0 0x01 20 i
/-- LaserServes (R311). -/
def laserServes (i : Nat) : Nat := linearUnit 0x80C0 0x02 20 i
/-- LaserBias (R311). -/
def laserBias (i : Nat) : Nat := linearUnit 0x80C0 0x03 20 i
/-- LaserBackFacet (R311). -/
def laserBackFacet (i : Nat) : Nat := linearUnit 0x80C0 0x04 20 i
/-- LaserCommissionedBias (R311). -/
def laserCommissionedBias (i : Nat) : Nat := linearUnit 0x80C0 0x05 20 i
/-- LaserCommissionedPower (R311). -/
def laserCommissionedPower (i : Nat) : Nat := linearUnit 0x80C0 0x06 20 i
/-- LaserCommand (R311). -/
def laserCommand (i : Nat) : Nat := linearUnit 0x80C0 0x07 20 i
/-- EngineState (R311). -/
def engineState (i : Nat) : Nat := linearUnit 0x8100 0x01 16 i
/-- EngineBias (R311). -/
def engineBias (i : Nat) : Nat := linearUnit 0x8100 0x02 16 i
/-- EngineBackFacet (R311). -/
def engineBackFacet (i : Nat) : Nat := linearUnit 0x8100 0x03 16 i
/-- EngineCommissionedBias (R311). -/
def engineCommissionedBias (i : Nat) : Nat := linearUnit 0x8100 0x04 16 i
/-- EngineCommissionedPower (R311). -/
def engineCommissionedPower (i : Nat) : Nat := linearUnit 0x8100 0x05 16 i
/-- EngineCommand (R311). -/
def engineCommand (i : Nat) : Nat := linearUnit 0x8100 0x06 16 i
/-- SchedTransitWeight (R322). -/
def schedTransitWeight : Nat := linearKey 0x9000 0x01 0
/-- SchedSampleCommand (R322). -/
def schedSampleCommand : Nat := linearKey 0x9000 0x02 0
/-- SchedSampleState (R322). -/
def schedSampleState : Nat := linearKey 0x9000 0x03 0
/-- SchedSamplesTaken (R322). -/
def schedSamplesTaken : Nat := linearKey 0x9000 0x04 0
/-- WaleVc2Weight (R322). -/
def waleVc2Weight (i : Nat) : Nat := linearUnit 0x9020 0x01 32 i
/-- WaleVc3Weight (R322). -/
def waleVc3Weight (i : Nat) : Nat := linearUnit 0x9020 0x02 32 i
/-- WaleChargeOverhead (R322). -/
def waleChargeOverhead (i : Nat) : Nat := linearUnit 0x9020 0x03 32 i
/-- WaleChargeVc2 (R322). -/
def waleChargeVc2 (i : Nat) : Nat := linearUnit 0x9020 0x04 32 i
/-- WaleChargeVc3 (R322). -/
def waleChargeVc3 (i : Nat) : Nat := linearUnit 0x9020 0x05 32 i
/-- WaleDeficits (R322). -/
def waleDeficits (i : Nat) : Nat := linearUnit 0x9020 0x06 32 i
/-- LaneTxFixedSlots (R322). -/
def laneTxFixedSlots (i : Nat) : Nat := linearUnit 0x9060 0x01 32 i
/-- LaneTxFixedCharge (R322). -/
def laneTxFixedCharge (i : Nat) : Nat := linearUnit 0x9060 0x02 32 i
/-- LaneTxConcatBytes (R322). -/
def laneTxConcatBytes (i : Nat) : Nat := linearUnit 0x9060 0x03 32 i
/-- HoopVc1Weight (R323). -/
def hoopVc1Weight (i : Nat) : Nat := linearUnit 0x9040 0x01 16 i
/-- HoopVc2Weight (R323). -/
def hoopVc2Weight (i : Nat) : Nat := linearUnit 0x9040 0x02 16 i
/-- HoopVc3Weight (R323). -/
def hoopVc3Weight (i : Nat) : Nat := linearUnit 0x9040 0x03 16 i
/-- HoopPolicerEnable (R323). -/
def hoopPolicerEnable (i : Nat) : Nat := linearUnit 0x9040 0x04 16 i
/-- HoopCir (R323). -/
def hoopCir (i : Nat) : Nat := linearUnit 0x9040 0x05 16 i
/-- HoopCbs (R323). -/
def hoopCbs (i : Nat) : Nat := linearUnit 0x9040 0x06 16 i
/-- HoopPir (R323). -/
def hoopPir (i : Nat) : Nat := linearUnit 0x9040 0x07 16 i
/-- HoopPbs (R323). -/
def hoopPbs (i : Nat) : Nat := linearUnit 0x9040 0x08 16 i
/-- HoopGreenBytes (R323). -/
def hoopGreenBytes (i : Nat) : Nat := linearUnit 0x9040 0x09 16 i
/-- HoopYellowBytes (R323). -/
def hoopYellowBytes (i : Nat) : Nat := linearUnit 0x9040 0x0A 16 i
/-- HoopRedHolds (R323). -/
def hoopRedHolds (i : Nat) : Nat := linearUnit 0x9040 0x0B 16 i
/-- HoopTokens (R323). -/
def hoopTokens (i : Nat) : Nat := linearUnit 0x9040 0x0C 16 i
/-- HoopQueueHistVc0 (R323). -/
def hoopQueueHistVc0 (i : Nat) : Nat := linearUnit 0x9080 0x01 17 i
/-- HoopQueueHistVc1 (R323). -/
def hoopQueueHistVc1 (i : Nat) : Nat := linearUnit 0x9080 0x02 17 i
/-- HoopQueueHistVc2 (R323). -/
def hoopQueueHistVc2 (i : Nat) : Nat := linearUnit 0x9080 0x03 17 i
/-- HoopQueueHistVc3 (R323). -/
def hoopQueueHistVc3 (i : Nat) : Nat := linearUnit 0x9080 0x04 17 i
/-- HoopQueueHistVc4 (R323). -/
def hoopQueueHistVc4 (i : Nat) : Nat := linearUnit 0x9080 0x05 17 i
/-- HoopQueueDelayMax (R323). -/
def hoopQueueDelayMax (i : Nat) : Nat := linearUnit 0x9080 0x06 17 i
/-- WaleQueueHistVc0 (R323). -/
def waleQueueHistVc0 (i : Nat) : Nat := linearUnit 0x90A0 0x01 32 i
/-- WaleQueueHistVc1 (R323). -/
def waleQueueHistVc1 (i : Nat) : Nat := linearUnit 0x90A0 0x02 32 i
/-- WaleQueueHistVc2 (R323). -/
def waleQueueHistVc2 (i : Nat) : Nat := linearUnit 0x90A0 0x03 32 i
/-- WaleQueueHistVc3 (R323). -/
def waleQueueHistVc3 (i : Nat) : Nat := linearUnit 0x90A0 0x04 32 i
/-- WaleQueueHistVc4 (R323). -/
def waleQueueHistVc4 (i : Nat) : Nat := linearUnit 0x90A0 0x05 32 i
/-- NodeIdentity (R349). -/
def nodeIdentity : Nat := linearKey 0xA000 0x01 0
/-- FabricAddress (R349). -/
def fabricAddress : Nat := linearKey 0xA000 0x02 0
/-- FabricAutoWale (R349). -/
def fabricAutoWale : Nat := linearKey 0xA000 0x03 0
/-- HeartbeatMisses (R349). -/
def heartbeatMisses : Nat := linearKey 0xA000 0x04 0
/-- MemberLostHold (R349). -/
def memberLostHold : Nat := linearKey 0xA000 0x05 0
/-- PartitionHold (R349). -/
def partitionHold : Nat := linearKey 0xA000 0x06 0
/-- HealthScore (R349). -/
def healthScore : Nat := linearKey 0xA000 0x07 0
/-- HealthExpelThreshold (R349). -/
def healthExpelThreshold : Nat := linearKey 0xA000 0x08 0
/-- HealthExpelInterval (R349). -/
def healthExpelInterval : Nat := linearKey 0xA000 0x09 0
/-- ExpelProposals (R349). -/
def expelProposals : Nat := linearKey 0xA000 0x0A 0
/-- ExpelSuppressed (R349). -/
def expelSuppressed : Nat := linearKey 0xA000 0x0B 0
/-- RouteTable (R349). -/
def routeTable : Nat := linearKey 0xA000 0x0C 0
/-- PeerTable (R349). -/
def peerTable : Nat := linearKey 0xA000 0x0D 0
/-- FenceRecord (R350). -/
def fenceRecord (i : Nat) : Nat := linearUnit 0xA020 0x01 16 i
/-- FenceList (R350). -/
def fenceList (i : Nat) : Nat := linearUnit 0xA020 0x02 16 i
/-- PartitionState (R350). -/
def partitionState (i : Nat) : Nat := linearUnit 0xA020 0x03 16 i
/-- PartitionSide (R350). -/
def partitionSide (i : Nat) : Nat := linearUnit 0xA020 0x04 16 i
/-- PartitionBaseStep (R350). -/
def partitionBaseStep (i : Nat) : Nat := linearUnit 0xA020 0x05 16 i
/-- AutonomousSteps (R350). -/
def autonomousSteps (i : Nat) : Nat := linearUnit 0xA020 0x06 16 i
/-- ShadowCommand (R350). -/
def shadowCommand (i : Nat) : Nat := linearUnit 0xA020 0x07 16 i
/-- ShadowPrimary (R350). -/
def shadowPrimary (i : Nat) : Nat := linearUnit 0xA020 0x08 16 i
/-- ShadowState (R350). -/
def shadowState (i : Nat) : Nat := linearUnit 0xA020 0x09 16 i
/-- ShadowMatchedSteps (R350). -/
def shadowMatchedSteps (i : Nat) : Nat := linearUnit 0xA020 0x0A 16 i
/-- ShadowPromoteSteps (R350). -/
def shadowPromoteSteps (i : Nat) : Nat := linearUnit 0xA020 0x0B 16 i
/-- ShadowMismatches (R350). -/
def shadowMismatches (i : Nat) : Nat := linearUnit 0xA020 0x0C 16 i
/-- TimeTickRate (R364). -/
def timeTickRate : Nat := linearKey 0xB000 0x01 0
/-- ProtectedTime (R364). -/
def protectedTime : Nat := linearKey 0xB000 0x02 0
/-- ProtectedSelect (R364). -/
def protectedSelect : Nat := linearKey 0xB000 0x03 0
/-- ProtectedOffset (R364). -/
def protectedOffset : Nat := linearKey 0xB000 0x04 0
/-- TimePreferred (R364). -/
def timePreferred : Nat := linearKey 0xB000 0x05 0
/-- TimeRevertive (R364). -/
def timeRevertive : Nat := linearKey 0xB000 0x06 0
/-- TimeRevertHold (R364). -/
def timeRevertHold : Nat := linearKey 0xB000 0x07 0
/-- TimeSlewLimit (R364). -/
def timeSlewLimit : Nat := linearKey 0xB000 0x08 0
/-- TimeLockThreshold (R364). -/
def timeLockThreshold : Nat := linearKey 0xB000 0x09 0
/-- TimeSourceTimeout (R364). -/
def timeSourceTimeout : Nat := linearKey 0xB000 0x0A 0
/-- TimeSelectChanges (R364). -/
def timeSelectChanges : Nat := linearKey 0xB000 0x0B 0
/-- TimePpsOutSource (R364). -/
def timePpsOutSource : Nat := linearKey 0xB000 0x0C 0
/-- TimePpsOutWidth (R364). -/
def timePpsOutWidth : Nat := linearKey 0xB000 0x0D 0
/-- TimePpsOutDelay (R364). -/
def timePpsOutDelay : Nat := linearKey 0xB000 0x0E 0
/-- TimePpsInCapture (R364). -/
def timePpsInCapture : Nat := linearKey 0xB000 0x0F 0
/-- TimePpsInCount (R364). -/
def timePpsInCount : Nat := linearKey 0xB000 0x10 0
/-- TimeLinePriority (R364). -/
def timeLinePriority : Nat := linearKey 0xB000 0x11 0
/-- TimeLineReference (R364). -/
def timeLineReference : Nat := linearKey 0xB000 0x12 0
/-- TimeLineParent (R364). -/
def timeLineParent : Nat := linearKey 0xB000 0x13 0
/-- TimeLineHops (R364). -/
def timeLineHops : Nat := linearKey 0xB000 0x14 0
/-- TimeLineStepThreshold (R364). -/
def timeLineStepThreshold : Nat := linearKey 0xB000 0x15 0
/-- TbTime (R364). -/
def tbTime (i : Nat) : Nat := linearUnit 0xB010 0x01 4 i
/-- TbIncrement (R364). -/
def tbIncrement (i : Nat) : Nat := linearUnit 0xB010 0x02 4 i
/-- TbSetTime (R364). -/
def tbSetTime (i : Nat) : Nat := linearUnit 0xB010 0x03 4 i
/-- TbState (R364). -/
def tbState (i : Nat) : Nat := linearUnit 0xB010 0x04 4 i
/-- TbOffset (R364). -/
def tbOffset (i : Nat) : Nat := linearUnit 0xB010 0x05 4 i
/-- TbSteps (R364). -/
def tbSteps (i : Nat) : Nat := linearUnit 0xB010 0x06 4 i
/-- TbServo (R364). -/
def tbServo (i : Nat) : Nat := linearUnit 0xB010 0x07 4 i
/-- TimeDomainNumber (R364). -/
def timeDomainNumber (i : Nat) : Nat := linearUnit 0xB020 0x01 2 i
/-- TimeDomainPort (R364). -/
def timeDomainPort (i : Nat) : Nat := linearUnit 0xB020 0x02 2 i
/-- TimeMasterIdentity (R364). -/
def timeMasterIdentity (i : Nat) : Nat := linearUnit 0xB020 0x03 2 i
/-- TimeMeanPathDelay (R364). -/
def timeMeanPathDelay (i : Nat) : Nat := linearUnit 0xB020 0x04 2 i
/-- WaleTimeAsymmetry (R365). -/
def waleTimeAsymmetry (i : Nat) : Nat := linearUnit 0xB040 0x01 32 i
/-- WaleTimeOffset (R365). -/
def waleTimeOffset (i : Nat) : Nat := linearUnit 0xB040 0x02 32 i
/-- WaleTimeRtt (R365). -/
def waleTimeRtt (i : Nat) : Nat := linearUnit 0xB040 0x03 32 i
/-- StepTriggerSource (R365). -/
def stepTriggerSource (i : Nat) : Nat := linearUnit 0xB060 0x01 16 i
/-- StepTriggerPeriod (R365). -/
def stepTriggerPeriod (i : Nat) : Nat := linearUnit 0xB060 0x02 16 i
/-- StepTriggerPhase (R365). -/
def stepTriggerPhase (i : Nat) : Nat := linearUnit 0xB060 0x03 16 i
/-- StepTriggerTarget (R365). -/
def stepTriggerTarget (i : Nat) : Nat := linearUnit 0xB060 0x04 16 i
/-- StepBoundaryCount (R365). -/
def stepBoundaryCount (i : Nat) : Nat := linearUnit 0xB060 0x05 16 i
/-- StepBoundaryLast (R365). -/
def stepBoundaryLast (i : Nat) : Nat := linearUnit 0xB060 0x06 16 i
/-- ClockDomainCount (R381). -/
def clockDomainCount : Nat := linearKey 0xC000 0x01 0
/-- GatedAccessCount (R381). -/
def gatedAccessCount : Nat := linearKey 0xC000 0x02 0
/-- ClkoutSelect (R381). -/
def clkoutSelect : Nat := linearKey 0xC000 0x03 0
/-- ClkoutDivisor (R381). -/
def clkoutDivisor : Nat := linearKey 0xC000 0x04 0
/-- IntoscTrimSource (R381). -/
def intoscTrimSource : Nat := linearKey 0xC000 0x05 0
/-- IntoscTrimLane (R381). -/
def intoscTrimLane : Nat := linearKey 0xC000 0x06 0
/-- IntoscTrimCode (R381). -/
def intoscTrimCode : Nat := linearKey 0xC000 0x07 0
/-- IntoscTrimState (R381). -/
def intoscTrimState : Nat := linearKey 0xC000 0x08 0
/-- IntoscError (R381). -/
def intoscError : Nat := linearKey 0xC000 0x09 0
/-- SourceReady (R381). -/
def sourceReady (i : Nat) : Nat := linearUnit 0xC010 0x01 5 i
/-- SourceFrequency (R381). -/
def sourceFrequency (i : Nat) : Nat := linearUnit 0xC010 0x02 5 i
/-- SourceFailures (R381). -/
def sourceFailures (i : Nat) : Nat := linearUnit 0xC010 0x03 5 i
/-- DomainSource (R381). -/
def domainSource (i : Nat) : Nat := linearUnit 0xC100 0x01 100 i
/-- DomainState (R381). -/
def domainState (i : Nat) : Nat := linearUnit 0xC100 0x02 100 i
/-- DomainCommand (R381). -/
def domainCommand (i : Nat) : Nat := linearUnit 0xC100 0x03 100 i
/-- DomainCommandStatus (R381). -/
def domainCommandStatus (i : Nat) : Nat := linearUnit 0xC100 0x04 100 i
/-- DomainFrequency (R381). -/
def domainFrequency (i : Nat) : Nat := linearUnit 0xC100 0x05 100 i
/-- DomainFailures (R381). -/
def domainFailures (i : Nat) : Nat := linearUnit 0xC100 0x06 100 i
/-- ModulePowerLimit (R396). -/
def modulePowerLimit : Nat := linearKey 0xC300 0x01 0
/-- ModuleInputPower (R396). -/
def moduleInputPower : Nat := linearKey 0xC300 0x02 0
/-- ModulePowerCeiling (R396). -/
def modulePowerCeiling : Nat := linearKey 0xC300 0x03 0
/-- DiePowerBudgetBase (R396). -/
def diePowerBudgetBase : Nat := linearKey 0xC300 0x04 0
/-- TileIdleHold (R396). -/
def tileIdleHold : Nat := linearKey 0xC300 0x05 0
/-- StandbyInputPower (R396). -/
def standbyInputPower : Nat := linearKey 0xC300 0x06 0
/-- ThermalShutdowns (R396). -/
def thermalShutdowns : Nat := linearKey 0xC300 0x07 0
/-- DiePowerBudget (R396). -/
def diePowerBudget (i : Nat) : Nat := linearUnit 0xC310 0x01 8 i
/-- DiePower (R396). -/
def diePower (i : Nat) : Nat := linearUnit 0xC310 0x02 8 i
/-- DieTemperatureMax (R396). -/
def dieTemperatureMax (i : Nat) : Nat := linearUnit 0xC320 0x01 25 i
/-- DieThermalCeiling (R396). -/
def dieThermalCeiling (i : Nat) : Nat := linearUnit 0xC320 0x02 25 i
/-- DomainVoteHost (R397). -/
def domainVoteHost (i : Nat) : Nat := linearUnit 0xC400 0x01 100 i
/-- DomainVoteFirmware (R397). -/
def domainVoteFirmware (i : Nat) : Nat := linearUnit 0xC400 0x02 100 i
/-- DomainVoteHoop (R397). -/
def domainVoteHoop (i : Nat) : Nat := linearUnit 0xC400 0x03 100 i
/-- DomainVoteThermal (R397). -/
def domainVoteThermal (i : Nat) : Nat := linearUnit 0xC400 0x04 100 i
/-- DomainTarget (R397). -/
def domainTarget (i : Nat) : Nat := linearUnit 0xC400 0x05 100 i
/-- DomainCeiling (R397). -/
def domainCeiling (i : Nat) : Nat := linearUnit 0xC400 0x06 100 i
/-- DomainLevel (R397). -/
def domainLevel (i : Nat) : Nat := linearUnit 0xC400 0x07 100 i
/-- DomainSleepState (R397). -/
def domainSleepState (i : Nat) : Nat := linearUnit 0xC400 0x08 100 i
/-- DomainEntryAborts (R397). -/
def domainEntryAborts (i : Nat) : Nat := linearUnit 0xC400 0x09 100 i
/-- DomainVoltage (R397). -/
def domainVoltage (i : Nat) : Nat := linearUnit 0xC400 0x0A 100 i
/-- HoopTileLevel (R398). -/
def hoopTileLevel (i : Nat) : Nat := linearUnit 0xC500 0x01 16 i
/-- HoopIdleState (R398). -/
def hoopIdleState (i : Nat) : Nat := linearUnit 0xC500 0x02 16 i
/-- HoopPowerCap (R398). -/
def hoopPowerCap (i : Nat) : Nat := linearUnit 0xC500 0x03 16 i
/-- HoopCapWindow (R398). -/
def hoopCapWindow (i : Nat) : Nat := linearUnit 0xC500 0x04 16 i
/-- HoopTilePower (R398). -/
def hoopTilePower (i : Nat) : Nat := linearUnit 0xC500 0x05 16 i
/-- HoopCapCeiling (R398). -/
def hoopCapCeiling (i : Nat) : Nat := linearUnit 0xC500 0x06 16 i
/-- HoopCapEvents (R398). -/
def hoopCapEvents (i : Nat) : Nat := linearUnit 0xC500 0x07 16 i
/-- ContextSelect (R416). -/
def contextSelect : Nat := linearKey 0xF010 0x01 0
/-- ContextRead (R416). -/
def contextRead : Nat := linearKey 0xF010 0x02 0
/-- SequencerSelect (R416). -/
def sequencerSelect : Nat := linearKey 0xF010 0x03 0
/-- SequencerRead (R416). -/
def sequencerRead : Nat := linearKey 0xF010 0x04 0
/-- DeviceName (R424). -/
def deviceName : Nat := linearKey 0x1000 0x01 0
/-- PartNumber (R424). -/
def partNumber : Nat := linearKey 0x1000 0x02 0
/-- SerialNumber (R424). -/
def serialNumber : Nat := linearKey 0x1000 0x03 0
/-- FirmwareVersion (R424). -/
def firmwareVersion : Nat := linearKey 0x1000 0x04 0
/-- DictionaryVersion (R424). -/
def dictionaryVersion : Nat := linearKey 0x1000 0x05 0
/-- PdpEnable (R424). -/
def pdpEnable : Nat := linearKey 0x1000 0x06 0
/-- PdpPort (R424). -/
def pdpPort : Nat := linearKey 0x1000 0x07 0
/-- PdpSessionsOpen (R424). -/
def pdpSessionsOpen : Nat := linearKey 0x1000 0x08 0
/-- PdpAuthFailures (R424). -/
def pdpAuthFailures : Nat := linearKey 0x1000 0x09 0
/-- PdpKeyTable (R424). -/
def pdpKeyTable : Nat := linearKey 0x1000 0x0A 0
/-- PeerGrantTable (R424). -/
def peerGrantTable : Nat := linearKey 0x1000 0x0B 0
/-- PeerAccessRefusals (R424). -/
def peerAccessRefusals : Nat := linearKey 0x1000 0x0C 0
/-- SigCounter (R424). -/
def sigCounter : Nat := linearKey 0x1000 0x0D 0
/-- MgtAddress (R424). -/
def mgtAddress (i : Nat) : Nat := linearUnit 0x1010 0x01 2 i
/-- MgtLinkState (R424). -/
def mgtLinkState (i : Nat) : Nat := linearUnit 0x1010 0x02 2 i
/-- MailboxReceiver (R424). -/
def mailboxReceiver (i : Nat) : Nat := linearUnit 0x1100 0x01 64 i
/-- MailboxSession (R424). -/
def mailboxSession (i : Nat) : Nat := linearUnit 0x1100 0x02 64 i
/-- MailboxHoop (R424). -/
def mailboxHoop (i : Nat) : Nat := linearUnit 0x1100 0x03 64 i
/-- MailboxTimeout (R424). -/
def mailboxTimeout (i : Nat) : Nat := linearUnit 0x1100 0x04 64 i
/-- MailboxState (R424). -/
def mailboxState (i : Nat) : Nat := linearUnit 0x1100 0x05 64 i
/-- MailboxWord (R424). -/
def mailboxWord (i : Nat) : Nat := linearUnit 0x1100 0x06 64 i
/-- MailboxPost (R424). -/
def mailboxPost (i : Nat) : Nat := linearUnit 0x1100 0x07 64 i
/-- MailboxTake (R424). -/
def mailboxTake (i : Nat) : Nat := linearUnit 0x1100 0x08 64 i
/-- MailboxVector (R424). -/
def mailboxVector (i : Nat) : Nat := linearUnit 0x1100 0x09 64 i
/-- MailboxTimeouts (R424). -/
def mailboxTimeouts (i : Nat) : Nat := linearUnit 0x1100 0x0A 64 i
/-- PersistSequence (R425). -/
def persistSequence : Nat := linearKey 0x1200 0x01 0
/-- PersistPending (R425). -/
def persistPending : Nat := linearKey 0x1200 0x02 0
/-- PersistCommand (R425). -/
def persistCommand : Nat := linearKey 0x1200 0x03 0
/-- PersistCommandStatus (R425). -/
def persistCommandStatus : Nat := linearKey 0x1200 0x04 0
/-- PersistCopyState (R425). -/
def persistCopyState : Nat := linearKey 0x1200 0x05 0
/-- PersistCommitDelay (R425). -/
def persistCommitDelay : Nat := linearKey 0x1200 0x06 0
/-- PersistCommits (R425). -/
def persistCommits : Nat := linearKey 0x1200 0x07 0
/-- PersistRecordBytes (R425). -/
def persistRecordBytes : Nat := linearKey 0x1200 0x08 0
/-- SnapshotCommand (R425). -/
def snapshotCommand : Nat := linearKey 0xF000 0x01 0
/-- SnapshotLock (R425). -/
def snapshotLock : Nat := linearKey 0xF000 0x02 0
/-- SnapshotCount (R425). -/
def snapshotCount : Nat := linearKey 0xF000 0x03 0
/-- SnapshotMissed (R425). -/
def snapshotMissed : Nat := linearKey 0xF000 0x04 0
/-- SnapshotTimes (R425). -/
def snapshotTimes : Nat := linearKey 0xF000 0x05 0
/-- SnapshotSource (R425). -/
def snapshotSource : Nat := linearKey 0xF000 0x06 0
/-- SnapshotArmBase (R425). -/
def snapshotArmBase : Nat := linearKey 0xF000 0x07 0
/-- SnapshotArmTime (R425). -/
def snapshotArmTime : Nat := linearKey 0xF000 0x08 0
/-- SnapshotInEnable (R425). -/
def snapshotInEnable : Nat := linearKey 0xF000 0x09 0
/-- SnapshotOutEnable (R425). -/
def snapshotOutEnable : Nat := linearKey 0xF000 0x0A 0
/-- IdentityKey (R446). -/
def identityKey : Nat := linearKey 0xD000 0x01 0
/-- DeviceCertificate (R446). -/
def deviceCertificate : Nat := linearKey 0xD000 0x02 0
/-- OwnerKey (R446). -/
def ownerKey : Nat := linearKey 0xD000 0x03 0
/-- OwnershipSequence (R446). -/
def ownershipSequence : Nat := linearKey 0xD000 0x04 0
/-- OwnershipTransfer (R446). -/
def ownershipTransfer : Nat := linearKey 0xD000 0x05 0
/-- RollbackFloor (R446). -/
def rollbackFloor : Nat := linearKey 0xD000 0x06 0
/-- FirmwareHash (R446). -/
def firmwareHash : Nat := linearKey 0xD000 0x07 0
/-- SecurityVersion (R446). -/
def securityVersion : Nat := linearKey 0xD000 0x08 0
/-- FirmwareActiveSlot (R446). -/
def firmwareActiveSlot : Nat := linearKey 0xD000 0x09 0
/-- FirmwareStageWrite (R446). -/
def firmwareStageWrite : Nat := linearKey 0xD000 0x0A 0
/-- FirmwareStageLength (R446). -/
def firmwareStageLength : Nat := linearKey 0xD000 0x0B 0
/-- FirmwareCommand (R446). -/
def firmwareCommand : Nat := linearKey 0xD000 0x0C 0
/-- FirmwareCommandStatus (R446). -/
def firmwareCommandStatus : Nat := linearKey 0xD000 0x0D 0
/-- AttestNonce (R446). -/
def attestNonce : Nat := linearKey 0xD000 0x0E 0
/-- AttestQuote (R446). -/
def attestQuote : Nat := linearKey 0xD000 0x0F 0
/-- AttestStatus (R446). -/
def attestStatus : Nat := linearKey 0xD000 0x10 0
/-- HoopProgramKey (R447). -/
def hoopProgramKey (i : Nat) : Nat := linearUnit 0xD020 0x01 16 i
/-- HoopControllerKey (R447). -/
def hoopControllerKey (i : Nat) : Nat := linearUnit 0xD020 0x02 16 i
/-- HoopEvacuationKey (R447). -/
def hoopEvacuationKey (i : Nat) : Nat := linearUnit 0xD020 0x03 16 i
/-- HoopAttestNonce (R447). -/
def hoopAttestNonce (i : Nat) : Nat := linearUnit 0xD020 0x04 16 i
/-- HoopAttestQuote (R447). -/
def hoopAttestQuote (i : Nat) : Nat := linearUnit 0xD020 0x05 16 i
/-- HoopAttestStatus (R447). -/
def hoopAttestStatus (i : Nat) : Nat := linearUnit 0xD020 0x06 16 i
/-- MeterReadSequence (R448). -/
def meterReadSequence : Nat := linearKey 0xD100 0x01 0
/-- MeterStageWrite (R448). -/
def meterStageWrite : Nat := linearKey 0xD100 0x02 0
/-- MeterStageLength (R448). -/
def meterStageLength : Nat := linearKey 0xD100 0x03 0
/-- MeterCommand (R448). -/
def meterCommand : Nat := linearKey 0xD100 0x04 0
/-- MeterCommandStatus (R448). -/
def meterCommandStatus : Nat := linearKey 0xD100 0x05 0
/-- MeterPublicKey (R448). -/
def meterPublicKey : Nat := linearKey 0xD800 0x01 0
/-- MeterCertificate (R448). -/
def meterCertificate : Nat := linearKey 0xD800 0x02 0
/-- MeterFirmwareHash (R448). -/
def meterFirmwareHash : Nat := linearKey 0xD800 0x03 0
/-- MeterSealCounter (R448). -/
def meterSealCounter : Nat := linearKey 0xD800 0x04 0
/-- MeterLastSequence (R448). -/
def meterLastSequence : Nat := linearKey 0xD800 0x05 0
/-- MeterOldestSequence (R448). -/
def meterOldestSequence : Nat := linearKey 0xD800 0x06 0
/-- MeterRecordRead (R448). -/
def meterRecordRead : Nat := linearKey 0xD800 0x07 0
/-- MeterState (R448). -/
def meterState : Nat := linearKey 0xD800 0x08 0
/-- MeterLiveHoop (R448). -/
def meterLiveHoop (i : Nat) : Nat := linearUnit 0xD820 0x01 16 i
/-- EventLogNewest (R463). -/
def eventLogNewest : Nat := linearKey 0xE000 0x01 0
/-- EventLogOldest (R463). -/
def eventLogOldest : Nat := linearKey 0xE000 0x02 0
/-- EventLogSelect (R463). -/
def eventLogSelect : Nat := linearKey 0xE000 0x03 0
/-- EventLogRead (R463). -/
def eventLogRead : Nat := linearKey 0xE000 0x04 0
/-- EventLogOverruns (R463). -/
def eventLogOverruns : Nat := linearKey 0xE000 0x05 0
/-- EventIrqSeverity (R463). -/
def eventIrqSeverity : Nat := linearKey 0xE000 0x06 0
/-- EventAlertSeverity (R463). -/
def eventAlertSeverity : Nat := linearKey 0xE000 0x07 0
/-- EventAck (R463). -/
def eventAck : Nat := linearKey 0xE000 0x08 0
/-- EventUnacked (R463). -/
def eventUnacked : Nat := linearKey 0xE000 0x09 0
/-- EventCriticalRecord (R463). -/
def eventCriticalRecord : Nat := linearKey 0xE000 0x0A 0
/-- InputState (R463). -/
def inputState : Nat := linearKey 0xE000 0x0B 0
/-- DieLinkFaults (R463). -/
def dieLinkFaults : Nat := linearKey 0xE000 0x0C 0
/-- HoopFaultCause (R463). -/
def hoopFaultCause (i : Nat) : Nat := linearUnit 0xE020 0x01 16 i
/-- HoopFaultDetail (R463). -/
def hoopFaultDetail (i : Nat) : Nat := linearUnit 0xE020 0x02 16 i
/-- ModuleState (R478). -/
def moduleState : Nat := linearKey 0xC600 0x01 0
/-- StartupStage (R478). -/
def startupStage : Nat := linearKey 0xC600 0x02 0
/-- LimpCause (R478). -/
def limpCause : Nat := linearKey 0xC600 0x03 0
/-- RegulatorFailed (R478). -/
def regulatorFailed : Nat := linearKey 0xC600 0x04 0
/-- RegulatorRetries (R478). -/
def regulatorRetries : Nat := linearKey 0xC600 0x05 0
/-- ResetCommand (R478). -/
def resetCommand : Nat := linearKey 0xC600 0x06 0
/-- ResetTarget (R478). -/
def resetTarget : Nat := linearKey 0xC600 0x07 0
/-- ResetCommandStatus (R478). -/
def resetCommandStatus : Nat := linearKey 0xC600 0x08 0
/-- LastResetClass (R478). -/
def lastResetClass : Nat := linearKey 0xC600 0x09 0
/-- WarmResets (R478). -/
def warmResets : Nat := linearKey 0xC600 0x0A 0
/-- ModuleVariant (R492). -/
def moduleVariant : Nat := linearKey 0xC700 0x01 0
/-- BoardEngineSitesFitted (R492). -/
def boardEngineSitesFitted : Nat := linearKey 0xC700 0x02 0
/-- MainInputVoltage (R492). -/
def mainInputVoltage : Nat := linearKey 0xC700 0x03 0
/-- StandbyInputVoltage (R492). -/
def standbyInputVoltage : Nat := linearKey 0xC700 0x04 0
/-- CoolantInletTemperature (R492). -/
def coolantInletTemperature : Nat := linearKey 0xC700 0x05 0
/-- CoolantOutletTemperature (R492). -/
def coolantOutletTemperature : Nat := linearKey 0xC700 0x06 0
/-- OpticalConnectorsPresent (R492). -/
def opticalConnectorsPresent : Nat := linearKey 0xC700 0x07 0

end Obj

/-- Object rows of the range 0x1000. -/
def objRows1 : List ObjRow := [
  ⟨0x1000, 1, false, 0x01, .str, .ro, .v, 64, none, none, fun _ => .blob (asciiBytes "Coelle KC4810")⟩,
  ⟨0x1000, 1, false, 0x02, .str, .ro, .v, 64, none, none, fun _ => .blob []⟩,
  ⟨0x1000, 1, false, 0x03, .str, .ro, .v, 64, none, none, fun _ => .blob []⟩,
  ⟨0x1000, 1, false, 0x04, .u32, .ro, .v, 4, none, none, fun _ => .num 0⟩,
  ⟨0x1000, 1, false, 0x05, .u16, .ro, .v, 2, none, none, fun _ => .num 1⟩,
  ⟨0x1000, 1, false, 0x06, .bool, .rw, .p, 1, some (0, 1), none, fun _ => .num 1⟩,
  ⟨0x1000, 1, false, 0x07, .u16, .rw, .p, 2, some (1024, 65535), none, fun _ => .num 4810⟩,
  ⟨0x1000, 1, false, 0x08, .u8, .ro, .v, 1, none, none, fun _ => .num 0⟩,
  ⟨0x1000, 1, false, 0x09, .u32, .ro, .w, 4, none, none, fun _ => .num 0⟩,
  ⟨0x1000, 1, false, 0x0A, .blob, .sig, .p, 1152, none, none, fun _ => .blob []⟩,
  ⟨0x1000, 1, false, 0x0B, .blob, .sig, .v, 768, none, none, fun _ => .blob []⟩,
  ⟨0x1000, 1, false, 0x0C, .u32, .ro, .v, 4, none, none, fun _ => .num 0⟩,
  ⟨0x1000, 1, false, 0x0D, .u64, .ro, .p, 8, none, none, fun _ => .num 0⟩,
  ⟨0x1010, 2, false, 0x01, .blob, .rw, .p, 16, none, none, fun _ => .blob []⟩,
  ⟨0x1010, 2, false, 0x02, .enum, .ro, .v, 2, none, none, fun _ => .num 0⟩,
  ⟨0x1100, 64, false, 0x01, .enum, .rw, .p, 2, some (0, 2), none, fun _ => .num 0⟩,
  ⟨0x1100, 64, false, 0x02, .u8, .rw, .v, 1, some (0, 15), none, fun _ => .num 0⟩,
  ⟨0x1100, 64, false, 0x03, .u8, .rw, .p, 1, none, none, fun _ => .num 255⟩,
  ⟨0x1100, 64, false, 0x04, .u32, .rw, .p, 4, some (10, 10000000), none, fun _ => .num 10000⟩,
  ⟨0x1100, 64, false, 0x05, .u16, .ro, .v, 2, none, none, fun _ => .num 0⟩,
  ⟨0x1100, 64, false, 0x06, .u32, .ro, .v, 4, none, none, fun _ => .num 0⟩,
  ⟨0x1100, 64, false, 0x07, .u32, .wo, .v, 4, none, none, fun _ => .num 0⟩,
  ⟨0x1100, 64, false, 0x08, .u32, .ro, .v, 4, none, none, fun _ => .num 0⟩,
  ⟨0x1100, 64, false, 0x09, .u8, .rw, .p, 1, some (4, 63), none, fun i => .num (4 + i % 60)⟩,
  ⟨0x1100, 64, false, 0x0A, .u32, .ro, .v, 4, none, none, fun _ => .num 0⟩,
  ⟨0x1200, 1, false, 0x01, .u64, .ro, .v, 8, none, none, fun _ => .num 0⟩,
  ⟨0x1200, 1, false, 0x02, .u32, .ro, .v, 4, none, none, fun _ => .num 0⟩,
  ⟨0x1200, 1, false, 0x03, .enum, .wo, .v, 2, some (1, 1), none, fun _ => .num 0⟩,
  ⟨0x1200, 1, false, 0x04, .enum, .ro, .v, 2, none, none, fun _ => .num 0⟩,
  ⟨0x1200, 1, false, 0x05, .u8, .ro, .w, 1, none, none, fun _ => .num 0⟩,
  ⟨0x1200, 1, false, 0x06, .u32, .rw, .p, 4, some (100, 60000), none, fun _ => .num 1000⟩,
  ⟨0x1200, 1, false, 0x07, .u64, .ro, .w, 8, none, none, fun _ => .num 0⟩,
  ⟨0x1200, 1, false, 0x08, .u32, .ro, .v, 4, none, none, fun _ => .num 0⟩]

/-- Object rows of the range 0x2000. -/
def objRows2 : List ObjRow := [
  ⟨0x2000, 1, false, 0x01, .u8, .ro, .v, 1, none, none, fun _ => .num 16⟩,
  ⟨0x2000, 1, false, 0x02, .u64, .ro, .v, 8, none, none, fun _ => .num 0⟩,
  ⟨0x2000, 1, false, 0x03, .u64, .ro, .v, 8, none, none, fun _ => .num 0⟩,
  ⟨0x2100, 16, false, 0x01, .enum, .ro, .h, 2, none, none, fun _ => .num 0⟩,
  ⟨0x2100, 16, false, 0x02, .enum, .wo, .v, 2, some (1, 7), none, fun _ => .num 0⟩,
  ⟨0x2100, 16, false, 0x03, .enum, .ro, .v, 2, none, none, fun _ => .num 0⟩,
  ⟨0x2100, 16, false, 0x04, .u64, .rws, .h, 8, none, none, fun _ => .num 0⟩,
  ⟨0x2100, 16, false, 0x05, .u64, .rws, .h, 8, none, none, fun _ => .num 0⟩,
  ⟨0x2100, 16, false, 0x06, .bool, .rws, .h, 1, some (0, 1), none, fun _ => .num 0⟩,
  ⟨0x2100, 16, false, 0x07, .u64, .rws, .h, 8, none, none, fun _ => .num 0⟩,
  ⟨0x2100, 16, false, 0x08, .u64, .ro, .v, 8, none, none, fun _ => .num 0⟩,
  ⟨0x2100, 16, false, 0x09, .u32, .ro, .h, 4, none, none, fun _ => .num 0⟩,
  ⟨0x2100, 16, false, 0x0A, .u8, .rws, .h, 1, none, none, fun _ => .num 4⟩,
  ⟨0x2100, 16, false, 0x0B, .blob, .rw, .h, 32, none, none, fun _ => .blob []⟩,
  ⟨0x2100, 16, false, 0x0C, .u64, .ro, .v, 8, none, none, fun _ => .num 0⟩,
  ⟨0x2100, 16, false, 0x0D, .enum, .ro, .v, 2, none, none, fun _ => .num 0⟩]

/-- Object rows of the range 0x3000. -/
def objRows3 : List ObjRow := [
  ⟨0x3100, 4096, true, 0x00, .enum, .ro, .h, 2, none, none, fun _ => .num 0⟩,
  ⟨0x3100, 4096, true, 0x01, .enum, .wo, .v, 2, some (1, 3), none, fun _ => .num 0⟩,
  ⟨0x3100, 4096, true, 0x02, .enum, .ro, .v, 2, none, none, fun _ => .num 0⟩,
  ⟨0x3100, 4096, true, 0x03, .blob, .rw, .h, 2072, none, none, fun _ => .blob []⟩,
  ⟨0x3100, 4096, true, 0x04, .u8, .ro, .h, 1, none, none, fun _ => .num 0⟩,
  ⟨0x3100, 4096, true, 0x05, .enum, .ro, .h, 2, none, none, fun _ => .num 0⟩,
  ⟨0x3100, 4096, true, 0x06, .u32, .ro, .h, 4, none, none, fun _ => .num 0⟩,
  ⟨0x3100, 4096, true, 0x07, .u32, .ro, .h, 4, none, none, fun _ => .num 0⟩,
  ⟨0x3100, 4096, true, 0x08, .u8, .ro, .h, 1, none, none, fun _ => .num 0⟩,
  ⟨0x3100, 4096, true, 0x09, .u16, .ro, .h, 2, none, none, fun _ => .num 65535⟩,
  ⟨0x3100, 4096, true, 0x0A, .u16, .ro, .h, 2, none, none, fun _ => .num 0⟩,
  ⟨0x3100, 4096, true, 0x0B, .u32, .ro, .h, 4, none, none, fun _ => .num 0⟩,
  ⟨0x3100, 4096, true, 0x0C, .enum, .ro, .v, 2, none, none, fun _ => .num 0⟩,
  ⟨0x3100, 4096, true, 0x0D, .u16, .ro, .v, 2, none, none, fun _ => .num 0⟩,
  ⟨0x3100, 4096, true, 0x0E, .u32, .ro, .v, 4, none, none, fun _ => .num 0⟩,
  ⟨0x3100, 4096, true, 0x0F, .enum, .ro, .v, 2, none, none, fun _ => .num 0⟩,
  ⟨0x3001, 1, false, 0x01, .blob, .wo, .v, 4096, none, none, fun _ => .blob []⟩,
  ⟨0x3001, 1, false, 0x02, .enum, .ro, .v, 2, none, none, fun _ => .num 0⟩,
  ⟨0x3000, 1, false, 0x01, .u32, .ro, .v, 4, none, none, fun _ => .num 65536⟩,
  ⟨0x3000, 1, false, 0x02, .u32, .ro, .v, 4, none, none, fun _ => .num 0⟩,
  ⟨0x3000, 1, false, 0x03, .u32, .ro, .v, 4, none, none, fun _ => .num 0⟩,
  ⟨0x3000, 1, false, 0x04, .u64, .ro, .v, 8, none, none, fun _ => .num 0⟩,
  ⟨0x3000, 1, false, 0x05, .u32, .rw, .p, 4, none, none, fun _ => .num 1000⟩,
  ⟨0x3000, 1, false, 0x06, .u16, .ro, .v, 2, none, none, fun _ => .num 0⟩,
  ⟨0x3000, 1, false, 0x07, .u16, .ro, .v, 2, none, none, fun _ => .num 0⟩,
  ⟨0x3020, 16, false, 0x01, .u32, .rws, .h, 4, none, none, fun _ => .num 2048⟩,
  ⟨0x3020, 16, false, 0x02, .u32, .ro, .v, 4, none, none, fun _ => .num 0⟩,
  ⟨0x3020, 16, false, 0x03, .u64, .ro, .v, 8, none, none, fun _ => .num 0⟩,
  ⟨0x3020, 16, false, 0x04, .u32, .ro, .v, 4, none, none, fun _ => .num 0⟩,
  ⟨0x3040, 16, false, 0x01, .u64, .rws, .h, 8, none, none, fun _ => .num 0⟩,
  ⟨0x3040, 16, false, 0x02, .u8, .ro, .h, 1, none, none, fun _ => .num 0⟩,
  ⟨0x3040, 16, false, 0x03, .blob, .ro, .h, 64, none, none, fun _ => .blob []⟩,
  ⟨0x3040, 16, false, 0x04, .u32, .rws, .h, 4, none, none, fun _ => .num 0⟩,
  ⟨0x3040, 16, false, 0x05, .blob, .ro, .h, 65536, none, none, fun _ => .blob []⟩,
  ⟨0x3040, 16, false, 0x06, .u64, .ro, .v, 8, none, none, fun _ => .num 0⟩,
  ⟨0x3040, 16, false, 0x07, .u16, .ro, .v, 2, none, none, fun _ => .num 0⟩]

/-- Object rows of the range 0x4000, part 1. -/
def objRows4a : List ObjRow := [
  ⟨0x4000, 1, false, 0x01, .u8, .ro, .v, 1, none, none, fun _ => .num 48⟩,
  ⟨0x4000, 1, false, 0x02, .u16, .rw, .p, 2, none, none, fun _ => .num 1⟩,
  ⟨0x4000, 1, false, 0x03, .u16, .rw, .p, 2, none, none, fun _ => .num 1⟩,
  ⟨0x4000, 1, false, 0x04, .u16, .rw, .p, 2, none, none, fun _ => .num 1000⟩,
  ⟨0x4000, 1, false, 0x05, .u64, .ro, .v, 8, none, none, fun _ => .num 0⟩,
  ⟨0x4100, 48, false, 0x01, .enum, .ro, .w, 2, none, none, fun _ => .num 0⟩,
  ⟨0x4100, 48, false, 0x02, .u8, .ro, .v, 1, none, none, fun _ => .num 255⟩,
  ⟨0x4100, 48, false, 0x03, .enum, .wo, .v, 2, some (1, 2), none, fun _ => .num 0⟩,
  ⟨0x4100, 48, false, 0x04, .enum, .ro, .w, 2, none, none, fun _ => .num 0⟩,
  ⟨0x4100, 48, false, 0x05, .i32, .ro, .v, 4, none, none, fun _ => .num 0⟩,
  ⟨0x4100, 48, false, 0x06, .bool, .ro, .v, 1, none, none, fun _ => .num 0⟩,
  ⟨0x4100, 48, false, 0x07, .blob, .ro, .v, 24, none, none, fun _ => .blob []⟩,
  ⟨0x4100, 48, false, 0x08, .u64, .ro, .v, 8, none, none, fun _ => .num 0⟩,
  ⟨0x4100, 48, false, 0x09, .u64, .ro, .v, 8, none, none, fun _ => .num 0⟩,
  ⟨0x4100, 48, false, 0x0A, .u64, .ro, .v, 8, none, none, fun _ => .num 0⟩,
  ⟨0x4100, 48, false, 0x0B, .u32, .ro, .v, 4, none, none, fun _ => .num 0⟩,
  ⟨0x4100, 48, false, 0x0C, .u32, .ro, .v, 4, none, none, fun _ => .num 0⟩,
  ⟨0x4100, 48, false, 0x0D, .u32, .ro, .v, 4, none, none, fun _ => .num 0⟩,
  ⟨0x4100, 48, false, 0x16, .enum, .ro, .v, 2, none, none, fun _ => .num 0⟩,
  ⟨0x4000, 1, false, 0x06, .u16, .ro, .v, 2, none, none, fun _ => .num 1⟩,
  ⟨0x4100, 48, false, 0x0E, .u8, .ro, .v, 1, none, none, fun _ => .num 0⟩,
  ⟨0x4100, 48, false, 0x0F, .u16, .ro, .v, 2, none, none, fun _ => .num 0⟩,
  ⟨0x4100, 48, false, 0x10, .u64, .ro, .v, 8, none, none, fun _ => .num 0⟩,
  ⟨0x4100, 48, false, 0x11, .u64, .ro, .v, 8, none, none, fun _ => .num 0⟩,
  ⟨0x4200, 16, false, 0x01, .blob, .wo, .v, 4100, none, none, fun _ => .blob []⟩,
  ⟨0x4200, 16, false, 0x02, .u32, .rw, .v, 4, none, none, fun _ => .num 0⟩,
  ⟨0x4200, 16, false, 0x03, .enum, .wo, .v, 2, some (1, 4), none, fun _ => .num 0⟩,
  ⟨0x4200, 16, false, 0x04, .u8, .rw, .v, 1, some (0, 15), none, fun _ => .num 0⟩,
  ⟨0x4200, 16, false, 0x05, .u32, .rw, .v, 4, none, none, fun _ => .num 0⟩,
  ⟨0x4200, 16, false, 0x06, .enum, .ro, .v, 2, none, none, fun _ => .num 0⟩,
  ⟨0x4200, 16, false, 0x07, .u8, .ro, .v, 1, none, none, fun _ => .num 0⟩,
  ⟨0x4200, 16, false, 0x08, .u32, .ro, .w, 4, none, none, fun _ => .num 0⟩,
  ⟨0x4200, 16, false, 0x09, .enum, .wo, .v, 2, some (1, 2), none, fun _ => .num 0⟩,
  ⟨0x4200, 16, false, 0x0A, .enum, .ro, .v, 2, none, none, fun _ => .num 0⟩,
  ⟨0x4200, 16, false, 0x0B, .u8, .ro, .v, 1, none, none, fun _ => .num 0⟩,
  ⟨0x4200, 16, false, 0x0C, .u16, .ro, .h, 2, none, none, fun _ => .num 0⟩,
  ⟨0x4300, 256, false, 0x01, .enum, .ro, .w, 2, none, none, fun _ => .num 0⟩,
  ⟨0x4300, 256, false, 0x02, .blob, .ro, .w, 64, none, none, fun _ => .blob []⟩,
  ⟨0x4300, 256, false, 0x03, .str, .ro, .w, 32, none, none, fun _ => .blob []⟩,
  ⟨0x4300, 256, false, 0x04, .blob, .ro, .w, 64, none, none, fun _ => .blob []⟩]

/-- Object rows of the range 0x4000, part 2. -/
def objRows4b : List ObjRow := [
  ⟨0x4300, 256, false, 0x05, .u32, .ro, .w, 4, none, none, fun _ => .num 0⟩,
  ⟨0x4300, 256, false, 0x06, .u64, .ro, .v, 8, none, none, fun _ => .num 0⟩,
  ⟨0x4100, 48, false, 0x12, .u32, .ro, .v, 4, none, none, fun _ => .num 0⟩,
  ⟨0x4100, 48, false, 0x13, .u32, .ro, .v, 4, none, none, fun _ => .num 0⟩,
  ⟨0x4000, 1, false, 0x07, .u32, .ro, .v, 4, none, none, fun _ => .num 1⟩,
  ⟨0x4100, 48, false, 0x14, .u64, .ro, .v, 8, none, none, fun _ => .num 0⟩,
  ⟨0x4100, 48, false, 0x15, .u64, .ro, .v, 8, none, none, fun _ => .num 0⟩]

/-- Object rows of the range 0x5000, part 1. -/
def objRows5a : List ObjRow := [
  ⟨0x5000, 1, false, 0x01, .u64, .ro, .v, 8, none, none, fun _ => .num 1374389534720⟩,
  ⟨0x5000, 1, false, 0x02, .u64, .ro, .v, 8, none, none, fun _ => .num 1202590842880⟩,
  ⟨0x5000, 1, false, 0x03, .u16, .ro, .v, 2, none, none, fun _ => .num 0⟩,
  ⟨0x5000, 1, false, 0x04, .blob, .ro, .p, 80, none, none, fun _ => .blob (List.replicate 80 0)⟩,
  ⟨0x5000, 1, false, 0x05, .enum, .rw, .p, 2, some (0, 1), none, fun _ => .num 1⟩,
  ⟨0x5000, 1, false, 0x06, .u32, .rw, .p, 4, none, none, fun _ => .num 4096⟩,
  ⟨0x5000, 1, false, 0x07, .u16, .rw, .p, 2, none, none, fun _ => .num 64⟩,
  ⟨0x5000, 1, false, 0x08, .u8, .rw, .p, 1, some (5, 50), none, fun _ => .num 25⟩,
  ⟨0x5000, 1, false, 0x09, .u32, .rw, .p, 4, some (3600, 86400), none, fun _ => .num 86400⟩,
  ⟨0x5000, 1, false, 0x0A, .u32, .ro, .w, 4, none, none, fun _ => .num 0⟩,
  ⟨0x5000, 1, false, 0x0B, .u64, .ro, .w, 8, none, none, fun _ => .num 0⟩,
  ⟨0x5000, 1, false, 0x0C, .u8, .rw, .p, 1, some (1, 20), none, fun _ => .num 20⟩,
  ⟨0x5000, 1, false, 0x0D, .u64, .ro, .v, 8, none, none, fun _ => .num 72074919936⟩,
  ⟨0x5000, 1, false, 0x0E, .u64, .ro, .w, 8, none, none, fun _ => .num 0⟩,
  ⟨0x5000, 1, false, 0x0F, .u64, .ro, .w, 8, none, none, fun _ => .num 0⟩,
  ⟨0x5010, 8, false, 0x01, .u8, .ro, .v, 1, none, none, fun _ => .num 80⟩,
  ⟨0x5010, 8, false, 0x02, .u64, .ro, .v, 8, none, none, fun _ => .num 150323855360⟩,
  ⟨0x5010, 8, false, 0x03, .u64, .ro, .w, 8, none, none, fun _ => .num 0⟩,
  ⟨0x5100, 640, true, 0x00, .enum, .ro, .w, 2, none, none, fun _ => .num 0⟩,
  ⟨0x5100, 640, true, 0x01, .u32, .ro, .w, 4, none, none, fun _ => .num 0⟩,
  ⟨0x5100, 640, true, 0x02, .u32, .ro, .w, 4, none, none, fun _ => .num 0⟩,
  ⟨0x5100, 640, true, 0x03, .u32, .ro, .w, 4, none, none, fun _ => .num 0⟩,
  ⟨0x5100, 640, true, 0x04, .u8, .ro, .w, 1, none, none, fun _ => .num 255⟩,
  ⟨0x5100, 640, true, 0x05, .enum, .wo, .v, 2, some (1, 2), none, fun _ => .num 0⟩,
  ⟨0x5100, 640, true, 0x06, .enum, .ro, .v, 2, none, none, fun _ => .num 0⟩,
  ⟨0x5200, 1, false, 0x01, .u32, .ro, .v, 4, none, none, fun _ => .num 539072⟩,
  ⟨0x5200, 1, false, 0x02, .u32, .ro, .v, 4, none, none, fun _ => .num 539072⟩,
  ⟨0x5200, 1, false, 0x03, .u64, .ro, .w, 8, none, none, fun _ => .num 0⟩,
  ⟨0x5200, 1, false, 0x04, .u32, .ro, .w, 4, none, none, fun _ => .num 0⟩,
  ⟨0x5200, 1, false, 0x05, .u64, .ro, .v, 8, none, none, fun _ => .num 0⟩,
  ⟨0x5210, 8, false, 0x01, .u32, .ro, .v, 4, none, none, fun _ => .num 67384⟩,
  ⟨0x5210, 8, false, 0x02, .u32, .ro, .v, 4, none, none, fun _ => .num 67384⟩,
  ⟨0x5210, 8, false, 0x03, .u32, .rw, .v, 4, none, none, fun _ => .num 0⟩,
  ⟨0x5210, 8, false, 0x04, .blob, .ro, .v, 520, none, none, fun _ => .blob []⟩,
  ⟨0x5220, 16, false, 0x01, .u32, .ro, .h, 4, none, none, fun _ => .num 0⟩,
  ⟨0x5220, 16, false, 0x02, .u32, .ro, .h, 4, none, none, fun _ => .num 0⟩,
  ⟨0x5220, 16, false, 0x03, .u32, .ro, .h, 4, none, none, fun _ => .num 0⟩,
  ⟨0x5220, 16, false, 0x04, .u32, .ro, .h, 4, none, none, fun _ => .num 0⟩,
  ⟨0x5300, 64, false, 0x01, .u32, .rws, .h, 4, none, none, fun _ => .num 0⟩,
  ⟨0x5300, 64, false, 0x02, .u32, .rws, .h, 4, none, none, fun _ => .num 0⟩]

/-- Object rows of the range 0x5000, part 2. -/
def objRows5b : List ObjRow := [
  ⟨0x5300, 64, false, 0x03, .u32, .rws, .h, 4, none, none, fun _ => .num 0⟩,
  ⟨0x5300, 64, false, 0x04, .u32, .rws, .h, 4, none, none, fun _ => .num 0⟩,
  ⟨0x5300, 64, false, 0x05, .u32, .ro, .v, 4, none, none, fun _ => .num 0⟩,
  ⟨0x5300, 64, false, 0x06, .u32, .ro, .v, 4, none, none, fun _ => .num 0⟩,
  ⟨0x5300, 64, false, 0x07, .u32, .ro, .v, 4, none, none, fun _ => .num 0⟩,
  ⟨0x5300, 64, false, 0x08, .u32, .ro, .v, 4, none, none, fun _ => .num 0⟩,
  ⟨0x5300, 64, false, 0x09, .u64, .ro, .v, 8, none, none, fun _ => .num 0⟩,
  ⟨0x5300, 64, false, 0x0A, .u16, .ro, .v, 2, none, none, fun _ => .num 0⟩,
  ⟨0x5300, 64, false, 0x0B, .u32, .ro, .v, 4, none, none, fun _ => .num 0⟩]

/-- Object rows of the range 0x6000, part 1. -/
def objRows6a : List ObjRow := [
  ⟨0x6000, 1, false, 0x01, .u32, .rw, .p, 4, none, none, fun _ => .num 2000⟩,
  ⟨0x6000, 1, false, 0x02, .u16, .rw, .p, 2, none, none, fun _ => .num 50⟩,
  ⟨0x6000, 1, false, 0x03, .u16, .rw, .p, 2, none, none, fun _ => .num 55⟩,
  ⟨0x6000, 1, false, 0x04, .u8, .rw, .p, 1, none, none, fun _ => .num 1⟩,
  ⟨0x6000, 1, false, 0x05, .u64, .ro, .w, 8, none, none, fun _ => .num 0⟩,
  ⟨0x6010, 8, false, 0x01, .enum, .rw, .p, 2, some (0, 1), none, fun _ => .num 0⟩,
  ⟨0x6010, 8, false, 0x02, .enum, .rw, .p, 2, some (0, 2), none, fun _ => .num 0⟩,
  ⟨0x6010, 8, false, 0x03, .enum, .wo, .v, 2, some (1, 1), none, fun _ => .num 0⟩,
  ⟨0x6010, 8, false, 0x04, .enum, .ro, .v, 2, none, none, fun _ => .num 0⟩,
  ⟨0x6020, 16, false, 0x01, .enum, .ro, .v, 2, none, none, fun _ => .num 0⟩,
  ⟨0x6020, 16, false, 0x02, .u32, .ro, .v, 4, none, none, fun _ => .num 0⟩,
  ⟨0x6020, 16, false, 0x03, .u8, .ro, .v, 1, none, none, fun _ => .num 0⟩,
  ⟨0x6020, 16, false, 0x04, .blob, .ro, .v, 6, none, none, fun _ => .blob []⟩,
  ⟨0x6020, 16, false, 0x05, .blob, .rw, .p, 16, none, none, fun _ => .blob []⟩,
  ⟨0x6020, 16, false, 0x06, .u16, .rw, .p, 2, none, none, fun _ => .num 65535⟩,
  ⟨0x6020, 16, false, 0x07, .u8, .rw, .p, 1, none, none, fun _ => .num 0⟩,
  ⟨0x6020, 16, false, 0x08, .u64, .ro, .v, 8, none, none, fun _ => .num 0⟩,
  ⟨0x6020, 16, false, 0x09, .u64, .ro, .v, 8, none, none, fun _ => .num 0⟩,
  ⟨0x6020, 16, false, 0x0A, .u64, .ro, .v, 8, none, none, fun _ => .num 0⟩,
  ⟨0x6020, 16, false, 0x0B, .u64, .ro, .v, 8, none, none, fun _ => .num 0⟩,
  ⟨0x6020, 16, false, 0x0C, .u64, .ro, .v, 8, none, none, fun _ => .num 0⟩,
  ⟨0x6020, 16, false, 0x0D, .u64, .ro, .v, 8, none, none, fun _ => .num 0⟩,
  ⟨0x6040, 64, false, 0x01, .bool, .rw, .p, 1, some (0, 1), none, fun _ => .num 1⟩,
  ⟨0x6040, 64, false, 0x02, .enum, .ro, .v, 2, none, none, fun _ => .num 0⟩,
  ⟨0x6040, 64, false, 0x03, .u16, .ro, .v, 2, none, none, fun _ => .num 0⟩,
  ⟨0x6040, 64, false, 0x04, .bool, .ro, .v, 1, none, none, fun _ => .num 0⟩,
  ⟨0x6040, 64, false, 0x05, .u8, .ro, .v, 1, none, none, fun _ => .num 255⟩,
  ⟨0x6040, 64, false, 0x06, .u64, .ro, .v, 8, none, none, fun _ => .num 0⟩,
  ⟨0x6040, 64, false, 0x07, .u64, .ro, .v, 8, none, none, fun _ => .num 0⟩,
  ⟨0x6080, 16, false, 0x01, .u16, .rws, .h, 2, none, none, fun _ => .num 1024⟩,
  ⟨0x6080, 16, false, 0x02, .u16, .ro, .v, 2, none, none, fun _ => .num 0⟩,
  ⟨0x6080, 16, false, 0x03, .u16, .ro, .v, 2, none, none, fun _ => .num 0⟩,
  ⟨0x6080, 16, false, 0x04, .u64, .ro, .v, 8, none, none, fun _ => .num 0⟩,
  ⟨0x6080, 16, false, 0x05, .u64, .ro, .v, 8, none, none, fun _ => .num 0⟩,
  ⟨0x6100, 16384, true, 0x00, .enum, .ro, .h, 2, none, none, fun _ => .num 0⟩,
  ⟨0x6100, 16384, true, 0x01, .enum, .wo, .v, 2, some (1, 3), none, fun _ => .num 0⟩,
  ⟨0x6100, 16384, true, 0x02, .enum, .ro, .v, 2, none, none, fun _ => .num 0⟩,
  ⟨0x6100, 16384, true, 0x03, .u8, .rw, .h, 1, none, none, fun _ => .num 0⟩,
  ⟨0x6100, 16384, true, 0x04, .u64, .rw, .h, 8, none, none, fun _ => .num 0⟩,
  ⟨0x6100, 16384, true, 0x05, .u16, .rw, .h, 2, none, none, fun _ => .num 65535⟩]

/-- Object rows of the range 0x6000, part 2. -/
def objRows6b : List ObjRow := [
  ⟨0x6100, 16384, true, 0x06, .u16, .rw, .h, 2, none, none, fun _ => .num 0⟩,
  ⟨0x6100, 16384, true, 0x07, .u64, .rw, .h, 8, none, none, fun _ => .num 0⟩,
  ⟨0x6100, 16384, true, 0x08, .u32, .rw, .h, 4, none, none, fun _ => .num 0⟩,
  ⟨0x6100, 16384, true, 0x09, .u64, .rw, .h, 8, none, none, fun _ => .num 0⟩,
  ⟨0x6100, 16384, true, 0x0A, .u8, .rw, .h, 1, none, some 0x3, fun _ => .num 1⟩,
  ⟨0x6100, 16384, true, 0x0B, .u32, .ro, .h, 4, none, none, fun _ => .num 0⟩,
  ⟨0x6100, 16384, true, 0x0C, .u32, .ro, .h, 4, none, none, fun _ => .num 0⟩,
  ⟨0x6100, 16384, true, 0x0D, .u64, .ro, .v, 8, none, none, fun _ => .num 0⟩,
  ⟨0x6500, 16384, true, 0x00, .enum, .ro, .h, 2, none, none, fun _ => .num 0⟩,
  ⟨0x6500, 16384, true, 0x01, .enum, .wo, .v, 2, some (1, 5), none, fun _ => .num 0⟩,
  ⟨0x6500, 16384, true, 0x02, .enum, .ro, .v, 2, none, none, fun _ => .num 0⟩,
  ⟨0x6500, 16384, true, 0x03, .u8, .rw, .h, 1, none, none, fun _ => .num 0⟩,
  ⟨0x6500, 16384, true, 0x04, .u8, .rw, .h, 1, some (0, 15), none, fun _ => .num 0⟩,
  ⟨0x6500, 16384, true, 0x05, .u32, .rw, .h, 4, none, some 0xFFFFFF, fun _ => .num 0⟩,
  ⟨0x6500, 16384, true, 0x06, .blob, .rw, .h, 16, none, none, fun _ => .blob []⟩,
  ⟨0x6500, 16384, true, 0x07, .u64, .rw, .h, 8, none, some 0xFFFFFF00FFFFFF, fun _ => .num 0⟩,
  ⟨0x6500, 16384, true, 0x08, .enum, .rw, .h, 2, some (0, 2), none, fun _ => .num 2⟩,
  ⟨0x6500, 16384, true, 0x09, .u32, .rw, .h, 4, none, some 0x1F07071F, fun _ => .num 17237780⟩,
  ⟨0x6500, 16384, true, 0x0A, .u8, .rw, .h, 1, none, none, fun _ => .num 104⟩,
  ⟨0x6500, 16384, true, 0x0B, .enum, .ro, .h, 2, none, none, fun _ => .num 0⟩,
  ⟨0x6500, 16384, true, 0x0C, .u32, .ro, .v, 4, none, none, fun _ => .num 0⟩,
  ⟨0x6500, 16384, true, 0x0D, .u64, .ro, .v, 8, none, none, fun _ => .num 0⟩,
  ⟨0x6500, 16384, true, 0x0E, .u64, .ro, .v, 8, none, none, fun _ => .num 0⟩,
  ⟨0x6500, 16384, true, 0x0F, .u64, .ro, .v, 8, none, none, fun _ => .num 0⟩,
  ⟨0x6900, 16384, true, 0x00, .u16, .rw, .h, 2, none, none, fun _ => .num 65535⟩,
  ⟨0x6900, 16384, true, 0x01, .u32, .rw, .h, 4, none, none, fun _ => .num 0⟩,
  ⟨0x6900, 16384, true, 0x02, .u64, .rw, .h, 8, none, none, fun _ => .num 0⟩,
  ⟨0x6900, 16384, true, 0x03, .u64, .rw, .h, 8, none, none, fun _ => .num 0⟩]

/-- Object rows of the range 0x7000, part 1. -/
def objRows7a : List ObjRow := [
  ⟨0x7000, 1, false, 0x01, .u32, .rw, .p, 4, some (100, 2000), none, fun _ => .num 2000⟩,
  ⟨0x7000, 1, false, 0x02, .u8, .ro, .v, 1, none, none, fun _ => .num 0⟩,
  ⟨0x7020, 32, false, 0x01, .u8, .ro, .v, 1, none, none, fun _ => .num 255⟩,
  ⟨0x7020, 32, false, 0x02, .u8, .ro, .v, 1, none, none, fun _ => .num 255⟩,
  ⟨0x7020, 32, false, 0x03, .enum, .ro, .v, 2, none, none, fun _ => .num 0⟩,
  ⟨0x7020, 32, false, 0x04, .u16, .ro, .v, 2, none, none, fun _ => .num 0⟩,
  ⟨0x7020, 32, false, 0x05, .u64, .ro, .v, 8, none, none, fun _ => .num 0⟩,
  ⟨0x7020, 32, false, 0x06, .u64, .ro, .v, 8, none, none, fun _ => .num 0⟩,
  ⟨0x7020, 32, false, 0x07, .u32, .ro, .v, 4, none, none, fun _ => .num 0⟩,
  ⟨0x7020, 32, false, 0x08, .u64, .ro, .v, 8, none, none, fun _ => .num 0⟩,
  ⟨0x7020, 32, false, 0x09, .u32, .ro, .v, 4, none, none, fun _ => .num 0⟩,
  ⟨0x7020, 32, false, 0x0A, .blob, .ro, .v, 64, none, none, fun _ => .blob []⟩,
  ⟨0x7020, 32, false, 0x0B, .i32, .ro, .v, 4, none, none, fun _ => .num 0⟩,
  ⟨0x7020, 32, false, 0x0C, .blob, .ro, .v, 33, none, none, fun _ => .blob []⟩,
  ⟨0x7040, 32, false, 0x01, .enum, .ro, .v, 2, none, none, fun _ => .num 0⟩,
  ⟨0x7040, 32, false, 0x02, .enum, .wo, .v, 2, some (1, 4), none, fun _ => .num 0⟩,
  ⟨0x7040, 32, false, 0x03, .u8, .rw, .v, 1, some (0, 31), none, fun _ => .num 0⟩,
  ⟨0x7040, 32, false, 0x04, .enum, .ro, .v, 2, none, none, fun _ => .num 0⟩,
  ⟨0x7040, 32, false, 0x05, .u32, .rw, .p, 4, none, some 0xFFFFFF, fun _ => .num 0⟩,
  ⟨0x7040, 32, false, 0x06, .u32, .rw, .p, 4, none, none, fun _ => .num 0⟩,
  ⟨0x7040, 32, false, 0x07, .u64, .rw, .p, 8, none, none, fun _ => .num 0⟩,
  ⟨0x7040, 32, false, 0x08, .u32, .ro, .v, 4, none, none, fun _ => .num 0⟩,
  ⟨0x7040, 32, false, 0x09, .u32, .ro, .v, 4, none, none, fun _ => .num 0⟩,
  ⟨0x7040, 32, false, 0x0A, .u16, .ro, .v, 2, none, none, fun _ => .num 65535⟩,
  ⟨0x7040, 32, false, 0x0B, .u16, .ro, .v, 2, none, none, fun _ => .num 65535⟩,
  ⟨0x7040, 32, false, 0x0C, .u32, .ro, .v, 4, none, none, fun _ => .num 0⟩,
  ⟨0x7040, 32, false, 0x0D, .u32, .ro, .v, 4, none, none, fun _ => .num 0⟩,
  ⟨0x7040, 32, false, 0x0E, .u64, .ro, .v, 8, none, none, fun _ => .num 0⟩,
  ⟨0x7040, 32, false, 0x0F, .u32, .rw, .p, 4, none, none, fun _ => .num 100⟩,
  ⟨0x7060, 32, false, 0x01, .enum, .ro, .v, 2, none, none, fun _ => .num 0⟩,
  ⟨0x7060, 32, false, 0x02, .bool, .ro, .v, 1, none, none, fun _ => .num 0⟩,
  ⟨0x7060, 32, false, 0x03, .u32, .ro, .v, 4, none, none, fun _ => .num 0⟩,
  ⟨0x7060, 32, false, 0x04, .u64, .ro, .v, 8, none, none, fun _ => .num 0⟩,
  ⟨0x7060, 32, false, 0x05, .u64, .ro, .v, 8, none, none, fun _ => .num 0⟩,
  ⟨0x7060, 32, false, 0x06, .u32, .ro, .v, 4, none, none, fun _ => .num 0⟩,
  ⟨0x7060, 32, false, 0x07, .u32, .rw, .p, 4, none, none, fun _ => .num 8000000⟩,
  ⟨0x7060, 32, false, 0x08, .u16, .ro, .v, 2, none, none, fun _ => .num 0⟩,
  ⟨0x7000, 1, false, 0x03, .u16, .rw, .p, 2, some (5, 100), none, fun _ => .num 20⟩,
  ⟨0x7000, 1, false, 0x04, .u16, .rw, .p, 2, none, none, fun _ => .num 50⟩,
  ⟨0x7000, 1, false, 0x05, .u32, .rw, .p, 4, none, none, fun _ => .num 2050⟩]

/-- Object rows of the range 0x7000, part 2. -/
def objRows7b : List ObjRow := [
  ⟨0x7000, 1, false, 0x06, .u32, .rw, .p, 4, none, none, fun _ => .num 5000⟩,
  ⟨0x7000, 1, false, 0x07, .u32, .rw, .p, 4, some (1, 3600), none, fun _ => .num 90⟩,
  ⟨0x7000, 1, false, 0x08, .u32, .rw, .p, 4, none, none, fun _ => .num 25000⟩,
  ⟨0x7000, 1, false, 0x09, .u32, .ro, .v, 4, none, none, fun _ => .num 1048576⟩,
  ⟨0x7000, 1, false, 0x0A, .u64, .ro, .v, 8, none, none, fun _ => .num 1006632960⟩,
  ⟨0x7080, 32, false, 0x01, .enum, .ro, .v, 2, none, none, fun _ => .num 0⟩,
  ⟨0x7080, 32, false, 0x02, .u64, .ro, .v, 8, none, none, fun _ => .num 0⟩,
  ⟨0x7080, 32, false, 0x03, .u32, .ro, .v, 4, none, none, fun _ => .num 0⟩,
  ⟨0x7080, 32, false, 0x04, .u32, .ro, .v, 4, none, none, fun _ => .num 0⟩,
  ⟨0x7080, 32, false, 0x05, .u64, .ro, .v, 8, none, none, fun _ => .num 0⟩,
  ⟨0x7080, 32, false, 0x06, .u64, .ro, .v, 8, none, none, fun _ => .num 0⟩,
  ⟨0x7080, 32, false, 0x07, .u32, .ro, .v, 4, none, none, fun _ => .num 0⟩,
  ⟨0x7080, 32, false, 0x08, .u32, .ro, .v, 4, none, none, fun _ => .num 0⟩,
  ⟨0x7080, 32, false, 0x09, .u64, .ro, .v, 8, none, none, fun _ => .num 0⟩,
  ⟨0x7080, 32, false, 0x0A, .u64, .ro, .v, 8, none, none, fun _ => .num 0⟩,
  ⟨0x7080, 32, false, 0x0B, .u64, .ro, .v, 8, none, none, fun _ => .num 0⟩,
  ⟨0x7080, 32, false, 0x0C, .u32, .ro, .v, 4, none, none, fun _ => .num 0⟩,
  ⟨0x7080, 32, false, 0x0D, .u64, .ro, .v, 8, none, none, fun _ => .num 0⟩,
  ⟨0x7080, 32, false, 0x0E, .u64, .ro, .v, 8, none, none, fun _ => .num 0⟩,
  ⟨0x7080, 32, false, 0x0F, .u64, .ro, .v, 8, none, none, fun _ => .num 0⟩,
  ⟨0x7080, 32, false, 0x10, .u64, .ro, .v, 8, none, none, fun _ => .num 0⟩,
  ⟨0x7080, 32, false, 0x11, .u32, .ro, .v, 4, none, none, fun _ => .num 0⟩,
  ⟨0x7080, 32, false, 0x12, .u64, .ro, .v, 8, none, none, fun _ => .num 0⟩,
  ⟨0x7800, 1, false, 0x01, .u64, .rw, .p, 8, some (1048576, 4278190080), none, fun _ => .num 4278190080⟩,
  ⟨0x7800, 1, false, 0x02, .u32, .rw, .p, 4, some (10, 600), none, fun _ => .num 600⟩,
  ⟨0x7800, 1, false, 0x03, .u8, .rw, .p, 1, some (0, 16), none, fun _ => .num 16⟩,
  ⟨0x7800, 1, false, 0x04, .bool, .rw, .p, 1, some (0, 1), none, fun _ => .num 1⟩,
  ⟨0x7800, 1, false, 0x05, .u16, .rw, .p, 2, none, none, fun _ => .num 64⟩,
  ⟨0x7800, 1, false, 0x06, .bool, .rw, .p, 1, some (0, 1), none, fun _ => .num 0⟩,
  ⟨0x7800, 1, false, 0x07, .u32, .ro, .w, 4, none, none, fun _ => .num 0⟩,
  ⟨0x7800, 1, false, 0x08, .u64, .ro, .v, 8, none, none, fun _ => .num 0⟩,
  ⟨0x7820, 16, false, 0x01, .bool, .sig, .h, 1, some (0, 1), none, fun _ => .num 0⟩,
  ⟨0x7820, 16, false, 0x02, .u32, .rw, .h, 4, none, none, fun _ => .num 0⟩,
  ⟨0x7820, 16, false, 0x03, .u64, .ro, .v, 8, none, none, fun _ => .num 0⟩,
  ⟨0x7820, 16, false, 0x04, .u32, .ro, .v, 4, none, none, fun _ => .num 0⟩,
  ⟨0x7880, 32, false, 0x01, .enum, .ro, .v, 2, none, none, fun _ => .num 0⟩,
  ⟨0x7880, 32, false, 0x02, .enum, .ro, .v, 2, none, none, fun _ => .num 0⟩,
  ⟨0x7880, 32, false, 0x03, .blob, .ro, .v, 64, none, none, fun _ => .blob []⟩,
  ⟨0x7880, 32, false, 0x04, .enum, .wo, .v, 2, some (1, 3), none, fun _ => .num 0⟩,
  ⟨0x7880, 32, false, 0x05, .u16, .rw, .v, 2, none, none, fun _ => .num 0⟩]

/-- Object rows of the range 0x7000, part 3. -/
def objRows7c : List ObjRow := [
  ⟨0x7880, 32, false, 0x06, .enum, .ro, .v, 2, none, none, fun _ => .num 0⟩,
  ⟨0x7880, 32, false, 0x07, .blob, .ro, .v, 528, none, none, fun _ => .blob []⟩,
  ⟨0x7880, 32, false, 0x08, .u32, .ro, .v, 4, none, none, fun _ => .num 0⟩,
  ⟨0x7880, 32, false, 0x09, .u64, .ro, .v, 8, none, none, fun _ => .num 0⟩]

/-- Object rows of the range 0x8000. -/
def objRows8 : List ObjRow := [
  ⟨0x8000, 1, false, 0x01, .u32, .rw, .p, 4, some (100, 5000), none, fun _ => .num 500⟩,
  ⟨0x8000, 1, false, 0x02, .i32, .rw, .p, 4, some (-100, 0), none, fun _ => .num 4294967266⟩,
  ⟨0x8000, 1, false, 0x03, .bool, .rw, .p, 1, some (0, 1), none, fun _ => .num 0⟩,
  ⟨0x8000, 1, false, 0x04, .u8, .ro, .p, 1, none, none, fun _ => .num 4⟩,
  ⟨0x8000, 1, false, 0x05, .u32, .ro, .w, 4, none, none, fun _ => .num 0⟩,
  ⟨0x8020, 16, false, 0x01, .enum, .rw, .p, 2, some (0, 4), none, fun _ => .num 4⟩,
  ⟨0x8020, 16, false, 0x02, .enum, .rw, .p, 2, some (0, 1), none, fun _ => .num 0⟩,
  ⟨0x8020, 16, false, 0x03, .enum, .ro, .v, 2, none, none, fun _ => .num 0⟩,
  ⟨0x8040, 32, false, 0x01, .enum, .rw, .p, 2, some (0, 2), none, fun _ => .num 0⟩,
  ⟨0x8040, 32, false, 0x02, .u8, .rw, .p, 1, some (4, 8), none, fun _ => .num 8⟩,
  ⟨0x8040, 32, false, 0x03, .i32, .rw, .p, 4, some (-278, 480), none, fun _ => .num 0⟩,
  ⟨0x8040, 32, false, 0x04, .i32, .rw, .p, 4, none, none, fun _ => .num 10⟩,
  ⟨0x8040, 32, false, 0x05, .i32, .rw, .p, 4, none, none, fun _ => .num 4294966936⟩,
  ⟨0x8040, 32, false, 0x06, .enum, .ro, .v, 2, none, none, fun _ => .num 0⟩,
  ⟨0x8040, 32, false, 0x07, .enum, .ro, .v, 2, none, none, fun _ => .num 0⟩,
  ⟨0x8040, 32, false, 0x08, .i32, .ro, .v, 4, none, none, fun _ => .num 0⟩,
  ⟨0x8040, 32, false, 0x09, .i32, .ro, .v, 4, none, none, fun _ => .num 0⟩,
  ⟨0x8040, 32, false, 0x0A, .u32, .ro, .v, 4, none, none, fun _ => .num 0⟩,
  ⟨0x80A0, 16, false, 0x01, .u8, .rw, .p, 1, some (0, 3), none, fun _ => .num 0⟩,
  ⟨0x80A0, 16, false, 0x02, .u8, .rw, .p, 1, some (0, 3), none, fun _ => .num 0⟩,
  ⟨0x80A0, 16, false, 0x03, .u8, .ro, .v, 1, none, none, fun _ => .num 0⟩,
  ⟨0x80A0, 16, false, 0x04, .u8, .ro, .p, 1, none, none, fun i => .num i⟩,
  ⟨0x80A0, 16, false, 0x05, .enum, .wo, .v, 2, some (1, 2), none, fun _ => .num 0⟩,
  ⟨0x80A0, 16, false, 0x06, .enum, .ro, .v, 2, none, none, fun _ => .num 0⟩,
  ⟨0x80C0, 20, false, 0x01, .enum, .ro, .p, 2, none, none, fun i => .num (if i < 16 then 1 else 0)⟩,
  ⟨0x80C0, 20, false, 0x02, .u8, .ro, .p, 1, none, none, fun i => .num (if i < 16 then i else 0xFF)⟩,
  ⟨0x80C0, 20, false, 0x03, .u32, .ro, .v, 4, none, none, fun _ => .num 0⟩,
  ⟨0x80C0, 20, false, 0x04, .i32, .ro, .v, 4, none, none, fun _ => .num 0⟩,
  ⟨0x80C0, 20, false, 0x05, .u32, .ro, .p, 4, none, none, fun _ => .num 0⟩,
  ⟨0x80C0, 20, false, 0x06, .i32, .ro, .p, 4, none, none, fun _ => .num 0⟩,
  ⟨0x80C0, 20, false, 0x07, .enum, .wo, .v, 2, some (1, 2), none, fun _ => .num 0⟩,
  ⟨0x8100, 16, false, 0x01, .enum, .ro, .v, 2, none, none, fun _ => .num 0⟩,
  ⟨0x8100, 16, false, 0x02, .u32, .ro, .v, 4, none, none, fun _ => .num 0⟩,
  ⟨0x8100, 16, false, 0x03, .i32, .ro, .v, 4, none, none, fun _ => .num 0⟩,
  ⟨0x8100, 16, false, 0x04, .u32, .ro, .p, 4, none, none, fun _ => .num 0⟩,
  ⟨0x8100, 16, false, 0x05, .i32, .ro, .p, 4, none, none, fun _ => .num 0⟩,
  ⟨0x8100, 16, false, 0x06, .enum, .wo, .v, 2, some (1, 1), none, fun _ => .num 0⟩]

/-- Object rows of the range 0x9000. -/
def objRows9 : List ObjRow := [
  ⟨0x9000, 1, false, 0x01, .u8, .rw, .p, 1, some (1, 255), none, fun _ => .num 4⟩,
  ⟨0x9000, 1, false, 0x02, .enum, .wo, .v, 2, some (1, 3), none, fun _ => .num 0⟩,
  ⟨0x9000, 1, false, 0x03, .enum, .ro, .v, 2, none, none, fun _ => .num 0⟩,
  ⟨0x9000, 1, false, 0x04, .u64, .ro, .v, 8, none, none, fun _ => .num 0⟩,
  ⟨0x9020, 32, false, 0x01, .u8, .rw, .p, 1, some (1, 64), none, fun _ => .num 3⟩,
  ⟨0x9020, 32, false, 0x02, .u8, .rw, .p, 1, some (1, 64), none, fun _ => .num 1⟩,
  ⟨0x9020, 32, false, 0x03, .u16, .rw, .p, 2, some (0, 1023), none, fun _ => .num 32⟩,
  ⟨0x9020, 32, false, 0x04, .u64, .ro, .v, 8, none, none, fun _ => .num 0⟩,
  ⟨0x9020, 32, false, 0x05, .u64, .ro, .v, 8, none, none, fun _ => .num 0⟩,
  ⟨0x9020, 32, false, 0x06, .u64, .ro, .v, 8, none, none, fun _ => .num 0⟩,
  ⟨0x9060, 32, false, 0x01, .u64, .ro, .v, 8, none, none, fun _ => .num 0⟩,
  ⟨0x9060, 32, false, 0x02, .u64, .ro, .v, 8, none, none, fun _ => .num 0⟩,
  ⟨0x9060, 32, false, 0x03, .u64, .ro, .v, 8, none, none, fun _ => .num 0⟩,
  ⟨0x9040, 16, false, 0x01, .u8, .rw, .h, 1, some (1, 255), none, fun _ => .num 1⟩,
  ⟨0x9040, 16, false, 0x02, .u8, .rw, .h, 1, some (1, 255), none, fun _ => .num 1⟩,
  ⟨0x9040, 16, false, 0x03, .u8, .rw, .h, 1, some (1, 255), none, fun _ => .num 1⟩,
  ⟨0x9040, 16, false, 0x04, .bool, .rw, .h, 1, some (0, 1), none, fun _ => .num 0⟩,
  ⟨0x9040, 16, false, 0x05, .u64, .rw, .h, 8, none, none, fun _ => .num 0⟩,
  ⟨0x9040, 16, false, 0x06, .u32, .rw, .h, 4, none, none, fun _ => .num 16777216⟩,
  ⟨0x9040, 16, false, 0x07, .u64, .rw, .h, 8, none, none, fun _ => .num 0⟩,
  ⟨0x9040, 16, false, 0x08, .u32, .rw, .h, 4, none, none, fun _ => .num 16777216⟩,
  ⟨0x9040, 16, false, 0x09, .u64, .ro, .v, 8, none, none, fun _ => .num 0⟩,
  ⟨0x9040, 16, false, 0x0A, .u64, .ro, .v, 8, none, none, fun _ => .num 0⟩,
  ⟨0x9040, 16, false, 0x0B, .u64, .ro, .v, 8, none, none, fun _ => .num 0⟩,
  ⟨0x9040, 16, false, 0x0C, .u64, .ro, .v, 8, none, none, fun _ => .num 0⟩,
  ⟨0x9080, 17, false, 0x01, .blob, .ro, .v, 65536, none, none, fun _ => .blob (List.replicate 256 0)⟩,
  ⟨0x9080, 17, false, 0x02, .blob, .ro, .v, 65536, none, none, fun _ => .blob (List.replicate 256 0)⟩,
  ⟨0x9080, 17, false, 0x03, .blob, .ro, .v, 65536, none, none, fun _ => .blob (List.replicate 256 0)⟩,
  ⟨0x9080, 17, false, 0x04, .blob, .ro, .v, 65536, none, none, fun _ => .blob (List.replicate 256 0)⟩,
  ⟨0x9080, 17, false, 0x05, .blob, .ro, .v, 65536, none, none, fun _ => .blob (List.replicate 256 0)⟩,
  ⟨0x9080, 17, false, 0x06, .u32, .ro, .v, 4, none, none, fun _ => .num 0⟩,
  ⟨0x90A0, 32, false, 0x01, .blob, .ro, .v, 65536, none, none, fun _ => .blob (List.replicate 256 0)⟩,
  ⟨0x90A0, 32, false, 0x02, .blob, .ro, .v, 65536, none, none, fun _ => .blob (List.replicate 256 0)⟩,
  ⟨0x90A0, 32, false, 0x03, .blob, .ro, .v, 65536, none, none, fun _ => .blob (List.replicate 256 0)⟩,
  ⟨0x90A0, 32, false, 0x04, .blob, .ro, .v, 65536, none, none, fun _ => .blob (List.replicate 256 0)⟩,
  ⟨0x90A0, 32, false, 0x05, .blob, .ro, .v, 65536, none, none, fun _ => .blob (List.replicate 256 0)⟩]

/-- Object rows of the range 0xA000. -/
def objRowsA : List ObjRow := [
  ⟨0xA000, 1, false, 0x01, .u64, .ro, .v, 8, none, none, fun _ => .num 0⟩,
  ⟨0xA000, 1, false, 0x02, .u16, .rw, .p, 2, none, none, fun _ => .num 0⟩,
  ⟨0xA000, 1, false, 0x03, .bool, .rw, .p, 1, some (0, 1), none, fun _ => .num 1⟩,
  ⟨0xA000, 1, false, 0x04, .u8, .rw, .p, 1, some (3, 64), none, fun _ => .num 8⟩,
  ⟨0xA000, 1, false, 0x05, .u32, .rw, .p, 4, none, none, fun _ => .num 90000⟩,
  ⟨0xA000, 1, false, 0x06, .u32, .rw, .p, 4, some (10, 10000), none, fun _ => .num 200⟩,
  ⟨0xA000, 1, false, 0x07, .u16, .ro, .v, 2, none, none, fun _ => .num 1000⟩,
  ⟨0xA000, 1, false, 0x08, .u16, .rw, .p, 2, none, none, fun _ => .num 400⟩,
  ⟨0xA000, 1, false, 0x09, .u32, .rw, .p, 4, none, none, fun _ => .num 600⟩,
  ⟨0xA000, 1, false, 0x0A, .u32, .ro, .w, 4, none, none, fun _ => .num 0⟩,
  ⟨0xA000, 1, false, 0x0B, .u32, .ro, .w, 4, none, none, fun _ => .num 0⟩,
  ⟨0xA000, 1, false, 0x0C, .blob, .ro, .v, 65536, none, none, fun _ => .blob []⟩,
  ⟨0xA000, 1, false, 0x0D, .blob, .ro, .v, 65536, none, none, fun _ => .blob []⟩,
  ⟨0xA020, 16, false, 0x01, .blob, .sig, .h, 65536, none, none, fun _ => .blob []⟩,
  ⟨0xA020, 16, false, 0x02, .blob, .ro, .h, 65536, none, none, fun _ => .blob []⟩,
  ⟨0xA020, 16, false, 0x03, .enum, .ro, .h, 2, none, none, fun _ => .num 0⟩,
  ⟨0xA020, 16, false, 0x04, .u16, .ro, .h, 2, none, none, fun _ => .num 65535⟩,
  ⟨0xA020, 16, false, 0x05, .u32, .ro, .h, 4, none, none, fun _ => .num 0⟩,
  ⟨0xA020, 16, false, 0x06, .u8, .ro, .h, 1, none, none, fun _ => .num 0⟩,
  ⟨0xA020, 16, false, 0x07, .enum, .wo, .v, 2, some (1, 2), none, fun _ => .num 0⟩,
  ⟨0xA020, 16, false, 0x08, .u16, .rw, .h, 2, none, none, fun _ => .num 0⟩,
  ⟨0xA020, 16, false, 0x09, .enum, .ro, .h, 2, none, none, fun _ => .num 0⟩,
  ⟨0xA020, 16, false, 0x0A, .u8, .ro, .v, 1, none, none, fun _ => .num 0⟩,
  ⟨0xA020, 16, false, 0x0B, .u8, .rw, .h, 1, some (1, 64), none, fun _ => .num 8⟩,
  ⟨0xA020, 16, false, 0x0C, .u32, .ro, .v, 4, none, none, fun _ => .num 0⟩]

/-- Object rows of the range 0xB000, part 1. -/
def objRowsBa : List ObjRow := [
  ⟨0xB000, 1, false, 0x01, .u32, .ro, .v, 4, none, none, fun _ => .num 500000000⟩,
  ⟨0xB000, 1, false, 0x02, .time80, .ro, .w, 10, none, none, fun _ => .num 0⟩,
  ⟨0xB000, 1, false, 0x03, .enum, .ro, .w, 2, none, none, fun _ => .num 0⟩,
  ⟨0xB000, 1, false, 0x04, .u64, .ro, .w, 8, none, none, fun _ => .num 0⟩,
  ⟨0xB000, 1, false, 0x05, .enum, .rw, .p, 2, some (1, 2), none, fun _ => .num 1⟩,
  ⟨0xB000, 1, false, 0x06, .bool, .rw, .p, 1, some (0, 1), none, fun _ => .num 1⟩,
  ⟨0xB000, 1, false, 0x07, .u32, .rw, .p, 4, none, none, fun _ => .num 60⟩,
  ⟨0xB000, 1, false, 0x08, .u32, .rw, .p, 4, some (10, 100000), none, fun _ => .num 1000⟩,
  ⟨0xB000, 1, false, 0x09, .u32, .rw, .p, 4, none, none, fun _ => .num 100⟩,
  ⟨0xB000, 1, false, 0x0A, .u32, .rw, .p, 4, none, none, fun _ => .num 3000⟩,
  ⟨0xB000, 1, false, 0x0B, .u32, .ro, .w, 4, none, none, fun _ => .num 0⟩,
  ⟨0xB000, 1, false, 0x0C, .enum, .rw, .p, 2, some (0, 5), none, fun _ => .num 0⟩,
  ⟨0xB000, 1, false, 0x0D, .u32, .rw, .p, 4, some (1, 500000), none, fun _ => .num 100000⟩,
  ⟨0xB000, 1, false, 0x0E, .u32, .rw, .p, 4, some (0, 1000000), none, fun _ => .num 0⟩,
  ⟨0xB000, 1, false, 0x0F, .blob, .ro, .v, 50, none, none, fun _ => .blob (List.replicate 50 0)⟩,
  ⟨0xB000, 1, false, 0x10, .u32, .ro, .v, 4, none, none, fun _ => .num 0⟩,
  ⟨0xB000, 1, false, 0x11, .u8, .rw, .p, 1, none, none, fun _ => .num 128⟩,
  ⟨0xB000, 1, false, 0x12, .u16, .ro, .v, 2, none, none, fun _ => .num 0⟩,
  ⟨0xB000, 1, false, 0x13, .u16, .ro, .v, 2, none, none, fun _ => .num 0⟩,
  ⟨0xB000, 1, false, 0x14, .u8, .ro, .v, 1, none, none, fun _ => .num 255⟩,
  ⟨0xB000, 1, false, 0x15, .u32, .rw, .p, 4, none, none, fun _ => .num 10000⟩,
  ⟨0xB010, 4, false, 0x01, .time80, .ro, .w, 10, none, none, fun _ => .num 0⟩,
  ⟨0xB010, 4, false, 0x02, .u64, .rw, .w, 8, none, none, fun _ => .num 8589934592⟩,
  ⟨0xB010, 4, false, 0x03, .time80, .wo, .v, 10, none, none, fun _ => .num 0⟩,
  ⟨0xB010, 4, false, 0x04, .enum, .ro, .w, 2, none, none, fun _ => .num 0⟩,
  ⟨0xB010, 4, false, 0x05, .i32, .ro, .v, 4, none, none, fun _ => .num 0⟩,
  ⟨0xB010, 4, false, 0x06, .u32, .ro, .w, 4, none, none, fun _ => .num 0⟩,
  ⟨0xB010, 4, false, 0x07, .enum, .rw, .p, 2, some (0, 1), none, fun _ => .num 1⟩,
  ⟨0xB020, 2, false, 0x01, .u8, .rw, .p, 1, none, none, fun i => .num i⟩,
  ⟨0xB020, 2, false, 0x02, .enum, .rw, .p, 2, some (0, 1), none, fun i => .num i⟩,
  ⟨0xB020, 2, false, 0x03, .blob, .ro, .v, 8, none, none, fun _ => .blob []⟩,
  ⟨0xB020, 2, false, 0x04, .i32, .ro, .v, 4, none, none, fun _ => .num 0⟩,
  ⟨0xB040, 32, false, 0x01, .i32, .rw, .p, 4, none, none, fun _ => .num 0⟩,
  ⟨0xB040, 32, false, 0x02, .i32, .ro, .v, 4, none, none, fun _ => .num 0⟩,
  ⟨0xB040, 32, false, 0x03, .u32, .ro, .v, 4, none, none, fun _ => .num 0⟩,
  ⟨0xB060, 16, false, 0x01, .enum, .rws, .h, 2, some (0, 4), none, fun _ => .num 0⟩,
  ⟨0xB060, 16, false, 0x02, .u64, .rws, .h, 8, none, none, fun _ => .num 0⟩,
  ⟨0xB060, 16, false, 0x03, .u64, .rws, .h, 8, none, none, fun _ => .num 0⟩,
  ⟨0xB060, 16, false, 0x04, .u16, .rws, .h, 2, none, none, fun _ => .num 65535⟩,
  ⟨0xB060, 16, false, 0x05, .u32, .ro, .h, 4, none, none, fun _ => .num 0⟩]

/-- Object rows of the range 0xB000, part 2. -/
def objRowsBb : List ObjRow := [
  ⟨0xB060, 16, false, 0x06, .time80, .ro, .h, 10, none, none, fun _ => .num 0⟩]

/-- Object rows of the range 0xC000, part 1. -/
def objRowsCa : List ObjRow := [
  ⟨0xC000, 1, false, 0x01, .u8, .ro, .v, 1, none, none, fun _ => .num 100⟩,
  ⟨0xC000, 1, false, 0x02, .u64, .ro, .v, 8, none, none, fun _ => .num 0⟩,
  ⟨0xC000, 1, false, 0x03, .u8, .rw, .p, 1, none, none, fun _ => .num 255⟩,
  ⟨0xC000, 1, false, 0x04, .u32, .rw, .p, 4, none, none, fun _ => .num 1⟩,
  ⟨0xC000, 1, false, 0x05, .enum, .rw, .p, 2, some (0, 2), none, fun _ => .num 1⟩,
  ⟨0xC000, 1, false, 0x06, .u8, .rw, .p, 1, some (0, 31), none, fun _ => .num 0⟩,
  ⟨0xC000, 1, false, 0x07, .u16, .ro, .w, 2, none, none, fun _ => .num 0⟩,
  ⟨0xC000, 1, false, 0x08, .enum, .ro, .v, 2, none, none, fun _ => .num 0⟩,
  ⟨0xC000, 1, false, 0x09, .i32, .ro, .v, 4, none, none, fun _ => .num 0⟩,
  ⟨0xC010, 5, false, 0x01, .bool, .ro, .v, 1, none, none, fun _ => .num 0⟩,
  ⟨0xC010, 5, false, 0x02, .u32, .ro, .v, 4, none, none, fun _ => .num 0⟩,
  ⟨0xC010, 5, false, 0x03, .u32, .ro, .w, 4, none, none, fun _ => .num 0⟩,
  ⟨0xC100, 100, false, 0x01, .enum, .rw, .p, 2, some (0, 4), none, fun i => .num (if i = 3 then 3 else if i = 80 ∨ i = 82 then 4 else 1)⟩,
  ⟨0xC100, 100, false, 0x02, .enum, .ro, .v, 2, none, none, fun _ => .num 0⟩,
  ⟨0xC100, 100, false, 0x03, .enum, .wo, .v, 2, some (1, 1), none, fun _ => .num 0⟩,
  ⟨0xC100, 100, false, 0x04, .enum, .ro, .v, 2, none, none, fun _ => .num 0⟩,
  ⟨0xC100, 100, false, 0x05, .u32, .ro, .v, 4, none, none, fun _ => .num 0⟩,
  ⟨0xC100, 100, false, 0x06, .u32, .ro, .w, 4, none, none, fun _ => .num 0⟩,
  ⟨0xC300, 1, false, 0x01, .u32, .rw, .p, 4, some (600, 1800), none, fun _ => .num 1800⟩,
  ⟨0xC300, 1, false, 0x02, .u32, .ro, .v, 4, none, none, fun _ => .num 0⟩,
  ⟨0xC300, 1, false, 0x03, .u8, .ro, .v, 1, none, none, fun _ => .num 0⟩,
  ⟨0xC300, 1, false, 0x04, .u32, .rw, .p, 4, none, none, fun _ => .num 625⟩,
  ⟨0xC300, 1, false, 0x05, .u32, .rw, .p, 4, none, none, fun _ => .num 50⟩,
  ⟨0xC300, 1, false, 0x06, .u32, .ro, .v, 4, none, none, fun _ => .num 0⟩,
  ⟨0xC300, 1, false, 0x07, .u32, .ro, .p, 4, none, none, fun _ => .num 0⟩,
  ⟨0xC310, 8, false, 0x01, .u32, .ro, .v, 4, none, none, fun _ => .num 625⟩,
  ⟨0xC310, 8, false, 0x02, .u32, .ro, .v, 4, none, none, fun _ => .num 0⟩,
  ⟨0xC320, 25, false, 0x01, .i32, .ro, .v, 4, none, none, fun _ => .num 0⟩,
  ⟨0xC320, 25, false, 0x02, .u8, .ro, .v, 1, none, none, fun _ => .num 0⟩,
  ⟨0xC400, 100, false, 0x01, .enum, .rw, .w, 2, none, none, fun _ => .num 255⟩,
  ⟨0xC400, 100, false, 0x02, .enum, .ro, .v, 2, none, none, fun _ => .num 0⟩,
  ⟨0xC400, 100, false, 0x03, .enum, .ro, .v, 2, none, none, fun _ => .num 255⟩,
  ⟨0xC400, 100, false, 0x04, .enum, .ro, .v, 2, none, none, fun _ => .num 255⟩,
  ⟨0xC400, 100, false, 0x05, .enum, .ro, .v, 2, none, none, fun _ => .num 0⟩,
  ⟨0xC400, 100, false, 0x06, .u8, .ro, .v, 1, none, none, fun _ => .num 0⟩,
  ⟨0xC400, 100, false, 0x07, .enum, .ro, .v, 2, none, none, fun _ => .num 0⟩,
  ⟨0xC400, 100, false, 0x08, .enum, .ro, .v, 2, none, none, fun _ => .num 0⟩,
  ⟨0xC400, 100, false, 0x09, .u32, .ro, .v, 4, none, none, fun _ => .num 0⟩,
  ⟨0xC400, 100, false, 0x0A, .u16, .ro, .v, 2, none, none, fun _ => .num 0⟩,
  ⟨0xC500, 16, false, 0x01, .enum, .rw, .h, 2, some (0, 5), none, fun _ => .num 0⟩]

/-- Object rows of the range 0xC000, part 2. -/
def objRowsCb : List ObjRow := [
  ⟨0xC500, 16, false, 0x02, .enum, .rw, .h, 2, some (6, 8), none, fun _ => .num 6⟩,
  ⟨0xC500, 16, false, 0x03, .u32, .rw, .h, 4, none, none, fun _ => .num 0⟩,
  ⟨0xC500, 16, false, 0x04, .u32, .rw, .h, 4, some (10, 10000), none, fun _ => .num 100⟩,
  ⟨0xC500, 16, false, 0x05, .u32, .ro, .v, 4, none, none, fun _ => .num 0⟩,
  ⟨0xC500, 16, false, 0x06, .u8, .ro, .v, 1, none, none, fun _ => .num 0⟩,
  ⟨0xC500, 16, false, 0x07, .u32, .ro, .v, 4, none, none, fun _ => .num 0⟩,
  ⟨0xC600, 1, false, 0x01, .enum, .ro, .v, 2, none, none, fun _ => .num 0⟩,
  ⟨0xC600, 1, false, 0x02, .u8, .ro, .v, 1, none, none, fun _ => .num 1⟩,
  ⟨0xC600, 1, false, 0x03, .enum, .ro, .v, 2, none, none, fun _ => .num 0⟩,
  ⟨0xC600, 1, false, 0x04, .u8, .ro, .v, 1, none, none, fun _ => .num 255⟩,
  ⟨0xC600, 1, false, 0x05, .u32, .ro, .w, 4, none, none, fun _ => .num 0⟩,
  ⟨0xC600, 1, false, 0x06, .enum, .wo, .v, 2, some (1, 5), none, fun _ => .num 0⟩,
  ⟨0xC600, 1, false, 0x07, .u8, .rw, .v, 1, none, none, fun _ => .num 0⟩,
  ⟨0xC600, 1, false, 0x08, .enum, .ro, .w, 2, none, none, fun _ => .num 0⟩,
  ⟨0xC600, 1, false, 0x09, .enum, .ro, .w, 2, none, none, fun _ => .num 0⟩,
  ⟨0xC600, 1, false, 0x0A, .u32, .ro, .w, 4, none, none, fun _ => .num 0⟩,
  ⟨0xC700, 1, false, 0x01, .str, .ro, .v, 64, none, none, fun _ => .blob []⟩,
  ⟨0xC700, 1, false, 0x02, .u16, .ro, .v, 2, none, none, fun _ => .num 0⟩,
  ⟨0xC700, 1, false, 0x03, .u32, .ro, .v, 4, none, none, fun _ => .num 0⟩,
  ⟨0xC700, 1, false, 0x04, .u32, .ro, .v, 4, none, none, fun _ => .num 0⟩,
  ⟨0xC700, 1, false, 0x05, .i32, .ro, .v, 4, none, none, fun _ => .num 0⟩,
  ⟨0xC700, 1, false, 0x06, .i32, .ro, .v, 4, none, none, fun _ => .num 0⟩,
  ⟨0xC700, 1, false, 0x07, .u32, .ro, .v, 4, none, none, fun _ => .num 0⟩]

/-- Object rows of the range 0xD000. -/
def objRowsD : List ObjRow := [
  ⟨0xD000, 1, false, 0x01, .blob, .ro, .v, 2592, none, none, fun _ => .blob []⟩,
  ⟨0xD000, 1, false, 0x02, .blob, .ro, .p, 4627, none, none, fun _ => .blob []⟩,
  ⟨0xD000, 1, false, 0x03, .blob, .ro, .p, 2592, none, none, fun _ => .blob []⟩,
  ⟨0xD000, 1, false, 0x04, .u64, .ro, .p, 8, none, none, fun _ => .num 0⟩,
  ⟨0xD000, 1, false, 0x05, .blob, .wo, .v, 7243, none, none, fun _ => .blob []⟩,
  ⟨0xD000, 1, false, 0x06, .u32, .sig, .p, 4, none, none, fun _ => .num 0⟩,
  ⟨0xD000, 1, false, 0x07, .blob, .ro, .v, 64, none, none, fun _ => .blob []⟩,
  ⟨0xD000, 1, false, 0x08, .u32, .ro, .v, 4, none, none, fun _ => .num 0⟩,
  ⟨0xD000, 1, false, 0x09, .enum, .ro, .p, 2, none, none, fun _ => .num 0⟩,
  ⟨0xD000, 1, false, 0x0A, .blob, .wo, .v, 4100, none, none, fun _ => .blob []⟩,
  ⟨0xD000, 1, false, 0x0B, .u32, .rw, .v, 4, none, none, fun _ => .num 0⟩,
  ⟨0xD000, 1, false, 0x0C, .enum, .wo, .v, 2, some (1, 1), none, fun _ => .num 0⟩,
  ⟨0xD000, 1, false, 0x0D, .enum, .ro, .v, 2, none, none, fun _ => .num 0⟩,
  ⟨0xD000, 1, false, 0x0E, .blob, .rw, .v, 32, none, none, fun _ => .blob (List.replicate 32 0)⟩,
  ⟨0xD000, 1, false, 0x0F, .blob, .ro, .v, 5187, none, none, fun _ => .blob []⟩,
  ⟨0xD000, 1, false, 0x10, .enum, .ro, .v, 2, none, none, fun _ => .num 0⟩,
  ⟨0xD020, 16, false, 0x01, .blob, .sig, .h, 2592, none, none, fun _ => .blob []⟩,
  ⟨0xD020, 16, false, 0x02, .blob, .sig, .h, 2592, none, none, fun _ => .blob []⟩,
  ⟨0xD020, 16, false, 0x03, .blob, .rws, .h, 1568, none, none, fun _ => .blob []⟩,
  ⟨0xD020, 16, false, 0x04, .blob, .rw, .v, 32, none, none, fun _ => .blob (List.replicate 32 0)⟩,
  ⟨0xD020, 16, false, 0x05, .blob, .ro, .v, 5187, none, none, fun _ => .blob []⟩,
  ⟨0xD020, 16, false, 0x06, .enum, .ro, .v, 2, none, none, fun _ => .num 0⟩,
  ⟨0xD100, 1, false, 0x01, .u64, .rw, .v, 8, none, none, fun _ => .num 0⟩,
  ⟨0xD100, 1, false, 0x02, .blob, .wo, .v, 4100, none, none, fun _ => .blob []⟩,
  ⟨0xD100, 1, false, 0x03, .u32, .rw, .v, 4, none, none, fun _ => .num 0⟩,
  ⟨0xD100, 1, false, 0x04, .enum, .wo, .v, 2, some (1, 1), none, fun _ => .num 0⟩,
  ⟨0xD100, 1, false, 0x05, .enum, .ro, .v, 2, none, none, fun _ => .num 0⟩,
  ⟨0xD800, 1, false, 0x01, .blob, .ro, .v, 2592, none, none, fun _ => .blob []⟩,
  ⟨0xD800, 1, false, 0x02, .blob, .ro, .v, 4627, none, none, fun _ => .blob []⟩,
  ⟨0xD800, 1, false, 0x03, .blob, .ro, .v, 64, none, none, fun _ => .blob []⟩,
  ⟨0xD800, 1, false, 0x04, .u32, .ro, .v, 4, none, none, fun _ => .num 0⟩,
  ⟨0xD800, 1, false, 0x05, .u64, .ro, .v, 8, none, none, fun _ => .num 0⟩,
  ⟨0xD800, 1, false, 0x06, .u64, .ro, .v, 8, none, none, fun _ => .num 0⟩,
  ⟨0xD800, 1, false, 0x07, .blob, .ro, .v, 6323, none, none, fun _ => .blob []⟩,
  ⟨0xD800, 1, false, 0x08, .enum, .ro, .v, 2, none, none, fun _ => .num 1⟩,
  ⟨0xD820, 16, false, 0x01, .blob, .ro, .v, 96, none, none, fun _ => .blob []⟩]

/-- Object rows of the range 0xE000. -/
def objRowsE : List ObjRow := [
  ⟨0xE000, 1, false, 0x01, .u32, .ro, .w, 4, none, none, fun _ => .num 0⟩,
  ⟨0xE000, 1, false, 0x02, .u32, .ro, .w, 4, none, none, fun _ => .num 0⟩,
  ⟨0xE000, 1, false, 0x03, .u32, .rw, .v, 4, none, none, fun _ => .num 0⟩,
  ⟨0xE000, 1, false, 0x04, .blob, .ro, .v, 4096, none, none, fun _ => .blob []⟩,
  ⟨0xE000, 1, false, 0x05, .u64, .ro, .w, 8, none, none, fun _ => .num 0⟩,
  ⟨0xE000, 1, false, 0x06, .enum, .rw, .p, 2, some (0, 4), none, fun _ => .num 1⟩,
  ⟨0xE000, 1, false, 0x07, .enum, .rw, .p, 2, some (0, 4), none, fun _ => .num 3⟩,
  ⟨0xE000, 1, false, 0x08, .u32, .wo, .v, 4, none, none, fun _ => .num 0⟩,
  ⟨0xE000, 1, false, 0x09, .u32, .ro, .w, 4, none, none, fun _ => .num 0⟩,
  ⟨0xE000, 1, false, 0x0A, .blob, .ro, .p, 512, none, none, fun _ => .blob []⟩,
  ⟨0xE000, 1, false, 0x0B, .u8, .ro, .v, 1, none, none, fun _ => .num 0⟩,
  ⟨0xE000, 1, false, 0x0C, .u32, .ro, .w, 4, none, none, fun _ => .num 0⟩,
  ⟨0xE020, 16, false, 0x01, .enum, .ro, .h, 2, none, none, fun _ => .num 0⟩,
  ⟨0xE020, 16, false, 0x02, .u32, .ro, .h, 4, none, none, fun _ => .num 0⟩]

/-- Object rows of the range 0xF000. -/
def objRowsF : List ObjRow := [
  ⟨0xF010, 1, false, 0x01, .u32, .rw, .v, 4, some (0, 65535), none, fun _ => .num 0⟩,
  ⟨0xF010, 1, false, 0x02, .blob, .ro, .v, 4096, none, none, fun _ => .blob []⟩,
  ⟨0xF010, 1, false, 0x03, .u8, .rw, .v, 1, some (0, 15), none, fun _ => .num 0⟩,
  ⟨0xF010, 1, false, 0x04, .blob, .ro, .v, 65536, none, none, fun _ => .blob []⟩,
  ⟨0xF000, 1, false, 0x01, .enum, .wo, .v, 2, some (1, 4), none, fun _ => .num 0⟩,
  ⟨0xF000, 1, false, 0x02, .bool, .rw, .p, 1, some (0, 1), none, fun _ => .num 1⟩,
  ⟨0xF000, 1, false, 0x03, .u32, .ro, .v, 4, none, none, fun _ => .num 0⟩,
  ⟨0xF000, 1, false, 0x04, .u32, .ro, .v, 4, none, none, fun _ => .num 0⟩,
  ⟨0xF000, 1, false, 0x05, .blob, .ro, .v, 50, none, none, fun _ => .blob (List.replicate 50 0)⟩,
  ⟨0xF000, 1, false, 0x06, .enum, .ro, .v, 2, none, none, fun _ => .num 0⟩,
  ⟨0xF000, 1, false, 0x07, .enum, .rw, .p, 2, some (1, 4), none, fun _ => .num 3⟩,
  ⟨0xF000, 1, false, 0x08, .time80, .rw, .v, 10, none, none, fun _ => .num 0⟩,
  ⟨0xF000, 1, false, 0x09, .bool, .rw, .p, 1, some (0, 1), none, fun _ => .num 1⟩,
  ⟨0xF000, 1, false, 0x0A, .bool, .rw, .p, 1, some (0, 1), none, fun _ => .num 1⟩]

/-- The rows of the range that Index bits 15–12 name. -/
def objRowsOf (nibble : Nat) : List ObjRow :=
  match nibble with
  | 0x1 => objRows1
  | 0x2 => objRows2
  | 0x3 => objRows3
  | 0x4 => objRows4a ++ objRows4b
  | 0x5 => objRows5a ++ objRows5b
  | 0x6 => objRows6a ++ objRows6b
  | 0x7 => objRows7a ++ objRows7b ++ objRows7c
  | 0x8 => objRows8
  | 0x9 => objRows9
  | 0xA => objRowsA
  | 0xB => objRowsBa ++ objRowsBb
  | 0xC => objRowsCa ++ objRowsCb
  | 0xD => objRowsD
  | 0xE => objRowsE
  | 0xF => objRowsF
  | _ => []

/-- Every row of the object tables. -/
def objTable : List ObjRow :=
  objRows1 ++
  objRows2 ++
  objRows3 ++
  objRows4a ++
  objRows4b ++
  objRows5a ++
  objRows5b ++
  objRows6a ++
  objRows6b ++
  objRows7a ++
  objRows7b ++
  objRows7c ++
  objRows8 ++
  objRows9 ++
  objRowsA ++
  objRowsBa ++
  objRowsBb ++
  objRowsCa ++
  objRowsCb ++
  objRowsD ++
  objRowsE ++
  objRowsF

/-- The unit of `row` that Index:Sub names, if it names one. -/
def ObjRow.unit (r : ObjRow) (index sub : Nat) : Option Nat :=
  if r.packed then
    let i := (index - r.base) * 16 + sub / 16
    if r.base ≤ index ∧ i < r.count ∧ sub % 16 = r.sub then some i else none
  else
    if r.base ≤ index ∧ index - r.base < r.count ∧ sub = r.sub then some (index - r.base) else none

/-- Key of unit `i` of a row. -/
def ObjRow.key (r : ObjRow) (i : Nat) : Nat :=
  if r.packed then packedKey r.base r.sub i else linearKey r.base r.sub i

/-- The row and unit that a key names (check 1 of R404): none when Index:Sub does not exist. -/
def findRow (key : Nat) : Option (ObjRow × Nat) :=
  (objRowsOf (key / 0x100000)).findSome? fun r => (r.unit (key / 256) (key % 256)).map fun i => (r, i)

/-- Default of the object at a key (R11): the value it holds when nothing is listed for it. -/
def objDefault (key : Nat) : Val :=
  match findRow key with
  | some (r, i) => r.dflt i
  | none => .num 0

end Sys2Proof.Machine
end

