-- ==== Sys2Proof/Machine/State.lean ====
section
/-! DEFINITION. The state of the KC4810 block as plain data, the reasons a command can stop, and the state after reset.
Dictionary objects live in the object store `dict`; each structure below holds what a chapter gives the machine beside its
objects. -/

namespace Sys2Proof.Machine

open Sys2Proof

/-- One PCIe request slot: its header fields and data buffer (R406, R407). -/
structure PcieSlot where
  command : Nat := 0
  flags : Nat := 0
  sub : Nat := 0
  index : Nat := 0
  offset : Nat := 0
  length : Nat := 0
  go : Nat := 0
  status : Nat := 0
  responseFlags : Nat := 0
  resultLength : Nat := 0
  totalLength : Nat := 0
  tag : Nat := 0
  data : Bytes := []
deriving DecidableEq, Repr

/-- One PDP session (R412, R413): `phase` 0 free, 1 Reply sent, 2 open. -/
structure PdpState where
  phase : Nat := 0
  clientKey : Bytes := []
  transcript : Bytes := []
  key : Bytes := []
  scope : Nat := 0xFF
  write : Bool := false
  messages : Nat := 0
  /-- Fragments of the message being reassembled: sequence number, then (index, payload). -/
  fragmentSeq : Nat := 0
  fragments : List (Nat × Bytes) := []
  /-- The last 8 responses: sequence number of the request, response. -/
  responses : List (Nat × Bytes) := []
deriving DecidableEq, Repr

/-- The latched snapshot (R417–R419): the values copied, and the domains Failed, Switching or in S3 at the latch. -/
structure SnapshotCopy where
  values : Map Val := []
  stale : List Nat := []
  off : List Nat := []
  /-- The first of the free values that measured registers were latched at, and the counts whose latched value has been taken (the
  model's own). -/
  free : Nat := 0
  taken : List Nat := []
deriving DecidableEq, Repr

/-- One record slot of the persistent store (R420, R421). -/
structure StoreRecord where
  sequence : Nat := 0
  body : Map Val := []
  committed : Bool := false
deriving DecidableEq, Repr

/-- A commit in progress (R420, R422): the record being written, its slot, whether the slot write was retried, and whether
an ownership transfer waits for it (R432). -/
structure CommitJob where
  sequence : Nat
  slot : Nat
  body : Map Val
  hoopBody : Map Val
  retried : Bool
  answer : Option Requester
  /-- P writes that it covers (PersistPending at its start). -/
  covers : Nat
deriving DecidableEq, Repr

/-- A PeerResponse (R414): the wale it came over, and its fields. -/
structure PeerAnswer where
  wale : Nat
  tag : Nat
  status : Nat
  flags : Nat
  total : Nat
  data : Bytes
deriving DecidableEq, Repr

/-- The dictionary engine, its three paths, the mailboxes' post times, the snapshot and the persistent store (chapter 21). -/
structure ControlState where
  slots : Map PcieSlot := []
  /-- Latched value of each requester (R403): requester number, then (object key, value bytes). -/
  latch : Map (Nat × Bytes) := []
  /-- MSI-X table entries written by the host, and the vectors kept pending (R408). -/
  msixTable : Map Nat := []
  msixPending : List Nat := []
  d3hot : Bool := false
  pcieLinkUp : Bool := true
  pdp : Map PdpState := []
  /-- Post time of each mailbox in nanoseconds of TB0 (R409). -/
  postTime : Map Nat := []
  snapshot : Option SnapshotCopy := none
  snapshotReleased : Bool := true
  snapshotArmed : Bool := false
  /-- Record slots A0, B0, A1, B1 (R420) and the hoop-record slots in the same order (R475). -/
  store : Map StoreRecord := []
  hoopStore : Map StoreRecord := []
  commit : Option CommitJob := none
  /-- A P write, and an H write, that no commit covers yet (R422, R475). -/
  uncoveredP : Bool := false
  uncoveredH : Bool := false
  /-- A commit was due while another ran: it follows it, and who waits for it (R422, R432). -/
  commitDue : Bool := false
  dueAnswer : Option Requester := none
  /-- The last answers of peers (R414). -/
  peerAnswers : List PeerAnswer := []
deriving DecidableEq, Repr

/-- One entry of the event log (R457). -/
structure EventEntry where
  code : Nat
  severity : Nat
  hoop : Nat
  sequence : Nat
  time : Nat
  die : Nat
  unit : Nat
  detail : Nat
  repeats : Nat
deriving DecidableEq, Repr

/-- The event log (R457–R459): entries newest first, the last occurrence of each code in nanoseconds of TB0, and the
Sequences that hold ALERT_L asserted. -/
structure EventState where
  log : List EventEntry := []
  lastSeen : Map Nat := []
  alerts : List Nat := []
deriving DecidableEq, Repr

/-- Reset classes (R471), in rising order of what they cover. -/
inductive ResetClass where
  | hoop (h : Nat)
  | die (d : Nat)
  | hub
  | warm
  | cold
  | powerOn
deriving DecidableEq, Repr

/-- Start-up and reset (R464–R472): regulators at power good, misses of each regulator's 10 ms limit, XTAL wait, the reset in
progress, and consecutive flit failures of each die link (R451). -/
structure BootState where
  powered : List Nat := []
  misses : Map Nat := []
  resetting : Option ResetClass := none
  flitFailures : Map Nat := []
deriving DecidableEq, Repr

/-- A firmware image: the one the module was shipped with, or the bytes that were installed (R428). -/
inductive FirmwareImage where
  | shipped
  | image (bytes : Bytes)
deriving DecidableEq, Repr

/-- The security root (chapter 22). -/
structure SecurityState where
  /-- Identity derived, keys in the security root (R427). -/
  identityReady : Bool := false
  /-- The activation code can be read from at least one device (R422, R427). -/
  activationReadable : Bool := true
  slotA : Option FirmwareImage := some .shipped
  slotB : Option FirmwareImage := none
  running : FirmwareImage := .shipped
  stage : Memory := []
  installing : Option FirmwareImage := none
  floorTag : Bytes := []
  /-- Quotes in progress: scope (16 for the module), nonce. -/
  quoting : Map Bytes := []
deriving DecidableEq, Repr

/-- The sealed meter (R438–R443). `counters` holds counter c of hoop h at 16 × h + c: 0–4 VcBytes, 5 and 6 fabric bytes, 7 tile
microseconds, 8 energy. Energies are kept in units of 10 nJ (log entry 30). -/
structure MeterState where
  counters : Map Nat := []
  generation : Map Nat := []
  moduleEnergy : Nat := 0
  unattributed : Nat := 0
  ticks : Nat := 0
  /-- Mesh-busy cycles since the last split: hoop + 16 × G die (R440). -/
  busy : Map Nat := []
  /-- Energy of each G-die rail, and of both inputs, since the last split. -/
  railEnergy : Map Nat := []
  inputEnergy : Nat := 0
  expected : Map Nat := []
  linkFault : Bool := false
  /-- Signed records by RecordSequence, oldest dropped beyond 32,768 slots (R441). -/
  records : Map Bytes := []
  newest : Nat := 0
  gap : Bool := false
  firmwareChanged : Bool := false
  sealCounter : Nat := 0
  floor : Nat := 0
  stage : Memory := []
  firmware : Option Bytes := none
  recordDue : Bool := false
deriving DecidableEq, Repr

/-- Where a tile's LEMIT waits for the copies of its segment (R319): tile and emit number. -/
structure EmitTicket where
  tile : Nat
  number : Nat
deriving DecidableEq, Repr

/-- An emit request in a queue of R312: not yet numbered or encrypted. Header fields as R256 lays them out. -/
structure EmitRequest where
  owner : Nat
  vc : Nat
  session : Nat
  epochTag : Nat := 0
  origin : Nat
  destination : Nat
  /-- OpSequence of VC1 and VC2 data (header bytes 16–19). -/
  opSequence : Nat := 0
  /-- Header bytes 20–29. -/
  tail : Bytes
  payload : Bytes
  entered : Nat
  /-- Group, operation sequence and chunk that the segment belongs to, for requests that an abort removes (R321). -/
  operation : Option (Nat × Nat × Nat) := none
  ticket : Option EmitTicket := none
  redHold : Bool := false
  /-- A transit segment (R256): the wale and sequence number that it came under, accepted there once it is numbered here. -/
  transit : Option (Nat × Nat) := none
deriving DecidableEq, Repr

/-- An outstanding data segment in the repeat buffer: header, ciphertext and tag as first sent (R259, R265). -/
structure HeldSegment where
  counter : Nat
  vc : Nat
  session : Nat
  epoch : Nat
  header : Bytes
  body : Bytes
  tag : Bytes
  /-- Time of the latest transmission in nanoseconds of TB0 (R263). -/
  sent : Nat
  /-- Transmissions so far: 0 while the first one waits for its slot or unit, n + 1 after n resends (R263, R264). -/
  times : Nat
  concatenated : Bool
deriving DecidableEq, Repr

/-- A segment on its way out of a wale (R237, R238): its VC, its SegmentCounter if it is a data segment, whose transmission sets the
send time (R264), and its bytes. -/
structure OutSegment where
  vc : Nat
  counter : Option Nat
  bytes : Bytes
deriving DecidableEq, Repr

/-- Transmit side of a wale (R235–R239, R258–R266, R312–R316). -/
structure WaleTx where
  /-- MemberFrameCounter of the next frame (R235). -/
  counter : Nat := 0
  /-- The lanes on plan A and plan B, and Protection (R236, R248). -/
  planA : Option Nat := none
  planB : Option Nat := none
  protection : Bool := false
  /-- Lanes that leave the transmit map with the next frame (R247), and the lane that takes the free plan with it (R248). -/
  leaving : List Nat := []
  restore : Option Nat := none
  /-- Time, in nanoseconds of TB0, since which each lane has been in the map (R248). -/
  memberSince : Map Nat := []
  /-- Removed lanes whose repeat-buffer share is not yet returned (R252). -/
  unreturned : List Nat := []
  outstanding : List HeldSegment := []
  /-- Sequence numbers queued for resending, ascending (R264). -/
  resend : List Nat := []
  linkCount : Nat := 0
  /-- Link messages waiting in front of VC0 (R313): type, payload. A SACK, type 1, is built when it is sent (R261). -/
  links : List (Nat × Bytes) := []
  vcSequence0 : Nat := 0
  vcSequence4 : Nat := 0
  srtt : Int := 0
  rttvar : Int := 0
  sampled : Bool := false
  /-- VCs whose next segment waits for the window (R265). -/
  windowFull : List Nat := []
  /-- Entry to Held in nanoseconds of TB0 (R266). -/
  heldSince : Nat := 0
  queue : List EmitRequest := []
  credit : Map Nat := []
  pointer : Map Nat := []
  /-- VC whose turn it is in the concatenated stream, and whether its quantum was added in this visit (R315). -/
  turn : Nat := 2
  visiting : Bool := false
  /-- Fixed-VC segments in the order they left the cipher (R237). -/
  fixed : List OutSegment := []
  /-- Rest of the segment in progress on a stake lane's VC: key 8 × lane + VC (R237). -/
  fixedRest : Map Bytes := []
  /-- Bulk segments chosen for the concatenated stream, and the rest of the one in progress (R238). -/
  stream : List OutSegment := []
  streamRest : Bytes := []
deriving DecidableEq, Repr

/-- One unit held in the skew buffer (R245): member, lane, concatenated bytes, SegmentPointer if its overhead passed R229, MemberMap
if it passed, offsets that carry an FEC flag. -/
structure HeldUnit where
  member : Nat
  lane : Nat
  bytes : Bytes
  pointer : Option Nat
  map : Option Nat
  flags : List Nat
deriving DecidableEq, Repr

/-- Receive side of a wale (R245, R256–R262). -/
structure WaleRx where
  /-- Units waiting, by frame counter. -/
  units : Map (List HeldUnit) := []
  nextFrame : Option Nat := none
  lastMap : Nat := 0
  /-- Counter of the latest frame received, whose map WaleRxMap shows (R252). -/
  latest : Option Nat := none
  /-- Time, in nanoseconds of TB0, at which the first unit of each frame counter arrived last (R246). -/
  firsts : Map Nat := []
  /-- Bytes of the concatenated segment in progress, the offsets among them that carry an FEC flag, and whether a SegmentPointer named
  its start; bytes that merely follow a segment may be fill (R238). -/
  partialSegment : Bytes := []
  partialFlags : List Nat := []
  sure : Bool := false
  synced : Bool := false
  /-- Breaks met since the last count into WaleStreamBreaks (R245). -/
  breaks : Nat := 0
  /-- Fixed-slot segments in progress: key 8 × lane + VC. -/
  partialFixed : Map (Bytes × List Nat) := []
  /-- Segments delineated and not yet taken by the checks of R257. -/
  delineated : List RxSegment := []
  accepted : List Nat := []
  anyAccepted : Bool := false
  echoCounter : Nat := 0
  echoTime : Nat := 0
  /-- Runs to request: first, end exclusive (R261). -/
  requests : List (Nat × Nat) := []
  /-- Accepted numbers whose segment was lost before its use (R184). -/
  lost : List Nat := []
  /-- Breaks of the stream after which no concatenated segment was checked yet: how many delineated segments, not yet checked, came
  before the break, and, once none is left, the number after the last one accepted before it (R245, R261). -/
  breakMarks : List (Nat × Option Nat) := []
  held0 : Map Bytes := []
  held4 : Map Bytes := []
  next0 : Nat := 0
  next4 : Nat := 0
  lastExtraSack : Option Nat := none
  /-- VC1 and VC2 segments accepted ahead of their group's epoch: header, payload, VC2 buffer (R260). -/
  early : List (Bytes × Bytes × Option Nat) := []
deriving DecidableEq, Repr

/-- One session of a wale (R273–R280, R290). -/
structure LineSession where
  state : Nat := 0
  hoop : Nat := 0xFF
  clear : Bool := false
  planHash : Bytes := []
  transit : Bool := false
  opener : Bool := false
  txEpoch : Nat := 0
  phase : Nat := 0
  rxOld : Nat := 0
  rxNew : Nat := 0
  sent : Nat := 0
  chainTx : Bytes := []
  chainRx : Bytes := []
  txKeys : Map Bytes := []
  rxKeys : Map Bytes := []
  /-- Seed of the encapsulation key offered in a SessionOpen or RekeyOffer. -/
  offer : Nat := 0
  rekeyDue : Bool := false
  /-- Times of the tag failures of the last second, newest first (R283). -/
  failures : List Nat := []
deriving DecidableEq, Repr

/-- The handshake of a wale's module session (R274–R276). -/
structure Handshake where
  kemSeed : Nat := 0
  hello : Bytes := []
  peerHello : Bytes := []
  reply : Bytes := []
  secretOwn : Bytes := []
  secretPeer : Bytes := []
  cipherPeer : Bytes := []
  th : Bytes := []
  finishedSent : Bool := false
  peerNode : Nat := 0
  peerAddress : Nat := 0
  /-- Times of the stray handshake segments of the last second, newest first (R288). -/
  strays : List Nat := []
deriving DecidableEq, Repr

/-- One wale: transmit, receive, sessions and handshake. -/
structure WaleState where
  tx : WaleTx := {}
  rx : WaleRx := {}
  sessions : Map LineSession := []
  handshake : Handshake := {}
  /-- When EV_LINE_AUTH_FAIL was last raised (R283). -/
  lastAuthEvent : Option Nat := none
  /-- Stamps of line time, newest first: frame counter of a multiframe start and TB3 in nanoseconds, at own sending and at
  receipt on the timing lane (R358). -/
  txStamps : List (Nat × Nat) := []
  rxStamps : List (Nat × Nat) := []
deriving DecidableEq, Repr

/-- Receive side of one DSP lane (R240–R247). -/
structure LaneRx where
  errored : Nat := 0
  /-- 0 Clear, 1 Los, 2 Lof (R242). -/
  losState : Nat := 0
  counter : Nat := 0
  bip : Nat := 0
  bipKnown : Bool := false
  aisSet : Nat := 0
  aisClear : Nat := 0
  rdiSet : Nat := 0
  rdiClear : Nat := 0
  timBad : Nat := 0
  timGood : Nat := 0
  idBad : Nat := 0
  idGood : Nat := 0
  plmBad : Nat := 0
  plmGood : Nat := 0
  trace : Bytes := []
  traceOk : Bool := false
  traceCounts : Bool := false
  /-- Last valid trace that counts under R232. -/
  counted : Bytes := []
  /-- Label bytes of the multiframe in progress from position 0 on, and its number; the last whole label and its multiframe (R233). -/
  labels : Bytes := []
  labelMf : Nat := 0
  labelPrev : Bytes := []
  prevMf : Option Nat := none
  /-- Member byte of the last position-0 frame that passed R229, and its multiframe (R243, PLM). -/
  role0 : Nat := 0
  role0Mf : Option Nat := none
  member : Nat := 0
  /-- A frame that passed R229 has stated the peer's member. -/
  known : Bool := false
deriving DecidableEq, Repr

/-- Why a lane sends AIS (R243): its framer has failed (R373), its transmit path failed a check (R286), or the M die that feeds it is in
reset or faulted. -/
inductive AisCause where
  | framer | path | memory
deriving DecidableEq, Repr

/-- Transmit side of one DSP lane (R228–R239). -/
structure LaneTx where
  /-- The lane drives an end of its pair (R22): it sends frames. -/
  enabled : Bool := false
  counter : Nat := 0
  /-- Trace being sent since the last frame with counter mod 8 = 0, and slot codes since the last position 0 (R232, R233). -/
  trace : Bytes := []
  labels : Bytes := []
  fill : Nat := 0x7FFFFFFF
  bip : Nat := 0
  bei : Nat := 0
  /-- Why AIS is sent (R243). -/
  ais : List AisCause := []
  /-- The frames of the map period in progress (R254). -/
  mapped : List Bytes := []
deriving DecidableEq, Repr

/-- One DSP lane: framer, defects, FEC seconds (R255), APR and comparator (R305), tuning (R295). -/
structure LaneState where
  rx : LaneRx := {}
  tx : LaneTx := {}
  degradedSeconds : Nat := 0
  goodSeconds : Nat := 0
  degraded : Bool := false
deriving DecidableEq, Repr

/-- One meter of R317: token counts as last filled and the time of that filling. -/
structure Meter where
  tc : Nat := 0
  tp : Nat := 0
  filled : Nat := 0
deriving DecidableEq, Repr

/-- The line: wales, lanes, hoop meters, clear-mode latches of the L dies (chapters 12–14, 16). -/
structure LineState where
  wales : Map WaleState := []
  lanes : Map LaneState := []
  meters : Map Meter := []
  /-- Histograms: depth bins 0–15 and delay bins 16–31, key 8 × owner + VC, and 8 × (32 + wale) + VC (R320). -/
  histograms : Map (Map Nat) := []
deriving DecidableEq, Repr

/-- PTP state of one domain (R354, R355): Announce messages heard (clockIdentity, dataset, grandmaster), selected master and
its grandmaster, Syncs in a row within the threshold, stamps of the exchange in progress. -/
structure PtpState where
  masters : List (Nat × Nat × Nat) := []
  master : Option Nat := none
  grandmaster : Nat := 0
  inThreshold : Nat := 0
  syncPending : Option (Int × Int) := none
  meanPathDelay : Int := 0
deriving DecidableEq, Repr

/-- What the last TimeSync of a wale said (R358): hops, reference, priority, whether it follows a Locked source, and the
neighbour's address. -/
structure LineTimePeer where
  hops : Nat := 0xFF
  reference : Nat := 0
  priority : Nat := 0xFF
  locked : Bool := false
  address : Nat := 0
deriving DecidableEq, Repr

/-- The time unit (chapter 18). `acc` holds each base in units of 2^−32 ns (R351). -/
structure TimeState where
  acc : Map Nat := []
  /-- Part of a nanosecond by which d has still to move: units of 10^−9 × 2^−32 ns (R356). -/
  slewRest : Nat := 0
  ptp : Map PtpState := []
  linePeers : Map LineTimePeer := []
  /-- Last rising edge at 1PPS_OUT in nanoseconds of TB0 (R360). -/
  lastPps : Option Nat := none
  ppsHigh : Bool := false
deriving DecidableEq, Repr

/-- Owner of one pool buffer: owner class k of R197, the group whose reserve it counts in (R199), and the group it was taken or is
kept for, whose Reform or Delete frees it (R204). -/
structure BufferTag where
  owner : Nat
  reserve : Option Nat := none
  group : Option Nat := none
deriving DecidableEq, Repr

/-- One held frame (R192, R193): hoop, class (0–2 carved, 3 one 2 MiB buffer, 4 plan buffer), its place among the die's frames
carved for the class, logical frame, buffers in use. -/
structure Frame where
  hoop : Nat
  cls : Nat
  place : Nat
  logical : Nat
  used : Map (Option BufferTag) := []
deriving DecidableEq, Repr

/-- What a waiting pool request is for: a plain request of an owner, a spill of a landing chunk's slot piece (R220), or the
exchange data of a chunk that is not yet bound (R125). -/
inductive PoolPurpose where
  | plain
  | spill (window generation chunk contributor piece : Nat)
  | exchange (group seq chunk : Nat)
deriving DecidableEq, Repr

/-- One request to the pools (R198, R200). -/
structure PoolRequest where
  hoop : Nat
  owner : Nat
  group : Option Nat
  cls : Nat
  purpose : PoolPurpose
deriving DecidableEq, Repr

/-- The buffer pools (chapter 10): held frames by die × 2^17 + frame of the die; the die after each owner's last allocation;
waiting requests in order of arrival; owners (4h + k) in a wait episode, whether the frame limit caused it; the hoops that fault for
a refused free of an agent, with the frame (R202), empty between commands. -/
structure PoolState where
  frames : Map (Option Frame) := []
  nextDie : Map Nat := []
  waiting : List PoolRequest := []
  episodes : Map Nat := []
  misfreed : List (Nat × Nat) := []
deriving DecidableEq, Repr

/-- An operation that holds a context (R63): `phase` 0 Queued, 1 Running, 2 Finished. -/
structure Operation where
  seq : Nat
  epoch : Nat
  desc : Bytes
  order : Nat
  phase : Nat
  /-- Where its context came from: 0 the group's reserve, 1 the hoop's pool, 2 the shared remainder (R60). -/
  source : Nat
  /-- Its generation of SourceWindow (R220). -/
  generation : Nat
  /-- Chunks whose ChunkDone event has been taken. -/
  done : List Nat
  /-- OuterStepCounter when the operation began to run (R81, R158). -/
  step : Nat
  /-- The status with which it ends once its predecessor is Done (R57, R63). -/
  ending : Option Nat := none
  /-- Sites of its chunks' peer sets: every site, or those of the side in an autonomous step (R342). -/
  side : Nat := 0xFFFF
  /-- 0 as accepted, 1 run again after a rollback (R341), 2 replayed (R343). -/
  redo : Nat := 0
deriving DecidableEq, Repr

/-- A contribution to a small collective (R70, R495): member, sequence, epoch, the four values, payload. -/
structure Contribution where
  member : Nat
  seq : Nat
  epoch : Nat
  opcode : Nat
  elementType : Nat
  reduceOp : Nat
  elementCount : Nat
  payload : Bytes
deriving DecidableEq, Repr

/-- What a group holds beside its objects (chapter 3). -/
structure GroupData where
  members : List Nat := []
  contributors : Nat := 0
  bufferKib : Nat := 0
  ring : Memory := []
  ops : List Operation := []
  /-- The head descriptor waits for a context, since this place in the order of waiting (R61). -/
  waiting : Option Nat := none
  /-- Ended operations that run again: rolled back (R341), replayed (R343). They hold no context. -/
  redo : List Operation := []
  contributions : List Contribution := []
  /-- Digest exchange (R84): the digest and ArithmeticVersion last heard from each member, and whether a mismatch stands. -/
  heard : List (Nat × Bytes × Nat) := []
  stands : Bool := false
deriving DecidableEq, Repr

/-- A chunk of an accepted operation that has been bound at some time, or holds state of an earlier attempt (R81, R94, R102):
`phase` 0 not bound, 1 bound, 2 running, 3 ended by CDONE. -/
structure Chunk where
  group : Nat
  seq : Nat
  index : Nat
  phase : Nat := 0
  tile : Nat := 0
  zone : Nat := 0
  image : Bytes := []
  faults : List Nat := []
  emitted : List (Nat × Nat) := []
  /-- DXFERs delivered by earlier attempts: target chunk, offset, length (R125). -/
  delivered : List (Nat × Nat × Nat) := []
  resupply : Bool := false
  /-- Its place in the order of binding. -/
  bound : Nat := 0
deriving DecidableEq, Repr

/-- A range of a landing as it was written (R74): queue pair and number of its message, and the queue pairs with their messages that
were being received meanwhile. -/
structure SlotWriter where
  qp : Nat
  message : Nat
  lo : Nat
  hi : Nat
  during : List (Nat × Nat) := []
deriving DecidableEq, Repr

/-- Local input of one landing chunk of a window's generation (R74, R220): zone-relative bytes that reached a zone, as they
landed, and their ranges (what a restart reads, R81); ranges placed; spill buffers held: (contributor, piece), handle; who wrote
which range (R74). -/
structure Landing where
  window : Nat
  generation : Nat
  chunk : Nat
  data : Memory := []
  placed : List (Nat × Nat) := []
  buffers : List ((Nat × Nat) × Nat) := []
  saved : List (Nat × Nat) := []
  writers : List SlotWriter := []
deriving DecidableEq, Repr

/-- A segment of a stream that waits in a VC2 buffer (R155, R184): buffer, bytes of the stream, and the wale and SegmentCounter that
brought it. -/
structure StreamPart where
  buffer : Nat
  off : Nat
  len : Nat
  wale : Nat
  counter : Nat
deriving DecidableEq, Repr

/-- The stream of one site for a chunk (R74, R155): bytes received, ranges, VC2 buffers held and what each of them holds. -/
structure SiteStream where
  group : Nat
  seq : Nat
  chunk : Nat
  origin : Nat
  data : Memory := []
  got : List (Nat × Nat) := []
  buffers : List Nat := []
  parts : List StreamPart := []
deriving DecidableEq, Repr

/-- Exchange data of a chunk (R125): bytes and ranges that have arrived, Local buffers held while it is not bound, buffers granted
after a wait and not yet used. -/
structure Exchange where
  group : Nat
  seq : Nat
  chunk : Nat
  data : Memory := []
  got : List (Nat × Nat) := []
  buffers : List Nat := []
  credit : Nat := 0
deriving DecidableEq, Repr

/-- What the control region keeps of an operation that has ended (R342): the operation, the exchange data of its chunks, which
a receiver that runs again emits from (R155). -/
structure Retained where
  group : Nat
  op : Operation
  exchanges : List Exchange
deriving DecidableEq, Repr

/-- A reconciliation (R343, R344): first and last step, and the sites whose streams the replay folds. -/
structure Reconcile where
  base : Nat
  highest : Nat
  sides : Nat
deriving DecidableEq, Repr

/-- What a running image or plan command does when it completes (R148, R149, R153). -/
inductive ImageEffect where
  | nothing
  | current (slot : Nat) (image : Bytes)
  | pending (slot : Nat) (image : Bytes) (step : Nat)
  | cancel (slot : Nat)
  | clear (slot : Nat)
  | plan (bytes : Bytes)
  | unload
deriving DecidableEq, Repr

/-- A running image or plan command: its final status and check number, and its effect. -/
structure ImageJob where
  isPlan : Bool
  status : Nat
  detail : Nat
  effect : ImageEffect
deriving DecidableEq, Repr

/-- A running evacuation (R39–R41): target, whether the peer's status is awaited. -/
structure Evacuation where
  target : Bytes
  toPeer : Bool
deriving DecidableEq, Repr

/-- What a hoop holds beside its objects (chapters 2, 7). -/
structure HoopData where
  bound : Bool := false
  /-- The loaded plan: its bytes up to SignatureOffset; empty for none. -/
  plan : Bytes := []
  /-- Logical frames of each plan buffer, parity 0 first (R151, R197). -/
  planFrames : List (List Nat) := []
  stage : Memory := []
  job : Option ImageJob := none
  /-- Containers of the image slots, signature and all: current, pending with activation step. -/
  images : Map Bytes := []
  pendings : Map Bytes := []
  /-- The capacity rule of R31 has taken the hoop's reservation. -/
  taken : Bool := false
  evacuation : Option Evacuation := none
  evacuateWhenStopped : Bool := false
  /-- Last landing discard in nanoseconds of TB0 (R74). -/
  lastDiscard : Option Nat := none
  spilling : Bool := false
  /-- Own emitted streams of the last steps started (R342): step, group, sequence, chunk, bytes. -/
  deferred : List (Nat × Nat × Nat × Nat × Bytes) := []
  /-- Operations of the last HoopAutonomousWindow steps (R342). -/
  retained : List Retained := []
  reconcile : Option Reconcile := none
  /-- The shadow of this hoop: the peer that last took its evacuation (R337). -/
  shadow : Option Nat := none
  /-- Digests of this module's chunks (R338): step, group, sequence, chunk, SHA3-512. -/
  digests : List (Nat × Nat × Nat × Nat × Bytes) := []
  /-- Digests of a shadow that came before this module's own: group, sequence, chunk, SHA3-512. -/
  shadowDigests : List (Nat × Nat × Nat × Bytes) := []
deriving DecidableEq, Repr

/-- Hoops, groups and their operations (chapters 2–4, 7, 10). -/
structure WorkState where
  hoops : Map HoopData := []
  groups : Map GroupData := []
  chunks : List Chunk := []
  landings : List Landing := []
  streams : List SiteStream := []
  exchanges : List Exchange := []
  /-- Next places in the orders of acceptance and of waiting. -/
  nextOrder : Nat := 0
  nextWait : Nat := 0
  /-- Generation counters g[i] of each window: 2^32 × window + chunk; accepted operations of each window (R220). -/
  generation : Map Nat := []
  accepted : Map Nat := []
deriving DecidableEq, Repr

/-- Bytes that a DLD or DGATH reads (R124, R217): plan buffer, parity, offset, length, and where they go in the tile store; the ranges
of the piece that a window write meets before the load completes, whose bytes are undefined. -/
structure LoadPiece where
  buffer : Nat
  parity : Nat
  off : Nat
  len : Nat
  place : Nat
  torn : List (Nat × Nat) := []
deriving DecidableEq, Repr

/-- What an uncompleted instruction of a tile's queue still has to do (R110–R113). -/
inductive TileOp where
  /-- Nothing: its effect has been made, and it completes behind what stands before it in its queue (log entry 20). -/
  | held
  | swait (semaphore count : Nat)
  /-- With the PC and word of the SSIG, for EX_SEMAPHORE (R134). -/
  | ssig (semaphore count pc word : Nat)
  /-- DLD, DGATH. -/
  | load (pieces : List LoadPiece)
  /-- DST: plan buffer, parity, offset, place and length in the tile store; the data is discarded (R342). -/
  | store (buffer parity offset address length : Nat) (discarded : Bool)
  /-- DOUT: offset, place and length in the tile store. -/
  | out (offset address length : Nat)
  /-- DXFER: target chunk, offset in its exchange region, place and length in the tile store. -/
  | transfer (chunk offset address length : Nat)
  | claim (first count : Nat)
  | exchange (bytes : Nat)
  | siteWait (position : Nat)
  /-- DREL. -/
  | release
  /-- LEMIT: stream offset, place and length in the tile store, VC; then the ticket under which its copies wait for the line. -/
  | stream (offset address length vc : Nat)
  | emit (number : Nat)
  | post (mailbox word : Nat)
deriving DecidableEq, Repr

/-- An uncompleted instruction of a tile's queue (R110–R113): its place in program order, its footprint in the tile store, each part the
range from its lowest byte to its highest, and the s register that it writes, 0 for none. -/
structure TileJob where
  op : TileOp
  number : Nat := 0
  reads : Nat × Nat := (0, 0)
  writes : Nat × Nat := (0, 0)
  target : Nat := 0
deriving DecidableEq, Repr

/-- A resident slot of the mesh (R92, R127): format and its 128 columns, each the element bytes followed by the scales. -/
structure Resident where
  fmt : Nat
  columns : List Bytes
deriving DecidableEq, Repr

/-- One weaver tile (chapters 5 and 6). -/
structure TileData where
  store : Memory := []
  /-- Chunks bound to the zones: zone 0, zone 1: (group, sequence, chunk) (R94). -/
  zone0 : Option (Nat × Nat × Nat) := none
  zone1 : Option (Nat × Nat × Nat) := none
  /-- The chunk that runs: (group, sequence, chunk). After DREL its zone may hold another chunk (R94, R126). -/
  running : Option (Nat × Nat × Nat) := none
  /-- What the chunk runs: its image's code section, declarations and constants (R139). -/
  image : Bytes := []
  pc : Nat := 0
  s : Map Nat := []
  a : Map Nat := []
  v : Map (List Nat) := []
  semaphores : Map Nat := []
  coeff : List Nat := [0, 0, 0]
  /-- Loop stack, innermost first: first and last instruction of the body, iterations left (R120). -/
  loops : List (Nat × Nat × Nat) := []
  slots : Map (Option Resident) := []
  accum : Map (List Nat) := []
  /-- Defined ranges of the store (R108). -/
  defined : List (Nat × Nat) := []
  claims : List (Nat × Nat) := []
  released : Bool := false
  /-- Armed site slots: position, base; those whose LAWAIT was dispatched (R108, R133). -/
  arms : Map (Option Nat) := []
  awaited : List Nat := []
  exchanged : Nat := 0
  emits : List (Nat × Nat) := []
  /-- Ranges of the own site slot that LEMIT has filled (R133). -/
  ownSlot : List (Nat × Nat) := []
  /-- Emitted stream ranges with their bytes, and the bytes of the chunk's DOUTs, in program order (R338). -/
  streamData : List (Nat × Bytes) := []
  outData : Bytes := []
  /-- Uncompleted instructions by queue: 0 scalar, 1 mesh, 2 vector, 3 DMA, 4 line (R110). -/
  queues : Map (List TileJob) := []
  fenced : Bool := false
  ending : Bool := false
  /-- Instructions that have entered a queue, the next one's place in program order (R110, R132). -/
  issued : Nat := 0
  /-- An exception whose earlier instructions have not all completed: code, PC, word (R135). -/
  trapped : Option (Nat × Nat × Nat) := none
  /-- Dispatch has been withheld, and no instruction has completed since (R110, R111, R114). -/
  withheld : Bool := false
  /-- Resident image hash and staged content: buffer, offset, length, parity, step (R154). -/
  residentHash : Bytes := []
  staged : Option (Nat × Nat × Nat × Nat × Nat) := none
  testing : Bool := false
  /-- The last sensor samples, newest first, of four readings in 0.1 °C each (R98). -/
  samples : List (List Int) := []
deriving DecidableEq, Repr


/-- A packet that the requester of a queue pair has sent and that is not yet acknowledged, or waits to be sent (R213, R221):
the operation and chunk whose result it carries. -/
structure FabricPacket where
  psn : Nat
  opcode : Nat
  address : Nat
  key : Nat
  length : Nat
  data : Bytes
  ackReq : Bool
  /-- It has left the port; false while it waits to leave, for the first time or again (R213). -/
  left : Bool := false
  result : Option (Nat × Nat × Nat) := none
deriving DecidableEq, Repr

/-- An RDMA WRITE in progress at the responder (R217, R218): window and the key it was checked under, next virtual address, bytes left, parity of a Double
buffer. -/
structure InboundWrite where
  window : Nat
  key : Nat
  address : Nat
  left : Nat
  parity : Nat
deriving DecidableEq, Repr

/-- What a queue pair holds beside its objects (chapter 11). -/
structure QpData where
  /-- Hoop and port bound at the last ToInit (R215, R216). -/
  bound : Bool := false
  hoop : Nat := 0
  port : Nat := 0
  /-- The WRITE being received, and how many have begun (R74). -/
  inbound : Option InboundWrite := none
  messages : Nat := 0
  nakOpen : Bool := false
  unacked : Nat := 0
  sent : List FabricPacket := []
  held : Bool := false
  retries : Nat := 0
  rnrRetries : Nat := 0
  lastCnp : Option Nat := none
deriving DecidableEq, Repr

/-- Output pins of the control connector (R482) that commands pulse or drive. -/
inductive OutPin where
  | alertL | pgood | clkout | ppsOut | snapOut
deriving DecidableEq, Repr

/-- The IPv6 header of a packet sent (R211): source, destination, hop limit, traffic class with the ECN bits (R214), flow label. -/
structure IpHead where
  source : Bytes
  destination : Bytes
  hopLimit : Nat
  trafficClass : Nat
  flowLabel : Nat
deriving DecidableEq, Repr

/-- The headers of a RoCEv2 packet sent (R211): IPv6, UDP source and destination port, UDP checksum. -/
structure PacketHead where
  ip : IpHead
  sourcePort : Nat
  destinationPort : Nat
  checksum : Nat
deriving DecidableEq, Repr

/-- What the module sends outward, in the order it is sent (the model's own record, log entry 9). -/
inductive Signal where
  /-- An MSI-X vector, or the PME that stands for it in D3hot (R408). -/
  | msix (vector : Nat)
  | pme (vector : Nat)
  /-- An answer to a PDP client: session, sequence number, message. -/
  | pdp (session seq : Nat) (message : Bytes)
  /-- An answer to the handshake of a PDP client that has no session. -/
  | pdpRefusal (status : Nat)
  /-- What a host read of a mailbox's take register returns (R410). -/
  | takeRegister (mailbox value : Nat)
  /-- Interrupt to the hub cores (R411). -/
  | hubInterrupt (mailbox : Nat)
  | pin (p : OutPin) (level : Bool)
  /-- A Sarsia frame on a lane (R227). -/
  | frame (lane : Nat) (bytes : Bytes)
  /-- One FEC multiframe of a lane, coded (R253, R254). -/
  | coded (lane : Nat) (bits : List Bool)
  /-- A verified segment handed to its consumer: wale, header, payload (R260). -/
  | delivered (wale : Nat) (header payload : Bytes)
  /-- An RDMA packet of a queue pair: headers, opcode, PSN, address, key, payload (R211, R212). -/
  | packet (qp : Nat) (head : PacketHead) (opcode psn address key : Nat) (payload : Bytes)
  /-- An answer of the responder: syndrome 0 ACK, 1 RNR NAK, 2 sequence error, 3 invalid request, 4 remote access (R213); PSN; the
  timer code of an RNR NAK (R220). -/
  | response (qp : Nat) (head : PacketHead) (syndrome psn timer : Nat)
  | cnp (qp : Nat) (head : PacketHead)
  /-- The handle that a pool slice gives the agent of an owner (R193): hoop, owner class, handle. -/
  | handle (hoop owner handle : Nat)
  /-- A request of an owner that a pool slice refuses: hoop, owner class, status (R194, R201). -/
  | poolRefused (hoop owner status : Nat)
  /-- A segment that the line's engine refuses: owner, status (R284). -/
  | segmentRefused (owner status : Nat)
  /-- An ICMPv6 message of a port: header, type, body (R211). -/
  | icmp (port : Nat) (ip : IpHead) (kind : Nat) (body : Bytes)
deriving DecidableEq, Repr

/-- Ports (R208–R211): MacLaneRate and lane count taken at the last training, fallback to 200 Gbit/s, the healthy half in use,
paused priorities, resolved next hops (address, MAC), the module's transmit order reversed, answers that wait for their next hop. -/
structure PortData where
  mode : Nat := 0
  width : Nat := 0
  paused : List Nat := []
  neighbours : List (Bytes × Bytes) := []
  fallback : Bool := false
  half : Option Nat := none
  txReversed : Bool := false
  unsent : List (Bytes × Signal) := []
deriving DecidableEq, Repr

/-- The fabric side. -/
structure FabricState where
  qps : Map QpData := []
  ports : Map PortData := []
deriving DecidableEq, Repr

/-- One memory channel beside its objects (chapter 9): the physical line that scrub reads next (R185), corrections by pin in the pass,
uncorrectable codewords in the pass and their times, a restore that waits (R188), and a map-out that a cold reset cut short (R188). -/
structure ChannelData where
  position : Nat := 0
  leaving : Bool := false
  pins : Map Nat := []
  passUncorrectable : Nat := 0
  times : List Nat := []
  restore : Bool := false
  passes : Nat := 0
deriving DecidableEq, Repr

/-- Module memory beside its bytes (chapter 9): lines that read uncorrectable (address ÷ 64), channels migrating out by die, in
order. -/
structure MemoryState where
  channels : Map ChannelData := []
  bad : List Nat := []
  migrations : Map (List Nat) := []
  lastBadEvent : Map (Option Nat) := []
deriving DecidableEq, Repr

/-- One laser beside its objects (R298–R301): the last 16 samples, newest first, (bias in µA, power in 0.01 dBm); levels whose
event stands raised (bit 0 Warn, 1 Swap, 2 Evict); whether a commissioning runs; the lane that a spare is being tuned for;
the spare's frequency is locked. -/
structure LaserData where
  samples : List (Nat × Int) := []
  raised : Nat := 0
  commissioning : Bool := false
  swapFor : Option Nat := none
deriving DecidableEq, Repr

/-- The optical side of a DSP lane (R295, R302, R305). -/
structure OpticLane where
  tuning : Bool := false
  apr : Bool := false
  evicted : Bool := false
deriving DecidableEq, Repr

/-- The optics (chapter 15): lanes, lasers of the bank by number and of board engine k by 32 + k, selector positions in force
by IP lane (transmit, receive), IP lanes whose comparator is latched (R305). -/
structure OpticsState where
  lanes : Map OpticLane := []
  lasers : Map LaserData := []
  ports : Map (Nat × Nat) := []
  tripped : List Nat := []
deriving DecidableEq, Repr


/-- What a fabric Hello or LinkState announced (R325, R327): NodeIdentity, address, health score, arithmetic version, tile ISA
version, time heard in nanoseconds of TB0. -/
structure Announcement where
  node : Nat
  address : Nat
  health : Nat
  arithmetic : Nat := 0
  isa : Nat := 0
  heard : Nat
deriving DecidableEq, Repr

/-- The newest LinkState of an origin (R327): links (neighbour, capacity, delay in µs), time of the last refresh. -/
structure LinkStateEntry where
  node : Nat
  address : Nat
  seq : Nat
  links : List (Nat × Nat × Nat)
  heard : Nat
deriving DecidableEq, Repr

/-- One route (R328): first wale, hops, cost in µs. -/
structure Route where
  address : Nat
  wale : Nat
  hops : Nat
  cost : Nat
deriving DecidableEq, Repr

/-- What a heartbeat reported of a hoop at a module (R329): partition state, autonomous steps, epoch, step counter. -/
structure HoopReport where
  address : Nat
  hoop : Nat
  partition : Nat
  steps : Nat
  epoch : Nat
  counter : Nat
deriving DecidableEq, Repr

/-- A FenceNotice kept for a fenced module (R327, R332): bytes, time of the last sending. -/
structure FenceNotice where
  hoop : Nat
  address : Nat
  bytes : Bytes
  due : Bool
  sent : Option Nat
deriving DecidableEq, Repr

/-- The gateway fabric (chapter 17). -/
structure NetState where
  announcements : List Announcement := []
  conflicts : List Nat := []
  linkStates : List LinkStateEntry := []
  routes : List Route := []
  lsaSequence : Nat := 0
  /-- Usable wales at the last origination. -/
  usable : List Nat := []
  /-- BeatCount of each wale (R329), wales that auto-bonding has formed (R326), a proposal of this module held back (R336). -/
  beats : Map Nat := []
  autoWales : List Nat := []
  heldBack : Bool := false
  /-- Time of the last valid heartbeat of each neighbour, and since when a peer is suspected: by address. -/
  lastBeat : Map (Option Nat) := []
  suspected : Map (Option Nat) := []
  reports : List HoopReport := []
  notices : List FenceNotice := []
  /-- Health (R335, R336): since when the score lies below the threshold, last proposal by site (time, address), times of tile
  trips and of uncorrectable reads. -/
  belowSince : Option Nat := none
  proposals : Map (Option (Nat × Nat)) := []
  trips : List Nat := []
  uncorrectable : List Nat := []
  /-- Chunks of the current outer step that have matched (R338): hoop, group, sequence, chunk. -/
  matched : List (Nat × Nat × Nat × Nat) := []
deriving DecidableEq, Repr



/-- Clocks and power beside their objects (chapters 19 and 20): large blocks whose clock has run for 20 µs since their enable
(R377); small blocks whose clock has stopped (R376): domain, block; the samples of each hoop's tile power, newest first
(R388); the last sample of each die's sensors (R392); when each die's thermal ceiling last moved, in
nanoseconds of TB0 (R387); the source whose clock each domain's root takes (R367, R371); tiles that have met the return condition of
R99 and whose divider is not restored yet (R391, R494). -/
structure PowerState where
  running : List LargeBlock := []
  stopped : List (Nat × Nat) := []
  tilePower : Map (List Nat) := []
  lastReadings : Map (List Int) := []
  ceilingMoved : Map Nat := []
  source : Map Nat := []
  returning : List Nat := []
deriving DecidableEq, Repr

/-- The state of the module. -/
structure State where
  /-- The commands that wait, first in first out. -/
  pending : List Instr := []
  /-- The object store: every dictionary object by key, an unlisted key holding its default (R11). -/
  dict : Map Val := []
  /-- Module memory by module address (R175). -/
  mem : Memory := []
  /-- What the module has sent outward, newest first (the model's own, log entry 9). -/
  out : List Signal := []
  /-- How many free values have been taken (the model's own, log entry 5). -/
  freeCtr : Nat := 0
  control : ControlState := {}
  events : EventState := {}
  boot : BootState := {}
  security : SecurityState := {}
  meter : MeterState := {}
  line : LineState := {}
  time : TimeState := {}
  work : WorkState := {}
  pools : PoolState := {}
  tiles : Map TileData := []
  fabric : FabricState := {}
  memory : MemoryState := {}
  optics : OpticsState := {}
  net : NetState := {}
  power : PowerState := {}
deriving DecidableEq, Repr

/-- Why a command stops the block. No command of the spec does: a command that the spec refuses answers with a status. -/
inductive Fault where
  /-- Raised by nothing: the spec gives every command an effect or a refusal status. Safe. -/
  | none
deriving DecidableEq, Repr

/-- Why a command has no meaning here. -/
inductive Refusal where
  /-- Raised by the dispatch for a command whose meaning is not written, by its mnemonic. Safe: the step stops. -/
  | notModelled (mnemonic : String)
deriving DecidableEq, Repr

/-- The module right after reset: every object at its default, memory all zero (R183), every queue empty, the start-up
sequence at stage 1 (R464). -/
def State.reset : State := {}

end Sys2Proof.Machine
end

