-- ==== Sys2Proof/Machine/Ops.lean ====
section
/-! DEFINITION. The named operations over the state that every family shares: objects of the store, free values, the log of
outward signals, module memory, time, MSI-X vectors, the event log, the persistent store's marks. -/

namespace Sys2Proof.Machine

open Sys2Proof

/-! ### Objects -/

/-- The value of the object at a key: what the store lists, or the object's default. -/
def State.obj (s : State) (k : Nat) : Val := Map.get (objDefault k) s.dict k

/-- The number an object holds. -/
def State.num (s : State) (k : Nat) : Nat := (s.obj k).toNat

/-- The bytes an object holds. -/
def State.bytes (s : State) (k : Nat) : Bytes := (s.obj k).toBytes

/-- The state with an object set. -/
def State.set (s : State) (k : Nat) (v : Val) : State :=
  { s with dict := Map.put (objDefault k) s.dict k v }

/-- The state with a number object set. -/
def State.setNum (s : State) (k n : Nat) : State := s.set k (.num n)

/-- The state with a byte-string object set. -/
def State.setBytes (s : State) (k : Nat) (b : Bytes) : State := s.set k (.blob b)

/-- The state with a flag object set (BOOL, R399). -/
def State.setFlag (s : State) (k : Nat) (b : Bool) : State := s.setNum k (if b then 1 else 0)

/-- A BOOL object read. -/
def State.flag (s : State) (k : Nat) : Bool := s.num k != 0

/-- A counter object of `w` bits, `n` counts on; it wraps modulo 2^w as an unsigned integer of R16 does (log entry 10). -/
def State.bump (s : State) (w k n : Nat) : State := s.setNum k ((s.num k + n) % 2 ^ w)

/-- A counter object of `w` bits lowered by `n`, not below 0. -/
def State.lower (s : State) (k n : Nat) : State := s.setNum k (s.num k - n)

/-- The signed value of an I32 object (R399). -/
def State.int (s : State) (k : Nat) : Int := toSigned 32 (s.num k)

/-- The state with an I32 object set. -/
def State.setInt (s : State) (k : Nat) (x : Int) : State := s.setNum k (ofSigned 32 x)

/-- The state after a list of updates, in order. -/
def State.each {α : Type} (s : State) (l : List α) (f : State → α → State) : State := l.foldl f s

/-! ### Free values and outward signals -/

/-- The next free value of `w` bits: nothing constrains it (log entry 5). -/
def State.freeNat (s : State) (w : Nat) : Nat := (Config.freeValue w s.freeCtr).toNat

/-- The state after a free value is taken. -/
def State.tookFree (s : State) : State := { s with freeCtr := s.freeCtr + 1 }

/-- A count that no command brings goes up by a free amount, to at most `top` (log entry 146). -/
def State.countUp (s : State) (k top : Nat) : State :=
  if s.num k < top then (s.setNum k (s.num k + s.freeNat 64 % (top - s.num k + 1))).tookFree else s

/-- The state after a signal leaves the module. -/
def State.emit (s : State) (x : Signal) : State := { s with out := x :: s.out }

/-! ### Module memory -/

/-- Line l (address ÷ 64) lies in [a, a + n), in part or whole. -/
def lineIn (a n l : Nat) : Bool := decide (l * 64 < a + n ∧ a < l * 64 + 64)

/-- A module address names a byte: its reserved bits are 0 and its DieOffset lies below DieUsableBytes (R175). -/
def State.validAddress (s : State) (a : Nat) : Bool :=
  decide (a < 2 ^ 41) && decide (a % 2 ^ 38 < s.num (Obj.dieUsableBytes (a / 2 ^ 38)))

/-- The status of an access to n bytes: no access with a reserved bit, or beyond a die's DieUsableBytes, reaches a channel (R175). -/
def State.memoryStatus (s : State) (a n : Nat) : Nat :=
  if n = 0 ∨ (s.validAddress a ∧ s.validAddress (a + n - 1) ∧ a / 2 ^ 38 = (a + n - 1) / 2 ^ 38) then St.ok else St.accessDenied

/-- The state with bytes written to module memory from a module address: a line that reads uncorrectable does so until it is
next written (R184). A refused access writes nothing (R175). -/
def State.store (s : State) (a : Nat) (b : Bytes) : State :=
  let ok := s.memoryStatus a b.length = St.ok
  { s with
    mem := if ok then s.mem.writeBytes a b else s.mem
    memory := { s.memory with bad := if ok then s.memory.bad.filter fun l => !lineIn a b.length l else s.memory.bad } }

/-- Bytes of module memory; a refused access delivers none of it (R175). -/
def State.load (s : State) (a n : Nat) : Bytes :=
  if s.memoryStatus a n = St.ok then s.mem.readBytes a n else (List.range n).map fun i => Config.unreadable (a + i)

/-! ### Time -/

/-- Time base b in whole nanoseconds, truncated (R351, R352). -/
def State.baseNs (s : State) (b : Nat) : Nat := Map.get 0 s.time.acc b / 2 ^ 32

/-- TB0 in nanoseconds (R353). -/
def State.now (s : State) : Nat := s.baseNs 0

/-- TIME80 of a count of nanoseconds: seconds in [79:32], nanoseconds in [31:0] (R352). -/
def time80 (ns : Nat) : Nat := (ns / 1000000000 % 2 ^ 48) * 2 ^ 32 + ns % 1000000000

/-- Nanoseconds that a TIME80 value stands for (R352). -/
def nsOfTime80 (t : Nat) : Nat := (t / 2 ^ 32) * 1000000000 + t % 2 ^ 32

/-- Module is Ready, Standby, Starting or Limp (R478). -/
def State.limp (s : State) : Bool := s.num Obj.moduleState == 3

/-! ### Vectors (R408) -/

/-- Raise a vector: MSI-X, or a PME with the vector kept pending while the function is in D3hot (R408). -/
def State.vector (s : State) (v : Nat) : State :=
  if s.control.d3hot then
    let kept := if s.control.msixPending.contains v then s.control.msixPending else s.control.msixPending ++ [v]
    { s.emit (.pme v) with control := { s.control with msixPending := kept } }
  else s.emit (.msix v)

/-! ### Persistence marks (R422, R475) -/

/-- The retention class of the object at a key. -/
def retentionOf (k : Nat) : Retention := ((findRow k).map fun r => r.1.ret).getD .v

/-- A P write not yet covered by a commit is counted, and an H write is marked (R422, R475). -/
def State.markWrite (s : State) (k : Nat) : State :=
  match retentionOf k with
  | .p => { s.bump 32 Obj.persistPending 1 with control := { s.control with uncoveredP := true } }
  | .h => { s with control := { s.control with uncoveredH := true } }
  | _ => s

/-- Set a P object as a P write does (R422). -/
def State.setP (s : State) (k : Nat) (v : Val) : State := (s.set k v).markWrite k

/-- Every object of a retention class that the store lists: the body of a record (R420, R475). -/
def State.classBody (s : State) (r : Retention) : Map Val := s.dict.filter fun c => retentionOf c.1 == r

/-- The device (0 A, 1 B) that holds record slot i, in the order A0, B0, A1, B1 (R420). -/
def slotDevice (i : Nat) : Nat := i % 2

/-- Copy d is marked failed (PersistCopyState, R425). -/
def State.copyFailed (s : State) (d : Nat) : Bool := bitAt (s.num Obj.persistCopyState) d

/-- The slot of record n: n mod 4, or alternately the two slots of the device that has not failed (R420). -/
def State.slotFor (s : State) (n : Nat) : Option Nat :=
  match s.copyFailed 0, s.copyFailed 1 with
  | false, false => some (n % 4)
  | true, false => some (2 * (n % 2) + 1)
  | false, true => some (2 * (n % 2))
  | true, true => none

/-- Sequence of the next record: the highest in any header, plus 1 (R421). -/
def State.nextRecord (s : State) : Nat :=
  s.control.store.foldl (fun m c => max m c.2.sequence) (s.num Obj.persistSequence) + 1

/-! ### The event log (R457–R459) -/

/-- The next Sequence: one higher, 1 after 0xFFFF_FFFF and for the first entry (R457). -/
def nextSequence (n : Nat) : Nat := if n = 0xFFFFFFFF then 1 else n + 1

/-- The 32 bytes of an entry (R457). -/
def EventEntry.encode (e : EventEntry) : Bytes :=
  leBytes 2 e.code ++ leBytes 1 e.severity ++ leBytes 1 e.hoop ++ leBytes 4 e.sequence ++ leBytes 10 e.time ++
  leBytes 1 e.die ++ leBytes 1 0 ++ leBytes 4 e.unit ++ leBytes 6 e.detail ++ leBytes 2 e.repeats

/-- What an event names: hoop (0xFF for module-wide), die, unit (0xFFFF_FFFF for none), detail (R457). -/
structure EventArgs where
  hoop : Nat := 0xFF
  die : Nat := 0
  unit : Nat := 0xFFFFFFFF
  detail : Nat := 0
deriving DecidableEq, Repr

/-- The event equals the most recent entry of its code and occurs within 1 ms of that entry's last occurrence (R458). -/
def State.coalesces (s : State) (code : Nat) (a : EventArgs) : Bool :=
  match s.events.log.find? (fun e => e.code == code) with
  | some e => e.hoop == a.hoop && e.unit == a.unit && e.detail == a.detail &&
      decide (s.now ≤ Map.get 0 s.events.lastSeen code + 1000000)
  | none => false

/-- Count a later occurrence in the most recent entry of a code, saturating at 65,535 (R457, R458). -/
def countRepeat (code : Nat) : List EventEntry → List EventEntry
  | [] => []
  | e :: r => if e.code = code then { e with repeats := min 65535 (e.repeats + 1) } :: r else e :: countRepeat code r

/-- Enter a new entry: the oldest is overwritten when the log holds 4,096 (R458). -/
def State.enterEvent (s : State) (e : EventEntry) : State :=
  let full := decide (4096 ≤ s.events.log.length)
  let kept := if full then s.events.log.dropLast else s.events.log
  let s1 : State := { s with events := { s.events with log := e :: kept } }
  let s2 := if full then s1.bump 64 Obj.eventLogOverruns 1 else s1
  let s3 := s2.setNum Obj.eventLogNewest e.sequence
  s3.setNum Obj.eventLogOldest ((e :: kept).getLast?.map EventEntry.sequence |>.getD 0)

/-- What a new entry does outward: vector 1 and ALERT_L (R459). -/
def State.signalEvent (s : State) (e : EventEntry) : State :=
  let s1 := if s.num Obj.eventIrqSeverity ≤ e.severity then s.vector 1 else s
  if s.num Obj.eventAlertSeverity ≤ e.severity then
    let s' : State := { s1 with events := { s1.events with alerts := e.sequence :: s1.events.alerts } }
    (s'.bump 32 Obj.eventUnacked 1).emit (.pin .alertL false)
  else s1

/-- The entry of an event now (R457). -/
def State.eventEntry (s : State) (code : Nat) (a : EventArgs) : EventEntry :=
  ⟨code, (severityOf code).num, a.hoop, nextSequence (s.num Obj.eventLogNewest), time80 s.now, a.die, a.unit, a.detail, 0⟩

/-- Log an event and signal it (R457, R458); what a critical event does beside is `raise`'s. -/
def State.logEvent (s : State) (code : Nat) (a : EventArgs) : State :=
  let seen : EventState := { s.events with lastSeen := Map.put 0 s.events.lastSeen code s.now }
  if s.coalesces code a then { s with events := { seen with log := countRepeat code seen.log } }
  else (State.enterEvent { s with events := seen } (s.eventEntry code a)).signalEvent (s.eventEntry code a)

/-- Start a commit (R422). A commit that runs takes no more writes: the next one follows it. With both copies failed the commit
ends at once with ST_REFUSED_NOT_READY and EV_PERSIST_FAIL. -/
def State.beginCommit (s : State) (answer : Option Requester) : State :=
  if s.control.commit.isSome then
    { s with control := { s.control with
        commitDue := true, dueAnswer := if answer.isSome then answer else s.control.dueAnswer } }
  else
    match s.slotFor s.nextRecord with
    | none => (s.setNum Obj.persistCommandStatus St.refusedNotReady).logEvent Ev.persistFail {}
    | some slot =>
      let s1 := s.setNum Obj.persistCommandStatus St.busy
      { s1 with control := { s1.control with
          commit := some {
            sequence := s.nextRecord, slot := slot, body := s.classBody .p, hoopBody := s.classBody .h, retried := false
            answer := answer, covers := s.num Obj.persistPending }
          uncoveredP := false, uncoveredH := false
          store := Map.put {} s1.control.store slot ⟨s.nextRecord, [], false⟩ } }

/-- Raise an event (R457–R459): a new critical one also joins the critical record, which a commit follows. -/
def State.raise (s : State) (code : Nat) (a : EventArgs := {}) : State :=
  let e := s.eventEntry code a
  let s1 := s.logEvent code a
  if s.coalesces code a || e.severity != 4 then s1
  else
    let rec0 := s1.bytes Obj.eventCriticalRecord ++ e.encode
    (s1.setP Obj.eventCriticalRecord (.blob (rec0.drop (rec0.length - 512)))).beginCommit none

/-! ### Answers to requests -/

/-- The number under which a requester's latched value is kept (R403): PCIe slots 0–15, PDP sessions 16–31, peers by wale
32–63, hub firmware 64. -/
def requesterNumber : Requester → Nat
  | .pcie slot _ _ => slot
  | .pdp session _ => 16 + session
  | .peer wale _ => 32 + wale
  | .hubFirmware => 64

/-- The response header of a PDP or peer answer (R413, R414): Status, ResponseFlags, TotalLength, then data. -/
def responseBytes (status flags total : Nat) (data : Bytes) : Bytes :=
  leBytes 2 status ++ leBytes 2 flags ++ leBytes 4 data.length ++ leBytes 4 total ++ data

/-- Queue an emit request on a wale (R312). -/
def State.wale (s : State) (w : Nat) : WaleState := Map.get {} s.line.wales w

/-- The state with a wale set. -/
def State.setWale (s : State) (w : Nat) (x : WaleState) : State :=
  { s with line := { s.line with wales := Map.put {} s.line.wales w x } }

/-- Queue an emit request on a wale (R312): it joins the end of its queue. One of more than 16,384 bytes is refused with ST_LEN_EXCEEDED
and nothing is sent (R284). -/
def State.enqueue (s : State) (w : Nat) (r : EmitRequest) : State :=
  let x := s.wale w
  if 16384 < r.payload.length then s.emit (.segmentRefused r.owner St.lenExceeded)
  else s.setWale w { x with tx := { x.tx with queue := x.tx.queue ++ [{ r with entered := s.now }] } }

/-- A message of the module on VC0 or VC4 of session 0: type in header bytes 20–21 (R275, R327, R414), Origin this module,
Destination the peer. `rest` is header bytes 22–29. -/
def State.sendModule (s : State) (w vc kind : Nat) (rest payload : Bytes) : State :=
  s.enqueue w {
    owner := 16, vc := vc, session := 0, origin := s.num Obj.fabricAddress,
    destination := (s.wale w).handshake.peerAddress, tail := beBytes 2 kind ++ (rest ++ List.replicate 8 0).take 8,
    payload := payload, entered := 0 }

/-- A PDP message under the session key: IV = session number (4 bytes), sequence number (8 bytes) (R412); ciphertext, then tag. -/
def pdpSeal (key : Bytes) (session seq : Nat) (m : Bytes) : Bytes :=
  let r := gcmSeal key (leBytes 4 session ++ leBytes 8 seq) [] m
  r.1 ++ r.2

/-- Answer a PDP request: the module's messages use odd sequence numbers, here the request's plus 1, and the last 8
responses are kept (R412, R413; log entry 11). -/
def State.answerPdp (s : State) (session : PdpSession) (seq : Nat) (body : Bytes) : State :=
  let p := Map.get {} s.control.pdp session
  let p' : PdpState := { p with responses := ((seq, body) :: p.responses).take 8, messages := p.messages + 1 }
  { s.emit (.pdp session (seq + 1) (pdpSeal p.key session (seq + 1) body)) with
    control := { s.control with pdp := Map.put {} s.control.pdp session p' } }

/-- Answer a request: the slot's header and buffer for PCIe with vector 0 if asked, a PDP message, a PeerResponse (R407,
R413, R414). Hub firmware sees the status directly. -/
def State.answer (s : State) (rq : Requester) (status flags total : Nat) (data : Bytes) : State :=
  match rq with
  | .pcie slot tag irq =>
    let x := Map.get {} s.control.slots slot
    let x' : PcieSlot := { x with
      go := 3, status := status, responseFlags := flags, resultLength := data.length,
      totalLength := total, tag := tag.toNat, data := data }
    let s1 : State := { s with control := { s.control with slots := Map.put {} s.control.slots slot x' } }
    if irq then s1.vector 0 else s1
  | .pdp session seq => s.answerPdp session seq (responseBytes status flags total data)
  | .peer wale tag => s.sendModule wale 4 0x0603 []
      (beBytes 4 tag.toNat ++ beBytes 2 status ++ beBytes 2 flags ++ beBytes 4 total ++ beBytes 4 0 ++ data)
  | .hubFirmware => s

/-- A request that names an object drops the requester's latched copy of another object (R403). -/
def State.dropLatch (s : State) (rq : Requester) (k : Nat) : State :=
  if (Map.get (0, []) s.control.latch (requesterNumber rq)).1 = k then s
  else { s with control := { s.control with latch := Map.put (0, []) s.control.latch (requesterNumber rq) (0, []) } }

end Sys2Proof.Machine
end

