-- ==== Sys2Proof/Machine/Requests.lean ====
section
/-! DEFINITION. The dictionary engine's checks of a request (R404): existence, authority (R412, R415), access code (R400), token
(R402, R433), length and range; and the one operation through which every write and command of the dictionary passes. -/

namespace Sys2Proof.Machine

open Sys2Proof

/-- The four commands of R403. -/
inductive ReqOp where
  | read | write | describe | readSnapshot
deriving DecidableEq, Repr

/-- Key of Index:Sub (R11). -/
def keyOf (index sub : Nat) : Nat := index * 256 + sub

/-- Index ranges with one index per hoop: first index of hoop 0. -/
def hoopIndexBases : List Nat :=
  [0x2100, 0x3020, 0x3040, 0x4200, 0x5220, 0x6080, 0x7820, 0x9040, 0x9080, 0xA020, 0xB060, 0xC500, 0xD020, 0xD820, 0xE020]

/-- The hoop that owns the object at a key, none for a module-wide object (R400, R412; log entry 12): hoop-indexed objects,
image slots, pool owners, remote targets, and the groups, windows and queue pairs that a hoop holds. -/
def State.ownerHoop (s : State) (k : Nat) : Option Nat :=
  let i := k / 256
  let u := k % 256 / 16
  match hoopIndexBases.find? (fun b => decide (b ≤ i ∧ i < b + 16)) with
  | some b => some (i - b)
  | none =>
    if 0x4300 ≤ i ∧ i < 0x4400 then some ((i - 0x4300) / 16)
    else if 0x5300 ≤ i ∧ i < 0x5340 then some ((i - 0x5300) / 4)
    else if 0x6900 ≤ i ∧ i < 0x6D00 then some ((i - 0x6900) / 64)
    else if 0x3100 ≤ i ∧ i < 0x3200 then
      let g := (i - 0x3100) * 16 + u
      if s.num (Obj.groupState g) = 0 then none else some (s.num (Obj.groupHoop g))
    else if 0x6100 ≤ i ∧ i < 0x6500 then
      let w := (i - 0x6100) * 16 + u
      if s.num (Obj.windowState w) = 0 then none else some (s.num (Obj.windowHoop w))
    else if 0x6500 ≤ i ∧ i < 0x6900 then
      let q := (i - 0x6500) * 16 + u
      if s.num (Obj.qpState q) = 0 then none else some (Map.get {} s.fabric.qps q).hoop
    else none

/-- Session 0 of a wale is Established (R274, R290). -/
def State.established (s : State) (w : Nat) : Bool := s.num (Obj.lineSession0State w) == 3

/-- Hoop h holds an open hoop session with the peer of identity `node` (R277, R415). -/
def State.hoopMeetsPeer (s : State) (h node : Nat) : Bool :=
  (List.range 32).any fun w => (s.wale w).handshake.peerNode == node && s.established w &&
    (s.wale w).sessions.any fun c => c.2.hoop == h && c.2.state == 2

/-- Cut a table into entries of `n` bytes. -/
def entriesOf (n : Nat) : Nat → Bytes → List Bytes
  | 0, _ => []
  | _, [] => []
  | fuel + 1, b => b.take n :: entriesOf n fuel (b.drop n)

/-- A PeerGrantTable entry gives the peer the access (R415). -/
def State.granted (s : State) (node k : Nat) (write : Bool) : Bool :=
  (entriesOf 24 32 (s.bytes Obj.peerGrantTable)).any fun e =>
    field e 0 8 == node && decide (field e 8 2 ≤ k / 256 ∧ k / 256 ≤ field e 10 2) &&
    field e 12 1 == (s.ownerHoop k).getD 0xFF && (!write || bitAt (field e 13 1) 0) &&
    decide (s.now / 1000000000 ≤ field e 16 8)

/-- Check 2 of R404: the requester has authority for the object (R412, R415). -/
def State.authorised (s : State) (rq : Requester) (k : Nat) (write : Bool) : Bool :=
  match rq with
  | .pcie _ _ _ => true
  | .hubFirmware => true
  | .pdp session _ =>
    let p := Map.get {} s.control.pdp session
    p.phase == 2 && (!write || p.write) &&
      (p.scope == 0xFF || (match s.ownerHoop k with
        | none => !write
        | some h => h == p.scope))
  | .peer w _ =>
    let node := (s.wale w).handshake.peerNode
    s.established w && (s.granted node k write ||
      (!write && (match s.ownerHoop k with
        | none => true
        | some h => s.hoopMeetsPeer h node)))

/-- Check 3 of R404: the access code permits the operation (R400). -/
def State.accessStatus (s : State) (r : ObjRow) (k : Nat) (write : Bool) : Nat :=
  match r.acc, write with
  | .ro, true => St.accessDenied
  | .wo, false => St.accessDenied
  | .rws, true =>
    match s.ownerHoop k with
    | none => St.ok
    | some h =>
      let st := s.num (Obj.hoopState h)
      if st = 0 ∨ st = 1 ∨ st = 4 then St.ok else St.notPermittedInState
  | _, _ => St.ok

/-- The public key whose tokens a SIG object accepts (R433). -/
def State.signingKey (s : State) (k : Nat) : Bytes :=
  if 0xA020 ≤ k / 256 ∧ k / 256 < 0xA030 then s.bytes (Obj.hoopControllerKey (k / 256 - 0xA020))
  else s.bytes Obj.ownerKey

/-- Bytes 0–35 of a token (R402). -/
def tokenHead (t : Token) : Bytes :=
  leBytes 8 t.keyId.toNat ++ leBytes 8 t.node.toNat ++ leBytes 2 t.index.toNat ++ leBytes 1 t.sub.toNat ++
  leBytes 1 0 ++ leBytes 8 t.counter.toNat ++ leBytes 8 0

/-- The token verifies for a value of an object (R402). -/
def State.tokenVerifies (s : State) (k : Nat) (value : Bytes) (t : Token) : Bool :=
  let key := s.signingKey k
  t.node.toNat == nodeIdentity && t.index.toNat == k / 256 && t.sub.toNat == k % 256 &&
  decide (s.num Obj.sigCounter < t.counter.toNat) && key != [] &&
  leBytes 8 t.keyId.toNat == (sha3Bytes key).take 8 &&
  verifies key (tokenHead t ++ value) "penrel-sig" t.signature

/-- The bytes by which a value is carried (R399). -/
def ObjRow.encode (r : ObjRow) : Val → Bytes
  | .num n => leBytes r.size n
  | .blob b => b

/-- Check 6 of R404: the value lies in the range of its table (R399, R352). -/
def ObjRow.inRange (r : ObjRow) (v : Val) : Bool :=
  match v with
  | .blob _ => true
  | .num n =>
    let x : Int := if r.ty = .i32 then toSigned 32 n else n
    (match r.range with
      | some (lo, hi) => decide (lo ≤ x ∧ x ≤ hi)
      | none => true) && (r.ty != .time80 || decide (n % 2 ^ 32 < 1000000000))

/-- Check 5 of R404 for a value: the type's size, or at most MaxLength. -/
def ObjRow.fits (r : ObjRow) (v : Val) : Bool :=
  match v with
  | .num n => decide (n < 2 ^ (8 * r.size)) && r.ty != .blob && r.ty != .str
  | .blob b => decide (b.length ≤ r.size) && (r.ty == .blob || r.ty == .str)

/-- The status of a length that fails check 5 of R404: R40 states its own for EvacuationTarget. -/
def ObjRow.lengthStatus (r : ObjRow) : Nat := if r.base = 0x2100 ∧ r.sub = 0x0B then St.accessDenied else St.lenExceeded

/-- Checks 1–6 of R404 on a write of a whole value, in order; the first failure decides. With the security root's domain Failed no
signature can be checked (R373). -/
def State.writeStatus (s : State) (rq : Requester) (k : Nat) (v : Val) (token : Option Token) : Nat :=
  match findRow k with
  | none => St.accessDenied
  | some (r, _) =>
    if !s.authorised rq k true then St.accessDenied
    else if s.accessStatus r k true ≠ St.ok then s.accessStatus r k true
    else if r.acc = .sig && s.num (Obj.domainState 6) == 3 then St.busy
    else if r.acc = .sig && !(token.any fun t => s.tokenVerifies k (r.encode v) t) then St.badSignature
    else if !r.fits v then r.lengthStatus
    else if !r.inRange v then St.accessDenied
    else St.ok

/-- A peer's refused request counts in PeerAccessRefusals (R415). -/
def State.countRefusal (s : State) (rq : Requester) (k : Nat) (write : Bool) : State :=
  match rq with
  | .peer _ _ => if s.authorised rq k write then s else s.bump 32 Obj.peerAccessRefusals 1
  | _ => s

/-- The dictionary answers on this path now: in the Limp state over PCIe only (R469), elsewhere on every path. -/
def State.serves (s : State) (rq : Requester) : Bool :=
  match rq with
  | .pcie _ _ _ => true
  | _ => !s.limp

/-- What a checked write does: the state, and the status of check 7 with which the request is answered (R404). -/
abbrev Effect := State → State × Nat

/-- A write or command that changed an H object leaves a hoop-record commit to come (R475). -/
def State.noteH (s old : State) : State :=
  if s.classBody .h = old.classBody .h then s else { s with control := { s.control with uncoveredH := true } }

/-- The hub domain whose registers an object stands for, beside the dictionary engine's own (R370). -/
def registerDomain (k : Nat) : Nat :=
  let i := k / 256
  if 0xB000 ≤ i ∧ i < 0xC000 then 5 else if 0xD000 ≤ i ∧ i < 0xD800 then 6 else if 0xC700 ≤ i ∧ i < 0xC800 then 7 else 1

/-- An access restarts the small blocks that serve it (R376). -/
def State.touch (s : State) (k : Nat) : State :=
  { s with power := { s.power with stopped := s.power.stopped.filter fun c => c.1 != 1 && c.1 != registerDomain k } }

/-- Checks 1–6 of R404 on a write request; what passes them is `f`'s to do and to answer. -/
def State.checked (s : State) (rq : Requester) (k : Nat) (v : Val) (token : Option Token) (f : State → State) : State :=
  if !s.serves rq then s
  else
    let s0 := (s.dropLatch rq k).touch k
    let st := s0.writeStatus rq k v token
    if st ≠ St.ok then (s0.countRefusal rq k true).answer rq st 0 0 [] else f s0

/-- One write request (R404): checks 1–6, then the effect of the defining chapter, then the answer. On success a SIG token's
Counter becomes SigCounter with the value (R402). -/
def State.request (s : State) (rq : Requester) (k : Nat) (v : Val) (token : Option Token) (effect : Effect) : State :=
  s.checked rq k v token fun s0 =>
    let r := effect s0
    let s1 := match token with
      | some t => if r.2 = St.ok then r.1.setP Obj.sigCounter (.num t.counter.toNat) else r.1
      | none => r.1
    (s1.noteH s0).answer rq r.2 0 0 []

/-- The reserved bytes of a BLOB that software reads back (R10): the length after which its layout repeats, and the reserved offsets
in it: EvacuationTarget (R40), GroupDefinition (R46), PdpKeyTable and PeerGrantTable (R424). -/
def ObjRow.reservedBytes (r : ObjRow) : Nat × List Nat :=
  match r.base, r.sub with
  | 0x2100, 0x0B => (32, [1, 24, 25, 26, 27, 28, 29, 30, 31])
  | 0x3100, 0x03 => (2 ^ 16, [13, 18, 19])
  | 0x1000, 0x0A => (72, [66, 67, 68, 69, 70, 71])
  | 0x1000, 0x0B => (24, [14, 15])
  | _, _ => (1, [])

/-- A value as a read returns it: reserved bytes read 0 (R10). -/
def ObjRow.shown (r : ObjRow) : Val → Val
  | .num n => .num n
  | .blob b =>
    let x := r.reservedBytes
    if x.2 = [] then .blob b else .blob (b.zipIdx.map fun c => if x.2.contains (c.2 % x.1) then 0 else c.1)

/-- The effect of a write that only sets its object: reserved bits of a number read 0 (R10). -/
def plainWrite (k : Nat) (v : Val) : Effect := fun s =>
  let v' : Val := match v, (findRow k).bind (fun r => r.1.mask) with
    | .num n, some m => .num (n &&& m)
    | _, _ => v
  ((s.set k v').markWrite k, St.ok)

/-- A command that reports in a status object of its own: the request answers ST_OK (R404). -/
def reported (statusKey : Nat) (f : State → State × Nat) : Effect := fun s =>
  let r := f s
  (r.1.setNum statusKey r.2, St.ok)

/-- A refusal of check 7 with no effect. -/
def refuse (status : Nat) (s : State) : State × Nat := (s, status)

end Sys2Proof.Machine
end

