-- ==== Sys2Proof/Machine/PoolOps.lean ====
section
/-! DEFINITION. The buffer pools (chapter 10) as operations: frames, classes and handles (R192–R194), the search (R195, R196), owners
and reserves (R197–R199), waiting (R200), freeing and returning (R198, R202). -/

namespace Sys2Proof.Machine

open Sys2Proof

/-- Bytes of a frame (R192). -/
def frameBytes : Nat := 2097152

/-- Bytes of a buffer of a class (R192). -/
def classBytes (c : Nat) : Nat :=
  match c with
  | 0 => 512
  | 1 => 8192
  | 2 => 131072
  | _ => 2097152

/-- Buffers per frame of a class (R192). -/
def perFrame (c : Nat) : Nat := frameBytes / classBytes c

/-- The smallest class whose buffers hold b bytes (R194); none above 2 MiB. -/
def classFor (b : Nat) : Option Nat :=
  if b ≤ 512 then some 0 else if b ≤ 8192 then some 1 else if b ≤ 131072 then some 2 else if b ≤ 2097152 then some 3 else none

/-- ⌈a ÷ b⌉. -/
def ceilDiv (a b : Nat) : Nat := (a + b - 1) / b

/-- Lowest frame of a die's pool area: the module's regions take the lowest whole frames, an eighth on each die (R189, R192). -/
def State.firstPoolFrame (s : State) : Nat := ceilDiv (s.num Obj.moduleRegionBytes / 8) frameBytes

/-- Key of frame f of die m in the frame tables. -/
def frameKey (m f : Nat) : Nat := m * 2 ^ 17 + f

/-- Module address of the first byte of a frame (R175). -/
def frameAddress (key : Nat) : Nat := key / 2 ^ 17 * 2 ^ 38 + key % 2 ^ 17 * frameBytes

/-- The held frames, by key. -/
def State.heldFrames (s : State) : List (Nat × Frame) := s.pools.frames.filterMap fun c => c.2.map fun f => (c.1, f)

/-- The held frames of a hoop. -/
def State.framesOf (s : State) (h : Nat) : List (Nat × Frame) := s.heldFrames.filter fun c => c.2.hoop == h

/-- Buffers of a frame in use. -/
def Frame.inUse (f : Frame) : Nat := f.used.length

/-- Set, or return to the frame map, one frame. -/
def State.setFrame (s : State) (key : Nat) (f : Option Frame) : State :=
  { s with pools := { s.pools with frames := Map.put none s.pools.frames key f } }

/-- Return a frame to the frame map: it is zeroed first (R202). -/
def State.returnFrame (s : State) (key : Nat) : State :=
  let s1 := s.setFrame key none
  { s1 with
    mem := s1.mem.zero (frameAddress key) frameBytes
    memory := { s1.memory with bad := s1.memory.bad.filter fun l => !lineIn (frameAddress key) frameBytes l } }

/-- The lowest number from `f` on that an ascending list leaves out. -/
def lowestFree : List Nat → Nat → Nat
  | [], f => f
  | x :: r, f => if x = f then lowestFree r (f + 1) else lowestFree r f

/-- The lowest free frame of a die, if any (R192, R195). -/
def State.freeFrame (s : State) (m : Nat) : Option Nat :=
  let first := s.firstPoolFrame
  let used := (s.heldFrames.filter fun c => c.1 / 2 ^ 17 == m).map fun c => c.1 % 2 ^ 17
  let f := lowestFree (used.filter (first ≤ ·)) first
  if f < first + s.num (Obj.diePoolFrames m) then some f else none

/-- The lowest logical frame of die m's range that no frame holds (R193; log entry 22). -/
def State.freeLogical (s : State) (m : Nat) : Nat :=
  let used := s.heldFrames.map fun c => c.2.logical
  ((List.range (used.length + 1)).find? fun i => !used.contains (m * 2 ^ 17 + i)).getD 0 + m * 2 ^ 17

/-- The lowest place among a die's frames of a class that no frame takes (R192). -/
def State.freePlace (s : State) (m c : Nat) : Nat :=
  let used := (s.heldFrames.filter fun x => x.1 / 2 ^ 17 == m && x.2.cls == c).map fun x => x.2.place
  ((List.range (used.length + 1)).find? fun i => !used.contains i).getD 0

/-- Recount the frame objects of the module, the dies and a hoop, and the hoop's buffers in use (R205, R206). -/
def State.countPools (s : State) (h : Nat) : State :=
  let held := s.heldFrames
  let s1 := (s.setNum Obj.poolFramesTotal (((List.range 8).map fun m => s.num (Obj.diePoolFrames m)).sum))
  let s2 := s1.each (List.range 8) fun t m =>
    t.setNum (Obj.diePoolFramesFree m) (t.num (Obj.diePoolFrames m) - (held.filter fun c => c.1 / 2 ^ 17 == m).length)
  let s3 := s2.setNum Obj.poolFramesFree (s2.num Obj.poolFramesTotal - held.length)
  let own := s3.framesOf h
  let s4 := (s3.setNum (Obj.hoopFramesHeld h) own.length).setNum (Obj.hoopPlanFrames h)
    (own.filter fun c => c.2.cls == 4).length
  s4.each (List.range 4) fun t k =>
    let tags (c : Nat) : Nat := ((own.filter fun x => x.2.cls == c).map fun x =>
      (x.2.used.filter fun u => (u.2.map BufferTag.owner) == some k).length).sum
    (((t.setNum (Obj.poolInUse0 (4 * h + k)) (tags 0)).setNum (Obj.poolInUse1 (4 * h + k)) (tags 1)).setNum
      (Obj.poolInUse2 (4 * h + k)) (tags 2)).setNum (Obj.poolInUse3 (4 * h + k)) (tags 3)

/-- PoolMinimum of an owner in a class. -/
def minimumKey (h k c : Nat) : Nat :=
  match c with
  | 0 => Obj.poolMinimum0 (4 * h + k)
  | 1 => Obj.poolMinimum1 (4 * h + k)
  | 2 => Obj.poolMinimum2 (4 * h + k)
  | _ => Obj.poolMinimum3 (4 * h + k)

/-- PoolInUse of an owner in a class. -/
def inUseKey (h k c : Nat) : Nat :=
  match c with
  | 0 => Obj.poolInUse0 (4 * h + k)
  | 1 => Obj.poolInUse1 (4 * h + k)
  | 2 => Obj.poolInUse2 (4 * h + k)
  | _ => Obj.poolInUse3 (4 * h + k)

/-- A group's data. -/
def State.group (s : State) (g : Nat) : GroupData := Map.get {} s.work.groups g

/-- Class-2 buffers that a group reserves (R199). -/
def State.reserveOf (s : State) (g : Nat) : Nat := ceilDiv (s.group g).bufferKib 128

/-- The groups of a hoop that are not Free. -/
def State.groupsOf (s : State) (h : Nat) : List Nat :=
  (s.work.groups.map Prod.fst).filter fun g => s.num (Obj.groupState g) != 0 && s.num (Obj.groupHoop g) == h

/-- Sum of the reserves of a hoop's groups (R199). -/
def State.reserveSum (s : State) (h : Nat) : Nat := ((s.groupsOf h).map s.reserveOf).sum

/-- Buffers of a hoop's class whose tag satisfies `p`. -/
def State.tagged (s : State) (h c : Nat) (p : BufferTag → Bool) : Nat :=
  (((s.framesOf h).filter fun x => x.2.cls == c).map fun x => (x.2.used.filter fun u => u.2.any p).length).sum

/-- Buffers in use in a group's reserve (R198, R199). -/
def State.groupInUse (s : State) (h g : Nat) : Nat := s.tagged h 2 fun t => t.reserve == some g

/-- In use and minimum of an owner without its group reserves (R199). -/
def State.ownerUse (s : State) (h k c : Nat) : Nat := s.tagged h c fun t => t.owner == k && t.reserve.isNone
def State.ownerMinimum (s : State) (h k c : Nat) : Nat :=
  s.num (minimumKey h k c) - (if k = 2 ∧ c = 2 then s.reserveSum h else 0)

/-- deficit(h, c) (R198). -/
def State.deficit' (s : State) (h c : Nat) : Nat :=
  ((List.range 4).map fun k => s.ownerMinimum h k c - s.ownerUse h k c).sum +
  (if c = 2 then ((s.groupsOf h).map fun g => s.reserveOf g - s.groupInUse h g).sum else 0)

/-- free(h, c) (R198). -/
def State.freeBuffers (s : State) (h c : Nat) : Nat :=
  (((s.framesOf h).filter fun x => x.2.cls == c).map fun x => perFrame c - x.2.inUse).sum

/-- The dies in rotation, from the one after the owner's previous allocation (R196). -/
def State.rotation (s : State) (owner : Nat) : List Nat :=
  let first := Map.get 0 s.pools.nextDie owner
  (List.range 8).map fun i => (first + i) % 8

/-- Where a frame of a class stands among a die's blocks: in the frame map itself for class 3, whose blocks it is (R192). -/
def blockPlace (x : Nat × Frame) : Nat := if x.2.cls = 3 then x.1 % 2 ^ 17 else x.2.place

/-- The frame from which a die serves a hoop's class: the lowest block that has a free buffer of the hoop (R195, R196). -/
def State.servingFrame (s : State) (h c m : Nat) : Option (Nat × Frame) :=
  ((s.framesOf h).filter fun x => x.2.cls == c && x.1 / 2 ^ 17 == m && decide (x.2.inUse < perFrame c)).foldl
    (fun (b : Option (Nat × Frame)) x => match b with
      | some y => if blockPlace x < blockPlace y then some x else some y
      | none => some x) none

/-- The handle of a buffer (R193). -/
def handleOf (c logical buffer : Nat) : Nat := c * 2 ^ 32 + logical * 2 ^ 12 + buffer

/-- The frame of a logical number. -/
def State.frameOfLogical (s : State) (logical : Nat) : Option (Nat × Frame) :=
  s.heldFrames.find? fun c => c.2.logical == logical

/-- Module address of a buffer that a handle names. -/
def State.handleAddress (s : State) (handle : Nat) : Option Nat :=
  (s.frameOfLogical (bits handle 31 12)).map fun c => frameAddress c.1 + handle % 2 ^ 12 * classBytes (bits handle 33 32)

/-- Take the lowest free buffer of a frame for an owner (R195). -/
def State.takeFrom (s : State) (key : Nat) (f : Frame) (tag : BufferTag) : State × Nat :=
  let b := lowestFree (f.used.map Prod.fst) 0
  let s1 := s.setFrame key (some { f with used := Map.put none f.used b (some tag) })
  let owner := 4 * f.hoop + tag.owner
  ({ s1 with pools := { s1.pools with nextDie := Map.put 0 s1.pools.nextDie owner ((key / 2 ^ 17 + 1) % 8) } },
    handleOf f.cls f.logical b)

/-- Take a free buffer of a hoop's class, dies in rotation (R196). -/
def State.takeBuffer (s : State) (h c : Nat) (tag : BufferTag) : Option (State × Nat) :=
  (s.rotation (4 * h + tag.owner)).findSome? fun m => (s.servingFrame h c m).map fun x => s.takeFrom x.1 x.2 tag

/-- Hold the lowest free frame of the first die in the rotation that has one, for a hoop and class (R196, R198). -/
def State.carve (s : State) (h owner c : Nat) : Option (State × Nat) :=
  (s.rotation owner).findSome? fun m => (s.freeFrame m).map fun f =>
    let logical := s.freeLogical m
    (s.setFrame (frameKey m f) (some ⟨h, c, s.freePlace m c, logical, []⟩), logical)

/-- The frames above the minima that PoolHighWater counts (R206). -/
def State.framesAbove (s : State) (h k : Nat) : Nat :=
  ((List.range 4).map fun c => ceilDiv (s.num (inUseKey h k c) - s.num (minimumKey h k c)) (perFrame c)).sum

/-- Counters after an allocation: PoolHighWater follows (R206). -/
def State.allocated (s : State) (h k : Nat) : State :=
  let s1 := s.countPools h
  s1.setNum (Obj.poolHighWater (4 * h + k)) (max (s1.num (Obj.poolHighWater (4 * h + k))) (s1.framesAbove h k))

/-- A request granted, or none where it must wait (R198): the buffer's handle. -/
def State.grant (s : State) (h k : Nat) (group : Option Nat) (c : Nat) : Option (State × Nat) :=
  let inReserve := c == 2 && k == 2 && group.any fun g => decide (s.groupInUse h g < s.reserveOf g)
  let tag : BufferTag := ⟨k, if inReserve then group else none, group⟩
  let r :=
    if inReserve || decide (s.ownerUse h k c < s.ownerMinimum h k c) || decide (s.deficit' h c < s.freeBuffers h c) then s.takeBuffer h c tag
    else if s.num (Obj.hoopFramesHeld h) < s.num (Obj.hoopFrameLimit h) then
      (s.carve h (4 * h + k) c).bind fun t => t.1.takeBuffer h c tag
    else none
  r.map fun t => (t.1.allocated h k, t.2)

/-- PoolWaiting of an owner (R206). -/
def State.countWaiting (s : State) (h k : Nat) : State :=
  s.setNum (Obj.poolWaiting (4 * h + k)) (s.pools.waiting.filter fun r => r.hoop == h && r.owner == k).length

/-- Set an owner's episode: 0 none, 1 of waiting, 2 begun by a discard (R200). -/
def State.setEpisode (s : State) (owner e : Nat) : State :=
  { s with pools := { s.pools with episodes := Map.put 0 s.pools.episodes owner e } }

/-- The hoop has an episode running (R200). -/
def State.hoopEpisode (s : State) (h : Nat) : Bool := (List.range 4).any fun k => Map.get 0 s.pools.episodes (4 * h + k) != 0

/-- An owner's episode begins: PoolWaits, EV_POOL_PRESSURE, and once per episode of the hoop EV_HOOP_OVER_DECLARED, since only
HoopFrameLimit makes a request wait (R198, R200). -/
def State.beginEpisode (s : State) (h k e : Nat) : State :=
  let first := !s.hoopEpisode h
  let s1 := ((s.setEpisode (4 * h + k) e).bump 64 (Obj.poolWaits (4 * h + k)) 1).raise Ev.poolPressure { hoop := h, detail := k }
  if first then s1.raise Ev.hoopOverDeclared { hoop := h } else s1

/-- A request starts to wait (R200). -/
def State.startWait (s : State) (r : PoolRequest) : State :=
  let s1 : State := { s with pools := { s.pools with waiting := s.pools.waiting ++ [r] } }
  let s2 := s1.countWaiting r.hoop r.owner
  if Map.get 0 s.pools.episodes (4 * r.hoop + r.owner) = 1 then s2 else s2.beginEpisode r.hoop r.owner 1

/-- A peer segment refused a buffer is discarded (R200, R201). -/
def State.deferSegment (s : State) (h k : Nat) : State :=
  let s1 := s.bump 64 Obj.segmentsDeferred 1
  if Map.get 0 s1.pools.episodes (4 * h + k) = 0 then s1.beginEpisode h k 2 else s1

/-- The owner's episode ends when none of its requests waits (R200). -/
def State.endEpisode (s : State) (h k : Nat) : State :=
  let s1 := s.countWaiting h k
  if s1.num (Obj.poolWaiting (4 * h + k)) = 0 then s1.setEpisode (4 * h + k) 0 else s1

/-- A request is below its owner's minimum or in its group's reserve: it is never refused (R198, R199). -/
def State.belowMinimum (s : State) (h k : Nat) (group : Option Nat) (c : Nat) : Bool :=
  (c == 2 && k == 2 && group.any fun g => decide (s.groupInUse h g < s.reserveOf g)) ||
    decide (s.ownerUse h k c < s.ownerMinimum h k c)

/-- Requests of the hoop and class that wait, which a request above the minima does not overtake (R200). -/
def State.waitingFor (s : State) (h c : Nat) : Nat := (s.pools.waiting.filter fun r => r.hoop == h && r.cls == c).length

/-- What is there for requests above the minima: free buffers beyond the deficit, and the frames that may still be carved (R198). -/
def State.roomAbove (s : State) (h c : Nat) : Nat :=
  s.freeBuffers h c - s.deficit' h c + perFrame c * (s.num (Obj.hoopFrameLimit h) - s.num (Obj.hoopFramesHeld h))

/-- A request of an owner (R198, R200): granted, with the episode a discard began ended, or none. -/
def State.poolRequest (s : State) (h k : Nat) (group : Option Nat) (c : Nat) : Option (State × Nat) :=
  if !s.belowMinimum h k group c ∧ s.waitingFor h c ≠ 0 ∧ s.roomAbove h c ≤ s.waitingFor h c then none
  else (s.grant h k group c).map fun r => (r.1.endEpisode h k, r.2)

/-- A waiting request can be granted now: the order of R200, requests of owners below their minimum first. -/
def State.nextWaiting (s : State) (h c : Nat) : Option PoolRequest :=
  let l := s.pools.waiting.filter fun r => r.hoop == h && r.cls == c
  let below := l.filter fun r => s.belowMinimum h r.owner r.group c
  (below ++ l).head?

/-- The waiting list without one request. -/
def removeRequest (r : PoolRequest) : List PoolRequest → List PoolRequest
  | [] => []
  | x :: l => if x = r then l else x :: removeRequest r l

/-- A carved frame whose buffers are all free goes back to the frame map when the minima stay covered and no request waits
(R198). -/
def State.trimFrame (s : State) (h c key : Nat) : State :=
  match Map.get none s.pools.frames key with
  | none => s
  | some f =>
    let wanted := s.pools.waiting.any fun r => r.hoop == h && r.cls == c
    if f.hoop = h ∧ f.cls = c ∧ f.inUse = 0 ∧ !wanted ∧ s.deficit' h c + perFrame c ≤ s.freeBuffers h c then s.returnFrame key
    else s

/-- Return every frame of a hoop's class that the minima do not need (R197, R198). -/
def State.trim (s : State) (h c : Nat) : State := s.each (s.framesOf h) fun t x => t.trimFrame h c x.1

/-- Waiting requests that satisfy `p` end unserved; the frames that no request waits for any more are returned (R198, R204). -/
def State.dropWaiting (s : State) (p : PoolRequest → Bool) : State :=
  let gone := s.pools.waiting.filter p
  let s1 : State := { s with pools := { s.pools with waiting := s.pools.waiting.filter fun r => !p r } }
  s1.each gone fun t r => ((t.endEpisode r.hoop r.owner).trim r.hoop r.cls).countPools r.hoop

/-- Carve backing frames until the free buffers of a class cover the deficit (R197, R198): at most `fuel` frames, within
HoopFrameLimit. -/
def State.back : Nat → State → Nat → Nat → State
  | 0, s, _, _ => s
  | fuel + 1, s, h, c =>
    if s.deficit' h c ≤ s.freeBuffers h c ∨ s.num (Obj.hoopFrameLimit h) ≤ (s.framesOf h).length then s
    else match s.carve h (4 * h + 1) c with
      | some t => State.back fuel t.1 h c
      | none => s

/-- Keep free ≥ deficit for a hoop's class when its reserves have changed, and return what they no longer need (R198, R199). -/
def State.settlePool (s : State) (h c : Nat) : State :=
  ((State.back (ceilDiv (s.deficit' h c) (perFrame c)) s h c).trim h c).countPools h

/-- Frames that back a hoop's minima (R197). -/
def State.backingFrames (s : State) (h : Nat) : Nat :=
  ((List.range 4).map fun c => ceilDiv ((List.range 4).map fun k => s.num (minimumKey h k c)).sum (perFrame c)).sum

/-- Bring the backing frames of a hoop in line with its minima (R197). -/
def State.settleBacking (s : State) (h : Nat) : State :=
  let s1 := s.each (List.range 4) fun t c => (State.back (s.backingFrames h + 1) t h c).trim h c
  (s1.setNum (Obj.hoopBackingFrames h) (s.backingFrames h)).countPools h

/-- What freeing a handle comes to (R202): freed, or refused with the hoop that holds the named frame, if any. -/
inductive FreeResult where
  | freed (s : State)
  | refused (holder : Option Nat)
deriving DecidableEq, Repr

/-- Free a buffer of a hoop (R195, R202): refused where the buffer is free already or the frame is not the hoop's. -/
def State.freeHandle (s : State) (h handle : Nat) : FreeResult :=
  match s.frameOfLogical (bits handle 31 12) with
  | none => .refused none
  | some (key, f) =>
    let b := handle % 2 ^ 12
    if f.hoop ≠ h ∨ f.cls ≠ bits handle 33 32 ∨ (Map.get none f.used b).isNone then .refused (some f.hoop)
    else
      let s1 := s.setFrame key (some { f with used := Map.put none f.used b none })
      .freed ((s1.trim h f.cls).countPools h)

/-- A free that is refused is counted and reported, and the hoop that holds the named frame is due to fault (R202). -/
def State.refuseFree (s : State) (h handle : Nat) (holder : Option Nat) : State :=
  let frame := bits handle 31 12
  let die := ((s.frameOfLogical frame).map fun c => 9 + c.1 / 2 ^ 17).getD 0
  let s1 := (s.bump 32 Obj.poolIntegrityErrors 1).raise Ev.poolIntegrity { hoop := h, die := die, unit := frame }
  match holder with
  | some x => { s1 with pools := { s1.pools with misfreed := s1.pools.misfreed ++ [(x, frame)] } }
  | none => s1

/-- Free buffers that an agent of the module holds (R195, R202); a hoop that a refused free faults is still to fault. -/
def State.freeEach (s : State) (h : Nat) (handles : List Nat) : State :=
  s.each handles fun t x => match t.freeHandle h x with
    | .freed t' => t'
    | .refused holder => t.refuseFree h x holder

/-- A buffer that a fault or reset leaves held is kept for its group (R204). -/
def State.keepFor (s : State) (g : Option Nat) (handles : List Nat) : State :=
  s.each handles fun t x => match t.frameOfLogical (bits x 31 12) with
    | none => t
    | some (key, f) => match Map.get none f.used (x % 2 ^ 12) with
      | none => t
      | some tag => t.setFrame key (some { f with used := Map.put none f.used (x % 2 ^ 12) (some { tag with group := g.or tag.group }) })

/-- What becomes of the buffers of an operation that ends: freed, or kept for group g (R204). -/
def State.letGo (s : State) (h : Nat) (keep : Option Nat) (handles : List Nat) : State :=
  if keep.isSome then s.keepFor keep handles else s.freeEach h handles

/-- The handles of a hoop's buffers that a group holds (R204). -/
def State.groupHandles (s : State) (h g : Nat) : List Nat :=
  (s.framesOf h).flatMap fun x => (x.2.used.filter fun u => u.2.any fun t => t.group == some g).map fun u =>
    handleOf x.2.cls x.2.logical u.1

/-- Every frame of a hoop is zeroed and returned, its waiting requests end (R31, R43, R204). -/
def State.returnHoopFrames (s : State) (h : Nat) : State :=
  let s1 := s.dropWaiting fun r => r.hoop == h
  let s2 := s1.each (s1.framesOf h) fun t x => t.returnFrame x.1
  (s2.setNum (Obj.hoopBackingFrames h) 0).countPools h

/-- Hold frames for one plan buffer of n bytes (R197): its logical frames in order. -/
def State.carvePlan : Nat → State → Nat → State × List Nat
  | 0, s, _ => (s, [])
  | n + 1, s, h =>
    match s.carve h (4 * h + 1) 4 with
    | none => (s, [])
    | some (t, logical) =>
      let m := logical / 2 ^ 17
      let t1 : State := { t with pools := { t.pools with nextDie := Map.put 0 t.pools.nextDie (4 * h + 1) ((m + 1) % 8) } }
      let r := State.carvePlan n t1 h
      (r.1, logical :: r.2)

/-- Further frames of a hoop (R197): beyond its plan and backing frames. -/
def State.furtherFrames (s : State) (h : Nat) : Nat :=
  s.num (Obj.hoopFramesHeld h) - s.num (Obj.hoopPlanFrames h) - s.num (Obj.hoopBackingFrames h)

/-! ### Bytes of plan buffers -/

/-- The pieces of module memory that hold n bytes from an offset of a list of logical frames: address, length. -/
def State.extents : Nat → State → List Nat → Nat → Nat → List (Nat × Nat)
  | 0, _, _, _, _ => []
  | fuel + 1, s, frames, off, n =>
    if n = 0 then []
    else
      match frames[off / frameBytes]? with
      | none => []
      | some logical =>
        let len := min n (frameBytes - off % frameBytes)
        let rest := State.extents fuel s frames (off + len) (n - len)
        match s.frameOfLogical logical with
        | some (key, _) => (frameAddress key + off % frameBytes, len) :: rest
        | none => rest

/-- Bytes of a frame list. -/
def State.readFrames (s : State) (frames : List Nat) (off n : Nat) : Bytes :=
  (State.extents (n / frameBytes + 2) s frames off n).flatMap fun e => s.load e.1 e.2

/-- Write bytes to pieces of module memory in order. -/
def State.storePieces (s : State) : List (Nat × Nat) → Bytes → State
  | [], _ => s
  | (a, n) :: r, b => State.storePieces (s.store a (b.take n)) r (b.drop n)

/-- Write bytes into a frame list. -/
def State.writeFrames (s : State) (frames : List Nat) (off : Nat) (b : Bytes) : State :=
  s.storePieces (State.extents (b.length / frameBytes + 2) s frames off b.length) b

end Sys2Proof.Machine
end

