-- ==== Sys2Proof/Machine/PlanOps.lean ====
section
/-! DEFINITION. What a hoop's plan and images say, read from their bytes (R139–R144, R150–R152): entries, chunk schedules, peer sets,
buffers, declarations; and the bytes of plan buffers (R151, R197). -/

namespace Sys2Proof.Machine

open Sys2Proof

/-- What hoop h holds beside its objects. -/
def State.hoop (s : State) (h : Nat) : HoopData := Map.get {} s.work.hoops h

/-- The state with a hoop's data set. -/
def State.setHoop (s : State) (h : Nat) (x : HoopData) : State :=
  { s with work := { s.work with hoops := Map.put {} s.work.hoops h x } }

/-- The state with a group's data set. -/
def State.setGroup (s : State) (g : Nat) (x : GroupData) : State :=
  { s with work := { s.work with groups := Map.put {} s.work.groups g x } }

/-- One bounded integer field: bytes per element of an ElementType (R53). -/
def elementBytes (t : Nat) : Nat :=
  match t with
  | 1 => 4
  | 2 => 2
  | 3 => 2
  | 4 => 1
  | 5 => 1
  | 8 => 4
  | 9 => 1
  | _ => 0

/-- `n` rounded up to a multiple of 4 KiB (R93). -/
def roundUp4K (n : Nat) : Nat := ceilDiv n 4096 * 4096

/-! ### Plans -/

/-- EntryCount, BufferCount, PeerSetCount of a plan (R150); 0 for none. -/
def entryCount (p : Bytes) : Nat := field p 12 2
def bufferCount (p : Bytes) : Nat := field p 10 2
def peerSetCount (p : Bytes) : Nat := field p 14 2

/-- Entry e of a plan (R151): its 448 bytes; none for entry 0 or one the plan does not hold. -/
def planEntry (p : Bytes) (e : Nat) : Option Bytes :=
  if e = 0 ∨ entryCount p < e then none else some (slice p (field p 32 4 + 448 * (e - 1)) 448)

/-- Fields of an entry (R151). -/
def entrySlot (e : Bytes) : Nat := field e 0 1
def entryOpcode (e : Bytes) : Nat := field e 1 1
def entryType (e : Bytes) : Nat := field e 2 1
def entryStepLast (e : Bytes) : Bool := bitAt (field e 3 1) 0
def entryGroup (e : Bytes) : Nat := field e 4 2 % 4096
def entryShard (e : Bytes) : Nat := field e 8 4
def entryChunks (e : Bytes) : Nat := field e 12 4
def entryElements (e : Bytes) : Nat := field e 24 8
def entryParameter (e : Bytes) (i : Nat) : Nat := field e (64 + 8 * i) 8

/-- Binding of region r of an entry (R151): buffer number, offset; none for 0xFFFF. -/
def entryRegion (e : Bytes) (r : Nat) : Option (Nat × Nat) :=
  let b := field e (192 + 16 * r) 2
  if b = 0xFFFF then none else some (b, field e (192 + 16 * r + 8) 8)

/-- One chunk record of the schedule (R152). -/
structure ChunkRecord where
  role : Nat
  peerSet : Nat
  partner : Nat
  elementBase : Nat
  elementCount : Nat
  emitLength : Nat
deriving DecidableEq, Repr

/-- Chunk i of an entry (R152). -/
def chunkRecord (p e : Bytes) (i : Nat) : ChunkRecord :=
  let b := slice p (field p 40 4 + 32 * (field e 16 4 + i)) 32
  ⟨field b 0 1, field b 2 2, field b 4 4, field b 8 8, field b 16 8, field b 24 4⟩

/-- The chunk lands local input (R142): every chunk except a receiver. -/
def ChunkRecord.lands (c : ChunkRecord) : Bool := c.role != 2

/-- The landing chunks of an entry, ascending. -/
def landingChunks (p e : Bytes) : List Nat := (List.range (entryChunks e)).filter fun i => (chunkRecord p e i).lands

/-- Bytes of a chunk in each slice. -/
def chunkBytes (e : Bytes) (c : ChunkRecord) : Nat := c.elementCount * elementBytes (entryType e)

/-- SlotStride of a chunk (R93). -/
def slotStride (e : Bytes) (c : ChunkRecord) : Nat := roundUp4K (chunkBytes e c)

/-- Addresses of peer set i (R152), ascending. -/
def peerSet (p : Bytes) (i : Nat) : List Nat :=
  let b := slice p (field p 36 4 + 40 * i) 40
  (List.range (min 16 (field b 0 2))).map fun j => field b (8 + 2 * j) 2

/-- Buffer b of a plan (R151): length of one parity, whether it is Double, place and length of its initial content. -/
structure PlanBuffer where
  length : Nat
  double : Bool
  dataOffset : Nat
  dataLength : Nat
deriving DecidableEq, Repr

/-- Buffer b of a plan (R151). -/
def planBuffer (p : Bytes) (b : Nat) : PlanBuffer :=
  let r := slice p (field p 28 4 + 32 * b) 32
  ⟨field r 0 8, bitAt (field r 8 1) 0, field r 12 4, field r 16 4⟩

/-- Frames of one parity of a plan buffer (R197). -/
def PlanBuffer.frames (b : PlanBuffer) : Nat := ceilDiv b.length frameBytes

/-- Parities of a plan buffer (R151). -/
def PlanBuffer.parities (b : PlanBuffer) : Nat := if b.double then 2 else 1

/-- Frames that Admit allocates for a plan (R197). -/
def planFrameCount (p : Bytes) : Nat :=
  ((List.range (bufferCount p)).map fun b => (planBuffer p b).frames * (planBuffer p b).parities).sum

/-- The logical frames of one parity of a plan buffer of a hoop. -/
def State.parityFrames (s : State) (h b parity : Nat) : List Nat :=
  let n := (planBuffer (s.hoop h).plan b).frames
  (((s.hoop h).planFrames[b]?.getD []).drop (parity * n)).take n

/-- Bytes of a plan buffer at a parity. -/
def State.readPlan (s : State) (h b parity off n : Nat) : Bytes := s.readFrames (s.parityFrames h b parity) off n

/-- Write bytes into a plan buffer at a parity. -/
def State.writePlan (s : State) (h b parity off : Nat) (data : Bytes) : State := s.writeFrames (s.parityFrames h b parity) off data

/-- The module addresses of bytes of a plan buffer. -/
def State.planExtents (s : State) (h b parity off n : Nat) : List (Nat × Nat) :=
  State.extents (n / frameBytes + 2) s (s.parityFrames h b parity) off n


/-- The first of the frames under n bytes from an offset of a frame list that another hoop holds (R202). -/
def State.foreignFrame (s : State) (h : Nat) (frames : List Nat) (off n : Nat) : Option Nat :=
  if n = 0 then none
  else ((frames.drop (off / frameBytes)).take ((off % frameBytes + n - 1) / frameBytes + 1)).find? fun l =>
    (s.frameOfLogical l).any fun c => c.2.hoop != h

/-- The first foreign frame under bytes of a plan buffer (R202). -/
def State.foreignPlan (s : State) (h b parity off n : Nat) : Option Nat := s.foreignFrame h (s.parityFrames h b parity) off n

/-- The first frame that another hoop holds among those of buffers (R202). -/
def State.foreignHandle (s : State) (h : Nat) (handles : List Nat) : Option Nat :=
  (handles.map fun x => bits x 31 12).find? fun l => (s.frameOfLogical l).any fun c => c.2.hoop != h

/-- An extent holds a line that reads uncorrectable (R184). -/
def State.extentBad (s : State) (e : Nat × Nat) : Bool := s.memory.bad.any (lineIn e.1 e.2)

/-! ### Images -/

/-- The declaration block of an image (R141). -/
def declOf (image : Bytes) : Bytes := slice image (field image 40 4) 576

/-- Fields of the declarations (R141). -/
def zoneBase (image : Bytes) (z : Nat) : Nat := field (declOf image) (8 * z) 4
def zoneSize (image : Bytes) (z : Nat) : Nat := field (declOf image) (8 * z + 4) 4
def constBase (image : Bytes) : Nat := field (declOf image) 16 4
def constLength (image : Bytes) : Nat := field image 36 4
def exchangeBase (image : Bytes) : Nat := field (declOf image) 20 4
def exchangeSize (image : Bytes) : Nat := field (declOf image) 24 4
def stagedBase (image : Bytes) : Nat := field (declOf image) 28 4
def stagedLength (image : Bytes) : Nat := field (declOf image) 32 4
def stagedRegion (image : Bytes) : Nat := field (declOf image) 36 1
def regionDeclared (image : Bytes) (r : Nat) : Bool := bitAt (field (declOf image) 38 2) r
def mailboxMask (image : Bytes) : Nat := field (declOf image) 40 8
def opcodeMask (image : Bytes) : Nat := field (declOf image) 48 2
def typeMask (image : Bytes) : Nat := field (declOf image) 50 2

/-- One region record (R142). -/
structure RegionDecl where
  fixedBytes : Nat
  perChunk : Nat
  double : Bool
  readOnly : Bool
  cls : Nat
deriving DecidableEq, Repr

/-- Region r of an image (R142). -/
def regionDecl (image : Bytes) (r : Nat) : RegionDecl :=
  let b := slice (declOf image) (64 + 32 * r) 32
  ⟨field b 0 8, field b 8 8, bitAt (field b 16 1) 0, bitAt (field b 16 1) 1, field b 17 1⟩

/-- Instructions of an image's code section (R139). -/
def codeCount (image : Bytes) : Nat := field image 24 4 / 8

/-- SignatureOffset of an image (R139). -/
def imageSigned (image : Bytes) : Nat := field image 16 4

/-- ImageHash (R140). -/
def imageHash (image : Bytes) : Bytes := sha3Bytes (image.take (imageSigned image))

/-- The image that slot t of hoop h holds, and its pending image; empty for none. -/
def State.slotImage (s : State) (h t : Nat) : Bytes := Map.get [] (s.hoop h).images t
def State.slotPending (s : State) (h t : Nat) : Bytes := Map.get [] (s.hoop h).pendings t

/-- The entries that a hoop's plan holds. -/
def planEntries (p : Bytes) : List Bytes := (List.range (entryCount p)).filterMap fun i => planEntry p (i + 1)

/-- A loaded plan entry names slot t. -/
def State.slotNamed (s : State) (h t : Nat) : Bool := (planEntries (s.hoop h).plan).any fun e => entrySlot e == t

/-- LocalContributors × SlotStride of every chunk of an entry fits the smaller zone of an image (R93, R145). -/
def zonesFit (p e image : Bytes) (contributors : Nat) : Bool :=
  (landingChunks p e).all fun i =>
    decide (contributors * slotStride e (chunkRecord p e i) ≤ min (zoneSize image 0) (zoneSize image 1))

/-- The checks of R145 on one entry against an image; the first failure decides. -/
def State.bindingStatus (s : State) (p e image : Bytes) : Nat :=
  let landing := (landingChunks p e).length
  let regions := List.range 16
  let unbound := regions.any fun r =>
    if regionDeclared image r then !(entryRegion e r).any fun b => decide (b.1 < bufferCount p)
    else field e (192 + 16 * r) 2 != 0xFFFF || field e (192 + 16 * r + 8) 8 != 0
  let bound := regions.filterMap fun r => if regionDeclared image r then (entryRegion e r).map fun b => (r, b) else none
  let g := entryGroup e
  if unbound then St.accessDenied
  else if bound.any fun x => (planBuffer p x.2.1).double != (regionDecl image x.1).double then St.accessDenied
  else if bound.any fun x => decide ((planBuffer p x.2.1).length <
      x.2.2 + (regionDecl image x.1).fixedBytes + (regionDecl image x.1).perChunk * landing) then St.capacityShortfall
  else if !bitAt (opcodeMask image) (entryOpcode e) || !bitAt (typeMask image) (entryType e) then St.accessDenied
  else if s.num (Obj.groupState g) != 0 && !zonesFit p e image (s.group g).contributors then St.capacityShortfall
  else St.ok

/-- WeaveSetHash (R86). -/
def State.weaveSetHash (s : State) (h : Nat) : Bytes :=
  sha3Bytes (((List.range 16).filter (s.slotNamed h)).flatMap fun t =>
    let image := s.slotImage h t
    if image = [] then List.replicate 64 0 else imageHash image)

/-- ReproducibilityRecord (R86). -/
def State.reproRecord (s : State) (h : Nat) : Bytes :=
  let planHash := s.bytes (Obj.planHash h)
  leBytes 4 (s.num Obj.arithmeticVersion) ++ leBytes 4 (s.num (Obj.outerStepCounter h)) ++
  (if planHash = [] then List.replicate 64 0 else planHash) ++ s.weaveSetHash h ++
  sha3Bytes (leBytes 8 (s.num (Obj.jobSeed h)) ++ leBytes 1 (s.num (Obj.planRandomTag h)))

/-- The digest that R84 exchanges: SHA3-512 of bytes 8–199. -/
def State.reproDigest (s : State) (h : Nat) : Bytes := sha3Bytes ((s.reproRecord h).drop 8)

/-! ### Ranges of bytes -/

/-- A range [a, a + n) joined to ascending, disjoint ranges (start, end). -/
def addRange : List (Nat × Nat) → Nat → Nat → List (Nat × Nat)
  | [], a, b => if a < b then [(a, b)] else []
  | (x, y) :: r, a, b =>
    if b ≤ a then (x, y) :: r
    else if b < x then (a, b) :: (x, y) :: r
    else if y < a then (x, y) :: addRange r a b
    else addRange r (min a x) (max b y)

/-- Every byte of [a, b) lies in the ranges. -/
def covered (l : List (Nat × Nat)) (a b : Nat) : Bool := decide (b ≤ a) || l.any fun r => decide (r.1 ≤ a ∧ b ≤ r.2)

/-- The parts of ranges that lie outside [a, b). -/
def cutRange (l : List (Nat × Nat)) (a b : Nat) : List (Nat × Nat) :=
  l.flatMap fun r =>
    (if r.1 < min r.2 a then [(r.1, min r.2 a)] else []) ++ (if max r.1 b < r.2 then [(max r.1 b, r.2)] else [])

/-- Some byte of [a, b) lies in the ranges. -/
def touched (l : List (Nat × Nat)) (a b : Nat) : Bool := l.any fun r => decide (r.1 < b ∧ a < r.2)

end Sys2Proof.Machine
end

