-- ==== Sys2Proof/Machine/FabricOps.lean ====
section
/-! DEFINITION. The RDMA requester of the module (R212–R214, R221) and what the responder shares with other chapters: queue pairs,
remote targets, packets on their way out, window generations (R217, R220). -/

namespace Sys2Proof.Machine

open Sys2Proof

/-- What a queue pair holds beside its objects. -/
def State.qp (s : State) (q : Nat) : QpData := Map.get {} s.fabric.qps q

/-- The state with a queue pair's data set. -/
def State.setQp (s : State) (q : Nat) (x : QpData) : State :=
  { s with fabric := { s.fabric with qps := Map.put {} s.fabric.qps q x } }

/-- What a port holds beside its objects. -/
def State.port (s : State) (p : Nat) : PortData := Map.get {} s.fabric.ports p

/-- The state with a port's data set. -/
def State.setPort (s : State) (p : Nat) (x : PortData) : State :=
  { s with fabric := { s.fabric with ports := Map.put {} s.fabric.ports p x } }

/-- Queue pair q belongs to hoop h and is in RTS. -/
def State.rtsOf (s : State) (h q : Nat) : Bool :=
  decide (q < 16384) && s.num (Obj.qpState q) == 3 && (s.qp q).hoop == h

/-- Number of target t of hoop h among the targets of the module (R226). -/
def targetIndex (h t : Nat) : Nat := h * 1024 + t

/-- The queue pair of target t of hoop h, where it can be written through: the pair is the hoop's and in RTS (R221). -/
def State.usableTarget (s : State) (h t : Nat) : Option Nat :=
  let q := s.num (Obj.targetQp (targetIndex h t))
  if t < 1024 ∧ s.rtsOf h q then some q else none

/-- Path MTU of a queue pair in bytes (R213, R226). -/
def State.pathMtu (s : State) (q : Nat) : Nat := 1024 * 2 ^ min 2 (s.num (Obj.qpPathMtu q))

/-- Send PSN of a queue pair (R226). -/
def State.sendPsn (s : State) (q : Nat) : Nat := s.num (Obj.qpPsns q) % 2 ^ 24

/-- Expected receive PSN of a queue pair (R226). -/
def State.expectedPsn (s : State) (q : Nat) : Nat := s.num (Obj.qpPsns q) / 2 ^ 32 % 2 ^ 24

/-- Set the PSNs of a queue pair. -/
def State.setPsns (s : State) (q expected send : Nat) : State :=
  s.setNum (Obj.qpPsns q) (expected % 2 ^ 24 * 2 ^ 32 + send % 2 ^ 24)

/-- PSN a is at or after PSN b: fewer than 2^23 beyond it (R213, R16). -/
def psnReached (a b : Nat) : Bool := decide ((a + 2 ^ 24 - b) % 2 ^ 24 < 2 ^ 23)

/-- Priority of a queue pair's packets: bits 7:5 of its traffic class (PRESUMED, log entry 23). -/
def State.qpPriority (s : State) (q : Nat) : Nat := s.num (Obj.qpTrafficClass q) / 32 % 8

/-- Port p is Up or Degraded. -/
def State.portUp (s : State) (p : Nat) : Bool := s.num (Obj.portState p) == 3 || s.num (Obj.portState p) == 4

/-- Local QPN of queue pair q (R215). -/
def localQpn (q : Nat) : Nat := 0x10000 + q

/-- The IPv6 header of a port's packets: hop limit 64 but for Neighbor Discovery, every packet ECT(0) (R211, R214; log entry 155). -/
def State.ipHead (s : State) (p : Nat) (destination : Bytes) (hopLimit trafficClass flowLabel : Nat) : IpHead :=
  ⟨s.bytes (Obj.portAddress p), destination, hopLimit, trafficClass / 4 * 4 + 2, flowLabel⟩

/-- The headers of a queue pair's packets (R211, R214). -/
def State.packetHead (s : State) (q : Nat) : PacketHead :=
  ⟨s.ipHead (s.qp q).port (s.bytes (Obj.qpRemoteAddress q)) 64 (s.num (Obj.qpTrafficClass q))
      ((localQpn q ^^^ s.num (Obj.qpRemoteQpn q)) % 2 ^ 20),
    0xC000 + localQpn q % 2 ^ 14, 4791, 0⟩

/-- The port of a queue pair has an address, and the pair's next hop is resolved (R211). -/
def State.resolved (s : State) (q : Nat) : Bool :=
  s.bytes (Obj.portAddress (s.qp q).port) != [] &&
    (s.port (s.qp q).port).neighbours.any fun n => n.1 == s.bytes (Obj.qpRemoteAddress q)

/-- A Neighbor Solicitation for a queue pair's next hop, to its solicited-node address (R211; RFC 4861, log entry 155). -/
def State.solicit (s : State) (q : Nat) : State :=
  let p := (s.qp q).port
  let hop := s.bytes (Obj.qpRemoteAddress q)
  let node : Bytes := [0xFF, 2, 0, 0, 0, 0, 0, 0, 0, 0, 0, 1, 0xFF] ++ hop.drop 13
  if s.bytes (Obj.portAddress p) = [] then s
  else s.emit (.icmp p (s.ipHead p node 255 0 0) 135 (hop ++ beBytes 6 (Config.portMacAddress p).toNat))

/-- The responder of a queue pair answers: at once, or when its next hop is resolved; a port with no address answers no packet
(R211). -/
def State.respond (s : State) (q : Nat) (answers : List Signal) : State :=
  let p := (s.qp q).port
  if s.bytes (Obj.portAddress p) = [] then s
  else if s.resolved q then s.each answers State.emit
  else
    let x := s.port p
    (s.setPort p { x with unsent := x.unsent ++ answers.map fun a => (s.bytes (Obj.qpRemoteAddress q), a) }).solicit q

/-- Packets of a queue pair may leave but for their next hop: RTS, its port carries traffic, no RNR NAK holds it (R213) and PFC does
not pause its priority (R211). -/
def State.mayLeave (s : State) (q : Nat) : Bool :=
  s.num (Obj.qpState q) == 3 && s.portUp (s.qp q).port && !(s.qp q).held &&
    !(s.port (s.qp q).port).paused.contains (s.qpPriority q)

/-- Packets of a queue pair leave now (R211, R213). -/
def State.canSend (s : State) (q : Nat) : Bool := s.mayLeave q && s.resolved q

/-- A packet of a queue pair leaves the port: QpPacketsSent and the hoop's transmitted bytes count it (R224, R226). -/
def State.sendPacket (s : State) (q : Nat) (x : FabricPacket) : State :=
  ((s.emit (.packet q (s.packetHead q) x.opcode x.psn x.address x.key x.data)).bump 64 (Obj.qpPacketsSent q) 1).bump 64
    (Obj.hoopFabricTxBytes (s.qp q).hoop) x.data.length

/-- Mark the packets of a queue pair that satisfy `p` as having left, or as waiting to leave. -/
def State.markLeft (s : State) (q : Nat) (p : FabricPacket → Bool) (left : Bool) : State :=
  s.setQp q { s.qp q with sent := (s.qp q).sent.map fun x => if p x then { x with left := left } else x }

/-- Send the packets of a queue pair that satisfy `p`, oldest first, where packets leave now; else they wait, and a next hop that is
not resolved is asked for (R211, R213). -/
def State.sendWhere (s : State) (q : Nat) (p : FabricPacket → Bool) : State :=
  if !(s.qp q).sent.any p then s
  else if s.canSend q then (s.each ((s.qp q).sent.filter p) fun t x => t.sendPacket q x).markLeft q p true
  else
    let s1 := s.markLeft q p false
    if s.mayLeave q then s1.solicit q else s1

/-- Send the packets of a queue pair that wait to leave. -/
def State.flushQp (s : State) (q : Nat) : State := s.sendWhere q fun x => !x.left

/-- Go back to a PSN (R213): the packets from it on are sent again. -/
def State.goBack (s : State) (q psn : Nat) : State := s.sendWhere q fun x => psnReached x.psn psn

/-- Send the packets that wait on a port. -/
def State.flushPort (s : State) (p : Nat) : State :=
  s.each (s.fabric.qps.map Prod.fst) fun t q => if (t.qp q).port = p then t.flushQp q else t

/-- Cut bytes into packets of the path MTU. -/
def mtuPieces (mtu : Nat) : Nat → Bytes → List Bytes
  | 0, _ => []
  | _, [] => []
  | fuel + 1, b => b.take mtu :: mtuPieces mtu fuel (b.drop mtu)

/-- Opcode of piece i of n of an RDMA WRITE (R212). -/
def writeOpcode (i n : Nat) : Nat :=
  if n ≤ 1 then 0x0A else if i = 0 then 0x06 else if i + 1 = n then 0x08 else 0x07

/-- An RDMA WRITE of the requester (R221): packets of the path MTU from the send PSN on, AckReq on the last. `result` names the
operation and chunk whose result it carries (R68). -/
def State.rdmaWrite (s : State) (q address key : Nat) (data : Bytes) (result : Option (Nat × Nat × Nat)) : State :=
  let mtu := s.pathMtu q
  let pieces := mtuPieces mtu (data.length + 1) data
  let n := pieces.length
  let psn := s.sendPsn q
  let packets := (List.range n).map fun i =>
    let b := pieces[i]?.getD []
    ({ psn := (psn + i) % 2 ^ 24, opcode := writeOpcode i n, address := (address + mtu * i) % 2 ^ 64, key := key,
       length := data.length, data := b, ackReq := i + 1 == n, result := result } : FabricPacket)
  let s1 := s.setQp q { s.qp q with sent := (s.qp q).sent ++ packets }
  (s1.setPsns q (s.expectedPsn q) (psn + n)).flushQp q

/-- Write bytes through a target of a hoop at an offset from its base; none where the target cannot be written (R216, R221). -/
def State.writeTarget (s : State) (h t off : Nat) (data : Bytes) (result : Option (Nat × Nat × Nat)) : Option State :=
  (s.usableTarget h t).map fun q =>
    s.rdmaWrite q ((s.num (Obj.targetBase (targetIndex h t)) + off) % 2 ^ 64) (s.num (Obj.targetRemoteKey (targetIndex h t)))
      data result

/-- Some packet that carries a result of (group, sequence, chunk) is not acknowledged. -/
def State.resultPending (s : State) (g seq chunk : Nat) : Bool :=
  s.fabric.qps.any fun c => c.2.sent.any fun x => x.result == some (g, seq, chunk)

/-- Packets of an operation no longer count as its results. -/
def State.dropResults (s : State) (g seq : Nat) : State :=
  let strip (x : FabricPacket) : FabricPacket :=
    if x.result.any fun r => r.1 == g && r.2.1 == seq then { x with result := none } else x
  let f (c : Nat × QpData) : Nat × QpData := (c.1, { c.2 with sent := c.2.sent.map strip })
  { s with fabric := { s.fabric with qps := s.fabric.qps.map f } }

/-- DieNumber of an F die f (R396). -/
def fDie (f : Nat) : Nat := 17 + f

/-- The F die of a queue pair (R215). -/
def qpDie (q : Nat) : Nat := fDie (q / 8192)

/-- Remote key of window w (R217). -/
def State.windowKey (s : State) (w : Nat) : Nat := w * 2 ^ 18 + s.num (Obj.windowGeneration w) % 2 ^ 18

/-- Generation counter g[i] of a window (R220). -/
def State.genOf (s : State) (w i : Nat) : Nat := Map.get 0 s.work.generation (w * 2 ^ 32 + i)

/-- Set g[i] of a window. -/
def State.setGen (s : State) (w i v : Nat) : State :=
  { s with work := { s.work with generation := Map.put 0 s.work.generation (w * 2 ^ 32 + i) v } }

/-- Accepted operations that have named a window (R220). -/
def State.acceptedOf (s : State) (w : Nat) : Nat := Map.get 0 s.work.accepted w

/-- Landing data of a chunk of a window's generation. -/
def State.landing (s : State) (w gen i : Nat) : Option Landing :=
  s.work.landings.find? fun l => l.window == w && l.generation == gen && l.chunk == i

/-- The state with a landing's data set. -/
def State.setLanding (s : State) (l : Landing) : State :=
  let rest := s.work.landings.filter fun x => !(x.window == l.window && x.generation == l.generation && x.chunk == l.chunk)
  { s with work := { s.work with landings := rest ++ [l] } }

/-- Forget a landing; its spill buffers are freed, or kept for a group (R204). -/
def State.endLanding (s : State) (h w gen i : Nat) (keep : Option Nat) : State :=
  let mine (x : Landing) : Bool := x.window == w && x.generation == gen && x.chunk == i
  let handles := (s.work.landings.filter mine).flatMap fun l => l.buffers.map Prod.snd
  let s1 : State := { s with work := { s.work with landings := s.work.landings.filter fun x => !mine x } }
  s1.letGo h keep handles

end Sys2Proof.Machine
end

