-- ==== Sys2Proof/Machine/LineOps.lean ====
section
/-! DEFINITION. Operations of the Sarsia line that several chapters share: the frame's codes (R228–R233), slot roles (R236), the
transmit map and stake lanes of a wale (R247, R248), the outage states (R266), sessions and their handshake (R273–R280). -/

namespace Sys2Proof.Machine

open Sys2Proof

/-! ### Codes of the frame -/

/-- Fas, 0x5CA3_5CA3_1EE1 (R228). -/
def fas : Bytes := beBytes 6 0x5CA35CA31EE1

/-- One bit of the CRC-16 of R229: polynomial x^16 + x^12 + x^5 + 1. -/
def crc16Bit (c : Nat) (d : Bool) : Nat :=
  let c' := c * 2 % 65536
  if (c.testBit 15 != d) then c' ^^^ 0x1021 else c'

/-- The bits of a byte, most significant first (R9). -/
def byteBits (b : Byte) : List Bool := [7, 6, 5, 4, 3, 2, 1, 0].map b.toNat.testBit

/-- CRC-16 over bytes in transmission order, initial value 0xFFFF (R229). -/
def crc16 (b : Bytes) : Nat := b.foldl (fun c x => (byteBits x).foldl crc16Bit c) 0xFFFF

/-- The byte of eight bits, most significant first. -/
def byteOfBits (l : List Bool) : Byte := BitVec.ofNat 8 (l.foldl (fun n d => 2 * n + (if d then 1 else 0)) 0)

/-- One scrambler step (R231): state after the bit, and the bit added. -/
def scramblerStep (state : Nat) : Nat × Bool :=
  let d := state.testBit 22 != state.testBit 17
  ((state * 2 + (if d then 1 else 0)) % 2 ^ 23, d)

/-- One step of the fill generator x^31 + x^28 + 1 (R231). -/
def fillStep (state : Nat) : Nat × Bool :=
  let d := state.testBit 30 != state.testBit 27
  ((state * 2 + (if d then 1 else 0)) % 2 ^ 31, d)

/-- Eight successive bits of a generator. -/
def genByte (step : Nat → Nat × Bool) (state : Nat) : Nat × Byte :=
  let r := (List.range 8).foldl (fun (a : Nat × List Bool) _ => let n := step a.1; (n.1, a.2 ++ [n.2])) (state, [])
  (r.1, byteOfBits r.2)

/-- The scrambled, or descrambled, bytes from a scrambler state on (R231: additive). -/
def scrambleFrom : Nat → Bytes → Bytes
  | _, [] => []
  | state, b :: r => let g := genByte scramblerStep state; (b ^^^ g.2) :: scrambleFrom g.1 r

/-- The scrambler on the bytes after Fas: it restarts from 0x7F_FFFF at byte 6 of every frame (R231). -/
def scramble (b : Bytes) : Bytes := scrambleFrom 0x7FFFFF b

/-- `n` fill bytes, and the generator's state after them (R231). -/
def fillBytes : Nat → Nat → Nat × Bytes
  | 0, state => (state, [])
  | n + 1, state =>
    let g := genByte fillStep state
    let r := fillBytes n g.1
    (r.1, g.2 :: r.2)

/-- `n` bits of a generator, and its state after them. -/
def genBits (step : Nat → Nat × Bool) : Nat → Nat → Nat × List Bool
  | 0, state => (state, [])
  | n + 1, state =>
    let g := step state
    let r := genBits step n g.1
    (r.1, g.2 :: r.2)

/-- BIP-16 of the bytes after Fas, as transmitted (R230): the exclusive or of the 16-bit words. -/
def bip16 : Bytes → Nat
  | [] => 0
  | [a] => a.toNat * 256
  | a :: b :: r => (a.toNat * 256 + b.toNat) ^^^ bip16 r

/-! ### Slots and roles (R236) -/

/-- Role of a member (R236). -/
inductive Role where
  | nonStake
  | stake (planB protection : Bool)
deriving DecidableEq, Repr

/-- The fixed VC of a plan's own slot (R236). -/
def planVc (planB : Bool) (slot : Nat) : Option Nat :=
  let t := if planB then slot - 4 else slot
  if planB && decide (slot < 4) then none
  else if t = 0 ∨ t = 8 ∨ t = 16 ∨ t = 24 then some 1
  else if t = 2 ∨ t = 18 then some 0
  else if t = 10 then some 4
  else none

/-- The fixed VC of a slot on a member of a role; none for a concatenated slot (R236). -/
def Role.slotVc (r : Role) (slot : Nat) : Option Nat :=
  match r with
  | .nonStake => none
  | .stake planB protection =>
    match planVc planB slot with
    | some v => some v
    | none => if protection then planVc (!planB) slot else none

/-- Payload structure code of a slot (R233). -/
def slotCode (v : Option Nat) : Nat :=
  match v with
  | none => 0x01
  | some v => 0x10 + v

/-- Number of concatenated slots of a role: 32, 25 or 18 (R236). -/
def Role.concatenated (r : Role) : List Nat := (List.range 32).filter fun i => (r.slotVc i).isNone

/-- Bits [7:5] of the Member byte (R228). -/
def Role.bits (r : Role) : Nat :=
  match r with
  | .nonStake => 0
  | .stake b p => 0x80 + (if b then 0x40 else 0) + (if p then 0x20 else 0)

/-- The role that a Member byte states (R236). -/
def roleOf (member : Nat) : Role :=
  if member.testBit 7 then .stake (member.testBit 6) (member.testBit 5) else .nonStake

/-! ### Wales -/

/-- The lanes configured in a wale, ascending: MemberIndex is the rank (R234). -/
def State.waleLanes (s : State) (w : Nat) : List Nat := bitList 32 (s.num (Obj.waleLanes w))

/-- MemberIndex of a lane of a wale (R234). -/
def State.memberIndex (s : State) (w k : Nat) : Nat := ((s.waleLanes w).filter (· < k)).length

/-- The lane that is member i of a wale. -/
def State.memberLane (s : State) (w i : Nat) : Option Nat := (s.waleLanes w)[i]?

/-- The wale of a lane, if any. -/
def State.waleOf (s : State) (k : Nat) : Option Nat :=
  let w := s.num (Obj.lineLaneWale k)
  if w < 32 then some w else none

/-- State of a DSP lane. -/
def State.lane (s : State) (k : Nat) : LaneState := Map.get {} s.line.lanes k

/-- The state with a lane set. -/
def State.setLane (s : State) (k : Nat) (x : LaneState) : State :=
  { s with line := { s.line with lanes := Map.put {} s.line.lanes k x } }

/-- The lanes of a wale whose members are in the transmit map, ascending (R247). -/
def State.mapLanes (s : State) (w : Nat) : List Nat :=
  (s.waleLanes w).filter fun k => (s.num (Obj.waleTxMap w)).testBit (s.memberIndex w k)

/-- WaleTxStakes or WaleRxStakes of the members on plan A and plan B and Protection: 0x1F for none, all ones without a stake (R252). -/
def stakeWord (a b : Option Nat) (protection : Bool) : Nat :=
  match a, b with
  | none, none => 0xFFFF
  | _, _ => a.getD 0x1F + 256 * b.getD 0x1F + (if protection then 0x8000 else 0)

/-- WaleTxStakes of the lanes on the two plans (R252). -/
def State.stakeObject (s : State) (w : Nat) (a b : Option Nat) (protection : Bool) : Nat :=
  stakeWord (a.map (s.memberIndex w)) (b.map (s.memberIndex w)) protection

/-- WaleTxStakes shows the stake lanes under their present member indices (R252). -/
def State.noteStakes (s : State) (w : Nat) : State :=
  let x := (s.wale w).tx
  s.setNum (Obj.waleTxStakes w) (s.stakeObject w x.planA x.planB x.protection)

/-- Role of lane k of a wale (R236). -/
def WaleTx.roleOf (x : WaleTx) (k : Nat) : Role :=
  if x.planA = some k then .stake false x.protection
  else if x.planB = some k then .stake true x.protection
  else .nonStake

/-- Set a wale's stake lanes: a change of role is counted and reported (R248). -/
def State.setStakes (s : State) (w : Nat) (a b : Option Nat) (p : Bool) : State :=
  let v := s.wale w
  if v.tx.planA = a ∧ v.tx.planB = b ∧ v.tx.protection = p then s
  else
    let s1 := s.setWale w { v with tx := { v.tx with planA := a, planB := b, protection := p } }
    let s2 := (s1.noteStakes w).bump 32 (Obj.waleStakeEvents w) 1
    s2.raise Ev.stakeChange { unit := w, detail := s.stakeObject w a b p }

/-- Stake lanes after the transmit map has changed (R248, R250), from those held before. -/
def State.redesignate (s : State) (w : Nat) : State :=
  let x := (s.wale w).tx
  let live := s.mapLanes w
  let a := x.planA.filter live.contains
  let b := x.planB.filter live.contains
  match a, b with
  | some _, some _ => s
  | none, none => match live with
    | [] => s.setStakes w none none false
    | [k] => s.setStakes w (some k) none true
    | k :: j :: _ => s.setStakes w (some k) (some j) false
  | _, _ => s.setStakes w a b true

/-- LineWalesUp: wales that are not Free or Dark (R251). -/
def State.countWales (s : State) : State :=
  s.setNum Obj.lineWalesUp ((List.range 32).filter fun w =>
    s.num (Obj.waleState w) != 0 && s.num (Obj.waleState w) != 4).length

/-- Transmit direction to Held: the hold timer starts, timer resends are suspended (R266). -/
def State.hold (s : State) (w : Nat) : State :=
  if s.num (Obj.repeatState w) = 1 then
    let v := s.wale w
    let s1 := s.setWale w { v with tx := { v.tx with heldSince := s.now } }
    (s1.setNum (Obj.repeatState w) 2).raise Ev.repeatHeld { unit := w }
  else s

/-- WaleState from the transmit map (R247, R252): Forming until the map first holds a member, then Dark, Degraded or Up. An
Open direction becomes Held when the wale becomes Dark (R266). -/
def State.settleWale (s : State) (w : Nat) : State :=
  let map := s.num (Obj.waleTxMap w)
  let old := s.num (Obj.waleState w)
  let new := if map = 0 then (if old = 1 ∨ old = 0 then old else 4)
    else if popCount 32 map < (s.waleLanes w).length then 3 else 2
  let s1 := (s.setNum (Obj.waleState w) new).countWales
  if new = 4 ∧ old ≠ 4 then s1.hold w else s1

/-- Lanes leave the transmit map together (R247, R248, R250): a restore of a plan that was to happen with them does not, where one of
them is a stake lane or the lane that was to take the plan. -/
def State.leaveMap (s : State) (w : Nat) (lanes : List Nat) : State :=
  let v := s.wale w
  let gone := lanes.filter (s.mapLanes w).contains
  if gone = [] then s
  else
    let stays := v.tx.restore.filter fun k => !gone.any fun j => j == k || v.tx.planA == some j || v.tx.planB == some j
    let s1 := s.setWale w { v with tx := { v.tx with restore := stays } }
    let map := gone.foldl (fun m k => setBit m (s.memberIndex w k) false) (s.num (Obj.waleTxMap w))
    let s2 := s1.setNum (Obj.waleTxMap w) map
    let s3 := s2.each gone fun t k => t.raise Ev.waleMemberRemoved { unit := w, detail := s.memberIndex w k }
    (s3.redesignate w).settleWale w

/-- Lane k leaves the transmit map of its wale with the next frame (R247: at the latest 10 µs after the event). -/
def State.laneLeaves (s : State) (k : Nat) : State :=
  match s.waleOf k with
  | some w =>
    let v := s.wale w
    if (s.mapLanes w).contains k ∧ !v.tx.leaving.contains k then
      s.setWale w { v with tx := { v.tx with leaving := v.tx.leaving ++ [k] } }
    else s
  | none => s

/-- The changes that the next frame first carries (R236, R248, R250): the lanes that leave, then the free plan that a member takes while
the survivor clears Protection. -/
def State.applyFrameChanges (s : State) (w : Nat) : State :=
  let s1 := s.leaveMap w (s.wale w).tx.leaving
  let v := s1.wale w
  let s2 := s1.setWale w { v with tx := { v.tx with leaving := [], restore := none } }
  match v.tx.restore, v.tx.planA, v.tx.planB with
  | some k, some a, none => s2.setStakes w (some a) (some k) false
  | some k, none, some b => s2.setStakes w (some k) (some b) false
  | _, _, _ => s2

/-! ### Defects of a lane (R242–R244) -/

/-- Bit numbers of LineLaneDefects (R251). -/
inductive Defect where
  | los | lof | oof | ais | rdi | tim | plm | skew | aisSent
deriving DecidableEq, Repr

/-- The bit of a defect in LineLaneDefects. -/
def Defect.bit : Defect → Nat
  | .los => 0 | .lof => 1 | .oof => 2 | .ais => 3 | .rdi => 4 | .tim => 5 | .plm => 6 | .skew => 7 | .aisSent => 8

/-- A lane has a defect. -/
def State.hasDefect (s : State) (k : Nat) (d : Defect) : Bool := bitAt (s.num (Obj.lineLaneDefects k)) d.bit

/-- Set or clear a defect bit. -/
def State.setDefect (s : State) (k : Nat) (d : Defect) (b : Bool) : State :=
  s.setNum (Obj.lineLaneDefects k) (setBit (s.num (Obj.lineLaneDefects k)) d.bit b)

/-- A cause of AIS on lane k begins or ends (R243); a lane that begins to send AIS leaves the map (R247). -/
def State.setAis (s : State) (k : Nat) (cause : AisCause) (b : Bool) : State :=
  let x := s.lane k
  let causes := if b then cause :: x.tx.ais.filter (· != cause) else x.tx.ais.filter (· != cause)
  let s1 := (s.setLane k { x with tx := { x.tx with ais := causes } }).setDefect k .aisSent (causes != [])
  if b then s1.laneLeaves k else s1

/-- Rdi is sent on a lane whose receive has LOS, LOF, TIM or PLM (R244). -/
def State.sendsRdi (s : State) (k : Nat) : Bool := [Defect.los, .lof, .tim, .plm].any (s.hasDefect k)

/-- The lane's receive has a defect that WaleRxDefects reports (R244). -/
def State.reportsDefect (s : State) (k : Nat) : Bool := [Defect.los, .lof, .tim, .plm, .ais, .skew].any (s.hasDefect k)

/-- The lane's receive delivers nothing now (R244). -/
def State.absentRx (s : State) (k : Nat) : Bool := s.reportsDefect k || s.hasDefect k .oof

/-- The member of the peer that this lane receives, once a frame that passed R229 has said it (R228). -/
def State.peerMember (s : State) (k : Nat) : Option Nat :=
  let x := (s.lane k).rx
  if x.known then some (x.member % 32) else none

/-- WaleRxDefects that a wale sends (R232). -/
def State.rxDefects (s : State) (w : Nat) : Nat :=
  (s.waleLanes w).foldl (fun m k => match s.peerMember k with
    | some i => if s.reportsDefect k then setBit m i true else m
    | none => m) 0

/-! ### Sessions (R273–R280) -/

/-- Session n of a wale. -/
def State.session (s : State) (w n : Nat) : LineSession := Map.get {} (s.wale w).sessions n

/-- The state with a session set. -/
def State.setSession (s : State) (w n : Nat) (x : LineSession) : State :=
  let v := s.wale w
  s.setWale w { v with sessions := Map.put {} v.sessions n x }

/-- The all-zero key of epoch 0 (R273). -/
def zeroKey : Bytes := List.replicate 32 0

/-- This module is the end with the lower NodeIdentity (R274). -/
def State.isLow (s : State) (w : Nat) : Bool := decide (nodeIdentity < (s.wale w).handshake.peerNode)

/-- The timing lane of a wale (R358): at the low end the lowest lane of its transmit map whose receive is free of the defects
of R244; at the other end the lane that receives the low end's lowest such lane, as the trace shows (R232). -/
def State.timingLane (s : State) (w : Nat) : Option Nat :=
  let lanes := (s.waleLanes w).filter fun k => !s.absentRx k
  if s.isLow w then lanes.find? fun k => bitAt (s.num (Obj.waleTxMap w)) (s.memberIndex w k)
  else
    let inMap := lanes.filter fun k => (s.peerMember k).any (bitAt (s.num (Obj.waleRxMap w))) && s.bytes (Obj.lineLaneRxTrace k) != []
    let peerLane (k : Nat) : Nat := beNat (slice (s.bytes (Obj.lineLaneRxTrace k)) 10 1)
    inMap.foldl (fun (m : Option Nat) k => match m with
      | some j => if peerLane k < peerLane j then some k else some j
      | none => some k) none

/-- Direction byte d of R276 for what this end transmits: 0 low to high, 1 high to low. -/
def State.txDirection (s : State) (w : Nat) : Nat := if s.isLow w then 0 else 1

/-- chain[d] := shake256(k0 ‖ "chain" ‖ u8(d), 64) (R276). -/
def firstChain (k0 : Bytes) (d : Nat) : Bytes :=
  leBytes 64 (Config.shake256 (k0 ++ asciiBytes "chain" ++ leBytes 1 d) 64).toNat

/-- key[d] := shake256(chain[d] ‖ u8(e) ‖ "key", 32) (R276). -/
def epochKey (chain : Bytes) (e : Nat) : Bytes :=
  leBytes 32 (Config.shake256 (chain ++ leBytes 1 e ++ asciiBytes "key") 32).toNat

/-- The chain of the next epoch: sha3_512(chain[d] ‖ ssn ‖ u8(e)) (R276). -/
def nextChain (chain secret : Bytes) (e : Nat) : Bytes := sha3Bytes (chain ++ secret ++ leBytes 1 e)

/-- Epochs follow 1–255, then 1 (R273). -/
def nextEpoch (e : Nat) : Nat := if e = 255 then 1 else e + 1

/-- Install the keys of epoch 1 of a session from k0 (R276). -/
def State.installKeys (s : State) (w : Nat) (x : LineSession) (k0 : Bytes) : LineSession :=
  let ct := firstChain k0 (s.txDirection w)
  let cr := firstChain k0 (1 - s.txDirection w)
  { x with
    state := 2, txEpoch := 1, phase := 0, rxOld := 0, rxNew := 1, sent := 0, rekeyDue := false, chainTx := ct, chainRx := cr,
    txKeys := [(1, epochKey ct 1)], rxKeys := [(1, epochKey cr 1)] }

/-! ### Fabric messages and fences (R325–R328, R332) -/

/-- First wale towards a fabric address for messages of session 0: a neighbour's own wale, else the first of the route (R328). -/
def State.waleTo (s : State) (address : Nat) : Option Nat :=
  match (List.range 32).find? fun w => (s.wale w).handshake.peerAddress == address && s.established w with
  | some w => some w
  | none => (s.net.routes.find? fun r => r.address == address).map Route.wale

/-- A fabric message on VC4 of session 0 to a module that need not be a neighbour (R327, R328); false where no route exists. -/
def State.sendFabric (s : State) (address kind : Nat) (payload : Bytes) : State × Bool :=
  match s.waleTo address with
  | none => (s, false)
  | some w =>
    (s.enqueue w {
      owner := 16, vc := 4, session := 0, origin := s.num Obj.fabricAddress, destination := address
      tail := beBytes 2 kind ++ List.replicate 8 0, payload := payload, entered := 0 }, true)

/-- The fabric Hello of this module (R327). -/
def State.sendFabricHello (s : State) (w : Nat) : State :=
  s.sendModule w 4 0x0401 [] (beBytes 8 nodeIdentity ++ beBytes 2 (s.num Obj.fabricAddress) ++ beBytes 2 (s.num Obj.healthScore) ++
    beBytes 4 (s.num Obj.arithmeticVersion) ++ beBytes 2 (s.num Obj.tileIsaVersion) ++ beBytes 6 0)

/-- Addresses on a hoop's fence list (R332). -/
def State.fenceListOf (s : State) (h : Nat) : List Nat :=
  (entriesOf 2 1024 (s.bytes (Obj.fenceList h))).map leNat

/-- The module at an address is fenced from hoop h (R332). -/
def State.fencedIn (s : State) (h address : Nat) : Bool := (s.fenceListOf h).contains address

/-- FenceNotices that wait go out where a route exists (R327). -/
def State.flushNotices (s : State) : State :=
  s.each (s.net.notices.filter FenceNotice.due) fun t n =>
    let r := t.sendFabric n.address 0x0407 n.bytes
    if r.2 then
      let f (x : FenceNotice) : FenceNotice := if x = n then { x with due := false, sent := some t.now } else x
      { r.1 with net := { r.1.net with notices := r.1.net.notices.map f } }
    else t

/-- A fenced module still sends: a FenceNotice goes to it, at most once per second (R332). -/
def State.noteFenced (s : State) (h address : Nat) : State :=
  let f (x : FenceNotice) : FenceNotice :=
    let free := x.sent.all fun t => decide (t + 1000000000 ≤ s.now)
    if x.hoop = h ∧ x.address = address ∧ free then { x with due := true } else x
  ({ s with net := { s.net with notices := s.net.notices.map f } }).flushNotices

/-- Queue a key message on VC0 of session 0 (R275): type, TargetSession, TargetEpoch, Mode. -/
def State.sendKey (s : State) (w kind session epoch mode : Nat) (payload : Bytes) : State :=
  s.sendModule w 0 kind (beBytes 1 session ++ beBytes 1 epoch ++ beBytes 1 mode) payload

/-- The hoops' LineHoopSessions bits of a wale (R289), set from its sessions. -/
def State.noteSessions (s : State) (w : Nat) : State :=
  s.each (List.range 16) fun t h =>
    let has := (t.wale w).sessions.any fun c => c.1 != 0 && c.2.hoop == h && c.2.state == 2
    t.setNum (Obj.lineHoopSessions h) (setBit (t.num (Obj.lineHoopSessions h)) w has)

/-- Close session n: its keys are zeroised and it is Free (R277); what waits to go on under it in transit has not been acknowledged and
is dropped (R256). -/
def State.closeSession (s : State) (w n : Nat) : State :=
  let v := s.wale w
  let s1 := s.setWale w { v with tx := { v.tx with
    queue := v.tx.queue.filter fun r => !(r.owner == 16 && n != 0 && r.session == n) } }
  (s1.setSession w n {}).noteSessions w

/-- Segments that came on wale w and wait in the transit queue of another are acknowledged nowhere any more (R256, R258). -/
def State.dropTransit (s : State) (w : Nat) : State :=
  s.each (List.range 32) fun t out =>
    let v := t.wale out
    let f (r : EmitRequest) : EmitRequest := if r.transit.any (fun c => c.1 == w) then { r with transit := none } else r
    if v.tx.queue.any (fun r => r.transit.any fun c => c.1 == w) then
      t.setWale out { v with tx := { v.tx with queue := v.tx.queue.map f } }
    else t

/-- Discard a wale's window and receive state and start both counter spaces at 0 (R258, R266). -/
def State.clearRepeat (s : State) (w : Nat) : State :=
  let v := s.wale w
  let tx : WaleTx := { v.tx with
    outstanding := [], resend := [], linkCount := 0, links := [], vcSequence0 := 0, vcSequence4 := 0, srtt := 0, rttvar := 0,
    sampled := false, windowFull := [], fixed := [], fixedRest := [], stream := [], streamRest := [],
    queue := v.tx.queue.filter fun r => r.session != 0 && r.owner != 16 }
  let rx : WaleRx := { v.rx with
    accepted := [], anyAccepted := false, echoCounter := 0, requests := [], lost := [], breakMarks := [],
    held0 := [], held4 := [], next0 := 0, next4 := 0, delineated := [], partialSegment := [], partialFlags := [], partialFixed := [],
    synced := false }
  let s1 := (s.setWale w { v with tx := tx, rx := rx }).dropTransit w
  s1.each [Obj.repeatTxNext w, Obj.repeatTxCumulative w, Obj.repeatTxOutstanding w, Obj.repeatTxBytes w,
    Obj.repeatRxCumulative w, Obj.repeatSrtt w, Obj.repeatTimeout w] fun t k => t.setNum k 0

/-- The Hello payload of this module (R275). -/
def State.helloPayload (s : State) (nonce : Nat) (kemSeed : Nat) : Bytes :=
  beBytes 8 nodeIdentity ++ beBytes 2 (s.num Obj.fabricAddress) ++ beBytes 6 0 ++ beBytes 32 nonce ++
  leBytes 1568 (Config.mlKemPublic kemSeed).toNat ++ identityKey

/-- The peer's EncapKey and IdentityKey in a Hello (R275). -/
def helloEncapKey (p : Bytes) : Bytes := slice p 48 1568
def helloIdentityKey (p : Bytes) : Bytes := slice p 1616 2592

/-- th := sha3_512(hello_low ‖ hello_high) (R276). -/
def State.transcript (s : State) (w : Nat) : Bytes :=
  let h := (s.wale w).handshake
  if s.isLow w then sha3Bytes (h.hello ++ h.peerHello) else sha3Bytes (h.peerHello ++ h.hello)

/-- Send Reply to the peer's Hello that is held (R274 step 2, R276). -/
def State.sendReply (s : State) (w : Nat) : State :=
  let h := (s.wale w).handshake
  let th := s.transcript w
  let enc := Config.mlKemEncap (helloEncapKey h.peerHello) s.freeCtr
  let ct := leBytes 1568 enc.1.toNat
  let sig := leBytes 4627 (Config.mlDsaSign identityKeySeed (sha3Bytes (th ++ ct)) (asciiBytes "sarsia-session") s.freeCtr).toNat
  let s1 := s.tookFree
  let v := s1.wale w
  let s2 := s1.setWale w { v with handshake := { h with th := th, secretOwn := leBytes 32 enc.2.toNat, reply := ct } }
  (s2.setNum (Obj.lineSession0State w) 2).sendKey w 0x0102 0 0 0 (ct ++ sig)

/-- The handshake with the peer's Hello held (R274, R275): identity and fabric address of the peer. -/
def withPeer (h : Handshake) (p : Bytes) : Handshake :=
  { h with peerHello := p, peerNode := beNat (p.take 8), peerAddress := beNat (slice p 8 2) }

/-- Start establishing the module session of a wale (R274): every key of the wale is zeroised, both counter spaces start at
0, and Hello goes out under epoch 0; a Hello of the peer that came early is answered. A module whose FabricAddress is 0
sends no Hello (R324). -/
def State.startHandshake (s : State) (w : Nat) : State :=
  if s.num Obj.fabricAddress = 0 then s
  else
    let v := s.wale w
    let st := s.num (Obj.lineSession0State w)
    let early := if st = 0 ∨ st = 4 then v.handshake.peerHello else []
    let s1 := (s.setWale w { v with sessions := [], handshake := {} }).noteSessions w
    let s2 := s1.clearRepeat w
    let kemSeed := s2.freeNat 256
    let s3 := s2.tookFree
    let hello := s3.helloPayload (s3.freeNat 256) kemSeed
    let s4 := s3.tookFree
    let v4 := s4.wale w
    let session0 : LineSession := { state := 1, txKeys := [(0, zeroKey)], rxKeys := [(0, zeroKey)] }
    let h : Handshake := { v4.handshake with hello := hello, kemSeed := kemSeed }
    let s5 := s4.setWale w { v4 with
      sessions := [(0, session0)], handshake := if early = [] then h else withPeer h early }
    let s6 := (s5.setNum (Obj.lineSession0State w) 1).sendKey w 0x0101 0 0 0 hello
    if early = [] then s6 else s6.sendReply w

/-- A failed check of Hello, Reply or Finished ends the attempt (R276): the status is kept and reported, the next attempt
waits for SESSION_RETRY_TIMER. -/
def State.sessionRefused (s : State) (w status : Nat) : State :=
  let v := s.wale w
  let s1 := s.setWale w { v with handshake := { v.handshake with peerHello := [] } }
  ((s1.setNum (Obj.lineSession0State w) 4).setNum (Obj.lineSessionStatus w) status).raise Ev.sessionRefused
    { unit := w, detail := status }

/-- The transmit direction is lost: window and receive state are discarded, every key of the wale is zeroised, EV_PEER_LOST,
and establishment starts again when the wale is not Dark (R266, R274, R288). -/
def State.loseWale (s : State) (w : Nat) : State :=
  let v := s.wale w
  let s1 := (s.setWale w { v with sessions := [], handshake := {} }).noteSessions w
  let s2 := ((s1.clearRepeat w).setNum (Obj.repeatState w) 3).setNum (Obj.lineSession0State w) 0
  let s3 := s2.raise Ev.peerLost { unit := w }
  if s3.num (Obj.waleState w) = 4 then s3 else s3.startHandshake w

/-- Lane k enters the transmit map (R247): WaleState follows, and the first member of the map starts establishment (R274). -/
def State.enterMap (s : State) (w k : Nat) : State :=
  let i := s.memberIndex w k
  let map := s.num (Obj.waleTxMap w)
  if map.testBit i then s
  else
    let v := s.wale w
    let s1 := s.setWale w { v with tx := { v.tx with memberSince := Map.put 0 v.tx.memberSince k s.now } }
    let s2 := (s1.setNum (Obj.waleTxMap w) (setBit map i true)).raise Ev.waleMemberAdded { unit := w, detail := i }
    let s3 := if map = 0 then s2.redesignate w else s2
    let s4 := s3.settleWale w
    if map = 0 ∧ s4.num (Obj.lineSession0State w) = 0 then s4.startHandshake w else s4

/-! ### The Request list (R257, R261) -/

/-- Distance from a to b modulo 2^32. -/
def seqDist (a b : Nat) : Nat := (b % 2 ^ 32 + 2 ^ 32 - a % 2 ^ 32) % 2 ^ 32

/-- a is behind b modulo 2^32 (R16). -/
def seqBefore (a b : Nat) : Bool := a % 2 ^ 32 != b % 2 ^ 32 && decide (seqDist a b < 2 ^ 31)

/-- The number q lies in the run [first, end) modulo 2^32 (R261). -/
def inRun (q : Nat) (run : Nat × Nat) : Bool := decide (seqDist run.1 q < seqDist run.1 run.2)

/-- Two runs overlap or adjoin. -/
def runsTouch (a b : Nat × Nat) : Bool :=
  decide (seqDist a.1 b.1 ≤ seqDist a.1 a.2) || decide (seqDist b.1 a.1 ≤ seqDist b.1 b.2)

/-- The run that covers two runs that touch. -/
def joinRuns (a b : Nat × Nat) : Nat × Nat :=
  if seqDist a.1 b.1 ≤ seqDist a.1 a.2 then (a.1, if seqDist a.1 a.2 < seqDist a.1 b.2 then b.2 else a.2)
  else (b.1, if seqDist b.1 b.2 < seqDist b.1 a.2 then a.2 else b.2)

/-- A run joins a list of runs none of which touches another: one run covers it and those that it touches (R268). -/
def mergeRun (run : Nat × Nat) : List (Nat × Nat) → List (Nat × Nat)
  | [] => [run]
  | r :: t => if runsTouch run r then mergeRun (joinRuns run r) t else r :: mergeRun run t

/-- A run joins the Request list (R261, R268). -/
def State.requestRun (s : State) (w : Nat) (run : Nat × Nat) : State :=
  let v := s.wale w
  if run.1 = run.2 then s
  else s.setWale w { v with rx := { v.rx with requests := mergeRun run v.rx.requests } }

/-- A segment that was accepted and is lost before its use (R184): its number is requested again. The acceptance stands (R260), and the
copy that comes is delivered once more (log entry 137). -/
def State.requestAgain (s : State) (w counter : Nat) : State :=
  let v := s.wale w
  let q := counter % 2 ^ 32
  (s.setWale w { v with rx := { v.rx with lost := q :: v.rx.lost.filter (· != q) } }).requestRun w (q, (q + 1) % 2 ^ 32)

end Sys2Proof.Machine
end

