-- ==== Sys2Proof/Machine/MemoryOps.lean ====
section
/-! DEFINITION. Where a die lays a data line (R176), the uncorrectable reads that owners meet (R184), and the capacity that hoops
may reserve (R31, R189). -/

namespace Sys2Proof.Machine

open Sys2Proof

/-! ### Placement (R175, R176) -/

/-- Bytes that one channel holds for use: 1.75 GiB (R176). -/
def channelBytes : Nat := 1879048192

/-- Channel c is Active or Migrating out: it is on its die's live list (R176, R187). -/
def State.channelLive (s : State) (c : Nat) : Bool := decide (s.num (Obj.channelState c) < 2)

/-- The live list of die m: its channels in ascending order, mapped-out ones left out (R176). -/
def State.liveChannels (s : State) (m : Nat) : List Nat := (List.range 80).filter fun j => s.channelLive (80 * m + j)

/-- Channel and physical line of a data line of die m (R176). -/
def State.placeLine (s : State) (m line : Nat) : Nat × Nat :=
  let live := s.liveChannels m
  let n := max 1 live.length
  let q := line / n
  (80 * m + live[line % n]?.getD 0, 8 * (q / 7) + q % 7)

/-- Channel of a module address (R176). -/
def State.channelOf (s : State) (a : Nat) : Nat := (s.placeLine (a / 2 ^ 38) (a % 2 ^ 38 / 64)).1

/-- Module line number (address ÷ 64) of a physical line of channel c; none for a check line (R176, R177). -/
def State.dataLine (s : State) (c phys : Nat) : Option Nat :=
  let m := c / 80
  let live := s.liveChannels m
  if phys % 8 = 7 ∨ !s.channelLive c then none
  else some (m * 2 ^ 32 + (phys / 8 * 7 + phys % 8) * live.length + live.findIdx (· == c % 80))

/-! ### Uncorrectable reads (R184) -/

/-- The lines of [a, a + n) that read uncorrectable. -/
def State.badLines (s : State) (a n : Nat) : List Nat :=
  s.memory.bad.filter (lineIn a n)

/-- One uncorrectable read of a channel by an owner: counted, and EV_MEM_UNCORRECTABLE once per channel per second (R184). -/
def State.noteUncorrectable (s : State) (c : Nat) : State :=
  let s1 := (s.bump 32 (Obj.channelUncorrectable c) 1).bump 64 Obj.memoryUncorrectableReads 1
  let x := Map.get {} s.memory.channels c
  let s2 : State := { s1 with
    net := { s1.net with uncorrectable := s.now :: s1.net.uncorrectable }
    memory := { s1.memory with channels := Map.put {} s1.memory.channels c { x with times := s.now :: x.times } } }
  let due := (Map.get none s.memory.lastBadEvent c).all fun t => decide (t + 1000000000 ≤ s.now)
  if due then
    { s2 with memory := { s2.memory with lastBadEvent := Map.put none s2.memory.lastBadEvent c (some s.now) } }.raise
      Ev.memUncorrectable { die := 9 + c / 80, unit := c }
  else s2

/-- The reads of lines that fail. -/
def State.noteBadLines (s : State) (lines : List Nat) : State := s.each lines fun t l => t.noteUncorrectable (t.channelOf (l * 64))

/-- The uncorrectable lines that pieces of module memory touch. -/
def State.badIn (s : State) (pieces : List (Nat × Nat)) : List Nat := pieces.flatMap fun e => s.badLines e.1 e.2

/-- Bytes of a piece of memory with nothing of a failed line in them (R184): the spec states no value for such bytes. -/
def State.loadGood (s : State) (a n : Nat) : Bytes :=
  let bad := s.badLines a n
  if bad = [] then s.load a n else (s.load a n).zipIdx.map fun x => if bad.contains ((a + x.2) / 64) then Config.unreadable (a + x.2) else x.1

/-! ### The module's own regions (R184, R189, R265) -/

/-- Bytes of one copy of the repeat buffer (R189). -/
def State.repeatCopy (s : State) : Nat := ceilDiv (1600000000 * s.num Obj.repeatWindowMs) (2 ^ 30) * 2 ^ 30

/-- Where a region's part of a die begins, and its bytes: the regions share the lowest bytes of every die equally (R189, R192), in the
order of R189's table and each second copy behind the first (log entry 134). -/
def State.regionPart (s : State) : Config.Region → Nat × Nat
  | .repeatBuffer => (0, s.repeatCopy / 8)
  | .control => (s.repeatCopy / 4, 2 ^ 27)
  | .skewBuffer => (s.repeatCopy / 4 + 2 ^ 28, 3 * 2 ^ 27)
  | .rings => (s.repeatCopy / 4 + 5 * 2 ^ 27, 2 ^ 27)
  | .imageStore => (s.repeatCopy / 4 + 6 * 2 ^ 27, 2 ^ 27)
  | .staging => (s.repeatCopy / 4 + 7 * 2 ^ 27, 2 ^ 24)

/-- The lanes whose shares of the repeat buffer a wale holds (R252, R265). -/
def State.shareLanes (s : State) (w : Nat) : List Nat :=
  (List.range 32).filter fun k => bitAt (s.num (Obj.waleLanes w)) k || (s.wale w).tx.unreturned.contains k

/-- Die and byte of the die where a piece of a unit of a region lies: a segment of a wale in the share of one of its lanes, a unit of
lane k in the lane's share of the skew buffer, both on M(k div 4) (R245, R265); any other unit on some die (R189). -/
def State.regionPlace (s : State) (r : Config.Region) (a b piece : Nat) : Nat × Nat :=
  let x := Config.regionSpot r a b piece
  let p := s.regionPart r
  if r = .repeatBuffer then
    let lanes := s.shareLanes a
    let k := lanes.getD (x % max 1 lanes.length) 0
    let share := p.2 / 4
    (k / 4 % 8, p.1 + k % 4 * share + x / 32 % max 1 (share / 64) * 64)
  else if r = .skewBuffer then (a / 4 % 8, p.1 + a % 4 * (p.2 / 4) + x % (p.2 / 256) * 64)
  else (x % 8, p.1 + x / 8 % (p.2 / 64) * 64)

/-- The line of module memory that holds a piece of a unit of a region. -/
def State.regionLine (s : State) (r : Config.Region) (a b piece : Nat) : Nat :=
  let p := s.regionPlace r a b piece
  p.1 * 2 ^ 32 + p.2 / 64

/-- Line of the second copy of a line of a region that has two: on die (m + 4) mod 8 of the first one's die m (R189). -/
def State.mirrorLine (s : State) (r : Config.Region) (a b piece : Nat) : Nat :=
  let p := s.regionPlace r a b piece
  (p.1 + 4) % 8 * 2 ^ 32 + (p.2 + (s.regionPart r).2) / 64

/-- The lines that hold the first n bytes of a unit of a region. -/
def State.regionLines (s : State) (r : Config.Region) (a b n : Nat) : List Nat := (List.range (ceilDiv n 64)).map (s.regionLine r a b)

/-- Those of them that read uncorrectable. -/
def State.regionBad (s : State) (r : Config.Region) (a b n : Nat) : List Nat :=
  if s.memory.bad = [] then [] else (s.regionLines r a b n).filter s.memory.bad.contains

/-- The lines have been written: they read again (R184). -/
def State.clearLines (s : State) (lines : List Nat) : State :=
  if s.memory.bad = [] then s
  else { s with memory := { s.memory with bad := s.memory.bad.filter fun l => !lines.contains l } }

/-- Write the first n bytes of a unit of a region that has two copies. -/
def State.writeMirrored (s : State) (r : Config.Region) (a b n : Nat) : State :=
  s.clearLines ((List.range (ceilDiv n 64)).flatMap fun i => [s.regionLine r a b i, s.mirrorLine r a b i])

/-- Read the first n bytes of a unit of a region that has two copies (R184, R189): a line that fails is read from the other copy and
rewritten from it. The reader learns whether every line could be read. -/
def State.readMirrored (s : State) (r : Config.Region) (a b n : Nat) : State × Bool :=
  if s.regionBad r a b n = [] then (s, true)
  else (List.range (ceilDiv n 64)).foldl (fun (c : State × Bool) i =>
    let line := s.regionLine r a b i
    let mirror := s.mirrorLine r a b i
    if !c.1.memory.bad.contains line then c
    else
      let t := c.1.noteBadLines [line]
      if t.memory.bad.contains mirror then (t.noteBadLines [mirror], false)
      else ((t.clearLines [line]).bump 64 Obj.mirrorFallbacks 1, c.2)) (s, true)

/-- The lines of a hoop's image store that hold an image. -/
def State.storeLines (s : State) (h : Nat) (image : Bytes) : List Nat := s.regionLines .imageStore h (leNat image) image.length

/-- The bad lines of a buffer of n bytes that a handle names. -/
def State.handleBad (s : State) (handle n : Nat) : List Nat := s.badIn ((s.handleAddress handle).toList.map fun a => (a, n))

/-! ### Capacity (R31) -/

/-- Channels on the list of mapped-out channels (R183, R187). -/
def State.listedOut (s : State) : Nat := popCount 640 (leNat (s.bytes Obj.mappedOutChannels))

/-- A channel joins the list of mapped-out channels (R183, R187): past the eighth each one costs capacity (R31). -/
def State.loseChannel (s : State) (c : Nat) : State :=
  let s1 := s.setP Obj.mappedOutChannels (.blob (leBytes 80 (setBit (leNat (s.bytes Obj.mappedOutChannels)) c true)))
  if 8 < s1.listedOut then s1.raise Ev.capacityLost { die := 9 + c / 80, unit := c } else s1

/-- ModuleHoopMemoryAvailable: usable memory less the module's regions and a margin of 8 channels, which the first 8 map-outs
use up (R31). -/
def State.hoopMemoryAvailable (s : State) : Nat :=
  640 * channelBytes - max 8 s.listedOut * channelBytes - s.num Obj.moduleRegionBytes

/-- ModuleHoopMemoryReserved (R30, R31). -/
def State.hoopMemoryReserved (s : State) : Nat :=
  (((List.range 16).filter fun h => s.num (Obj.hoopState h) != 0 && !(s.hoop h).taken).map fun h =>
    s.num (Obj.hoopMemoryCapacity h)).sum

/-- Set ModuleHoopMemoryReserved (R30); ModuleHoopMemoryAvailable is computed when it is read. -/
def State.countCapacity (s : State) : State := s.setNum Obj.moduleHoopMemoryReserved s.hoopMemoryReserved

end Sys2Proof.Machine
end

