-- ==== Sys2Proof/Machine/HoopOps.lean ====
section
/-! DEFINITION. Operations of hoops and groups that several chapters share: descriptors (R51), completion records and doorbells
(R66–R69), the end of an operation (R57, R63, R65), groups that break, hoop faults (R27, R453), the start of an evacuation
(R39, R40). -/

namespace Sys2Proof.Machine

open Sys2Proof

/-! ### Descriptors (R51) -/

def dOpcode (d : Bytes) : Nat := field d 0 1
def dFlag (d : Bytes) (i : Nat) : Bool := bitAt (field d 1 1) i
def dGroupId (d : Bytes) : Nat := field d 2 2
def dSequence (d : Bytes) : Nat := field d 4 4
def dEpoch (d : Bytes) : Nat := field d 8 4
def dType (d : Bytes) : Nat := field d 12 1
def dReduceOp (d : Bytes) : Nat := field d 13 1 / 16
def dExtSlots (d : Bytes) : Nat := field d 13 1 % 16
def dPlanEntry (d : Bytes) : Nat := field d 14 2
def dElements (d : Bytes) : Nat := field d 16 6
def dSourceOffset (d : Bytes) : Nat := field d 24 8
def dDestinationOffset (d : Bytes) : Nat := field d 32 8
def dCompletionOffset (d : Bytes) : Nat := field d 40 8
def dSourceWindow (d : Bytes) : Nat := field d 48 2
def dDestinationTarget (d : Bytes) : Nat := field d 50 2
def dCompletionTarget (d : Bytes) : Nat := field d 52 2
def dDoorbellTarget (d : Bytes) : Nat := field d 54 2
def dDoorbellValue (d : Bytes) : Nat := field d 56 4
def dUserTag (d : Bytes) : Nat := field d 60 4

/-- Inline payload of a SmallAllReduce: from byte 0 of the first extension entry (R54). -/
def dPayload (d : Bytes) : Bytes := slice d 64 (dElements d * elementBytes (dType d))

/-- A Small group (R45). -/
def State.isSmall (s : State) (g : Nat) : Bool := s.num (Obj.groupKind g) == 1

/-- Hoop of a group. -/
def State.hoopOfGroup (s : State) (g : Nat) : Nat := s.num (Obj.groupHoop g)

/-- ChunkCount of a descriptor of a group (R67): 0 for Small groups; none where a Bulk descriptor names no loaded entry. -/
def State.chunkCount (s : State) (g : Nat) (d : Bytes) : Option Nat :=
  if s.isSmall g then some 0
  else (planEntry (s.hoop (s.hoopOfGroup g)).plan (dPlanEntry d)).map entryChunks

/-- Producer and consumer index of a group's queue (R45). -/
def State.producer (s : State) (g : Nat) : Nat := s.num (Obj.groupQueueIndices g) / 2 ^ 16 % 2 ^ 16
def State.consumer (s : State) (g : Nat) : Nat := s.num (Obj.groupQueueIndices g) % 2 ^ 16

/-- Set the queue indices of a group. -/
def State.setIndices (s : State) (g p c : Nat) : State :=
  s.setNum (Obj.groupQueueIndices g) (p % 2 ^ 16 * 2 ^ 16 + c % 2 ^ 16)

/-! ### Records and doorbells (R66–R69) -/

/-- RecordType values (R66). -/
def recChunkDone : Nat := 1
def recChunkNotice : Nat := 2
def recOperationDone : Nat := 3
def recRefused : Nat := 4

/-- The 32 bytes of a completion record (R66). `chunk` is none in OperationDone and Refused records. -/
def State.recordBytes (s : State) (g : Nat) (d : Bytes) (type flags status : Nat) (chunk : Option Nat) (chunksDone : Nat) : Bytes :=
  leBytes 1 type ++ leBytes 1 flags ++ leBytes 2 status ++ leBytes 2 g ++ leBytes 2 (s.consumer g) ++ leBytes 4 (dSequence d) ++
  leBytes 4 (dEpoch d) ++ leBytes 4 (chunk.getD 0xFFFFFFFF) ++ leBytes 4 (dUserTag d) ++ leBytes 4 chunksDone ++
  leBytes 4 (s.now % 1000000000)

/-- A doorbell goes with a record of the type (R52, R69). -/
def wantsDoorbell (d : Bytes) (type : Nat) : Bool :=
  dDoorbellTarget d != 0xFFFF && dFlag d (if type = recChunkDone ∨ type = recChunkNotice then 1 else 2)

/-- The record, and its doorbell where the descriptor asks for one, can be written: their queue pairs are in RTS (R69, R216). -/
def State.recordUsable (s : State) (g : Nat) (d : Bytes) (type : Nat) : Bool :=
  let h := s.hoopOfGroup g
  (s.usableTarget h (dCompletionTarget d)).isSome &&
    (!wantsDoorbell d type || (s.usableTarget h (dDoorbellTarget d)).isSome)

/-- Write a record at its place in the completion area, and then its doorbell on the same queue pair, where they can be
written (R66, R67, R69, R221). -/
def State.writeRecord (s : State) (g : Nat) (d : Bytes) (type flags status : Nat) (chunk : Option Nat) (place chunksDone : Nat) :
    State :=
  let h := s.hoopOfGroup g
  match s.usableTarget h (dCompletionTarget d) with
  | none => s
  | some q =>
    let t := targetIndex h (dCompletionTarget d)
    let s1 := s.rdmaWrite q ((s.num (Obj.targetBase t) + dCompletionOffset d + 32 * place) % 2 ^ 64)
      (s.num (Obj.targetRemoteKey t)) (s.recordBytes g d type flags status chunk chunksDone) none
    if wantsDoorbell d type && (s1.usableTarget h (dDoorbellTarget d)).isSome then
      let b := targetIndex h (dDoorbellTarget d)
      s1.rdmaWrite q (s1.num (Obj.targetBase b)) (s1.num (Obj.targetRemoteKey b))
        (leBytes 4 (chunk.getD 0xFFFFFFFF) ++ leBytes 4 (dDoorbellValue d)) none
    else s1

/-! ### Sending (R256, R277, R328) -/

/-- The open session that hoop h holds with the module at a fabric address: wale and session (R277). -/
def State.hoopSession (s : State) (h address : Nat) : Option (Nat × Nat) :=
  (List.range 32).findSome? fun w =>
    let v := s.wale w
    if v.handshake.peerAddress = address ∧ s.established w then
      (v.sessions.find? fun c => c.1 != 0 && c.2.hoop == h && c.2.state == 2).map fun c => (w, c.1)
    else none

/-- The address under which this module stands in a hoop's groups: ShadowPrimary on a shadow that loads or compares (R46). -/
def State.ownAddress (s : State) (h : Nat) : Nat :=
  let st := s.num (Obj.shadowState h)
  if st = 1 ∨ st = 2 then s.num (Obj.shadowPrimary h) else s.num Obj.fabricAddress

/-- A shadow that compares sends none of a group's segments (R337). -/
def State.shadowSilent (s : State) (h : Nat) : Bool := s.num (Obj.shadowState h) == 2

/-- Site of a fabric address (R324). -/
def siteOf (address : Nat) : Nat := address / 4096

/-- The peer set of a chunk of an operation: in an autonomous step only the sites of the side (R77, R342). -/
def State.peersOf (s : State) (h : Nat) (o : Operation) (c : ChunkRecord) : List Nat :=
  (peerSet (s.hoop h).plan c.peerSet).filter fun a => bitAt o.side (siteOf a)

/-- Wale and session towards a fabric address for a hoop: its neighbour session, else the first wale of the route with the
session of the same hoop there (R277, R328). Where there is none, wale 0 under no session: the request waits (log entry 26). -/
def State.routeFor (s : State) (h address : Nat) : Nat × Nat :=
  match s.hoopSession h address with
  | some r => r
  | none =>
    let onRoute := (s.net.routes.find? fun r => r.address == address).bind fun r =>
      ((s.wale r.wale).sessions.find? fun c => c.1 != 0 && c.2.hoop == h && c.2.state == 2).map fun c => (r.wale, c.1)
    onRoute.getD (0, 0xFF)

/-- Queue a segment of a hoop for one destination (R256, R312). -/
def State.emitTo (s : State) (h vc address opSequence epochTag : Nat) (tail payload : Bytes)
    (operation : Option (Nat × Nat × Nat)) (ticket : Option EmitTicket) : State :=
  let r := s.routeFor h address
  s.enqueue r.1 {
    owner := h, vc := vc, session := r.2, epochTag := epochTag % 256, origin := s.num Obj.fabricAddress, destination := address,
    opSequence := opSequence, tail := tail, payload := payload, entered := 0, operation := operation, ticket := ticket }

/-- Header bytes 20–29 of VC1 and VC2 data: chunk, stream offset, group (R256). -/
def dataTail (chunk offset group : Nat) : Bytes := beBytes 4 chunk ++ beBytes 4 offset ++ beBytes 2 group

/-! ### Tiles and chunks -/

/-- Weaver tile t beside its objects. -/
def State.tile (s : State) (t : Nat) : TileData := Map.get {} s.tiles t

/-- The state with a tile's data set. -/
def State.setTile (s : State) (t : Nat) (x : TileData) : State := { s with tiles := Map.put {} s.tiles t x }

/-- The chunk bound to a zone of a tile. -/
def TileData.zone (x : TileData) (z : Nat) : Option (Nat × Nat × Nat) := if z = 0 then x.zone0 else x.zone1

/-- The tile with a zone set. -/
def TileData.setZone (x : TileData) (z : Nat) (c : Option (Nat × Nat × Nat)) : TileData :=
  if z = 0 then { x with zone0 := c } else { x with zone1 := c }

/-- The chunks that a tile holds: bound to its zones, or running with its zone released. -/
def TileData.held (x : TileData) : List (Nat × Nat × Nat) :=
  let zones := x.zone0.toList ++ x.zone1.toList
  match x.running with
  | some c => if zones.contains c then zones else zones ++ [c]
  | none => zones

/-- TileState of an Idle or Busy tile follows the chunks it holds (R105). -/
def State.settleTile (s : State) (t : Nat) : State :=
  let st := s.num (Obj.tileState t)
  if st = 1 ∨ st = 2 then s.setNum (Obj.tileState t) (if (s.tile t).held = [] then 1 else 2) else s

/-- The chunk record of (group, sequence, index). -/
def State.chunk (s : State) (c : Nat × Nat × Nat) : Option Chunk :=
  s.work.chunks.find? fun x => x.group == c.1 && x.seq == c.2.1 && x.index == c.2.2

/-- Identity of a chunk. -/
def Chunk.key (c : Chunk) : Nat × Nat × Nat := (c.group, c.seq, c.index)

/-- The state with a chunk's record set. -/
def State.setChunk (s : State) (c : Chunk) : State :=
  let rest := s.work.chunks.filter fun x => x.key != c.key
  { s with work := { s.work with chunks := rest ++ [c] } }

/-- A tile with what it ran and its queues discarded (R137). -/
def TileData.stop (x : TileData) : TileData :=
  { x with running := none, queues := [], fenced := false, ending := false, trapped := none, withheld := false }

/-- A tile gives up a chunk: its zone is free; a chunk that runs is discarded with the tile's queues (R137). -/
def State.leaveTile (s : State) (t : Nat) (c : Nat × Nat × Nat) : State :=
  let x := s.tile t
  let x1 := if x.zone0 = some c then { x with zone0 := none } else x
  let x2 := if x1.zone1 = some c then { x1 with zone1 := none } else x1
  let x3 := if x2.running = some c then x2.stop else x2
  (s.setTile t x3).settleTile t

/-- The operation of a group with a sequence number: one that holds a context, or one that runs again. -/
def State.operation (s : State) (g seq : Nat) : Option Operation :=
  ((s.group g).ops ++ (s.group g).redo).find? fun o => o.seq == seq

/-- The state with an operation of a group set. -/
def State.setOp (s : State) (g : Nat) (o : Operation) : State :=
  let x := s.group g
  let f (y : Operation) : Operation := if y.seq = o.seq then o else y
  s.setGroup g { x with ops := x.ops.map f, redo := x.redo.map f }

/-- The chunks that an operation runs: all of them; when it runs again, its receivers, or all chunks of an OuterStep (R341,
R343). -/
def State.workChunks (s : State) (g : Nat) (o : Operation) : List Nat :=
  let all := List.range ((s.chunkCount g o.desc).getD 0)
  let p := (s.hoop (s.hoopOfGroup g)).plan
  if o.redo = 0 ∨ dOpcode o.desc = 7 then all
  else all.filter fun i => (planEntry p (dPlanEntry o.desc)).any fun e => (chunkRecord p e i).role == 2

/-- g[i] of a window moves past an ended generation, over generations whose operations have ended as well (R220). -/
def State.advanceGen (s : State) (w i gen : Nat) : State :=
  if s.genOf w i ≠ gen then s
  else
    let live := (s.work.groups.flatMap fun c => c.2.ops).filter fun o =>
      dSourceWindow o.desc == w && decide (gen < o.generation) && o.ending.isNone
    s.setGen w i (live.foldl (fun m o => min m o.generation) (s.acceptedOf w))

/-- Requests of an operation that no wale has numbered leave their queues (R321). -/
def State.dropEmits (s : State) (g seq : Nat) : State :=
  let p (r : EmitRequest) : Bool := r.operation.any fun o => o.1 == g && o.2.1 == seq
  s.each (s.line.wales.map Prod.fst) fun t w =>
    let v := t.wale w
    if v.tx.queue.any p then t.setWale w { v with tx := { v.tx with queue := v.tx.queue.filter fun r => !p r } } else t

/-- What an operation holds beside its context goes: its chunks leave their tiles, landings, streams and exchange data with
their buffers, waiting requests, contributions; its window's generation ends (R65, R137, R204, R220, R321). The buffers are freed, or
kept for the group where a hoop fault or a reset ends the operation (R204). -/
def State.endHoldings (s : State) (g : Nat) (o : Operation) (keep : Bool) : State :=
  let h := s.hoopOfGroup g
  let w := dSourceWindow o.desc
  let mine := s.work.chunks.filter fun c => c.group == g && c.seq == o.seq
  let s1 := s.each (mine.filter fun c => c.phase == 1 || c.phase == 2) fun t c => t.leaveTile c.tile c.key
  let s2 : State := { s1 with work := { s1.work with
    chunks := s1.work.chunks.filter fun c => !(c.group == g && c.seq == o.seq) } }
  let gens := s2.work.landings.filter fun l => !s.isSmall g && l.window == w && l.generation == o.generation
  let s3 := s2.each gens fun t l => t.endLanding h l.window l.generation l.chunk (if keep then some g else none)
  let streams := s3.work.streams.filter fun x => x.group == g && x.seq == o.seq
  let xs := s3.work.exchanges.filter fun x => x.group == g && x.seq == o.seq
  let s4 : State := { s3 with work := { s3.work with
    streams := s3.work.streams.filter fun x => !(x.group == g && x.seq == o.seq)
    exchanges := s3.work.exchanges.filter fun x => !(x.group == g && x.seq == o.seq) } }
  let s5 := s4.letGo h (if keep then some g else none) (streams.flatMap SiteStream.buffers ++ xs.flatMap Exchange.buffers)
  let waits (r : PoolRequest) : Bool := match r.purpose with
    | .plain => false
    | .spill win gen _ _ _ => win == w && gen == o.generation && !s.isSmall g
    | .exchange g' seq _ => g' == g && seq == o.seq
  let s6 := (s5.dropWaiting waits).dropEmits g o.seq
  let s7 := s6.dropResults g o.seq
  let x := s7.group g
  s7.setGroup g { x with contributions := x.contributions.filter fun c => c.seq != o.seq }

/-- What an operation holds goes, and its buffers are freed (R63, R65). -/
def State.voidOperation (s : State) (g : Nat) (o : Operation) : State := s.endHoldings g o false

/-- The chunks that land input in an operation (R142, R220). -/
def State.landingOf (s : State) (g : Nat) (o : Operation) : List Nat :=
  if s.isSmall g then []
  else
    let p := (s.hoop (s.hoopOfGroup g)).plan
    match planEntry p (dPlanEntry o.desc) with
    | some e => landingChunks p e
    | none => []

/-- Decide the end of an operation: an end without result voids what it holds, and the record waits for the predecessor's
(R57, R63, R65; DEDUCED, log entry 24). Its buffers are kept where a hoop fault or a reset ends it (R204). -/
def State.endOpWith (s : State) (keep : Bool) (g : Nat) (o : Operation) (status : Nat) : State :=
  let s1 := s.setOp g { o with ending := some status, phase := 2 }
  if status = St.ok then s1
  else
    let s2 := s1.endHoldings g o keep
    s2.each (s2.landingOf g o) fun t i => t.advanceGen (dSourceWindow o.desc) i o.generation

/-- Decide the end of an operation whose buffers are freed (R63). -/
def State.endOp (s : State) (g : Nat) (o : Operation) (status : Nat) : State := s.endOpWith false g o status

/-- The chunks of step `step` have all matched the shadow's, and no operation of the step is left: the step counts (R338). With
ShadowPromoteSteps steps the shadow is Ready (R339). -/
def State.settleMatch (s : State) (h step : Nat) : State :=
  let x := s.hoop h
  let mine := x.digests.filter fun d => d.1 == step
  let left := (s.groupsOf h).any fun g => (s.group g).ops.any fun o => o.phase == 1 && o.ending.isNone && o.step == step
  let key (d : Nat × Nat × Nat × Nat × Bytes) : Nat × Nat × Nat × Nat := (h, d.2.1, d.2.2.1, d.2.2.2.1)
  if mine = [] ∨ left ∨ s.num (Obj.outerStepCounter h) ≤ step ∨ !(mine.all fun d => s.net.matched.contains (key d)) then s
  else
    let s1 : State := { s.setHoop h { x with digests := x.digests.filter fun d => d.1 != step } with
      net := { s.net with matched := s.net.matched.filter fun m => !(mine.map key).contains m } }
    let s2 := s1.bump 8 (Obj.shadowMatchedSteps h) 1
    if s2.num (Obj.shadowMatchedSteps h) = s2.num (Obj.shadowPromoteSteps h) then
      (s2.setNum (Obj.shadowState h) 3).raise Ev.shadowReady { hoop := h }
    else s2

/-! ### Operations that run again (R341–R344) -/

/-- Keep an ended operation and its chunks' exchange data with the last HoopAutonomousWindow steps (R342). -/
def State.retain (s : State) (g : Nat) (o : Operation) : State :=
  let h := s.hoopOfGroup g
  let w := s.num (Obj.hoopAutonomousWindow h)
  if w = 0 ∨ s.isSmall g then s
  else
    let x := s.hoop h
    let kept := (s.work.exchanges.filter fun y => y.group == g && y.seq == o.seq).map fun y => { y with buffers := [], credit := 0 }
    let rest := x.retained.filter fun y => decide (o.step < y.op.step + w) && !(y.group == g && y.op.seq == o.seq)
    s.setHoop h { x with retained := rest ++ [⟨g, { o with done := [], ending := none, phase := 1 }, kept⟩] }

/-- A retained operation runs again over the peer sets' members at `side` (R341, R343, R344), if its group has not been re-formed
since. One without a chunk to run ends at once. -/
def State.runAgain (s : State) (r : Retained) (side redo : Nat) : State :=
  let g := r.group
  if s.num (Obj.groupState g) ≠ 1 ∨ s.num (Obj.groupEpoch g) ≠ r.op.epoch then s
  else
    let o : Operation := { r.op with side := side, redo := redo }
    let o' := if s.workChunks g o = [] then { o with ending := some St.ok } else o
    let x := s.group g
    let s1 := s.setGroup g { x with redo := (x.redo.filter fun y => y.seq != o.seq) ++ [o'] }
    { s1 with work := { s1.work with
      exchanges := (s1.work.exchanges.filter fun y => !(y.group == g && y.seq == o.seq)) ++ r.exchanges } }

/-- The pieces of the hoop's state of a region class (R142): (buffer, parity, offset, length), each byte once; both parities
of a Double buffer (log entry 25). -/
def State.classPieces (s : State) (h cls : Nat) : List (Nat × Nat × Nat × Nat) :=
  let p := (s.hoop h).plan
  let bound := (planEntries p).flatMap fun e =>
    let image := s.slotImage h (entrySlot e)
    let landing := (landingChunks p e).length
    (List.range 16).filterMap fun r =>
      let d := regionDecl image r
      if regionDeclared image r && d.cls == cls then
        (entryRegion e r).map fun b => (b.1, b.2, b.2 + d.fixedBytes + d.perChunk * landing)
      else none
  (List.range (bufferCount p)).flatMap fun b =>
    let ranges := (bound.filter fun x => x.1 == b).foldl (fun l x => addRange l x.2.1 x.2.2) []
    (List.range (planBuffer p b).parities).flatMap fun parity => ranges.map fun r => (b, parity, r.1, r.2 - r.1)

/-- Every operation of a group ends with a status, those that run again without one (R37, R63). -/
def State.abortOps (s : State) (g status : Nat) (keep : Bool) : State :=
  let s1 := s.each (s.group g).redo fun t o => t.endHoldings g o keep
  let s2 := s1.setGroup g { s1.group g with redo := [] }
  s2.each (s2.group g).ops fun t o => t.endOpWith keep g o status

/-- An evacuation that waits for Stopped is not begun any more: the hoop faults, or runs again (R27, log entry 145). -/
def State.forgetEvacuation (s : State) (h : Nat) : State :=
  if (s.hoop h).evacuateWhenStopped then s.setHoop h { s.hoop h with evacuateWhenStopped := false } else s

/-- A hoop faults (R27, R453): the first cause stands, later ones are logged. Its pending operations are ended ST_ABORTED; their
records are still to be written, and their buffers stay held (R204). -/
def State.enterFault (s : State) (h cause unit : Nat) : State :=
  let st := s.num (Obj.hoopState h)
  if st = 0 then s
  else
    let s1 := s.raise Ev.hoopFault { hoop := h, unit := unit, detail := cause }
    if st = 6 then s1
    else
      let s2 := ((s1.setNum (Obj.hoopState h) 6).setNum (Obj.hoopFaultCause h) cause).setNum (Obj.hoopFaultDetail h) unit
      let s3 := s2.each (s2.groupsOf h) fun t g => t.abortOps g St.aborted true
      (s3.dropWaiting fun r => r.hoop == h).forgetEvacuation h

/-- The lines of a hoop's deferred queue: those of its regions of class 3 (R142, R342). -/
def State.deferredLines (s : State) (h : Nat) : List Nat :=
  ((s.classPieces h 3).flatMap fun x => s.planExtents h x.1 x.2.1 x.2.2.1 x.2.2.2).flatMap fun e =>
    (List.range (ceilDiv e.2 64)).map fun i => e.1 / 64 + i

/-- The lines that the read of one stream of the deferred queue meets and that read uncorrectable (R184; place: log entry 153). -/
def State.deferredBad (s : State) (h : Nat) (d : Nat × Nat × Nat × Nat × Bytes) : List Nat :=
  let lines := s.deferredLines h
  ((List.range (ceilDiv d.2.2.2.2.length 64)).map fun i =>
    lines.getD (Config.deferredSpot h d.2.1 d.2.2.1 d.2.2.2.1 i % max 1 lines.length) 0).filter fun l =>
      lines.contains l && s.memory.bad.contains l

/-- Bytes cut into pieces of one segment's payload, with their offsets (R256). -/
def streamPieces : Nat → Nat → Bytes → List (Nat × Bytes)
  | 0, _, _ => []
  | fuel + 1, off, b => if b = [] then [] else (off, b.take 16384) :: streamPieces fuel (off + 16384) (b.drop 16384)

/-- Send this module's retained streams of an operation again, as new VC2 segments, to the other members of each chunk's peer set
at the given sites (R343). A stream that lies on a line that reads uncorrectable faults the hoop (R184). -/
def State.resendStreams (s : State) (h g : Nat) (o : Operation) (sites : Nat) : State :=
  let p := (s.hoop h).plan
  let mine := (s.hoop h).deferred.filter fun d => d.2.1 == g && d.2.2.1 == o.seq
  match planEntry p (dPlanEntry o.desc) with
  | none => s
  | some e =>
    s.each mine fun t d =>
      let i := d.2.2.2.1
      let bytes := d.2.2.2.2
      let bad := t.deferredBad h d
      let peers := (s.peersOf h { o with side := sites } (chunkRecord p e i)).filter (· != s.ownAddress h)
      if t.num (Obj.hoopState h) = 6 then t
      else if bad ≠ [] then (t.noteBadLines bad).enterFault h 1 (t.channelOf (bad.headD 0 * 64))
      else t.each (streamPieces (bytes.length / 16384 + 1) 0 bytes) fun u piece =>
        u.each peers fun v a => v.emitTo h 2 a o.seq o.epoch (dataTail i piece.1 g) piece.2 none none

/-- The autonomous operations of a hoop that have not ended. -/
def State.autonomousLeft (s : State) (h : Nat) : Bool :=
  (s.groupsOf h).any fun g => (s.group g).ops.any fun o => o.side != 0xFFFF && o.phase == 1 && o.ending.isNone

/-- Operations that run again and have not ended. -/
def State.redoing (s : State) (h : Nat) : Bool := (s.groupsOf h).any fun g => (s.group g).redo != []

/-- The last autonomous step of a hoop. -/
def State.lastAutonomous (s : State) (h : Nat) : Nat :=
  let kept := ((s.hoop h).retained.filter fun r => r.op.side != 0xFFFF).map fun r => r.op.step
  let live := (s.groupsOf h).flatMap fun g => ((s.group g).ops.filter fun o => o.side != 0xFFFF).map Operation.step
  (kept ++ live).foldl max 0

/-- An autonomous operation that has ended joins a reconciliation (R343): its streams go out again, and its receivers are
replayed; an OuterStep only where its step is the last. -/
def State.replay (s : State) (h : Nat) (c : Reconcile) (r : Retained) : State :=
  let s1 := s.resendStreams h r.group r.op c.sides
  if s1.num (Obj.hoopState h) = 6 then s1
  else if dOpcode r.op.desc = 7 ∧ r.op.step ≠ s.lastAutonomous h then s1 else s1.runAgain r c.sides 2

/-- An operation ends while its hoop reconciles (R343). -/
def State.joinReplay (s : State) (h g : Nat) (o : Operation) : State :=
  match (s.hoop h).reconcile, (s.hoop h).retained.find? fun r => r.group == g && r.op.seq == o.seq with
  | some c, some r => if o.side ≠ 0xFFFF ∧ o.redo = 0 then s.replay h c r else s
  | _, _ => s

/-- Free the context of an operation (R60, R63). -/
def State.freeContext (s : State) (g : Nat) (o : Operation) : State :=
  let x := s.group g
  let h := s.hoopOfGroup g
  let s1 := s.setGroup g { x with ops := x.ops.filter fun y => y.seq != o.seq }
  ((s1.lower Obj.contextsInUse 1).lower (Obj.hoopContextsInUse h) 1).lower (Obj.groupInFlight g) 1

/-- An operation that completes with ST_OK advances OuterStepCounter: OuterStep, or in a plan without OuterStep the entry
marked as the step's last (R81). The end of an autonomous step is reported (R342); a replay advances nothing (R343). -/
def State.advanceStep (s : State) (g : Nat) (o : Operation) : State :=
  let h := s.hoopOfGroup g
  let p := (s.hoop h).plan
  let outer := (planEntries p).any fun e => entryOpcode e == 7
  let last := !s.isSmall g && (planEntry p (dPlanEntry o.desc)).any entryStepLast
  if o.redo ≠ 2 ∧ (dOpcode o.desc = 7 ∨ (!outer ∧ last)) then
    let s1 := (s.bump 32 (Obj.outerStepCounter h) 1).settleMatch h o.step
    if o.side ≠ 0xFFFF then s1.raise Ev.autonomousStep { hoop := h, detail := o.step } else s1
  else s

/-- A group breaks: once, with its event (R63). -/
def State.markBroken (s : State) (g : Nat) : State :=
  if s.num (Obj.groupState g) = 1 then
    (s.setNum (Obj.groupState g) 2).raise Ev.groupBroken { hoop := s.hoopOfGroup g, unit := g }
  else s

/-- Member lost for a group (R63): it breaks, and its Queued and Running operations end ST_TIMEOUT. -/
def State.breakOps (s : State) (g : Nat) : State :=
  let s1 := s.markBroken g
  s1.each (s1.group g).ops fun t o => if o.ending.isNone then t.endOp g o St.timeout else t

/-- Write the records of a group's ended operations in order, each once its predecessor is Done (R57, R63). A record or
doorbell that falls due on a queue pair not in RTS ends the operation as a lost member does (R216). -/
def State.settleOps : Nat → State → Nat → State
  | 0, s, _ => s
  | fuel + 1, s, g =>
    match (s.group g).ops with
    | [] => s
    | o :: _ =>
      match o.ending with
      | none => s
      | some status =>
        if status = St.ok ∧ !s.recordUsable g o.desc recOperationDone then
          State.settleOps fuel ((s.endOp g o St.timeout).markBroken g) g
        else
          let place := (s.chunkCount g o.desc).getD 0
          let s1 := s.writeRecord g o.desc recOperationDone 0 status none place o.done.length
          let s2 := if status = St.ok then s1.retain g o else s1
          let s3 := s2.freeContext g o
          let s4 := if status = St.ok then
              ((s3.voidOperation g o).advanceStep g o).joinReplay (s.hoopOfGroup g) g o
            else s3
          State.settleOps fuel s4 g

/-- An operation that ran again has ended: its record is written again; after a rollback it advances the step as it did
(R341, R343). -/
def State.endRedo (s : State) (g : Nat) (o : Operation) : State :=
  let status := o.ending.getD St.ok
  let chunks := (s.chunkCount g o.desc).getD 0
  let s1 := s.writeRecord g o.desc recOperationDone 0 status none chunks (if status = St.ok then chunks else o.done.length)
  let s2 := if status = St.ok ∧ o.redo = 1 then s1.retain g { o with redo := 0 } else s1
  let s3 := s2.voidOperation g o
  let x := s3.group g
  let s4 := s3.setGroup g { x with redo := x.redo.filter fun y => y.seq != o.seq }
  if status = St.ok then s4.advanceStep g o else s4

/-- Take a group's operations that ran again and have ended. -/
def State.settleRedo (s : State) (g : Nat) : State :=
  s.each ((s.group g).redo.filter fun o => o.ending.isSome) fun t o => t.endRedo g o

/-! ### Evacuation: its parts and its start (R39, R40) -/

/-- Part 1 of an evacuation (R39; layout: log entry 25): hoop, HoopEpoch, last completed outer step, ArithmeticVersion, the
hash of each slot's image, PlanHash. -/
def State.evacuationHeader (s : State) (h : Nat) : Bytes :=
  leBytes 1 h ++ leBytes 3 0 ++ leBytes 4 (s.num (Obj.hoopEpoch h)) ++
  leBytes 4 ((s.num (Obj.outerStepCounter h) + 2 ^ 32 - 1) % 2 ^ 32) ++ leBytes 4 (s.num Obj.arithmeticVersion) ++
  ((List.range 16).flatMap fun t =>
    let image := s.slotImage h t
    if image = [] then List.replicate 64 0 else imageHash image) ++
  (if s.bytes (Obj.planHash h) = [] then List.replicate 64 0 else s.bytes (Obj.planHash h))

/-- Part 2: group number, epoch and next sequence of each group of the hoop (R39). -/
def State.evacuationGroups (s : State) (h : Nat) : Bytes :=
  (s.groupsOf h).flatMap fun g =>
    leBytes 4 g ++ leBytes 4 (s.num (Obj.groupEpoch g)) ++ leBytes 4 (s.num (Obj.groupNextSequence g))

/-- The region class of parts 3, 4 and 5 (R39, R142). -/
def partClass (part : Nat) : Nat := if part = 3 then 2 else if part = 4 then 1 else 3

/-- The deferred streams of a hoop as part 5 carries them behind the class-3 regions (R39, R342; layout: log entry 25): step, group,
sequence, chunk, length, bytes of each. -/
def State.deferredBytes (s : State) (h : Nat) : Bytes :=
  (s.hoop h).deferred.flatMap fun d =>
    leBytes 4 d.1 ++ leBytes 4 d.2.1 ++ leBytes 4 d.2.2.1 ++ leBytes 4 d.2.2.2.1 ++ leBytes 4 d.2.2.2.2.length ++ d.2.2.2.2

/-- Bytes of a list of pieces. -/
def piecesLength (l : List (Nat × Nat × Nat × Nat)) : Nat := (l.map fun x => x.2.2.2).sum

/-- Nothing of the hoop can be read: the capacity rule of R31 has taken it; else the pieces with a line that reads
uncorrectable (R39, R184). -/
def State.pieceBad (s : State) (h : Nat) (x : Nat × Nat × Nat × Nat) : Bool :=
  (s.hoop h).taken || (s.planExtents h x.1 x.2.1 x.2.2.1 x.2.2.2).any s.extentBad

/-- Bytes of the manifest: length and digest of parts 1–5, count and index of each unreadable region (R39). -/
def State.manifestLength (s : State) (h : Nat) : Nat :=
  let bad := [3, 4, 5].flatMap fun k => (s.classPieces h (partClass k)).filter (s.pieceBad h)
  5 * 72 + 4 + 8 * bad.length

/-- Sum of the parts of R39. -/
def State.evacuationLength (s : State) (h : Nat) : Nat :=
  (s.evacuationHeader h).length + (s.evacuationGroups h).length +
  ([3, 4, 5].map fun k => piecesLength (s.classPieces h (partClass k))).sum + (s.deferredBytes h).length + s.manifestLength h

/-- Queue pair and lengths of an RDMA evacuation target; address of a peer (R40). -/
def targetKind (t : Bytes) : Nat := field t 0 1
def targetWord (t : Bytes) : Nat := field t 2 2

/-- The checks that Evacuate makes on its target, in order (R40). -/
def State.evacuationCheck (s : State) (h : Nat) : Nat :=
  let t := s.bytes (Obj.evacuationTarget h)
  if targetKind t = 0 then St.accessDenied
  else if targetKind t = 1 then
    if !s.rtsOf h (targetWord t) then St.accessDenied
    else if field t 16 8 < s.evacuationLength h then St.lenExceeded
    else St.ok
  else if (s.hoopSession h (targetWord t)).isNone then St.refusedNotReady
  else St.ok

/-- Begin an evacuation: the target is checked before anything is written (R40). -/
def State.beginEvacuation (s : State) (h : Nat) : State :=
  let st := s.evacuationCheck h
  let x := s.hoop h
  if st ≠ St.ok then (s.setHoop h { x with evacuateWhenStopped := false }).setNum (Obj.evacuationStatus h) st
  else
    let t := s.bytes (Obj.evacuationTarget h)
    let s1 := s.setHoop h { x with
      evacuateWhenStopped := false, evacuation := some ⟨t, targetKind t == 2⟩ }
    (s1.setNum (Obj.evacuationStatus h) St.busy).setNum (Obj.evacuationBytesWritten h) 0

/-! ### The hoop -/

/-- A hoop that drains or is Split becomes Stopped, and a deferred evacuation begins (R27). -/
def State.stopHoop (s : State) (h : Nat) : State :=
  let s1 := s.setNum (Obj.hoopState h) 4
  if (s1.hoop h).evacuateWhenStopped then s1.beginEvacuation h else s1

/-- The last in-flight operation of a Draining hoop has ended (R27). -/
def State.settleHoop (s : State) (h : Nat) : State :=
  if s.num (Obj.hoopState h) = 3 ∧ s.num (Obj.hoopContextsInUse h) = 0 then s.stopHoop h else s

/-- Take a group's ended operations as far as they go (R57). -/
def State.settleRecords (s : State) (g : Nat) : State :=
  (State.settleOps (2 * (s.group g).ops.length + 2) s g).settleRedo g

/-- Take the ended operations of every group of a hoop that has faulted (R63). -/
def State.settleFault (s : State) (h : Nat) : State :=
  if s.num (Obj.hoopState h) = 6 then s.each (s.groupsOf h) State.settleRecords else s

/-- A hoop faults, and the records of its operations are written (R27, R63, R453). -/
def State.faultHoop (s : State) (h cause unit : Nat) : State :=
  let s1 := s.enterFault h cause unit
  if s.num (Obj.hoopState h) = 6 then s1 else s1.settleFault h

/-- The hoops that a refused free of an agent makes fault do so (R202): a round for each hoop at most. -/
def State.settleFrees : Nat → State → State
  | 0, s => s
  | fuel + 1, s =>
    if s.pools.misfreed = [] then s
    else
      let s1 : State := { s with pools := { s.pools with misfreed := [] } }
      State.settleFrees fuel (s1.each s.pools.misfreed fun t x => t.faultHoop x.1 7 x.2)

/-- Every hoop that a refused free makes fault has faulted (R202). -/
def State.checkFrees (s : State) : State := State.settleFrees 17 s

/-- Free buffers that an agent of the module holds (R195, R202). -/
def State.freeAll (s : State) (h : Nat) (handles : List Nat) : State := (s.freeEach h handles).checkFrees

/-- Free the spill buffers of a landing and forget it (R96, R202). -/
def State.dropLanding (s : State) (h w gen i : Nat) : State := (s.endLanding h w gen i none).checkFrees

/-- Take a group's ended operations as far as they go, and the hoop's drain (R27, R57). A replay that faults the hoop ends the
operations of its other groups (R184, R343). -/
def State.settleGroup (s : State) (g : Nat) : State :=
  let h := s.hoopOfGroup g
  let s1 := s.settleRecords g
  let s2 := if s.num (Obj.hoopState h) = 6 then s1 else s1.settleFault h
  (s2.checkFrees).settleHoop h

/-- Break a group as a lost member does (R63). -/
def State.breakGroup (s : State) (g : Nat) : State := (s.breakOps g).settleGroup g

/-- End one operation with a status (R63). The first end decided stands, but Reform and Delete override it. -/
def State.finishOp (s : State) (g seq status : Nat) : State :=
  match s.operation g seq with
  | some o => if o.ending.isNone then (s.endOp g o status).settleGroup g else s
  | none => s

/-- Every operation of a group that holds a context ends with a status, and its record is written (R37, R63). -/
def State.abortGroup (s : State) (g status : Nat) : State := (s.abortOps g status false).settleGroup g

/-- A result write, record or doorbell of an operation cannot be made: it ends ST_TIMEOUT and its group breaks (R216). -/
def State.undeliverable (s : State) (g seq : Nat) : State := (s.markBroken g).finishOp g seq St.timeout

/-- Operations whose results, records or doorbells use queue pair q end ST_TIMEOUT, and their groups break (R216). -/
def State.qpLost (s : State) (q : Nat) : State :=
  let h := (s.qp q).hoop
  let uses (d : Bytes) : Bool := [dDestinationTarget d, dCompletionTarget d, dDoorbellTarget d].any fun t =>
    decide (t < 1024) && s.num (Obj.targetQp (targetIndex h t)) == q
  s.each ((s.groupsOf h).filter fun g => (s.group g).ops.any fun o => o.ending.isNone && uses o.desc) fun t g =>
    let t1 := t.each ((t.group g).ops.filter fun o => o.ending.isNone && uses o.desc) fun u o => u.endOp g o St.timeout
    (t1.markBroken g).settleGroup g

/-- A queue pair enters Error (R216): queued sends are discarded. -/
def State.qpError (s : State) (q cause : Nat) : State :=
  let st := s.num (Obj.qpState q)
  if st = 1 ∨ st = 2 ∨ st = 3 then
    let s1 := (s.setNum (Obj.qpState q) 4).setNum (Obj.qpErrorCause q) cause
    let s2 := s1.setQp q { s1.qp q with sent := [], inbound := none, held := false, unacked := 0, nakOpen := false }
    let s3 := s2.raise Ev.qpError { hoop := (s.qp q).hoop, die := qpDie q, unit := q, detail := cause }
    if st = 3 then s3.qpLost q else s3
  else s

/-- The hoop enters Split (R27, R342). -/
def State.enterSplit (s : State) (h : Nat) : State :=
  let st := s.num (Obj.hoopState h)
  let s1 := s.setNum (Obj.partitionState h) 3
  if st = 2 ∨ st = 3 then s1.setNum (Obj.hoopState h) 5 else s1

/-- A hoop fault (R27, R63, R453), and those that the frees of its end bring (R202). -/
def State.hoopFault (s : State) (h cause unit : Nat) : State := (s.faultHoop h cause unit).checkFrees

/-- The owner tag of a buffer names another hoop: the delivery stops and the operation's hoop faults (R202, R453). -/
def State.ownerFault (s : State) (h frame : Nat) : State :=
  (s.raise Ev.ownerTagMismatch { hoop := h, unit := frame }).hoopFault h 6 frame

/-- Write bytes into a plan buffer of a hoop once the frames' tags are checked (R202). -/
def State.deliverPlan (s : State) (h b parity off : Nat) (data : Bytes) : State :=
  match s.foreignPlan h b parity off data.length with
  | some f => s.ownerFault h f
  | none => s.writePlan h b parity off data

end Sys2Proof.Machine
end

