-- ==== Sys2Proof/Machine/DomainOps.lean ====
section
/-! DEFINITION. The hundred clock domains (R370): classes and levels (R382–R384), votes and targets (R385, R386), ceilings (R387),
sleep entry and exit (R389), large blocks (R376). -/

namespace Sys2Proof.Machine

open Sys2Proof

/-! ### Numbers (R370) -/

/-- Domain of tile t. -/
def tileDomain (t : Nat) : Nat := 8 + 7 * (t / 6) + t % 6

/-- Tile of a tile domain, if it is one. -/
def domainTile (d : Nat) : Option Nat :=
  if 8 ≤ d ∧ d < 64 ∧ (d - 8) % 7 < 6 then some ((d - 8) / 7 * 6 + (d - 8) % 7) else none

/-- G die of a die-network domain. -/
def domainNetwork (d : Nat) : Option Nat := if 8 ≤ d ∧ d < 64 ∧ (d - 8) % 7 = 6 then some ((d - 8) / 7) else none

/-- M die of a memory domain, and of a memory-manager domain. -/
def domainMemory (d : Nat) : Option Nat := if 64 ≤ d ∧ d < 80 ∧ d % 2 = 0 then some ((d - 64) / 2) else none
def domainManager (d : Nat) : Option Nat := if 64 ≤ d ∧ d < 80 ∧ d % 2 = 1 then some ((d - 64) / 2) else none

/-- The classes of R383 and R384. -/
inductive DomainClass where
  | tile | network | hubCores | memory | manager | io | fixed
deriving DecidableEq, Repr

/-- Class of a domain. -/
def classOf (d : Nat) : DomainClass :=
  if (domainTile d).isSome then .tile
  else if (domainNetwork d).isSome then .network
  else if d = 0 then .hubCores
  else if (domainMemory d).isSome then .memory
  else if (domainManager d).isSome then .manager
  else if 80 ≤ d ∧ d < 96 then .io
  else .fixed

/-- Die of a domain (R370, R396). -/
def dieOfDomain (d : Nat) : Nat :=
  if d < 8 then 0 else if d < 64 then 1 + (d - 8) / 7 else if d < 80 then 9 + (d - 64) / 2
  else if d < 84 then 17 + (d - 80) / 2 else if d < 94 then 19 + (d - 84) / 5 else if d < 96 then 21 + (d - 94)
  else if d < 98 then 23 else 24

/-- Slowest performance level of a class (R383). -/
def slowest (c : DomainClass) : Nat :=
  match c with
  | .tile => 5
  | .network => 2
  | .hubCores => 3
  | .memory => 0
  | .manager => 0
  | .io => 0
  | .fixed => 0

/-- The class offers a sleep state: 6 S1, 7 S2, 8 S3 (R384). -/
def offers (c : DomainClass) (st : Nat) : Bool :=
  match c with
  | .tile => true
  | .network => true
  | .memory => st != 8
  | .manager => st == 6
  | .io => st != 7
  | .hubCores => false
  | .fixed => false

/-- Root frequency in kHz and supply in mV of a level (R383); root and fastest clock coincide where the spec names no root. -/
def levelClock (d level : Nat) : Nat × Nat :=
  match classOf d with
  | .tile => match level with
    | 0 => (2100000, 800) | 1 => (1680000, 740) | 2 => (2100000, 650) | 3 => (1680000, 610) | 4 => (2100000, 580)
    | _ => (1200000, 550)
  | .network => match level with
    | 0 => (3200000, 800) | 1 => (2400000, 720) | _ => (3200000, 650)
  | .hubCores => match level with
    | 0 => (4000000, 850) | 1 => (3000000, 760) | 2 => (4000000, 680) | _ => (4000000, 600)
  | .memory => (1333400, 0)
  | .manager => (1000000, 0)
  | .io =>
    (if 94 ≤ d then 250000 else if d < 84 then (if d % 2 = 0 then 1562500 else 1250000)
      else match (d - 84) % 5 with
        | 0 => 976563 | 1 => 976563 | 2 => 1250000 | 3 => 1250000 | _ => 1700000, 0)
  | .fixed =>
    (match d with
      | 1 => 1000000 | 2 => 1500000 | 3 => 1000000 | 4 => 312500 | 5 => 500000 | 6 => 800000 | 7 => 200000
      | 96 => 250000 | 97 => 100000 | 98 => 400000 | _ => 50000, 0)

/-! ### Large blocks (R376) -/

/-- A lane drives an end: its pair setting places it on one (R294). -/
def State.laneEnabled (s : State) (k : Nat) : Bool := s.num (Obj.lineLaneEnd k) != 0

/-- The lane of pair i that drives in-package lane IPi, if one does (R22, R294). -/
def State.ipDriver (s : State) (i : Nat) : Option Nat :=
  [i, i + 16].find? fun k => s.laneEnabled k && s.num (Obj.lineLaneEnd k) == 1

/-- A large block is enabled (R376). -/
def State.blockEnabled (s : State) (b : LargeBlock) : Bool :=
  match b with
  | .tile t => s.num (Obj.tileOwner t) != 0xFF
  | .channel c => s.channelLive c
  | .lineLane k => s.laneEnabled k
  | .fabricLane l => s.flag (Obj.laneEnable l)
  | .ip i => (s.ipDriver i).isSome

/-- The block runs: it is enabled and its clock has run for 20 µs (R377). -/
def State.blockRuns (s : State) (b : LargeBlock) : Bool := s.blockEnabled b && s.power.running.contains b

/-- Objects of tile t that its hardware holds (R377, R473): measured states and counters. -/
def tileHardware (t : Nat) : List Nat :=
  [Obj.tileTemperatureMax t, Obj.tileChunksRun t, Obj.tileMeshBusyCycles t, Obj.tileCycles t, Obj.tileStoreCorrected t,
    Obj.tileFastDrops t, Obj.tileTrips t, Obj.tileExceptionCode t, Obj.tileExceptionPc t, Obj.tileExceptionWord t,
    Obj.tileIssueStalls t, Obj.tileImageLoads t, Obj.tileStagedLoads t, Obj.tileNarrowSaturations t, Obj.tileNanResults t]

/-- The large blocks of an F-die, L-die, P-chiplet or K-die domain (R370, R376). -/
def ioBlocks (d : Nat) : List LargeBlock :=
  if d < 84 then (List.finRange 64).filterMap fun l => if l.val / 32 = (d - 80) / 2 then some (.fabricLane l) else none
  else if d < 94 then
    (List.finRange 32).filterMap fun k =>
      let half := (d - 84) % 5
      if k.val / 16 = (d - 84) / 5 ∧ (half = 0 → k.val % 16 < 8) ∧ (half = 1 → 8 ≤ k.val % 16) then some (.lineLane k) else none
  else (List.finRange 16).filterMap fun i => if d ≥ 96 ∨ i.val / 8 = d - 94 then some (.ip i) else none

/-- Every large block of an F, L, P or K die domain is gated (R384). -/
def State.allGated (s : State) (d : Nat) : Bool := (ioBlocks d).all fun b => !s.blockEnabled b

/-! ### Votes (R385, R386) -/

/-- Level or state in force of a domain, as a code of R382. -/
def State.inForce (s : State) (d : Nat) : Nat :=
  match s.num (Obj.domainSleepState d) with
  | 4 => 6
  | 5 => 7
  | 6 => 8
  | _ => s.num (Obj.domainLevel d)

/-- Hub firmware's vote (R386). -/
def State.firmwareVote (s : State) (d : Nat) : Nat :=
  match domainNetwork d with
  | some g => ((List.range 6).map fun k => s.inForce (8 + 7 * g + k)).foldl min 8
  | none =>
    match classOf d with
    | .tile => 0xFF
    | .memory | .manager =>
      if (List.range 16).any (fun h => s.num (Obj.hoopState h) != 0) ∨ s.num Obj.lineWalesUp ≠ 0 ∨
        (List.range 32).any (fun w => s.num (Obj.waleState w) != 0) then 0 else 0xFF
    | .io => if s.allGated d then 0xFF else 0
    | .hubCores | .network => 0
    | .fixed => if (d = 96 ∨ d = 97) ∧ s.allGated d then 0xFF else 0

/-- A vote as it counts: one below the class's slowest level is that level (R383). -/
def voteCode (d v : Nat) : Nat := if v < 6 then min v (slowest (classOf d)) else v

/-- Target of a domain: the shallowest of its votes; with none, S3 where the class offers it, else PL0 (R385). -/
def State.target (s : State) (d : Nat) : Nat :=
  let votes := [s.num (Obj.domainVoteHost d), s.firmwareVote d, s.num (Obj.domainVoteHoop d), s.num (Obj.domainVoteThermal d)].filter
    (· != 0xFF)
  match votes with
  | [] => if offers (classOf d) 8 then 8 else 0
  | v :: r => voteCode d (r.foldl min v)

/-- Tile t has met the return condition of R99: its supply rises to the level without the thermal ceiling, and its divider is restored
afterwards (R391, R494). -/
def State.beginReturn (s : State) (t : Nat) : State :=
  { s with power := { s.power with returning := t :: s.power.returning.filter (· != t) } }

/-- The divider of tile t is restored (R391, R494). -/
def State.restoreDivider (s : State) (t : Nat) : State :=
  let s1 := s.setFlag (Obj.tileClockDivided t) false
  { s1 with power := { s1.power with returning := s1.power.returning.filter (· != t) } }

/-- Thermal ceiling of a tile: the level whose clock is the divided one, PL2 from PL0, PL3 from PL1 (R387); a tile that has met the
return condition takes the level without it before its divider is restored (R391). -/
def State.tileThermal (s : State) (t : Nat) : Nat :=
  if s.flag (Obj.tileClockDivided t) ∧ t ∉ s.power.returning then (if s.num (Obj.domainLevel (tileDomain t)) % 2 = 1 then 3 else 2) else 0

/-- Ceiling of a domain (R387). -/
def State.ceiling (s : State) (d : Nat) : Nat :=
  match domainTile d with
  | some t =>
    let h := s.num (Obj.tileOwner t)
    let cap := if h < 16 ∧ s.num (Obj.hoopPowerCap h) ≠ 0 then s.num (Obj.hoopCapCeiling h) else 0
    max (max (s.tileThermal t) cap) (s.num Obj.modulePowerCeiling)
  | none =>
    match classOf d with
    | .hubCores | .network => s.num (Obj.dieThermalCeiling (dieOfDomain d))
    | _ => 0

/-- The level a running domain takes: max(target, ceiling), at most its slowest (R387). -/
def State.wantedLevel (s : State) (d : Nat) : Nat := min (slowest (classOf d)) (max (s.target d) (s.ceiling d))

/-! ### Sleep (R384, R389) -/

/-- A tile has a chunk bound. -/
def State.tileBound (s : State) (t : Nat) : Bool := (s.tile t).held != []

/-- The domain may enter a state that is its target (R384). -/
def State.mayEnter (s : State) (d st : Nat) : Bool :=
  offers (classOf d) st &&
  (match domainTile d with
    | some t => st == 6 || !s.tileBound t
    | none =>
      match domainNetwork d with
      | some g => (List.range 6).all fun k => decide (st ≤ s.inForce (8 + 7 * g + k))
      | none =>
        match classOf d with
        | .manager => decide (6 ≤ s.inForce (d - 1))
        | .io => s.allGated d
        | _ => true)

/-- Set the sleep state of a domain. -/
def State.setSleep (s : State) (d x : Nat) : State := s.setNum (Obj.domainSleepState d) x

/-- An entry is abandoned (R389). -/
def State.abandonEntry (s : State) (d : Nat) : State := (s.setSleep d 0).bump 32 (Obj.domainEntryAborts d) 1

/-- A wake event (R389, R390). -/
def State.wakeDomain (s : State) (d : Nat) : State :=
  match s.num (Obj.domainSleepState d) with
  | 1 => s.abandonEntry d
  | 2 => s.abandonEntry d
  | 3 => s.abandonEntry d
  | 4 => s.setSleep d 0
  | 5 => s.setSleep d 7
  | 6 => s.setSleep d 7
  | _ => s

/-- Bring a domain in line with its votes and ceilings: objects of R397, entry and exit (R389). A level change is finished by
LEVEL_CHANGE_COMPLETE. A thermal vote while Saving leaves the domain in S1 (R395). A domain that is Off or Failed moves nowhere. -/
def State.settleDomain (s : State) (d : Nat) : State :=
  let target := s.target d
  let s1 := ((s.setNum (Obj.domainVoteFirmware d) (s.firmwareVote d)).setNum (Obj.domainTarget d) target).setNum
    (Obj.domainCeiling d) (s.ceiling d)
  if s1.num (Obj.domainState d) = 0 ∨ s1.num (Obj.domainState d) = 3 then s1 else
  match s1.num (Obj.domainSleepState d) with
  | 0 => if 6 ≤ target ∧ s1.mayEnter d target then s1.setSleep d 1 else s1
  | 1 => if target < 6 then s1.wakeDomain d else s1
  | 2 => if target < 6 then s1.wakeDomain d else if target = 6 then (s1.setSleep d 4).bump 32 (Obj.domainEntryAborts d) 1 else s1
  | 3 => if target < 7 then s1.wakeDomain d else s1
  | 4 => if target < 6 then s1.wakeDomain d
    else if target = 7 ∧ s1.mayEnter d 7 then s1.setSleep d 2
    else if target = 8 ∧ s1.mayEnter d 8 then s1.setSleep d 3
    else s1
  | 5 => if target < 7 then s1.wakeDomain d else s1
  | 6 => if target < 8 then s1.wakeDomain d else s1
  | _ => s1

/-- A tile domain, and the network that follows the six tiles of its die (R386). -/
def State.settleTileDomain (s : State) (t : Nat) : State :=
  (s.settleDomain (tileDomain t)).settleDomain (14 + 7 * (t / 6))

/-- A chunk of the hoop waits for a tile: an operation may bind one that no tile has taken (R386). -/
def State.hoopWaitsTile (s : State) (h : Nat) : Bool :=
  s.redoing h || (s.groupsOf h).any fun g => !s.isSmall g && (s.group g).ops.any fun o =>
    o.ending.isNone && decide ((s.work.chunks.filter fun c => c.group == g && c.seq == o.seq).length <
      (s.chunkCount g o.desc).getD 0)

/-- The owning hoop votes HoopTileLevel for a tile with a chunk bound (R386, R390). -/
def State.voteBound (s : State) (t : Nat) : State :=
  let h := s.num (Obj.tileOwner t)
  if h < 16 then (s.setNum (Obj.domainVoteHoop (tileDomain t)) (s.num (Obj.hoopTileLevel h))).settleTileDomain t else s

/-! ### Ownership of tiles (R26, R105, R376, R395) -/

/-- A hoop takes a tile: the tile is enabled and, unless Faulted, Idle; its domain leaves Gated (R105, R376, R386). -/
def State.ownTile (s : State) (h t : Nat) : State :=
  let d := tileDomain t
  let s1 := s.setNum (Obj.tileOwner t) h
  let s2 := if s1.num (Obj.tileState t) = 0 then s1.setNum (Obj.tileState t) 1 else s1
  let s3 := if s2.num (Obj.domainState d) = 4 then s2.setNum (Obj.domainState d) 1 else s2
  (s3.setNum (Obj.domainVoteHoop d) (s3.num (Obj.hoopTileLevel h))).settleTileDomain t

/-- A tile leaves its hoop: its store and registers are cleared, its votes withdrawn, and it is gated (R43, R154, R395). -/
def State.disownTile (s : State) (t : Nat) : State :=
  let d := tileDomain t
  let x := s.tile t
  let s1 := (s.setTile t { samples := x.samples, testing := x.testing }).setNum (Obj.tileOwner t) 0xFF
  let s2 := if s1.num (Obj.tileState t) = 5 then s1 else s1.setNum (Obj.tileState t) 0
  let s3 : State := { s2 with power := { s2.power with running := s2.power.running.filter fun b => match b with
    | .tile u => u.val != t
    | _ => true } }
  let s4 := if s3.num (Obj.domainState d) = 1 then s3.setNum (Obj.domainState d) 4 else s3
  (s4.setNum (Obj.domainVoteHoop d) 0xFF).settleTileDomain t

/-- The tiles of a mask. -/
def maskTiles (mask : Nat) : List Nat := bitList 48 mask

/-- Bring the tiles of hoop h in line with a mask. -/
def State.setTiles (s : State) (h mask : Nat) : State :=
  let old := (List.range 48).filter fun t => s.num (Obj.tileOwner t) == h
  let s1 := s.each (old.filter fun t => !bitAt mask t) State.disownTile
  s1.each ((maskTiles mask).filter fun t => !old.contains t) fun u t => u.ownTile h t

end Sys2Proof.Machine
end

