-- ==== Sys2Proof/Machine/OpticsOps.lean ====
section
/-! DEFINITION. Shared operations of the optics (chapter 15): the ends that a pair setting gives its lanes (R22, R294), when a
lane is lit (R295–R297, R305, R373), lasers and spares (R298–R301), eviction (R302). -/

namespace Sys2Proof.Machine

open Sys2Proof

/-! ### Records -/

/-- The optical side of lane k. -/
def State.optic (s : State) (k : Nat) : OpticLane := Map.get {} s.optics.lanes k

/-- The state with the optical side of a lane set. -/
def State.setOptic (s : State) (k : Nat) (x : OpticLane) : State :=
  { s with optics := { s.optics with lanes := Map.put {} s.optics.lanes k x } }

/-- A laser: n of the bank, or 32 + k for board engine k. -/
def State.laser (s : State) (n : Nat) : LaserData := Map.get {} s.optics.lasers n

/-- The state with a laser set. -/
def State.setLaser (s : State) (n : Nat) (x : LaserData) : State :=
  { s with optics := { s.optics with lasers := Map.put {} s.optics.lasers n x } }

/-- Selector positions in force of an IP lane: transmit, receive (R304). -/
def State.selectors (s : State) (i : Nat) : Nat × Nat := Map.get (0, 0) s.optics.ports i

/-- Set a number of class P (R422). -/
def State.setPNum (s : State) (k n : Nat) : State := s.setP k (.num n)

/-! ### Ends (R22, R294) -/

/-- LineLaneEnd of the low and the high lane of a pair under a setting and PairSingleEnd: 0 none, 1 IPk, 2 BEk. -/
def pairEnds (setting single : Nat) : Nat × Nat :=
  match setting with
  | 0 => (1, 2)
  | 1 => (2, 1)
  | 2 => (single + 1, 0)
  | 3 => (0, single + 1)
  | _ => (0, 0)

/-- Engine site BEk is fitted (R492). -/
def siteFitted (k : Nat) : Bool := bitAt Config.boardEngineSitesFitted.toNat k

/-- A fitted engine site's connector is present (R492: bit 16 + k). -/
def State.enginePort (s : State) (k : Nat) : Bool := bitAt (s.num Obj.opticalConnectorsPresent) (16 + k)

/-- A lane belongs to a wale (R234). -/
def State.inWale (s : State) (k : Nat) : Bool := (s.waleOf k).isSome

/-- The lane placed on IPi, if one is. -/
def State.ipLane (s : State) (i : Nat) : Option Nat := [i, i + 16].find? fun k => s.num (Obj.lineLaneEnd k) == 1

/-- The lane placed on BEi, if one is. -/
def State.engineLane (s : State) (i : Nat) : Option Nat := [i, i + 16].find? fun k => s.num (Obj.lineLaneEnd k) == 2

/-! ### Light (R295–R297, R305, R373) -/

/-- A domain is Failed (R373). -/
def State.domainFailed (s : State) (d : Nat) : Bool := s.num (Obj.domainState d) == 3

/-- A die is being reset (R472). -/
def State.dieResetting (s : State) (n : Nat) : Bool := s.boot.resetting == some (.die n)

/-- The DSP, framer or FEC domain of lane k has failed, or its die is in reset: the lane's DAC outputs are zero (R373, R472). -/
def State.laneDead (s : State) (k : Nat) : Bool :=
  let base := 84 + 5 * (k / 16)
  s.domainFailed (base + (if k % 16 < 8 then 0 else 1)) || s.domainFailed (base + 2) || s.domainFailed (base + 3) ||
    s.dieResetting (19 + k / 16)

/-- The lasers may be lit: the module is Ready and the hub's cores and fabric have not failed (R373, R464, R469). -/
def State.lasersAllowed (s : State) : Bool :=
  (s.num Obj.moduleState == 2 || s.boot.resetting == some .hub) && !s.domainFailed 0 && !s.domainFailed 1

/-- The laser that serves IPi is on (R297, R300, R373). -/
def State.ipLaserOn (s : State) (i : Nat) : Bool :=
  s.lasersAllowed && s.num (Obj.laserState (s.num (Obj.ipLaser i))) != 5 && !s.domainFailed 96 && !s.domainFailed 97 &&
    !s.dieResetting 23

/-- The receiver of lane k has a local oscillator (R297): the lane is on an end, its laser is on and not tuning. -/
def State.hasOscillator (s : State) (k : Nat) : Bool :=
  !(s.optic k).tuning && (match s.num (Obj.lineLaneEnd k) with
    | 1 => s.ipLaserOn (k % 16)
    | 2 => s.lasersAllowed && siteFitted (k % 16)
    | _ => false)

/-- Light of lane k can leave: its laser is on, its end's port has a connector, its photonic die works (R305, R373). -/
def State.portOpen (s : State) (k : Nat) : Bool :=
  match s.num (Obj.lineLaneEnd k) with
  | 1 => s.ipLaserOn (k % 16) && bitAt (s.num (Obj.ipPortsPresent (k % 16))) (s.selectors (k % 16)).1 &&
      !s.domainFailed (94 + k % 16 / 8) && !s.dieResetting (21 + k % 16 / 8)
  | 2 => s.lasersAllowed && siteFitted (k % 16) && s.enginePort (k % 16)
  | _ => false

/-- The comparator of the end that lane k drives is latched (R305): the comparators are on the P chiplets, one per IP lane. -/
def State.isTripped (s : State) (k : Nat) : Bool :=
  s.num (Obj.lineLaneEnd k) == 1 && s.optics.tripped.contains (k % 16)

/-- LineLaneOpticalState (R310). -/
def State.opticalState (s : State) (k : Nat) : Nat :=
  let x := s.optic k
  if x.evicted then 5
  else if s.num (Obj.lineLaneEnd k) = 0 then 0
  else if s.isTripped k then 4
  else if s.laneDead k || !s.portOpen k then 0
  else if x.tuning then 1
  else if x.apr then 3
  else 2

/-- Level reached by the mean of a laser's last 16 samples (R299): 0 none, 1 Warn, 2 Swap, 3 Evict. The sums of the 16 samples
are compared, so that nothing is rounded; an uncommissioned laser is not checked (R298). -/
def healthLevel (x : LaserData) (bias : Nat) (power : Int) : Nat :=
  if x.samples.length < 16 ∨ bias = 0 then 0
  else
    let b := (x.samples.map Prod.fst).foldl (· + ·) 0
    let p := (x.samples.map Prod.snd).foldl (· + ·) 0
    if p ≤ 16 * (power - 200) then 3
    else if 16 * bias * 135 ≤ b * 100 ∨ p ≤ 16 * (power - 100) then 2
    else if 16 * bias * 120 ≤ b * 100 ∨ p ≤ 16 * (power - 50) then 1
    else 0

/-- EngineState of BEk (R311). -/
def State.engineStateOf (s : State) (k : Nat) : Nat :=
  if !siteFitted k then 0
  else
    match s.engineLane k with
    | none => 1
    | some j =>
      let st := s.opticalState j
      if st = 2 ∨ st = 3 then
        2 + healthLevel (s.laser (32 + k)) (s.num (Obj.engineCommissionedBias k)) (s.int (Obj.engineCommissionedPower k))
      else 1

/-- Large blocks whose clock had run lose it when they are no longer enabled (R376, R377). -/
def State.dropGated (s : State) : State :=
  { s with power := { s.power with running := s.power.running.filter s.blockEnabled } }

/-- MapFrames of a lane mode (R291). -/
def mapFrames (mode : Nat) : Nat := if mode = 1 then 24 else 8

/-- FEC of a lane mode: 1 400ZR CFEC, 2 oFEC (R253, R269). -/
def fecOfMode (mode : Nat) : Nat := if mode = 0 then 1 else 2

/-- LineFecMode and LineMapFrames show the lane's mode (R269). -/
def State.noteFec (s : State) (k : Nat) : State :=
  let mode := s.num (Obj.lineLaneMode k)
  (s.setNum (Obj.lineFecMode k) (fecOfMode mode)).setNum (Obj.lineMapFrames k) (mapFrames mode)

/-- The lane objects of one lane: optical state, FEC, and whether its framer drives light; a lane that is enabled starts its fill
generator at all ones (R231). -/
def State.settleLane (s : State) (k : Nat) : State :=
  let on := s.num (Obj.lineLaneEnd k) != 0 && !(s.optic k).evicted && !s.laneDead k
  let x := s.lane k
  let tx : LaneTx := if on && !x.tx.enabled then { x.tx with enabled := true, fill := 0x7FFFFFFF, mapped := [] }
    else { x.tx with enabled := on }
  let s1 := if on && !x.tx.enabled then s.noteFec k else s
  (s1.setLane k { x with tx := tx }).setNum (Obj.lineLaneOpticalState k) (s.opticalState k)

/-- Bring a pair's lanes and engine in line (R294, R297, R311). -/
def State.settlePair (s : State) (k : Nat) : State :=
  let s1 := (s.settleLane k).settleLane (k + 16)
  s1.setNum (Obj.engineState k) (s1.engineStateOf k)

/-- Bring every lane in line, and the domains whose large blocks they are (R376, R386). -/
def State.settleOptics (s : State) : State :=
  let s1 := (s.each (List.range 16) State.settlePair).dropGated
  s1.each ((List.range 14).map (84 + ·)) State.settleDomain

/-- Place the lanes of pair k as its setting says (R22, R294). An evicted lane returns (R302). -/
def State.placePair (s : State) (k : Nat) : State :=
  let e := pairEnds (s.num (Obj.pairSetting k)) (s.num (Obj.pairSingleEnd k))
  let s1 := (s.setNum (Obj.lineLaneEnd k) e.1).setNum (Obj.lineLaneEnd (k + 16)) e.2
  let drop (t : State) (j : Nat) : State :=
    let x := t.optic j
    t.setOptic j { x with evicted := false, tuning := x.tuning && t.num (Obj.lineLaneEnd j) != 0 }
  (drop (drop s1 k) (k + 16)).settleOptics

/-! ### Lasers and spares (R298–R302) -/

/-- The spare that is being taken for IPi, until EV_LASER_SWAP_DONE (R300, R308). -/
def State.swapOf (s : State) (i : Nat) : Option Nat := [16, 17, 18, 19].find? fun n => (s.laser n).swapFor == some i

/-- The lowest-numbered free spare (R300). -/
def State.freeSpare (s : State) : Option Nat :=
  [16, 17, 18, 19].find? fun n => s.num (Obj.laserState n) == 0 && s.num (Obj.laserServes n) == 0xFF

/-- A swap begins for IPi (R300, steps 1 and 2): the spare is taken and tuned behind the switch. -/
def State.beginSwap (s : State) (i spare : Nat) : State :=
  let old := s.num (Obj.ipLaser i)
  let s1 := (s.setPNum (Obj.laserState old) 4).setPNum Obj.sparesFree (s.num Obj.sparesFree - 1)
  (s1.setPNum (Obj.laserServes spare) i).setLaser spare { s1.laser spare with swapFor := some i, commissioning := false }

/-- The lane on IPi is evicted. -/
def State.ipEvicted (s : State) (i : Nat) : Bool :=
  match s.ipLane i with
  | some k => (s.optic k).evicted
  | none => false

/-- Spares that are free go to the lasers in Swap pending, in ascending IP number (R300, R301). -/
def State.assignSpares (s : State) : State :=
  s.each (List.range 16) fun t i =>
    if t.num (Obj.laserState (t.num (Obj.ipLaser i))) = 3 ∧ !t.ipEvicted i then
      match t.freeSpare with
      | some n => t.beginSwap i n
      | none => t
    else t

/-- A spare that is being tuned returns to the pool (R301, R302): its lane is evicted before step 3. -/
def State.returnSpare (s : State) (i : Nat) : State :=
  match s.swapOf i with
  | some n =>
    if s.num (Obj.ipLaser i) = n then s
    else
      let s1 := (s.setPNum (Obj.laserServes n) 0xFF).setPNum Obj.sparesFree (s.num Obj.sparesFree + 1)
      s1.setLaser n { s1.laser n with swapFor := none }
  | none => s

/-- Evict a lane (R302): it leaves the transmit map, is turned dark, and stays Evicted until its PairSetting is written. A
spare being tuned for it is free again, and its laser, if it was Swapping, waits for a spare. -/
def State.evictLane (s : State) (k : Nat) : State :=
  if (s.optic k).evicted then s
  else
    let s1 := s.laneLeaves k
    let s2 := s1.setOptic k { s1.optic k with evicted := true }
    let s3 := s2.settleOptics.raise Ev.laneEvicted { die := 19 + k / 16, unit := k }
    if s3.num (Obj.lineLaneEnd k) = 1 then
      let i := k % 16
      let s4 := s3.returnSpare i
      let old := s4.num (Obj.ipLaser i)
      let s5 := if s4.num (Obj.laserState old) = 4 then s4.setPNum (Obj.laserState old) 3 else s4
      s5.assignSpares
    else s3

/-- The laser that serves IPi is retired and its lane evicted (R301). -/
def State.retireServing (s : State) (i : Nat) : State :=
  let n := s.num (Obj.ipLaser i)
  let s1 := match s.ipLane i with
    | some k => s.evictLane k
    | none => s.returnSpare i
  (s1.setPNum (Obj.laserState n) 5).settleOptics.assignSpares

/-- Swap level reached with no spare free, or the last spare lost (R301). -/
def State.noSpare (s : State) (i : Nat) : State :=
  let n := s.num (Obj.ipLaser i)
  (s.setPNum (Obj.laserState n) 3).raise Ev.laserNoSpare { die := 23, unit := n, detail := i }

end Sys2Proof.Machine
end

