-- ==== Sys2Proof/Machine/Scheduling.lean ====
section
/-! DEFINITION. Virtual channels, shaping and policing (chapter 16): selection of segments, their numbering and encryption
(R256–R259, R271, R272), the meter of R317, sampling (R320). -/

namespace Sys2Proof.Machine

open Sys2Proof

/-! ### The cipher on a segment (R271, R272) -/

/-- The IV: KeyEpoch, WaleId, SegmentCounter with bit 63 (R272). -/
def segmentIv (epoch waleId counter : Nat) : Bytes := beBytes 1 epoch ++ beBytes 3 waleId ++ beBytes 8 counter

/-- Ciphertext and tag of a payload under a header (R271); in clear mode the payload itself, authenticated (R285). -/
def sealSegment (key iv header payload : Bytes) (clear : Bool) : Bytes × Bytes :=
  if clear then (payload, (gcmSeal key iv (header ++ payload) []).2) else gcmSeal key iv header payload

/-- The 32-byte header (R256). `word` is bytes 16–19, `tail` bytes 20–29. -/
def segmentHeader (link : Bool) (vc epoch session epochTag counter length origin word : Nat) (tail : Bytes)
    (destination : Nat) : Bytes :=
  beBytes 1 (0x40 + (if link then 0x20 else 0) + vc) ++ beBytes 1 epoch ++ beBytes 1 session ++ beBytes 1 epochTag ++
  beBytes 8 counter ++ beBytes 2 length ++ beBytes 2 origin ++ beBytes 4 word ++ tail ++ beBytes 2 destination

/-- Hello and Reply travel under epoch 0 (R273, R275); every other segment under the session's transmit epoch. -/
def requestEpoch (r : EmitRequest) (x : LineSession) : Nat :=
  if r.session = 0 ∧ (beNat (r.tail.take 2) = 0x0101 ∨ beNat (r.tail.take 2) = 0x0102) then 0 else x.txEpoch

/-- A key message of session 0 (R275). -/
def isKeyMessage (r : EmitRequest) : Bool :=
  r.session == 0 && r.vc == 0 && decide (0x0101 ≤ beNat (r.tail.take 2) ∧ beNat (r.tail.take 2) ≤ 0x0303)

/-- A session is open and bound to a hoop (R277). -/
def LineSession.serves (x : LineSession) (h : Nat) : Bool := x.state == 2 && x.hoop == h

/-- The session under which a request is numbered (R273, R277): its own; a hoop's request whose session has ended goes under the session
that the hoop now has on the wale. -/
def State.sessionFor (s : State) (w : Nat) (r : EmitRequest) : Option Nat :=
  if r.session = 0 ∨ 16 ≤ r.owner then some r.session
  else if 32 < r.session then none
  else if (s.session w r.session).serves r.owner then some r.session
  else ((s.wale w).sessions.find? fun c => c.1 != 0 && c.2.serves r.owner).map Prod.fst

/-- The request may be numbered now under session n: before session 0 is Established only key messages go (R274); the session holds a
transmit key and has sent fewer than 2^32 segments under it (R278). -/
def State.sendable (s : State) (w n : Nat) (r : EmitRequest) : Bool :=
  let x := s.session w n
  (Map.get [] x.txKeys (requestEpoch r x) != []) && (s.established w || isKeyMessage r) && decide (x.sent < 2 ^ 32)

/-! ### The repeat window (R265) -/

/-- Bytes of a segment in the repeat buffer: header, ciphertext and tag. -/
def heldBytes (payload : Nat) : Nat := 32 + payload + 16

/-- The window has room for a segment of a VC: 4,096 segments and 8 MiB are kept for VC0, VC1 and VC4 (R265). -/
def State.windowRoom (s : State) (w vc payload : Nat) : Bool :=
  let bulk := vc == 2 || vc == 3
  let segments := 2 ^ 20 - (if bulk then 4096 else 0)
  let bytes := s.num (Obj.repeatShareBytes w) - (if bulk then 8 * 2 ^ 20 else 0)
  decide (s.num (Obj.repeatTxOutstanding w) < segments ∧ s.num (Obj.repeatTxBytes w) + heldBytes payload ≤ bytes)

/-- A segment of a VC waits for the window (R265): the wait is counted, and reported once per episode, which ends when that segment is
numbered. -/
def State.windowWait (s : State) (w vc : Nat) : State :=
  let v := s.wale w
  if v.tx.windowFull.contains vc then s
  else
    let s1 := (s.setWale w { v with tx := { v.tx with windowFull := vc :: v.tx.windowFull } }).bump 64 (Obj.repeatWindowFullWaits w) 1
    if v.tx.windowFull = [] then s1.raise Ev.repeatWindowFull { unit := w } else s1

/-- A rekey of a session direction is due (R278): Offered with a new ML-KEM key pair, RekeyOffer sent (R279). In Dual the
rekey waits until Steady. -/
def State.rekeyDue (s : State) (w n : Nat) : State :=
  let x := s.session w n
  if x.state ≠ 2 then s
  else if x.phase = 0 then
    let seed := s.freeNat 256
    let s1 := s.tookFree.setSession w n { x with phase := 1, offer := seed, rekeyDue := false }
    s1.sendKey w 0x0301 n (nextEpoch x.txEpoch) 0 (leBytes 1568 (Config.mlKemPublic seed).toNat)
  else if x.phase = 2 then s.setSession w n { x with rekeyDue := true }
  else s

/-! ### Acceptance (R260) -/

/-- A sequence number inserted in the list of those accepted, which rises from Cumulative. -/
def insertAccepted (c q : Nat) : List Nat → List Nat
  | [] => [q]
  | a :: r => if q = a then a :: r else if seqDist c q < seqDist c a then q :: a :: r else a :: insertAccepted c q r

/-- Cumulative moves past every contiguous accepted number (R260). -/
def passAccepted (c : Nat) : List Nat → Nat × List Nat
  | [] => (c, [])
  | a :: r => if a = c then passAccepted ((c + 1) % 2 ^ 32) r else (c, a :: r)

/-- The segment with a SegmentCounter is accepted on wale w (R260, R261). -/
def State.accept (s : State) (w counter : Nat) : State :=
  let v := s.wale w
  let c := s.num (Obj.repeatRxCumulative w)
  let r := passAccepted c (insertAccepted c (counter % 2 ^ 32) v.rx.accepted)
  (s.setWale w { v with rx := { v.rx with
    accepted := r.2, anyAccepted := true, echoCounter := counter, echoTime := s.now } }).setNum (Obj.repeatRxCumulative w) r.1

/-! ### Sending -/

/-- A transit segment that stands in the repeat buffer is acknowledged where it came from (R256). -/
def State.acceptTransit (s : State) (r : EmitRequest) : State :=
  match r.transit with
  | some (w, counter) => s.accept w counter
  | none => s

/-- The checks of the transmit path (R286) on `payload` bytes under session n: the CRC-32 of the payload that the mode requires, formed
by an XOR of its own, against that of the payload that leaves; in encrypted mode no 16-byte keystream block is all zero, the block of
a final partial block taken whole. -/
def State.cipherFault (s : State) (w n epoch counter : Nat) (header payload : Bytes) : Bool :=
  let x := s.session w n
  let key := Map.get [] x.txKeys epoch
  let iv := segmentIv epoch (s.num (Obj.waleIdentity w)) counter
  let blocks := ceilDiv payload.length 16
  let stream := keystream key iv blocks
  let required := if x.clear then payload else List.zipWith (· ^^^ ·) payload stream
  crc32 required != crc32 (sealSegment key iv header payload x.clear).1 ||
  (!x.clear && (List.range blocks).any fun i => (slice stream (16 * i) 16).all (· == 0))

/-- The header that a request takes as the next data segment of wale w under session n (R256, R258): a transit segment of VC1–VC3 keeps
bytes 16–19, VC0 and VC4 take the wale's VcSequence (log entry 157). -/
def State.requestHeader (s : State) (w n : Nat) (r : EmitRequest) : Bytes :=
  let tx := (s.wale w).tx
  let word := if r.vc = 0 then tx.vcSequence0 else if r.vc = 4 then tx.vcSequence4 else r.opSequence
  segmentHeader false r.vc (requestEpoch r (s.session w n)) n r.epochTag (s.num (Obj.repeatTxNext w)) r.payload.length r.origin word
    r.tail r.destination

/-- The check on the segment that a request would become (R286). -/
def State.requestFault (s : State) (w n : Nat) (r : EmitRequest) : Bool :=
  s.cipherFault w n (requestEpoch r (s.session w n)) (s.num (Obj.repeatTxNext w)) (s.requestHeader w n r) r.payload

/-- A failed check (R286): the segment is not sent and stays where it waits, and the lane sends AIS. The spec does not say which
of the lanes in the transmit map the segment would have left by: a free value chooses it (log entry 135). -/
def State.pathFault (s : State) (w : Nat) : State :=
  let lanes := s.mapLanes w
  let k := lanes[s.freeNat 5 % max 1 lanes.length]?.getD 0
  let s1 := if lanes = [] then s else s.tookFree.setAis k .path true
  (s1.bump 32 Obj.lineCipherPathFaults 1).raise Ev.cipherPathFault { die := 19 + k / 16, unit := k }

/-- A segment more has been sent under a session's key (R278): the rekey starts at LineRekeySegments, the hard limit is 2^32. -/
def State.countSent (s : State) (w n : Nat) : State :=
  let x := s.session w n
  let s1 := s.setSession w n { x with sent := x.sent + 1 }
  let s2 := if s.num Obj.lineRekeySegments ≤ x.sent + 1 ∧ !x.rekeyDue then s1.rekeyDue w n else s1
  if x.sent + 1 = 2 ^ 32 then s2.raise Ev.rekeyOverdue { unit := w, detail := n } else s2

/-- Number a request under session n, encrypt it, hold it in the repeat buffer and place it on its path (R237, R259). -/
def State.sendRequest (s : State) (w n : Nat) (r : EmitRequest) : State :=
  let v := s.wale w
  let x := s.session w n
  let epoch := requestEpoch r x
  let counter := s.num (Obj.repeatTxNext w)
  let header := s.requestHeader w n r
  let c := sealSegment (Map.get [] x.txKeys epoch) (segmentIv epoch (s.num (Obj.waleIdentity w)) counter) header r.payload x.clear
  let bulk := r.vc == 2 || r.vc == 3
  let held : HeldSegment := ⟨counter, r.vc, n, epoch, header, c.1, c.2, s.now, 0, bulk⟩
  let out : OutSegment := ⟨r.vc, some counter, header ++ c.1 ++ c.2⟩
  let tx : WaleTx := { v.tx with
    outstanding := v.tx.outstanding ++ [held], queue := v.tx.queue.erase r, windowFull := v.tx.windowFull.erase r.vc,
    vcSequence0 := if r.vc = 0 then (v.tx.vcSequence0 + 1) % 2 ^ 32 else v.tx.vcSequence0,
    vcSequence4 := if r.vc = 4 then (v.tx.vcSequence4 + 1) % 2 ^ 32 else v.tx.vcSequence4,
    fixed := if bulk then v.tx.fixed else v.tx.fixed ++ [out],
    stream := if bulk then v.tx.stream ++ [out] else v.tx.stream }
  let s0 := s.writeMirrored .repeatBuffer w counter (heldBytes r.payload.length)
  let s1 := ((s0.setWale w { v with tx := tx }).countSent w n).acceptTransit r
  ((s1.setNum (Obj.repeatTxNext w) (counter + 1)).bump 32 (Obj.repeatTxOutstanding w) 1).bump 64
    (Obj.repeatTxBytes w) (heldBytes r.payload.length)

/-- Queue a resend ahead of the segments that wait for their first transmission (R259). -/
def WaleTx.insertResend (tx : WaleTx) (out : OutSegment) (l : List OutSegment) : List OutSegment :=
  let fresh (o : OutSegment) : Bool := tx.outstanding.any fun y => o.counter == some y.counter && y.times == 0
  l.takeWhile (!fresh ·) ++ out :: l.dropWhile (!fresh ·)

/-- Resend the copy of an outstanding segment unchanged, by the same path (R259); the send time and n follow when it leaves (R264). -/
def State.resendSegment (s : State) (w : Nat) (x : HeldSegment) : State :=
  let v := s.wale w
  let out : OutSegment := ⟨x.vc, some x.counter, x.header ++ x.body ++ x.tag⟩
  let tx : WaleTx := { v.tx with
    resend := v.tx.resend.filter (· != x.counter),
    fixed := if x.concatenated then v.tx.fixed else v.tx.insertResend out v.tx.fixed,
    stream := if x.concatenated then v.tx.insertResend out v.tx.stream else v.tx.stream }
  s.setWale w { v with tx := tx }

/-! ### Building a SACK (R261, R262) -/

/-- Runs of a list of numbers that rise from a Cumulative: first and end, exclusive (R261). -/
def runsOf : List Nat → List (Nat × Nat)
  | [] => []
  | q :: r =>
    match runsOf r with
    | (a, b) :: t => if (q + 1) % 2 ^ 32 = a then (q, b) :: t else (q, (q + 1) % 2 ^ 32) :: (a, b) :: t
    | [] => [(q, (q + 1) % 2 ^ 32)]

/-- Bytes of a list of runs (R261). -/
def runBytes (l : List (Nat × Nat)) : Bytes := l.flatMap fun r => beBytes 4 r.1 ++ beBytes 4 r.2

/-- The payload of a SACK of a wale's receive direction (R261). -/
def State.sackPayload (s : State) (w : Nat) : Bytes :=
  let rx := (s.wale w).rx
  let c := s.num (Obj.repeatRxCumulative w)
  let ranges := (runsOf rx.accepted).take 32
  let requests := rx.requests.take 32
  beBytes 4 c ++ beBytes 4 (rx.accepted.getLast?.getD (c + 2 ^ 32 - 1)) ++ beBytes 8 rx.echoCounter ++
  beBytes 4 (s.now - rx.echoTime) ++ beBytes 1 ranges.length ++ beBytes 1 requests.length ++ beBytes 2 0 ++
  runBytes ranges ++ runBytes requests

/-- A SACK has been sent (R261): the runs it lists are dropped from the Request list. -/
def State.sackSent (s : State) (w : Nat) : State :=
  let v := s.wale w
  (s.setWale w { v with rx := { v.rx with requests := v.rx.requests.drop 32 } }).bump 64 (Obj.repeatRxRequestsSent w)
    ((v.rx.requests.take 32).foldl (fun n r => n + seqDist r.1 r.2) 0)

/-- Send the oldest link message on VC0 (R258, R261): numbered in its own space, never held; it waits while session 0 has sent 2^32
segments under its key (R278). -/
def State.sendLink (s : State) (w kind : Nat) (message : Bytes) : State :=
  let v := s.wale w
  let x := s.session w 0
  let counter := 2 ^ 63 + v.tx.linkCount
  let payload := if kind = 0x01 then s.sackPayload w else message
  let header := segmentHeader true 0 x.txEpoch 0 0 counter payload.length 0 kind (List.replicate 10 0) 0
  if 2 ^ 32 ≤ x.sent then s
  else if s.cipherFault w 0 x.txEpoch counter header payload then s.pathFault w
  else
    let c := sealSegment (Map.get [] x.txKeys x.txEpoch) (segmentIv x.txEpoch (s.num (Obj.waleIdentity w)) counter) header payload false
    let s1 := s.setWale w { v with tx := { v.tx with
      links := v.tx.links.drop 1, linkCount := v.tx.linkCount + 1, fixed := v.tx.fixed ++ [⟨0, none, header ++ c.1 ++ c.2⟩] } }
    let s2 := s1.countSent w 0
    if kind = 0x01 then s2.sackSent w else s2

/-! ### Policing (R317, R318) -/

/-- The hoop's meter filled up to now: counts in units of 10^−9 byte (R317). -/
def State.meterNow (s : State) (h : Nat) : Meter :=
  let m := Map.get {} s.line.meters h
  let dt := s.now - m.filled
  { tc := min (s.num (Obj.hoopCbs h) * 1000000000) (m.tc + s.num (Obj.hoopCir h) * dt),
    tp := min (s.num (Obj.hoopPbs h) * 1000000000) (m.tp + s.num (Obj.hoopPir h) * dt), filled := s.now }

/-- Colours of R317. -/
inductive Colour where
  | green | yellow | red
deriving DecidableEq, Repr

/-- Colour of a request at the head of its queue (R317): evaluated without changing the meter. -/
def State.colour (s : State) (r : EmitRequest) : Colour :=
  if r.owner < 16 ∧ (r.vc = 2 ∨ r.vc = 3) ∧ s.flag (Obj.hoopPolicerEnable r.owner) then
    let m := s.meterNow r.owner
    let b := heldBytes r.payload.length * 1000000000
    if m.tp < b then .red else if m.tc < b then .yellow else .green
  else .green

/-- Charge the meter for a chosen segment (R317) and count its bytes by colour (R323). -/
def State.chargeMeter (s : State) (r : EmitRequest) : State :=
  if r.owner < 16 ∧ (r.vc = 2 ∨ r.vc = 3) then
    let b := heldBytes r.payload.length
    let c := s.colour r
    let s1 := if s.flag (Obj.hoopPolicerEnable r.owner) then
        let m := s.meterNow r.owner
        let m' : Meter := match c with
          | .green => { m with tc := m.tc - b * 1000000000, tp := m.tp - b * 1000000000 }
          | .yellow => { m with tp := m.tp - b * 1000000000 }
          | .red => m
        { s with line := { s.line with meters := Map.put {} s.line.meters r.owner m' } }
      else s
    match c with
    | .green => s1.bump 64 (Obj.hoopGreenBytes r.owner) b
    | .yellow => s1.bump 64 (Obj.hoopYellowBytes r.owner) b
    | .red => s1
  else s

/-! ### pick (R316) -/

/-- Weight of an owner on a VC (R316). -/
def State.ownerWeight (s : State) (o vc : Nat) : Nat :=
  if vc = 0 ∨ vc = 4 then 1
  else if o = 16 then s.num Obj.schedTransitWeight
  else if vc = 1 then s.num (Obj.hoopVc1Weight o)
  else if vc = 2 then s.num (Obj.hoopVc2Weight o)
  else s.num (Obj.hoopVc3Weight o)

/-- Head of an owner's queue on a VC, with its session, if it may be numbered now (R312): the first whose session has not ended. -/
def State.headOf (s : State) (w o vc : Nat) : Option (EmitRequest × Nat) :=
  let live := (s.wale w).tx.queue.findSome? fun r =>
    if r.owner == o && r.vc == vc then (s.sessionFor w r).map fun n => (r, n) else none
  live.filter fun c => s.sendable w c.2 c.1

/-- The owners in cyclic order from a pointer (R316). -/
def cyclic (p : Nat) : List Nat := (List.range 17).map fun i => (p + i) % 17

/-- What pick answers (R316): owner, the head of its queue and the session it goes under, and the credits after the choice. -/
structure Pick where
  owner : Nat
  request : EmitRequest
  session : Nat
  credit : Map Nat
deriving DecidableEq, Repr

/-- One pass of pick for a colour: the first owner from the pointer whose head has the colour and whose credit is above 0,
every credit refilled when none has one left (R316). -/
def State.pickPass (s : State) (w vc : Nat) (c : Colour) : Option Pick :=
  let tx := (s.wale w).tx
  let heads := (cyclic (Map.get 0 tx.pointer vc)).filterMap fun o =>
    match s.headOf w o vc with
    | some r => if s.colour r.1 = c then some (o, r) else none
    | none => none
  let credit (o : Nat) : Nat := Map.get 0 tx.credit (17 * vc + o)
  match heads.find? (fun h => decide (0 < credit h.1)) with
  | some h => some ⟨h.1, h.2.1, h.2.2, Map.put 0 tx.credit (17 * vc + h.1) (credit h.1 - 1)⟩
  | none =>
    match heads with
    | [] => none
    | h :: _ =>
      let full := (List.range 17).foldl (fun m o => Map.put 0 m (17 * vc + o) (s.ownerWeight o vc)) tx.credit
      some ⟨h.1, h.2.1, h.2.2, Map.put 0 full (17 * vc + h.1) (s.ownerWeight h.1 vc - 1)⟩

/-- The owner's turn taken: credits, and the pointer past an owner whose credit is spent (R316). -/
def State.tookTurn (s : State) (w vc o : Nat) (credit : Map Nat) : State :=
  let v := s.wale w
  let p := if Map.get 0 credit (17 * vc + o) = 0 then Map.put 0 v.tx.pointer vc ((o + 1) % 17) else v.tx.pointer
  s.setWale w { v with tx := { v.tx with credit := credit, pointer := p } }

/-- The owner queue that pick takes: green heads first, then yellow (R316, R318). -/
def State.pickOwner (s : State) (w vc : Nat) : Option Pick :=
  match s.pickPass w vc .green with
  | some x => some x
  | none => s.pickPass w vc .yellow

/-- Red heads are held: HoopRedHolds counts once per hold (R318). -/
def State.holdRed (s : State) (w vc : Nat) : State :=
  s.each (List.range 16) fun t o =>
    match t.headOf w o vc with
    | some (r, _) =>
      if t.colour r = .red ∧ !r.redHold then
        let v := t.wale w
        let q := v.tx.queue.map fun y => if y = r then { y with redHold := true } else y
        (t.setWale w { v with tx := { v.tx with queue := q } }).bump 64 (Obj.hoopRedHolds o) 1
      else t
    | none => t

/-- The outstanding segment at the head of a VC's resend queue (R259). -/
def State.resendHead (s : State) (w vc : Nat) : Option HeldSegment :=
  let tx := (s.wale w).tx
  tx.resend.findSome? fun q => tx.outstanding.find? fun x => x.counter == q && x.vc == vc

/-! ### Fixed VCs (R313) -/

/-- Take one fixed-VC segment of a VC if one is ready: its resend queue, then its owner queues (R313). -/
def State.selectFixed (s : State) (w vc : Nat) : Option State :=
  match s.resendHead w vc with
  | some x => some (s.resendSegment w x)
  | none =>
    match s.pickOwner w vc with
    | none => none
    | some p =>
      if s.windowRoom w vc p.request.payload.length then
        some (if s.requestFault w p.session p.request then s.pathFault w
          else (s.tookTurn w vc p.owner p.credit).sendRequest w p.session p.request)
      else some (s.windowWait w vc)

/-- FIXED_VC_SELECT (R313): VC0 with link messages first, then VC1, then VC4. A direction that is Lost carries what its establishment
needs (R266, R274); the link messages of a Dark wale wait (R266). -/
def execFixedVcSelect (w : Wale) (s : State) : Host.Outcome State Fault Refusal :=
  if s.num (Obj.repeatState w) = 0 ∨ s.num (Obj.repeatState w) = 3 ∧ s.num (Obj.lineSession0State w) = 0 then .next s
  else
    match s.established w && s.num (Obj.waleState w) != 4, (s.wale w).tx.links with
    | true, (kind, payload) :: _ => .next (s.sendLink w kind payload)
    | _, _ =>
      match s.selectFixed w 0 with
      | some t => .next t
      | none =>
        match s.selectFixed w 1 with
        | some t => .next t
        | none => .next ((s.selectFixed w 4).getD s)

/-! ### The concatenated stream (R314, R315) -/

/-- Charge of a segment on the concatenated stream: L + WaleChargeOverhead (R314). -/
def State.streamCharge (s : State) (w bytes : Nat) : Nat := bytes + s.num (Obj.waleChargeOverhead w)

/-- Deficit of VC2 or VC3 (WaleDeficits, R322). -/
def State.deficit (s : State) (w vc : Nat) : Nat :=
  let d := s.num (Obj.waleDeficits w)
  if vc = 2 then d / 2 ^ 32 else d % 2 ^ 32

/-- Set the deficit of VC2 or VC3. -/
def State.setDeficit (s : State) (w vc n : Nat) : State :=
  s.setNum (Obj.waleDeficits w) (if vc = 2 then n * 2 ^ 32 + s.deficit w 3 else s.deficit w 2 * 2 ^ 32 + n)

/-- quantum[v] = weight[v] × 16,464 (R315). -/
def State.quantum (s : State) (w vc : Nat) : Nat :=
  16464 * (if vc = 2 then s.num (Obj.waleVc2Weight w) else s.num (Obj.waleVc3Weight w))

/-- What pick offers on a bulk VC: a resend, or an owner's head (R316). -/
inductive BulkPick where
  | resend (x : HeldSegment)
  | fresh (p : Pick)
deriving DecidableEq, Repr

/-- pick(w, v) (R316). -/
def State.pickBulk (s : State) (w vc : Nat) : Option BulkPick :=
  match s.resendHead w vc with
  | some x => some (.resend x)
  | none => (s.pickOwner w vc).map .fresh

/-- Bytes L of a pick: header, payload, tag. -/
def BulkPick.bytes : BulkPick → Nat
  | .resend x => heldBytes x.body.length
  | .fresh p => heldBytes p.request.payload.length

/-- The next VC's turn (R315). -/
def State.nextTurn (s : State) (w : Nat) : State :=
  let v := s.wale w
  s.setWale w { v with tx := { v.tx with turn := 5 - v.tx.turn, visiting := false } }

/-- Send a bulk pick and take its charge from the deficit (R314, R315). -/
def State.sendBulk (s : State) (w vc : Nat) (p : BulkPick) : State :=
  let charge := s.streamCharge w p.bytes
  let s1 := s.setDeficit w vc (s.deficit w vc - charge)
  let s2 := s1.bump 64 (if vc = 2 then Obj.waleChargeVc2 w else Obj.waleChargeVc3 w) charge
  match p with
  | .resend x => s2.resendSegment w x
  | .fresh p => ((s2.tookTurn w vc p.owner p.credit).chargeMeter p.request).sendRequest w p.session p.request

/-- Deficit round robin until a segment is sent or no VC has one (R315): a visit adds the quantum, sends while the deficit
covers the charge, and a VC without an eligible segment loses its deficit. -/
def State.drr : Nat → State → Nat → State
  | 0, s, _ => s
  | fuel + 1, s, w =>
    let vc := (s.wale w).tx.turn
    let s1 := if (s.wale w).tx.visiting then s
      else
        let v := s.wale w
        (s.setWale w { v with tx := { v.tx with visiting := true } }).setDeficit w vc (s.deficit w vc + s.quantum w vc)
    match s1.pickBulk w vc with
    | none => drr fuel (((s1.holdRed w vc).setDeficit w vc 0).nextTurn w) w
    | some p =>
      if s1.streamCharge w p.bytes ≤ s1.deficit w vc then
        match p with
        | .resend _ => s1.sendBulk w vc p
        | .fresh c =>
          if s1.windowRoom w vc c.request.payload.length then
            (if s1.requestFault w c.session c.request then s1.pathFault w else s1.sendBulk w vc p)
          else s1.windowWait w vc
      else drr fuel (s1.nextTurn w) w

/-- BULK_STREAM_SELECT (R315): the stream has room and one VC2 or VC3 segment is chosen. Two rounds reach a segment when
there is one, since a quantum covers any charge but the overhead's excess. -/
def execBulkStreamSelect (w : Wale) (s : State) : Host.Outcome State Fault Refusal :=
  if s.num (Obj.repeatState w) = 0 ∨ s.num (Obj.repeatState w) = 3 then .next s else .next (State.drr 8 s w)

/-! ### Sampling (R320) -/

/-- floor(log2 n) + 1 for n ≥ 1, at most 15 (R320). -/
def logBin (n : Nat) : Nat := min 15 (n.log2 + 1)

/-- Bin of a depth reading (R320). -/
def depthBin (n : Nat) : Nat := if n = 0 then 0 else logBin n

/-- Bin of a head delay of d µs in a queue that is not empty (R320). -/
def delayBin (d : Nat) : Nat := logBin (d + 1)

/-- Add one reading to bin b of a histogram: a saturating u64 counter (R320). -/
def addBin (h : Map Nat) (b : Nat) : Map Nat := Map.put 0 h b (min (2 ^ 64 - 1) (Map.get 0 h b + 1))

/-- Histogram key of an owner's VC, or of a wale's VC. -/
def ownerHist (o vc : Nat) : Nat := 8 * o + vc
def waleHist (w vc : Nat) : Nat := 8 * (32 + w) + vc

/-- Sample one queue of R312: both readings go into the owner's and the wale's histograms (R320). -/
def State.sampleQueue (s : State) (w o vc : Nat) : State :=
  let q := (s.wale w).tx.queue.filter fun r => r.owner == o && r.vc == vc
  let delay := match q with
    | [] => 0
    | r :: _ => (s.now - r.entered) / 1000
  let bin := match q with
    | [] => 0
    | _ :: _ => delayBin delay
  let add (h : Map (Map Nat)) (k : Nat) : Map (Map Nat) :=
    Map.put [] h k (addBin (addBin (Map.get [] h k) (depthBin q.length)) (16 + bin))
  let s1 := { s with line := { s.line with histograms := add (add s.line.histograms (ownerHist o vc)) (waleHist w vc) } }
  s1.setNum (Obj.hoopQueueDelayMax o) (max (s1.num (Obj.hoopQueueDelayMax o)) delay)

/-- QUEUE_SAMPLE (R320): every queue of every wale is sampled, unless frozen. -/
def execQueueSample (s : State) : Host.Outcome State Fault Refusal :=
  if s.num Obj.schedSampleState = 1 then .next s
  else
    let s1 := s.each ((List.range 32).filter fun w => s.num (Obj.waleState w) != 0) fun t w =>
      t.each (List.range 17) fun t o => t.each (List.range 5) fun t vc => t.sampleQueue w o vc
    .next (s1.bump 64 Obj.schedSamplesTaken 1)

/-- SchedSampleCommand Clear: every histogram is zeroed (R320). -/
def clearSamples : Effect := fun s =>
  let s1 : State := { s with line := { s.line with histograms := [] } }
  let s2 := s1.each (List.range 17) fun t h => t.setNum (Obj.hoopQueueDelayMax h) 0
  (s2.setNum Obj.schedSamplesTaken 0, St.ok)

/-- SAMPLE_CLEAR (R320). -/
def execSampleClear (rq : Requester) (s : State) : Host.Outcome State Fault Refusal :=
  .next (s.request rq Obj.schedSampleCommand (.num 1) none clearSamples)

/-- SAMPLE_FREEZE (R320). -/
def execSampleFreeze (rq : Requester) (s : State) : Host.Outcome State Fault Refusal :=
  .next (s.request rq Obj.schedSampleCommand (.num 2) none fun t => (t.setNum Obj.schedSampleState 1, St.ok))

/-- SAMPLE_RUN (R320). -/
def execSampleRun (rq : Requester) (s : State) : Host.Outcome State Fault Refusal :=
  .next (s.request rq Obj.schedSampleCommand (.num 3) none fun t => (t.setNum Obj.schedSampleState 0, St.ok))

/-! ### POLICER_WRITE (R317, R321) -/

/-- The meter parameters allow the meter to run (R317). -/
def State.meterSound (s : State) (h : Nat) : Bool :=
  decide (s.num (Obj.hoopCir h) ≤ s.num (Obj.hoopPir h) ∧ s.num (Obj.hoopPir h) ≤ 1600000000000 ∧
    16432 ≤ s.num (Obj.hoopCbs h) ∧ s.num (Obj.hoopCbs h) ≤ 2 ^ 31 ∧
    16432 ≤ s.num (Obj.hoopPbs h) ∧ s.num (Obj.hoopPbs h) ≤ 2 ^ 31)

/-- A write of HoopPolicerEnable or of a meter parameter (subs 4–8): checked while the meter is or becomes enabled, and the
token counts are set to HoopCbs and HoopPbs (R317, R321). -/
def policerEffect (h sub value : Nat) : Effect := fun s =>
  let s1 := (plainWrite (linearKey 0x9040 sub h) (.num value) s).1
  if s1.flag (Obj.hoopPolicerEnable h) ∧ !s1.meterSound h then (s, St.accessDenied)
  else
    let full : Meter := ⟨s1.num (Obj.hoopCbs h) * 1000000000, s1.num (Obj.hoopPbs h) * 1000000000, s1.now⟩
    ({ s1 with line := { s1.line with meters := Map.put {} s1.line.meters h full } }, St.ok)

/-- POLICER_WRITE (R317): object is the subindex written, 4 HoopPolicerEnable to 8 HoopPbs. -/
def execPolicerWrite (rq : Requester) (h : Hoop) (object : BitVec 8) (value : BitVec 64) (s : State) :
    Host.Outcome State Fault Refusal :=
  if 4 ≤ object.toNat ∧ object.toNat ≤ 8 then
    .next (s.request rq (linearKey 0x9040 object.toNat h) (.num value.toNat) none (policerEffect h object.toNat value.toNat))
  else .next (s.answer rq St.accessDenied 0 0 [])

end Sys2Proof.Machine
end

