-- ==== Sys2Proof/Machine/Repeat.lean ====
section
/-! DEFINITION. Line coding and selective repeat (chapter 13): FEC lock and bit error ratio (R254, R255), SACKs (R261–R264),
outages (R266), and the retiring of key epochs that acknowledgements allow (R279). -/

namespace Sys2Proof.Machine

open Sys2Proof

/-! ### FEC (R253–R255) -/

/-- FEC_LOCK (R254): frame lock, and frame starts are marked from here on. -/
def execFecLock (k : Lane) (s : State) : Host.Outcome State Fault Refusal :=
  .next ((s.setFlag (Obj.lineFecLocked k) true).noteFec k)

/-- FEC lock is lost (R254, R255): no byte carries a mark until the next lock; the loss is counted. -/
def State.loseFec (s : State) (k : Nat) : State :=
  if s.flag (Obj.lineFecLocked k) then (s.setFlag (Obj.lineFecLocked k) false).bump 32 (Obj.lineFecLockLosses k) 1 else s

/-- FEC_LOCK_LOSS (R254, R255). -/
def execFecLockLoss (k : Lane) (s : State) : Host.Outcome State Fault Refusal := .next (s.loseFec k)

/-- FEC_BER_EVALUATION (R255): the second's counts, the ratio in units of 10^−9, and the two 10-second runs that raise
EV_FEC_DEGRADED once and allow it again. With OpticsEvictOnFecDegrade a lane on which it stands is evicted (R302). -/
def execFecBerEvaluation (k : Lane) (correctedBits uncorrectable ber : Nat) (s : State) : Host.Outcome State Fault Refusal :=
  let s1 := ((s.bump 64 (Obj.lineFecCorrectedBits k) correctedBits).bump 64 (Obj.lineFecUncorrectable k) uncorrectable).setNum
    (Obj.lineFecPreBer k) (ber % 2 ^ 32)
  let x := s1.lane k
  let limit := s1.num (Obj.lineFecDegradeThreshold k)
  let above := if limit < ber then x.degradedSeconds + 1 else 0
  let below := if ber < limit then x.goodSeconds + 1 else 0
  let raised := decide (10 ≤ above) && !x.degraded
  let s2 := s1.setLane k { x with
    degradedSeconds := above, goodSeconds := below, degraded := (x.degraded || raised) && !decide (10 ≤ below) }
  let s3 := if raised then s2.raise Ev.fecDegraded { die := 19 + k / 16, unit := k } else s2
  .next (if (s3.lane k).degraded ∧ s3.flag Obj.opticsEvictOnFecDegrade ∧ s3.num (Obj.lineLaneEnd k) ≠ 0 then s3.evictLane k else s3)

/-! ### Sending SACKs (R261, R262) -/

/-- A SACK waits for its slot (R261): a link message of type 0x01, built when it is sent; one that waits already serves. -/
def State.sendSack (s : State) (w : Nat) : State :=
  let v := s.wale w
  if v.tx.links.contains (0x01, []) then s
  else s.setWale w { v with tx := { v.tx with links := v.tx.links ++ [(0x01, [])] } }

/-- PERIODIC_SACK (R262): every RepeatSackInterval once session 0 is Established (R274). -/
def execPeriodicSack (w : Wale) (s : State) : Host.Outcome State Fault Refusal :=
  if s.established w then .next (s.sendSack w) else .next s

/-- REQUESTED_SACK (R262): the Request list has its first entry; no more than one extra SACK in any 5 µs. -/
def execRequestedSack (w : Wale) (s : State) : Host.Outcome State Fault Refusal :=
  let v := s.wale w
  let free := match v.rx.lastExtraSack with
    | some t => decide (t + 5000 ≤ s.now)
    | none => true
  if s.established w && v.rx.requests != [] && free then
    .next ((s.setWale w { v with rx := { v.rx with lastExtraSack := some s.now } }).sendSack w)
  else .next s

/-! ### Timers (R263, R264) -/

/-- reorder_margin in nanoseconds (R263). -/
def State.reorderMargin (s : State) : Nat :=
  1000 * max (s.num Obj.repeatReorderMargin) (s.num Obj.lineSkewLimit + 50)

/-- timeout of a wale in nanoseconds (R263). -/
def State.repeatTimeoutNs (s : State) (w : Nat) : Nat :=
  let tx := (s.wale w).tx
  if tx.sampled then
    (max 100000 (tx.srtt + 4 * tx.rttvar + (1000 * s.num Obj.repeatSackInterval : Nat) + (s.reorderMargin : Nat))).toNat
  else 1000 * s.num Obj.repeatInitialTimeout

/-- A round-trip sample (R263); divisions of i64 drop the fraction (log entry 15). -/
def State.takeSample (s : State) (w : Nat) (sample : Int) : State :=
  let v := s.wale w
  let tx := v.tx
  let tx' : WaleTx := if tx.sampled then
      { tx with
        rttvar := tx.rttvar + ((Int.natAbs (sample - tx.srtt) : Int) - tx.rttvar).tdiv 4,
        srtt := tx.srtt + (sample - tx.srtt).tdiv 8 }
    else { tx with srtt := sample, rttvar := sample.tdiv 2, sampled := true }
  let s1 := s.setWale w { v with tx := tx' }
  (s1.setNum (Obj.repeatSrtt w) tx'.srtt.toNat).setNum (Obj.repeatTimeout w) (s1.repeatTimeoutNs w)

/-- guard(x) (R264). -/
def State.guardOf (s : State) (w : Nat) (x : HeldSegment) : Nat := x.sent + s.repeatTimeoutNs w * 2 ^ min (x.times - 1) 3

/-- Insert a sequence number into the resend queue in ascending order, once (R264). -/
def insertAscending (q : Nat) : List Nat → List Nat
  | [] => [q]
  | a :: r => if q = a then a :: r else if q < a then q :: a :: r else a :: insertAscending q r

/-- Read an outstanding segment from the repeat buffer, header, ciphertext and tag (R184, R265): a line that fails is read from its
second copy (R189) and rewritten from it. The flag says that every line had a copy that could be read. -/
def State.readHeld (s : State) (w : Nat) (x : HeldSegment) : State × Bool :=
  s.readMirrored .repeatBuffer w x.counter (heldBytes x.body.length)

/-- The segment waits to leave, for the first time or again (R259, R266): it is not resent before. -/
def WaleTx.waits (tx : WaleTx) (x : HeldSegment) : Bool :=
  x.times == 0 || (tx.fixed ++ tx.stream).any fun o => o.counter == some x.counter

/-- Outstanding segments become eligible for resending (R264): those that are not yet are read from the repeat buffer. One that neither
copy holds readable makes an Open or Held direction Lost (R184, R266). -/
def State.eligible (s : State) (w : Nat) (all : List HeldSegment) : State :=
  let l := all.filter fun x => !(s.wale w).tx.waits x
  let fresh := l.filter fun x => !(s.wale w).tx.resend.contains x.counter
  let r := fresh.foldl (fun (a : State × Bool) x =>
    let b := a.1.readHeld w x
    (b.1, a.2 && b.2)) (s, true)
  let v := r.1.wale w
  if r.2 ∨ s.num (Obj.repeatState w) = 3 then
    r.1.setWale w { v with tx := { v.tx with resend := l.foldl (fun q x => insertAscending x.counter q) v.tx.resend } }
  else (r.1.raise Ev.repeatUnsendable { unit := w }).loseWale w

/-- The scan of each microsecond (R264): every outstanding segment past its guard. -/
def State.scanGuards (s : State) (w : Nat) : State :=
  s.eligible w ((s.wale w).tx.outstanding.filter fun x => decide (s.guardOf w x ≤ s.now))

/-- RESEND_GUARD_SCAN (R264): suspended while Held (R266). A Lost direction holds only the key messages of its
establishment, which are resent like any data segment (R274). -/
def execResendGuardScan (w : Wale) (s : State) : Host.Outcome State Fault Refusal :=
  if s.num (Obj.repeatState w) = 1 ∨ s.num (Obj.repeatState w) = 3 then .next (s.scanGuards w) else .next s

/-! ### Epochs that acknowledgements retire (R279) -/

/-- The epoch before e (R273). -/
def lastEpoch (e : Nat) : Nat := if e = 1 then 255 else e - 1

/-- Session n in Dual(e, e + 1) with no outstanding segment of epoch e: RekeyRetire, the key of e zeroised, Steady, and a
deferred rekey starts (R278, R279). -/
def State.settleRekey (s : State) (w n : Nat) : State :=
  let x := s.session w n
  let old := lastEpoch x.txEpoch
  if x.phase = 2 ∧ !((s.wale w).tx.outstanding.any fun y => y.session == n && y.epoch == old) then
    let s1 := s.setSession w n { x with phase := 0, txKeys := Map.put [] x.txKeys old [] }
    let s2 := (s1.sendKey w 0x0303 n old 0 []).raise Ev.rekeyDone { unit := w, detail := n }
    if x.rekeyDue then s2.rekeyDue w n else s2
  else s

/-- Every session of a wale settled (R279). -/
def State.settleRekeys (s : State) (w : Nat) : State :=
  s.each ((s.wale w).sessions.map fun c => c.1) fun t n => t.settleRekey w n

/-! ### Receiving a SACK (R264, R266) -/

/-- A run list of a SACK. -/
def runList (n : Nat) (b : Bytes) : List (Nat × Nat) :=
  (entriesOf 8 n b).map fun e => (beNat (e.take 4), beNat (slice e 4 4))

/-- A SACK read from its payload (R261): Cumulative, Highest, EchoCounter, EchoDelay, ranges, requests. -/
structure Sack where
  cumulative : Nat
  highest : Nat
  echo : Nat
  delay : Nat
  ranges : List (Nat × Nat)
  requests : List (Nat × Nat)
deriving DecidableEq, Repr

/-- The SACK of a payload whose length agrees with its counts (R261). -/
def readSack (b : Bytes) : Option Sack :=
  let r := beNat (slice b 20 1)
  let q := beNat (slice b 21 1)
  if r ≤ 32 ∧ q ≤ 32 ∧ b.length = 24 + 8 * r + 8 * q then
    some ⟨beNat (b.take 4), beNat (slice b 4 4), beNat (slice b 8 8), beNat (slice b 16 4),
      runList r (slice b 24 (8 * r)), runList q (b.drop (24 + 8 * r))⟩
  else none

/-- A SACK covers a sequence number (R264). -/
def Sack.covers (k : Sack) (q : Nat) : Bool := seqBefore q k.cumulative || k.ranges.any (inRun q)

/-- The segments that a SACK makes eligible beside its requests (R264): sent early enough before the latest covered one. -/
def State.overtaken (s : State) (w : Nat) (k : Sack) (y : HeldSegment) (x : HeldSegment) : Bool :=
  let m := if x.concatenated && y.concatenated then 1000 * s.num Obj.repeatOrderMargin else s.reorderMargin
  seqBefore x.counter k.highest && decide (x.sent + m ≤ y.sent) && (x.times == 1 || decide (s.guardOf w x ≤ s.now))

/-- Apply a valid SACK (R263, R264): a segment freed while its resend waits leaves the queue; one whose resend has begun goes on (R268). -/
def State.applySack (s : State) (w : Nat) (k : Sack) : State :=
  let out := (s.wale w).tx.outstanding
  let s0 := match out.find? (fun x => x.counter == k.echo && x.times == 1) with
    | some x => s.takeSample w ((s.now : Int) - (x.sent : Int) - (k.delay : Int))
    | none => s
  let covered := out.filter fun x => k.covers x.counter
  let left := out.filter fun x => !k.covers x.counter
  let freed := covered.foldl (fun n x => n + heldBytes x.body.length) 0
  let v := s0.wale w
  let keeps (o : OutSegment) : Bool := o.counter.all fun q => !k.covers q
  let s1 := s0.setWale w { v with tx := { v.tx with
    outstanding := left, resend := v.tx.resend.filter (fun q => !k.covers q)
    fixed := v.tx.fixed.filter keeps, stream := v.tx.stream.filter keeps } }
  let s2 := ((s1.setNum (Obj.repeatTxCumulative w) k.cumulative).lower (Obj.repeatTxOutstanding w) covered.length).lower
    (Obj.repeatTxBytes w) freed
  let s3 := s2.bump 64 (Obj.repeatRequestsReceived w) (k.requests.foldl (fun n r => n + seqDist r.1 r.2) 0)
  let latest := covered.foldl (fun (m : Option HeldSegment) x => match m with
    | some y => if y.sent < x.sent then some x else some y
    | none => some x) none
  let s4 := s3.eligible w (left.filter fun x => k.requests.any (inRun x.counter) || latest.any fun y => s3.overtaken w k y x)
  s4.settleRekeys w

/-- SACK_RECEIVED (R264, R266): a Held direction of a wale that is not Dark opens again, and segments past their guard are
eligible at once. -/
def execSackReceived (w : Wale) (payload : Bytes) (s : State) : Host.Outcome State Fault Refusal :=
  match readSack payload with
  | none => .next s
  | some k =>
    let st := s.num (Obj.repeatState w)
    if st = 1 ∨ st = 3 then .next (s.applySack w k)
    else if st = 2 then
      let s1 := s.applySack w k
      if s.num (Obj.waleState w) = 4 ∨ s1.num (Obj.repeatState w) ≠ 2 then .next s1
      else .next (((s1.setNum (Obj.repeatState w) 1).raise Ev.repeatResumed { unit := w }).scanGuards w)
    else .next s

/-! ### Outages (R266) -/

/-- REPEAT_SILENCE_EXPIRY (R266): no valid SACK for RepeatSilence. -/
def execRepeatSilenceExpiry (w : Wale) (s : State) : Host.Outcome State Fault Refusal := .next (s.hold w)

/-- REPEAT_DARK_HOLD_EXPIRY (R266): the hold timer reaches RepeatDarkHold. -/
def execRepeatDarkHoldExpiry (w : Wale) (s : State) : Host.Outcome State Fault Refusal :=
  if s.num (Obj.repeatState w) = 2 then .next (s.loseWale w) else .next s

end Sys2Proof.Machine
end

