-- ==== Sys2Proof/Machine/MailboxOps.lean ====
section
/-! DEFINITION. Mailboxes (R409–R411). -/

namespace Sys2Proof.Machine

open Sys2Proof

/-- Mailbox n is full (R409). -/
def State.mailboxFull (s : State) (n : Nat) : Bool := bitAt (s.num (Obj.mailboxState n)) 0

/-- Sender classes of R424: 0 host, 1 PDP, 2 hub firmware, 3 tile. -/
def senderOf : Requester → Nat
  | .pcie _ _ _ => 0
  | .pdp _ _ => 1
  | .hubFirmware => 2
  | .peer _ _ => 1

/-- A post to an empty mailbox (R409, R411): the word, Full, the sender class and the post time; the receiver is signalled. -/
def State.postMailbox (s : State) (n sender word : Nat) : State :=
  let flags := setBit (s.num (Obj.mailboxState n) % 256) 0 true
  let s1 := (s.setNum (Obj.mailboxState n) (flags + 256 * sender)).setNum (Obj.mailboxWord n) (word % 2 ^ 32)
  let s2 : State := { s1 with control := { s1.control with postTime := Map.put 0 s1.control.postTime n s.now } }
  match s2.num (Obj.mailboxReceiver n) with
  | 0 => s2.vector (s2.num (Obj.mailboxVector n))
  | 1 => s2.emit (.hubInterrupt n)
  | _ => s2

/-- The word of a mailbox is taken (R410): Full, SenderTimeout and PostDropped clear. -/
def State.takeMailbox (s : State) (n : Nat) : State :=
  s.setNum (Obj.mailboxState n) (s.num (Obj.mailboxState n) / 8 * 8)

end Sys2Proof.Machine
end

