-- ==== Sys2Proof/Machine/Float.lean ====
section
/-! DEFINITION. Number formats and arithmetic (chapter 8): exact values, one rounding, the special cases of R163–R169, MX blocks
(R165, R166), dot products (R167, R168), fixed trees and Philox4x32-10 (R82, R131). Codes are numbers. -/

namespace Sys2Proof.Machine

open Sys2Proof

/-- What an encoding stands for: NaN, an infinity, or exactly (−1)^neg × m × 2^e. -/
inductive FVal where
  | nan
  | inf (neg : Bool)
  | fin (neg : Bool) (m : Nat) (e : Int)
deriving DecidableEq, Repr

/-- How a format uses its all-ones exponent (R161): as IEEE 754 does, for the one NaN of E4M3, or for numbers. -/
inductive FSpecial where
  | ieee | e4m3 | none
deriving DecidableEq, Repr

/-- One floating-point format of R161. -/
structure FFmt where
  expBits : Nat
  manBits : Nat
  bias : Nat
  special : FSpecial
deriving DecidableEq, Repr

def fp32 : FFmt := ⟨8, 23, 127, .ieee⟩
def bf16 : FFmt := ⟨8, 7, 127, .ieee⟩
def fp16 : FFmt := ⟨5, 10, 15, .ieee⟩
def e4m3 : FFmt := ⟨4, 3, 7, .e4m3⟩
def e5m2 : FFmt := ⟨5, 2, 15, .ieee⟩
def e2m3 : FFmt := ⟨2, 3, 1, .none⟩
def e3m2 : FFmt := ⟨3, 2, 3, .none⟩
def e2m1 : FFmt := ⟨2, 1, 1, .none⟩

/-- Bits of an element of a format. -/
def FFmt.width (f : FFmt) : Nat := 1 + f.expBits + f.manBits

/-- The code of the largest finite magnitude (R161). -/
def FFmt.maxCode (f : FFmt) : Nat :=
  match f.special with
  | .ieee => (2 ^ f.expBits - 1) * 2 ^ f.manBits - 1
  | .e4m3 => 2 ^ (f.expBits + f.manBits) - 2
  | .none => 2 ^ (f.expBits + f.manBits) - 1

/-- The code of +∞ in a format that has one. -/
def FFmt.infCode (f : FFmt) : Nat := (2 ^ f.expBits - 1) * 2 ^ f.manBits

/-- The canonical NaN (R161). -/
def FFmt.nanCode (f : FFmt) : Nat :=
  match f.special with
  | .ieee => f.infCode + 2 ^ (f.manBits - 1)
  | _ => 2 ^ (f.expBits + f.manBits) - 1

/-- The sign bit of a code. -/
def FFmt.sign (f : FFmt) (neg : Bool) : Nat := if neg then 2 ^ (f.expBits + f.manBits) else 0

/-- What a code stands for (R161). -/
def FFmt.decode (f : FFmt) (code : Nat) : FVal :=
  let neg := code.testBit (f.expBits + f.manBits)
  let man := code % 2 ^ f.manBits
  let ex := code / 2 ^ f.manBits % 2 ^ f.expBits
  let last := decide (ex = 2 ^ f.expBits - 1)
  if f.special = .ieee ∧ last then (if man = 0 then .inf neg else .nan)
  else if f.special = .e4m3 ∧ last ∧ man = 2 ^ f.manBits - 1 then .nan
  else if ex = 0 then .fin neg man (1 - (f.bias : Int) - f.manBits)
  else .fin neg (man + 2 ^ f.manBits) ((ex : Int) - f.bias - f.manBits)

/-- m × 2^−k rounded to the nearest integer, a tie going to the even one (R163, rne). -/
def shiftRne (m k : Nat) : Nat :=
  let q := m >>> k
  let r := m % 2 ^ k
  if 2 * r < 2 ^ k ∨ (2 * r = 2 ^ k ∧ q % 2 = 0) then q else q + 1

/-- The magnitude code of m × 2^e, m ≠ 0, rounded once with no upper limit on the exponent (R164): codes above `maxCode` lie
beyond the format. -/
def FFmt.roundCode (f : FFmt) (m : Nat) (e : Int) : Nat :=
  let emin : Int := 1 - (f.bias : Int)
  let top := max ((m.log2 : Int) + e) emin
  let quantum := top - f.manBits
  let q := if quantum ≤ e then m <<< (e - quantum).toNat else shiftRne m (quantum - e).toNat
  q + (top - emin).toNat * 2 ^ f.manBits

/-- An exact value rounded to a format whose overflow is an infinity: FP32, BF16, FP16, E5M2 (R163, R164). -/
def FFmt.round (f : FFmt) : FVal → Nat
  | .nan => f.nanCode
  | .inf neg => f.sign neg + f.infCode
  | .fin neg m e =>
    if m = 0 then f.sign neg
    else f.sign neg + min (f.roundCode m e) f.infCode

/-- FP32 of an exact value (R163). -/
def roundFp32 (x : FVal) : Nat := fp32.round x

/-- The canonical FP32 NaN. -/
def nanFp32 : Nat := 0x7FC00000

/-- to_fp32 (R163): exact widening. -/
def toFp32 (f : FFmt) (code : Nat) : Nat := roundFp32 (f.decode code)

/-- The signed integer of a finite value at exponent `e0` ≤ e. -/
def scaled (neg : Bool) (m : Nat) (e e0 : Int) : Int :=
  let v : Int := ((m <<< (e - e0).toNat : Nat) : Int)
  if neg then -v else v

/-- The exact sum of two finite values: +0 for an exact zero sum, but −0 for two −0 operands (R163). -/
def addFin (s : Bool) (m : Nat) (e : Int) (t : Bool) (n : Nat) (d : Int) : FVal :=
  let e0 := min e d
  let x := scaled s m e e0 + scaled t n d e0
  if x = 0 then .fin (s && t && m == 0 && n == 0) 0 0 else .fin (decide (x < 0)) x.natAbs e0

/-- The exact sum (R163). -/
def FVal.add : FVal → FVal → FVal
  | .nan, _ => .nan
  | _, .nan => .nan
  | .inf s, .inf t => if s = t then .inf s else .nan
  | .inf s, .fin _ _ _ => .inf s
  | .fin _ _ _, .inf t => .inf t
  | .fin s m e, .fin t n d => addFin s m e t n d

/-- The exact product (R163). -/
def FVal.mul : FVal → FVal → FVal
  | .nan, _ => .nan
  | _, .nan => .nan
  | .inf s, .inf t => .inf (s != t)
  | .inf s, .fin t n _ => if n = 0 then .nan else .inf (s != t)
  | .fin s m _, .inf t => if m = 0 then .nan else .inf (s != t)
  | .fin s m e, .fin t n d => .fin (s != t) (m * n) (e + d)

/-- The value with its sign changed. -/
def FVal.neg : FVal → FVal
  | .nan => .nan
  | .inf s => .inf !s
  | .fin s m e => .fin (!s) m e

/-- add_fp32_rne (R163). -/
def addFp32 (a b : Nat) : Nat := roundFp32 ((fp32.decode a).add (fp32.decode b))

/-- The FP32 difference a − b (R130). -/
def subFp32 (a b : Nat) : Nat := roundFp32 ((fp32.decode a).add (fp32.decode b).neg)

/-- mul_fp32_rne (R163). -/
def mulFp32 (a b : Nat) : Nat := roundFp32 ((fp32.decode a).mul (fp32.decode b))

/-- fma_fp32_rne (R163): rounded once. -/
def fmaFp32 (a b c : Nat) : Nat := roundFp32 (((fp32.decode a).mul (fp32.decode b)).add (fp32.decode c))

/-- ⌊√n⌋ for n below 2^200. -/
def isqrt (n : Nat) : Nat := (List.range 100).foldr (fun i r => if (r + 2 ^ i) * (r + 2 ^ i) ≤ n then r + 2 ^ i else r) 0

/-- A quotient or root q × 2^e that fell short of the exact value when `inexact`: one more bit below keeps the rounding right. -/
def sticky (neg : Bool) (q : Nat) (inexact : Bool) (e : Int) : FVal := .fin neg (2 * q + (if inexact then 1 else 0)) (e - 1)

/-- 1/a, correctly rounded (R130). -/
def rcpFp32 (a : Nat) : Nat :=
  match fp32.decode a with
  | .nan => nanFp32
  | .inf neg => fp32.sign neg
  | .fin neg m e =>
    if m = 0 then fp32.sign neg + fp32.infCode
    else roundFp32 (sticky neg (2 ^ 80 / m) (2 ^ 80 % m != 0) (-80 - e))

/-- 1/√a, correctly rounded (R130). -/
def rsqrtFp32 (a : Nat) : Nat :=
  match fp32.decode a with
  | .nan => nanFp32
  | .inf neg => if neg then nanFp32 else 0
  | .fin neg m e =>
    if m = 0 then fp32.sign neg + fp32.infCode
    else if neg then nanFp32
    else
      let odd := e % 2 ≠ 0
      let m' := if odd then 2 * m else m
      let e' := if odd then e - 1 else e
      let q := isqrt (2 ^ 160 / m')
      roundFp32 (sticky false q (q * q * m' != 2 ^ 160) (-80 - e' / 2))

/-- FP32 of an integer (R123, R130, R169). -/
def fp32OfInt (x : Int) : Nat := roundFp32 (.fin (decide (x < 0)) x.natAbs 0)

/-- i32 of an FP32 value: nearest even, saturating, NaN gives 0 (R130); as a 32-bit code. -/
def intOfFp32 (a : Nat) : Nat :=
  match fp32.decode a with
  | .nan => 0
  | .inf neg => if neg then 2 ^ 31 else 2 ^ 31 - 1
  | .fin neg m e =>
    let n := if 0 ≤ e then m <<< e.toNat else shiftRne m (-e).toNat
    if neg then (2 ^ 32 - min n (2 ^ 31)) % 2 ^ 32 else min n (2 ^ 31 - 1)

/-- A code is a NaN of FP32. -/
def isNan32 (a : Nat) : Bool := fp32.decode a == .nan

/-- An order key of a non-NaN FP32 code: both zeros have key 0. -/
def key32 (a : Nat) : Int :=
  let m : Int := ((a % 2 ^ 31 : Nat) : Int)
  if a.testBit 31 then -m else m

/-- FP32 maximum (R169). -/
def maxFp32 (a b : Nat) : Nat :=
  if isNan32 a || isNan32 b then nanFp32
  else if key32 a = key32 b then (if a.testBit 31 then b else a)
  else if key32 a < key32 b then b else a

/-- FP32 minimum (R169). -/
def minFp32 (a b : Nat) : Nat :=
  if isNan32 a || isNan32 b then nanFp32
  else if key32 a = key32 b then (if a.testBit 31 then a else b)
  else if key32 a < key32 b then a else b

/-- The IEEE less-than predicate (R169). -/
def ltFp32 (a b : Nat) : Bool := !isNan32 a && !isNan32 b && decide (key32 a < key32 b)

/-- A non-zero finite value that saturates at the format's largest finite one (R164): the code, and whether it is saturated. -/
def FFmt.saturate (f : FFmt) (neg : Bool) (m : Nat) (e : Int) : Nat × Bool :=
  let c := f.roundCode m e
  (f.sign neg + min c f.maxCode, decide (f.maxCode < c))

/-- Narrowing of an exact value (R164): the code, and whether the element is saturated. -/
def FFmt.narrow (f : FFmt) (x : FVal) : Nat × Bool :=
  match f.special, x with
  | .ieee, x => (f.round x, false)
  | _, .nan => (f.nanCode, false)
  | .e4m3, .inf _ => (f.nanCode, false)
  | .none, .inf neg => (f.sign neg + f.maxCode, true)
  | _, .fin neg m e => if m = 0 then (f.sign neg, false) else f.saturate neg m e

/-- Narrowing of an FP32 code (R164). -/
def narrow32 (f : FFmt) (a : Nat) : Nat × Bool := f.narrow (fp32.decode a)

/-! ### Format codes of R118 -/

/-- The element format of a format code (R118). -/
def fmtOf (code : Nat) : Option FFmt :=
  match code with
  | 0x0 => some fp32
  | 0x1 => some bf16
  | 0x2 => some fp16
  | 0x3 => some e4m3
  | 0x4 => some e5m2
  | 0x5 => some e4m3
  | 0x6 => some e5m2
  | 0x7 => some e2m3
  | 0x8 => some e3m2
  | 0x9 => some e2m1
  | _ => none

/-- A format code with MX blocks (R118). -/
def isMx (code : Nat) : Bool := decide (5 ≤ code ∧ code ≤ 9)

/-- The element format of an MX format code. -/
def mxElem (code : Nat) : FFmt := (fmtOf code).getD e4m3

/-- emax of R165. -/
def emax (code : Nat) : Int := if code = 6 then 15 else if code = 5 then 8 else if code = 8 then 4 else 2

/-- K of R92. -/
def meshK (code : Nat) : Nat := if code = 5 ∨ code = 6 then 256 else if isMx code then 512 else 128

/-! ### Packing (R129) -/

/-- Elements packed as one little-endian integer, element n at bit w × n. -/
def packNat (w : Nat) : List Nat → Nat
  | [] => 0
  | x :: r => x + 2 ^ w * packNat w r

/-- The bytes of packed elements. -/
def packBytes (w : Nat) (l : List Nat) : Bytes := leBytes (l.length * w / 8) (packNat w l)

/-- `n` elements of width `w` of a number. -/
def unpackNat (w : Nat) : Nat → Nat → List Nat
  | 0, _ => []
  | n + 1, x => x % 2 ^ w :: unpackNat w n (x / 2 ^ w)

/-- `n` elements packed in bytes. -/
def unpackBytes (w n : Nat) (b : Bytes) : List Nat := unpackNat w n (leNat b)

/-- A list cut into pieces of `k`, at most `fuel` of them. -/
def piecesOf {α : Type} (k : Nat) : Nat → List α → List (List α)
  | 0, _ => []
  | n + 1, l => l.take k :: piecesOf k n (l.drop k)

/-! ### MX blocks -/

/-- floor_log2 of the magnitude of a finite non-zero value. -/
def floorLog2 : FVal → Option Int
  | .fin _ m e => if m = 0 then none else some ((m.log2 : Int) + e)
  | _ => none

/-- An element of an MX block: every element format saturates, MXFP8 E5M2 too, for a block holds no infinity (R164, R165). -/
def narrowMx (f : FFmt) (neg : Bool) (m : Nat) (e : Int) : Nat × Bool := if m = 0 then (f.sign neg, false) else f.saturate neg m e

/-- One block of VQMX (R165): scale byte, elements, number saturated. -/
def quantiseBlock (code : Nat) (x : List Nat) : Nat × List Nat × Nat :=
  let v := x.map fp32.decode
  let special := v.any fun y => match y with
    | .fin _ _ _ => false
    | _ => true
  if special then (0xFF, List.replicate x.length 0, 0)
  else
    let e : Int := match (v.filterMap floorLog2).max? with
      | none => -127
      | some l => max (-127) (l - emax code)
    let r := v.map fun y => match y with
      | .fin neg m d => narrowMx (mxElem code) neg m (d - e)
      | _ => (0, false)
    ((e + 127).toNat, r.map Prod.fst, (r.filter Prod.snd).length)

/-- One element of VDQMX (R166). -/
def decodeMx (code b el : Nat) : Nat :=
  if b = 0xFF then nanFp32
  else match (mxElem code).decode el with
    | .fin neg m e => roundFp32 (.fin neg m (e + b - 127))
    | x => roundFp32 x

/-! ### Sums -/

/-- The fixed pairwise tree (R131, R167), on lists whose length is a power of two up to 2^10. -/
def treeFold (op : Nat → Nat → Nat) : Nat → List Nat → List Nat
  | 0, l => l
  | fuel + 1, l =>
    match l with
    | [] => []
    | [x] => [x]
    | l => treeFold op fuel (pairs op l)
where
  /-- One level of the tree. -/
  pairs (op : Nat → Nat → Nat) : List Nat → List Nat
    | a :: b :: r => op a b :: pairs op r
    | l => l

/-- The result of the tree (R131). -/
def tree (op : Nat → Nat → Nat) (l : List Nat) : Nat := (treeFold op 10 l).headD 0

/-- block_partial (R167, R168) over decoded elements. -/
def blockPartial (a : List FVal) (sa : Nat) (b : List FVal) (sb : Nat) : Nat :=
  let p := List.zipWith FVal.mul a b
  if sa = 0xFF ∨ sb = 0xFF ∨ p.contains .nan then nanFp32
  else if p.contains (.inf false) && p.contains (.inf true) then nanFp32
  else if p.contains (.inf false) then roundFp32 (.inf false)
  else if p.contains (.inf true) then roundFp32 (.inf true)
  else
    match p.foldl FVal.add (.fin false 0 0) with
    | .fin neg m e => if m = 0 then 0 else roundFp32 (.fin neg m (e + sa + sb - 254))
    | x => roundFp32 x

/-- One operand of dot_k: K element codes and K/32 scale bytes (none unless MX). -/
structure DotOperand where
  elems : List Nat
  scales : List Nat
deriving DecidableEq, Repr

/-- An operand stored as R128 lays it out: element bytes, then scale bytes. -/
def readOperand (code : Nat) (b : Bytes) : DotOperand :=
  let f := (fmtOf code).getD fp32
  let k := meshK code
  let n := k * f.width / 8
  ⟨unpackBytes f.width k (b.take n), if isMx code then (slice b n (k / 32)).map BitVec.toNat else []⟩

/-- Bytes of one row or column of K elements (R128). -/
def operandBytes (code : Nat) : Nat :=
  meshK code * ((fmtOf code).getD fp32).width / 8 + (if isMx code then meshK code / 32 else 0)

/-- dot_k (R167). -/
def dotK (code : Nat) (a b : DotOperand) : Nat :=
  let f := (fmtOf code).getD fp32
  if isMx code then
    let n := meshK code / 32
    let blocks (x : DotOperand) := (piecesOf 32 n (x.elems.map f.decode)).zip x.scales
    tree addFp32 (List.zipWith (fun x y => blockPartial x.1 x.2 y.1 y.2) (blocks a) (blocks b))
  else tree addFp32 (List.zipWith (fun x y => roundFp32 ((f.decode x).mul (f.decode y))) a.elems b.elems)

/-! ### Philox4x32-10 (R82; the published constants, log entry 21) -/

/-- One round. -/
def philoxRound (k0 k1 : Nat) (c : Nat × Nat × Nat × Nat) : Nat × Nat × Nat × Nat :=
  let p0 := 0xD2511F53 * c.1
  let p1 := 0xCD9E8D57 * c.2.2.1
  ((p1 / 2 ^ 32) ^^^ c.2.1 ^^^ k0, p1 % 2 ^ 32, (p0 / 2 ^ 32) ^^^ c.2.2.2 ^^^ k1, p0 % 2 ^ 32)

/-- Ten rounds, the key bumped between them. -/
def philoxRounds : Nat → Nat → Nat → Nat × Nat × Nat × Nat → Nat × Nat × Nat × Nat
  | 0, _, _, c => c
  | n + 1, k0, k1, c =>
    philoxRounds n ((k0 + 0x9E3779B9) % 2 ^ 32) ((k1 + 0xBB67AE85) % 2 ^ 32) (philoxRound k0 k1 c)

/-- The four words of one call (R82). -/
def philox (k0 k1 : Nat) (c : Nat × Nat × Nat × Nat) : List Nat :=
  let r := philoxRounds 10 k0 k1 c
  [r.1, r.2.1, r.2.2.1, r.2.2.2]

/-- uniform(r) of R82. -/
def uniformOf (r : Nat) : Nat := roundFp32 (.fin false (r >>> 8) (-24))

/-- sign(r) of R82. -/
def signOf (r : Nat) : Nat := if r % 2 = 0 then 0x3F800000 else 0xBF800000

end Sys2Proof.Machine
end

