-- ==== Sys2Proof/Machine/Pools.lean ====
section
/-! DEFINITION. The commands of the buffer pools (chapter 10): requests, frees, grants of waiting requests, writes of minima. -/

namespace Sys2Proof.Machine

open Sys2Proof

/-- What a landing of (window, generation, chunk) reads as before anything has landed. -/
def State.landingD (s : State) (w gen i : Nat) : Landing := (s.landing w gen i).getD ⟨w, gen, i, [], [], [], [], []⟩

/-- Exchange data of a chunk. -/
def State.exchange (s : State) (g seq i : Nat) : Exchange :=
  (s.work.exchanges.find? fun x => x.group == g && x.seq == seq && x.chunk == i).getD { group := g, seq := seq, chunk := i }

/-- The state with a chunk's exchange data set. -/
def State.setExchange (s : State) (x : Exchange) : State :=
  let rest := s.work.exchanges.filter fun y => !(y.group == x.group && y.seq == x.seq && y.chunk == x.chunk)
  { s with work := { s.work with exchanges := rest ++ [x] } }

/-- A granted handle goes to its request's purpose: an agent, a landing's spill, exchange data (R125, R193, R220). -/
def State.giveHandle (s : State) (r : PoolRequest) (handle : Nat) : State :=
  match r.purpose with
  | .plain => s.emit (.handle r.hoop r.owner handle)
  | .spill w gen i c piece =>
    let l := s.landingD w gen i
    s.setLanding { l with buffers := l.buffers ++ [((c, piece), handle)] }
  | .exchange g seq i =>
    let x := s.exchange g seq i
    s.setExchange { x with buffers := x.buffers ++ [handle], credit := x.credit + 1 }

/-- A request that cannot be granted (R200, R201): Local waits; a peer segment of VC2 or VC3 is discarded; a Plan owner's
request fails, as at Admit. -/
def State.refuseRequest (s : State) (r : PoolRequest) : State :=
  if r.owner = 0 then s.startWait r
  else if r.owner = 1 then s.emit (.poolRefused r.hoop r.owner St.capacityShortfall)
  else (s.deferSegment r.hoop r.owner).emit (.poolRefused r.hoop r.owner St.capacityShortfall)

/-- POOL_ALLOCATE (R194, R198, R201). -/
def execPoolAllocate (h : Hoop) (k : Fin 4) (group : Option GroupNo) (bytes : Nat) (s : State) :
    Host.Outcome State Fault Refusal :=
  match (if bytes = 0 then none else classFor bytes) with
  | none => .next (s.emit (.poolRefused h k St.lenExceeded))
  | some c =>
    let r : PoolRequest := ⟨h, k, group.map Fin.val, c, .plain⟩
    match s.poolRequest h k r.group c with
    | some (t, handle) => .next (t.giveHandle r handle)
    | none => .next (s.refuseRequest r)

/-- POOL_FREE (R195, R202): a bad free is counted and reported, and the hoop that holds the named frame faults. -/
def execPoolFree (h : Hoop) (handle : BitVec 64) (s : State) : Host.Outcome State Fault Refusal :=
  match s.freeHandle h handle.toNat with
  | .freed t => .next t
  | .refused holder => .next (s.refuseFree h handle.toNat holder).checkFrees

/-- POOL_WAIT_GRANTED (R200): the first request in the order of R200 takes its buffer when it can be granted. -/
def execPoolWaitGranted (h : Hoop) (cls : Fin 4) (s : State) : Host.Outcome State Fault Refusal :=
  match s.nextWaiting h cls with
  | none => .next s
  | some r =>
    match s.grant h r.owner r.group cls with
    | none => .next s
    | some (t, handle) =>
      let t1 : State := { t with pools := { t.pools with waiting := removeRequest r t.pools.waiting } }
      .next ((((t1.endEpisode h r.owner).trim h cls).countPools h).giveHandle r handle)

/-- Every class keeps free ≥ deficit, and the hoop's held frames stay within its limit (R197, R198). -/
def State.poolsFit (s : State) (h : Nat) : Bool :=
  decide (s.num (Obj.hoopFramesHeld h) ≤ s.num (Obj.hoopFrameLimit h)) &&
    (List.range 4).all fun c => decide (s.deficit' h c ≤ s.freeBuffers h c)

/-- A write of a pool minimum (R32, R199, R204, R206). -/
def poolMinimumEffect (h k c v : Nat) : Effect := fun s =>
  let key := minimumKey h k c
  if k = 1 then refuse St.accessDenied s
  else if s.num (Obj.hoopState h) = 0 then plainWrite key (.num v) s
  else if k = 2 ∧ c = 2 ∧ v < s.reserveSum h then refuse St.capacityShortfall s
  else
    let t := (s.setP key (.num v)).settleBacking h
    if t.poolsFit h then (t, St.ok) else refuse St.capacityShortfall s

/-- POOL_MINIMUM_WRITE (R204). -/
def execPoolMinimumWrite (rq : Requester) (h : Hoop) (k cls : Fin 4) (value : BitVec 32) (s : State) :
    Host.Outcome State Fault Refusal :=
  .next (s.request rq (minimumKey h k cls) (.num value.toNat) none (poolMinimumEffect h k cls value.toNat))

end Sys2Proof.Machine
end

