-- ==== Sys2Proof/Machine/StreamOps.lean ====
section
/-! DEFINITION. What hoops send and receive on the line: routes to a member (R277, R328), emit requests (R312), the fate of a
segment's operation (R260), peer streams (R74, R155), contributions to small collectives (R70, R78, R495), the exchange of
reproducibility digests (R84). -/

namespace Sys2Proof.Machine

open Sys2Proof

/-! ### The fate of a segment's operation (R260) -/

/-- What R260 says of VC1 and VC2 data of a group by EpochTag and OpSequence. -/
inductive SegmentFate where
  | gone | ahead | live
deriving DecidableEq, Repr

/-- R260: gone where the tag is behind the group's epoch, or the operation is behind GroupNextSequence and holds no context;
ahead where the tag is ahead. -/
def State.segmentFate (s : State) (g tag seq : Nat) : SegmentFate :=
  let d := (tag + 256 - s.num (Obj.groupEpoch g) % 256) % 256
  let behind := decide (2 ^ 31 ≤ (seq + 2 ^ 32 - s.num (Obj.groupNextSequence g)) % 2 ^ 32)
  if 128 ≤ d then .gone
  else if d ≠ 0 then .ahead
  else if behind && ((s.operation g seq).all fun o => o.ending.isSome) then .gone
  else .live

/-! ### Peer streams (R74, R155) -/

/-- The stream's chunk index for a chunk: a pair shares its emitter's (R155). -/
def streamIndex (c : ChunkRecord) (i : Nat) : Nat := if c.role = 2 then c.partner else i

/-- The chunk that consumes a stream: the receiver of a pair, or the chunk itself (R155). -/
def consumerIndex (c : ChunkRecord) (i : Nat) : Nat := if c.role = 1 then c.partner else i

/-- The plan entry of an operation. -/
def State.entryOf (s : State) (g : Nat) (o : Operation) : Option Bytes :=
  planEntry (s.hoop (s.hoopOfGroup g)).plan (dPlanEntry o.desc)

/-- The chunk record of chunk i of an operation. -/
def State.recordOf (s : State) (g : Nat) (o : Operation) (i : Nat) : Option ChunkRecord :=
  (s.entryOf g o).map fun e => chunkRecord (s.hoop (s.hoopOfGroup g)).plan e i

/-- Stream of a chunk from one origin. -/
def State.stream (s : State) (g seq i origin : Nat) : SiteStream :=
  (s.work.streams.find? fun x => x.group == g && x.seq == seq && x.chunk == i && x.origin == origin).getD
    { group := g, seq := seq, chunk := i, origin := origin }

/-- The state with a stream set. -/
def State.setStream (s : State) (x : SiteStream) : State :=
  let rest := s.work.streams.filter fun y =>
    !(y.group == x.group && y.seq == x.seq && y.chunk == x.chunk && y.origin == x.origin)
  { s with work := { s.work with streams := rest ++ [x] } }

/-- The tile and base of the armed site slot that a stream of an origin fills, where its chunk runs (R133, R256). -/
def State.armedSlot (s : State) (g seq i origin : Nat) : Option (Nat × Nat) :=
  (s.operation g seq).bind fun o => (s.recordOf g o i).bind fun r =>
    (s.chunk (g, seq, consumerIndex r i)).bind fun c =>
      let j := (s.peersOf (s.hoopOfGroup g) o r).findIdx (· == origin)
      let x := s.tile c.tile
      if c.phase = 2 ∧ x.running = some c.key then (Map.get none x.arms j).map fun base => (c.tile, base) else none

/-- Write bytes into a tile's store. -/
def State.storeTile (s : State) (t a : Nat) (b : Bytes) : State :=
  let x := s.tile t
  s.setTile t { x with store := x.store.writeBytes a b }

/-- The stream is complete: nothing more is written into its slot (R74). -/
def State.streamDone (s : State) (g seq i : Nat) (x : SiteStream) : Bool :=
  match (s.operation g seq).bind fun o => s.recordOf g o i with
  | some r => covered x.got 0 r.emitLength
  | none => false

/-- Place a verified VC2 segment of hoop h, with SegmentCounter `counter` on wale w (R155, R256, R260): in its armed site slot, or in
a buffer of the hoop's VC2 owner; none where the pool refuses one (R201). -/
def State.placeSegment (s : State) (w counter h g seq i origin off : Nat) (payload : Bytes) : Option State :=
  let x := s.stream g seq i origin
  if s.streamDone g seq i x then some s
  else
    let x' := { x with data := x.data.writeBytes off payload, got := addRange x.got off (off + payload.length) }
    match s.armedSlot g seq i origin with
    | some slot => some ((s.setStream x').storeTile slot.1 (slot.2 + off) payload)
    | none =>
      match (classFor payload.length).bind fun c => s.poolRequest h 2 (some g) c with
      | some r => some (r.1.setStream { x' with
          buffers := x'.buffers ++ [r.2], parts := x'.parts ++ [⟨r.2, off, payload.length, w, counter⟩] })
      | none => none

/-- The parts of a stream whose buffers cannot be read (R184). -/
def State.lostParts (s : State) (x : SiteStream) : List StreamPart := x.parts.filter fun p => s.handleBad p.buffer p.len != []

/-- A segment that its VC2 buffer cannot return is lost: its buffer is freed, and it is requested again (R184; log entry 137). -/
def State.losePart (s : State) (h : Nat) (x : SiteStream) (p : StreamPart) : State :=
  let y := s.stream x.group x.seq x.chunk x.origin
  let s1 := (s.noteBadLines (s.handleBad p.buffer p.len)).setStream { y with
    got := cutRange y.got p.off (p.off + p.len), buffers := y.buffers.erase p.buffer, parts := y.parts.erase p }
  (s1.freeAll h [p.buffer]).requestAgain p.wale p.counter

/-- Free the buffers of a chunk's streams and forget the streams: after the receiver's ChunkDone (R155). -/
def State.dropStreams (s : State) (h g seq i : Nat) : State :=
  let mine (x : SiteStream) : Bool := x.group == g && x.seq == seq && x.chunk == i
  let handles := (s.work.streams.filter mine).flatMap SiteStream.buffers
  let s1 : State := { s with work := { s.work with streams := s.work.streams.filter fun x => !mine x } }
  s1.freeAll h handles

/-! ### Small collectives (R70, R78, R495) -/

/-- The four values of a descriptor's contribution (R495). -/
def fourOf (d : Bytes) : Nat × Nat × Nat × Nat := (dOpcode d, dType d, dReduceOp d, dElements d)

/-- The four values that a contribution carries. -/
def Contribution.four (c : Contribution) : Nat × Nat × Nat × Nat := (c.opcode, c.elementType, c.reduceOp, c.elementCount)

/-- One step of the fold on two 4-byte elements (R78). -/
def smallStep (type op a b : Nat) : Nat :=
  if type = 1 then (if op = 0 then addFp32 a b else if op = 1 then maxFp32 a b else minFp32 a b)
  else if op = 0 then (a + b) % 2 ^ 32
  else if op = 1 then (if toSigned 32 b ≤ toSigned 32 a then a else b)
  else (if toSigned 32 a ≤ toSigned 32 b then a else b)

/-- The 4-byte words of n elements of a payload. -/
def wordsOf (n : Nat) (p : Bytes) : List Nat := (List.range n).map fun i => field p (4 * i) 4

/-- The left fold over the members' payloads in ascending member index (R78). -/
def smallFold (type op n : Nat) : List Bytes → List Nat
  | [] => []
  | p :: r => r.foldl (fun acc q => List.zipWith (smallStep type op) acc (wordsOf n q)) (wordsOf n p)

/-- The contributions that a group holds for an operation, by member. -/
def State.contributionsOf (s : State) (g : Nat) (o : Operation) : List Contribution :=
  (s.group g).contributions.filter fun c => c.seq == o.seq && c.epoch == o.epoch % 256

/-- Payloads of every member of a group in ascending member index; none while one is missing (R70, R78). -/
def State.allPayloads (s : State) (g : Nat) (o : Operation) : Option (List Bytes) :=
  let own := s.ownAddress (s.hoopOfGroup g)
  let held := s.contributionsOf g o
  (s.group g).members.foldr (fun m acc => acc.bind fun l =>
    (if m = own then some (dPayload o.desc) else (held.find? fun c => c.member == m).map Contribution.payload).map (· :: l))
    (some [])

/-- Payload of a contribution on the line: the four values, then the data (R495; layout: log entry 27). -/
def contributionBytes (d : Bytes) : Bytes :=
  leBytes 1 (dOpcode d) ++ leBytes 1 (dType d) ++ leBytes 1 (dReduceOp d) ++ leBytes 1 0 ++ leBytes 4 (dElements d) ++
  (if dOpcode d = 5 then [] else dPayload d)

/-- Send this module's contribution to every other member on VC1 (R70). -/
def State.sendContribution (s : State) (g : Nat) (o : Operation) : State :=
  let h := s.hoopOfGroup g
  let own := s.ownAddress h
  if s.shadowSilent h then s
  else s.each ((s.group g).members.filter (· != own)) fun t m =>
    t.emitTo h 1 m o.seq o.epoch (dataTail 0 0 g) (contributionBytes o.desc) (some (g, o.seq, 0)) none

/-- The contribution of an operation stays in its queues when the operation ends: every member must see it (R495). -/
def State.keepEmits (s : State) (g seq : Nat) : State :=
  let p (r : EmitRequest) : Bool := r.operation.any fun o => o.1 == g && o.2.1 == seq
  s.each (s.line.wales.map Prod.fst) fun t w =>
    let v := t.wale w
    if v.tx.queue.any p then
      t.setWale w { v with tx := { v.tx with queue := v.tx.queue.map fun r => if p r then { r with operation := none } else r } }
    else t

/-- Take a Running small collective as far as its contributions allow: a disagreement ends it ST_ACCESS_DENIED (R495); with
every contribution in, the Barrier ends and the result of a SmallAllReduce is written (R70, R68). -/
def State.settleSmall (s : State) (g seq : Nat) : State :=
  match s.operation g seq with
  | none => s
  | some o =>
    if o.ending.isSome then s
    else if (s.contributionsOf g o).any fun c => c.four != fourOf o.desc then
      ((if o.phase = 0 then s.sendContribution g o else s).keepEmits g seq).finishOp g seq St.accessDenied
    else if o.phase ≠ 1 ∨ s.resultPending g seq 0 then s
    else
      match s.allPayloads g o with
      | none => s
      | some payloads =>
        let n := dElements o.desc
        if dOpcode o.desc = 5 ∨ n = 0 then s.finishOp g seq St.ok
        else
          let result := (smallFold (dType o.desc) (dReduceOp o.desc) n payloads).flatMap (leBytes 4)
          match s.writeTarget (s.hoopOfGroup g) (dDestinationTarget o.desc) (dDestinationOffset o.desc) result (some (g, seq, 0)) with
          | some t => t
          | none => s.undeliverable g seq

/-- Hold a contribution of a member (R70, R260): once per member and operation, and only of members of the group. -/
def State.takeContribution (s : State) (g : Nat) (c : Contribution) : State :=
  let x := s.group g
  let dup := x.contributions.any fun y => y.member == c.member && y.seq == c.seq && y.epoch == c.epoch
  if s.num (Obj.groupState g) = 0 ∨ dup ∨ s.segmentFate g c.epoch c.seq = .gone then s
  else
    let s1 := s.setGroup g { x with contributions := x.contributions ++ [c] }
    if x.members.contains c.member then s1.settleSmall g c.seq else s

/-! ### The exchange of R84 -/

/-- ReproMismatchGroups: open groups of a hoop for which a mismatch stands (R84, R85). -/
def State.mismatchGroups (s : State) (h : Nat) : Nat :=
  ((s.groupsOf h).filter fun g => s.num (Obj.groupState g) == 1 && (s.group g).stands).length

/-- The digest and ArithmeticVersion last heard from every other member of a group are the module's own (R84, R173). -/
def State.allAgree (s : State) (g : Nat) : Bool :=
  let h := s.hoopOfGroup g
  (s.group g).members.all fun m => m == s.ownAddress h ||
    (s.group g).heard.contains (m, s.reproDigest h, s.num Obj.arithmeticVersion)

/-- Begin an exchange: the digest and ArithmeticVersion go to every other member on VC0 (R84, R173; layout: log entry 28). A mismatch
that stands ends at once if the last digests heard are the module's own by now: peers that went first have sent theirs. -/
def State.startExchange (s : State) (g : Nat) : State :=
  let h := s.hoopOfGroup g
  let x := s.group g
  let own := s.ownAddress h
  let others := x.members.filter (· != own)
  let s1 := s.setGroup g { x with stands := x.stands && !s.allAgree g }
  let payload := beBytes 2 g ++ beBytes 4 (s.num (Obj.groupEpoch g)) ++ s.reproDigest h ++ beBytes 4 (s.num Obj.arithmeticVersion)
  if s.shadowSilent h then s1
  else s1.each others fun t m => t.emitTo h 0 m 0 0 (beBytes 2 0x0701 ++ List.replicate 8 0) payload none none

end Sys2Proof.Machine
end

