-- ==== Sys2Proof/Machine/Acceptance.lean ====
section
/-! DEFINITION. Submission queues and the acceptance of descriptors (R48–R61). -/

namespace Sys2Proof.Machine

open Sys2Proof

/-- Bytes of ring slot n of a group's queue (R48). -/
def State.ringSlot (s : State) (g n : Nat) : Bytes :=
  (s.group g).ring.readBytes (64 * (n % max 1 (s.num (Obj.groupQueueDepth g)))) 64

/-- Opcode, ElementType and ReduceOp are permitted for the group's kind (R44, R53). -/
def permitted (small : Bool) (opcode type reduceOp elements : Nat) : Bool :=
  (if small then opcode == 5 || opcode == 6 else decide (1 ≤ opcode ∧ opcode ≤ 4) || opcode == 7) &&
  (match type with
    | 0 => opcode == 5 && elements == 0
    | 1 => opcode != 5
    | 2 => opcode != 5 && opcode != 6
    | 3 => opcode != 5 && opcode != 6
    | 4 => opcode == 3 || opcode == 4
    | 5 => opcode == 3 || opcode == 4
    | 8 => opcode == 6
    | 9 => opcode == 3 || opcode == 4
    | _ => false) &&
  (reduceOp == 0 || (opcode == 6 && decide (reduceOp ≤ 2)))

/-- Check 5 of R55 on the plan entry of a Bulk descriptor (R151, R153) and on its SourceWindow (R220). -/
def State.bulkPermitted (s : State) (g : Nat) (d : Bytes) : Bool :=
  let h := s.hoopOfGroup g
  let p := (s.hoop h).plan
  let w := dSourceWindow d
  match planEntry p (dPlanEntry d) with
  | none => false
  | some e =>
    entryGroup e == g && entryOpcode e == dOpcode d && entryType e == dType d && entryElements e == dElements d &&
    ((List.range (entryChunks e)).all fun i =>
      (peerSet p (chunkRecord p e i).peerSet).all fun a => (s.group g).members.contains a) &&
    decide (w < 16384) && (s.num (Obj.windowState w) == 1 || s.num (Obj.windowState w) == 2) &&
    s.num (Obj.windowHoop w) == h && s.num (Obj.windowGroup w) == g && s.num (Obj.windowPlanEntry w) == dPlanEntry d &&
    dSourceOffset d == 0 && s.num (Obj.windowSliceBytes w) == dElements d * elementBytes (dType d)

/-- Window w belongs to hoop h. -/
def State.ownsWindow (s : State) (h w : Nat) : Bool :=
  decide (w < 16384) && s.num (Obj.windowState w) != 0 && s.num (Obj.windowHoop w) == h

/-- Check 5 of R55: every window and target that the descriptor names belongs to the hoop; 0xFFFF names none where R51 allows it. -/
def State.descriptorPermitted (s : State) (g : Nat) (d : Bytes) : Bool :=
  let h := s.hoopOfGroup g
  let small := s.isSmall g
  decide (dExtSlots d ≤ 4) && dGroupId d == g && permitted small (dOpcode d) (dType d) (dReduceOp d) (dElements d) &&
  (s.usableTarget h (dCompletionTarget d)).isSome &&
  ((dOpcode d == 5 && dDestinationTarget d == 0xFFFF) || (s.usableTarget h (dDestinationTarget d)).isSome) &&
  (!small || dSourceWindow d == 0xFFFF || s.ownsWindow h (dSourceWindow d)) &&
  (dDoorbellTarget d == 0xFFFF || (s.usableTarget h (dDoorbellTarget d)).isSome) &&
  (small || s.bulkPermitted g d)

/-- Bytes of an operation's result at this module (R44): every member's slices for AllGather, the root's slices for Broadcast;
the elements of the schedule's result chunks for ReduceScatter (DEDUCED, log entry 29). -/
def State.resultBytes (s : State) (g : Nat) (d : Bytes) : Nat :=
  let x := s.group g
  let size := elementBytes (dType d)
  let slice := dElements d * size
  match dOpcode d with
  | 2 =>
    let p := (s.hoop (s.hoopOfGroup g)).plan
    match planEntry p (dPlanEntry d) with
    | some e => (((List.range (entryChunks e)).map (chunkRecord p e)).filter fun c => c.role != 1).foldl
        (fun n c => n + c.elementCount * size) 0
    | none => slice
  | 3 => x.members.length * x.contributors * slice
  | 4 => x.contributors * slice
  | 5 => 0
  | _ => slice

/-- Check 6 of R55. -/
def State.descriptorFits (s : State) (g : Nat) (d : Bytes) : Bool :=
  let h := s.hoopOfGroup g
  let slice := dElements d * elementBytes (dType d)
  let count := (s.chunkCount g d).getD 0
  (if s.isSmall g then
      (if dOpcode d = 6 then decide (slice ≤ 256 ∧ dExtSlots d = ceilDiv slice 64) else dExtSlots d == 0)
    else
      dExtSlots d == 0 &&
      decide (dSourceOffset d + (s.group g).contributors * slice ≤ s.num (Obj.windowLength (dSourceWindow d)))) &&
  (dOpcode d == 5 || decide (dDestinationOffset d + s.resultBytes g d ≤
    s.num (Obj.targetLength (targetIndex h (dDestinationTarget d))))) &&
  decide (dCompletionOffset d + 32 * (count + 1) ≤ s.num (Obj.targetLength (targetIndex h (dCompletionTarget d))))

/-- Checks 1–6 of R55 in order: the first that fails decides. -/
def State.descriptorStatus (s : State) (g : Nat) (d : Bytes) : Nat :=
  let st := s.num (Obj.hoopState (s.hoopOfGroup g))
  if st = 5 then St.split
  else if st ≠ 2 then St.notPermittedInState
  else if s.num (Obj.groupState g) ≠ 1 then St.notPermittedInState
  else if dEpoch d ≠ s.num (Obj.groupEpoch g) then St.fenced
  else if dSequence d ≠ s.num (Obj.groupNextSequence g) then St.notPermittedInState
  else if !s.descriptorPermitted g d then St.accessDenied
  else if !s.descriptorFits g d then St.lenExceeded
  else St.ok

/-- Operations of a hoop that hold a context from a source (R60). -/
def State.contextsFrom (s : State) (source : Nat) (p : Nat → Bool) : Nat :=
  ((s.work.groups.filter fun c => p c.1).map fun c => (c.2.ops.filter fun o => o.source == source).length).sum

/-- ContextSharedRemainder (R62). -/
def State.sharedRemainder (s : State) : Nat :=
  65536 - (((List.range 16).filter fun h => s.num (Obj.hoopState h) != 0).map fun h => s.num (Obj.hoopContextMinimum h)).sum

/-- The first source that has a context free (R60); never one beyond the module's 65,536 (R59). -/
def State.contextSource (s : State) (g : Nat) : Option Nat :=
  let h := s.hoopOfGroup g
  if 65536 ≤ s.num Obj.contextsInUse then none
  else if s.num (Obj.groupInFlight g) < s.num (Obj.groupContextMinimum g) then some 0
  else if s.contextsFrom 1 (fun x => s.hoopOfGroup x == h) + s.num (Obj.hoopGroupMinimumSum h) <
      s.num (Obj.hoopContextMinimum h) then some 1
  else if s.contextsFrom 2 (fun _ => true) < s.sharedRemainder then some 2
  else none

/-- A descriptor that passes is accepted (R55, R56, R60, R63): an operation in Queued, its context written in the control region
(R189). -/
def State.acceptDescriptor (s : State) (g source slots : Nat) (d : Bytes) : State :=
  let h := s.hoopOfGroup g
  let w := dSourceWindow d
  let small := s.isSmall g
  let gen := if small then 0 else s.acceptedOf w
  let o : Operation := {
    seq := dSequence d, epoch := dEpoch d, desc := d, order := s.work.nextOrder, phase := 0, source := source, generation := gen,
    done := [], step := s.num (Obj.outerStepCounter h) }
  let x := s.group g
  let s1 := s.setGroup g { x with ops := x.ops ++ [o] }
  let s2 : State := { s1 with work := { s1.work with
    nextOrder := s1.work.nextOrder + 1
    accepted := if small then s1.work.accepted else Map.put 0 s1.work.accepted w (gen + 1) } }
  let s3 := (s2.setIndices g (s2.producer g) (s2.consumer g + slots)).bump 32 (Obj.groupNextSequence g) 1
  let s4 := (((s3.writeMirrored .control g o.seq 64).bump 16 (Obj.groupInFlight g) 1).bump 32 Obj.contextsInUse 1).bump 32 (Obj.hoopContextsInUse h) 1
  if small then s4.settleSmall g o.seq else s4

/-- A descriptor that fails is refused (R56): it consumes its slots, not its sequence number, and a Refused record is written
where one can be placed. -/
def State.refuseDescriptor (s : State) (g slots status : Nat) (d : Bytes) : State :=
  let h := s.hoopOfGroup g
  let s1 := s.setIndices g (s.producer g) (s.consumer g + slots)
  let s2 := (s1.bump 32 (Obj.groupRefusals g) 1).setNum (Obj.groupLastRefusal g) status
  match s2.chunkCount g d with
  | none => s2
  | some n =>
    if dCompletionOffset d + 32 * n + 32 ≤ s2.num (Obj.targetLength (targetIndex h (dCompletionTarget d))) then
      s2.writeRecord g d recRefused 0 status none n 0
    else s2

/-- A group of the hoop waits for a context (R61). -/
def State.hoopWaits (s : State) (h : Nat) : Bool := (s.groupsOf h).any fun g => (s.group g).waiting.isSome

/-- The head descriptor starts to wait for a context (R61). -/
def State.waitContext (s : State) (g : Nat) : State :=
  let h := s.hoopOfGroup g
  let first := !s.hoopWaits h
  let x := s.group g
  let s1 := s.setGroup g { x with waiting := some s.work.nextWait }
  let s2 : State := { s1 with work := { s1.work with nextWait := s1.work.nextWait + 1 } }
  let s3 := (s2.setNum (Obj.groupQueueStatus g) St.ctxExhausted).bump 64 Obj.ctxExhaustedWaits 1
  let s4 := s3.bump 64 (Obj.hoopCtxExhaustedWaits h) 1
  if first then s4.raise Ev.ctxExhausted { hoop := h, unit := g } else s4

/-- The lines of the first n entries at the consumer index that read uncorrectable (R184): the ring of a Small group does not lie in
module memory (R48). -/
def State.badSlots (s : State) (g n : Nat) : List Nat :=
  if s.memory.bad = [] ∨ s.isSmall g then []
  else (List.range n).flatMap fun i => s.regionBad .rings g ((s.consumer g + i) % max 1 (s.num (Obj.groupQueueDepth g))) 64

/-- A ring entry cannot be read: the consumer index stands (R184). -/
def State.slotUnreadable (s : State) (g : Nat) (lines : List Nat) : State :=
  (s.noteBadLines lines).raise Ev.queueUnreadable { hoop := s.hoopOfGroup g, unit := g }

/-- Examine the descriptors at the consumer index in order until the queue is empty, an entry is not yet covered or cannot be read, or
the head waits for a context (R55, R56, R61, R184). -/
def State.pumpQueue : Nat → State → Nat → State
  | 0, s, _ => s
  | fuel + 1, s, g =>
    let available := (s.producer g + 2 ^ 16 - s.consumer g) % 2 ^ 16
    if available = 0 ∨ (s.group g).waiting.isSome ∨ s.num (Obj.groupState g) = 0 then s
    else if s.badSlots g 1 ≠ [] then s.slotUnreadable g (s.badSlots g 1)
    else
      let ext := dExtSlots (s.ringSlot g (s.consumer g))
      let slots := if ext ≤ 4 then 1 + ext else 1
      if available < slots then s
      else if s.badSlots g slots ≠ [] then s.slotUnreadable g (s.badSlots g slots)
      else
        let d := (List.range slots).flatMap fun i => s.ringSlot g (s.consumer g + i)
        let st := s.descriptorStatus g d
        if st ≠ St.ok then State.pumpQueue fuel (s.refuseDescriptor g slots st d) g
        else
          match s.contextSource g with
          | some source => State.pumpQueue fuel (s.acceptDescriptor g source slots d) g
          | none => s.waitContext g

/-- Examine a group's queue (R55). -/
def State.pump (s : State) (g : Nat) : State := State.pumpQueue (s.num (Obj.groupQueueDepth g) + 1) s g

/-- A doorbell of a group's queue (R48, R49): one that would overrun the ring is discarded. -/
def State.ringDoorbell (s : State) (g value : Nat) : State :=
  let p := value % 2 ^ 16
  let ahead := (p + 2 ^ 16 - s.consumer g) % 2 ^ 16
  if s.num (Obj.groupQueueDepth g) < ahead then s.raise Ev.queueOverrun { hoop := s.hoopOfGroup g, unit := g }
  else (s.setIndices g p (s.consumer g)).pump g

/-- Write bytes into a group's ring (R48): the entries' lines read again (R184). -/
def State.writeRing (s : State) (g off : Nat) (b : Bytes) : State :=
  let x := s.group g
  let s1 := s.setGroup g { x with ring := x.ring.writeBytes off b }
  if s.isSmall g then s1
  else s1.clearLines ((List.range (ceilDiv (off % 64 + b.length) 64)).flatMap fun i => s.regionLines .rings g (off / 64 + i) 64)

/-- The group whose queue a window exposes. -/
def State.groupOfWindow (s : State) (w : Nat) : Option Nat :=
  (s.work.groups.map Prod.fst).find? fun g => s.num (Obj.groupState g) != 0 && s.num (Obj.groupQueueWindow g) == w

end Sys2Proof.Machine
end

