-- ==== Sys2Proof/Machine/Collectives.lean ====
section
/-! DEFINITION. The commands of collective operations (chapter 3) and of the digest exchange (R84): groups, queues, contexts, the
life of an operation, small collectives. -/

namespace Sys2Proof.Machine

open Sys2Proof

/-! ### Group definitions (R46, R493) -/

/-- Fields of a GroupDefinition (R46). -/
structure GroupDef where
  epoch : Nat
  first : Nat
  hoop : Nat
  kind : Nat
  depth : Nat
  contexts : Nat
  contributors : Nat
  bufferKib : Nat
  members : List Nat
deriving DecidableEq, Repr

/-- The fields that a definition's bytes hold. -/
def groupDef (b : Bytes) : GroupDef :=
  ⟨field b 0 4, field b 4 4, field b 8 1, field b 9 1, field b 10 2, field b 12 1, field b 16 2, field b 20 4,
    (List.range (field b 14 2)).map fun i => field b (24 + 2 * i) 2⟩

/-- The numbers rise strictly. -/
def ascending : List Nat → Bool
  | a :: b :: r => decide (a < b) && ascending (b :: r)
  | _ => true

/-- A queue depth that R46 allows: a power of two, 16–4,096 for Bulk, 16 or 32 for Small. -/
def depthOk (kind depth : Nat) : Bool :=
  (if kind = 0 then [16, 32, 64, 128, 256, 512, 1024, 2048, 4096] else [16, 32]).contains depth

/-- The definition meets R46 beside its Hoop field: length, ranges, reserved fields, members. -/
def State.defMeets (s : State) (h : Nat) (b : Bytes) : Bool :=
  let d := groupDef b
  let n := field b 14 2
  b.length == 24 + 2 * n && decide (1 ≤ n ∧ n ≤ 1024) && decide (d.kind ≤ 1) && depthOk d.kind d.depth &&
  decide (1 ≤ d.contexts ∧ d.contexts ≤ 64) && field b 13 1 == 0 && field b 18 2 == 0 &&
  decide (1 ≤ d.contributors ∧ d.contributors ≤ 4096) && ascending d.members && d.members.contains (s.ownAddress h)

/-- Every loaded plan entry that serves group g meets R93 with a number of contributors, where its slot holds an image. -/
def State.entriesFit (s : State) (h g contributors : Nat) : Bool :=
  let p := (s.hoop h).plan
  (planEntries p).all fun e =>
    let image := s.slotImage h (entrySlot e)
    entryGroup e != g || image == [] || zonesFit p e image contributors

/-- The lowest-numbered Free window from w on (R217). -/
def State.freeWindow : Nat → State → Nat → Option Nat
  | 0, _, _ => none
  | fuel + 1, s, w => if s.num (Obj.windowState w) = 0 then some w else State.freeWindow fuel s (w + 1)

/-- The Create checks of R493 in order. -/
def State.createStatus (s : State) (g : Nat) : Nat :=
  let b := s.bytes (Obj.groupDefinition g)
  let d := groupDef b
  let h := d.hoop
  let st := s.num (Obj.hoopState h)
  if s.num (Obj.groupState g) ≠ 0 then St.busy
  else if b.length < 24 ∨ 16 ≤ h then St.accessDenied
  else if st ≠ 1 ∧ st ≠ 2 ∧ st ≠ 4 then St.notPermittedInState
  else if !s.defMeets h b then St.accessDenied
  else if d.kind = 1 ∧ 1024 ≤ s.num Obj.smallGroupsOpen then St.capacityShortfall
  else if s.num (Obj.hoopContextMinimum h) < s.num (Obj.hoopGroupMinimumSum h) + d.contexts then St.capacityShortfall
  else if s.num (Obj.poolMinimum2 (4 * h + 2)) < s.reserveSum h + ceilDiv d.bufferKib 128 then St.capacityShortfall
  else if (State.freeWindow 16384 s 0).isNone then St.capacityShortfall
  else if !s.entriesFit h g d.contributors then St.capacityShortfall
  else St.ok

/-- Make a window live with a new generation and key (R217). -/
def State.openWindow (s : State) (w type h length : Nat) : State :=
  let s1 := (s.setNum (Obj.windowState w) type).bump 32 (Obj.windowGeneration w) 1
  let s2 := (s1.setNum (Obj.windowRemoteKey w) (s1.windowKey w)).setNum (Obj.windowHoop w) h
  let s3 := ((s2.setNum (Obj.windowLength w) length).setNum (Obj.windowPackets w) 0).bump 16 (Obj.hoopWindowsInUse h) 1
  { s3 with work := { s3.work with
    generation := Map.clear (fun k => k / 2 ^ 32 == w) s3.work.generation
    accepted := Map.put 0 s3.work.accepted w 0 } }

/-- A window becomes Free: its spills are freed. -/
def State.closeWindow (s : State) (w : Nat) : State :=
  let h := s.num (Obj.windowHoop w)
  let s1 := s.each (s.work.landings.filter fun l => l.window == w) fun t l => t.dropLanding h w l.generation l.chunk
  let s2 := s1.dropWaiting fun r => match r.purpose with
    | .spill win _ _ _ _ => win == w
    | _ => false
  (s2.setNum (Obj.windowState w) 0).lower (Obj.hoopWindowsInUse h) 1

/-- A shadow that is a member of an open group is Off (R339). -/
def State.endShadow (s : State) (h : Nat) (members : List Nat) : State :=
  if s.num (Obj.shadowState h) ≠ 0 ∧ members.contains (s.num Obj.fabricAddress) then s.setNum (Obj.shadowState h) 0 else s

/-- Create (R47): the group opens with its reserves, queue and window, and the digests are exchanged (R84). -/
def State.createGroup (s : State) (g : Nat) : State × Nat :=
  let st := s.createStatus g
  if st ≠ St.ok then (s, st)
  else
    let d := groupDef (s.bytes (Obj.groupDefinition g))
    let w := (State.freeWindow 16384 s 0).getD 0
    let s1 := s.each [(Obj.groupState g, 1), (Obj.groupHoop g, d.hoop), (Obj.groupKind g, d.kind), (Obj.groupEpoch g, d.epoch),
      (Obj.groupNextSequence g, d.first), (Obj.groupContextMinimum g, d.contexts), (Obj.groupQueueWindow g, w),
      (Obj.groupQueueDepth g, d.depth), (Obj.groupQueueIndices g, 0), (Obj.groupQueueStatus g, St.ok), (Obj.groupInFlight g, 0),
      (Obj.groupRefusals g, 0), (Obj.groupLastRefusal g, St.ok)] fun t x => t.setNum x.1 x.2
    let s2 := (s1.openWindow w 3 d.hoop (64 * d.depth + 4)).setGroup g {
      members := d.members, contributors := d.contributors, bufferKib := d.bufferKib }
    let s3 := (s2.bump 16 Obj.groupsOpen 1).bump 32 (Obj.hoopGroupMinimumSum d.hoop) d.contexts
    let s4 := if d.kind = 1 then s3.bump 16 Obj.smallGroupsOpen 1 else s3
    (((s4.settlePool d.hoop 2).endShadow d.hoop d.members).startExchange g, St.ok)

/-- The Reform checks of R493 in order. -/
def State.reformStatus (s : State) (g : Nat) : Nat :=
  let b := s.bytes (Obj.groupDefinition g)
  let d := groupDef b
  let h := s.hoopOfGroup g
  if s.num (Obj.groupState g) = 0 then St.notPermittedInState
  else if b.length < 24 then St.accessDenied
  else if d.epoch ≤ s.num (Obj.groupEpoch g) then St.fenced
  else if !s.defMeets h b || d.hoop != h || d.kind != s.num (Obj.groupKind g) || d.depth != s.num (Obj.groupQueueDepth g) ||
      d.contexts != s.num (Obj.groupContextMinimum g) || d.bufferKib != (s.group g).bufferKib then St.accessDenied
  else if !s.entriesFit h g d.contributors then St.capacityShortfall
  else St.ok

/-- The contribution that a VC1 segment carries (R256, R495). -/
def contributionOf (header payload : Bytes) : Contribution :=
  ⟨beNat (slice header 14 2), beNat (slice header 16 4), beNat (slice header 3 1), field payload 0 1, field payload 1 1,
    field payload 2 1, field payload 4 4, payload.drop 8⟩

/-- Fields of a VC2 header (R256). -/
def headerVc (header : Bytes) : Nat := beNat (slice header 0 1) % 8
def headerTag (header : Bytes) : Nat := beNat (slice header 3 1)
def headerOrigin (header : Bytes) : Nat := beNat (slice header 14 2)
def headerSequence (header : Bytes) : Nat := beNat (slice header 16 4)
def headerChunk (header : Bytes) : Nat := beNat (slice header 20 4)
def headerOffset (header : Bytes) : Nat := beNat (slice header 24 4)
def headerGroup (header : Bytes) : Nat := beNat (slice header 28 2) % 4096

/-- A segment that wale w holds ahead of its epoch is delivered (R260). -/
def State.deliverHeld (s : State) (w g : Nat) (e : Bytes × Bytes × Option Nat) : State :=
  if headerVc e.1 = 1 then s.takeContribution g (contributionOf e.1 e.2.1)
  else
    let x := s.stream g (headerSequence e.1) (headerChunk e.1) (headerOrigin e.1)
    let off := headerOffset e.1
    s.setStream { x with
      data := x.data.writeBytes off e.2.1, got := addRange x.got off (off + e.2.1.length), buffers := x.buffers ++ e.2.2.toList
      parts := x.parts ++ e.2.2.toList.map fun b => ⟨b, off, e.2.1.length, w, beNat (slice e.1 4 8)⟩ }

/-- The segments held ahead for a group: delivered where their tag is that of the new epoch, else discarded with their
buffers (R260). -/
def State.settleEarly (s : State) (g : Nat) (epoch : Option Nat) : State :=
  let h := s.hoopOfGroup g
  s.each (s.line.wales.map Prod.fst) fun t w =>
    let v := t.wale w
    let mine (e : Bytes × Bytes × Option Nat) : Bool := headerGroup e.1 == g
    let held := v.rx.early.filter mine
    if held = [] then t
    else
      let t1 := t.setWale w { v with rx := { v.rx with early := v.rx.early.filter fun e => !mine e } }
      t1.each held fun u e =>
        if epoch.map (· % 256) = some (headerTag e.1) then u.deliverHeld w g e else u.freeAll h e.2.2.toList

/-- What a Reform or Delete frees of a group: streams, exchange data, every buffer the group holds, and contributions of an epoch now
past (R204, R260). -/
def State.clearGroup (s : State) (g : Nat) (tag : Option Nat) : State :=
  let h := s.hoopOfGroup g
  let streams := s.work.streams.filter fun x => x.group == g
  let xs := s.work.exchanges.filter fun x => x.group == g
  let s1 : State := { s with work := { s.work with
    streams := s.work.streams.filter fun x => x.group != g
    exchanges := s.work.exchanges.filter fun x => x.group != g } }
  let s2 := s1.freeAll h (streams.flatMap SiteStream.buffers ++ xs.flatMap Exchange.buffers)
  let s2 := s2.freeAll h (s2.groupHandles h g)
  let x := s2.group g
  s2.setGroup g { x with contributions := x.contributions.filter fun c => some c.epoch == tag }

/-- Reform (R37, R47): pending operations end ST_ABORTED, the new epoch, sequence and membership hold, the digests are exchanged
again (R84), segments held for the new epoch are delivered (R260), and the queue's head is checked again (R65). -/
def State.reformGroup (s : State) (g : Nat) : State × Nat :=
  let st := s.reformStatus g
  if st ≠ St.ok then (s, st)
  else
    let d := groupDef (s.bytes (Obj.groupDefinition g))
    let s1 := (s.abortGroup g St.aborted).clearGroup g (some (d.epoch % 256))
    let s2 := ((s1.setNum (Obj.groupEpoch g) d.epoch).setNum (Obj.groupNextSequence g) d.first).setNum (Obj.groupState g) 1
    let s3 := (s2.setNum (Obj.groupQueueStatus g) St.ok).setGroup g { s2.group g with
      members := d.members, contributors := d.contributors, waiting := none }
    let h := s.hoopOfGroup g
    ((((s3.endShadow h d.members).startExchange g).settleEarly g (some d.epoch)).pump g, St.ok)

/-- A group becomes Free: reservations and window are released and its queue is cleared (R47). -/
def State.freeGroup (s : State) (g : Nat) : State :=
  let h := s.hoopOfGroup g
  let s1 := (s.clearGroup g none).settleEarly g none
  let s2 := (s1.closeWindow (s1.num (Obj.groupQueueWindow g))).lower Obj.groupsOpen 1
  let s3 := if s2.isSmall g then s2.lower Obj.smallGroupsOpen 1 else s2
  let s4 := s3.lower (Obj.hoopGroupMinimumSum h) (s3.num (Obj.groupContextMinimum g))
  let s5 := s4.each [(Obj.groupState g, 0), (Obj.groupQueueWindow g, 0xFFFF), (Obj.groupQueueDepth g, 0),
    (Obj.groupQueueIndices g, 0), (Obj.groupQueueStatus g, St.ok), (Obj.groupInFlight g, 0), (Obj.groupContextMinimum g, 0)]
    fun t x => t.setNum x.1 x.2
  (s5.setGroup g {}).settlePool h 2

/-- Delete (R47). -/
def State.deleteGroup (s : State) (g : Nat) : State × Nat :=
  if s.num (Obj.groupState g) = 0 then (s, St.notPermittedInState)
  else ((s.abortGroup g St.aborted).freeGroup g, St.ok)

/-- GROUP_CREATE (R47, R493). -/
def execGroupCreate (rq : Requester) (g : GroupNo) (s : State) : Host.Outcome State Fault Refusal :=
  .next (s.request rq (Obj.groupCommand g) (.num 1) none (reported (Obj.groupCommandStatus g) fun t => t.createGroup g))

/-- GROUP_REFORM (R47, R493). -/
def execGroupReform (rq : Requester) (g : GroupNo) (s : State) : Host.Outcome State Fault Refusal :=
  .next (s.request rq (Obj.groupCommand g) (.num 2) none (reported (Obj.groupCommandStatus g) fun t => t.reformGroup g))

/-- GROUP_DELETE (R47). -/
def execGroupDelete (rq : Requester) (g : GroupNo) (s : State) : Host.Outcome State Fault Refusal :=
  .next (s.request rq (Obj.groupCommand g) (.num 3) none (reported (Obj.groupCommandStatus g) fun t => t.deleteGroup g))

/-! ### Queues and contexts -/

/-- QUEUE_DOORBELL (R49): a doorbell that a queue pair of the hoop wrote through a Queue window. -/
def execQueueDoorbell (q : Qp) (w : Window) (value : BitVec 32) (s : State) : Host.Outcome State Fault Refusal :=
  match s.groupOfWindow w with
  | none => .next s
  | some g =>
    if (s.qp q).bound ∧ (s.qp q).hoop = s.hoopOfGroup g then .next (s.ringDoorbell g value.toNat) else .next s

/-- HostSubmit (R50). Where several outcomes apply, the group number is judged first, then the length, then whether the group is Free,
then the room in the ring: R50 gives no order (DESIGN CHOICE, log entry 148). -/
def State.hostSubmit (s : State) (data : Bytes) : State × Nat :=
  let g := field data 0 2
  let ext := field data 15 1 % 16
  let n := (data.length - 2) / 64
  if 4096 ≤ g then (s, St.accessDenied)
  else if data.length < 66 ∨ 4 < ext ∨ data.length ≠ 2 + 64 * (1 + ext) then (s, St.lenExceeded)
  else if s.num (Obj.groupState g) = 0 then (s, St.notPermittedInState)
  else
    let used := (s.producer g + 2 ^ 16 - s.consumer g) % 2 ^ 16
    let depth := s.num (Obj.groupQueueDepth g)
    if depth < used + n then (s, St.busy)
    else
      let s1 := s.each (List.range n) fun t i => t.writeRing g (64 * ((t.producer g + i) % depth)) (slice data (2 + 64 * i) 64)
      ((s1.setIndices g (s1.producer g + n) (s1.consumer g)).pump g, St.ok)

/-- HOST_SUBMIT (R50). -/
def execHostSubmit (rq : Requester) (data : Bytes) (s : State) : Host.Outcome State Fault Refusal :=
  .next (s.request rq Obj.hostSubmit (.blob data) none (reported Obj.hostSubmitStatus fun t => t.hostSubmit data))

/-- No other group with a context to take began to wait before group g (R61). -/
def State.longestWaiting (s : State) (g : Nat) : Bool :=
  match (s.group g).waiting with
  | none => false
  | some n => s.work.groups.all fun c => c.2.waiting.all fun m => decide (n ≤ m) || (s.contextSource c.1).isNone

/-- CONTEXT_GRANTED (R61): the descriptor that has waited longest takes a free context, after the checks from check 1. -/
def execContextGranted (g : GroupNo) (s : State) : Host.Outcome State Fault Refusal :=
  if s.longestWaiting g ∧ (s.contextSource g).isSome then
    let s1 := (s.setGroup g { s.group g with waiting := none }).setNum (Obj.groupQueueStatus g) St.ok
    .next (s1.pump g)
  else .next s

/-! ### The life of an operation -/

/-- The operation before one in its group, if any (R57). -/
def predecessor : List Operation → Nat → Option Operation
  | a :: b :: r, seq => if b.seq = seq then some a else predecessor (b :: r) seq
  | _, _ => none

/-- Every chunk of an operation has been dispatched: bound at some time (R57, R94). -/
def State.allDispatched (s : State) (g : Nat) (o : Operation) : Bool :=
  (s.workChunks g o).all fun i => (s.chunk (g, o.seq, i)).isSome

/-- The predecessor condition of R57. -/
def State.mayRun (s : State) (g : Nat) (o : Operation) : Bool :=
  match predecessor (s.group g).ops o.seq with
  | none => true
  | some p => !dFlag o.desc 3 && (p.phase != 0) && s.allDispatched g p

/-- The operation starts a step at the end of the hoop's autonomous window (R342). -/
def State.beyondWindow (s : State) (h : Nat) : Bool :=
  s.num (Obj.partitionState h) == 1 &&
    decide (s.num (Obj.partitionBaseStep h) + s.num (Obj.hoopAutonomousWindow h) ≤ s.num (Obj.outerStepCounter h))

/-- AutonomousSteps counts the step that the hoop's counter shows (R342). -/
def State.countAutonomous (s : State) (h : Nat) : State :=
  s.setNum (Obj.autonomousSteps h) (s.num (Obj.outerStepCounter h) + 1 - s.num (Obj.partitionBaseStep h))

/-- Operations of the hoop's current step may start (R341, R343): none while others run again; while the hoop reconciles, only those
of steps to reconcile, once the autonomous ones have ended. -/
def State.stepOpen (s : State) (h : Nat) : Bool :=
  !s.redoing h && (s.num (Obj.partitionState h) != 2 ||
    !s.autonomousLeft h && (s.hoop h).reconcile.any fun c => decide (s.num (Obj.outerStepCounter h) ≤ c.highest))

/-- OPERATION_RUN (R57, R63): its context is read from the control region (R184, R189) and the operation goes from Queued to Running,
with the step that the hoop's counter shows; in an autonomous step over the sites of the side (R342). Beyond the autonomous window
the hoop enters Split instead. A context of which no copy can be read does not run (log entry 138). -/
def execOperationRun (g : GroupNo) (seq : BitVec 32) (s : State) : Host.Outcome State Fault Refusal :=
  match s.operation g seq.toNat with
  | none => .next s
  | some o =>
    let h := s.hoopOfGroup g
    if o.phase ≠ 0 ∨ o.ending.isSome ∨ !s.mayRun g o ∨ !s.stepOpen h then .next s
    else if s.beyondWindow h then .next (s.enterSplit h)
    else if !(s.readMirrored .control g o.seq 64).2 then .next (s.readMirrored .control g o.seq 64).1
    else
      let autonomous := decide (s.num (Obj.partitionState h) = 1)
      let o' := { o with
        phase := 1, step := s.num (Obj.outerStepCounter h), side := if autonomous then s.num (Obj.partitionSide h) else 0xFFFF }
      let s0 := (s.readMirrored .control g o.seq 64).1.setOp g o'
      let s1 := if autonomous then s0.countAutonomous h else s0
      if s.isSmall g then .next ((s1.sendContribution g o').settleSmall g o.seq) else .next s1

/-- The chunk event "chunk done" of an operation (R63, R68, R155, R220). -/
def State.chunkIsDone (s : State) (g : Nat) (o : Operation) (i : Nat) : State :=
  let h := s.hoopOfGroup g
  let w := dSourceWindow o.desc
  let o' := { o with done := o.done ++ [i] }
  let s1 := s.setOp g o'
  if dFlag o.desc 0 && !s1.recordUsable g o.desc recChunkDone then s1.undeliverable g o.seq
  else
    let s2 := if dFlag o.desc 0 then s1.writeRecord g o.desc recChunkDone 0 St.ok (some i) i o'.done.length else s1
    let s3 := (s2.dropLanding h w o.generation i).advanceGen w i o.generation
    let s4 := match s3.recordOf g o i with
      | some r => if r.role = 1 then s3 else s3.dropStreams h g o.seq (streamIndex r i)
      | none => s3
    if (s4.workChunks g o).length ≤ o'.done.length then s4.finishOp g o.seq St.ok else s4

/-- CHUNK_DONE (R68): the chunk has executed CDONE and every packet of its results is acknowledged. -/
def execChunkDone (g : GroupNo) (seq : BitVec 32) (chunk : BitVec 32) (s : State) : Host.Outcome State Fault Refusal :=
  match s.operation g seq.toNat with
  | none => .next s
  | some o =>
    let i := chunk.toNat
    let ended := (s.chunk (g, o.seq, i)).any fun c => c.phase == 3
    if o.phase = 1 ∧ o.ending.isNone ∧ ended ∧ !o.done.contains i ∧ !s.resultPending g o.seq i then
      .next (s.chunkIsDone g o i)
    else .next s

/-- Every local slot of a chunk is complete (R74): a receiver's are empty. -/
def State.slotsComplete (s : State) (g : Nat) (o : Operation) (i : Nat) : Bool :=
  match s.entryOf g o, s.recordOf g o i with
  | some e, some r =>
    let l := s.landingD (dSourceWindow o.desc) o.generation i
    !r.lands || (List.range (s.group g).contributors).all fun c =>
      covered l.placed (c * slotStride e r) (c * slotStride e r + chunkBytes e r)
  | _, _ => false

/-- A chunk's input read uncorrectable (R63, R184): its input is void, a ChunkNotice asks for it again, and the chunk stops until
it has landed again. -/
def State.inputLost (s : State) (g : Nat) (o : Operation) (i : Nat) : State :=
  let h := s.hoopOfGroup g
  let w := dSourceWindow o.desc
  match s.chunk (g, o.seq, i) with
  | none => s
  | some c =>
    let s1 := s.dropLanding h w o.generation i
    let s2 := s1.setChunk { c with resupply := true, phase := if c.phase = 2 then 1 else c.phase }
    let x := s2.tile c.tile
    let s3 := if c.phase = 2 ∧ x.running = some c.key then
      s2.setTile c.tile x.stop else s2
    if s3.recordUsable g o.desc recChunkNotice then
      s3.writeRecord g o.desc recChunkNotice 1 St.uncorrectable (some i) i o.done.length
    else s3.undeliverable g o.seq

/-- RESUPPLY_LANDED (R63): the timer stops; the chunk runs again from its start. -/
def execResupplyLanded (g : GroupNo) (seq : BitVec 32) (chunk : BitVec 32) (s : State) : Host.Outcome State Fault Refusal :=
  match s.operation g seq.toNat, s.chunk (g.val, seq.toNat, chunk.toNat) with
  | some o, some c => if c.resupply ∧ s.slotsComplete g o c.index then .next (s.setChunk { c with resupply := false }) else .next s
  | _, _ => .next s

/-- RESUPPLY_TIMEOUT (R63). -/
def execResupplyTimeout (g : GroupNo) (seq : BitVec 32) (chunk : BitVec 32) (s : State) : Host.Outcome State Fault Refusal :=
  if (s.chunk (g.val, seq.toNat, chunk.toNat)).any Chunk.resupply then .next (s.finishOp g seq.toNat St.uncorrectable)
  else .next s

/-- Members of the hoop's open groups at a site (R340). -/
def State.siteMembers (s : State) (h site : Nat) : List Nat :=
  (((s.groupsOf h).filter fun g => s.num (Obj.groupState g) == 1).flatMap fun g => (s.group g).members).filter fun a =>
    siteOf a == site

/-- The cut-off rule covers a site of a hoop (R340): the hoop has an autonomous window, and every member at the site has been
suspected for PartitionHold. -/
def State.cutOff (s : State) (h site : Nat) : Bool :=
  let m := s.siteMembers h site
  s.num (Obj.hoopAutonomousWindow h) != 0 && m != [] && m.all fun a =>
    (Map.get none s.net.suspected a).any fun since => decide (since + s.num Obj.partitionHold * 1000000 ≤ s.now)

/-- MEMBER_LOST (R63, R331): every group that the member belongs to breaks, unless the cut-off rule covers its site. -/
def execMemberLost (member : FabAddr) (s : State) : Host.Outcome State Fault Refusal :=
  let m := member.toNat
  let groups := (s.work.groups.map Prod.fst).filter fun g => s.num (Obj.groupState g) != 0 && (s.group g).members.contains m
  .next (s.each (groups.filter fun g => !s.cutOff (s.hoopOfGroup g) (siteOf m)) fun t g => t.breakGroup g)

/-! ### Small collectives and digests -/

/-- SMALL_CONTRIBUTION_RECEIVED (R70, R260, R495). -/
def execSmallContributionReceived (g : GroupNo) (member : FabAddr) (epoch seq : BitVec 32)
    (opcode elementType reduceOp : BitVec 8) (elementCount : BitVec 48) (payload : Bytes) (s : State) :
    Host.Outcome State Fault Refusal :=
  .next (s.takeContribution g ⟨member.toNat, seq.toNat, epoch.toNat % 256, opcode.toNat, elementType.toNat, reduceOp.toNat,
    elementCount.toNat, payload⟩)

/-- REPRO_DIGEST_RECEIVED (R84, R173): a difference is reported and a mismatch stands until every member's digest and version
agree. A digest that comes while the group is still Free here is dropped, and is not compared when the group is created: the spec says
nothing of it (DESIGN CHOICE, log entry 149). -/
def execReproDigestReceived (g : GroupNo) (peer : FabAddr) (digest : Bytes) (version : BitVec 32) (s : State) :
    Host.Outcome State Fault Refusal :=
  let h := s.hoopOfGroup g
  let x := s.group g
  if s.num (Obj.groupState g) = 0 ∨ !x.members.contains peer.toNat then .next s
  else
    let bad := digest != s.reproDigest h || version.toNat != s.num Obj.arithmeticVersion
    let heard := (x.heard.filter fun m => m.1 != peer.toNat) ++ [(peer.toNat, digest, version.toNat)]
    let s1 := s.setGroup g { x with heard := heard }
    let s2 := s1.setGroup g { s1.group g with stands := (x.stands || bad) && !s1.allAgree g }
    .next (if bad then s2.raise Ev.reproMismatch { hoop := h, unit := g, detail := peer.toNat } else s2)

end Sys2Proof.Machine
end

