-- ==== Sys2Proof/Machine/Landing.lean ====
section
/-! DEFINITION. Placement of fabric writes (R74, R96, R219, R220): input windows, spills, Buffer windows, submission rings. -/

namespace Sys2Proof.Machine

open Sys2Proof

/-- The outcome of placing the bytes of one packet: placed, with how many bytes, or a placement wait (R220). -/
inductive Placing where
  | placed (s : State) (bytes : Nat)
  | wait (s : State)

/-- Bytes [off, off + len) of a landing chunk's slice c, as the chunk's schedule cuts a packet (R220). -/
structure SlotPiece where
  chunk : Nat
  contributor : Nat
  off : Nat
  len : Nat
  /-- Place of the bytes within the packet. -/
  from_ : Nat
deriving DecidableEq, Repr

/-- First byte and length of chunk i in each slice (R220). -/
def chunkSpan (p e : Bytes) (i : Nat) : Nat × Nat :=
  let c := chunkRecord p e i
  (c.elementBase * elementBytes (entryType e), chunkBytes e c)

/-- Cut the bytes [o, o + n) of an input window into pieces of landing chunks; bytes that no chunk holds are left out. -/
def slotPieces (spans : List (Nat × Nat × Nat)) (sb : Nat) : Nat → Nat → Nat → Nat → List SlotPiece
  | 0, _, _, _ => []
  | fuel + 1, o, n, at_ =>
    if n = 0 ∨ sb = 0 then []
    else
      let c := o / sb
      let r := o % sb
      match spans.find? fun x => decide (x.2.1 ≤ r ∧ r < x.2.1 + x.2.2) with
      | some x =>
        let len := min n (x.2.1 + x.2.2 - r)
        ⟨x.1, c, r - x.2.1, len, at_⟩ :: slotPieces spans sb fuel (o + len) (n - len) (at_ + len)
      | none =>
        let next := (spans.filter fun x => decide (r < x.2.1)).foldl (fun m x => min m x.2.1) sb
        let len := min n (next - r)
        slotPieces spans sb fuel (o + len) (n - len) (at_ + len)

/-- The live operation of a generation of an input window. -/
def State.opOfGeneration (s : State) (g w gen : Nat) : Option Operation :=
  (s.group g).ops.find? fun o => o.ending.isNone && dSourceWindow o.desc == w && o.generation == gen

/-- The tile and zone base of the chunk of a generation, where it is bound to a zone and has not released it. -/
def State.boundZone (s : State) (g w gen i : Nat) : Option (Nat × Nat) :=
  (s.opOfGeneration g w gen).bind fun o => (s.chunk (g, o.seq, i)).bind fun c =>
    if (c.phase = 1 ∨ c.phase = 2) ∧ (s.tile c.tile).zone c.zone = some c.key then some (c.tile, zoneBase c.image c.zone) else none

/-- Spill buffer piece of an offset in a slot, and the class of that piece for a slot of n bytes (R220). -/
def spillPiece (off : Nat) : Nat := off / frameBytes
def spillClass (n piece : Nat) : Nat :=
  (classFor (min frameBytes (n - piece * frameBytes))).getD 3

/-- The spill buffer of a landing's (contributor, piece). -/
def Landing.buffer (l : Landing) (c piece : Nat) : Option Nat :=
  (l.buffers.find? fun b => b.1 == (c, piece)).map Prod.snd

/-- Have a spill buffer for a landing's (contributor, piece): held already, granted now, or none where the request waits. -/
def State.spillBuffer (s : State) (h w gen i c piece n : Nat) : State × Bool :=
  let l := s.landingD w gen i
  if (l.buffer c piece).isSome then (s, true)
  else
    let r : PoolRequest := ⟨h, 0, none, spillClass n piece, .spill w gen i c piece⟩
    if s.pools.waiting.contains r then (s, false)
    else match s.poolRequest h 0 none r.cls with
      | some (t, handle) => (t.giveHandle r handle, true)
      | none => (s.startWait r, false)

/-- Write spilled bytes of a slot into its buffers, piece by piece (R96, R220). -/
def State.spillBytes : Nat → State → Landing → Nat → Nat → Bytes → State
  | 0, s, _, _, _, _ => s
  | fuel + 1, s, l, c, off, b =>
    if b = [] then s
    else
      let piece := spillPiece off
      let len := min b.length (frameBytes - off % frameBytes)
      let s1 := match (l.buffer c piece).bind s.handleAddress with
        | some a => s.store (a + off % frameBytes) (b.take len)
        | none => s
      State.spillBytes fuel s1 l c (off + len) (b.drop len)

/-- Spilled bytes of a slot read back from its buffers (R96). -/
def State.spilled : Nat → State → Landing → Nat → Nat → Nat → Bytes
  | 0, _, _, _, _, _ => []
  | fuel + 1, s, l, c, off, n =>
    if n = 0 then []
    else
      let len := min n (frameBytes - off % frameBytes)
      let rest := State.spilled fuel s l c (off + len) (n - len)
      match (l.buffer c (spillPiece off)).bind s.handleAddress with
      | some a => s.load (a + off % frameBytes) len ++ rest
      | none => List.replicate len 0 ++ rest

/-- A write into a complete slot is discarded: counted, and reported once per episode of the hoop (R74). -/
def State.discardWrite (s : State) (h : Nat) : State :=
  let x := s.hoop h
  let s1 := (s.setHoop h { x with lastDiscard := some s.now }).bump 64 (Obj.hoopLandingDiscards h) 1
  let fresh := x.lastDiscard.all fun t => decide (t + 1000000 ≤ s.now)
  if fresh then s1.raise Ev.landingDiscard { hoop := h } else s1

/-- A spilled write is counted, and reported once per episode of the hoop (R96). -/
def State.noteSpill (s : State) (h : Nat) : State :=
  let x := s.hoop h
  let s1 := s.bump 64 Obj.landingSpills 1
  if x.spilling then s1 else (s1.setHoop h { x with spilling := true }).raise Ev.landingSpill { hoop := h }

/-- The hoop's spill episode ends when it has no spilled bytes left to copy (R96). -/
def State.settleSpill (s : State) (h : Nat) : State :=
  let spills := s.work.landings.any fun l => l.buffers != [] && s.num (Obj.windowHoop l.window) == h
  let x := s.hoop h
  if x.spilling && !spills then s.setHoop h { x with spilling := false } else s

/-- The input window's entry, group and hoop. -/
def State.windowEntry (s : State) (w : Nat) : Option Bytes :=
  planEntry (s.hoop (s.num (Obj.windowHoop w))).plan (s.num (Obj.windowPlanEntry w))

/-- Where a write of a Buffer window meets what a load reads that has not completed, the bytes that the chunk reads are undefined
(R217). -/
def LoadPiece.spoil (b parity off n : Nat) (x : LoadPiece) : LoadPiece :=
  let lo := max off x.off
  let hi := min (off + n) (x.off + x.len)
  if x.buffer = b ∧ x.parity = parity ∧ lo < hi then { x with torn := addRange x.torn (lo - x.off) (hi - x.off) } else x

/-- The same for the loads that a tile has outstanding (R110). -/
def TileData.spoil (b parity off n : Nat) (x : TileData) : TileData :=
  let l := Map.get [] x.queues 3
  let spoiled := l.map fun j => match j.op with
    | .load p => { j with op := .load (p.map (LoadPiece.spoil b parity off n)) }
    | _ => j
  { x with queues := Map.put [] x.queues 3 spoiled }

/-- A write of a Buffer window (R217). -/
def State.writeWindow (s : State) (h b parity off : Nat) (data : Bytes) : State :=
  let tiles := (s.tiles.filter fun c => c.2.running.any fun k => s.hoopOfGroup k.1 == h).map Prod.fst
  (s.writePlan h b parity off data).each tiles fun t i => t.setTile i ((t.tile i).spoil b parity off data.length)

/-- The messages that queue pairs other than q are in the middle of. -/
def State.receiving (s : State) (q : Nat) : List (Nat × Nat) :=
  (s.fabric.qps.filter fun c => c.1 != q && c.2.inbound.isSome).map fun c => (c.1, c.2.messages)

/-- The ranges of a landing that another queue pair writes at once with queue pair q (R74): its message goes on, or it was received while
q's was. -/
def State.others (s : State) (l : Landing) (q : Nat) : List (Nat × Nat) :=
  (l.writers.filter fun x => x.qp != q &&
    ((s.receiving q).contains (x.qp, x.message) || x.during.contains (q, (s.qp q).messages))).map fun x => (x.lo, x.hi)

/-- The bytes that a write leaves where another queue pair writes at once: their value is undefined (R74). -/
def State.mixed (s : State) (others : List (Nat × Nat)) (a : Nat) (data : Bytes) : State × Bytes :=
  if others.any fun r => decide (max a r.1 < min (a + data.length) r.2) then
    (s.tookFree, (data.zip (leBytes data.length (s.freeNat (8 * data.length)))).zipIdx.map fun x =>
      if others.any fun r => decide (r.1 ≤ a + x.2 ∧ a + x.2 < r.2) then x.1.2 else x.1.1)
  else (s, data)

/-- Place one piece of a chunk's slot, written through queue pair q (R220): none for a placement wait. The flag says that bytes
were placed; `full` that the receive buffer of the chunk's tile has no room. Each piece that goes to a spill buffer counts as one spilled write: R96 does not say whether a message,
a packet or a part of one is (DESIGN CHOICE, log entry 150). -/
def State.placePiece (s : State) (q w parity : Nat) (e : Bytes) (x : SlotPiece) (bytes : Bytes) (o : Nat) (full : Bool) : Option (State × Bool) :=
  let h := s.num (Obj.windowHoop w)
  let g := s.num (Obj.windowGroup w)
  let p := (s.hoop h).plan
  let r := chunkRecord p e x.chunk
  let gen := s.genOf w x.chunk
  let n := chunkBytes e r
  let stride := slotStride e r
  let slot := x.contributor * stride
  let l := s.landingD w gen x.chunk
  let fill (t : State) : State :=
    let l' := t.landingD w gen x.chunk
    t.setLanding { l' with
      placed := addRange l'.placed (slot + x.off) (slot + x.off + x.len)
      writers := ⟨q, (s.qp q).messages, slot + x.off, slot + x.off + x.len, s.receiving q⟩ :: l'.writers }
  if (s.group g).contributors ≤ x.contributor ∨ s.num (Obj.hoopState h) = 6 then some (s, false)
  else if covered l.placed slot (slot + n) then some (s.discardWrite h, false)
  else
    let m := s.mixed (s.others l q) (slot + x.off) bytes
    let data := m.2
    let foreign := s.foreignPlan h (s.num (Obj.windowBuffer w)) parity (s.num (Obj.windowBufferOffset w) + o) data.length
    if s.num (Obj.windowState w) = 2 then
      if foreign.isSome then some (s.ownerFault h (foreign.getD 0), false)
      else some (fill (m.1.writeWindow h (s.num (Obj.windowBuffer w)) parity (s.num (Obj.windowBufferOffset w) + o) data), true)
    else
      match s.boundZone g w gen x.chunk with
      | some (t, base) =>
        if full then none else
        let a := slot + x.off
        let keep (u : State) : State :=
          let l' := u.landingD w gen x.chunk
          u.setLanding { l' with data := l'.data.writeBytes a data, saved := addRange l'.saved a (a + x.len) }
        some (keep (fill (m.1.storeTile t (base + a) data)), true)
      | none =>
        let pieces := List.range (spillPiece (x.off + x.len - 1) + 1 - spillPiece x.off) |>.map (· + spillPiece x.off)
        let got := pieces.foldl (fun (a : State × Bool) k =>
          if a.2 then a.1.spillBuffer h w gen x.chunk x.contributor k n else a) (m.1, true)
        let held := (got.1.landingD w gen x.chunk).buffers.map Prod.snd
        if got.2 ∧ (got.1.foreignHandle h held).isSome then some (got.1.ownerFault h ((got.1.foreignHandle h held).getD 0), false)
        else if got.2 then
          let s1 := (State.spillBytes (pieces.length + 1) got.1 (got.1.landingD w gen x.chunk) x.contributor x.off data).noteSpill h
          some (fill s1, true)
        else none

/-- The state that a placement wait leaves: requests for spill buffers that now wait (R200, R220). -/
def State.waitForSpills (s : State) (w : Nat) (e : Bytes) (xs : List SlotPiece) : State :=
  let h := s.num (Obj.windowHoop w)
  let g := s.num (Obj.windowGroup w)
  s.each xs fun t x =>
    let r := chunkRecord (t.hoop h).plan e x.chunk
    let gen := t.genOf w x.chunk
    let done := covered (t.landingD w gen x.chunk).placed (x.contributor * slotStride e r)
      (x.contributor * slotStride e r + chunkBytes e r)
    if (t.boundZone g w gen x.chunk).isSome ∨ done ∨ (t.group g).contributors ≤ x.contributor then t
    else (List.range (spillPiece (x.off + x.len - 1) + 1 - spillPiece x.off)).foldl
      (fun u k => (u.spillBuffer h w gen x.chunk x.contributor (k + spillPiece x.off) (chunkBytes e r)).1) t

/-- Place the pieces of a packet in an input window: all of them, or none where one waits. -/
def State.placeInput (s : State) (q w parity o : Nat) (data : Bytes) (full : Bool) : Placing :=
  match s.windowEntry w with
  | none => .placed s 0
  | some e =>
    let p := (s.hoop (s.num (Obj.windowHoop w))).plan
    let spans := (landingChunks p e).map fun i => (i, chunkSpan p e i)
    let xs := slotPieces spans (s.num (Obj.windowSliceBytes w)) (data.length + 1) o data.length 0
    let r := xs.foldl (fun (a : Option (State × Nat)) x => a.bind fun b =>
      (b.1.placePiece q w parity e x (slice data x.from_ x.len) (o + x.from_) full).map fun c =>
        (c.1, if c.2 then b.2 + x.len else b.2)) (some (s, 0))
    match r with
    | some (t, n) => .placed t n
    | none => .wait (s.waitForSpills w e xs)

/-- Write bytes at an offset of a window's Queue: ring entries, and the doorbell behind them (R48, R49). -/
def State.placeQueue (s : State) (w o : Nat) (data : Bytes) : State :=
  match s.groupOfWindow w with
  | none => s
  | some g =>
    let ring := 64 * s.num (Obj.groupQueueDepth g)
    let s1 := if o < ring then s.writeRing g o (data.take (ring - o)) else s
    let bell := data.drop (ring - o)
    if ring ≤ o + data.length ∧ bell ≠ [] ∧ o ≤ ring then s1.ringDoorbell g (leNat (bell.take 2)) else s1

/-- Place the bytes of a packet at an offset of a window (R217, R219, R220). -/
def State.placePacket (s : State) (q w parity o : Nat) (data : Bytes) (full : Bool) : Placing :=
  let st := s.num (Obj.windowState w)
  if st = 3 then .placed (s.placeQueue w o data) data.length
  else if s.num (Obj.windowGroup w) ≠ 0xFFFF then s.placeInput q w parity o data full
  else if st = 2 then
    let h := s.num (Obj.windowHoop w)
    let b := s.num (Obj.windowBuffer w)
    let off := s.num (Obj.windowBufferOffset w) + o
    match s.foreignPlan h b parity off data.length with
    | some f => .placed (s.ownerFault h f) 0
    | none => .placed (s.writeWindow h b parity off data) data.length
  else .placed s 0

/-- The parity at which a window reaches its buffer (R217): the hoop's read parity on a Double buffer. -/
def State.windowParity (s : State) (w : Nat) : Nat :=
  let h := s.num (Obj.windowHoop w)
  if (planBuffer (s.hoop h).plan (s.num (Obj.windowBuffer w))).double then s.num (Obj.outerStepCounter h) % 2 else 0

end Sys2Proof.Machine
end

