-- ==== Sys2Proof/Machine/Fabric.lean ====
section
/-! DEFINITION. The commands of the fabric ports (chapter 11): ports and training, Ethernet and IPv6, the RoCEv2 responder and
requester, queue pairs, memory windows, remote targets. -/

namespace Sys2Proof.Machine

open Sys2Proof

/-! ### Ports (R208–R210) -/

/-- MAC of port p, first lane and lane count of the port at the width taken at the last training (R21). -/
def portMac (p : Nat) : Nat := p / 2
def State.portLanes (s : State) (p : Nat) : List Nat :=
  let n := (s.port p).width
  (List.range n).map fun i => 4 * p + i

/-- The four-lane half of an eight-lane port: lanes 0–3 or 4–7 (R210). -/
def halfLanes (p half : Nat) : List Nat := (List.range 4).map fun i => 4 * p + 4 * half + i

/-- The lanes that a port trains and carries traffic on. -/
def State.activeLanes (s : State) (p : Nat) : List Nat :=
  match (s.port p).half with
  | some k => halfLanes p k
  | none => s.portLanes p

/-- Lane rate at which a port trains (R208). -/
def State.trainRate (s : State) (p : Nat) : Nat :=
  if (s.port p).mode = 2 ∨ ((s.port p).mode = 0 ∧ (s.port p).fallback) then 200 else 400

/-- Take a port down and train it on the lanes that it may use (R208, R210): enabled lanes train, others are Off. In Auto mode each
training offers 400 Gbit/s first. -/
def State.trainPort (s : State) (p : Nat) : State :=
  let s0 := s.setPort p { s.port p with fallback := false, txReversed := false }
  let s1 := ((s0.setNum (Obj.portState p) 2).setNum (Obj.portRate p) 0).setNum (Obj.portLanesActive p) 0
  s1.each (s1.activeLanes p) fun t l =>
    (t.setNum (Obj.laneState l) (if t.flag (Obj.laneEnable l) then 1 else 0)).setNum (Obj.laneRate l) 0

/-- Train the ports of a MAC with its configured width and rate (R21, R208). -/
def State.trainMac (s : State) (n : Nat) : State :=
  let four := s.num (Obj.macWidth n) == 1
  let mode := s.num (Obj.macLaneRate n)
  let fresh (t : State) (p width : Nat) : State :=
    t.setPort p { t.port p with mode := mode, width := width, fallback := false, half := none }
  let s1 := (fresh s (2 * n) (if four then 4 else 8)).trainPort (2 * n)
  if four then (fresh s1 (2 * n + 1) 4).trainPort (2 * n + 1)
  else
    let s2 := fresh s1 (2 * n + 1) 0
    ((s2.setNum (Obj.portState (2 * n + 1)) 0).setNum (Obj.portRate (2 * n + 1)) 0).setNum (Obj.portLanesActive (2 * n + 1)) 0

/-- MAC_RETRAIN (R208). -/
def execMacRetrain (rq : Requester) (n : Mac) (s : State) : Host.Outcome State Fault Refusal :=
  .next (s.request rq (Obj.macCommand n) (.num 1) none (reported (Obj.macCommandStatus n) fun t => (t.trainMac n, St.ok)))

/-- LANE_LOCK_TIMEOUT (R208): in Auto mode the port falls back to 200 Gbit/s; a port held to 400 Gbit/s retries. -/
def execLaneLockTimeout (p : Port) (s : State) : Host.Outcome State Fault Refusal :=
  if s.num (Obj.portState p) = 2 ∧ (s.port p).mode = 0 then .next (s.setPort p { s.port p with fallback := true }) else .next s

/-- Rate of a port in Mbit/s. -/
def State.portMbit (s : State) (p : Nat) : Nat := s.num (Obj.portRate p) * 1000

/-- Rates of the queue pairs bound to a port: none above the port's, and a pair that had none takes it (R214). -/
def State.capRates (s : State) (p : Nat) : State :=
  s.each (s.fabric.qps.map Prod.fst) fun t q =>
    if (t.qp q).port = p ∧ t.num (Obj.qpState q) ≠ 0 then
      let r := t.num (Obj.qpRate q)
      t.setNum (Obj.qpRate q) (if r = 0 then t.portMbit p else min r (t.portMbit p))
    else t

/-- PORT_TRAINING_COMPLETE (R209, R210): lane order and polarity are corrected and reported; at 400 Gbit/s the transmit order is
reversed when the partner reports it so; the port is Up, or Degraded on its healthy half; packets that waited leave. -/
def execPortTrainingComplete (p : Port) (lanes : List (Nat × Bool)) (reversed : Bool) (s : State) : Host.Outcome State Fault Refusal :=
  if s.num (Obj.portState p) ≠ 2 then .next s
  else
    let active := s.activeLanes p
    let rate := s.trainRate p
    let degraded := (s.port p).half.isSome
    let s1 := s.each (active.zip lanes) fun t x =>
      (((t.setNum (Obj.laneState x.1) 2).setNum (Obj.laneRate x.1) rate).setNum (Obj.lanePartnerLane x.1) x.2.1).setFlag
        (Obj.laneRxPolarityInverted x.1) x.2.2
    let s2 := ((s1.setNum (Obj.portState p) (if degraded then 4 else 3)).setNum (Obj.portRate p) (rate * active.length)).setNum
      (Obj.portLanesActive p) active.length
    let s2 := s2.setPort p { s2.port p with txReversed := reversed && rate == 400 }
    let s3 := if degraded then s2.raise Ev.portDegraded { die := fDie (p / 8), unit := p } else s2
    .next ((s3.capRates p).flushPort p)

/-- The port that a lane belongs to at present, if it is present (R21). -/
def State.portOfLane (s : State) (l : Nat) : Option Nat :=
  [2 * (l / 8), 2 * (l / 8) + 1].find? fun p => (s.portLanes p).contains l && s.num (Obj.portState p) != 0

/-- FABRIC_LANE_FAIL (R210). -/
def execFabricLaneFail (l : FabLane) (s : State) : Host.Outcome State Fault Refusal :=
  let s1 := (s.setNum (Obj.laneState l) 3).raise Ev.fabricLaneFail { die := fDie (l / 32), unit := l }
  match s1.portOfLane l with
  | none => .next s1
  | some p =>
    if (s1.port p).width = 8 ∧ s1.trainRate p = 400 then
      let healthy (k : Nat) : Bool := (halfLanes p k).all fun j => s1.num (Obj.laneState j) != 3
      match [0, 1].find? healthy with
      | some k =>
        if (s1.port p).half = some k then .next s1
        else .next ((s1.setPort p { s1.port p with half := some k }).trainPort p)
      | none =>
        .next (((s1.setNum (Obj.portState p) 1).setNum (Obj.portRate p) 0).setNum (Obj.portLanesActive p) 0)
    else .next (s1.trainPort p)

/-- FABRIC_LINK_HOLD_EXPIRY (R210, R216): the queue pairs of a port that is not back enter Error. -/
def execFabricLinkHoldExpiry (p : Port) (s : State) : Host.Outcome State Fault Refusal :=
  if s.portUp p then .next s
  else .next (s.each ((s.fabric.qps.filter fun c => c.2.bound && c.2.port == p.val).map Prod.fst) fun t q => t.qpError q 4)

/-! ### Ethernet, IPv6 and ICMPv6 (R211, R222) -/

/-- EtherType and the offset of what follows, after at most one tag; none for a tag of another VLAN (R211). -/
def etherOf (vlan : Nat) (b : Bytes) : Option (Nat × Nat) :=
  let t := beNat (slice b 12 2)
  if t = 0x8100 then
    if beNat (slice b 14 2) % 4096 = vlan then some (beNat (slice b 16 2), 18) else none
  else some (t, 14)

/-- The frame is one that the port implements (R211). `ip` of the result says that it is a RoCEv2 packet. -/
def State.frameImplemented (s : State) (p : Nat) (b : Bytes) : Bool × Bool :=
  match etherOf (s.num (Obj.portVlan p)) b with
  | none => (false, false)
  | some (t, o) =>
    if 4224 < b.length then (false, false)
    else if t = 0x8808 then (beNat (slice b o 2) == 0x0101, false)
    else if t ≠ 0x86DD then (false, false)
    else
      let own := s.bytes (Obj.portAddress p)
      let here := own != [] && slice b (o + 24) 16 == own
      let next := beNat (slice b (o + 6) 1)
      let kind := beNat (slice b (o + 40) 1)
      if next = 17 then (here && beNat (slice b (o + 42) 2) == 4791, true)
      else if next = 58 then
        ((kind == 135 && own != [] && slice b (o + 48) 16 == own) || (here && (kind == 136 || kind == 128)), false)
      else (false, false)

/-- FABRIC_FRAME_RECEIVED (R211, R222): a bad FCS, a frame outside R211 and a bad ICRC are dropped and counted; what a good frame
carries is the command of its own row. -/
def execFabricFrameReceived (p : Port) (frame : Bytes) (fcsOk icrcOk : Bool) (s : State) : Host.Outcome State Fault Refusal :=
  let r := s.frameImplemented p frame
  if !fcsOk then .next (s.bump 64 (Obj.portFcsErrors p) 1)
  else if !r.1 then .next (s.bump 64 (Obj.portRxDiscards p) 1)
  else if r.2 && !icrcOk then .next (s.bump 64 (Obj.portIcrcErrors p) 1)
  else .next s

/-- PFC_FRAME_RECEIVED (R211): pauses the priorities that the frame and PortPfcMask enable; a pause of 0 quanta resumes. -/
def execPfcFrameReceived (p : Port) (enabled : BitVec 8) (quanta : List Nat) (s : State) : Host.Outcome State Fault Refusal :=
  let named := bitList 8 (enabled.toNat &&& s.num (Obj.portPfcMask p))
  let stop := named.filter fun k => quanta[k]?.getD 0 != 0
  let x := s.port p
  let paused := (x.paused.filter fun k => !named.contains k) ++ stop
  .next ((s.setPort p { x with paused := paused }).flushPort p)

/-- PFC_PAUSE_EXPIRY (R211). -/
def execPfcPauseExpiry (p : Port) (priority : Fin 8) (s : State) : Host.Outcome State Fault Refusal :=
  let x := s.port p
  .next ((s.setPort p { x with paused := x.paused.filter fun k => k != priority.val }).flushPort p)

/-- NEIGHBOR_SOLICITATION_RECEIVED (R211): answered for PortAddress with PortMacAddress. -/
def execNeighborSolicitationReceived (p : Port) (target source : Bytes) (s : State) : Host.Outcome State Fault Refusal :=
  let own := s.bytes (Obj.portAddress p)
  if own ≠ [] ∧ target = own then
    .next (s.emit (.icmp p (s.ipHead p source 255 0 0) 136 (target ++ beBytes 6 (Config.portMacAddress p).toNat)))
  else .next s

/-- The answers of a port that wait for a next hop leave (R211). -/
def State.releaseUnsent (s : State) (p : Nat) (hop : Bytes) : State :=
  let x := s.port p
  let s1 := s.setPort p { x with unsent := x.unsent.filter fun y => y.1 != hop }
  s1.each ((x.unsent.filter fun y => y.1 == hop).map Prod.snd) State.emit

/-- NEIGHBOR_ADVERTISEMENT_RECEIVED (R211): resolves a next hop of a queue pair on the port; what waited for it leaves. -/
def execNeighborAdvertisementReceived (p : Port) (target mac : Bytes) (s : State) : Host.Outcome State Fault Refusal :=
  let hop := s.fabric.qps.any fun c => c.2.bound && c.2.port == p.val && s.bytes (Obj.qpRemoteAddress c.1) == target
  let x := s.port p
  if hop then
    let s1 := s.setPort p { x with neighbours := (x.neighbours.filter fun n => n.1 != target) ++ [(target, mac)] }
    .next ((s1.releaseUnsent p target).flushPort p)
  else .next s

/-- ECHO_REQUEST_RECEIVED (R211): a port with no address answers nothing. -/
def execEchoRequestReceived (p : Port) (source payload : Bytes) (s : State) : Host.Outcome State Fault Refusal :=
  if s.bytes (Obj.portAddress p) = [] then .next s else .next (s.emit (.icmp p (s.ipHead p source 64 0 0) 129 payload))

/-! ### The responder (R213, R218–R220) -/

/-- The queue pair that a packet is for; none where it is dropped as a miss (R222). -/
def State.packetQp (s : State) (x : PacketOrigin) : Option Nat :=
  let q := x.qpn.toNat - 0x10000
  let st := s.num (Obj.qpState q)
  if 0x10000 ≤ x.qpn.toNat ∧ q < 16384 ∧ (st = 2 ∨ st = 3) ∧ (s.qp q).port = x.port ∧
      s.bytes (Obj.portAddress x.port) ≠ [] ∧ s.bytes (Obj.qpRemoteAddress q) = x.source ∧
      s.num (Obj.qpRemoteQpn q) % 2 ^ 24 = x.sourceQpn.toNat then some q else none

/-- A packet of no queue pair is dropped and counted on its port (R222); on a port with no address no packet is for the module
(R211). -/
def State.missPacket (s : State) (x : PacketOrigin) : State :=
  if s.bytes (Obj.portAddress x.port) = [] then s.bump 64 (Obj.portRxDiscards x.port) 1 else s.bump 64 (Obj.portQpMisses x.port) 1

/-- A packet marked CE is answered with a CNP, at most once per CnpInterval (R214). -/
def State.markCe (s : State) (q : Nat) (x : RdmaPacket) : State :=
  let due := (s.qp q).lastCnp.all fun t => decide (t + s.num Obj.cnpInterval * 1000 ≤ s.now)
  if x.ce && due then
    ((s.setQp q { s.qp q with lastCnp := some s.now }).bump 64 (Obj.portCnpsSent x.port) 1).respond q [.cnp q (s.packetHead q)]
  else s

/-- Acknowledge up to the last packet placed (R213). -/
def State.sendAck (s : State) (q : Nat) : State :=
  let s1 := s.setQp q { s.qp q with unacked := 0 }
  s1.respond q [.response q (s.packetHead q) 0 ((s.expectedPsn q + 2 ^ 24 - 1) % 2 ^ 24) 0]

/-- Send a NAK (R213, R222). -/
def State.sendNak (s : State) (q syndrome psn : Nat) : State :=
  (s.bump 64 (Obj.qpNaksSent q) 1).respond q [.response q (s.packetHead q) syndrome psn 0]

/-- NAK Invalid Request: the queue pair enters Error (R212, R216). -/
def State.nakInvalid (s : State) (q psn : Nat) : State := (s.sendNak q 3 psn).qpError q 3

/-- NAK Remote Access Error of R218. -/
def State.nakAccess (s : State) (q psn : Nat) : State :=
  let s1 := (s.sendNak q 4 psn).bump 64 Obj.fabricAccessViolations 1
  (s1.raise Ev.fabricAccessViolation { hoop := (s.qp q).hoop, die := qpDie q, unit := q }).qpError q 2

/-- RNR NAK of a placement wait, with the timer code RnrTimerCode (R220). -/
def State.sendRnr (s : State) (q port psn : Nat) : State :=
  (s.bump 64 (Obj.portRnrNaksSent port) 1).respond q [.response q (s.packetHead q) 1 psn (s.num Obj.rnrTimerCode)]

/-- What the PSN rules of R213 make of a packet. -/
inductive PsnCheck where
  | expected | duplicate | gap
deriving DecidableEq, Repr

/-- R213: at the expected PSN, in the 2^23 below it, or beyond it. -/
def State.psnCheck (s : State) (q psn : Nat) : PsnCheck :=
  let e := s.expectedPsn q
  if psn = e then .expected else if (e + 2 ^ 24 - psn) % 2 ^ 24 ≤ 2 ^ 23 then .duplicate else .gap

/-- A packet beyond the expected PSN: one NAK per gap (R213). -/
def State.psnGap (s : State) (q : Nat) : State :=
  if (s.qp q).nakOpen then s
  else (s.setQp q { s.qp q with nakOpen := true }).sendNak q 2 (s.expectedPsn q)

/-- The checks of R218 for a write or a read of `length` bytes: the window. -/
def State.windowCheck (s : State) (q : Nat) (address key length : Nat) (read : Bool) : Option Nat :=
  let w := key / 2 ^ 18
  let st := s.num (Obj.windowState w)
  let access := s.num (Obj.windowAccess w)
  let ok := decide (w < 16384) && st != 0 && s.windowKey w == key && s.num (Obj.windowHoop w) == (s.qp q).hoop &&
    (if read then st == 2 && bitAt access 1 else bitAt access 0) &&
    decide (address + length ≤ s.num (Obj.windowLength w))
  if ok then some w else none

/-- The write that a packet belongs to (R218): First and Only are checked, Middle and Last inherit. -/
inductive WriteCheck where
  | ok (x : InboundWrite)
  | access
  | invalid
deriving DecidableEq, Repr

/-- R218 on a WRITE packet. -/
def State.writeCheck (s : State) (q : Nat) (x : RdmaPacket) : WriteCheck :=
  let op := x.opcode.toNat
  if op = 0x06 ∨ op = 0x0A then
    match s.windowCheck q x.address.toNat x.key.toNat x.length.toNat false with
    | some w =>
      if (op = 0x0A ∧ x.data.length ≠ x.length.toNat) ∨ x.length.toNat < x.data.length then .invalid
      else .ok ⟨w, x.key.toNat, x.address.toNat, x.length.toNat, s.windowParity w⟩
    | none => .access
  else
    match (s.qp q).inbound with
    | none => .invalid
    | some i =>
      if s.num (Obj.windowState i.window) = 0 ∨ s.windowKey i.window ≠ i.key then .access
      else if i.left < x.data.length ∨ (op = 0x08 ∧ x.data.length ≠ i.left) then .invalid
      else .ok i

/-- A WRITE packet has been placed (R213, R219, R224, R225): the expected PSN moves on, it is counted, and acknowledged at once
for AckReq or 64 packets. -/
def State.packetPlaced (s : State) (q : Nat) (x : RdmaPacket) (i : InboundWrite) (bytes : Nat) : State :=
  let more := x.opcode.toNat == 0x06 || x.opcode.toNat == 0x07
  let left : Option InboundWrite := if more then
      some { i with address := i.address + x.data.length, left := i.left - x.data.length } else none
  let s1 := s.setQp q { s.qp q with inbound := left, nakOpen := false, unacked := (s.qp q).unacked + 1 }
  let s2 := s1.setPsns q (s1.expectedPsn q + 1) (s1.sendPsn q)
  let s3 := if bytes = 0 ∧ x.data ≠ [] then s2
    else ((s2.bump 64 (Obj.qpPacketsReceived q) 1).bump 64 (Obj.windowPackets i.window) 1).bump 64
      (Obj.hoopFabricRxBytes (s.qp q).hoop) bytes
  if x.ackReq ∨ 64 ≤ (s3.qp q).unacked then s3.sendAck q else s3

/-- A First or Only packet begins a WRITE (R218). -/
def State.beginMessage (s : State) (q : Nat) (x : RdmaPacket) : State :=
  if x.opcode = 0x06 ∨ x.opcode = 0x0A then s.setQp q { s.qp q with messages := (s.qp q).messages + 1 } else s

/-- RDMA_WRITE_RECEIVED (R213, R218, R220, R222). -/
def execRdmaWriteReceived (x : RdmaPacket) (s : State) : Host.Outcome State Fault Refusal :=
  match s.packetQp x.toPacketOrigin with
  | none => .next (s.missPacket x.toPacketOrigin)
  | some q =>
    let s1 := s.markCe q x
    let psn := x.psn.toNat
    match s1.psnCheck q psn with
    | .duplicate => .next (s1.sendAck q)
    | .gap => .next (s1.psnGap q)
    | .expected =>
      match s1.writeCheck q x with
      | .access => .next (s1.nakAccess q psn)
      | .invalid => .next (s1.nakInvalid q psn)
      | .ok i =>
        match (s1.beginMessage q x).placePacket q i.window i.parity i.address x.data x.tileFull with
        | .placed t n => .next (t.packetPlaced q x i n)
        | .wait t => .next (t.sendRnr q x.port psn)

/-- Opcode of response i of n to a READ Request (R212). -/
def readOpcode (i n : Nat) : Nat := if n ≤ 1 then 0x10 else if i = 0 then 0x0D else if i + 1 = n then 0x0F else 0x0E

/-- Send the responses to a READ Request from its PSN on (R212, R213). -/
def State.sendReads (s : State) (q psn : Nat) (data : Bytes) : State :=
  let pieces := mtuPieces (s.pathMtu q) (data.length + 1) data
  let n := max 1 pieces.length
  let s0 := s.respond q ((List.range n).map fun i =>
    .packet q (s.packetHead q) (readOpcode i n) ((psn + i) % 2 ^ 24) 0 0 (pieces[i]?.getD []))
  let s1 := (s0.bump 64 (Obj.qpPacketsSent q) n).bump 64 (Obj.hoopFabricTxBytes (s.qp q).hoop) data.length
  let s2 := s1.setQp q { s1.qp q with nakOpen := false, unacked := 0 }
  s2.setPsns q (psn + n) (s2.sendPsn q)

/-- RDMA_READ_REQUEST_RECEIVED (R212, R217, R218): Buffer windows with read access; an uncorrectable read of plan data is a hoop
fault (R184), and so is a frame of another hoop (R202): nothing is answered. -/
def execRdmaReadRequestReceived (x : RdmaPacket) (s : State) : Host.Outcome State Fault Refusal :=
  match s.packetQp x.toPacketOrigin with
  | none => .next (s.missPacket x.toPacketOrigin)
  | some q =>
    let s1 := s.markCe q x
    let psn := x.psn.toNat
    match s1.psnCheck q psn with
    | .duplicate => .next (s1.sendAck q)
    | .gap => .next (s1.psnGap q)
    | .expected =>
      match s1.windowCheck q x.address.toNat x.key.toNat x.length.toNat true with
      | none => .next (s1.nakAccess q psn)
      | some w =>
        let h := s1.num (Obj.windowHoop w)
        let b := s1.num (Obj.windowBuffer w)
        let off := s1.num (Obj.windowBufferOffset w) + x.address.toNat
        let bad := s1.badIn (s1.planExtents h b (s1.windowParity w) off x.length.toNat)
        let other := s1.foreignPlan h b (s1.windowParity w) off x.length.toNat
        if other.isSome then .next (s1.ownerFault h (other.getD 0))
        else if bad ≠ [] then .next ((s1.noteBadLines bad).hoopFault h 1 (s1.channelOf (bad.headD 0 * 64)))
        else .next (s1.sendReads q psn (s1.readPlan h b (s1.windowParity w) off x.length.toNat))

/-- The opcodes that R212 implements. -/
def implementedOpcode (op : Nat) : Bool :=
  [0x06, 0x07, 0x08, 0x0A, 0x0C, 0x0D, 0x0E, 0x0F, 0x10, 0x11, 0x81].contains op

/-- UNSUPPORTED_OPCODE_RECEIVED (R212, R222). -/
def execUnsupportedOpcodeReceived (x : RdmaPacket) (s : State) : Host.Outcome State Fault Refusal :=
  if implementedOpcode x.opcode.toNat then .next s
  else match s.packetQp x.toPacketOrigin with
    | none => .next (s.missPacket x.toPacketOrigin)
    | some q => .next ((s.markCe q x).nakInvalid q x.psn.toNat)

/-! ### The requester (R213, R214) -/

/-- Small collectives of which these packets carried the result may now end (R68, R70). -/
def State.settleResults (s : State) (freed : List FabricPacket) : State :=
  s.each (freed.filterMap FabricPacket.result) fun t r =>
    if t.isSmall r.1 && !t.resultPending r.1 r.2.1 r.2.2 then t.finishOp r.1 r.2.1 St.ok else t

/-- Free the packets up to a PSN; progress resets the retries (R213). -/
def State.freeUpTo (s : State) (q psn : Nat) : State :=
  let x := s.qp q
  if !psnReached (s.sendPsn q + 2 ^ 24 - 1) psn then s
  else
    let freed := x.sent.filter fun y => psnReached psn y.psn
    if freed = [] then s
    else
      let kept := x.sent.filter fun y => !psnReached psn y.psn
      (s.setQp q { x with sent := kept, retries := 0, rnrRetries := 0 }).settleResults freed

/-- ACK_RECEIVED (R213, R222): acknowledged packets are freed. -/
def execAckReceived (x : PacketOrigin) (psn : BitVec 24) (s : State) : Host.Outcome State Fault Refusal :=
  match s.packetQp x with
  | none => .next (s.missPacket x)
  | some q => if s.num (Obj.qpState q) = 3 then .next (s.freeUpTo q psn.toNat) else .next s

/-- A timeout or sequence NAK: the requester goes back to a PSN, or enters Error when the retry count is used up (R213). -/
def State.retryFrom (s : State) (q psn : Nat) : State :=
  let limit := s.num (Obj.qpTimers q) / 2 ^ 8 % 8
  let n := (s.qp q).retries + 1
  if limit ≤ n then s.qpError q 1 else (s.setQp q { s.qp q with retries := n }).goBack q psn

/-- NAK_RECEIVED (R213, R216, R222): code 0 PSN Sequence Error, 1 Invalid Request, 2 Remote Access Error. -/
def execNakReceived (x : PacketOrigin) (psn : BitVec 24) (code : Fin 3) (s : State) : Host.Outcome State Fault Refusal :=
  match s.packetQp x with
  | none => .next (s.missPacket x)
  | some q =>
    if s.num (Obj.qpState q) ≠ 3 then .next s
    else if code = 0 then
      .next ((s.freeUpTo q ((psn.toNat + 2 ^ 24 - 1) % 2 ^ 24)).retryFrom q psn.toNat)
    else .next (s.qpError q (if code = 1 then 3 else 2))

/-- RNR_NAK_RECEIVED (R213, R222): the queue pair is held until its RNR timer; an RNR retry count other than 7 bounds the holds. -/
def execRnrNakReceived (x : PacketOrigin) (psn : BitVec 24) (s : State) : Host.Outcome State Fault Refusal :=
  match s.packetQp x with
  | none => .next (s.missPacket x)
  | some q =>
    if s.num (Obj.qpState q) ≠ 3 then .next s
    else
      let s1 := s.freeUpTo q ((psn.toNat + 2 ^ 24 - 1) % 2 ^ 24)
      let limit := s1.num (Obj.qpTimers q) / 2 ^ 16 % 8
      let n := (s1.qp q).rnrRetries + 1
      if limit ≠ 7 ∧ limit < n then .next (s1.qpError q 1)
      else .next (s1.setQp q { s1.qp q with held := true, rnrRetries := n })

/-- RNR_TIMER_EXPIRY (R213): the held requester resends. -/
def execRnrTimerExpiry (q : Qp) (s : State) : Host.Outcome State Fault Refusal :=
  if (s.qp q).held then
    let s1 := s.setQp q { s.qp q with held := false }
    .next (s1.sendWhere q fun _ => true)
  else .next s

/-- RDMA_LOCAL_ACK_TIMEOUT (R213): the requester goes back to its oldest packet. -/
def execRdmaLocalAckTimeout (q : Qp) (s : State) : Host.Outcome State Fault Refusal :=
  match (s.qp q).sent with
  | [] => .next s
  | x :: _ => if s.num (Obj.qpState q) = 3 then .next (s.retryFrom q x.psn) else .next s

/-- CNP_RECEIVED (R214, R222): the rate is halved, to no less than 1/64 of the port rate. -/
def execCnpReceived (x : PacketOrigin) (s : State) : Host.Outcome State Fault Refusal :=
  match s.packetQp x with
  | none => .next (s.missPacket x)
  | some q =>
    if s.num (Obj.qpState q) = 3 then
      .next (s.setNum (Obj.qpRate q) (max (s.num (Obj.qpRate q) / 2) (s.portMbit (s.qp q).port / 64)))
    else .next s

/-- RATE_RECOVERY_TIMER (R214): up by 1/16 of the port rate, to the port rate. -/
def execRateRecoveryTimer (q : Qp) (s : State) : Host.Outcome State Fault Refusal :=
  if s.num (Obj.qpState q) = 3 then
    let r := s.portMbit (s.qp q).port
    .next (s.setNum (Obj.qpRate q) (min r (s.num (Obj.qpRate q) + r / 16)))
  else .next s

/-- ACK_COALESCE_TIMER (R213). -/
def execAckCoalesceTimer (q : Qp) (s : State) : Host.Outcome State Fault Refusal :=
  if (s.qp q).unacked = 0 then .next s else .next (s.sendAck q)

/-! ### Queue pairs (R216) -/

/-- Reset of a queue pair: PSNs and counters are cleared, its packets discarded; operations that needed it end (R216). -/
def State.qpReset (s : State) (q : Nat) : State :=
  let st := s.num (Obj.qpState q)
  let h := (s.qp q).hoop
  let s1 := s.each [Obj.qpState q, Obj.qpPsns q, Obj.qpPacketsSent q, Obj.qpPacketsReceived q, Obj.qpNaksSent q, Obj.qpRate q]
    fun t k => t.setNum k 0
  let s2 := if st = 0 then s1 else s1.lower (Obj.hoopQpsInUse h) 1
  let x := s2.qp q
  let s3 := s2.setQp q { bound := x.bound, hoop := x.hoop, port := x.port }
  if st = 3 then s3.qpLost q else s3

/-- The row of R216 for a QpCommand: 1 ToInit, 2 ToRtr, 3 ToRts, 4 ToReset, 5 ToError. -/
def State.qpCommandRow (s : State) (q command : Nat) : State × Nat :=
  let st := s.num (Obj.qpState q)
  match command with
  | 1 =>
    let h := s.num (Obj.qpHoop q)
    let p := s.num (Obj.qpPort q)
    if st ≠ 0 then (s, St.notPermittedInState)
    else if h < 16 ∧ s.num (Obj.hoopState h) ≠ 0 ∧ p < 16 ∧ p / 8 = q / 8192 ∧
        s.num (Obj.hoopQpsInUse h) < s.num (Obj.hoopQpLimit h) then
      let s1 := (s.setNum (Obj.qpState q) 1).bump 16 (Obj.hoopQpsInUse h) 1
      (s1.setQp q { bound := true, hoop := h, port := p }, St.ok)
    else (s, St.accessDenied)
  | 2 =>
    if st ≠ 1 then (s, St.notPermittedInState)
    else if 2 ≤ s.num (Obj.qpRemoteQpn q) % 2 ^ 24 ∧ (s.bytes (Obj.qpRemoteAddress q)).length = 16 then
      (s.setNum (Obj.qpState q) 2, St.ok)
    else (s, St.accessDenied)
  | 3 =>
    if st ≠ 2 then (s, St.notPermittedInState)
    else ((s.setNum (Obj.qpState q) 3).setNum (Obj.qpRate q) (s.portMbit (s.qp q).port), St.ok)
  | 4 => (s.qpReset q, St.ok)
  | _ => if st = 1 ∨ st = 2 ∨ st = 3 then (s.qpError q 5, St.ok) else (s, St.notPermittedInState)

/-- A QpCommand of the dictionary (R216, R226). -/
def State.qpCommanded (s : State) (rq : Requester) (q command : Nat) : State :=
  s.request rq (Obj.qpCommand q) (.num command) none (reported (Obj.qpCommandStatus q) fun t => t.qpCommandRow q command)

/-- QP_TO_INIT (R216). -/
def execQpToInit (rq : Requester) (q : Qp) (s : State) : Host.Outcome State Fault Refusal := .next (s.qpCommanded rq q 1)

/-- QP_TO_RTR (R216). -/
def execQpToRtr (rq : Requester) (q : Qp) (s : State) : Host.Outcome State Fault Refusal := .next (s.qpCommanded rq q 2)

/-- QP_TO_RTS (R216). -/
def execQpToRts (rq : Requester) (q : Qp) (s : State) : Host.Outcome State Fault Refusal := .next (s.qpCommanded rq q 3)

/-- QP_TO_RESET (R216). -/
def execQpToReset (rq : Requester) (q : Qp) (s : State) : Host.Outcome State Fault Refusal := .next (s.qpCommanded rq q 4)

/-- QP_TO_ERROR (R216). -/
def execQpToError (rq : Requester) (q : Qp) (s : State) : Host.Outcome State Fault Refusal := .next (s.qpCommanded rq q 5)

/-! ### Windows and targets (R217, R221) -/

/-- The group of a bound window belongs to its hoop (R217). -/
def State.bindingOk (s : State) (w h : Nat) : Bool :=
  let g := s.num (Obj.windowGroup w)
  g == 0xFFFF || (decide (g < 4096) && s.num (Obj.groupState g) != 0 && s.hoopOfGroup g == h)

/-- Create Landing (R217). -/
def State.createLanding (s : State) (w : Nat) : State × Nat :=
  let h := s.num (Obj.windowHoop w)
  if s.num (Obj.windowState w) ≠ 0 then (s, St.busy)
  else if 16 ≤ h ∨ s.num (Obj.hoopState h) = 0 ∨ !s.bindingOk w h then (s, St.accessDenied)
  else (s.openWindow w 1 h (s.num (Obj.windowLength w)), St.ok)

/-- Create Buffer (R217). -/
def State.createBuffer (s : State) (w : Nat) : State × Nat :=
  let h := s.num (Obj.windowHoop w)
  let b := s.num (Obj.windowBuffer w)
  let p := (s.hoop h).plan
  if s.num (Obj.windowState w) ≠ 0 then (s, St.busy)
  else if 16 ≤ h ∨ s.num (Obj.hoopState h) = 0 then (s, St.accessDenied)
  else if !(s.hoop h).bound then (s, St.notPermittedInState)
  else if bufferCount p ≤ b ∨ (planBuffer p b).length < s.num (Obj.windowBufferOffset w) + s.num (Obj.windowLength w) ∨
      !s.bindingOk w h then (s, St.accessDenied)
  else (s.openWindow w 2 h (s.num (Obj.windowLength w)), St.ok)

/-- An accepted operation names the window (R217). -/
def State.windowNamed (s : State) (w : Nat) : Bool :=
  s.work.groups.any fun c => !s.isSmall c.1 && c.2.ops.any fun o => dSourceWindow o.desc == w

/-- Delete (R217). -/
def State.deleteWindow (s : State) (w : Nat) : State × Nat :=
  let st := s.num (Obj.windowState w)
  if st = 0 then (s, St.notPermittedInState)
  else if st = 3 then (s, St.accessDenied)
  else if s.windowNamed w then (s, St.busy)
  else (s.closeWindow w, St.ok)

/-- WINDOW_CREATE_LANDING (R217). -/
def execWindowCreateLanding (rq : Requester) (w : Window) (s : State) : Host.Outcome State Fault Refusal :=
  .next (s.request rq (Obj.windowCommand w) (.num 1) none (reported (Obj.windowCommandStatus w) fun t => t.createLanding w))

/-- WINDOW_CREATE_BUFFER (R217). -/
def execWindowCreateBuffer (rq : Requester) (w : Window) (s : State) : Host.Outcome State Fault Refusal :=
  .next (s.request rq (Obj.windowCommand w) (.num 2) none (reported (Obj.windowCommandStatus w) fun t => t.createBuffer w))

/-- WINDOW_DELETE (R217). -/
def execWindowDelete (rq : Requester) (w : Window) (s : State) : Host.Outcome State Fault Refusal :=
  .next (s.request rq (Obj.windowCommand w) (.num 3) none (reported (Obj.windowCommandStatus w) fun t => t.deleteWindow w))

/-- Key of field f of an object packed sixteen to an index (R45). -/
def packedField (base n f : Nat) : Nat := keyOf (base + n / 16) (n % 16 * 16 + f)

/-- A write of a window's configuration (R217): only while it is Free. -/
def windowConfigEffect (w f v : Nat) : Effect := fun s =>
  if s.num (Obj.windowState w) ≠ 0 then refuse St.notPermittedInState s
  else plainWrite (packedField 0x6100 w f) (.num v) s

/-- WINDOW_CONFIG_WRITE (R217, R225): `object` is the field, 3 WindowHoop to 0x0A WindowAccess. -/
def execWindowConfigWrite (rq : Requester) (w : Window) (object : BitVec 8) (value : BitVec 64) (s : State) :
    Host.Outcome State Fault Refusal :=
  if 3 ≤ object.toNat ∧ object.toNat ≤ 0x0A then
    .next (s.request rq (packedField 0x6100 w object.toNat) (.num value.toNat) none (windowConfigEffect w object.toNat value.toNat))
  else .next (s.answer rq St.accessDenied 0 0 [])

/-- An accepted operation names target t of hoop h (R221). -/
def State.targetNamed (s : State) (h t : Nat) : Bool :=
  (s.groupsOf h).any fun g => (s.group g).ops.any fun o =>
    [dDestinationTarget o.desc, dCompletionTarget o.desc, dDoorbellTarget o.desc].contains t

/-- A write of a remote target (R221). -/
def targetEffect (h t f v : Nat) : Effect := fun s =>
  if s.targetNamed h t then refuse St.busy s else plainWrite (packedField 0x6900 (targetIndex h t) f) (.num v) s

/-- TARGET_WRITE (R221, R226): object 0 TargetQp, 1 TargetRemoteKey, 2 TargetBase, 3 TargetLength. -/
def execTargetWrite (rq : Requester) (h : Hoop) (n : Fin 1024) (object : Fin 4) (value : BitVec 64) (s : State) :
    Host.Outcome State Fault Refusal :=
  .next (s.request rq (packedField 0x6900 (targetIndex h n) object) (.num value.toNat) none
    (targetEffect h n object value.toNat))

end Sys2Proof.Machine
end

