-- ==== Sys2Proof/Machine/Cipher.lean ====
section
/-! DEFINITION. Line encryption (chapter 14): the module session's handshake (R274–R276), hoop sessions (R277), rekeying
(R278–R280), the clear-mode enables (R285, R450). -/

namespace Sys2Proof.Machine

open Sys2Proof

/-! ### The module session (R274–R276) -/

/-- A key message of a wrong length, or one that fits no row, is discarded and counted (R280, R284). -/
def State.keyDiscard (s : State) (w : Nat) : State := s.bump 64 (Obj.lineAuthFailures w) 1

/-- A session-0 segment of epoch 0 while Established (R288): counted; 16 within one second mean that the peer has restarted. -/
def State.strayHandshake (s : State) (w : Nat) : State :=
  let v := s.wale w
  let h := v.handshake
  let times := s.now :: h.strays.filter fun t => decide (s.now < t + 1000000000)
  let s1 := (s.setWale w { v with handshake := { h with strays := times } }).bump 32 (Obj.lineHandshakeStray w) 1
  if 16 ≤ times.length then s1.loseWale w else s1

/-- The status of the checks on a Hello (R276), ST_OK when both pass. -/
def State.helloStatus (s : State) (w : Nat) (p : Bytes) : Nat :=
  let node := beNat (p.take 8)
  let want := s.num (Obj.walePeerNode w)
  if node ≠ nodeOfKey (helloIdentityKey p) then St.accessDenied
  else if want ≠ 0 ∧ want ≠ node then St.accessDenied
  else St.ok

/-- HELLO_RECEIVED (R274, R276): checked and, once this end has sent its own Hello, answered with Reply. -/
def execHelloReceived (w : Wale) (payload : Bytes) (s : State) : Host.Outcome State Fault Refusal :=
  if payload.length ≠ 4208 then .next (s.keyDiscard w)
  else if s.established w then .next (s.strayHandshake w)
  else
    let st := s.helloStatus w payload
    if st ≠ St.ok then .next (s.sessionRefused w st)
    else
      let v := s.wale w
      let s1 := s.setWale w { v with handshake := withPeer v.handshake payload }
      let s2 := s1.setBytes (Obj.linePeerIdentityDigest w) (sha3Bytes (helloIdentityKey payload))
      let state0 := s.num (Obj.lineSession0State w)
      .next (if state0 = 1 ∨ state0 = 2 then s2.sendReply w else s2)

/-- k0 of the module session (R276). -/
def State.moduleK0 (s : State) (w : Nat) (peerSecret peerCipher : Bytes) : Bytes :=
  let h := (s.wale w).handshake
  if s.isLow w then sha3Bytes (h.secretOwn ++ peerSecret ++ h.th ++ h.reply ++ peerCipher)
  else sha3Bytes (peerSecret ++ h.secretOwn ++ h.th ++ peerCipher ++ h.reply)

/-- REPLY_RECEIVED (R274, R276): the signature verifies, the keys are derived, Finished goes out under epoch 1. The key of
epoch 0 stays until the session is Established, for the messages still in flight. -/
def execReplyReceived (w : Wale) (payload : Bytes) (s : State) : Host.Outcome State Fault Refusal :=
  let v := s.wale w
  let h := v.handshake
  if payload.length ≠ 6195 then .next (s.keyDiscard w)
  else if s.established w then .next (s.strayHandshake w)
  else if s.num (Obj.lineSession0State w) ≠ 2 then .next (s.keyDiscard w)
  else
    let ct := payload.take 1568
    if !verifies (helloIdentityKey h.peerHello) (h.th ++ ct) "sarsia-session" (payload.drop 1568) then
      .next (s.sessionRefused w St.badSignature)
    else
      match Config.mlKemDecap h.kemSeed ct with
      | none => .next (s.sessionRefused w St.authFail)
      | some secret =>
        let peerSecret := leBytes 32 secret.toNat
        let s1 := s.setWale w { v with handshake := { h with secretPeer := peerSecret, cipherPeer := ct, finishedSent := true } }
        let x := s1.installKeys w (s1.session w 0) (s1.moduleK0 w peerSecret ct)
        let x' : LineSession := { x with txKeys := (0, zeroKey) :: x.txKeys, rxKeys := (0, zeroKey) :: x.rxKeys }
        .next ((s1.setSession w 0 x').sendKey w 0x0103 0 0 0 h.th)

/-- FINISHED_RECEIVED (R274): the peer's th agrees and session 0 is Established, and the fabric Hello
goes out (R327); a Lost direction opens (R266). -/
def execFinishedReceived (w : Wale) (payload : Bytes) (s : State) : Host.Outcome State Fault Refusal :=
  let h := (s.wale w).handshake
  if payload.length ≠ 64 then .next (s.keyDiscard w)
  else if s.num (Obj.lineSession0State w) ≠ 2 ∨ !h.finishedSent then .next (s.keyDiscard w)
  else if payload ≠ h.th then .next (s.sessionRefused w St.authFail)
  else
    let x := s.session w 0
    let s1 := s.setSession w 0 { x with txKeys := Map.put [] x.txKeys 0 [], rxKeys := Map.put [] x.rxKeys 0 [] }
    let s2 := (s1.setNum (Obj.lineSession0State w) 3).sendFabricHello w
    .next (if s.num (Obj.repeatState w) = 3 then s2.setNum (Obj.repeatState w) 1 else s2)

/-- SESSION_RETRY_TIMER (R276): one second after a failed attempt. -/
def execSessionRetryTimer (w : Wale) (s : State) : Host.Outcome State Fault Refusal :=
  if s.num (Obj.lineSession0State w) = 4 ∧ s.num (Obj.waleState w) ≠ 0 then .next (s.startHandshake w) else .next s

/-! ### Hoop sessions (R277) -/

/-- The coded value of enable B for a hoop (R285). -/
def clearCode (h : Nat) : Nat := 0x5AFEC1E0 ||| h

/-- Both clear-mode enables of a hoop are set (R285). -/
def State.clearEnabled (s : State) (h : Nat) : Bool :=
  s.flag (Obj.lineHoopClearEnableA h) && s.num (Obj.lineHoopClearEnableB h) == clearCode h

/-- k0 of a hoop session (R276): node numbers little-endian (R496). -/
def State.hoopK0 (s : State) (w n : Nat) (secret planHash : Bytes) : Bytes :=
  let peer := (s.wale w).handshake.peerNode
  let low := if s.isLow w then nodeIdentity else peer
  let high := if s.isLow w then peer else nodeIdentity
  sha3Bytes (secret ++ planHash ++ leBytes 8 low ++ leBytes 8 high ++ leBytes 1 n)

/-- The hoop that holds a PlanHash, if any (R277). -/
def State.hoopOfPlan (s : State) (planHash : Bytes) : Option Nat :=
  (List.range 16).find? fun h => s.bytes (Obj.planHash h) == planHash && s.num (Obj.hoopState h) != 0

/-- The session in which this end has an open offer for a PlanHash, if any (R277). -/
def State.ownOffer (s : State) (w : Nat) (planHash : Bytes) : Option Nat :=
  ((s.wale w).sessions.find? fun c => c.2.state == 1 && c.1 != 0 && c.2.planHash == planHash).map fun c => c.1

/-- Answer a SessionOpen with SessionRefuse (R275, R277). -/
def State.refuseOpen (s : State) (w n status : Nat) : State := s.sendKey w 0x0203 n 0 0 (beBytes 2 status)

/-- Answer a SessionOpen with SessionAccept (R277): encapsulate, install the keys, then answer. -/
def State.acceptOpen (s : State) (w n : Nat) (hoop : Option Nat) (mode : Bool) (planHash encap : Bytes) : State :=
  let enc := Config.mlKemEncap encap s.freeCtr
  let s1 := s.tookFree
  let base : LineSession := {
    hoop := hoop.getD 0xFF, clear := mode, planHash := planHash, transit := hoop.isNone }
  let x := s1.installKeys w base (s1.hoopK0 w n (leBytes 32 enc.2.toNat) planHash)
  ((s1.setSession w n x).noteSessions w).sendKey w 0x0202 n 0 (if mode then 1 else 0)
    (planHash ++ leBytes 1568 enc.1.toNat)

/-- The answer to a SessionOpen that is not dropped (R277): a fenced module and one in an address conflict are refused (R325,
R332). -/
def State.answerOpen (s : State) (w n : Nat) (mode : Bool) (planHash encap : Bytes) : State :=
  let peer := (s.wale w).handshake.peerAddress
  if (s.session w n).state ≠ 0 then s.refuseOpen w n St.busy
  else
    match s.hoopOfPlan planHash with
    | some h => if s.fencedIn h peer then (s.refuseOpen w n St.fenced).noteFenced h peer
      else if s.net.conflicts.contains peer then s.refuseOpen w n St.accessDenied
      else if s.clearEnabled h = mode then s.acceptOpen w n (some h) mode planHash encap
      else s.refuseOpen w n St.accessDenied
    | none => if s.flag Obj.lineTransitEnable && !mode && !s.net.conflicts.contains peer then s.acceptOpen w n none mode planHash encap
      else s.refuseOpen w n St.accessDenied

/-- SESSION_OPEN_RECEIVED (R277): of simultaneous opens for one PlanHash the low end's offer stands, and the high end's is
dropped without an answer. -/
def execSessionOpenReceived (w : Wale) (session : SessionNo) (mode : Bool) (payload : Bytes) (s : State) :
    Host.Outcome State Fault Refusal :=
  let n : Nat := session
  if payload.length ≠ 1632 ∨ n = 0 ∨ !s.established w then .next (s.keyDiscard w)
  else
    let plan := payload.take 64
    match s.ownOffer w plan with
    | some own => if s.isLow w then .next s
      else .next ((s.closeSession w own).answerOpen w n mode plan (payload.drop 64))
    | none => .next (s.answerOpen w n mode plan (payload.drop 64))

/-- SESSION_ACCEPT_RECEIVED (R277): the offer's session is bound and its keys derived. -/
def execSessionAcceptReceived (w : Wale) (session : SessionNo) (payload : Bytes) (s : State) :
    Host.Outcome State Fault Refusal :=
  let n : Nat := session
  let x := s.session w n
  if payload.length ≠ 1632 ∨ n = 0 ∨ x.state ≠ 1 ∨ payload.take 64 ≠ x.planHash then .next (s.keyDiscard w)
  else
    match Config.mlKemDecap x.offer (payload.drop 64) with
    | none => .next (s.keyDiscard w)
    | some secret =>
      .next ((s.setSession w n (s.installKeys w x (s.hoopK0 w n (leBytes 32 secret.toNat) x.planHash))).noteSessions w)

/-- SESSION_REFUSE_RECEIVED (R277): the opening session ends with its status. -/
def execSessionRefuseReceived (w : Wale) (session : SessionNo) (payload : Bytes) (s : State) :
    Host.Outcome State Fault Refusal :=
  let n : Nat := session
  if payload.length ≠ 2 ∨ n = 0 ∨ (s.session w n).state ≠ 1 then .next (s.keyDiscard w)
  else .next ((s.closeSession w n).setNum (Obj.lineSessionStatus w) (beNat payload))

/-- SESSION_CLOSE_RECEIVED (R277, R284, R288): the session's keys are zeroised, in Dual both; the message has no payload. -/
def execSessionCloseReceived (w : Wale) (session : SessionNo) (payload : Bytes) (s : State) : Host.Outcome State Fault Refusal :=
  let n : Nat := session
  if payload ≠ [] ∨ n = 0 ∨ (s.session w n).state = 0 then .next (s.keyDiscard w) else .next (s.closeSession w n)

/-- Close a session from this end (R277): SessionClose, and the keys are zeroised. -/
def State.endSession (s : State) (w n : Nat) : State := (s.sendKey w 0x0204 n 0 0 []).closeSession w n

/-- Close every session of a hoop on every wale: Release and the per-hoop reset (R277). -/
def State.endHoopSessions (s : State) (h : Nat) : State :=
  s.each (List.range 32) fun t w =>
    t.each (((t.wale w).sessions.filter fun c => c.1 != 0 && c.2.hoop == h && c.2.state != 0).map fun c => c.1) fun u n =>
      u.endSession w n

/-- LineSessionCommand Open (R277). -/
def State.openSession (s : State) (w : Nat) : State × Nat :=
  let h := s.num (Obj.lineSessionCommandArg w) / 256
  let plan := s.bytes (Obj.planHash h)
  let st := s.num (Obj.hoopState h)
  if 16 ≤ h then (s, St.accessDenied)
  else if !((st = 1 ∨ st = 2 ∨ st = 4) ∧ plan ≠ []) then (s, St.notPermittedInState)
  else if !s.established w then (s, St.refusedNotReady)
  else
    match (List.range 33).find? (fun n => n != 0 && (s.session w n).state == 0) with
    | none => (s, St.busy)
    | some n =>
      let seed := s.freeNat 256
      let clear := s.clearEnabled h
      let s1 := s.tookFree.setSession w n { state := 1, hoop := h, clear := clear, planHash := plan, opener := true, offer := seed }
      (s1.sendKey w 0x0201 n 0 (if clear then 1 else 0) (plan ++ leBytes 1568 (Config.mlKemPublic seed).toNat), St.ok)

/-- LINE_SESSION_OPEN (R277). -/
def execLineSessionOpen (rq : Requester) (w : Wale) (s : State) : Host.Outcome State Fault Refusal :=
  .next (s.request rq (Obj.lineSessionCommand w) (.num 1) none
    (reported (Obj.lineSessionCommandStatus w) fun t => t.openSession w))

/-- LineSessionCommand Close (R277). -/
def State.closeCommand (s : State) (w : Nat) : State × Nat :=
  let n := s.num (Obj.lineSessionCommandArg w) % 256
  if n = 0 ∨ 32 < n then (s, St.accessDenied)
  else if (s.session w n).state = 0 then (s, St.notPermittedInState)
  else (s.endSession w n, St.ok)

/-- LINE_SESSION_CLOSE (R277). -/
def execLineSessionClose (rq : Requester) (w : Wale) (s : State) : Host.Outcome State Fault Refusal :=
  .next (s.request rq (Obj.lineSessionCommand w) (.num 2) none
    (reported (Obj.lineSessionCommandStatus w) fun t => t.closeCommand w))

/-! ### Rekeying (R278–R280) -/

/-- LineSessionCommand RekeyTx (R278). -/
def State.rekeyCommand (s : State) (w : Nat) : State × Nat :=
  let n := s.num (Obj.lineSessionCommandArg w) % 256
  if 32 < n then (s, St.accessDenied)
  else if (s.session w n).state ≠ 2 then (s, St.notPermittedInState)
  else (s.rekeyDue w n, St.ok)

/-- LINE_REKEY_TX (R278). -/
def execLineRekeyTx (rq : Requester) (w : Wale) (s : State) : Host.Outcome State Fault Refusal :=
  .next (s.request rq (Obj.lineSessionCommand w) (.num 3) none
    (reported (Obj.lineSessionCommandStatus w) fun t => t.rekeyCommand w))

/-- REKEY_INTERVAL_EXPIRY (R278): LineRekeyInterval has passed since the key was installed. -/
def execRekeyIntervalExpiry (w : Wale) (session : SessionNo) (s : State) : Host.Outcome State Fault Refusal :=
  .next (s.rekeyDue w session)

/-- REKEY_OFFER_RECEIVED (R280): One(e) and TargetEpoch e + 1; the key is installed before RekeyAccept is sent. -/
def execRekeyOfferReceived (w : Wale) (session : SessionNo) (epoch : BitVec 8) (payload : Bytes) (s : State) :
    Host.Outcome State Fault Refusal :=
  let n : Nat := session
  let x := s.session w n
  if payload.length ≠ 1568 ∨ x.state ≠ 2 ∨ x.rxOld ≠ 0 ∨ epoch.toNat ≠ nextEpoch x.rxNew then .next (s.keyDiscard w)
  else
    let enc := Config.mlKemEncap payload s.freeCtr
    let chain := nextChain x.chainRx (leBytes 32 enc.2.toNat) epoch.toNat
    let s1 := s.tookFree.setSession w n { x with
      chainRx := chain, rxOld := x.rxNew, rxNew := epoch.toNat,
      rxKeys := Map.put [] x.rxKeys epoch.toNat (epochKey chain epoch.toNat) }
    .next (s1.sendKey w 0x0302 n epoch.toNat 0 (leBytes 1568 enc.1.toNat))

/-- REKEY_ACCEPT_RECEIVED (R279): Offered(e) and TargetEpoch e + 1; every new segment uses the new key. Where decapsulation
fails the direction is Steady again and the rekey due at once. -/
def execRekeyAcceptReceived (w : Wale) (session : SessionNo) (epoch : BitVec 8) (payload : Bytes) (s : State) :
    Host.Outcome State Fault Refusal :=
  let n : Nat := session
  let x := s.session w n
  if payload.length ≠ 1568 ∨ x.state ≠ 2 ∨ x.phase ≠ 1 ∨ epoch.toNat ≠ nextEpoch x.txEpoch then .next (s.keyDiscard w)
  else
    match Config.mlKemDecap x.offer payload with
    | none => .next (((s.setSession w n { x with phase := 0 }).keyDiscard w).rekeyDue w n)
    | some secret =>
      let chain := nextChain x.chainTx (leBytes 32 secret.toNat) epoch.toNat
      let s1 := s.setSession w n { x with
        chainTx := chain, txEpoch := epoch.toNat, phase := 2, sent := 0,
        txKeys := Map.put [] x.txKeys epoch.toNat (epochKey chain epoch.toNat) }
      .next (s1.settleRekey w n)

/-- REKEY_RETIRE_RECEIVED (R280, R284): Two(e, e + 1) and TargetEpoch e; the key of e is zeroised. The message has no payload. -/
def execRekeyRetireReceived (w : Wale) (session : SessionNo) (epoch : BitVec 8) (payload : Bytes) (s : State) :
    Host.Outcome State Fault Refusal :=
  let n : Nat := session
  let x := s.session w n
  if payload ≠ [] ∨ x.state ≠ 2 ∨ x.rxOld = 0 ∨ epoch.toNat ≠ x.rxOld then .next (s.keyDiscard w)
  else .next (s.setSession w n { x with rxOld := 0, rxKeys := Map.put [] x.rxKeys x.rxOld [] })

/-! ### Clear mode (R285, R288, R450) -/

/-- Check 7 of a write of an enable (R285, R288): the hoop is Configured or Stopped and has no session. -/
def State.clearWritable (s : State) (h : Nat) : Bool :=
  (s.num (Obj.hoopState h) == 1 || s.num (Obj.hoopState h) == 4) && s.num (Obj.lineHoopSessions h) == 0

/-- The effect of a write of a clear-mode enable: set for the setting value, cleared for any other (R285). -/
def clearEffect (h key value : Nat) : Effect := fun s =>
  if s.clearWritable h then ((s.setNum key value).markWrite key, St.ok) else (s, St.notPermittedInState)

/-- LINE_HOOP_CLEAR_ENABLE_A_WRITE (R285). -/
def execLineHoopClearEnableAWrite (rq : Requester) (h : Hoop) (value : BitVec 8) (token : Token) (s : State) :
    Host.Outcome State Fault Refusal :=
  .next (s.request rq (Obj.lineHoopClearEnableA h) (.num value.toNat) (some token)
    (clearEffect h (Obj.lineHoopClearEnableA h) value.toNat))

/-- Value that a write of enable B leaves (R285): the coded value, or 0. -/
def clearBValue (h value : Nat) : Nat := if value = clearCode h then value else 0

/-- LINE_HOOP_CLEAR_ENABLE_B_WRITE (R285). -/
def execLineHoopClearEnableBWrite (rq : Requester) (h : Hoop) (value : BitVec 32) (s : State) :
    Host.Outcome State Fault Refusal :=
  .next (s.request rq (Obj.lineHoopClearEnableB h) (.num value.toNat) none
    (clearEffect h (Obj.lineHoopClearEnableB h) (clearBValue h value.toNat)))

/-- DUAL_RAIL_DISAGREEMENT (R450): L die l withdraws clear mode for every hoop; both enables stay clear until written
again. -/
def execDualRailDisagreement (l : Fin 2) (s : State) : Host.Outcome State Fault Refusal :=
  let s1 := s.each (List.range 16) fun t h =>
    (t.setNum (Obj.lineHoopClearEnableA h) 0).setNum (Obj.lineHoopClearEnableB h) 0
  .next (s1.raise Ev.cipherPathFault { die := 19 + l, unit := l })

end Sys2Proof.Machine
end

