-- ==== Sys2Proof/Machine/HoopLife.lean ====
section
/-! DEFINITION. The life of a hoop as operations: the reservation checks (R31, R32), admission (R33, R197), the capacity rule
(R31), release and per-hoop reset (R43), the parts of an evacuation (R39, R434). -/

namespace Sys2Proof.Machine

open Sys2Proof

/-! ### Reservations (R31, R32) -/

/-- The hoops whose reservations count beside hoop h's: every other hoop that is not Empty. -/
def State.otherHoops (s : State) (h : Nat) : List Nat :=
  (List.range 16).filter fun x => x != h && s.num (Obj.hoopState x) != 0

/-- Reserved memory of the hoops beside h (R31). -/
def State.reservedBeside (s : State) (h : Nat) : Nat :=
  (((s.otherHoops h).filter fun x => !(s.hoop x).taken).map fun x => s.num (Obj.hoopMemoryCapacity x)).sum

/-- The first check of R31: the tile mask. -/
def State.tilesFree (s : State) (h mask : Nat) : Bool :=
  mask != 0 && decide (mask < 2 ^ 48) && (s.otherHoops h).all fun x => mask &&& s.num (Obj.hoopTileMask x) == 0

/-- The checks of R31 in order, the hoop's own reservation left out of each sum: status, and the excess in bytes of a memory
shortfall. -/
def State.reserveCheck (s : State) (h mask capacity contexts : Nat) : Nat × Nat :=
  let need := s.reservedBeside h + capacity
  let sum := ((s.otherHoops h).map fun x => s.num (Obj.hoopContextMinimum x)).sum + contexts
  if !s.tilesFree h mask then (St.busy, 0)
  else if s.hoopMemoryAvailable < need then (St.capacityShortfall, need - s.hoopMemoryAvailable)
  else if 65536 < sum ∨ capacity / frameBytes < s.backingFrames h then (St.capacityShortfall, 0)
  else (St.ok, 0)

/-- A tile of hoop h to which a chunk is bound would leave it (R32). -/
def State.losesBoundTile (s : State) (h mask : Nat) : Bool :=
  (List.range 48).any fun t => s.num (Obj.tileOwner t) == h && s.tileBound t && !bitAt mask t

/-- Every memory and memory-manager domain settled: its firmware vote depends on the hoops (R386). -/
def State.settleMemoryDomains (s : State) : State := s.each (List.range 16) fun t i => t.settleDomain (64 + i)

/-- HoopCommand Configure (R27, R31). -/
def State.configure (s : State) (h : Nat) : State × Nat :=
  if s.num (Obj.hoopState h) ≠ 0 then (s, St.notPermittedInState)
  else
    let mask := s.num (Obj.hoopTileMask h)
    let capacity := s.num (Obj.hoopMemoryCapacity h)
    let c := s.reserveCheck h mask capacity (s.num (Obj.hoopContextMinimum h))
    let s0 := s.setNum (Obj.admissionShortfall h) c.2
    if c.1 ≠ St.ok then (s0, c.1)
    else
      let s1 := (s0.setNum (Obj.hoopState h) 1).setNum (Obj.hoopFrameLimit h) (capacity / frameBytes)
      ((((s1.setTiles h mask).settleBacking h).countCapacity).settleMemoryDomains, St.ok)

/-- A write of HoopMemoryCapacity (R32). -/
def memoryEffect (h v : Nat) : Effect := fun s =>
  if s.num (Obj.hoopState h) = 0 then plainWrite (Obj.hoopMemoryCapacity h) (.num v) s
  else
    let c := s.reserveCheck h (s.num (Obj.hoopTileMask h)) v (s.num (Obj.hoopContextMinimum h))
    if c.1 ≠ St.ok then ((if c.2 = 0 then s else s.setNum (Obj.admissionShortfall h) c.2), c.1)
    else if v < s.num (Obj.hoopFramesHeld h) * frameBytes then (s, St.busy)
    else
      let s1 := (s.set (Obj.hoopMemoryCapacity h) (.num v)).markWrite (Obj.hoopMemoryCapacity h)
      ((s1.setNum (Obj.hoopFrameLimit h) (v / frameBytes)).countCapacity, St.ok)

/-- A write of HoopTileMask (R32). -/
def tileMaskEffect (h v : Nat) : Effect := fun s =>
  if s.num (Obj.hoopState h) = 0 then plainWrite (Obj.hoopTileMask h) (.num v) s
  else
    let c := s.reserveCheck h v (s.num (Obj.hoopMemoryCapacity h)) (s.num (Obj.hoopContextMinimum h))
    if c.1 ≠ St.ok then (s, c.1)
    else if s.losesBoundTile h v then (s, St.busy)
    else (((s.set (Obj.hoopTileMask h) (.num v)).markWrite (Obj.hoopTileMask h)).setTiles h v, St.ok)

/-- A write of HoopContextMinimum (R32). -/
def contextEffect (h v : Nat) : Effect := fun s =>
  if s.num (Obj.hoopState h) = 0 then plainWrite (Obj.hoopContextMinimum h) (.num v) s
  else
    let c := s.reserveCheck h (s.num (Obj.hoopTileMask h)) (s.num (Obj.hoopMemoryCapacity h)) v
    if c.1 ≠ St.ok then (s, c.1)
    else if v < s.num (Obj.hoopGroupMinimumSum h) then (s, St.capacityShortfall)
    else plainWrite (Obj.hoopContextMinimum h) (.num v) s

/-! ### Admission (R33, R153, R197) -/

/-- Hold the frames of every plan buffer, one list for each buffer, and write the content of single buffers (R153, R197). -/
def State.allocatePlan (s : State) (h : Nat) : State :=
  let p := (s.hoop h).plan
  let r := (List.range (bufferCount p)).foldl (fun (a : State × List (List Nat)) b =>
    let n := (planBuffer p b).frames * (planBuffer p b).parities
    let c := State.carvePlan n a.1 h
    (c.1, a.2 ++ [c.2])) (s, [])
  let s1 := r.1.setHoop h { r.1.hoop h with planFrames := r.2, bound := true }
  s1.each (List.range (bufferCount p)) fun t b =>
    let x := planBuffer p b
    if x.double ∨ x.dataLength = 0 then t else t.writePlan h b 0 0 (slice p (field p 48 4 + x.dataOffset) x.dataLength)

/-- HoopCommand Admit (R27, R33, R197): need against capacity, then frames against HoopFrameLimit. -/
def State.admitJob (s : State) (h : Nat) : State × Nat :=
  let x := s.hoop h
  let need := s.num (Obj.jobDeclaredMemory h)
  let capacity := s.num (Obj.hoopMemoryCapacity h)
  let frames := planFrameCount x.plan + s.num (Obj.hoopBackingFrames h) + s.furtherFrames h
  let limit := s.num (Obj.hoopFrameLimit h)
  if s.num (Obj.hoopState h) ≠ 1 ∨ x.plan = [] ∨ x.bound then (s, St.notPermittedInState)
  else if capacity < need then (s.setNum (Obj.admissionShortfall h) (need - capacity), St.capacityShortfall)
  else if limit < frames then (s.setNum (Obj.admissionShortfall h) ((frames - limit) * frameBytes), St.capacityShortfall)
  else
    let s1 := ((s.allocatePlan h).countPools h).setNum (Obj.admissionShortfall h) 0
    (s1.each (List.range 4) fun t k => t.setNum (Obj.poolHighWater (4 * h + k)) (t.framesAbove h k), St.ok)

/-- Every image slot that a plan entry names holds an image (R27). -/
def State.slotsFilled (s : State) (h : Nat) : Bool :=
  (planEntries (s.hoop h).plan).all fun e => s.slotImage h (entrySlot e) != []

/-- HoopCommand Start (R27). -/
def State.start (s : State) (h : Nat) : State × Nat :=
  let st := s.num (Obj.hoopState h)
  if st = 4 ∨ (st = 1 ∧ (s.hoop h).bound ∧ s.slotsFilled h) then (s.setNum (Obj.hoopState h) 2, St.ok)
  else (s, St.notPermittedInState)

/-- Drain of a Running hoop (R27). -/
def State.drain (s : State) (h : Nat) : State :=
  s.setNum (Obj.hoopState h) (if s.num (Obj.hoopContextsInUse h) = 0 then 4 else 3)

/-- HoopCommand Drain (R27). -/
def State.drainCommand (s : State) (h : Nat) : State × Nat :=
  if s.num (Obj.hoopState h) = 2 then (s.drain h, St.ok) else (s, St.notPermittedInState)

/-- HoopCommand Evacuate (R27, R41): refused as busy while an evacuation runs, not while a drain still waits to begin one. -/
def State.evacuateCommand (s : State) (h : Nat) : State × Nat :=
  let st := s.num (Obj.hoopState h)
  if (s.hoop h).evacuation.isSome then (s, St.busy)
  else if st = 2 then
    let s1 := s.drain h
    if s1.num (Obj.hoopState h) = 4 then (s1.beginEvacuation h, St.ok)
    else (s1.setHoop h { s1.hoop h with evacuateWhenStopped := true }, St.ok)
  else if st = 4 ∨ st = 6 then (s.beginEvacuation h, St.ok)
  else (s, St.notPermittedInState)

/-- The windows of a hoop that satisfy `p`. -/
def State.windowsOf (s : State) (h : Nat) (p : Nat → Bool) : List Nat :=
  (List.range 16384).filter fun w => s.num (Obj.windowState w) != 0 && s.num (Obj.windowHoop w) == h && p w

/-- Free a hoop's plan frames (R153, R197). -/
def State.freePlan (s : State) (h : Nat) : State :=
  let s1 := s.each ((s.framesOf h).filter fun c => c.2.cls == 4) fun t c => t.returnFrame c.1
  (s1.setHoop h { s1.hoop h with planFrames := [], bound := false }).countPools h

/-- HoopCommand Unbind (R27): the plan buffers go, and with them the windows onto them. -/
def State.unbind (s : State) (h : Nat) : State × Nat :=
  if s.num (Obj.hoopState h) ≠ 4 then (s, St.notPermittedInState)
  else
    let s1 := s.each (s.windowsOf h fun w => s.num (Obj.windowState w) == 2) State.closeWindow
    ((s1.freePlan h).setNum (Obj.hoopState h) 1, St.ok)

/-! ### Release (R43) -/

/-- An operation ends without a record: its context and what it holds go (R472). -/
def State.discardOp (s : State) (g : Nat) (o : Operation) : State := ((s.voidOperation g o).checkFrees).freeContext g o

/-- The groups of a hoop go, without a record (R43, R472). -/
def State.discardGroups (s : State) (h : Nat) : State :=
  s.each (s.groupsOf h) fun t g =>
    let t1 := (t.each (t.group g).redo fun u o => u.voidOperation g o).checkFrees
    (t1.each (t1.group g).ops fun u o => u.discardOp g o).freeGroup g

/-- The hoop's queues are emptied and its meter reset; histograms stay (R321). -/
def State.emptyQueues (s : State) (h : Nat) : State :=
  let s1 := s.each (s.line.wales.map Prod.fst) fun t w =>
    let v := t.wale w
    t.setWale w { v with tx := { v.tx with queue := v.tx.queue.filter fun r => r.owner != h } }
  { s1 with line := { s1.line with meters := Map.put {} s1.line.meters h {} } }

/-- Queue pair q is bound to hoop h. -/
def State.qpOf (s : State) (h q : Nat) : Bool := (s.qp q).bound && (s.qp q).hoop == h

/-- The hoop's queue pairs go to Reset, unbound (R216, R223). -/
def State.unbindQps (s : State) (h : Nat) : State :=
  s.each ((s.fabric.qps.map Prod.fst).filter (s.qpOf h)) fun t q => (t.qpReset q).setQp q {}

/-- An object that Release and a per-hoop reset take to its default: every V, W and H object of the hoop (R43, R473) but
WindowGeneration (R225) and its queue histograms (R321). -/
def State.releasedKey (s : State) (h k : Nat) : Bool :=
  let i := k / 256
  let ret := retentionOf k
  let generation := decide (0x6100 ≤ i ∧ i < 0x6500) && k % 16 == 0x0B
  let qp := decide (0x6500 ≤ i ∧ i < 0x6900) && s.qpOf h ((i - 0x6500) * 16 + k % 256 / 16)
  let histogram := decide (0x9080 ≤ i ∧ i < 0x9090)
  (s.ownerHoop k == some h || qp) && !generation && !histogram && ret != .p

/-- Commands of hoop h, as it was with the data `x`, that Release or a per-hoop reset cuts short end ST_ABORTED (R159, R476). -/
def State.abortJobs (s : State) (h : Nat) (x : HoopData) : State :=
  let s1 := match x.job with
    | some j => s.setNum (if j.isPlan then Obj.planCommandStatus h else Obj.imageCommandStatus h) St.aborted
    | none => s
  if x.evacuation.isSome then s1.setNum (Obj.evacuationStatus h) St.aborted else s1

/-- Release and the per-hoop reset (R43): keys, stores, buffers, reservations and objects go. -/
def State.releaseHoop (s : State) (h : Nat) : State :=
  let s1 := (s.discardGroups h).emptyQueues h
  let s2 := (s1.endHoopSessions h).unbindQps h
  let s3 := s2.each (s2.windowsOf h fun _ => true) State.closeWindow
  let s4 := s3.returnHoopFrames h
  let s5 := s4.each ((List.range 48).filter fun t => s4.num (Obj.tileOwner t) == h) State.disownTile
  let s6 : State := { s5 with
    dict := s5.dict.filter fun c => !s.releasedKey h c.1
    meter := { s5.meter with generation := Map.put 0 s5.meter.generation h ((Map.get 0 s5.meter.generation h + 1) % 2 ^ 32) }
    net := { s5.net with
      matched := s5.net.matched.filter fun x => x.1 != h
      notices := s5.net.notices.filter fun x => x.hoop != h } }
  (((s6.setHoop h {}).abortJobs h (s.hoop h)).countCapacity).settleMemoryDomains

/-- HoopCommand Release (R27). -/
def State.release (s : State) (h : Nat) : State × Nat :=
  let st := s.num (Obj.hoopState h)
  if st = 1 ∨ ((st = 4 ∨ st = 6) ∧ (s.hoop h).evacuation.isNone) then (s.releaseHoop h, St.ok) else (s, St.notPermittedInState)

/-! ### The capacity rule (R31) -/

/-- Take non-Empty hoops in descending number until what is reserved fits what is available (R31). A hoop that is taken has no frame
left to carve: its HoopFrameLimit becomes 0. -/
def State.takeHoops (s : State) : State :=
  ((List.range 16).reverse.foldl (fun (t : State) h =>
    if t.num (Obj.hoopState h) ≠ 0 ∧ !(t.hoop h).taken ∧ t.hoopMemoryAvailable < t.hoopMemoryReserved then
      let t1 := if t.num (Obj.hoopState h) = 6 then t else t.hoopFault h 8 0xFFFFFFFF
      let t2 := (t1.returnHoopFrames h).setNum (Obj.hoopFrameLimit h) 0
      t2.setHoop h { t2.hoop h with taken := true, planFrames := [], deferred := [], retained := [] }
    else t) s).countCapacity

/-! ### Evacuation (R39, R40, R434) -/

/-- Bytes of one piece of the hoop's state; a line that cannot be read, and a hoop that was taken, give bytes that the spec does not state (log
entry 25). -/
def State.pieceBytes (s : State) (h : Nat) (x : Nat × Nat × Nat × Nat) : Bytes :=
  if (s.hoop h).taken then (List.range x.2.2.2).map Config.unreadable
  else (s.planExtents h x.1 x.2.1 x.2.2.1 x.2.2.2).flatMap fun e => s.loadGood e.1 e.2

/-- Parts 1–5 of R39. -/
def State.evacuationParts (s : State) (h : Nat) : List Bytes :=
  [s.evacuationHeader h, s.evacuationGroups h] ++
    [3, 4, 5].map fun k => (s.classPieces h (partClass k)).flatMap (s.pieceBytes h) ++ if k = 5 then s.deferredBytes h else []

/-- Part 6, the manifest: length and digest of each part, then the unreadable regions by part and index (R39). -/
def State.evacuationManifest (s : State) (h : Nat) : Bytes :=
  let bad := [3, 4, 5].flatMap fun k => ((s.classPieces h (partClass k)).zipIdx.filter fun x => s.pieceBad h x.1).map fun x => (k, x.2)
  ((s.evacuationParts h).flatMap fun p => leBytes 8 p.length ++ sha3Bytes p) ++ leBytes 4 bad.length ++
    bad.flatMap fun x => leBytes 4 x.1 ++ leBytes 4 x.2

/-- Cut bytes into pieces of at most n. -/
def cutBytes (n : Nat) : Nat → Bytes → List Bytes
  | 0, _ => []
  | fuel + 1, b => if b = [] then [] else b.take n :: cutBytes n fuel (b.drop n)

/-- The stream that an RDMA target receives (R39, R434): the parts in plaintext, or the preamble and the parts in messages of
1 MiB when HoopEvacuationKey is set. -/
def State.evacuationStream (s : State) (h nonce : Nat) : Bytes :=
  let parts := s.evacuationParts h ++ [s.evacuationManifest h]
  let key := s.bytes (Obj.hoopEvacuationKey h)
  if key = [] then parts.flatMap id
  else
    let epoch := s.num (Obj.hoopEpoch h)
    let c := Config.mlKemEncap key nonce
    let secret := leBytes 32 (Config.shake256 (leBytes 32 c.2.toNat ++ asciiBytes "evacuation" ++ leBytes 1 h ++ leBytes 4 epoch) 32).toNat
    leBytes 4 0x56454B4B ++ leBytes 1 h ++ leBytes 3 0 ++ leBytes 4 epoch ++ leBytes 52 0 ++ leBytes 1568 c.1.toNat ++
    parts.zipIdx.flatMap fun p => (cutBytes 1048576 (p.1.length + 1) p.1).zipIdx.flatMap fun q =>
      let sealed' := gcmSeal secret (leBytes 4 (p.2 + 1) ++ leBytes 8 q.2) [] q.1
      sealed'.1 ++ sealed'.2

/-- The reads of an evacuation that fail are counted (R184). -/
def State.noteEvacuationReads (s : State) (h : Nat) : State :=
  s.noteBadLines (s.badIn ([3, 4, 5].flatMap fun k => (s.classPieces h (partClass k)).flatMap fun x =>
    s.planExtents h x.1 x.2.1 x.2.2.1 x.2.2.2))

/-- The first frame of another hoop among those that an evacuation reads (R202). -/
def State.evacuationForeign (s : State) (h : Nat) : Option Nat :=
  ([3, 4, 5].flatMap fun k => s.classPieces h (partClass k)).findSome? fun x => s.foreignPlan h x.1 x.2.1 x.2.2.1 x.2.2.2

/-- Write the whole evacuation to its target (R39, R40). -/
def State.writeEvacuation (s : State) (h : Nat) (e : Evacuation) : State :=
  let t := e.target
  if e.toPeer then
    let stream := (s.evacuationParts h ++ [s.evacuationManifest h]).flatMap id
    ((cutBytes 16384 (stream.length + 1) stream).zipIdx).foldl (fun (u : State) x =>
      u.emitTo h 3 (targetWord t) 0 0 (beBytes 4 x.2 ++ List.replicate 6 0) x.1 none none) s
  else
    let nonce := s.freeNat 256
    let s1 := if s.bytes (Obj.hoopEvacuationKey h) = [] then s else s.tookFree
    s1.rdmaWrite (targetWord t) (field t 8 8) (field t 4 4) (s.evacuationStream h nonce) none

end Sys2Proof.Machine
end

