-- ==== Sys2Proof/Machine/ImageOps.lean ====
section
/-! DEFINITION. The checks of images (R139–R148) and plans (R150–R153), image slots (R146, R158), the image store. -/

namespace Sys2Proof.Machine

open Sys2Proof

/-- Bytes [a, a + n) are all zero. -/
def zeros (b : Bytes) (a n : Nat) : Bool := (slice b a n).all (· == 0)

/-- Bytes of a trailer (R140). -/
def trailerBytes : Nat := 4643

/-- The trailer's fields are as defined (R140). -/
def trailerFormed (b : Bytes) (signed : Nat) : Bool := field b (signed + 8) 2 == 4627 && zeros b (signed + 10) 6

/-- Sections (start, length) begin at multiples of 64, lie in [low, high) and do not overlap (R139, R150). -/
def sectionsPlaced (low high : Nat) (l : List (Nat × Nat)) : Bool :=
  l.all (fun x => x.1 % 64 == 0 && decide (low ≤ x.1 ∧ x.1 + x.2 ≤ high)) &&
    l.zipIdx.all fun x => (l.zipIdx.filter fun y => decide (x.2 < y.2)).all fun y =>
      decide (x.1.1 + x.1.2 ≤ y.1.1 ∨ y.1.1 + y.1.2 ≤ x.1.1)

/-- KeyId matches hoop h's program key and the signature over the signed bytes verifies (R140, R150). -/
def State.programSigned (s : State) (h : Nat) (b : Bytes) (signed : Nat) (context : String) : Bool :=
  let key := s.bytes (Obj.hoopProgramKey h)
  key != [] && slice b signed 8 == (sha3Bytes key).take 8 && verifies key (b.take signed) context (slice b (signed + 16) 4627)

/-! ### Images -/

/-- Check 4 of R148. A CodeLength, EntryPoint or ConstLength outside R139 fails here: no check of R148 names these fields (DESIGN
CHOICE, log entry 165). -/
def imageFormed (b : Bytes) : Bool :=
  let signed := imageSigned b
  let decl := declOf b
  field b 0 4 == 0x4D49574B && field b 4 2 == 1 && field b 6 2 == 256 && field b 44 4 == 576 && signed % 64 == 0 &&
  sectionsPlaced 256 signed [(field b 20 4, field b 24 4), (field b 32 4, field b 36 4), (field b 40 4, 576)] &&
  field b 24 4 % 8 == 0 && decide (8 ≤ field b 24 4 ∧ field b 24 4 ≤ 32768) && decide (field b 28 2 < field b 24 4 / 8) &&
  field b 36 4 % 64 == 0 && decide (field b 36 4 ≤ 4194304) &&
  zeros b 10 2 && zeros b 84 172 && zeros decl 37 1 && zeros decl 52 12 &&
  ((List.range 16).all fun r => field decl (64 + 32 * r + 16) 1 / 4 == 0 && zeros decl (64 + 32 * r + 18) 14) &&
  trailerFormed b signed

/-- The region rules of R142. -/
def regionsSound (b : Bytes) : Bool :=
  (List.range 16).all fun r =>
    let d := regionDecl b r
    if regionDeclared b r then decide (d.cls ≤ 4) && (d.cls == 4) != d.double
    else zeros (declOf b) (64 + 32 * r) 32

/-- The areas of R143: base and size of Z0, Z1, constants, exchange region, staged area. -/
def imageAreas (b : Bytes) : List (Nat × Nat) :=
  [(zoneBase b 0, zoneSize b 0), (zoneBase b 1, zoneSize b 1), (constBase b, constLength b), (exchangeBase b, exchangeSize b),
   (stagedBase b, stagedLength b)]

/-- The area rules of R143. -/
def areasSound (b : Bytes) : Bool :=
  (zoneBase b 0 % 4096 == 0 && zoneBase b 1 % 4096 == 0 && zoneSize b 0 % 4096 == 0 && zoneSize b 1 % 4096 == 0 &&
    zoneSize b 0 != 0 && zoneSize b 1 != 0) &&
  sectionsPlaced 0 0x800000 ((imageAreas b).filter fun x => x.2 != 0) &&
  (imageAreas b).all fun x => x.1 % 64 == 0

/-- The staged area (R144). -/
def stagedSound (b : Bytes) : Bool :=
  stagedLength b == 0 || (stagedLength b % 64 == 0 && decide (stagedRegion b < 16) && regionDeclared b (stagedRegion b) &&
    decide (stagedLength b ≤ (regionDecl b (stagedRegion b)).fixedBytes))

/-- Check 7 of R148. -/
def State.declsSound (s : State) (h : Nat) (b : Bytes) : Bool :=
  regionsSound b && areasSound b && stagedSound b &&
    (bitList 64 (mailboxMask b)).all fun n => s.num (Obj.mailboxHoop n) == h

/-- Check 8 of R148: R145 for every loaded entry that names the slot. -/
def State.slotStatus (s : State) (h slot : Nat) (b : Bytes) : Nat :=
  let p := (s.hoop h).plan
  (((planEntries p).filter fun e => entrySlot e == slot).map fun e => s.bindingStatus p e b).find? (· != St.ok) |>.getD St.ok

/-- Bytes of the 64 MiB store that hoop h's images and plan take (R146). -/
def State.storeUsed (s : State) (h : Nat) : Nat :=
  let x := s.hoop h
  ((x.images.map fun c => c.2.length).sum + (x.pendings.map fun c => c.2.length).sum) +
    (if x.plan = [] then 0 else x.plan.length + trailerBytes)

/-- The store has room for n bytes more (R148, R153). -/
def State.storeRoom (s : State) (h n : Nat) : Bool := decide (s.storeUsed h + n ≤ 67108864)

/-- The staging buffer's first ImageStageLength bytes (R147). -/
def State.staged (s : State) (h : Nat) : Bytes := (s.hoop h).stage.readBytes 0 (s.num (Obj.imageStageLength h))

/-- Staged header bytes, for the length checks. -/
def State.stagedHead (s : State) (h : Nat) : Bytes := (s.hoop h).stage.readBytes 0 256

/-- The lines of the staging buffer's first n bytes that read uncorrectable (R184). -/
def State.stageBad (s : State) (h n : Nat) : List Nat := s.regionBad .staging h 0 (min n 8388608)

/-- The checks 1 and 3–11 of R148 in order: status and the number of the check that failed. A staging buffer that cannot be read ends
the load where it is read first, before check 3 (R184). -/
def State.imageStatus (s : State) (h slot : Nat) (pending : Bool) : Nat × Nat :=
  let st := s.num (Obj.hoopState h)
  let n := s.num (Obj.imageStageLength h)
  if st ≠ 1 ∧ st ≠ 2 ∧ st ≠ 3 ∧ st ≠ 4 then (St.notPermittedInState, 1)
  else if s.stageBad h n ≠ [] then (St.uncorrectable, 0)
  else if n ≠ imageSigned (s.stagedHead h) + trailerBytes ∨ 8388608 < n then (St.lenExceeded, 3)
  else
    let b := s.staged h
    let version := field b 12 4
    if !imageFormed b then (St.accessDenied, 4)
    else if !s.programSigned h b (imageSigned b) "weave-image" then (St.badSignature, 5)
    else if field b 8 2 ≠ s.num Obj.tileIsaVersion ∨ (version ≠ 0 ∧ version ≠ s.num Obj.arithmeticVersion) then (St.accessDenied, 6)
    else if !s.declsSound h b then (St.accessDenied, 7)
    else if s.slotStatus h slot b ≠ St.ok then (s.slotStatus h slot b, 8)
    else if !pending ∧ s.slotNamed h slot ∧ st ≠ 1 ∧ st ≠ 4 then (St.notPermittedInState, 9)
    else if pending ∧ (s.num (Obj.imageActivateStep h) ≤ s.num (Obj.outerStepCounter h) ∨ s.slotImage h slot = []) then
      (St.notPermittedInState, 10)
    else if !s.storeRoom h n then (St.capacityShortfall, 11)
    else (St.ok, 0)

/-! ### Plans -/

/-- Buffer record b has its reserved fields 0 and initial content as R151 allows. -/
def bufferFormed (p : Bytes) (b : Nat) : Bool :=
  let r := slice p (field p 28 4 + 32 * b) 32
  let x := planBuffer p b
  field r 8 1 / 2 == 0 && zeros r 9 3 && zeros r 20 12 && decide (x.dataLength ≤ x.length) && (!x.double || x.dataLength == 0) &&
    (x.dataLength == 0 || decide (x.dataOffset + x.dataLength ≤ field p 52 4))

/-- Entry record e has its reserved fields 0 and its fields in range (R151): a slot, opcode, element type or count out of range fails
check 4, which does not name these fields (DESIGN CHOICE, log entry 167). -/
def entryFormed (e : Bytes) : Bool :=
  decide (entrySlot e < 16) && (decide (1 ≤ entryOpcode e ∧ entryOpcode e ≤ 4) || entryOpcode e == 7) &&
  elementBytes (entryType e) != 0 && field e 3 1 / 2 == 0 && field e 4 2 / 4096 == 0 && zeros e 6 2 && zeros e 20 4 && zeros e 32 32 &&
  decide (1 ≤ entryChunks e) && (List.range 16).all fun r => zeros e (192 + 16 * r + 2) 6

/-- Peer-set record i has its reserved fields 0 (R152). -/
def peerSetFormed (p : Bytes) (i : Nat) : Bool :=
  let b := slice p (field p 36 4 + 40 * i) 40
  zeros b 2 6 && (List.range 16).all fun j => decide (j < field b 0 2) || zeros b (8 + 2 * j) 2

/-- Chunk record i of the schedule area has its reserved fields 0 and a role (R152). -/
def scheduleFormed (p : Bytes) (i : Nat) : Bool :=
  let b := slice p (field p 40 4 + 32 * i) 32
  decide (field b 0 1 ≤ 2) && zeros b 1 1 && zeros b 28 4

/-- Check 4 of R153. The place of an empty table or area is not checked, that of an image's empty constant section is: R150 does not
say (DESIGN CHOICE, log entry 166). -/
def planFormed (p : Bytes) (signed : Nat) : Bool :=
  field p 0 4 == 0x4C504A4B && field p 4 2 == 1 && field p 6 2 == 128 && decide (field p 8 1 ≤ 15) && decide (field p 9 1 ≤ 1) &&
  decide (bufferCount p ≤ 1024 ∧ entryCount p ≤ 4095 ∧ peerSetCount p ≤ 4096) && signed % 64 == 0 && field p 44 4 % 32 == 0 &&
  zeros p 56 72 &&
  sectionsPlaced 128 signed ([(field p 28 4, 32 * bufferCount p), (field p 32 4, 448 * entryCount p),
    (field p 36 4, 40 * peerSetCount p), (field p 40 4, field p 44 4), (field p 48 4, field p 52 4)].filter fun x => x.2 != 0) &&
  (field p 52 4 != 0 || field p 48 4 == 0) &&
  ((List.range (bufferCount p)).all (bufferFormed p)) && ((planEntries p).all entryFormed) &&
  ((List.range (peerSetCount p)).all (peerSetFormed p)) && ((List.range (field p 44 4 / 32)).all (scheduleFormed p)) &&
  trailerFormed p signed

/-- A peer set of a plan is sound on this module (R152, R153): 1–16 addresses, ascending, of distinct sites, with its own. -/
def State.peerSetSound (s : State) (h : Nat) (p : Bytes) (i : Nat) : Bool :=
  let n := field (slice p (field p 36 4 + 40 * i) 40) 0 2
  let l := peerSet p i
  decide (1 ≤ n ∧ n ≤ 16) && ascending l && (l.map siteOf).Nodup &&
    (l.contains (s.num Obj.fabricAddress) || l.contains (s.ownAddress h))

/-- Chunk i of an entry meets the pairing rules of R153. -/
def chunkSound (p e : Bytes) (i : Nat) : Bool :=
  let c := chunkRecord p e i
  let q := chunkRecord p e c.partner
  let same := c.peerSet == q.peerSet && c.elementBase == q.elementBase && c.elementCount == q.elementCount &&
    c.emitLength == q.emitLength
  decide (c.peerSet < peerSetCount p) &&
  (if c.role = 0 then c.partner == 0xFFFFFFFF
    else if c.role = 1 then decide (i < c.partner ∧ c.partner < entryChunks e) && q.role == 2 && q.partner == i && same
    else decide (c.partner < i) && q.role == 1 && q.partner == i && same)

/-- Check 7 of R153. -/
def State.scheduleSound (s : State) (h : Nat) (p : Bytes) : Bool :=
  ((planEntries p).all fun e => decide (field e 16 4 + entryChunks e ≤ field p 44 4 / 32) &&
    (List.range (entryChunks e)).all (chunkSound p e)) &&
  (List.range (peerSetCount p)).all (s.peerSetSound h p)

/-- Check 8 of R153: R145 for every entry whose slot holds an image. -/
def State.planBindings (s : State) (h : Nat) (p : Bytes) : Nat :=
  (((planEntries p).filter fun e => s.slotImage h (entrySlot e) != []).map fun e =>
    s.bindingStatus p e (s.slotImage h (entrySlot e))).find? (· != St.ok) |>.getD St.ok

/-- The checks 1 and 3–9 of R153 in order, the staging buffer being readable (R184). -/
def State.planStatus (s : State) (h : Nat) : Nat × Nat :=
  let n := s.num (Obj.imageStageLength h)
  let signed := field (s.stagedHead h) 24 4
  if s.num (Obj.hoopState h) ≠ 1 ∨ (s.hoop h).bound then (St.notPermittedInState, 1)
  else if s.stageBad h n ≠ [] then (St.uncorrectable, 0)
  else if n ≠ signed + trailerBytes then (St.lenExceeded, 3)
  else
    let p := s.staged h
    if !planFormed p signed then (St.accessDenied, 4)
    else if !s.programSigned h p signed "job-plan" then (St.badSignature, 5)
    else if field p 9 1 ≠ s.num (Obj.hoopCompactResidual h) then (St.accessDenied, 6)
    else if !s.scheduleSound h p then (St.accessDenied, 7)
    else if s.planBindings h p ≠ St.ok then (s.planBindings h p, 8)
    else if !s.storeRoom h n then (St.capacityShortfall, 9)
    else (St.ok, 0)

/-! ### Slots -/

/-- Set the objects of an image slot and ImageStoreUsed from what the hoop holds (R160). -/
def State.countSlot (s : State) (h t : Nat) : State :=
  let current := s.slotImage h t
  let pending := s.slotPending h t
  let k := 16 * h + t
  let s1 := s.setNum (Obj.slotState k) (if current = [] then 0 else if pending = [] then 1 else 2)
  let s2 := (s1.setBytes (Obj.slotImageHash k) (if current = [] then [] else imageHash current)).setBytes (Obj.slotImageName k)
    ((slice current 48 32).filter (· != 0))
  let s3 := s2.setBytes (Obj.slotPendingHash k) (if pending = [] then [] else imageHash pending)
  let s4 := if pending = [] then s3.setNum (Obj.slotActivateStep k) 0 else s3
  s4.setNum (Obj.imageStoreUsed h) (s4.storeUsed h)

/-- Set the images of a slot. -/
def State.setSlot (s : State) (h t : Nat) (current pending : Bytes) : State :=
  let x := s.hoop h
  (s.setHoop h { x with images := Map.put [] x.images t current, pendings := Map.put [] x.pendings t pending }).countSlot h t

/-- The pending image of a slot becomes current (R158): WeaveSetHash changes with it, and the exchange of R84 is repeated for
every open group of the hoop. -/
def State.activateSlot (s : State) (h t : Nat) : State :=
  let s1 := s.setSlot h t (s.slotPending h t) []
  s1.each ((s1.groupsOf h).filter fun g => s1.num (Obj.groupState g) == 1) State.startExchange

/-- A chunk of an operation below step k of the hoop is bound or runs (R158). -/
def State.chunksBelow (s : State) (h k : Nat) : Bool :=
  s.work.chunks.any fun c => (c.phase == 1 || c.phase == 2) && s.hoopOfGroup c.group == h &&
    (s.operation c.group c.seq).any fun o => decide (o.step < k)

/-- Slot t has a pending image whose step has come, and no earlier chunk remains (R158). -/
def State.slotDue (s : State) (h t : Nat) : Bool :=
  let k := s.num (Obj.slotActivateStep (16 * h + t))
  s.slotPending h t != [] && decide (k ≤ s.num (Obj.outerStepCounter h)) && !s.chunksBelow h k

/-- Activate every slot of a hoop that is due (R158, R159). -/
def State.activateDue (s : State) (h : Nat) : State :=
  s.each (List.range 16) fun t k => if t.slotDue h k then t.activateSlot h k else t

/-- The image that a chunk of an operation runs (R158): the pending one from its activation step on. -/
def State.imageFor (s : State) (h t step : Nat) : Bytes :=
  let pending := s.slotPending h t
  if pending ≠ [] ∧ s.num (Obj.slotActivateStep (16 * h + t)) ≤ step then pending else s.slotImage h t

/-! ### Commands in progress -/

/-- The job is the load of an image or a plan. -/
def ImageJob.loads (j : ImageJob) : Bool :=
  match j.effect with
  | .cancel _ => false
  | .clear _ => false
  | .unload => false
  | _ => true

/-- Start an image or plan command (R148, R153): its status reads ST_BUSY until it completes. -/
def State.startJob (s : State) (h : Nat) (j : ImageJob) : State :=
  (s.setHoop h { s.hoop h with job := some j }).setNum (if j.isPlan then Obj.planCommandStatus h else Obj.imageCommandStatus h)
    St.busy

/-- Refuse an image command that the hoop's state or the slot does not admit: no check of R148 failed (R159, R160). -/
def State.refuseImage (s : State) (h : Nat) : State :=
  (s.setNum (Obj.imageCommandStatus h) St.notPermittedInState).setNum (Obj.imageCommandDetail h) 0

/-- An image or plan command is refused at the request while another of the hoop runs (R148, R153, R159). -/
def jobCommand (h : Nat) (f : State → State) : Effect := fun s =>
  if (s.hoop h).job.isSome then refuse St.busy s else (f s, St.ok)

/-- ImageCommand Load or LoadPending (R148). -/
def State.loadImage (s : State) (h : Nat) (pending : Bool) : State :=
  let slot := s.num (Obj.imageCommandSlot h)
  let c := s.imageStatus h slot pending
  let bad := if c.1 = St.uncorrectable then s.stageBad h (s.num (Obj.imageStageLength h)) else []
  let effect := if c.1 ≠ St.ok then ImageEffect.nothing
    else if pending then .pending slot (s.staged h) (s.num (Obj.imageActivateStep h)) else .current slot (s.staged h)
  (s.noteBadLines bad).startJob h ⟨false, c.1, c.2, effect⟩

/-- ImageCommand CancelPending (R159): refused once activation has begun. -/
def State.cancelPending (s : State) (h : Nat) : State :=
  let slot := s.num (Obj.imageCommandSlot h)
  if s.slotPending h slot = [] ∨ s.num (Obj.slotActivateStep (16 * h + slot)) ≤ s.num (Obj.outerStepCounter h) then
    s.refuseImage h
  else s.startJob h ⟨false, St.ok, 0, .cancel slot⟩

/-- ImageCommand Clear (R159). -/
def State.clearImage (s : State) (h : Nat) : State :=
  let slot := s.num (Obj.imageCommandSlot h)
  let st := s.num (Obj.hoopState h)
  if s.slotNamed h slot ∧ (st = 2 ∨ st = 3) then s.refuseImage h
  else s.startJob h ⟨false, St.ok, 0, .clear slot⟩

/-- PlanCommand Load (R153). -/
def State.loadPlan (s : State) (h : Nat) : State :=
  let c := s.planStatus h
  let bad := if c.1 = St.uncorrectable then s.stageBad h (s.num (Obj.imageStageLength h)) else []
  let effect := if c.1 ≠ St.ok then ImageEffect.nothing else .plan ((s.staged h).take (field (s.stagedHead h) 24 4))
  (s.noteBadLines bad).startJob h ⟨true, c.1, c.2, effect⟩

/-- PlanCommand Unload (R153). -/
def State.unloadPlan (s : State) (h : Nat) : State :=
  if s.num (Obj.hoopState h) ≠ 1 ∨ (s.hoop h).bound then
    (s.setNum (Obj.planCommandStatus h) St.notPermittedInState).setNum (Obj.planCommandDetail h) 0
  else s.startJob h ⟨true, St.ok, 0, .unload⟩

/-- The hoop's plan becomes p, or none: what follows it (R153). R153 says of an unload only that PlanHash is emptied; PlanRandomTag, and
with it SeedDigest, keep the unloaded plan's value (DESIGN CHOICE, log entry 151). -/
def State.setPlan (s : State) (h : Nat) (p : Bytes) : State :=
  let s1 := s.setHoop h { s.hoop h with plan := p }
  let s2 := (s1.setBytes (Obj.planHash h) (if p = [] then [] else sha3Bytes p)).setNum (Obj.planEntryCount h) (entryCount p)
  let s3 := if p = [] then s2 else (s2.setNum (Obj.planRandomTag h) (field p 8 1)).setNum (Obj.jobDeclaredMemory h) (field p 16 8)
  s3.setNum (Obj.imageStoreUsed h) (s3.storeUsed h)

/-- What a command does when it completes (R148, R153). -/
def State.finishEffect (s : State) (h : Nat) : ImageEffect → State
  | .nothing => s
  | .current t image => (s.setSlot h t image (s.slotPending h t)).clearLines (s.storeLines h image)
  | .pending t image step => ((s.setNum (Obj.slotActivateStep (16 * h + t)) step).setSlot h t (s.slotImage h t) image).clearLines
      (s.storeLines h image)
  | .cancel t => s.setSlot h t (s.slotImage h t) []
  | .clear t => s.setSlot h t [] []
  | .plan p => s.setPlan h p
  | .unload => s.setPlan h []

/-- The running command of a kind completes: its status and detail become final (R148, R153). -/
def State.finishJob (s : State) (h : Nat) (isPlan : Bool) : State :=
  match (s.hoop h).job with
  | none => s
  | some j =>
    if j.isPlan ≠ isPlan then s
    else
      let s1 := (s.setHoop h { s.hoop h with job := none }).finishEffect h j.effect
      if isPlan then (s1.setNum (Obj.planCommandStatus h) j.status).setNum (Obj.planCommandDetail h) j.detail
      else (s1.setNum (Obj.imageCommandStatus h) j.status).setNum (Obj.imageCommandDetail h) j.detail

end Sys2Proof.Machine
end

