-- ==== Sys2Proof/Machine/TileOps.lean ====
section
/-! DEFINITION. Weaver tiles as the plan sequencer sees them (chapter 5): the order of binding (R94), the choice of a tile (R95), the
copy of spilled bytes (R96), the start of a chunk (R106, R154), chunks that leave a tile (R100, R102), thermal actions (R98, R494). -/

namespace Sys2Proof.Machine

open Sys2Proof

/-! ### The next chunk to bind (R94, R155) -/

/-- The lowest chunk of an operation that no tile holds and that has not run to its end. -/
def State.nextChunk (s : State) (g : Nat) (o : Operation) : Option Nat :=
  (s.workChunks g o).find? fun i => (s.chunk (g, o.seq, i)).all fun c => c.phase == 0

/-- Every other position of a chunk's peer set has delivered the whole stream, verified (R155). -/
def State.peersDelivered (s : State) (g : Nat) (o : Operation) (r : ChunkRecord) (i : Nat) : Bool :=
  let h := s.hoopOfGroup g
  ((s.peersOf h o r).filter (· != s.ownAddress h)).all fun a =>
    covered (s.stream g o.seq (streamIndex r i) a).got 0 r.emitLength

/-- The image that a chunk runs: the one it has kept, else that of its slot at its operation's step (R154, R158). -/
def State.chunkImage (s : State) (g : Nat) (o : Operation) (i : Nat) : Bytes :=
  let kept := ((s.chunk (g, o.seq, i)).map Chunk.image).getD []
  if kept ≠ [] then kept
  else match s.entryOf g o with
    | some e => s.imageFor (s.hoopOfGroup g) (entrySlot e) o.step
    | none => []

/-- A chunk may be bound: a receiver only after its emitter's CDONE and its peers' streams (R94, R155). -/
def State.bindable (s : State) (g : Nat) (o : Operation) (i : Nat) : Bool :=
  match s.recordOf g o i with
  | none => false
  | some r =>
    s.chunkImage g o i != [] &&
    (r.role != 2 || (o.redo != 0 || ((s.chunk (g, o.seq, r.partner)).any fun c => c.phase == 3)) && s.peersDelivered g o r i)

/-- Place of an operation that runs again: by step, an OuterStep after the rest of its step (R343). -/
def redoPlace (o : Operation) : Nat := 2 * o.step + (if dOpcode o.desc = 7 then 1 else 0)

/-- An operation that runs again may offer chunks: those before it have ended, and in a replay every autonomous operation
(R343). -/
def State.redoTurn (s : State) (h : Nat) (o : Operation) : Bool :=
  ((s.groupsOf h).all fun g => (s.group g).redo.all fun y => decide (redoPlace o ≤ redoPlace y)) &&
    (o.redo != 2 || !s.autonomousLeft h)

/-- The operations of a hoop that offer chunks, in order of acceptance (R94). -/
def State.offering (s : State) (h : Nat) : List (Nat × Operation) :=
  let l := ((s.groupsOf h).filter fun g => !s.isSmall g).flatMap fun g =>
    (((s.group g).ops.filter fun o => o.phase == 1) ++ (s.group g).redo.filter (s.redoTurn h)).filterMap fun o =>
      if o.ending.isNone then some (g, o) else none
  l.mergeSort fun a b => decide (a.2.order ≤ b.2.order)

/-- The next bindable chunk of a hoop (R94). -/
def State.nextBinding (s : State) (h : Nat) : Option (Nat × Operation × Nat) :=
  (s.offering h).findSome? fun x =>
    (s.nextChunk x.1 x.2).bind fun i => if s.bindable x.1 x.2 i then some (x.1, x.2, i) else none

/-! ### The tile (R94, R95) -/

/-- A free zone of a tile, the lower one first. -/
def TileData.freeZone (x : TileData) : Option Nat := if x.zone0.isNone then some 0 else if x.zone1.isNone then some 1 else none

/-- A tile to which a chunk of hoop h can be bound (R94, R391). -/
def State.tileEligible (s : State) (h t : Nat) : Bool :=
  let st := s.num (Obj.tileState t)
  let x := s.tile t
  s.num (Obj.tileOwner t) == h && (st == 1 || st == 2) && !s.flag (Obj.tileClockDivided t) && !x.testing && x.freeZone.isSome &&
    decide (x.held.length < 2)

/-- The score of R95. -/
def State.tileScore (s : State) (t : Nat) : Int :=
  let th := max 0 (950 - s.int (Obj.tileTemperatureMax t))
  let ph := max 0 ((s.num (Obj.diePowerBudget (t / 6)) : Int) - s.num (Obj.diePower (t / 6)))
  s.num Obj.tileSelectThermalWeight * th + s.num Obj.tileSelectPowerWeight * ph

/-- Tile a goes before tile b (R95). -/
def State.tileBefore (s : State) (a b : Nat) : Bool :=
  let x := s.tileScore a
  let y := s.tileScore b
  let m := (s.tile a).held.length
  let n := (s.tile b).held.length
  decide (y < x) || (decide (x = y) && (decide (m < n) || (decide (m = n) && decide (a < b))))

/-- The tile that the sequencer chooses (R95). -/
def State.chooseTile (s : State) (h : Nat) : Option Nat :=
  ((List.range 48).filter (s.tileEligible h)).foldl (fun best t => match best with
    | none => some t
    | some b => if s.tileBefore t b then some t else some b) none

/-! ### Binding (R94, R96, R125) -/

/-- The spilled pieces of a landing: zone-relative place, handle, bytes of the slot in the piece (R96, R220). -/
def Landing.pieces (l : Landing) (stride n : Nat) : List (Nat × Nat × Nat) :=
  l.buffers.map fun b => (b.1.1 * stride + b.1.2 * frameBytes, b.2, min frameBytes (n - b.1.2 * frameBytes))

/-- The zone-relative bytes of a landing: spilled pieces, and what had reached a zone. -/
def State.landedBytes (s : State) (l : Landing) (stride n : Nat) : Memory :=
  let spilled := (l.pieces stride n).foldl (fun m p => match s.handleAddress p.2.1 with
    | some a => Memory.writeBytes m p.1 (s.load a p.2.2)
    | none => m) ([] : Memory)
  l.saved.foldl (fun m r => Memory.writeBytes m r.1 (Memory.readBytes l.data r.1 (r.2 - r.1))) spilled

/-- Copy what has landed for a chunk into its zone and free its spill buffers; a line that reads uncorrectable voids the
chunk's input (R96, R101, R184). -/
def State.fillZone (s : State) (g : Nat) (o : Operation) (i tile base : Nat) : State :=
  match s.entryOf g o, s.recordOf g o i with
  | some e, some r =>
    let h := s.hoopOfGroup g
    let w := dSourceWindow o.desc
    match s.landing w o.generation i with
    | none => s
    | some l =>
      let n := chunkBytes e r
      let bad := s.badIn ((l.pieces (slotStride e r) n).filterMap fun p => (s.handleAddress p.2.1).map fun a => (a, p.2.2))
      let bytes := s.landedBytes l (slotStride e r) n
      let other := s.foreignHandle h (l.buffers.map Prod.snd)
      if other.isSome then s.ownerFault h (other.getD 0)
      else
      let s1 := s.each l.placed fun t x => t.storeTile tile (base + x.1) (Memory.readBytes bytes x.1 (x.2 - x.1))
      let s2 := ((s1.setLanding { l with data := bytes, saved := l.placed, buffers := [] }).freeAll h
        (l.buffers.map Prod.snd)).settleSpill h
      if bad = [] then s2 else (s2.noteBadLines bad).inputLost g o i
  | _, _ => s

/-- Bind chunk i to a free zone of a tile (R94). Exchange data that waited leaves its buffers (R125). -/
def State.bindTo (s : State) (g : Nat) (o : Operation) (i tile zone : Nat) : State :=
  let h := s.hoopOfGroup g
  let image := s.chunkImage g o i
  let c := (s.chunk (g, o.seq, i)).getD { group := g, seq := o.seq, index := i }
  let s1 := (s.setChunk { c with phase := 1, tile := tile, zone := zone, image := image, bound := s.work.nextOrder }).setTile tile
    ((s.tile tile).setZone zone (some (g, o.seq, i)))
  let s2 : State := { s1 with work := { s1.work with nextOrder := s1.work.nextOrder + 1 } }
  let x := s2.exchange g o.seq i
  let s3 := if x.buffers = [] then s2
    else match s2.foreignHandle h x.buffers with
      | some f => s2.ownerFault h f
      | none => (s2.setExchange { x with buffers := [], credit := 0 }).freeAll h x.buffers
  let s3 := s3.dropWaiting fun q => q.purpose == .exchange g o.seq i
  ((s3.fillZone g o i tile (zoneBase image zone)).settleTile tile).voteBound tile

/-- Bind a chunk to the tile that the sequencer chooses, if there is one. -/
def State.bindChunk (s : State) (g : Nat) (o : Operation) (i : Nat) : State :=
  match s.chooseTile (s.hoopOfGroup g) with
  | none => s
  | some t => match (s.tile t).freeZone with
    | none => s
    | some z => s.bindTo g o i t z

/-! ### Starting (R94, R106, R154) -/

/-- An operation of an autonomous step, not its replay (R342). -/
def Operation.autonomous (o : Operation) : Bool := o.side != 0xFFFF && o.redo != 2

/-- Only OuterStep operations write the plan buffer (R342): no other entry binds it to a region of class 2 that its image may
write. -/
def State.outerOnly (s : State) (h buffer : Nat) : Bool :=
  (planEntries (s.hoop h).plan).all fun e => entryOpcode e == 7 || (List.range 16).all fun r =>
    let image := s.slotImage h (entrySlot e)
    let d := regionDecl image r
    !(regionDeclared image r && d.cls == 2 && d.double && !d.readOnly && (entryRegion e r).any fun b => b.1 == buffer)

/-- The parity at which a region of a class is read (R109): the read parity of the operation's step; in an autonomous step the
outer state of class 2 at that of BaseStep, in a replay what only OuterStep operations write (R342). -/
def State.readParity (s : State) (h : Nat) (o : Operation) (cls buffer : Nat) : Nat :=
  if cls = 2 ∧ (o.autonomous ∨ (o.redo = 2 ∧ s.outerOnly h buffer)) then s.num (Obj.partitionBaseStep h) % 2 else o.step % 2

/-- The staged content that a chunk needs: buffer, offset, length, parity, step (R144, R154); none where its image stages
nothing. -/
def State.stagedNeed (s : State) (h : Nat) (o : Operation) (image e : Bytes) : Option (Nat × Nat × Nat × Nat × Nat) :=
  let r := stagedRegion image
  if stagedLength image = 0 ∨ 16 ≤ r then none
  else (entryRegion e r).map fun b =>
    let d := regionDecl image r
    (b.1, b.2, stagedLength image, (if d.double then s.readParity h o d.cls b.1 else 0), o.step)

/-- Load the constants and the staged area that a chunk's image needs and the tile lacks (R154), out of the image store and a plan
buffer: an uncorrectable read of either is a hoop fault, and so is a foreign frame (R63, R184, R202). -/
def State.loadProgram (s : State) (t h : Nat) (o : Operation) (image e : Bytes) : State :=
  let x := s.tile t
  let hash := imageHash image
  let fresh := decide (x.residentHash ≠ hash)
  let torn := if fresh ∧ s.memory.bad ≠ [] then (s.storeLines h image).filter s.memory.bad.contains else []
  if torn ≠ [] then (s.noteBadLines torn).hoopFault h 2 (s.channelOf (torn.headD 0 * 64))
  else
  let s1 := if fresh then
      ((s.setTile t { x with residentHash := hash }).storeTile t (constBase image) (slice image (field image 32 4) (constLength image))).bump
        64 (Obj.tileImageLoads t) 1
    else s
  match s.stagedNeed h o image e with
  | none => s1
  | some need =>
    let differs := decide (x.staged ≠ some need)
    if fresh ∨ differs then
      let (b, off, n, parity, _) := need
      let bad := s1.badIn (s1.planExtents h b parity off n)
      let other := s1.foreignPlan h b parity off n
      let s2 := ((s1.setTile t { s1.tile t with staged := some need }).storeTile t (stagedBase image) (s1.readPlan h b parity off n))
      let s3 := if differs then s2.bump 64 (Obj.tileStagedLoads t) 1 else s2
      if other.isSome then s1.ownerFault h (other.getD 0)
      else if bad = [] then s3
      else (s1.noteBadLines bad).hoopFault h 1 (s1.channelOf ((bad.headD 0) * 64))
    else s1

/-- Set the program state of a tile for a chunk (R106). -/
def TileData.begin_ (x : TileData) (c : Nat × Nat × Nat) (image : Bytes) : TileData :=
  { store := x.store, zone0 := x.zone0, zone1 := x.zone1, running := some c, image := image, pc := field image 28 2
    residentHash := x.residentHash, staged := x.staged, testing := x.testing, samples := x.samples }

/-- The chunk that a tile runs next: the earlier bound of those in its zones (R94). -/
def State.waitingChunk (s : State) (t : Nat) : Option Chunk :=
  let x := s.tile t
  ((x.zone0.toList ++ x.zone1.toList).filterMap s.chunk).foldl (fun best c => match best with
    | none => some c
    | some b => if c.bound < b.bound then some c else some b) none

/-- Tile t can run chunk c now (R94, R377, R389): nothing runs on it, its clock runs, it is not stopped, and the chunk's slots
are complete and need no resupply. -/
def State.mayStart (s : State) (t : Tile) (c : Chunk) : Bool :=
  let st := s.num (Obj.tileState t)
  (s.tile t).running.isNone && (st == 1 || st == 2 || st == 3) && s.num (Obj.domainSleepState (tileDomain t)) == 0 &&
    s.blockRuns (.tile t) && c.phase == 1 && !c.resupply &&
    (s.operation c.group c.seq).any fun o => o.ending.isNone && s.slotsComplete c.group o c.index

/-- Chunk c starts on tile t (R106, R154): exchange data that has arrived stands in its region (R125). -/
def State.startChunk (s : State) (t : Nat) (c : Chunk) : State :=
  match s.operation c.group c.seq with
  | none => s
  | some o =>
    let h := s.hoopOfGroup c.group
    let e := (s.entryOf c.group o).getD []
    let s1 := (s.loadProgram t h o c.image e).setChunk { c with phase := 2 }
    let x := s1.exchange c.group c.seq c.index
    let s2 := s1.each x.got fun u r => u.storeTile t (exchangeBase c.image + r.1) (Memory.readBytes x.data r.1 (r.2 - r.1))
    if s2.num (Obj.hoopState h) = 6 then s2
    else (s2.setTile t ((s2.tile t).begin_ c.key c.image)).settleTile t

/-! ### Chunks that leave a tile (R81, R100, R102) -/

/-- A chunk leaves a tile to be bound again (R100): what landed for it is kept (R81), unless the tile's store cannot be read and
it had landed input (R102). -/
def State.moveChunk (s : State) (t : Nat) (readable : Bool) (key : Nat × Nat × Nat) : State :=
  match s.chunk key, s.operation key.1 key.2.1 with
  | some c, some o =>
    let s1 := (s.leaveTile t key).setChunk { c with phase := 0 }
    let landed := ((s1.landing (dSourceWindow o.desc) o.generation c.index).map Landing.placed).getD [] != []
    if !readable && landed then s1.inputLost key.1 o c.index else s1
  | _, _ => s.leaveTile t key

/-- Bind a chunk again where it can be (R100, R102). -/
def State.rebind (s : State) (key : Nat × Nat × Nat) : State :=
  match s.operation key.1 key.2.1, s.chunk key with
  | some o, some c => if o.ending.isNone ∧ c.phase = 0 ∧ s.bindable key.1 o c.index then s.bindChunk key.1 o c.index else s
  | _, _ => s

/-- The chunks of a tile move to other tiles of its hoop. -/
def State.moveChunks (s : State) (t : Nat) (readable : Bool) : State :=
  let keys := (s.tile t).held
  (s.each keys fun u k => u.moveChunk t readable k).each keys State.rebind

/-- The chunk that ran when its tile faulted counts the tile; true where it has faulted two tiles (R102). -/
def State.countFault (s : State) (t : Nat) : State × Bool :=
  match (s.tile t).running.bind s.chunk with
  | none => (s, false)
  | some c => (s.setChunk { c with faults := c.faults ++ [t] }, c.faults.any (· != t))

/-- A hoop faults for want of tiles (R102): never a Configured hoop, which runs no chunk (R27). -/
def State.noTileLeft (s : State) (h : Nat) : Bool :=
  decide (s.num (Obj.hoopState h) ≠ 1) && (List.range 48).all fun t =>
    s.num (Obj.tileOwner t) != h || !(s.num (Obj.tileState t) == 1 || s.num (Obj.tileState t) == 2)

/-- The chunk of tile t whose landed local slots hold the byte at an address of the tile store (R93, R101). -/
def State.landedAt (s : State) (t a : Nat) : Option Chunk :=
  (((s.tile t).zone0.toList ++ (s.tile t).zone1.toList).filterMap s.chunk).find? fun c =>
    let base := zoneBase c.image c.zone
    decide (base ≤ a) && (s.operation c.group c.seq).any fun o =>
      covered ((s.landing (dSourceWindow o.desc) o.generation c.index).map Landing.placed |>.getD []) (a - base) (a - base + 1)

/-- A tile becomes Faulted with a cause (R102, R104). -/
def State.tileFaults (s : State) (t cause : Nat) (readable : Bool) : State :=
  if s.num (Obj.tileState t) = 5 then s
  else
    let h := s.num (Obj.tileOwner t)
    let r := if cause = 7 then (s, false) else s.countFault t
    let s1 := ((r.1.setNum (Obj.tileState t) 5).setNum (Obj.tileFaultCause t) cause).raise Ev.tileFault
      { hoop := h, die := 1 + t / 6, unit := t, detail := cause }
    if 16 ≤ h then s1
    else
      let s2 := s1.moveChunks t readable
      if r.2 then s2.hoopFault h 4 t
      else if s2.noTileLeft h then s2.hoopFault h 3 t
      else s2

/-! ### Heat (R98–R100, R494) -/

/-- The fast-drop condition on the samples of a tile, newest first (R98): above 100.0 °C, or more than 5.0 °C in 100 µs. -/
def fastDropSeen (now : List Int) (before : Option (List Int)) : Bool :=
  now.any (fun r => decide (1000 < r)) ||
    (match before with
      | none => false
      | some b => (List.zipWith (fun x y => decide (50 < x - y)) now b).any id)

/-- A trip (R100, R494). -/
def State.tripTile (s : State) (t : Nat) : State :=
  let h := s.num (Obj.tileOwner t)
  let st := s.num (Obj.tileState t)
  let s1 := (s.bump 32 (Obj.tileTrips t) 1).raise Ev.tileTrip { hoop := h, die := 1 + t / 6, unit := t }
  let s2 : State := { s1 with net := { s1.net with trips := s1.now :: s1.net.trips } }
  if st = 0 ∨ st = 5 then s2 else (s2.setNum (Obj.tileState t) 4).moveChunks t true

/-- A fast drop (R98, R494): a tile that already runs at 0.525 GHz or slower keeps its clock. -/
def State.dropTile (s : State) (t : Nat) : State :=
  let h := s.num (Obj.tileOwner t)
  let st := s.num (Obj.tileState t)
  let s0 := (s.bump 32 (Obj.tileFastDrops t) 1).raise Ev.tileFastDrop { hoop := h, die := 1 + t / 6, unit := t }
  let s1 : State := { s0 with power := { s0.power with returning := s0.power.returning.filter (· != t) } }
  if st = 0 ∨ st = 5 then s1.setFlag (Obj.tileClockDivided t) true
  else
    let s2 := s1.setNum (Obj.tileState t) 3
    if s.num (Obj.domainLevel (tileDomain t)) < 2 then s2.setFlag (Obj.tileClockDivided t) true else s2

/-- The thermal vote of a domain by its highest sensor (R386): S1 from 95.0 °C on, withdrawn below 90.0 °C. -/
def State.thermalVote (s : State) (d : Nat) (highest : Int) : State :=
  if 950 ≤ highest then s.setNum (Obj.domainVoteThermal d) 6
  else if highest < 900 then s.setNum (Obj.domainVoteThermal d) 0xFF
  else s

end Sys2Proof.Machine
end

