-- ==== Sys2Proof/Machine/ResetOps.lean ====
section
/-! DEFINITION. What the resets do to each part of the machine (R471–R475): which die holds an object, what each class takes to its
default, work that ends, objects that are derived again. -/

namespace Sys2Proof.Machine

open Sys2Proof

/-! ### Which die holds an object (R377, R473, R474) -/

/-- The die (R396) that holds the object at a key: configuration, module-wide objects and objects of units that span dies are
held by the hub die. -/
def holderOf (k : Nat) : Nat :=
  match findRow k with
  | none => 0
  | some (r, u) =>
    if r.base = 0xD800 ∨ r.base = 0xD820 then 24
    else if r.acc != .ro ∨ r.count = 1 then 0
    else match r.base with
      | 0x4100 => 1 + u / 6
      | 0x5010 => 9 + u
      | 0x5100 => 9 + u / 80
      | 0x5210 => 9 + u
      | 0x6010 => 17 + u / 4
      | 0x6020 => 17 + u / 8
      | 0x6040 => 17 + u / 32
      | 0x6100 => 17 + u / 8192
      | 0x6500 => 17 + u / 8192
      | 0x7020 => 19 + u / 16
      | 0x7060 => 19 + u / 16
      | 0x8040 => 19 + u / 16
      | 0x9060 => 19 + u / 16
      | 0x80A0 => 21 + u / 8
      | 0x80C0 => 23
      | _ => 0

/-- What a sensor or a pin shows now, which no reset changes (log entry 33): inputs, voltages, temperatures, connectors, management
links, ready sources. -/
def measured (k : Nat) : Bool :=
  let i := k / 256
  let u := k % 256
  (i == 0xE000 && u == 0x0B) || (i == 0xC700 && decide (3 ≤ u)) || (decide (0x80A0 ≤ i ∧ i < 0x80B0) && u == 3) ||
    (decide (0x1010 ≤ i ∧ i < 0x1012) && u == 2) || (decide (0xC010 ≤ i ∧ i < 0xC015) && decide (u < 3))

/-- State and level of a domain as it runs: a hub-only reset leaves what other dies do as it is. -/
def runningState (k : Nat) : Bool :=
  let i := k / 256
  let u := k % 256
  (decide (0xC100 ≤ i ∧ i < 0xC164) && (u == 2 || u == 5)) || (decide (0xC400 ≤ i ∧ i < 0xC464) && u != 9)

/-- The store keeps the objects that satisfy `p`; the others take their defaults. -/
def State.keepObjects (s : State) (p : Nat → Bool) : State := { s with dict := s.dict.filter fun c => p c.1 }

/-- Objects kept by a cold reset before the persistent store is read: those of the E die, how its two domains run, and what is
measured (R448, R471, R473). -/
def coldKeeps (k : Nat) : Bool :=
  holderOf k == 24 || measured k || (runningState k && (k / 256 % 256 == 98 || k / 256 % 256 == 99))

/-- Objects kept by a warm reset (R473). -/
def warmKeeps (k : Nat) : Bool := retentionOf k != .v || coldKeeps k

/-- Objects kept by a hub-only reset (R473). -/
def hubKeeps (k : Nat) : Bool := retentionOf k != .v || holderOf k != 0 || measured k || runningState k

/-- Objects kept by a reset of die n (R473). -/
def dieKeeps (n k : Nat) : Bool := holderOf k != n || retentionOf k == .p || retentionOf k == .h || measured k

/-- Objects kept when every die but the hub die and the E die is switched off (R466, R469): as by a reset of each. -/
def diesKeep (k : Nat) : Bool :=
  holderOf k == 0 || holderOf k == 24 || retentionOf k == .p || retentionOf k == .h || measured k

/-! ### Memory (R183, R187, R189) -/

/-- The channels of die m on the list of mapped-out channels. -/
def State.listedOf (s : State) (m : Nat) : Nat :=
  popCount 80 (leNat (s.bytes Obj.mappedOutChannels) / 2 ^ (80 * m))

/-- The sizes that follow from RepeatWindowMs and the mapped-out channels (R189, R190, R205, R265). -/
def State.sizeMemory (s : State) : State :=
  let region := 2 * s.repeatCopy + 7 * 2 ^ 30 + 2 ^ 27
  let s1 := (s.setNum Obj.moduleRegionBytes region).setNum Obj.repeatLaneShareBytes (s.repeatCopy / 32)
  let s2 := s1.each (List.range 8) fun t m =>
    let live := (t.liveChannels m).length
    ((t.setNum (Obj.dieLiveChannels m) live).setNum (Obj.dieUsableBytes m) (live * channelBytes)).setNum (Obj.diePoolFrames m)
      ((80 - t.listedOf m) * (channelBytes / frameBytes) - t.firstPoolFrame)
  let live := ((List.range 8).map fun m => (s2.liveChannels m).length).sum
  let s3 := (s2.setNum Obj.memoryUsableBytes (live * channelBytes)).setNum Obj.channelsMappedOut (640 - live)
  (s3.each (List.range 16) State.countPools).countCapacity

/-- The channels on the list are mapped out again after their objects were lost (R183): a channel keeps Failed training only
through the training itself. -/
def State.listChannels (s : State) (m : Nat) : State :=
  s.each ((List.range 80).filter fun j => bitAt (leNat (s.bytes Obj.mappedOutChannels)) (80 * m + j)) fun t j =>
    if t.num (Obj.channelState (80 * m + j)) < 2 then t.setNum (Obj.channelState (80 * m + j)) 2 else t

/-! ### Work (R472) -/

/-- An operation that a reset ends: ST_ABORTED without a record, its buffers kept (R204, R472). -/
def State.resetOp (s : State) (g : Nat) (o : Operation) : State := (s.endOpWith true g o St.aborted).freeContext g o

/-- The groups that are open or Broken. -/
def State.openGroups (s : State) : List Nat := (List.range 4096).filter fun g => s.num (Obj.groupState g) != 0

/-- A group's accepted operations end, and it needs Reform (R472). -/
def State.resetGroup (s : State) (g : Nat) : State :=
  let s0 := s.each (s.group g).redo fun t o => t.endHoldings g o true
  let s1 := s0.each (s0.group g).ops fun t o => t.resetOp g o
  let x := s1.group g
  let s2 := s1.setGroup g { x with redo := [], waiting := none, contributions := [], heard := [], stands := false }
  if s2.num (Obj.groupState g) = 1 then s2.setNum (Obj.groupState g) 2 else s2

/-- Warm and hub-only reset: operations end, groups break, Running and Draining hoops are Stopped, waiting pool requests and
unclaimed landings go, image and plan commands end without effect (R159, R204, R472). Held buffers stay held, those of a group until its
Reform or Delete. -/
def State.endWork (s : State) : State :=
  let s1 := s.each s.openGroups State.resetGroup
  let s2 := s1.each (List.range 16) fun t h =>
    let x := t.hoop h
    let t1 := if x.job.isSome ∨ x.evacuation.isSome ∨ x.evacuateWhenStopped then
        t.setHoop h { x with job := none, evacuation := none, evacuateWhenStopped := false }
      else t
    if t1.num (Obj.hoopState h) = 2 ∨ t1.num (Obj.hoopState h) = 3 then t1.setNum (Obj.hoopState h) 4 else t1
  let s3 := s2.each s2.work.streams fun t x => t.keepFor (some x.group) x.buffers
  let s4 := s3.each s3.work.exchanges fun t x => t.keepFor (some x.group) x.buffers
  { s4 with
    work := { s4.work with chunks := [], streams := [], exchanges := [], landings := [] }
    pools := { s4.pools with waiting := [], episodes := [] } }

/-- Status objects of the image and plan commands that a reset ends; they read ST_ABORTED after it (R159). -/
def State.cutJobs (s : State) : List Nat :=
  (List.range 16).filterMap fun h => (s.hoop h).job.map fun j =>
    if j.isPlan then Obj.planCommandStatus h else Obj.imageCommandStatus h

/-- Counts that follow from the groups, queue pairs and windows that are kept (R45, R62, R224). -/
def State.countKept (s : State) : State :=
  let open_ := s.openGroups
  let s1 := (s.setNum Obj.groupsOpen open_.length).setNum Obj.smallGroupsOpen (open_.filter s.isSmall).length
  s1.each (List.range 16) fun t h =>
    let own := open_.filter fun g => t.num (Obj.groupHoop g) == h
    let t1 := t.setNum (Obj.hoopGroupMinimumSum h) ((own.map fun g => t.num (Obj.groupContextMinimum g)).sum)
    let t2 := t1.setNum (Obj.hoopQpsInUse h)
      (t1.fabric.qps.filter fun c => c.2.bound && c.2.hoop == h && t1.num (Obj.qpState c.1) != 0).length
    t2.setNum (Obj.hoopWindowsInUse h) (t2.windowsOf h fun _ => true).length

/-! ### Power-on and cold reset: what is derived again (R474) -/

/-- A hoop that was not Empty is Configured again under R31, or Faulted with cause 8 (R474). -/
def State.configureAgain (s : State) (h : Nat) : State :=
  let r := s.configure h
  if r.2 = St.ok then r.1 else (r.1.setNum (Obj.hoopState h) 1).hoopFault h 8 0xFFFFFFFF

/-- The H objects that follow from the values restored, with the work and transport state that is lost (R474). -/
def State.deriveAgain (s : State) : State :=
  let held := (List.range 16).filter fun h => s.num (Obj.hoopState h) != 0
  let s1 := s.each s.openGroups fun t g =>
    let x := t.group g
    ((t.setNum (Obj.groupState g) 2).setNum (Obj.groupQueueIndices g) 0).setGroup g {
      members := x.members, contributors := x.contributors, bufferKib := x.bufferKib }
  let s2 : State := { s1 with
    work := { hoops := [], groups := s1.work.groups, nextOrder := s1.work.nextOrder, nextWait := s1.work.nextWait }
    pools := {}
    tiles := s1.tiles.filterMap fun c =>
      let x : TileData := { samples := c.2.samples }
      if x = {} then none else some (c.1, x)
    fabric := {} }
  let s3 := s2.each (List.range 16) fun t h =>
    let t0 := t.each (List.range 16) fun u i => u.setSlot h i [] []
    let t1 := if t0.bytes (Obj.planHash h) = [] then t0 else t0.setPlan h []
    ((((t1.setNum (Obj.partitionState h) 0).setNum (Obj.partitionSide h) 0xFFFF).setNum (Obj.autonomousSteps h) 0).setNum
      (Obj.shadowState h) 0).setNum (Obj.hoopState h) 0
  let s4 := s3.each ((List.range 16384).filter fun q => s3.num (Obj.qpState q) != 0) fun t q => t.setNum (Obj.qpState q) 0
  let s5 := s4.each ((List.range 16384).filter fun w => s4.num (Obj.windowState w) != 0) fun t w =>
    let t1 := t.bump 32 (Obj.windowGeneration w) 1
    t1.setNum (Obj.windowRemoteKey w) (t1.windowKey w)
  ((s5.sizeMemory).each held State.configureAgain).countKept

/-- GroupDefinition gives a group's members again where the store of work was lost with the hub die (R46, R474). -/
def State.readGroups (s : State) : State :=
  s.each s.openGroups fun t g =>
    let d := groupDef (t.bytes (Obj.groupDefinition g))
    t.setGroup g { members := d.members, contributors := d.contributors, bufferKib := d.bufferKib }

/-! ### Dies -/

/-- Domains of the dies other than the hub die and the E die. -/
def dieDomains : List Nat := (List.range 90).map (8 + ·)

/-- Domains that take a clock from the standby supply: those of the hub die and the E die (R466). -/
def standbyDomains : List Nat := [0, 1, 2, 3, 4, 5, 6, 7, 98, 99]

/-- The domains of a die (R370). -/
def domainsOf (n : Nat) : List Nat := (List.range 100).filter fun d => dieOfDomain d == n

/-- Domains come up after a reset, at the targets that their votes give (R385, R477): on their DomainSource where it is ready,
else on INTOSC (R367); a tile that no hoop owns is gated. -/
def State.comeUp (s : State) (ds : List Nat) : State :=
  let s1 := s.each ds fun t d =>
    let gated := (domainTile d).any fun i => t.num (Obj.tileOwner i) == 0xFF
    let src := t.num (Obj.domainSource d)
    let t1 : State := { t with power := { t.power with
      source := Map.put 0 t.power.source d (if t.flag (Obj.sourceReady src) then src else 0) } }
    let t2 := (t1.setNum (Obj.domainState d) (if gated then 4 else 1)).setSleep d 0
    let c := levelClock d (t2.num (Obj.domainLevel d))
    (t2.setNum (Obj.domainFrequency d) c.1).setNum (Obj.domainVoltage d) c.2
  s1.each ds State.settleDomain

/-- Channel c is the one whose map-out runs on its die (R187). -/
def State.mapsOut (s : State) (c : Nat) : Bool := (Map.get [] s.memory.migrations (c / 80)).head? == some c

/-- Module memory is lost with the dies that hold it (R466, R471). What a channel is to do at its next training is kept, and which map-outs
ran (R188). -/
def State.loseMemory (s : State) : State :=
  let kept (c : Nat) : Map ChannelData :=
    let x := Map.get {} s.memory.channels c
    if x.restore || x.leaving || s.mapsOut c then [(c, { restore := x.restore, leaving := x.leaving || s.mapsOut c })] else []
  { s with mem := [], memory := { channels := (List.range 640).flatMap kept } }

/-- The line and the optics as they start: spares that were being tuned return to the pool, trips stay latched (R305). -/
def State.loseLine (s : State) : State :=
  let s1 := s.each (List.range 16) State.returnSpare
  { s1 with line := {}, optics := { tripped := s1.optics.tripped } }

/-- The objects of the wales as they start (R252, R270, R290): held by the hub die, they follow the L dies here. -/
def State.forgetWales (s : State) : State :=
  s.keepObjects fun k =>
    let i := k / 256
    !(retentionOf k == .v && (decide (0x7040 ≤ i ∧ i < 0x7060) || decide (0x7080 ≤ i ∧ i < 0x70A0) || decide (0x7880 ≤ i ∧ i < 0x78A0)))

/-- Every die but the hub die and the E die is switched off (R466, R469): as a cold reset of those dies, with what R474 derives
again; their domains are Off. -/
def State.diesOff (s : State) : State :=
  let s1 := (s.loseMemory.loseLine).keepObjects diesKeep
  let s2 := (s1.forgetWales).deriveAgain
  let s3 := s2.each dieDomains fun t d => t.setNum (Obj.domainState d) 0
  let s4 : State := { s3 with
    power := { s3.power with running := [], stopped := [] }
    boot := { s3.boot with powered := s3.boot.powered.filter fun n => n == 3 || n == 195 || n == 232 } }
  (s4.countWales).settleOptics

end Sys2Proof.Machine
end

