-- ==== Sys2Proof/Machine/TimeUnit.lean ====
section
/-! DEFINITION. Time bases (chapter 18): ticks and increments (R351), steps (R353), IEEE 1588 (R354, R355), the protected time
(R356), line time (R357–R359), the pulse pins (R360). -/

namespace Sys2Proof.Machine

open Sys2Proof

/-! ### Bases and the protected time -/

/-- The accumulator of a base set to a count of nanoseconds. -/
def State.setBase (s : State) (b ns : Nat) : State :=
  { s with time := { s.time with acc := Map.put 0 s.time.acc b (ns * 2 ^ 32) } }

/-- d, ProtectedOffset (R356): an i64. -/
def State.protectedD (s : State) : Int := toSigned 64 (s.num Obj.protectedOffset)

/-- Set d. -/
def State.setProtectedD (s : State) (d : Int) : State := s.setNum Obj.protectedOffset (ofSigned 64 d)

/-- P in nanoseconds: the selected source plus d; 0 while Unset (R356). -/
def State.protectedNs (s : State) : Nat :=
  let b := s.num Obj.protectedSelect
  if b = 0 then 0 else ((s.baseNs b : Int) + s.protectedD).toNat

/-- TB1 or TB2 is Locked (R355). -/
def State.locked (s : State) (b : Nat) : Bool := s.num (Obj.tbState b) == 3

/-- Step base b to a count of nanoseconds (R353): TbSteps, EV_TIME_STEP; P does not step, so d takes up a step of the selected
source (R356). -/
def State.stepBase (s : State) (b ns : Nat) : State :=
  let p := s.protectedNs
  let s1 := s.setBase b ns
  let s2 := if s.num Obj.protectedSelect = b ∧ b ≠ 0 then s1.setProtectedD ((p : Int) - (ns : Int)) else s1
  (s2.bump 32 (Obj.tbSteps b) 1).raise Ev.timeStep { unit := b }

/-- Switch the protected time to source b (R356): d := P − new source, so P does not move. -/
def State.selectSource (s : State) (b : Nat) : State :=
  let p := s.protectedNs
  let s1 := (s.setNum Obj.protectedSelect b).setProtectedD ((p : Int) - (s.baseNs b : Int))
  (s1.bump 32 Obj.timeSelectChanges 1).raise Ev.timeSourceSwitch { unit := b }

/-- Base b has left Locked (R355, R356): the selection changes if b is selected and the other source is Locked. -/
def State.leftLocked (s : State) (b : Nat) : State :=
  let s1 := s.raise Ev.timeUnlocked { unit := b }
  if s.num Obj.protectedSelect = b ∧ s1.locked (3 - b) then s1.selectSource (3 - b) else s1

/-- Base b reaches Locked (R355, R356): while P is Unset it takes that source with d = 0. -/
def State.reachLocked (s : State) (b : Nat) : State :=
  let s1 := (s.setNum (Obj.tbState b) 3).raise Ev.timeLocked { unit := b }
  if s.num Obj.protectedSelect = 0 then (s1.setNum Obj.protectedSelect b).setProtectedD 0 else s1

/-- Base b goes to a state other than Locked, leaving Locked as R356 says. -/
def State.setTbState (s : State) (b st : Nat) : State :=
  let s1 := s.setNum (Obj.tbState b) st
  if s.locked b then s1.leftLocked b else s1

/-- Nominal increment, 2 ns (R351). -/
def nominalIncrement : Nat := 0x200000000

/-- An increment within nominal ± 500 ppm (R351). -/
def incrementOk (n : Nat) : Bool := decide (nominalIncrement * 1999 ≤ n * 2000 ∧ n * 2000 ≤ nominalIncrement * 2001)

/-- The firmware servo writes an increment: within the range of R351, the value is left open (log entry 16). -/
def State.servoIncrement (s : State) (b : Nat) : State :=
  let low := (nominalIncrement * 1999 + 1999) / 2000
  let width := 2 * (nominalIncrement / 2000) + 1
  (s.setNum (Obj.tbIncrement b) (low + s.freeNat 64 % width)).tookFree

/-- Firmware disciplines base b (TbServo, R353). -/
def State.firmwareServo (s : State) (b : Nat) : Bool := s.num (Obj.tbServo b) == 1

/-- A correction of base b by an offset: a step, or an increment; nothing while the servo is Host (R353). -/
def State.correct (s : State) (b : Nat) (offset : Int) (step : Bool) : State :=
  if !s.firmwareServo b then s
  else if step then s.stepBase b ((s.baseNs b : Int) + offset).toNat
  else s.servoIncrement b

/-! ### The tick (R351, R356, R360) -/

/-- TB0 counts once XTAL is ready (R353); every base holds its value while the time unit's domain is Failed (R373). -/
def State.ticking (s : State) (b : Nat) : Bool :=
  s.num (Obj.domainState 5) != 3 && (b != 0 || s.flag (Obj.sourceReady 1))

/-- d moves towards 0 by at most TimeSlewLimit ns per second of P (R356). -/
def State.slew (s : State) : State :=
  let b := s.num Obj.protectedSelect
  let d := s.protectedD
  if b = 0 ∨ d = 0 then { s with time := { s.time with slewRest := 0 } }
  else
    let rest := s.time.slewRest + s.num Obj.timeSlewLimit * s.num (Obj.tbIncrement b)
    let unit := 1000000000 * 2 ^ 32
    let moved := min (rest / unit) d.natAbs
    let s1 := s.setProtectedD (if 0 < d then d - moved else d + moved)
    { s1 with time := { s1.time with slewRest := rest % unit } }

/-- 1PPS_OUT falls after TimePpsOutWidth (R360). -/
def State.ppsFall (s : State) : State :=
  match s.time.ppsHigh, s.time.lastPps with
  | true, some t =>
    if t + 1000 * s.num Obj.timePpsOutWidth ≤ s.now then
      { s.emit (.pin .ppsOut false) with time := { s.time with ppsHigh := false } }
    else s
  | _, _ => s

/-- One tick of 500 MHz: every base that counts adds its increment (R351). -/
def State.timeTick (s : State) : State :=
  let acc := ((List.range 4).filter s.ticking).foldl
    (fun m b => Map.put 0 m b (Map.get 0 m b + s.num (Obj.tbIncrement b))) s.time.acc
  (State.slew { s with time := { s.time with acc := acc } }).ppsFall

/-! ### Commands on the bases (R351, R353) -/

/-- TB_SET_TIME (R353): refused on TB0. -/
def execTbSetTime (rq : Requester) (b : Base) (value : BitVec 80) (s : State) : Host.Outcome State Fault Refusal :=
  .next (s.request rq (Obj.tbSetTime b) (.num value.toNat) none fun t =>
    if (b : Nat) = 0 then (t, St.accessDenied) else (t.stepBase b (nsOfTime80 value.toNat), St.ok))

/-- TB_INCREMENT_WRITE (R351). -/
def execTbIncrementWrite (rq : Requester) (b : Base) (value : BitVec 64) (s : State) : Host.Outcome State Fault Refusal :=
  .next (s.request rq (Obj.tbIncrement b) (.num value.toNat) none fun t =>
    if incrementOk value.toNat then (t.setNum (Obj.tbIncrement b) value.toNat, St.ok) else (t, St.accessDenied))

/-! ### IEEE 1588 (R354, R355) -/

/-- The domains (0 A, 1 B) that take a message from a port with a domain number (R354). -/
def State.ptpDomains (s : State) (port domain : Nat) : List Nat :=
  (List.range 2).filter fun d => s.num (Obj.timeDomainNumber d) == domain && s.num (Obj.timeDomainPort d) == port

/-- PTP state of a domain. -/
def State.ptp (s : State) (d : Nat) : PtpState := Map.get {} s.time.ptp d

/-- The state with the PTP state of a domain set. -/
def State.setPtp (s : State) (d : Nat) (x : PtpState) : State :=
  { s with time := { s.time with ptp := Map.put {} s.time.ptp d x } }

/-- The best master: lowest dataset, then lowest clockIdentity (R354; the dataset comparison of the BMCA is the operand's,
log entry 17). -/
def bestMaster (l : List (Nat × Nat × Nat)) : Option (Nat × Nat × Nat) :=
  l.foldl (fun m x => match m with
    | some y => if x.2.1 < y.2.1 ∨ (x.2.1 = y.2.1 ∧ x.1 < y.1) then some x else some y
    | none => some x) none

/-- An Announce of a domain (R354, R355): master selection, the first step of the base, a change of grandmaster. -/
def State.announce (s : State) (d master grandmaster dataset masterTime : Nat) : State :=
  let x := s.ptp d
  let heard := (x.masters.filter fun m => m.1 != master) ++ [(master, dataset, grandmaster)]
  match bestMaster heard with
  | none => s
  | some best =>
    let b := d + 1
    let x' : PtpState := { x with masters := heard, master := some best.1, grandmaster := best.2.2 }
    let s1 := (s.setPtp d x').setBytes (Obj.timeMasterIdentity d) (beBytes 8 best.1)
    if s.num (Obj.tbState b) ≤ 1 then
      let s2 := (s1.setPtp d { x' with inThreshold := 0 }).setNum (Obj.tbState b) 2
      if s2.firmwareServo b then s2.stepBase b masterTime else s2
    else if x.grandmaster ≠ best.2.2 then (s1.setPtp d { x' with inThreshold := 0 }).setTbState b 2
    else s1

/-- PTP_ANNOUNCE_RECEIVED (R354). -/
def execPtpAnnounceReceived (port : Fin 2) (domain : BitVec 8) (master grandmaster : BitVec 64) (dataset : Nat)
    (masterTime : BitVec 80) (s : State) : Host.Outcome State Fault Refusal :=
  .next (s.each (s.ptpDomains port domain.toNat) fun t d =>
    t.announce d master.toNat grandmaster.toNat dataset (nsOfTime80 masterTime.toNat))

/-- 1 ms in nanoseconds, the bound of R355. -/
def oneMs : Nat := 1000000

/-- A completed Sync exchange of a domain (R355): t1 the master's sending, t2 the receipt. -/
def State.ptpSync (s : State) (d : Nat) (t1 t2 : Int) : State :=
  let x := s.ptp d
  let b := d + 1
  let offset := t2 - t1 - x.meanPathDelay
  let s0 := (s.setPtp d { x with syncPending := some (t1, t2) }).setInt (Obj.tbOffset b) offset
  let far := decide (oneMs ≤ offset.natAbs)
  let near := decide (offset.natAbs < s.num Obj.timeLockThreshold)
  let count := if near && !far then x.inThreshold + 1 else 0
  let s1 := s0.setPtp d { x with syncPending := some (t1, t2), inThreshold := count }
  match s.num (Obj.tbState b) with
  | 2 =>
    let s2 := s1.correct b (-offset) far
    if 16 ≤ count then s2.reachLocked b else s2
  | 3 => if far then (s1.setTbState b 2).correct b (-offset) true else s1.correct b (-offset) false
  | 4 => (s0.setPtp d { x with syncPending := some (t1, t2), inThreshold := 0 }).setNum (Obj.tbState b) 2
  | _ => s0

/-- PTP_SYNC_RECEIVED (R355): messages of another master than the selected one are not the servo's. -/
def execPtpSyncReceived (port : Fin 2) (domain : BitVec 8) (master : BitVec 64) (t1 t2 : Int) (s : State) :
    Host.Outcome State Fault Refusal :=
  .next (s.each ((s.ptpDomains port domain.toNat).filter fun d => (s.ptp d).master == some master.toNat) fun t d =>
    t.ptpSync d t1 t2)

/-- The end-to-end measurement of the default profile: half of both ways' sum (R354; log entry 18). -/
def meanDelay (t1 t2 t3 t4 : Int) : Int := ((t2 - t1) + (t4 - t3)).tdiv 2

/-- PTP_DELAY_RESPONSE_RECEIVED (R354): t3 the sending of Delay_Req, t4 its receipt at the master. -/
def execPtpDelayResponseReceived (port : Fin 2) (domain : BitVec 8) (master : BitVec 64) (t3 t4 : Int) (s : State) :
    Host.Outcome State Fault Refusal :=
  .next (s.each ((s.ptpDomains port domain.toNat).filter fun d => (s.ptp d).master == some master.toNat) fun t d =>
    let x := t.ptp d
    match x.syncPending with
    | none => t
    | some (t1, t2) =>
      let m := meanDelay t1 t2 t3 t4
      (t.setPtp d { x with meanPathDelay := m, syncPending := none }).setInt (Obj.timeMeanPathDelay d) m)

/-- TIME_SOURCE_TIMEOUT (R355): a Locked base goes to Holdover with its last increment. -/
def execTimeSourceTimeout (d : Fin 2) (s : State) : Host.Outcome State Fault Refusal :=
  if s.locked (d + 1) then .next (s.setTbState (d + 1) 4) else .next s

/-- TIME_REVERT_HOLD_EXPIRY (R356): TimePreferred was Locked for TimeRevertHold. -/
def execTimeRevertHoldExpiry (s : State) : Host.Outcome State Fault Refusal :=
  let p := s.num Obj.timePreferred
  let sel := s.num Obj.protectedSelect
  if s.flag Obj.timeRevertive ∧ sel ≠ 0 ∧ sel ≠ p ∧ s.locked p then .next (s.selectSource p) else .next s

/-! ### Line time (R357–R359) -/

/-- What this module or a neighbour offers as reference: priority, address. -/
def refBefore (a b : Nat × Nat) : Bool := decide (a.1 < b.1 ∨ (a.1 = b.1 ∧ a.2 < b.2))

/-- The neighbours' reports that can be used: session 0 Established, fewer than 15 hops (R357). -/
def State.lineReports (s : State) : List (Nat × LineTimePeer) :=
  s.time.linePeers.filter fun c => s.established c.1 && decide (c.2.hops < 15)

/-- The reference (priority, address) that this module sees (R357). -/
def State.lineReference (s : State) : Nat × Nat :=
  s.lineReports.foldl (fun m c => if refBefore (c.2.priority, c.2.reference) m then (c.2.priority, c.2.reference) else m)
    (s.num Obj.timeLinePriority, s.num Obj.fabricAddress)

/-- The parent: the neighbour with the fewest hops to the reference, ties to the lower neighbour address (R357). -/
def State.lineParent (s : State) : Option (Nat × LineTimePeer) :=
  let r := s.lineReference
  (s.lineReports.filter fun c => c.2.reference == r.2 && c.2.priority == r.1).foldl (fun m c => match m with
    | some y => if c.2.hops < y.2.hops ∨ (c.2.hops = y.2.hops ∧ c.2.address < y.2.address) then some c else some y
    | none => some c) none

/-- This module is the line-time reference (R357). -/
def State.isReference (s : State) : Bool :=
  s.num Obj.fabricAddress != 0 && s.lineReference == (s.num Obj.timeLinePriority, s.num Obj.fabricAddress)

/-- TimeLineReference, TimeLineParent and TimeLineHops follow the reports (R357). -/
def State.chooseParent (s : State) : State :=
  let r := s.lineReference
  let (parent, hops) := if s.isReference then (s.num Obj.fabricAddress, 0)
    else match s.lineParent with
      | some c => (c.2.address, c.2.hops + 1)
      | none => (0, 0xFF)
  ((s.setNum Obj.timeLineReference r.2).setNum Obj.timeLineParent parent).setNum Obj.timeLineHops hops

/-- The reference's TB3 follows a Locked source, as this module knows it (R358). -/
def State.followsLocked (s : State) : Bool :=
  if s.isReference then s.num Obj.protectedSelect != 0 && s.locked (s.num Obj.protectedSelect)
  else (s.lineParent.map fun c => c.2.locked).getD false

/-- Steer TB3 by an offset: beyond TimeLineStepThreshold a step, else by increment (R357). -/
def State.steerLine (s : State) (offset : Int) : State :=
  s.correct 3 offset (decide (s.num Obj.timeLineStepThreshold < offset.natAbs))

/-- The TimeSync payload of a wale (R358). -/
def State.timeSync (s : State) (w : Nat) : Bytes :=
  let v := s.wale w
  let tx := v.txStamps.headD (0, 0)
  let rx := v.rxStamps.headD (0, 0)
  beBytes 1 ((s.timingLane w).getD 0) ++ beBytes 1 (s.num Obj.timeLineHops) ++ beBytes 2 (s.num Obj.timeLineReference) ++
  beBytes 1 s.lineReference.1 ++ beBytes 1 (if s.followsLocked then 1 else 0) ++
  beBytes 2 tx.1 ++ beBytes 10 (time80 tx.2) ++ beBytes 2 rx.1 ++ beBytes 10 (time80 rx.2)

/-- TIME_SYNC_SEND (R357, R358): at the reference TB3 is steered towards P; then TimeSync goes out on every established
wale. -/
def execTimeSyncSend (s : State) : Host.Outcome State Fault Refusal :=
  let s1 := s.chooseParent
  let s2 := if s1.isReference ∧ s1.followsLocked then s1.steerLine ((s1.protectedNs : Int) - (s1.baseNs 3 : Int)) else s1
  .next (s2.each ((List.range 32).filter s2.established) fun t w => t.sendModule w 4 0x0501 [] (t.timeSync w))

/-- rtt and offset of R359. -/
def lineOffset (t1 t2 t3 t4 a : Int) : Int × Int :=
  let rtt := (t4 - t1) - (t3 - t2)
  (rtt, (t2 - t1) - (rtt + a).tdiv 2)

/-- A towards the peer (R359): WaleTimeAsymmetry is stated from the end with the lower NodeIdentity (log entry 19). -/
def State.asymmetry (s : State) (w : Nat) : Int :=
  if s.isLow w then s.int (Obj.waleTimeAsymmetry w) else -s.int (Obj.waleTimeAsymmetry w)

/-- TIME_SYNC_RECEIVED (R357, R359): the neighbour's report is kept; from the parent, matched stamps give the offset by which
TB3 steps or is steered. -/
def execTimeSyncReceived (w : Wale) (payload : Bytes) (s : State) : Host.Outcome State Fault Refusal :=
  if payload.length ≠ 30 ∨ !s.established w then .next s
  else
    let v := s.wale w
    let report : LineTimePeer := {
      hops := beNat (slice payload 1 1), reference := beNat (slice payload 2 2), priority := beNat (slice payload 4 1),
      locked := bitAt (beNat (slice payload 5 1)) 0, address := v.handshake.peerAddress }
    let s1 : State := { s with time := { s.time with linePeers := Map.put {} s.time.linePeers w report } }
    let s2 := s1.chooseParent
    let fromParent := !s2.isReference && (s2.lineParent.map fun c => c.1) == some (w : Nat)
    let sent := v.txStamps.find? fun c => c.1 == beNat (slice payload 18 2)
    let got := v.rxStamps.find? fun c => c.1 == beNat (slice payload 6 2)
    match fromParent, sent, got with
    | true, some f, some g =>
      let t2 : Int := nsOfTime80 (beNat (slice payload 20 10))
      let t3 : Int := nsOfTime80 (beNat (slice payload 8 10))
      let r := lineOffset f.2 t2 t3 g.2 (s2.asymmetry w)
      let s3 := (s2.setInt (Obj.waleTimeOffset w) r.2).setNum (Obj.waleTimeRtt w) (ofSigned 32 r.1)
      .next ((s3.setInt (Obj.tbOffset 3) r.2).steerLine r.2)
    | _, _, _ => .next s2

/-! ### Pulse per second (R360) -/

/-- TB0–TB3 and P as five TIME80 values. -/
def State.fiveTimes (s : State) : Bytes :=
  (List.range 4).flatMap (fun b => leBytes 10 (time80 (s.baseNs b))) ++ leBytes 10 (time80 s.protectedNs)

/-- PPS_IN_EDGE (R360). -/
def execPpsInEdge (s : State) : Host.Outcome State Fault Refusal :=
  .next ((s.setBytes Obj.timePpsInCapture s.fiveTimes).bump 32 Obj.timePpsInCount 1)

/-- PPS_OUT_EDGE (R360): the selected base reaches a whole second; no second edge within 100 ms of the previous one. -/
def execPpsOutEdge (s : State) : Host.Outcome State Fault Refusal :=
  let source := s.num Obj.timePpsOutSource
  let late := match s.time.lastPps with
    | some t => decide (t + 100000000 ≤ s.now)
    | none => true
  if source = 0 ∨ (source = 5 ∧ s.num Obj.protectedSelect = 0) ∨ !late then .next s
  else
    .next { s.emit (.pin .ppsOut true) with time := { s.time with lastPps := some s.now, ppsHigh := true } }

end Sys2Proof.Machine
end

