-- ==== Sys2Proof/Machine/SafeState.lean ====
section
/-! DEFINITION. What a failed domain leaves safe (R372, R373), the Limp state (R469), dies that are switched off, module shutdown
(R393). -/

namespace Sys2Proof.Machine

open Sys2Proof

/-! ### Module states (R464–R469) -/

/-- Set ModuleState; PGOOD is high only while it is Ready (R467). -/
def State.setModule (s : State) (st : Nat) : State :=
  let old := s.num Obj.moduleState
  let s1 := s.setNum Obj.moduleState st
  if (old == 2) != (st == 2) then s1.emit (.pin .pgood (st == 2)) else s1

/-- The stage word that goes to MB00 (R467): stage, regulator number (0xFF for none), status code. -/
def State.postStage (s : State) (stage regulator status : Nat) : State :=
  s.postMailbox 0 2 (stage % 256 + regulator % 256 * 2 ^ 8 + status % 2 ^ 16 * 2 ^ 16)

/-- The Limp state (R469): cause, the stage word with its failing regulator and a status that the spec leaves open, MB00's
SenderTimeout, every die but hub and E off, every laser dark. -/
def State.enterLimp (s : State) (cause regulator : Nat) : State :=
  let s1 := ((s.setModule 3).setNum Obj.limpCause cause).diesOff
  let s2 := (s1.postStage (s1.num Obj.startupStage) regulator (s1.freeNat 16)).tookFree
  let s3 := s2.setNum (Obj.mailboxState 0) (setBit (s2.num (Obj.mailboxState 0)) 1 true)
  { s3 with boot := { s3.boot with resetting := none } }

/-- Module shutdown (R393): lasers dark, every die but hub and E in S3 at once, memory lost, and the Limp state until a
reset. -/
def State.shutdown (s : State) (die : Nat) : State :=
  if s.limp then s
  else
    let s1 := s.each dieDomains fun t d => t.setSleep d 6
    let s2 := s1.enterLimp 6 0xFF
    (s2.setP Obj.thermalShutdowns (.num ((s2.num Obj.thermalShutdowns + 1) % 2 ^ 32))).raise Ev.thermalShutdown { die := die }

/-! ### Safe states (R373) -/

/-- A port goes down (R210). -/
def State.portDown (s : State) (p : Nat) : State :=
  if s.num (Obj.portState p) = 0 then s
  else
    let s1 := ((s.setNum (Obj.portState p) 1).setNum (Obj.portRate p) 0).setNum (Obj.portLanesActive p) 0
    s1.each (s1.activeLanes p) fun t l => (t.setNum (Obj.laneState l) 0).setNum (Obj.laneRate l) 0

/-- The lanes that M die m feeds with its share of the buffers, LN4m to LN4m + 3, send AIS while it is in reset or faulted (R243,
R265). -/
def State.memoryAis (s : State) (m : Nat) (b : Bool) : State := s.each (List.range 4) fun t i => t.setAis (4 * m + i) .memory b

/-- The contents of an M die are lost, and every hoop faults: cause 10 (R346, R373), or 11 at a reset of the die (R472); its lanes send AIS
(R243). -/
def State.memoryDieLost (s : State) (m cause : Nat) : State :=
  let s1 : State := { s with
    mem := s.mem.filter fun c => c.1 / 2 ^ 38 != m
    memory := { s.memory with bad := s.memory.bad.filter fun l => l * 64 / 2 ^ 38 != m } }
  (s1.memoryAis m true).each (List.range 16) fun t h => t.hoopFault h cause (9 + m)

/-- The link of MGTp is down: the PTP domains on it go to Holdover (R355, R454). -/
def State.managementLinkDown (s : State) (p : Nat) : State :=
  (s.setNum (Obj.mgtLinkState p) 0).each [0, 1] fun t d =>
    if t.num (Obj.timeDomainPort d) = p ∧ (t.num (Obj.tbState (d + 1)) = 2 ∨ t.num (Obj.tbState (d + 1)) = 3) then
      t.setTbState (d + 1) 4
    else t

/-- Management PHYs are reset: both links are down (R373). -/
def State.managementDown (s : State) : State := (s.managementLinkDown 0).managementLinkDown 1

/-- The framer of an L die sends AIS on its lanes (R243, R373): they leave their maps (R247). -/
def State.sendAis (s : State) (l : Nat) : State :=
  s.each (List.range 16) fun t i => t.setAis (16 * l + i) .framer true

/-- Safe state and consequence of a failed domain (R373). -/
def State.domainSafe (s : State) (d : Nat) : State :=
  if d < 2 then (s.each (List.range 16) State.portDown).settleOptics
  else if d = 2 then
    s.each ((List.range 4096).filter fun g => s.num (Obj.groupState g) != 0 && s.isSmall g) State.breakGroup
  else if d = 3 then { s with control := { s.control with pcieLinkUp := false } }
  else if d = 4 then s.managementDown
  else if d = 5 then
    { s.emit (.pin .ppsOut false) with time := { s.time with ppsHigh := false } }
  else if d < 8 then s
  else
    match domainTile d with
    | some t => s.tileFaults t 6 false
    | none =>
      match domainNetwork d with
      | some g => s.each (List.range 6) fun u k => u.tileFaults (6 * g + k) 6 false
      | none =>
        if d < 80 then s.memoryDieLost ((d - 64) / 2) 10
        else if d < 84 then s.each (List.range 8) fun u p => u.portDown (8 * ((d - 80) / 2) + p)
        else if d < 94 then
          if (d - 84) % 5 = 4 then s.sendAis ((d - 84) / 5) else s.settleOptics
        else if d < 98 then s.settleOptics
        else s.setNum Obj.meterState 0

/-- A domain becomes Failed and its safe state is applied (R373). -/
def State.enterSafe (s : State) (d : Nat) : State :=
  if s.domainFailed d then s else (s.setNum (Obj.domainState d) 3).domainSafe d

/-- A monitor declares a domain failed (R372). -/
def State.failDomain (s : State) (d : Nat) : State :=
  if s.num (Obj.domainState d) = 1 ∨ s.num (Obj.domainState d) = 2 then
    let s1 := (s.bump 32 (Obj.domainFailures d) 1).raise Ev.clockFail { die := dieOfDomain d, unit := d }
    s1.enterSafe d
  else s

/-- The source whose clock domain d takes: the target while it switches, so that the loss of the old source does not fail it
(R372, R380). -/
def State.sourceOf (s : State) (d : Nat) : Nat :=
  if s.num (Obj.domainState d) = 2 then s.num (Obj.domainSource d) else Map.get 0 s.power.source d

end Sys2Proof.Machine
end

