-- ==== Sys2Proof/Machine/Clocks.lean ====
section
/-! DEFINITION. The commands of the clock sources and domains (chapter 19). -/

namespace Sys2Proof.Machine

open Sys2Proof

/-! ### Sources (R366–R368, R371) -/

/-- Source s is allowed for domain d (R368). -/
def sourceAllowed (d src : Nat) : Bool :=
  if d = 80 ∨ d = 82 then src == 4 else if d = 3 then src == 3 else decide (src ≤ 2)

/-- The lanes that lose lock when a domain's clocks stop (R371): of a DSP group, or of all 16 of the die. -/
def lanesOfDomain (d : Nat) : List Nat :=
  if 84 ≤ d ∧ d < 94 then
    (List.range 16).filterMap fun i =>
      let half := (d - 84) % 5
      if (half = 0 → i < 8) ∧ (half = 1 → 8 ≤ i) then some (16 * ((d - 84) / 5) + i) else none
  else []

/-- A running domain starts to switch to its DomainSource (R371). -/
def State.beginSwitch (s : State) (d : Nat) : State :=
  (s.setNum (Obj.domainState d) 2).each (lanesOfDomain d) State.loseFec

/-- XTAL_READY (R351, R367): XTAL is ready, TB0 counts from here, and every powered domain moves to its DomainSource where that
is ready. -/
def execXtalReady (s : State) : Host.Outcome State Fault Refusal :=
  let s1 := s.setFlag (Obj.sourceReady 1) true
  .next (s1.each (List.range 100) fun t d =>
    let target := t.num (Obj.domainSource d)
    if Map.get 0 t.power.source d = target ∨ !t.flag (Obj.sourceReady target) then t
    else if t.num (Obj.domainState d) = 1 then t.beginSwitch d
    else if t.num (Obj.domainState d) = 4 then
      { t with power := { t.power with source := Map.put 0 t.power.source d target } }
    else t)

/-- SOURCE_READY (R366): a source has held its condition for its qualifying time. None but INTOSC and XTAL can be ready before XTAL. -/
def execSourceReady (c : Source) (frequency : BitVec 32) (s : State) : Host.Outcome State Fault Refusal :=
  if 2 ≤ c.val ∧ !s.flag (Obj.sourceReady 1) then .next s
  else .next ((s.setFlag (Obj.sourceReady c) true).setNum (Obj.sourceFrequency c) frequency.toNat)

/-- SOURCE_NOT_READY (R366): the ready condition is lost, at once. -/
def execSourceNotReady (c : Source) (s : State) : Host.Outcome State Fault Refusal :=
  .next (s.setFlag (Obj.sourceReady c) false)

/-- CLOCK_FAIL (R372, R373, R380): a monitor declares a source or a domain failed. A failed source takes with it every domain
that uses it. -/
def execClockFail (x : ClockUnit) (s : State) : Host.Outcome State Fault Refusal :=
  match x with
  | .domain d => .next (s.failDomain d)
  | .source c =>
    let s1 := (s.setFlag (Obj.sourceReady c) false).bump 32 (Obj.sourceFailures c) 1
    .next (s1.each ((List.range 100).filter fun d => s1.sourceOf d == c.val) State.failDomain)

/-! ### Domains (R371, R375) -/

/-- The checks of R371 on a DomainSource write, in order; a Failed domain may record another ready source (R375). -/
def State.sourceStatus (s : State) (d src : Nat) : Nat :=
  let st := s.num (Obj.domainState d)
  if !sourceAllowed d src then St.accessDenied
  else if st ≠ 1 ∧ st ≠ 4 ∧ st ≠ 3 then St.busy
  else if !s.flag (Obj.sourceReady src) then St.refusedNotReady
  else St.ok

/-- The effect of a DomainSource write (R371): a Running domain switches, a Gated or Failed one records the source. -/
def domainSourceEffect (d value : Nat) : Effect := fun s =>
  let st := s.sourceStatus d value
  let s1 := s.setNum (Obj.domainCommandStatus d) st
  if st ≠ St.ok then (s1, st)
  else
    let s2 := s1.setP (Obj.domainSource d) (.num value)
    if s2.num (Obj.domainState d) = 1 then (s2.beginSwitch d, St.ok)
    else ({ s2 with power := { s2.power with source := Map.put 0 s2.power.source d value } }, St.ok)

/-- DOMAIN_SOURCE_WRITE (R371). -/
def execDomainSourceWrite (rq : Requester) (d : Domain) (value : BitVec 8) (s : State) : Host.Outcome State Fault Refusal :=
  .next (s.request rq (Obj.domainSource d) (.num value.toNat) none (domainSourceEffect d value.toNat))

/-- A domain's root runs: its source and its frequency in force (R371, R381). -/
def State.rootLocked (s : State) (d : Nat) : State :=
  let s1 : State := { s with power := { s.power with source := Map.put 0 s.power.source d (s.num (Obj.domainSource d)) } }
  s1.setNum (Obj.domainFrequency d) (levelClock d (s1.num (Obj.domainLevel d))).1

/-- DOMAIN_SWITCH_COMPLETE (R371): the root has locked on the new source and the clocks restart. -/
def execDomainSwitchComplete (d : Domain) (s : State) : Host.Outcome State Fault Refusal :=
  if s.num (Obj.domainState d) = 2 then .next ((s.setNum (Obj.domainState d) 1).rootLocked d) else .next s

/-- The blocks of an L die's framer are reset and work again: its lanes stop sending AIS for them and for their transmit path (R243). -/
def State.endAis (s : State) (l : Nat) : State :=
  s.each (List.range 16) fun t i => (t.setAis (16 * l + i) .framer false).setAis (16 * l + i) .path false

/-- M die m works again when neither of its domains has failed: its lanes stop sending AIS for it (R243). -/
def State.memoryWorks (s : State) (m : Nat) : State :=
  if s.domainFailed (64 + 2 * m) ∨ s.domainFailed (65 + 2 * m) ∨ s.dieResetting (9 + m) then s else s.memoryAis m false

/-- Restart of a Failed domain (R375): it locks, its blocks are reset, and it runs; a tile that no hoop owns stays gated. -/
def State.restartDomain (s : State) (d : Nat) : State :=
  let gated := (domainTile d).any fun t => s.num (Obj.tileOwner t) == 0xFF
  let s1 := (s.setNum (Obj.domainState d) (if gated then 4 else 1)).rootLocked d
  let s2 := if 84 ≤ d ∧ d < 94 ∧ (d - 84) % 5 = 4 then s1.endAis ((d - 84) / 5) else s1
  let s2 := if 64 ≤ d ∧ d < 80 then s2.memoryWorks ((d - 64) / 2) else s2
  let s3 := if d = 3 then { s2 with control := { s2.control with pcieLinkUp := true } } else s2
  let s4 := if 98 ≤ d ∧ !s3.domainFailed 98 ∧ !s3.domainFailed 99 then s3.setNum Obj.meterState 1 else s3
  (s4.setSleep d 0).settleOptics

/-- DOMAIN_RESTART (R375). -/
def execDomainRestart (rq : Requester) (d : Domain) (s : State) : Host.Outcome State Fault Refusal :=
  .next (s.request rq (Obj.domainCommand d) (.num 1) none (reported (Obj.domainCommandStatus d) fun t =>
    if !t.domainFailed d then refuse St.notPermittedInState t
    else if !t.flag (Obj.sourceReady (t.num (Obj.domainSource d))) then refuse St.refusedNotReady t
    else (t.restartDomain d, St.ok)))

/-! ### Trimming INTOSC (R369) -/

/-- INTOSC cycles at exactly 100 MHz over the measurement of R369, as numerator and denominator: 2^20 or 2^24 cycles of REFIN, or
1,024 multiframes of a lane, whose rate is 400, 300 or 200 Gbit/s (R227). -/
def State.trimCycles (s : State) : Nat × Nat :=
  if s.num Obj.intoscTrimSource = 1 then
    if s.num (Obj.sourceFrequency 2) < 80000000 then (2 ^ 20 * 10, 1) else (2 ^ 24 * 64, 100)
  else (2 ^ 35, 10 * (400 - 100 * min 2 (s.num (Obj.lineLaneMode (s.num Obj.intoscTrimLane)))))

/-- a ÷ b to the nearest integer, b > 0. -/
def nearest (a b : Int) : Int := (2 * a + b) / (2 * b)

/-- The code nearest to 100 MHz and the error in ppm that it leaves, for a count of cycles under code k (R369). -/
def trimCode (num den cycles : Nat) (k : Int) : Int × Int :=
  let a : Int := (num : Int) * (80000 + k)
  let b : Int := (cycles : Int) * den
  let k' := max (-2048) (min 2047 (nearest (a - 80000 * b) b))
  (k', nearest (1000000 * (b * (80000 + k') - a)) a)

/-- INTOSC_TRIM_MEASURE (R369): a measurement that was interrupted, or whose reference is not ready, is discarded. -/
def execIntoscTrimMeasure (cycles : Nat) (interrupted : Bool) (s : State) : Host.Outcome State Fault Refusal :=
  let src := s.num Obj.intoscTrimSource
  if src = 0 then .next s
  else
    let lane := s.num Obj.intoscTrimLane
    let bad := interrupted || (src == 1 && !s.flag (Obj.sourceReady 2)) || (src == 2 && s.absentRx lane) || cycles == 0
    if bad then .next (s.setNum Obj.intoscTrimState 3)
    else
      let c := s.trimCycles
      let r := trimCode c.1 c.2 cycles (toSigned 12 (s.num Obj.intoscTrimCode % 4096))
      .next (((s.setNum Obj.intoscTrimCode (ofSigned 12 r.1)).setNum Obj.intoscTrimState 2).setInt Obj.intoscError r.2)

/-! ### CLKOUT (R378) -/

/-- A value that ClkoutSelect may hold: a domain, a source, or 0xFF. -/
def clkoutNames (v : Nat) : Bool := decide (v < 100) || (decide (0x80 ≤ v) && decide (v < 0x85)) || v == 0xFF

/-- The output of a setting would exceed 200 MHz: only a domain's root can (no source of R366 runs faster). -/
def State.clkoutTooFast (s : State) (select divisor : Nat) : Bool :=
  decide (select < 100) && decide (200000 * divisor < (levelClock select (s.num (Obj.domainLevel select))).1)

/-- The effect of a ClkoutSelect (sub 03) or ClkoutDivisor (sub 04) write (R378). -/
def clkoutEffect (sub value : Nat) : Effect := fun s =>
  let select := if sub = 3 then value else s.num Obj.clkoutSelect
  let divisor := if sub = 3 then s.num Obj.clkoutDivisor else value
  if !clkoutNames select || s.clkoutTooFast select divisor then refuse St.accessDenied s
  else
    let s1 := s.setP (keyOf 0xC000 sub) (.num value)
    (if select = 0xFF then s1.emit (.pin .clkout false) else s1, St.ok)

/-- CLKOUT_WRITE (R378): object 3 ClkoutSelect, 4 ClkoutDivisor. -/
def execClkoutWrite (rq : Requester) (object : BitVec 8) (value : BitVec 32) (s : State) : Host.Outcome State Fault Refusal :=
  let sub := if object = 3 then 3 else 4
  .next (s.request rq (keyOf 0xC000 sub) (.num value.toNat) none (clkoutEffect sub value.toNat))

/-! ### Gating (R376, R377) -/

/-- AUTO_GATE_IDLE (R376): a small block has been idle for 64 cycles and its clock stops, until the next access or wake event. -/
def execAutoGateIdle (d : Domain) (block : BitVec 16) (s : State) : Host.Outcome State Fault Refusal :=
  if s.power.stopped.contains (d.val, block.toNat) then .next s
  else .next { s with power := { s.power with stopped := (d.val, block.toNat) :: s.power.stopped } }

/-- BLOCK_ENABLE_COMPLETE (R377): the clock of an enabled large block has run for 20 µs. -/
def execBlockEnableComplete (b : LargeBlock) (s : State) : Host.Outcome State Fault Refusal :=
  if s.blockEnabled b ∧ !s.power.running.contains b then
    .next { s with power := { s.power with running := b :: s.power.running } }
  else .next s

end Sys2Proof.Machine
end

