-- ==== Sys2Proof/Machine/ReadOps.lean ====
section
/-! DEFINITION. Reads of the dictionary (R403): the checks of R404 that a read passes, and the latched copy of each requester. -/

namespace Sys2Proof.Machine

open Sys2Proof

/-- The bytes that carry an object's value (R399). -/
def encodeVal (k : Nat) (v : Val) : Bytes :=
  match findRow k with
  | some (r, _) => r.encode v
  | none => []

/-- Checks 1–3 of R404 on a read, and on the Offset: only a STR or BLOB is read from another offset than 0. -/
def State.readStatus (s : State) (rq : Requester) (k offset : Nat) : Nat :=
  match findRow k with
  | none => St.accessDenied
  | some (r, _) =>
    if !s.authorised rq k false then St.accessDenied
    else if s.accessStatus r k false ≠ St.ok then s.accessStatus r k false
    else if offset ≠ 0 ∧ ((r.ty != .blob && r.ty != .str) ∨ r.size < offset) then St.lenExceeded
    else St.ok

/-- Answer a read that passed its checks with a value of so many bytes from an offset (R403): a read at offset 0 latches the value,
a later one is served from the latched copy. A read returns at most 4,096 bytes. -/
def State.answerRead (s : State) (rq : Requester) (k offset length flags : Nat) (value : Bytes) : State :=
  let n := requesterNumber rq
  let held := Map.get (0, []) s.control.latch n
  let most := min length 4096
  if offset = 0 then
    let s1 : State := { s with control := { s.control with latch := Map.put (0, []) s.control.latch n (k, value.take 65536) } }
    s1.answer rq St.ok flags value.length (value.take most)
  else if held.1 = k then s.answer rq St.ok (flags ||| 2) held.2.length (slice held.2 offset most)
  else s.answer rq St.ok flags value.length (slice value offset most)

/-- A read request (R403, R404): its checks, then `f`, which gives the state after any side effect and the value's bytes. -/
def State.serveRead (s : State) (rq : Requester) (k offset length : Nat) (f : State → State × Bytes) : State :=
  if !s.serves rq then s
  else
    let s1 := (s.dropLatch rq k).touch k
    let st := s1.readStatus rq k offset
    if st ≠ St.ok then (s1.countRefusal rq k false).answer rq st 0 0 []
    else
      let r := f s1
      r.1.answerRead rq k offset length 0 r.2

end Sys2Proof.Machine
end

