-- ==== Sys2Proof/Machine/NetOps.lean ====
section
/-! DEFINITION. What the module knows of the fabric (chapter 17): announcements and address conflicts (R325), usable wales and
routes (R327, R328), suspicion (R330), fence records (R332), health (R335). -/

namespace Sys2Proof.Machine

open Sys2Proof

/-! ### Usable wales and routes (R327, R328) -/

/-- A wale is usable (R327): its transmit map is not empty and its repeat direction is Open. -/
def State.usableWale (s : State) (w : Nat) : Bool := s.num (Obj.waleTxMap w) != 0 && s.num (Obj.repeatState w) == 1

/-- The usable wales whose session 0 is Established. -/
def State.usableWales (s : State) : List Nat := (List.range 32).filter fun w => s.usableWale w && s.established w

/-- One-way delay of a wale in µs: half its round-trip time (R358; DEDUCED). -/
def State.waleDelay (s : State) (w : Nat) : Nat := s.num (Obj.waleTimeRtt w) / 2000

/-- Capacity of a wale in units of 100 Gbit/s: 4, 3 or 2 for each member of its map by lane mode (R232, R327). -/
def State.waleCapacity (s : State) (w : Nat) : Nat :=
  popCount 32 (s.num (Obj.waleTxMap w)) * (4 - min 2 (s.num (Obj.lineLaneMode ((s.waleLanes w).headD 0))))

/-- Fabric address of the neighbour on a wale. -/
def State.neighbour (s : State) (w : Nat) : Nat := (s.wale w).handshake.peerAddress

/-- A path under construction: its end, first wale and the neighbour there, hops, cost in µs. -/
structure Path where
  address : Nat
  wale : Nat
  first : Nat
  hops : Nat
  cost : Nat
deriving DecidableEq, Repr

/-- Path a goes before path b (R328): lower cost, then lower neighbour address, then lower wale number. -/
def pathBefore (a b : Path) : Bool :=
  decide (a.cost < b.cost) || (decide (a.cost = b.cost) && (decide (a.first < b.first) ||
    (decide (a.first = b.first) && decide (a.wale < b.wale))))

/-- Keep the better of a path and the one held to its end. -/
def keepPath (l : List Path) (p : Path) : List Path :=
  match l.find? fun q => q.address == p.address with
  | none => l ++ [p]
  | some q => if pathBefore p q then l.map fun x => if x.address = p.address then p else x else l

/-- The links of the newest LinkState of an address. -/
def State.linksOf (s : State) (address : Nat) : List (Nat × Nat × Nat) :=
  ((s.net.linkStates.find? fun l => l.address == address).map LinkStateEntry.links).getD []

/-- Paths of one hop more than those held. -/
def State.extendPaths (s : State) (l : List Path) : List Path :=
  l.foldl (fun acc p => (s.linksOf p.address).foldl (fun acc k =>
    keepPath acc ⟨k.1, p.wale, p.first, p.hops + 1, p.cost + k.2.2 + 10⟩) acc) l

/-- Paths of at most n + 1 hops (R328). -/
def State.pathsWithin (s : State) : Nat → List Path
  | 0 => s.usableWales.foldl (fun acc w => keepPath acc ⟨s.neighbour w, w, s.neighbour w, 1, s.waleDelay w + 10⟩) []
  | n + 1 => s.extendPaths (s.pathsWithin n)

/-- Paths of at most 15 hops, to every address but this module's own and those in conflict (R325, R328). -/
def State.bestPaths (s : State) : List Path :=
  (s.pathsWithin 14).filter fun p =>
    p.address != 0 && p.address != s.num Obj.fabricAddress && !s.net.conflicts.contains p.address

/-! ### Suspicion (R330) -/

/-- Members of open groups of hoops that do not fence them. -/
def State.watched (s : State) (address : Nat) : Bool :=
  s.work.groups.any fun c => s.num (Obj.groupState c.1) == 1 && c.2.members.contains address &&
    !s.fencedIn (s.hoopOfGroup c.1) address

/-- EV_PEER_SUSPECT for a suspected member of an open group that is not fenced (R330). -/
def State.reportSuspect (s : State) (address : Nat) : State :=
  if s.watched address then s.raise Ev.peerSuspect { unit := address } else s

/-- A peer becomes suspected (R330). -/
def State.suspect (s : State) (address : Nat) : State :=
  if (Map.get none s.net.suspected address).isSome then s
  else
    let s1 : State := { s with net := { s.net with suspected := Map.put none s.net.suspected address (some s.now) } }
    s1.reportSuspect address

/-- A peer's suspicion ends: EV_PEER_RECOVERED once (R330). -/
def State.unsuspect (s : State) (address : Nat) : State :=
  if (Map.get none s.net.suspected address).isNone then s
  else
    let s1 : State := { s with net := { s.net with suspected := Map.put none s.net.suspected address none } }
    if s.watched address then s1.raise Ev.peerRecovered { unit := address } else s1

/-- A neighbour: reached over at least one wale (R330). -/
def State.isNeighbour (s : State) (address : Nat) : Bool := (List.range 32).any fun w => s.neighbour w == address

/-- Modules that are no neighbours are suspected while no route leads to them (R330). -/
def State.settleSuspicion (s : State) : State :=
  let members := (s.work.groups.flatMap fun c => c.2.members).eraseDups
  let known := (members ++ s.net.announcements.map Announcement.address ++ s.net.suspected.map Prod.fst).eraseDups
  s.each (known.filter fun a => a != s.num Obj.fabricAddress && a != 0 && !s.isNeighbour a) fun t a =>
    if t.net.routes.any fun r => r.address == a then t.unsuspect a else t.suspect a

/-- The route table follows the database (R328): suspicion of distant modules, and FenceNotices that waited for a route (R327). -/
def State.computeRoutes (s : State) : State :=
  let routes := s.bestPaths.map fun p => (⟨p.address, p.wale, p.hops, p.cost⟩ : Route)
  (({ s with net := { s.net with routes := routes } }).settleSuspicion).flushNotices

/-! ### Announcements and conflicts (R325) -/

/-- Two different nodes announce an address, this module among them (R325). -/
def State.conflicted (s : State) (address : Nat) : Bool :=
  let nodes := (s.net.announcements.filter fun a => a.address == address).map Announcement.node
  let all := if s.num Obj.fabricAddress = address then nodeIdentity :: nodes else nodes
  all.any fun n => all.any fun m => n != m

/-- The list of conflicts follows the announcements: a new conflict is reported (R325). -/
def State.settleConflict (s : State) (address : Nat) : State :=
  let known := s.net.conflicts.contains address
  if address = 0 then s
  else if s.conflicted address then
    if known then s
    else
      (({ s with net := { s.net with conflicts := s.net.conflicts ++ [address] } }).raise Ev.addressConflict
        { unit := address }).computeRoutes
  else if known then ({ s with net := { s.net with conflicts := s.net.conflicts.filter (· != address) } }).computeRoutes
  else s

/-- An announcement is heard (R325, R327): the entry of its node and address is refreshed. -/
def State.announced (s : State) (a : Announcement) : State :=
  let rest := s.net.announcements.filter fun x => !(x.node == a.node && x.address == a.address)
  ({ s with net := { s.net with announcements := rest ++ [a] } }).settleConflict a.address

/-- An announcement as held, or a new one. -/
def State.announcementOf (s : State) (node address : Nat) : Announcement :=
  (s.net.announcements.find? fun x => x.node == node && x.address == address).getD
    { node := node, address := address, health := 0, heard := 0 }

/-! ### LinkState (R327) -/

/-- The LinkState payload of this module. -/
def State.linkStatePayload (s : State) (seq : Nat) : Bytes :=
  let l := s.usableWales
  beBytes 8 nodeIdentity ++ beBytes 2 (s.num Obj.fabricAddress) ++ beBytes 4 seq ++ beBytes 2 l.length ++ beBytes 2 0 ++
    l.flatMap fun w => beBytes 2 (s.neighbour w) ++ beBytes 2 (s.waleCapacity w) ++ beBytes 4 (s.waleDelay w)

/-- Send a fabric message on usable wales beside one (R327). -/
def State.flood (s : State) (but : Option Nat) (kind : Nat) (payload : Bytes) : State :=
  s.each (s.usableWales.filter fun w => some w != but) fun t w => t.sendModule w 4 kind [] payload

/-- A LinkState read from its payload (R327). -/
def readLinkState (b : Bytes) (now : Nat) : Option LinkStateEntry :=
  let n := beNat (slice b 14 2)
  if b.length = 18 + 8 * n then
    some { node := beNat (b.take 8), address := beNat (slice b 8 2), seq := beNat (slice b 10 4), heard := now
           links := (entriesOf 8 n (b.drop 18)).map fun e => (beNat (e.take 2), beNat (slice e 2 2), beNat (slice e 4 4)) }
  else none

/-! ### Health (R335) -/

/-- The penalties of R335. -/
def State.healthPenalty (s : State) : Nat :=
  let tiles := ((List.range 48).filter fun t => s.num (Obj.tileState t) == 5).length
  let channels := ((List.range 640).filter fun c => decide (2 ≤ s.num (Obj.channelState c))).length
  let lanes (p : Nat → Bool) := ((List.range 32).filter p).length
  let evicted := lanes fun k => s.opticalState k == 5
  let tripped := lanes fun k => s.opticalState k == 4
  let degraded := lanes fun k => (s.lane k).degraded
  let mismatch := s.work.groups.any fun c => s.num (Obj.groupState c.1) == 1 && c.2.stands
  let since (l : List Nat) (sec : Nat) := (l.filter fun t => decide (s.now < t + sec * 1000000000)).length
  20 * tiles + 5 * channels + 40 * evicted + 25 * degraded + (if s.num Obj.sparesFree = 0 then 100 else 0) + 100 * tripped +
    (if mismatch then 600 else 0) + min 200 (5 * since s.net.trips 3600) + min 200 (2 * since s.net.uncorrectable 86400)

end Sys2Proof.Machine
end

