-- ==== Sys2Proof/Machine/Meter.lean ====
section
/-! DEFINITION. The sealed meter of the E die (R438–R443): link frames, energy, records, its firmware. -/

namespace Sys2Proof.Machine

open Sys2Proof

/-- The meter counts: its domains run (R373, R443). -/
def State.metering (s : State) : Bool := s.num Obj.meterState != 0

/-- Counter c of hoop h (R439): 0–4 VcBytes, 5 and 6 fabric bytes, 7 tile microseconds, 8 energy in units of 10 nJ. -/
def MeterState.counter (m : MeterState) (h c : Nat) : Nat := Map.get 0 m.counters (16 * h + c)

/-- Count on. -/
def MeterState.count (m : MeterState) (h c n : Nat) : MeterState :=
  { m with counters := Map.put 0 m.counters (16 * h + c) (m.counter h c + n) }

/-- The mesh-busy cycles that a G die has reported for a hoop since the last split (R440). -/
def MeterState.busyOf (m : MeterState) (g h : Nat) : Nat := Map.get 0 m.busy (h + 16 * g)

/-- One increment of a link frame (R438–R440): links 1–8 come from G0–G7. -/
def MeterState.increment (m : MeterState) (link : Nat) : MeterIncrement → MeterState
  | .counter h c n => m.count h c n
  | .meshBusy h n =>
    if 1 ≤ link ∧ link ≤ 8 then { m with busy := Map.put 0 m.busy (h.val + 16 * (link - 1)) (m.busyOf (link - 1) h + n) } else m

/-- METER_LINK_FRAME (R438): the increments of a frame that fails its CRC are lost; a gap sets LinkFault as well. -/
def execMeterLinkFrame (link : Fin 13) (crcOk : Bool) (count : Nat) (increments : List MeterIncrement) (s : State) :
    Host.Outcome State Fault Refusal :=
  .next (
    if !s.metering then s
    else if !crcOk then { s with meter := { s.meter with linkFault := true } }
    else
      let m := increments.foldl (fun m i => m.increment link i) s.meter
      { s with meter := { m with
          expected := Map.put 0 m.expected link (count + 1)
          linkFault := m.linkFault || count != Map.get 0 m.expected link } })

/-- METER_ADC_SAMPLE (R438): powers in mW over 10 µs give energy in units of 10 nJ (log entry 30). -/
def execMeterAdcSample (mainInput standbyInput : Nat) (rails : List Nat) (s : State) : Host.Outcome State Fault Refusal :=
  .next (
    if !s.metering then s
    else
      let m := s.meter
      let rail := (List.range 8).foldl (fun r g => Map.put 0 r g (Map.get 0 r g + rails[g]?.getD 0)) m.railEnergy
      { s with meter := { m with railEnergy := rail, inputEnergy := m.inputEnergy + mainInput + standbyInput } })

/-- share(h, g) of R440. -/
def MeterState.share (m : MeterState) (h g : Nat) : Nat :=
  let all := ((List.range 16).map (m.busyOf g)).sum
  if all = 0 then 0 else Map.get 0 m.railEnergy g * m.busyOf g h / all

/-- The shares of hoop h summed over the rails (R440). -/
def MeterState.shares (m : MeterState) (h : Nat) : Nat := ((List.range 8).map (m.share h)).sum

/-- METER_ENERGY_SPLIT (R440): each millisecond, which MeterTicks counts too (R441). -/
def execMeterEnergySplit (s : State) : Host.Outcome State Fault Refusal :=
  .next (
    if !s.metering then s
    else
      let m := s.meter
      let given := ((List.range 16).map m.shares).sum
      let m1 := (List.range 16).foldl (fun (a : MeterState) h => a.count h 8 (m.shares h)) m
      { s with meter := { m1 with
          ticks := m.ticks + 1, moduleEnergy := m.moduleEnergy + m.inputEnergy
          unattributed := m.unattributed + (m.inputEnergy - given), busy := [], railEnergy := [], inputEnergy := 0 } })

/-! ### Records (R441, R442) -/

/-- Millijoules of an energy kept in units of 10 nJ. -/
def millijoules (n : Nat) : Nat := n / 100000

/-- The 96-byte entry of a hoop (R441). -/
def State.meterEntry (s : State) (h : Nat) : Bytes :=
  ((List.range 8).flatMap fun c => leBytes 8 (s.meter.counter h c)) ++ leBytes 8 (millijoules (s.meter.counter h 8)) ++
  leBytes 4 (s.num (Obj.hoopEpoch h)) ++ leBytes 4 (Map.get 0 s.meter.generation h) ++ List.replicate 16 0

/-- The time unit is available to the meter (R373, R445). -/
def State.timeAvailable (s : State) : Bool := s.num (Obj.domainState 5) != 3

/-- Flags of a record (R441). -/
def State.meterFlags (s : State) (powerFail : Bool) : Nat :=
  let m := s.meter
  setBit (setBit (setBit (setBit (setBit 0 0 powerFail) 1 m.gap) 2 m.firmwareChanged) 3 m.linkFault) 4 (!s.timeAvailable)

/-- Bytes 0–1,695 of the next record (R441). -/
def State.meterBody (s : State) (powerFail : Bool) : Bytes :=
  let m := s.meter
  let previous := Map.get [] m.records m.newest
  leBytes 4 0x52544D4B ++ leBytes 2 1 ++ leBytes 2 (s.meterFlags powerFail) ++ leBytes 8 (m.newest + 1) ++
  leBytes 4 m.sealCounter ++ leBytes 4 0 ++ leBytes 8 m.ticks ++
  (if s.timeAvailable then leBytes 10 (time80 (s.baseNs 0)) ++ leBytes 10 (time80 s.protectedNs) else List.replicate 20 0) ++
  List.replicate 12 0 ++
  (if previous = [] then List.replicate 64 0 else sha3Bytes (previous.take 1696)) ++
  leBytes 8 (millijoules m.moduleEnergy) ++ leBytes 8 (millijoules m.unattributed) ++ List.replicate 16 0 ++
  ((List.range 16).flatMap s.meterEntry)

/-- Slots of the record ring (R441). -/
def meterSlots : Nat := 32768

/-- The E die signs and writes a record (R441): the newest overwrites the oldest. -/
def State.writeMeterRecord (s : State) (powerFail : Bool) : State :=
  let body := s.meterBody powerFail
  let sig := leBytes 4627 (Config.mlDsaSign (leBytes 32 Config.meterSeed.toNat) (sha3Bytes body) (asciiBytes "kc4810-meter")
    s.freeCtr).toNat
  let m := s.meter
  let n := m.newest + 1
  let kept := Map.clear (fun i => decide (i + meterSlots ≤ n)) (Map.put [] m.records n (body ++ sig))
  let s1 : State := { s.tookFree with meter := { m with
      records := kept, newest := n, gap := false, firmwareChanged := false, linkFault := false, recordDue := false } }
  (s1.setNum Obj.meterLastSequence n).setNum Obj.meterOldestSequence ((kept.head?.map Prod.fst).getD 0)

/-- METER_RECORD (R441): during an install it waits for the restart (R445). -/
def execMeterRecord (s : State) : Host.Outcome State Fault Refusal :=
  .next (match s.num Obj.meterState with
    | 0 => s
    | 2 => { s with meter := { s.meter with recordDue := true } }
    | _ => s.writeMeterRecord false)

/-- METER_POWER_FAIL_RECORD (R442). -/
def execMeterPowerFailRecord (s : State) : Host.Outcome State Fault Refusal :=
  .next (if s.metering then s.writeMeterRecord true else s)

/-! ### Meter firmware (R443) -/

/-- MeterFirmwareHash as the E die last reported it (R445). -/
def State.meterHash (s : State) : Bytes :=
  let b := s.bytes Obj.meterFirmwareHash
  if b = [] then leBytes 64 Config.shippedMeterHash.toNat else b

/-- METER_STAGE_WRITE (R443, R448): Offset (4) and 1–4,096 bytes. -/
def execMeterStageWrite (rq : Requester) (offset : BitVec 32) (data : Bytes) (s : State) : Host.Outcome State Fault Refusal :=
  .next (s.request rq Obj.meterStageWrite (.blob (leBytes 4 offset.toNat ++ data)) none fun t =>
    if data.length < 1 ∨ 4096 < data.length then refuse St.lenExceeded t
    else ({ t with meter := { t.meter with stage := t.meter.stage.writeBytes offset.toNat data } }, St.ok))

/-- METER_INSTALL (R443): the E die verifies signature and SecurityVersion; the seal counter rises before the core restarts. -/
def execMeterInstall (rq : Requester) (s : State) : Host.Outcome State Fault Refusal :=
  .next (s.request rq Obj.meterCommand (.num 1) none (reported Obj.meterCommandStatus fun t =>
    if t.num Obj.meterState = 2 then refuse St.busy t
    else
      let image := t.meter.stage.readBytes 0 (t.num Obj.meterStageLength)
      match Config.meterImageVersion image with
      | none => refuse St.badSignature t
      | some v =>
        if v.toNat < t.meter.floor ∨ !t.metering then refuse St.badSignature t
        else
          ({ t.setNum Obj.meterState 2 with meter := { t.meter with
              sealCounter := (t.meter.sealCounter + 1) % 2 ^ 32, floor := v.toNat, firmware := some image
              firmwareChanged := true } }, St.busy)))

/-- METER_RESTART_COMPLETE (R443, R445): a record that fell due is written now. -/
def execMeterRestartComplete (s : State) : Host.Outcome State Fault Refusal :=
  .next (
    if s.num Obj.meterState ≠ 2 then s
    else
      let s1 := ((s.setNum Obj.meterState 1).setNum Obj.meterCommandStatus St.ok).setNum Obj.meterSealCounter s.meter.sealCounter
      let s2 := s1.setBytes Obj.meterFirmwareHash (leBytes 64 (Config.meterImageHash (s.meter.firmware.getD [])).toNat)
      if s2.meter.recordDue then s2.writeMeterRecord false else s2)

end Sys2Proof.Machine
end

