-- ==== Sys2Proof/Machine/Security.lean ====
section
/-! DEFINITION. The security root (R426–R437): firmware images, ownership, the rollback floor, quotes. -/

namespace Sys2Proof.Machine

open Sys2Proof

/-! ### Firmware (R428–R430) -/

/-- The trailer of an image from its byte 0 on (R428); of the shipped one the part that is hashed. -/
def FirmwareImage.trailer : FirmwareImage → Bytes
  | .shipped => leBytes 9899 Config.shippedFirmware.toNat
  | .image b => b.drop (b.length - 14576)

/-- SecurityVersion, ArithmeticVersion, TileIsaVersion, FirmwareHash and RootKey of an image (R428). -/
def FirmwareImage.security (i : FirmwareImage) : Nat := field i.trailer 8 4
def FirmwareImage.arithmetic (i : FirmwareImage) : Nat := field i.trailer 12 4
def FirmwareImage.isa (i : FirmwareImage) : Nat := field i.trailer 16 2
def FirmwareImage.hash (i : FirmwareImage) : Bytes := sha3Bytes (i.trailer.take 9899)
def FirmwareImage.rootKey (i : FirmwareImage) : Bytes := slice i.trailer 88 2592

/-- Signatures, hashes and RootKey of an image hold (R428); those of the shipped image do by manufacture. -/
def FirmwareImage.signed : FirmwareImage → Bool
  | .shipped => true
  | .image b =>
    let t := (FirmwareImage.image b).trailer
    let root := slice t 88 2592
    let release := slice t 2680 2592
    decide (14576 ≤ b.length) && sha3Bytes root == leBytes 64 Config.rootKeyDigest.toNat &&
    verifies root release "kc4810-release" (slice t 5272 4627) &&
    verifies release (t.take 9899) "kc4810-firmware" (slice t 9899 4627) &&
    sha3Bytes (b.take (b.length - 14576)) == slice t 24 64

/-- An image is valid (R428). -/
def State.validImage (s : State) (i : FirmwareImage) : Bool := i.signed && decide (s.num Obj.rollbackFloor ≤ i.security)

/-- The image in a slot: 0 A, 1 B. -/
def State.firmwareSlot (s : State) (n : Nat) : Option FirmwareImage := if n = 0 then s.security.slotA else s.security.slotB

/-- The state with a slot's image set. -/
def State.setFirmwareSlot (s : State) (n : Nat) (i : Option FirmwareImage) : State :=
  { s with security := if n = 0 then { s.security with slotA := i } else { s.security with slotB := i } }

/-- The slot that boot chooses (R429). -/
def State.bootSlot (s : State) : Option Nat :=
  let ok (n : Nat) : Bool := (s.firmwareSlot n).any s.validImage
  let a := s.num Obj.firmwareActiveSlot
  if ok a then some a else if ok (1 - a) then some (1 - a) else none

/-- FIRMWARE_STAGE_WRITE (R429, R446): Offset (4) and 1–4,096 bytes, within the slot's 32 MiB. -/
def execFirmwareStageWrite (rq : Requester) (offset : BitVec 32) (data : Bytes) (s : State) : Host.Outcome State Fault Refusal :=
  .next (s.request rq Obj.firmwareStageWrite (.blob (leBytes 4 offset.toNat ++ data)) none fun t =>
    if data.length < 1 ∨ 4096 < data.length ∨ 33554432 < offset.toNat + data.length then refuse St.lenExceeded t
    else ({ t with security := { t.security with stage := t.security.stage.writeBytes offset.toNat data } }, St.ok))

/-- FIRMWARE_INSTALL (R430): its checks in order; the slot that FirmwareActiveSlot does not name is being written until
FIRMWARE_INSTALL_COMPLETE. -/
def execFirmwareInstall (rq : Requester) (s : State) : Host.Outcome State Fault Refusal :=
  .next (s.request rq Obj.firmwareCommand (.num 1) none (reported Obj.firmwareCommandStatus fun t =>
    let n := t.num Obj.firmwareStageLength
    let i := FirmwareImage.image (t.security.stage.readBytes 0 n)
    if t.security.installing.isSome ∨ t.num (Obj.domainState 6) = 3 ∨ t.num (Obj.domainState 7) = 3 then refuse St.busy t
    else if n < 14576 ∨ n ≠ field i.trailer 20 4 + 14576 ∨ 33554432 < n then refuse St.lenExceeded t
    else if !i.signed then refuse St.badSignature t
    else if i.security < t.num Obj.rollbackFloor then refuse St.notPermittedInState t
    else
      let t1 := t.setFirmwareSlot (1 - t.num Obj.firmwareActiveSlot) none
      ({ t1 with security := { t1.security with installing := some i } }, St.busy)))

/-- FIRMWARE_INSTALL_COMPLETE (R430): an image that does not read back leaves FirmwareActiveSlot as it is. -/
def execFirmwareInstallComplete (readBackOk : Bool) (s : State) : Host.Outcome State Fault Refusal :=
  .next (match s.security.installing with
    | none => s
    | some i =>
      let s1 : State := { s with security := { s.security with installing := none } }
      let n := 1 - s.num Obj.firmwareActiveSlot
      if readBackOk then
        ((s1.setFirmwareSlot n (some i)).setP Obj.firmwareActiveSlot (.num n)).setNum Obj.firmwareCommandStatus St.ok
      else s1.setNum Obj.firmwareCommandStatus St.uncorrectable)

/-! ### Ownership (R431, R432) -/

/-- The key that must have signed an ownership record (R431). -/
def State.ownershipKey (s : State) : Bytes :=
  if s.num Obj.ownershipSequence = 0 then s.security.running.rootKey else s.bytes Obj.ownerKey

/-- An ownership record is for this module, next in sequence, and signed (R431). -/
def State.ownershipHolds (s : State) (r : Bytes) : Bool :=
  decide (r.length = 7243) && field r 0 4 == 0x4E574F4B && field r 8 8 == nodeIdentity &&
  field r 16 8 == s.num Obj.ownershipSequence + 1 &&
  verifies s.ownershipKey (r.take 2616) "kc4810-ownership" (slice r 2616 4627)

/-- Every hoop is Empty. -/
def State.allHoopsEmpty (s : State) : Bool := (List.range 16).all fun h => s.num (Obj.hoopState h) == 0

/-- An accepted record takes effect (R432, steps 1–3). -/
def State.takeOwner (s : State) (key : Bytes) : State :=
  let s1 := (s.setP Obj.ownerKey (.blob key)).setP Obj.ownershipSequence (.num (s.num Obj.ownershipSequence + 1))
  let s2 := s1.setP Obj.pdpKeyTable (.blob (sha3Bytes key ++ [0xFF, 1] ++ List.replicate 6 0))
  let s3 := s2.setBytes Obj.peerGrantTable []
  s3.each (List.range 16) fun t h =>
    (((t.setBytes (Obj.hoopProgramKey h) []).setBytes (Obj.hoopControllerKey h) []).markWrite (Obj.hoopProgramKey h))

/-- OWNERSHIP_TRANSFER (R431, R432): the write is answered when the commit that covers it completes, or cannot start. -/
def execOwnershipTransfer (rq : Requester) (record : Bytes) (s : State) : Host.Outcome State Fault Refusal :=
  .next (s.checked rq Obj.ownershipTransfer (.blob record) none fun t =>
    if !t.allHoopsEmpty then t.answer rq St.notPermittedInState 0 0 []
    else if t.num (Obj.domainState 6) = 3 ∨ t.num (Obj.domainState 7) = 3 then t.answer rq St.busy 0 0 []
    else if !t.ownershipHolds record then t.answer rq St.badSignature 0 0 []
    else
      let t1 := (t.takeOwner (slice record 24 2592)).beginCommit (some rq)
      let t2 := t1.raise Ev.ownershipChanged
      if t1.control.commit.isSome then t2 else t2.answer rq St.refusedNotReady 0 0 [])

/-! ### The rollback floor (R435) -/

/-- The tag stored with the floor (R435). -/
def floorTagOf (floor : Nat) : Bytes :=
  leBytes 32 (Config.kmac256 storageMacKey (leBytes 4 floor) (asciiBytes "kc4810-floor")).toNat

/-- ROLLBACK_FLOOR_WRITE (R435). -/
def execRollbackFloorWrite (rq : Requester) (value : BitVec 32) (token : Token) (s : State) : Host.Outcome State Fault Refusal :=
  .next (s.request rq Obj.rollbackFloor (.num value.toNat) (some token) fun t =>
    let old := t.num Obj.rollbackFloor
    if value.toNat < old ∨ t.security.running.security < value.toNat then refuse St.accessDenied t
    else
      let t1 := t.setP Obj.rollbackFloor (.num value.toNat)
      let t2 : State := { t1 with security := { t1.security with floorTag := floorTagOf value.toNat } }
      (if old < value.toNat then t2.raise Ev.rollbackRaised { detail := value.toNat } else t2, St.ok))

/-! ### Attestation (R436, R437) -/

/-- Start, or start again, the quote of a scope (16 for the module). -/
def State.startQuote (s : State) (scope status : Nat) (nonce : Bytes) : State :=
  { s.setNum status St.busy with security := { s.security with quoting := Map.put [] s.security.quoting scope nonce } }

/-- A write of a nonce (R437): it sets its object and starts a quote. -/
def nonceEffect (scope nonceKey status : Nat) (nonce : Bytes) : Effect := fun s =>
  if nonce.length ≠ 32 then refuse St.lenExceeded s
  else ((s.setBytes nonceKey nonce).startQuote scope status nonce, St.ok)

/-- ATTEST_NONCE_WRITE (R437). -/
def execAttestNonceWrite (rq : Requester) (nonce : Bytes) (s : State) : Host.Outcome State Fault Refusal :=
  .next (s.request rq Obj.attestNonce (.blob nonce) none (nonceEffect 16 Obj.attestNonce Obj.attestStatus nonce))

/-- HOOP_ATTEST_NONCE_WRITE (R437). -/
def execHoopAttestNonceWrite (rq : Requester) (h : Hoop) (nonce : Bytes) (s : State) : Host.Outcome State Fault Refusal :=
  .next (s.request rq (Obj.hoopAttestNonce h) (.blob nonce) none
    (nonceEffect h (Obj.hoopAttestNonce h) (Obj.hoopAttestStatus h) nonce))

/-- The digest of a key, zeros for none. -/
def digestOr0 (b : Bytes) : Bytes := if b = [] then List.replicate 64 0 else sha3Bytes b

/-- Bytes of an object of 64 bytes, zeros for an empty one. -/
def bytesOr0 (n : Nat) (b : Bytes) : Bytes := if b = [] then List.replicate n 0 else b

/-- The hoop section of a quote (R436). -/
def State.quoteHoop (s : State) (h : Nat) : Bytes :=
  leBytes 1 (s.num (Obj.hoopState h)) ++
  leBytes 1 ((if s.flag (Obj.lineHoopClearEnableA h) then 1 else 0) + if s.flag (Obj.lineHoopClearEnableB h) then 2 else 0) ++
  leBytes 2 0 ++ leBytes 4 (s.num (Obj.hoopEpoch h)) ++ leBytes 4 (s.num (Obj.outerStepCounter h)) ++ leBytes 4 0 ++
  digestOr0 (s.bytes (Obj.hoopProgramKey h)) ++ digestOr0 (s.bytes (Obj.hoopControllerKey h)) ++
  bytesOr0 64 (s.bytes (Obj.planHash h)) ++ s.weaveSetHash h

/-- Bytes 0–559 of a quote (R436). -/
def State.quoteBody (s : State) (scope : Nat) (nonce : Bytes) : Bytes :=
  leBytes 4 0x5154414B ++ leBytes 2 1 ++ leBytes 1 (if scope < 16 then scope else 0xFF) ++ leBytes 1 0 ++
  leBytes 8 nodeIdentity ++ nonce ++ s.security.running.hash ++ leBytes 4 s.security.running.security ++
  leBytes 4 (s.num Obj.rollbackFloor) ++ leBytes 4 (s.num Obj.arithmeticVersion) ++ leBytes 2 (s.num Obj.tileIsaVersion) ++
  leBytes 2 0 ++ digestOr0 (s.bytes Obj.ownerKey) ++ s.meterHash ++ leBytes 4 (s.num Obj.meterSealCounter) ++
  leBytes 8 (s.num Obj.meterLastSequence) ++ leBytes 4 0 ++ leBytes 10 (time80 (s.baseNs 0)) ++ leBytes 6 0 ++
  (if scope < 16 then s.quoteHoop scope else List.replicate 272 0)

/-- QUOTE_COMPLETE (R436): nothing is signed where no quote is being made or the security root is Failed (R373). -/
def execQuoteComplete (scope : Option Hoop) (s : State) : Host.Outcome State Fault Refusal :=
  let n := match scope with
    | some h => h.val
    | none => 16
  let nonce := Map.get [] s.security.quoting n
  .next (
    if nonce = [] ∨ s.num (Obj.domainState 6) = 3 then s
    else
      let body := s.quoteBody n nonce
      let sig := leBytes 4627 (Config.mlDsaSign identityKeySeed (sha3Bytes body) (asciiBytes "kc4810-quote") s.freeCtr).toNat
      let s1 : State := { s.tookFree with security := { s.security with
          quoting := Map.put [] s.security.quoting n [] } }
      let k := if n < 16 then Obj.hoopAttestQuote n else Obj.attestQuote
      (s1.setBytes k (body ++ sig)).setNum (if n < 16 then Obj.hoopAttestStatus n else Obj.attestStatus) St.ok)

end Sys2Proof.Machine
end

