-- ==== Sys2Proof/Machine/Views.lean ====
section
/-! DEFINITION. What a read of the dictionary returns: the store's value, or, for an object that shows other state of the module,
the value computed from it; gated blocks (R377) and measured values. -/

namespace Sys2Proof.Machine

open Sys2Proof

/-! ### Pools, contexts and tiles -/

/-- Bit n of block `block` of a class on die m: buffer 64 × leaf + j is free (R192, R195). The class-3 blocks are the die's frame
map, numbered from the first frame of the pool area. -/
def State.bufferFree (s : State) (m cls block n : Nat) : Bool :=
  let b := block * 4096 + n
  if cls = 3 then
    decide (b < s.num (Obj.diePoolFrames m)) && (Map.get none s.pools.frames (frameKey m (s.firstPoolFrame + b))).isNone
  else
    (s.heldFrames.find? fun x => x.1 / 2 ^ 17 == m && x.2.cls == cls && x.2.place == b / perFrame cls).any fun x =>
      (Map.get none x.2.used (b % perFrame cls)).isNone

/-- Leaf i of a block (R192). -/
def State.bitmapLeaf (s : State) (m cls block i : Nat) : Nat :=
  (List.range 64).foldl (fun w j => if s.bufferFree m cls block (64 * i + j) then w + 2 ^ j else w) 0

/-- PoolBitmapRead (R205): the summary word, then leaves 0–63. -/
def State.poolBitmap (s : State) (m : Nat) : Bytes :=
  let sel := s.num (Obj.poolBitmapSelect m)
  let leaves := (List.range 64).map (s.bitmapLeaf m (bits sel 31 30) (bits sel 15 0))
  let summary := (leaves.zipIdx.filter fun x => x.1 != 0).foldl (fun w x => w + 2 ^ x.2) 0
  leBytes 8 summary ++ leaves.flatMap (leBytes 8)

/-- The operations that hold a context, with their group: ascending group, then order of the queue. -/
def State.contexts (s : State) : List (Nat × Operation) :=
  s.work.groups.flatMap fun c => c.2.ops.map fun o => (c.1, o)

/-- Chunks of an operation that a tile has been given: bound, running or ended (R416). -/
def State.dispatched (s : State) (g : Nat) (o : Operation) : Nat :=
  (s.work.chunks.filter fun c => c.group == g && c.seq == o.seq && c.phase != 0).length

/-- Chunks of an operation that a tile holds now (R416). -/
def State.undone (s : State) (g : Nat) (o : Operation) : Nat :=
  (s.work.chunks.filter fun c => c.group == g && c.seq == o.seq && (c.phase == 1 || c.phase == 2)).length

/-- One entry of ContextRead (R416). -/
def State.contextEntry (s : State) (g : Nat) (o : Operation) : Bytes :=
  leBytes 1 (o.phase + 1) ++ leBytes 1 (s.hoopOfGroup g) ++ leBytes 2 g ++ leBytes 4 o.seq ++ leBytes 4 o.epoch ++
  leBytes 2 (dPlanEntry o.desc) ++ leBytes 2 0 ++ leBytes 4 (s.dispatched g o) ++ leBytes 4 o.done.length ++
  leBytes 1 o.source ++ List.replicate 7 0

/-- ContextRead (R416): 128 entries from ContextSelect, a context that nothing holds reading as free. -/
def State.contextRead (s : State) : Bytes :=
  let held := (s.contexts.drop (s.num Obj.contextSelect)).take 128
  (held.flatMap fun x => s.contextEntry x.1 x.2) ++ List.replicate (32 * (128 - held.length)) 0

/-- SequencerRead (R416): the bulk operations of the selected hoop, in the order in which they were accepted. -/
def State.sequencerRead (s : State) : Bytes :=
  let h := s.num Obj.sequencerSelect
  (s.contexts.filter fun x => s.hoopOfGroup x.1 == h).flatMap fun x =>
    let next := (s.nextChunk x.1 x.2).getD ((s.chunkCount x.1 x.2.desc).getD 0)
    leBytes 2 x.1 ++ leBytes 2 0 ++ leBytes 4 x.2.seq ++ leBytes 4 next ++ leBytes 4 (s.undone x.1 x.2)

/-- TileBindings (R105). -/
def State.tileBindings (s : State) (t : Nat) : Bytes :=
  [0, 1].flatMap fun z => match (s.tile t).zone z with
    | some (g, seq, i) => leBytes 2 g ++ leBytes 2 0 ++ leBytes 4 seq ++ leBytes 4 i
    | none => leBytes 2 0xFFFF ++ List.replicate 10 0

/-! ### The line and the gateway fabric -/

/-- One entry of LineSessionTable (R290). -/
def State.sessionEntry (s : State) (w n : Nat) : Bytes :=
  let x := Map.get {} (s.wale w).sessions n
  let state := if n ≠ 0 then x.state else match s.num (Obj.lineSession0State w) with
    | 3 => 2
    | 1 => 1
    | 2 => 1
    | _ => 0
  leBytes 1 state ++ leBytes 1 (if n = 0 then 0xFF else x.hoop) ++ leBytes 1 (if x.clear then 1 else 0) ++ leBytes 1 x.txEpoch ++
  leBytes 1 x.phase ++ leBytes 2 (x.rxOld * 256 + x.rxNew) ++ leBytes 1 0 ++ leBytes 8 x.sent

/-- Milliseconds that a wale has been in Held (R270). -/
def State.holdElapsed (s : State) (w : Nat) : Nat :=
  if s.num (Obj.repeatState w) = 2 then (s.now - (s.wale w).tx.heldSince) / 1000000 else 0

/-- A histogram (R320, R323): 32 bins of u64. -/
def State.histogram (s : State) (key : Nat) : Bytes :=
  (List.range 32).flatMap fun b => leBytes 8 (Map.get 0 (Map.get [] s.line.histograms key) b)

/-- HoopTokens (R323): Tc and Tp in bytes. -/
def State.tokens (s : State) (h : Nat) : Nat :=
  let m := s.meterNow h
  m.tc / 1000000000 % 2 ^ 32 * 2 ^ 32 + m.tp / 1000000000 % 2 ^ 32

/-- LineLaneDspPower in mW (R292): 0 for a lane whose DSP is gated. -/
def State.dspPower (s : State) (k : Nat) : Nat :=
  if !s.laneEnabled k then 0
  else match s.num (Obj.lineLaneResolution k) with
    | 8 => 9000
    | 7 => 8300
    | 6 => 7700
    | 5 => 7300
    | _ => 7000

/-- RouteTable (R349). -/
def State.routeTable (s : State) : Bytes :=
  s.net.routes.flatMap fun r => leBytes 2 r.address ++ leBytes 1 r.wale ++ leBytes 1 r.hops ++ leBytes 4 r.cost

/-- PeerTable (R349). -/
def State.peerTable (s : State) : Bytes :=
  s.net.announcements.flatMap fun a =>
    let fenced := (List.range 16).any fun h => s.fencedIn h a.address
    leBytes 8 a.node ++ leBytes 2 a.address ++ leBytes 2 a.health ++
    leBytes 1 (if (Map.get none s.net.suspected a.address).isSome then 1 else 0) ++ leBytes 1 (if fenced then 2 else 0) ++ leBytes 2 0

/-- EventLogRead (R457, R463): up to 128 entries from EventLogSelect, oldest first. -/
def State.eventLogRead (s : State) : Bytes :=
  ((s.events.log.reverse.filter fun e => decide (s.num Obj.eventLogSelect ≤ e.sequence)).take 128).flatMap EventEntry.encode

/-! ### The value of an object -/

/-- Objects of the hub that show other state: identity and firmware (R424, R446, R492), capacity (R30), contexts (R62, R416), pools (R205),
determinism (R85), the fabric (R349), time (R364), events (R463). -/
def State.viewHub (s : State) (base sub i : Nat) : Option Val :=
  match base, sub with
  | 0x1000, 0x02 => some (.blob Config.partNumber)
  | 0x1000, 0x03 => some (.blob Config.serialNumber)
  | 0x1000, 0x04 => some (.num Config.firmwareVersion.toNat)
  | 0x2000, 0x02 => some (.num s.hoopMemoryAvailable)
  | 0x3000, 0x03 => some (.num s.sharedRemainder)
  | 0x3040, 0x05 => some (.blob (s.reproRecord i))
  | 0x3040, 0x07 => some (.num (s.mismatchGroups i))
  | 0x5210, 0x04 => some (.blob (s.poolBitmap i))
  | 0xA000, 0x01 => some (.num nodeIdentity)
  | 0xA000, 0x0C => some (.blob s.routeTable)
  | 0xA000, 0x0D => some (.blob s.peerTable)
  | 0xB000, 0x02 => some (.num (time80 s.protectedNs))
  | 0xB010, 0x01 => some (.num (time80 (s.baseNs i)))
  | 0xC700, 0x01 => some (.blob Config.moduleVariant)
  | 0xC700, 0x02 => some (.num Config.boardEngineSitesFitted.toNat)
  | 0xE000, 0x04 => some (.blob s.eventLogRead)
  | 0xF010, 0x02 => some (.blob s.contextRead)
  | 0xF010, 0x04 => some (.blob s.sequencerRead)
  | _, _ => none

/-- Objects of the security root and the sealed meter that show other state (R446, R448). -/
def State.viewSecurity (s : State) (base sub i : Nat) : Option Val :=
  match base, sub with
  | 0xD000, 0x01 => some (.blob identityKey)
  | 0xD000, 0x02 => some (.blob (leBytes 4627 Config.deviceCertificate.toNat))
  | 0xD000, 0x07 => some (.blob s.security.running.hash)
  | 0xD000, 0x08 => some (.num s.security.running.security)
  | 0xD800, 0x01 => some (.blob (leBytes 2592 (Config.mlDsaPublic (leBytes 32 Config.meterSeed.toNat)).toNat))
  | 0xD800, 0x02 => some (.blob (leBytes 4627 Config.meterCertificate.toNat))
  | 0xD800, 0x03 => some (.blob s.meterHash)
  | 0xD800, 0x07 => some (.blob (Map.get [] s.meter.records (s.num Obj.meterReadSequence)))
  | 0xD820, 0x01 => some (.blob (s.meterEntry i))
  | _, _ => none

/-- Objects of tiles, ports, lanes, wales, hoops' queues and clock domains that show other state (R105, R224, R270, R290, R310,
R323, R397). -/
def State.viewUnit (s : State) (base sub i : Nat) : Option Val :=
  match base, sub with
  | 0x4100, 0x07 => some (.blob (s.tileBindings i))
  | 0x7080, 0x08 => some (.num (if s.num (Obj.repeatState i) = 0 then 0 else s.repeatTimeoutNs i))
  | 0x7080, 0x11 => some (.num (s.holdElapsed i))
  | 0x7880, 0x07 => some (.blob ((List.range 33).flatMap (s.sessionEntry i)))
  | 0x8040, 0x0A => some (.num (s.dspPower i))
  | 0x9040, 0x0C => some (.num (s.tokens i))
  | 0xC400, 0x02 => some (.num (s.firmwareVote i))
  | 0xC400, 0x05 => some (.num (s.target i))
  | 0xC400, 0x07 => some (.num (s.inForce i))
  | _, _ => none

/-- PortMacAddress of port p (R211, R224), the queue histograms (R323), HoopTileMask with its reserved bits 0 (R10, R31): objects by
key. -/
def State.viewKey (s : State) (k base sub i : Nat) : Option Val :=
  if k = Obj.portMacAddress i then some (.blob (beBytes 6 (Config.portMacAddress i).toNat))
  else if base = 0x9080 ∧ 1 ≤ sub ∧ sub ≤ 5 then some (.blob (s.histogram (ownerHist i (sub - 1))))
  else if base = 0x90A0 ∧ 1 ≤ sub ∧ sub ≤ 5 then some (.blob (s.histogram (waleHist i (sub - 1))))
  else if base = 0x2100 ∧ sub = 5 then some (.num (s.num k % 2 ^ 48))
  else none

/-- The value of the object at a key, as a read sees it. -/
def State.view (s : State) (k : Nat) : Val :=
  match findRow k with
  | none => .num 0
  | some (r, i) =>
    ((((s.viewHub r.base r.sub i).or (s.viewSecurity r.base r.sub i)).or (s.viewUnit r.base r.sub i)).or
      (s.viewKey k r.base r.sub i)).getD (r.shown (s.obj k))

/-! ### Gated blocks and measured values -/

/-- The large block whose hardware holds an object's value: counters and measured states of tiles, channels, lanes (R376, R377). -/
def holderBlock (k : Nat) (r : ObjRow) (i : Nat) : Option LargeBlock :=
  if r.acc ≠ .ro then none
  else
    match r.base with
    | 0x4100 => if (tileHardware i).contains k then some (.tile (Fin.ofNat 48 i)) else none
    | 0x5100 => if 1 ≤ r.sub ∧ r.sub ≤ 4 then some (.channel (Fin.ofNat 640 i)) else none
    | 0x6040 => some (.fabricLane (Fin.ofNat 64 i))
    | 0x7020 => if 3 ≤ r.sub then some (.lineLane (Fin.ofNat 32 i)) else none
    | 0x7060 => if r.sub = 1 ∨ r.sub = 8 then none else some (.lineLane (Fin.ofNat 32 i))
    | 0x8040 => if 8 ≤ r.sub ∧ r.sub ≤ 9 then some (.lineLane (Fin.ofNat 32 i)) else none
    | _ => none

/-- The object's value is held by a block that is gated, or whose clock has not yet run for 20 µs (R377). -/
def State.gatedObject (s : State) (k : Nat) : Bool :=
  match findRow k with
  | none => false
  | some (r, i) => (holderBlock k r i).any fun b => !s.blockRuns b

/-- Objects that show what no command of the table brings: measurements (R310, R492), the supply of a domain for which R383 states
none (R397): a read takes a free value. -/
def isMeasured (k : Nat) : Bool :=
  ((List.range 100).any fun d => k == Obj.domainVoltage d && (levelClock d 0).2 == 0) ||
  k == Obj.mainInputVoltage || k == Obj.standbyInputVoltage || k == Obj.coolantInletTemperature ||
  k == Obj.coolantOutletTemperature || (List.range 32).any fun i => k == Obj.lineRxPower i || k == Obj.lineTxPower i

/-- Dies with a migration running (R187). -/
def State.migratingDies (s : State) : List Nat := (List.range 8).filter fun m => Map.get [] s.memory.migrations m != []

/-- Counts of what no command of the table brings: a tile's cycles and the errors that its store corrects (R88, R105), FEC codewords of
a lane (R224), codewords that a channel corrects on its owners' reads (R181, R191). -/
def isCount (k : Nat) : Bool :=
  ((List.range 48).any fun t => k == Obj.tileCycles t || k == Obj.tileStoreCorrected t) ||
  ((List.range 64).any fun l => k == Obj.laneFecCorrected l || k == Obj.laneFecUncorrected l) ||
  (List.range 640).any fun c => k == Obj.channelCorrected c

/-- Bytes of a fixed type, and 0 for STR and BLOB. -/
def fixedSize (k : Nat) : Nat :=
  match findRow k with
  | some (r, _) => if r.ty = .blob ∨ r.ty = .str then 0 else r.size
  | none => 0

/-- The progress objects of what runs now, with where each ends: the bytes of DieOffset that a migration copies (R187, R190), the
bytes that an evacuation writes (R30). -/
def State.progress (s : State) : List (Nat × Nat) :=
  (s.migratingDies.map fun m => (Obj.dieMigrationProgress m, s.num (Obj.dieUsableBytes m) - channelBytes)) ++
  ((List.range 16).filter fun h => (s.hoop h).evacuation.isSome).map fun h => (Obj.evacuationBytesWritten h, s.evacuationLength h)

/-- Where a count that goes up by itself ends; none for any other object (log entry 146). -/
def State.countTop (s : State) (k : Nat) : Option Nat :=
  if isCount k then some (2 ^ (8 * fixedSize k) - 1) else (s.progress.find? fun p => p.1 == k).map Prod.snd

/-- A read of the object takes a free value. -/
def State.readsFree (s : State) (k : Nat) : Bool := isMeasured k || (s.countTop k).isSome

/-- A count in the latched snapshot takes its value when it is first needed: what has been counted up to the latch (R417). -/
def State.settleLatch (s : State) (k : Nat) : State :=
  match s.control.snapshot with
  | none => s
  | some x =>
    if !isCount k || x.taken.contains k then s
    else
      let old := (Map.get (objDefault k) x.values k).toNat
      let f := s.freeNat 64 % (2 ^ (8 * fixedSize k) - max old (s.num k))
      let s1 := (s.setNum k (s.num k + f)).tookFree
      { s1 with control := { s1.control with
          snapshot := some { x with values := Map.put (objDefault k) x.values k (.num (old + f)), taken := k :: x.taken } } }

/-- The hoop to which a requester's reads are limited (R412). -/
def State.scopeOf (s : State) (rq : Requester) : Option Nat :=
  match rq with
  | .pdp session _ =>
    let p := Map.get {} s.control.pdp session
    if p.scope = 0xFF then none else some p.scope
  | _ => none

/-- Entries that a requester limited to hoop h may not see: contexts of other hoops read as free (R416), log entries of other
hoops as zeros except Sequence (R460). -/
def scopedValue (scope : Option Nat) (k : Nat) (value : Bytes) : Bytes :=
  match scope with
  | none => value
  | some h =>
    if k = Obj.contextRead then
      (entriesOf 32 128 value).flatMap fun e => if field e 1 1 = h then e else List.replicate 32 0
    else if k = Obj.eventLogRead then
      (entriesOf 32 128 value).flatMap fun e =>
        if field e 3 1 = h ∨ field e 3 1 = 0xFF then e else List.replicate 4 0 ++ slice e 4 4 ++ List.replicate 24 0
    else value

/-- What a read of an object returns, and the state after it (R377, R403). A count goes up by itself before it is read. -/
def State.readObject (rq : Requester) (k : Nat) (s : State) : State × Bytes :=
  if s.gatedObject k then (s.bump 64 Obj.gatedAccessCount 1, List.replicate (fixedSize k) 0)
  else if isMeasured k then (s.tookFree, leBytes (fixedSize k) (s.freeNat (8 * fixedSize k)))
  else match s.countTop k with
    | some top =>
      let s1 := (s.settleLatch k).countUp k top
      (s1, leBytes (fixedSize k) (s1.num k))
    | none => (s, scopedValue (s.scopeOf rq) k (encodeVal k (s.view k)))

/-! ### Snapshot registers (R417, R419) -/

/-- The domain whose blocks hold an object: tiles, memory, ports, DSP lanes, in-package lanes, lasers, the E die, else the hub's
(R370). -/
def objectDomain (k : Nat) : Nat :=
  match findRow k with
  | none => 1
  | some (r, i) =>
    match r.base with
    | 0x4100 => tileDomain i
    | 0x5100 => 64 + 2 * (i / 80)
    | 0x5210 => 65 + 2 * i
    | 0x6010 => 80 + 2 * (i / 4)
    | 0x6020 => 80 + 2 * (i / 8)
    | 0x6040 => 80 + 2 * (i / 32)
    | 0x7020 => 84 + 5 * (i / 16) + (if i % 16 < 8 then 0 else 1)
    | 0x7060 => 84 + 5 * (i / 16) + (if i % 16 < 8 then 0 else 1)
    | 0x8040 => 84 + 5 * (i / 16) + (if i % 16 < 8 then 0 else 1)
    | 0x80A0 => 94 + i / 8
    | 0x80C0 => 96
    | 0xD800 => 98
    | 0xD820 => 98
    | _ => registerDomain k

/-- Keys of the V and W objects that show other state: first index, sub, number of units. -/
def viewedRows : List (Nat × Nat × Nat) :=
  [(0x2000, 0x02, 1), (0x3000, 0x03, 1), (0x3040, 0x07, 16), (0x4100, 0x07, 48), (0x5210, 0x04, 8), (0x7080, 0x08, 32), (0x7080, 0x11, 32), (0x7880, 0x07, 32),
    (0x8040, 0x0A, 32), (0x9040, 0x0C, 16), (0x9080, 0x01, 17), (0x9080, 0x02, 17), (0x9080, 0x03, 17), (0x9080, 0x04, 17),
    (0x9080, 0x05, 17), (0x90A0, 0x01, 32), (0x90A0, 0x02, 32), (0x90A0, 0x03, 32), (0x90A0, 0x04, 32), (0x90A0, 0x05, 32)] ++
  [(0xA000, 0x0C, 1), (0xA000, 0x0D, 1), (0xB000, 0x02, 1), (0xB010, 0x01, 4), (0xC400, 0x02, 100), (0xC400, 0x05, 100),
    (0xC400, 0x07, 100), (0xD800, 0x07, 1), (0xD820, 0x01, 16), (0xE000, 0x04, 1), (0xF010, 0x02, 1), (0xF010, 0x04, 1)]

/-- The registers a snapshot copies (R417): the V and W objects, those that show other state at what they show now. -/
def State.snapValues (s : State) : Map Val :=
  let stored := s.dict.filter fun c => retentionOf c.1 == .v || retentionOf c.1 == .w
  (viewedRows.flatMap fun r => (List.range r.2.2).map fun i => linearKey r.1 r.2.1 i).foldl
    (fun m k => Map.put (objDefault k) m k (s.view k)) stored

end Sys2Proof.Machine
end

