-- ==== Sys2Proof/Machine/Control.lean ====
section
/-! DEFINITION. The control plane beside the dictionary itself (chapter 21): the PCIe function, mailboxes, the PDP handshake, the
snapshot, the persistent store. -/

namespace Sys2Proof.Machine

open Sys2Proof

/-! ### Mailboxes (R409–R411) -/

/-- MAILBOX_POST_REGISTER_WRITE (R409). -/
def execMailboxPostRegisterWrite (n : Mailbox) (word : BitVec 32) (s : State) : Host.Outcome State Fault Refusal :=
  .next (if s.mailboxFull n then s.setNum (Obj.mailboxState n) (setBit (s.num (Obj.mailboxState n)) 2 true)
    else s.postMailbox n 0 word.toNat)

/-- MAILBOX_POST (R409). -/
def execMailboxPost (rq : Requester) (n : Mailbox) (word : BitVec 32) (s : State) : Host.Outcome State Fault Refusal :=
  .next (s.request rq (Obj.mailboxPost n) (.num word.toNat) none fun t =>
    if t.mailboxFull n then (t, St.busy) else (t.postMailbox n (senderOf rq) word.toNat, St.ok))

/-- The value of a take register (R410). -/
def State.takeValue (s : State) (n : Nat) : Nat :=
  s.num (Obj.mailboxWord n) + 2 ^ 32 * (s.num (Obj.mailboxState n) % 8)

/-- MAILBOX_TAKE_REGISTER_READ (R410). -/
def execMailboxTakeRegisterRead (n : Mailbox) (s : State) : Host.Outcome State Fault Refusal :=
  let s1 := s.emit (.takeRegister n (s.takeValue n))
  .next (if s.mailboxFull n && s.num (Obj.mailboxReceiver n) == 0 then s1.takeMailbox n else s1)

/-- The requester is the receiver that a mailbox names, beside the host (R410, R424). -/
def State.receives (s : State) (rq : Requester) (n : Nat) : Bool :=
  match rq, s.num (Obj.mailboxReceiver n) with
  | .hubFirmware, 1 => true
  | .pdp session _, 2 => s.num (Obj.mailboxSession n) == session.val
  | _, _ => false

/-- MAILBOX_TAKE (R410): a read by another requester returns the word and takes nothing. -/
def execMailboxTake (rq : Requester) (n : Mailbox) (s : State) : Host.Outcome State Fault Refusal :=
  .next (s.serveRead rq (Obj.mailboxTake n) 0 4 fun t =>
    (if t.mailboxFull n && t.receives rq n then t.takeMailbox n else t, leBytes 4 (t.num (Obj.mailboxWord n))))

/-- MAILBOX_TIMEOUT (R411). -/
def execMailboxTimeout (n : Mailbox) (s : State) : Host.Outcome State Fault Refusal :=
  .next (if s.mailboxFull n then
      let s1 := s.setNum (Obj.mailboxState n) (setBit (s.num (Obj.mailboxState n)) 1 true)
      (s1.bump 32 (Obj.mailboxTimeouts n) 1).raise Ev.mailboxTimeout { unit := n }
    else s)

/-! ### The PCIe function (R406, R408, R482) -/

/-- A function-level reset (R408): request slots, their latched copies and the MSI-X table are cleared. -/
def State.flr (s : State) : State :=
  { s with control := { s.control with
      slots := [], msixTable := [], msixPending := [], d3hot := false
      latch := Map.clear (fun n => decide (n < 16)) s.control.latch } }

/-- PCIE_FLR (R408). -/
def execPcieFlr (s : State) : Host.Outcome State Fault Refusal := .next s.flr

/-- PERST_L_ASSERT (R482). -/
def execPerstLAssert (s : State) : Host.Outcome State Fault Refusal :=
  .next { s.flr with control := { s.flr.control with pcieLinkUp := false } }

/-- PCIE_POWER_STATE_WRITE (R408): on the return to D0 the vectors kept pending are sent. -/
def execPciePowerStateWrite (d3hot : Bool) (s : State) : Host.Outcome State Fault Refusal :=
  let s1 : State := { s with control := { s.control with d3hot := d3hot, msixPending := if d3hot then s.control.msixPending else [] } }
  .next (if d3hot then s1 else s1.each s.control.msixPending State.vector)

/-- MGT_LINK_STATE_CHANGE (R424, R454): with the link down the PTP domains of the port go to Holdover (R355). -/
def execMgtLinkStateChange (port : Fin 2) (up : Bool) (s : State) : Host.Outcome State Fault Refusal :=
  .next (if up then s.setNum (Obj.mgtLinkState port) 1 else s.managementLinkDown port)

/-! ### The PDP handshake (R412, R413) -/

/-- The state with a PDP session set. -/
def State.setPdp (s : State) (n : Nat) (p : PdpState) : State :=
  { s with control := { s.control with pdp := Map.put {} s.control.pdp n p } }

/-- A PDP session. -/
def State.pdpSession (s : State) (n : Nat) : PdpState := Map.get {} s.control.pdp n

/-- The PdpKeyTable entry of a client's public key: scope and write right (R424). -/
def State.pdpEntry (s : State) (publicKey : Bytes) : Option (Nat × Bool) :=
  ((entriesOf 72 16 (s.bytes Obj.pdpKeyTable)).find? fun e => e.take 64 == sha3Bytes publicKey).map fun e =>
    (field e 64 1, bitAt (field e 65 1) 0)

/-- PDP_HELLO_RECEIVED (R412). The digest of both messages is over the hello and the ciphertext of the reply (log entry 32). -/
def execPdpHelloReceived (publicKey encapKey nonce : Bytes) (s : State) : Host.Outcome State Fault Refusal :=
  .next (
    if !s.flag Obj.pdpEnable || s.limp then s
    else match s.pdpEntry publicKey with
      | none => ((s.emit (.pdpRefusal St.accessDenied)).bump 32 Obj.pdpAuthFailures 1).raise Ev.pdpAuthFail
      | some (scope, write) =>
        match (List.range 16).find? fun n => (s.pdpSession n).phase == 0 with
        | none => s.emit (.pdpRefusal St.busy)
        | some n =>
          let enc := Config.mlKemEncap encapKey s.freeCtr
          let ct := leBytes 1568 enc.1.toNat
          let transcript := publicKey ++ encapKey ++ nonce ++ ct
          let digest := sha3Bytes transcript
          let key := leBytes 32 (Config.shake256 (leBytes 32 enc.2.toNat ++ digest) 32).toNat
          let sig := leBytes 4627 (Config.mlDsaSign identityKeySeed digest (asciiBytes "penrel-pdp") s.freeCtr).toNat
          (s.tookFree.setPdp n {
            phase := 1, clientKey := publicKey, transcript := transcript, key := key, scope := scope, write := write }).emit
            (.pdp n 0 (ct ++ sig)))

/-- A PDP session is closed (R413): its key is forgotten and PdpSessionsOpen follows. -/
def State.closePdp (s : State) (n : Nat) : State :=
  let s1 := if (s.pdpSession n).phase = 2 then s.lower Obj.pdpSessionsOpen 1 else s
  let s2 := s1.setPdp n {}
  { s2 with control := { s2.control with latch := Map.put (0, []) s2.control.latch (16 + n) (0, []) } }

/-- PDP_CONFIRM_RECEIVED (R412). -/
def execPdpConfirmReceived (session : PdpSession) (signature : Bytes) (s : State) : Host.Outcome State Fault Refusal :=
  let p := s.pdpSession session
  .next (
    if p.phase ≠ 1 then s
    else if verifies p.clientKey p.transcript "penrel-pdp" signature then
      (s.setPdp session { p with phase := 2 }).bump 8 Obj.pdpSessionsOpen 1
    else (s.closePdp session).emit (.pdpRefusal St.badSignature))

/-- PDP_SESSION_IDLE_TIMEOUT (R413). -/
def execPdpSessionIdleTimeout (session : PdpSession) (s : State) : Host.Outcome State Fault Refusal :=
  .next (s.closePdp session)

/-! ### Snapshots (R417–R419) -/

/-- The five TIME80 values of a snapshot (R418): TB0–TB3 and P. -/
def State.snapTimes (s : State) : Bytes :=
  ([0, 1, 2, 3].flatMap fun b => leBytes 10 (time80 (s.baseNs b))) ++ leBytes 10 (time80 s.protectedNs)

/-- Latch a snapshot (R418): progress is taken as it stands, the copy, the domains whose registers are stale or off (R380, R419), times, count, vector 2. A register
that reads a free value is latched at one of its own: one for each key below 2^24. -/
def State.latchSnapshot (s0 : State) (source : Nat) : State :=
  let s := s0.each s0.progress fun t p => t.countUp p.1 p.2
  let doms := List.range 100
  let copy : SnapshotCopy := {
    values := s.snapValues
    stale := doms.filter fun d => s.num (Obj.domainState d) == 3 || s.num (Obj.domainState d) == 2
    off := doms.filter fun d => s.num (Obj.domainSleepState d) == 6
    free := s.freeCtr }
  let s1 : State := { s with
    control := { s.control with snapshot := some copy, snapshotReleased := false }
    freeCtr := s.freeCtr + 2 ^ 24 }
  let s2 := s1.setBytes Obj.snapshotTimes s.snapTimes
  (((s2.setNum Obj.snapshotSource source).bump 32 Obj.snapshotCount 1)).vector 2

/-- SNAP_OUT pulses when SnapshotOutEnable is TRUE, whether or not the trigger is taken (R418). -/
def State.snapOut (s : State) : State :=
  if s.flag Obj.snapshotOutEnable then (s.emit (.pin .snapOut true)).emit (.pin .snapOut false) else s

/-- A trigger (R418). -/
def State.snapTrigger (s : State) (source : Nat) : State :=
  let s1 := s.snapOut
  if s1.flag Obj.snapshotLock && !s1.control.snapshotReleased then s1.bump 32 Obj.snapshotMissed 1
  else s1.latchSnapshot source

/-- SNAP_IN_EDGE (R417). -/
def execSnapInEdge (s : State) : Host.Outcome State Fault Refusal :=
  .next (if s.flag Obj.snapshotInEnable then s.snapTrigger 1 else s)

/-- SNAPSHOT_TRIGGER (R417). -/
def execSnapshotTrigger (rq : Requester) (s : State) : Host.Outcome State Fault Refusal :=
  .next (s.request rq Obj.snapshotCommand (.num 1) none fun t => (t.snapTrigger 2, St.ok))

/-- The state with the arm set or cleared (R417). -/
def State.setArm (s : State) (b : Bool) : State := { s with control := { s.control with snapshotArmed := b } }

/-- SNAPSHOT_ARM (R417). -/
def execSnapshotArm (rq : Requester) (s : State) : Host.Outcome State Fault Refusal :=
  .next (s.request rq Obj.snapshotCommand (.num 2) none fun t => (t.setArm true, St.ok))

/-- SNAPSHOT_DISARM (R417). -/
def execSnapshotDisarm (rq : Requester) (s : State) : Host.Outcome State Fault Refusal :=
  .next (s.request rq Obj.snapshotCommand (.num 3) none fun t => (t.setArm false, St.ok))

/-- SNAPSHOT_UNLOCK (R418). -/
def execSnapshotUnlock (rq : Requester) (s : State) : Host.Outcome State Fault Refusal :=
  .next (s.request rq Obj.snapshotCommand (.num 4) none fun t =>
    ({ t with control := { t.control with snapshotReleased := true } }, St.ok))

/-- SNAPSHOT_ARM_FIRE (R417): the arm clears when it fires. -/
def execSnapshotArmFire (s : State) : Host.Outcome State Fault Refusal :=
  .next (if s.control.snapshotArmed then (s.setArm false).snapTrigger 3 else s)

/-! ### The persistent store (R420–R422) -/

/-- PERSIST_COMMIT_DELAY_EXPIRY (R422, R475): a commit starts when a P or H write is not covered by one. -/
def execPersistCommitDelayExpiry (s : State) : Host.Outcome State Fault Refusal :=
  .next (if s.control.uncoveredP || s.control.uncoveredH then s.beginCommit none else s)

/-- The persistent store can be reached: the domain of the hub's peripherals runs (R373). -/
def State.storeReachable (s : State) : Bool := s.num (Obj.domainState 7) != 3

/-- PERSIST_COMMIT (R422, R425): refused with ST_BUSY while a commit runs. -/
def execPersistCommit (rq : Requester) (s : State) : Host.Outcome State Fault Refusal :=
  .next (s.request rq Obj.persistCommand (.num 1) none fun t =>
    if t.control.commit.isSome || !t.storeReachable then (t.setNum Obj.persistCommandStatus St.busy, St.ok)
    else (t.beginCommit none, St.ok))

/-- Bytes of a record (R420): header, entries of Index, Sub, Length and value, digest and commit word. -/
def persistRecordSize (body : Map Val) : Nat := 64 + 64 + 16 + (body.map fun c => 5 + (encodeVal c.1 c.2).length).sum

/-- The commit word of a record is written (R420–R422, R408): who waits for it is answered, and a commit that came due follows. -/
def State.commitDone (s : State) (j : CommitJob) : State :=
  let c := s.control
  let s1 : State := { s with control := { c with
    commit := none, commitDue := false, dueAnswer := none
    store := Map.put {} c.store j.slot ⟨j.sequence, j.body, true⟩
    hoopStore := Map.put {} c.hoopStore j.slot ⟨j.sequence, j.hoopBody, true⟩ } }
  let s2 := (s1.setNum Obj.persistSequence j.sequence).setNum Obj.persistCommandStatus St.ok
  let s3 := ((s2.lower Obj.persistPending j.covers).bump 64 Obj.persistCommits 1).setNum Obj.persistRecordBytes (persistRecordSize j.body)
  let s4 := s3.vector 3
  let s5 := match j.answer with
    | some rq => s4.answer rq St.ok 0 0 []
    | none => s4
  if c.commitDue then s5.beginCommit c.dueAnswer else s5

/-- The slot of record n with the copies that are still usable, after slot i's device has failed (R422). -/
def State.failCopy (s : State) (d : Nat) : State :=
  s.setNum Obj.persistCopyState (setBit (s.num Obj.persistCopyState) d true)

/-- A slot write fails its read-back (R422): once more in the same slot, then the copy is failed and the write moves on; with no
copy left the commit ends. -/
def State.commitFailed (s : State) (j : CommitJob) : State :=
  if !j.retried then { s with control := { s.control with commit := some { j with retried := true } } }
  else
    let s1 := (s.failCopy (slotDevice j.slot)).raise Ev.persistFail { unit := slotDevice j.slot }
    match s1.slotFor j.sequence with
    | some slot => { s1 with control := { s1.control with
        commit := some { j with slot := slot, retried := false }
        store := Map.put {} s1.control.store slot ⟨j.sequence, [], false⟩ } }
    | none =>
      let s2 : State := { s1 with control := { s1.control with commit := none, commitDue := false, dueAnswer := none } }
      let s3 := (s2.setNum Obj.persistCommandStatus St.refusedNotReady).vector 3
      match j.answer with
      | some rq => s3.answer rq St.refusedNotReady 0 0 []
      | none => s3

/-- PERSIST_COMMIT_COMPLETE (R420, R422). -/
def execPersistCommitComplete (readBackOk : Bool) (s : State) : Host.Outcome State Fault Refusal :=
  .next (match s.control.commit with
    | none => s
    | some j => if readBackOk then s.commitDone j else s.commitFailed j)

end Sys2Proof.Machine
end

