-- ==== Sys2Proof/Machine/Framing.lean ====
section
/-! DEFINITION. The Sarsia frame: sending frames (R227–R239), alignment and receive of frames (R240, R245), defects (R242–R246),
membership (R247, R248) and the wale commands (R252). -/

namespace Sys2Proof.Machine

open Sys2Proof

/-! ### Sending -/

/-- A data segment leaves the module (R263, R264): its send time, and one transmission more. -/
def WaleTx.left (tx : WaleTx) (now : Nat) (x : OutSegment) : WaleTx :=
  { tx with outstanding := tx.outstanding.map fun y =>
      if x.counter = some y.counter then { y with sent := now, times := y.times + 1 } else y }

/-- The next fixed slot of a VC on a stake lane: control byte and data bytes (R237). A segment in progress on the lane goes
on; otherwise the oldest waiting segment of the VC starts, so each starts in the earliest slot of its VC. -/
def fixedSlot (tx : WaleTx) (now lane vc : Nat) : WaleTx × Nat × Bytes :=
  let key := 8 * lane + vc
  match Map.get [] tx.fixedRest key with
  | [] =>
    match tx.fixed.find? (fun c => c.vc == vc) with
    | none => (tx, 0x00, [])
    | some c =>
      ({ tx.left now c with fixed := tx.fixed.erase c, fixedRest := Map.put [] tx.fixedRest key (c.bytes.drop 510) }, 0x01,
        c.bytes.take 510)
  | r => ({ tx with fixedRest := Map.put [] tx.fixedRest key (r.drop 510) }, 0x02, r.take 510)

/-- Every fixed slot of one frame across the stake lanes, in order of slot start (R236, R237): key 32 × lane + slot. -/
def fixedSlots (tx : WaleTx) (now : Nat) (stakes : List (Nat × Role)) : WaleTx × Map (Nat × Bytes) :=
  (List.range 32).foldl (fun a slot =>
    stakes.foldl (fun (a : WaleTx × Map (Nat × Bytes)) m =>
      match m.2.slotVc slot with
      | none => a
      | some vc =>
        let r := fixedSlot a.1 now m.1 vc
        (r.1, Map.put (0, []) a.2 (32 * m.1 + slot) (r.2.1, r.2.2))) a) (tx, [])

/-- A unit of `cap` concatenated bytes after those of the segment in progress (R238): segments follow one another while there is room,
and the unit's SegmentPointer names the first that starts in it. -/
def fillUnit (cap now : Nat) (tx : WaleTx) (data : Bytes) (pointer : Option Nat) : List OutSegment → WaleTx × Bytes × Option Nat
  | [] => ({ tx with streamRest := [], stream := [] }, data, pointer)
  | b :: r =>
    if cap ≤ data.length then ({ tx with streamRest := [], stream := b :: r }, data, pointer)
    else
      let pointer' := some (pointer.getD data.length)
      let room := cap - data.length
      if b.bytes.length ≤ room then fillUnit cap now (tx.left now b) (data ++ b.bytes) pointer' r
      else ({ tx.left now b with streamRest := b.bytes.drop room, stream := r }, data ++ b.bytes.take room, pointer')

/-- The next unit of the concatenated stream for one member (R238). -/
def nextUnit (tx : WaleTx) (now cap : Nat) : WaleTx × Bytes × Option Nat :=
  if cap ≤ tx.streamRest.length then
    ({ tx with streamRest := tx.streamRest.drop cap }, tx.streamRest.take cap, none)
  else fillUnit cap now tx tx.streamRest none tx.stream

/-- Units of the lanes in the map, in ascending member order (R238). -/
def unitsOf (tx : WaleTx) (now : Nat) (lanes : List (Nat × Role)) : WaleTx × Map (Bytes × Option Nat) :=
  lanes.foldl (fun a m =>
    let r := nextUnit a.1 now (511 * m.2.concatenated.length)
    (r.1, Map.put ([], none) a.2 m.1 (r.2.1, r.2.2))) (tx, [])

/-- What a lane sends in a frame: its place in a wale, if any, and the contents of its slots. -/
structure FramePlan where
  lane : Nat := 0
  waleId : Nat := 0
  member : Nat := 0
  role : Role := .nonStake
  inWale : Bool := false
  map : Nat := 0
  counter : Nat := 0
  fixed : Map (Nat × Bytes) := []
  unit : Bytes := []
  pointer : Option Nat := none
deriving DecidableEq, Repr

/-- The lane trace (R232). -/
def State.traceOf (s : State) (k : Nat) (p : FramePlan) : Bytes :=
  let clear := s.num (Obj.lineLaneAlignState k) == 3 && s.num (Obj.lineLaneDefects k) % 256 == 0
  let seen := s.bytes (Obj.lineLaneRxTrace k)
  let body := beBytes 8 nodeIdentity ++ beBytes 2 (s.num Obj.fabricAddress) ++ beBytes 1 k ++
    beBytes 1 (s.num (Obj.lineLaneMode k)) ++ beBytes 3 p.waleId ++ beBytes 1 (if clear then 1 else 0) ++
    beBytes 4 (match s.waleOf k with
      | some w => s.rxDefects w
      | none => 0) ++
    (if seen = [] then beBytes 8 0 ++ beBytes 1 0xFF else seen.take 8 ++ slice seen 10 1) ++ beBytes 33 0
  body ++ beBytes 2 (crc16 body)

/-- Slot codes of a lane (R233). -/
def FramePlan.codes (p : FramePlan) (ais : Bool) : Bytes :=
  (List.range 32).map fun i =>
    BitVec.ofNat 8 (if ais then 0xFF else if p.inWale then slotCode (p.role.slotVc i) else 0x00)

/-- The 511 bytes of a slot before scrambling: data, then fill from the lane's generator (R231, R237). -/
def slotBytes (p : FramePlan) (fill : Nat) (slot : Nat) : Nat × Bytes :=
  match (if p.inWale then p.role.slotVc slot else none) with
  | some _ =>
    let c := Map.get (0, []) p.fixed (32 * p.lane + slot)
    let f := fillBytes (510 - c.2.length) fill
    (f.1, BitVec.ofNat 8 c.1 :: c.2 ++ f.2)
  | none =>
    let before := (p.role.concatenated.filter (· < slot)).length
    let d := if p.inWale then slice p.unit (511 * before) 511 else []
    let f := fillBytes (511 - d.length) fill
    (f.1, d ++ f.2)

/-- The trace and the slot codes that a frame takes its bytes from: taken anew where a trace or a multiframe starts, and by a lane that has
none yet (R232, R233). -/
def State.takeCodes (s : State) (k : Nat) (p : FramePlan) : LaneTx :=
  let x := (s.lane k).tx
  { x with
    trace := if p.counter % 8 = 0 ∨ x.trace.length ≠ 64 then s.traceOf k p else x.trace
    labels := if p.counter % 256 = 0 ∨ x.labels.length ≠ 32 then p.codes (x.ais != []) else x.labels }

/-- The 32 slots of a frame before scrambling, and the fill generator after them; under AIS no fill is sent (R231, R243). -/
def LaneTx.slots (x : LaneTx) (p : FramePlan) : Nat × Bytes :=
  if x.ais = [] then
    (List.range 32).foldl (fun (a : Nat × Bytes) i => let b := slotBytes p a.1 i; (b.1, a.2 ++ b.2)) (x.fill, [])
  else (x.fill, List.replicate 16352 0xFF)

/-- A frame joins the map period of its lane; after MapFrames of them the rest of the multiframe's payload is fill, and the multiframe
leaves coded (R253, R254). -/
def State.mapFrame (s : State) (k : Nat) (frame : Bytes) : State :=
  let x := s.lane k
  let mode := s.num (Obj.lineLaneMode k)
  let frames := x.tx.mapped ++ [frame]
  if frames.length < mapFrames mode then s.setLane k { x with tx := { x.tx with mapped := frames } }
  else
    let pad := genBits fillStep (Config.padBits mode) x.tx.fill
    (s.setLane k { x with tx := { x.tx with mapped := [], fill := pad.1 } }).emit (.coded k (Config.fecEncode mode frames pad.2))

/-- Build and send one frame of a lane (R227–R233, R239): overhead, slots, scrambler, BIP. -/
def State.sendFrame (s : State) (k : Nat) (p : FramePlan) : State :=
  let x := s.lane k
  let tx := s.takeCodes k p
  let pos := p.counter % 256
  let label : Byte := if pos < 32 then tx.labels.getD pos 0 else if pos = 32 then 0x01 else 0x00
  let status := (if s.sendsRdi k then 0x80 else 0) + (if tx.ais = [] then 0 else 0x40) + tx.bei
  let payload := tx.slots p
  let head := beBytes 2 p.counter ++ beBytes 3 p.waleId ++ beBytes 1 (p.role.bits + p.member) ++ beBytes 4 p.map ++
    beBytes 2 (p.pointer.getD 0xFFFF) ++ beBytes 2 tx.bip ++ beBytes 1 status ++ [label] ++
    slice tx.trace (8 * (p.counter % 8)) 8
  let body := scramble (head ++ beBytes 2 (crc16 head) ++ payload.2)
  let s1 := s.setLane k { x with
    tx := { tx with fill := payload.1, bip := bip16 body, bei := 0, counter := (p.counter + 1) % 65536 } }
  (s1.emit (.frame k (fas ++ body))).mapFrame k (fas ++ body)

/-- Resends of the outstanding segments so far (R263). -/
def WaleTx.resends (tx : WaleTx) : Nat := (tx.outstanding.map fun y => y.times - 1).sum

/-- The slots that the lanes of a wale send in one frame (R235–R238): the wale's transmit side after them, the fixed slots, the units. -/
def State.waleSlots (s : State) (w : Nat) : WaleTx × Map (Nat × Bytes) × Map (Bytes × Option Nat) :=
  let tx := (s.wale w).tx
  let stakes := ((s.waleLanes w).map fun k => (k, tx.roleOf k)).filter fun m => m.2 != .nonStake
  let rest := tx.fixedRest.filter fun c => stakes.any fun m => m.1 == c.1 / 8
  let fx := fixedSlots { tx with fixedRest := rest } s.now stakes
  let un := unitsOf fx.1 s.now ((s.mapLanes w).map fun k => (k, tx.roleOf k))
  ({ un.1 with counter := (un.1.counter + 1) % 65536 }, fx.2, un.2)

/-- Send one frame on every lane of a wale (R235–R238), after the changes of membership and stake lanes that it first carries: all lanes
carry the same counter, WaleId and map. -/
def State.sendWaleFrames (s0 : State) (w : Nat) : State :=
  let s := s0.applyFrameChanges w
  let v := s.wale w
  let sl := s.waleSlots w
  let s1 := (s.setWale w { v with tx := sl.1 }).bump 64 (Obj.repeatResends w) (sl.1.resends - v.tx.resends)
  s1.each (s.waleLanes w) fun t k =>
    if (t.lane k).tx.enabled then
      let u := Map.get ([], none) sl.2.2 k
      let p : FramePlan := {
        lane := k, waleId := s.num (Obj.waleIdentity w), member := t.memberIndex w k, role := v.tx.roleOf k, inWale := true,
        map := s.num (Obj.waleTxMap w), counter := v.tx.counter, fixed := sl.2.1, unit := u.1, pointer := u.2 }
      let used := (sl.2.1.filter fun c => c.1 / 32 == k && c.2.1 != 0).length
      let t1 := ((t.bump 64 (Obj.laneTxFixedSlots k) used).bump 64 (Obj.laneTxFixedCharge k) (511 * used)).bump 64
        (Obj.laneTxConcatBytes k) u.1.length
      let t2 := t1.sendFrame k p
      -- the stamp of a multiframe start on the timing lane is taken in TB3 (R358)
      if v.tx.counter % 256 = 0 then
        let x := t2.wale w
        if t2.timingLane w = some k then
          t2.setWale w { x with txStamps := ((v.tx.counter, t2.baseNs 3) :: x.txStamps).take 4096 }
        else t2
      else t2
    else t

/-- FRAME_TRANSMIT (R235): every enabled lane starts a frame; lanes in no wale send R239 frames. -/
def execFrameTransmit (s : State) : Host.Outcome State Fault Refusal :=
  let s1 := s.each ((List.range 32).filter fun w => s.num (Obj.waleState w) != 0) State.sendWaleFrames
  .next (s1.each ((List.range 32).filter fun k => (s.lane k).tx.enabled && (s.waleOf k).isNone) fun t k =>
    t.sendFrame k { lane := k, counter := (t.lane k).tx.counter })

/-! ### Rebuilding the stream (R245) -/

/-- The number after the segment accepted last, where the numbers lost in a break begin (R261). -/
def WaleRx.nextAfter (r : WaleRx) : Nat := if r.anyAccepted then (r.echoCounter + 1) % 2 ^ 32 else 0

/-- A break: the segment in progress is discarded, delineation waits for a pointer (R245). What the Request list needs of it is kept until
the next concatenated segment is checked; a break that follows another with none between loses no more than that one (R261). -/
def brokenRx (r : WaleRx) : WaleRx :=
  let n := r.delineated.length
  let apart := match r.breakMarks.getLast? with
    | some m => (r.delineated.drop m.1).any fun x => !x.fixedSlot
    | none => true
  { r with
    partialSegment := [], partialFlags := [], sure := false, synced := false, breaks := r.breaks + 1
    breakMarks := if apart then r.breakMarks ++ [(n, if n = 0 then some r.nextAfter else none)] else r.breakMarks }

/-- WaleStreamBreaks counts the breaks met (R245). -/
def State.countBreaks (s : State) (w : Nat) : State :=
  let v := s.wale w
  (s.setWale w { v with rx := { v.rx with breaks := 0 } }).bump 64 (Obj.waleStreamBreaks w) v.rx.breaks

/-- Length of a whole segment whose first bytes are `b`: header, payload and tag (R256). -/
def segmentLength (b : Bytes) : Nat := 32 + beNat (slice b 12 2) % 32768 + 16

/-- A data segment of VC1 or VC2, the only ones with an EpochTag (R256). -/
def taggedVc (h : Bytes) : Bool :=
  let c := (h.getD 0 0).toNat
  !c.testBit 5 && (c % 8 == 1 || c % 8 == 2)

/-- Row 2 of R257: Version 1, Vc at most 4, reserved fields 0 (Control, GroupId of VC1 and VC2 data, R256), EpochTag 0 outside VC1 and
VC2 data, Length at most 16,384 and at least 1 for data, and a Session that is not reserved (R273). -/
def validHeader (h : Bytes) : Bool :=
  let c := (h.getD 0 0).toNat
  let len := beNat (slice h 12 2)
  h.length == 32 && c / 64 == 1 && decide (c % 8 ≤ 4) && c / 8 % 4 == 0 &&
  (if taggedVc h then decide (beNat (slice h 28 2) < 4096) else (h.getD 3 0) == 0) &&
  decide (len ≤ 16384) && (c.testBit 5 || decide (1 ≤ len)) && decide ((h.getD 2 0).toNat ≤ 32)

/-- Cut a whole segment out of its bytes (R256), with the offsets that carry an FEC flag. -/
def cutSegment (b : Bytes) (flags : List Nat) (fixedSlot : Bool) : RxSegment :=
  ⟨b.take 32, slice b 32 (b.length - 48), b.drop (b.length - 16), flags.any (· < 32), flags.any (fun f => decide (32 ≤ f)),
    fixedSlot⟩

/-- Delineate concatenated bytes (R238, R245): segments follow one another until the fill that ends the unit. A header that carries an FEC
flag, or that stands where a SegmentPointer said and is not valid, is handed on and breaks the stream (R257); bytes after a segment that
form no valid header are fill (log entry 14). -/
def delineate : Nat → WaleRx → Bytes → List Nat → WaleRx
  | 0, r, _, _ => r
  | fuel + 1, r, b, flags =>
    let all := r.partialSegment ++ b
    let allFlags := r.partialFlags ++ flags.map (· + r.partialSegment.length)
    if b = [] then r
    else if all.length < 32 then { r with partialSegment := all, partialFlags := allFlags }
    else if allFlags.any (· < 32) ∨ (r.sure ∧ !validHeader (all.take 32)) then
      brokenRx { r with delineated := r.delineated ++ [cutSegment (all.take 48) allFlags false] }
    else if !validHeader (all.take 32) then { r with partialSegment := [], partialFlags := [] }
    else
      let n := segmentLength all
      if all.length < n then { r with partialSegment := all, partialFlags := allFlags, sure := true }
      else
        let seg := cutSegment (all.take n) (allFlags.filter (· < n)) false
        delineate fuel { r with
          partialSegment := [], partialFlags := [], sure := false, delineated := r.delineated ++ [seg] } (all.drop n)
          ((allFlags.filter (n ≤ ·)).map (· - n))

/-- Delineation of a unit from an offset on. -/
def delineateFrom (r : WaleRx) (u : HeldUnit) (p : Nat) : WaleRx :=
  delineate 600 r (u.bytes.drop p) ((u.flags.filter (p ≤ ·)).map (· - p))

/-- A unit in which no segment is in progress (R238, R245): its pointer names the first segment; one whose overhead failed R229 is a
break. -/
def startUnit (r : WaleRx) (u : HeldUnit) : WaleRx :=
  match u.pointer with
  | some p =>
    if p = 0xFFFF then { r with partialSegment := [], partialFlags := [] }
    else delineateFrom { r with synced := true, partialSegment := [], partialFlags := [], sure := true } u p
  | none => brokenRx r

/-- The bytes that end the last unit after a segment, with those of this unit, form no header: they were fill (R238). -/
def restIsFill (r : WaleRx) (u : HeldUnit) : Bool :=
  let n := r.partialSegment.length
  decide (n < 32) && !r.sure && r.partialFlags == [] && !(u.flags.any fun f => decide (f + n < 32)) &&
    !validHeader ((r.partialSegment ++ u.bytes).take 32)

/-- Append one unit to the stream (R245). -/
def appendUnit (r : WaleRx) (u : HeldUnit) : WaleRx :=
  if r.synced && r.partialSegment != [] && !restIsFill r u then delineateFrom r u 0 else startUnit r u

/-- map(f): the MemberMap of any unit of the frame that passed R229, otherwise map(f − 1) (R245). -/
def mapOfFrame (r : WaleRx) (units : List HeldUnit) : Nat := (units.findSome? HeldUnit.map).getD r.lastMap

/-- Frame f is lost on lane k: the lane has received a later one (R244, OOF). -/
def State.lostFrame (s : State) (k f : Nat) : Bool :=
  let d := ((s.lane k).rx.counter + 65536 - f) % 65536
  decide (0 < d ∧ d < 32768)

/-- Every member of map(f) has delivered its unit or is absent (R244, R245). -/
def State.frameComplete (s : State) (w f : Nat) (r : WaleRx) (units : List HeldUnit) : Bool :=
  (bitList 32 (mapOfFrame r units)).all fun i => units.any (fun u => u.member == i) ||
    ((s.waleLanes w).filter fun k => s.peerMember k == some i).all fun k => s.reportsDefect k || s.lostFrame k f

/-- Append the units of one frame in ascending member index; a missing unit is a break (R245). -/
def appendFrame (r : WaleRx) (units : List HeldUnit) : WaleRx :=
  (bitList 32 (mapOfFrame r units)).foldl (fun a i => match units.find? (fun u => u.member == i) with
    | some u => appendUnit a u
    | none => brokenRx a) { r with lastMap := mapOfFrame r units }

/-- Take every frame that is complete, in order of its counter, while units wait (R245). A unit that the skew buffer cannot return is
missing: its segments are lost, and the repeat layer requests them (R184, R261; log entry 136). -/
def State.drainFrames : Nat → State → Nat → State
  | 0, s, _ => s
  | fuel + 1, s, w =>
    let v := s.wale w
    match v.rx.nextFrame with
    | none => s
    | some f =>
      let units := Map.get [] v.rx.units f
      if v.rx.units = [] ∨ !s.frameComplete w f v.rx units then s
      else
        let lines (u : HeldUnit) : List Nat := s.regionBad .skewBuffer u.lane f u.bytes.length
        let r := appendFrame v.rx (units.filter fun u => lines u == [])
        let rx := { r with units := Map.put [] r.units f [], nextFrame := some ((f + 1) % 65536) }
        let s1 := (s.noteBadLines (units.flatMap lines)).setWale w { v with rx := rx }
        drainFrames fuel (s1.countBreaks w) w

/-- A member of a wale has become absent (R244): frames wait for it no longer. Where no lane of the wale delivers any more, the stream
begins anew with the next unit. -/
def State.memberAbsent (s : State) (w : Nat) : State :=
  let s1 := s.drainFrames 65536 w
  if (s1.waleLanes w).all s1.reportsDefect then
    let v := s1.wale w
    s1.setWale w { v with rx := { v.rx with nextFrame := none, latest := none, firsts := [] } }
  else s1

/-! ### Alignment (R240) -/

/-- Set the align state of a lane and its count of errored patterns. -/
def State.setAlign (s : State) (k st e : Nat) : State :=
  let x := s.lane k
  (s.setLane k { x with rx := { x.rx with errored := e } }).setNum (Obj.lineLaneAlignState k) st

/-- What a receiver that hunts forgets: the frames, traces, multiframes and runs in progress, which the frames to come do not follow
(R230, R232, R233, R243). -/
def LaneRx.lose (r : LaneRx) : LaneRx :=
  { r with
    bipKnown := false, trace := [], traceOk := false, traceCounts := false, counted := [], labels := [], labelPrev := []
    prevMf := none, role0Mf := none, aisSet := 0, aisClear := 0, rdiSet := 0, rdiClear := 0, timBad := 0, timGood := 0
    idBad := 0, idGood := 0, plmBad := 0, plmGood := 0 }

/-- The lane hunts (R240). -/
def State.hunt (s : State) (k : Nat) : State :=
  let x := s.lane k
  (s.setLane k { x with rx := x.rx.lose }).setAlign k 0 0

/-- Declare OOF: the lane hunts (R240). -/
def State.declareOof (s : State) (k : Nat) : State :=
  ((s.hunt k).setDefect k .oof true).bump 32 (Obj.lineLaneOofCount k) 1

/-- One row of the alignment table for a pattern that is `good` (all 48 bits, at a mark) or has Fas away from a mark
(R240). -/
def State.align (s : State) (k : Nat) (found mark : Bool) : State :=
  let good := found && mark
  match s.num (Obj.lineLaneAlignState k) with
  | 0 =>
    if good then s.setAlign k 1 0
    else if found then s.bump 32 (Obj.lineLanePositionMismatch k) 1
    else s
  | 1 => if good then s.setAlign k 2 0 else s.hunt k
  | 2 => if good then (s.setAlign k 3 0).setDefect k .oof (s.hasDefect k .los) else s.hunt k
  | _ =>
    let e := (s.lane k).rx.errored
    if good then s.setAlign k 3 0
    else if e < 4 then s.setAlign k 3 (e + 1)
    else s.declareOof k

/-- A frame that comes in Presync: its parity is what the next frame's Bip is held against (R230). -/
def State.presyncFrame (s : State) (k : Nat) (line : Bytes) : State :=
  let x := s.lane k
  s.setLane k { x with rx := { x.rx with bip := bip16 (line.drop 6), bipKnown := true } }

/-! ### Defects of received frames (R243) -/

/-- Run lengths of a condition over frames: how many in a row hold, and how many do not. -/
def runs (holds : Bool) (yes no : Nat) : Nat × Nat := if holds then (yes + 1, 0) else (0, no + 1)

/-- A defect is declared: the bit, its event, the lane leaves the map where R247 says so, and, but for RDI, its member is absent from the
wale's receive (R243, R244). -/
def State.declareDefect (s : State) (k : Nat) (d : Defect) (code : Nat) (leaves : Bool) : State :=
  if s.hasDefect k d then s
  else
    let s1 := (s.setDefect k d true).raise code { die := 19 + k / 16, unit := k }
    let s2 := if leaves then s1.laneLeaves k else s1
    if d = .rdi then s2
    else match s2.waleOf k with
      | some w => s2.memberAbsent w
      | none => s2

/-- A run of `need` declares the defect, a run of `clear` clears it. -/
def State.judgeDefect (s : State) (k : Nat) (d : Defect) (code yes no need clear : Nat) (leaves : Bool) : State :=
  if need ≤ yes then s.declareDefect k d code leaves
  else if clear ≤ no ∧ s.hasDefect k d then s.setDefect k d false
  else s

/-- The wale's other lanes that carry the same received MemberIndex (R243, TIM). -/
def State.duplicateMember (s : State) (w k : Nat) : Bool :=
  (s.waleLanes w).any fun j => j != k && (s.peerMember k).isSome && s.peerMember j == s.peerMember k &&
    s.num (Obj.lineLaneAlignState j) == 3

/-- A valid trace differs from the configuration (R243). -/
def State.traceDiffers (s : State) (w k : Nat) (trace : Bytes) : Bool :=
  (s.num (Obj.walePeerNode w) != 0 && beNat (slice trace 0 8) != s.num (Obj.walePeerNode w)) ||
  beNat (slice trace 12 3) != s.num (Obj.waleIdentity w) || beNat (slice trace 11 1) != s.num (Obj.lineLaneMode k)

/-- The members whose bits a trace sets in WaleRxDefects leave the map (R247). -/
def State.reportedMembers (s : State) (w : Nat) (trace : Bytes) : State :=
  s.each ((bitList 32 (beNat (slice trace 16 4))).filterMap (s.memberLane w)) State.laneLeaves

/-- A valid trace of the peer (R232): kept; judged for TIM while neither LOS nor LOF holds; and, when it counts, its WaleRxDefects take
members out of the map (R247). -/
def State.traceReceived (s : State) (k : Nat) (trace : Bytes) (counts clean : Bool) : State :=
  let s1 := s.setBytes (Obj.lineLaneRxTrace k) trace
  let x := s1.lane k
  let s2 := if counts then s1.setLane k { x with rx := { x.rx with counted := trace } } else s1
  match s.waleOf k with
  | none => s2
  | some w =>
    let y := s2.lane k
    let r := runs (s2.traceDiffers w k trace) y.rx.timBad y.rx.timGood
    let s3 := s2.setLane k { y with rx := { y.rx with timBad := r.1, timGood := r.2 } }
    let s4 := if !clean then s2
      else if 3 ≤ r.1 then s3.declareDefect k .tim Ev.lineTim true
      else if 3 ≤ r.2 ∧ 3 ≤ y.rx.idGood ∧ s3.hasDefect k .tim ∧ !s3.duplicateMember w k then s3.setDefect k .tim false
      else s3
    if counts then s4.reportedMembers w trace else s4

/-- An accepted label against the slot use that the position-0 Member byte implies (R243, PLM). -/
def labelAgrees (label : Bytes) (member : Nat) : Bool :=
  label.take 32 == (List.range 32).map (fun i => BitVec.ofNat 8 (slotCode ((roleOf member).slotVc i))) &&
  label.getD 32 0 == 0x01

/-- The label byte of a frame that passed R229, at position p of multiframe m (R233): the 33 bytes of a multiframe are a label, and the
same label in two consecutive multiframes is accepted. -/
def State.labelReceived (s : State) (k m p : Nat) (b : Byte) : State :=
  let x := s.lane k
  let r := x.rx
  let labels := if p = 0 then [b] else if 33 ≤ p then r.labels
    else if r.labels.length = p ∧ r.labelMf = m then r.labels ++ [b] else []
  let r1 : LaneRx := { r with
    labels := labels, labelMf := if p < 33 then m else r.labelMf, role0 := if p = 0 then r.member else r.role0
    role0Mf := if p = 0 then some m else r.role0Mf }
  if p ≠ 32 ∨ labels.length ≠ 33 then s.setLane k { x with rx := r1 }
  else
    let s1 := s.setLane k { x with rx := { r1 with labelPrev := labels, prevMf := some m } }
    if labels = r.labelPrev ∧ r.prevMf = some ((m + 255) % 256) then s1.setBytes (Obj.lineLaneRxLabel k) labels else s1

/-- PLM is judged once for each multiframe m, at position 32 (R243): the accepted label against the Member byte at position 0. A
multiframe whose position-0 frame failed R229 says nothing, so the runs begin anew (log entry 158). -/
def State.judgeLabel (s : State) (k m : Nat) : State :=
  let x := s.lane k
  let accepted := s.bytes (Obj.lineLaneRxLabel k)
  if x.rx.role0Mf ≠ some m then s.setLane k { x with rx := { x.rx with plmBad := 0, plmGood := 0 } }
  else
    let bad := accepted != [] && (s.waleOf k).isSome && !labelAgrees accepted x.rx.role0
    let r := runs bad x.rx.plmBad x.rx.plmGood
    let s1 := s.setLane k { x with rx := { x.rx with plmBad := r.1, plmGood := r.2 } }
    s1.judgeDefect k .plm Ev.linePlm r.1 r.2 3 2 true

/-! ### Units (R245, R246) -/

/-- WaleSkewMax: the largest skew among the members present (R246). -/
def State.noteSkew (s : State) (w k : Nat) (skew : Nat) : State :=
  let s1 := s.setInt (Obj.lineLaneSkew k) skew
  let all := ((s1.waleLanes w).filter fun j => !s1.absentRx j).map fun j => (s1.int (Obj.lineLaneSkew j)).toNat
  s1.setNum (Obj.waleSkewMax w) (all.foldl max 0)

/-- Half the MemberFrameCounter cycle of a lane mode in nanoseconds (R227): counters are compared modulo 2^16, so a larger difference
cannot be resolved (R246). -/
def halfCycle (mode : Nat) : Nat := if mode = 0 then 10737418 else if mode = 1 then 14316557 else 21474836

/-- Frame f has arrived on lane k (R246): the skew against the first unit of the frame. A unit that is not late, of a member that is present,
is the first where none is known; a late one whose difference cannot be resolved is SKEW. -/
def State.noteArrival (s : State) (w k f : Nat) (late : Bool) : State :=
  let v := s.wale w
  let t := Map.get 0 v.rx.firsts f
  if t ≠ 0 ∧ s.now + 1 - t < halfCycle (s.num (Obj.lineLaneMode k)) then s.noteSkew w k (s.now + 1 - t)
  else if s.absentRx k then s
  else if late then s.declareDefect k .skew Ev.waleSkewExceeded false
  else (s.setWale w { v with rx := { v.rx with firsts := Map.put 0 v.rx.firsts f (s.now + 1) } }).noteSkew w k 0

/-- A unit arrives (R245, R246): one for a frame already taken, or of an absent member, is discarded. -/
def State.unitArrives (s : State) (w f : Nat) (u : HeldUnit) : State :=
  let next := (s.wale w).rx.nextFrame.getD f
  let late := decide (32768 ≤ (f + 65536 - next) % 65536)
  let s1 := s.noteArrival w u.lane f late
  if late ∨ s.absentRx u.lane then s1
  else
    let s2 := s1.clearLines (s1.regionLines .skewBuffer u.lane f u.bytes.length)
    let v := s2.wale w
    let rx := { v.rx with units := Map.put [] v.rx.units f (Map.get [] v.rx.units f ++ [u]), nextFrame := some next }
    (s2.setWale w { v with rx := rx }).drainFrames 65536 w

/-- A fixed slot arrives: delivered as soon as its frame is received (R237, R245); a segment in progress goes on only in a
slot with control byte 0x02, and a header that is flagged or invalid ends it (R257). -/
def State.fixedArrives (s : State) (w k vc : Nat) (b : Bytes) (flags : List Nat) : State :=
  let v := s.wale w
  let key := 8 * k + vc
  let control := (b.getD 0 0).toNat
  let old := Map.get ([], []) v.rx.partialFixed key
  if control = 0x01 ∨ (control = 0x02 ∧ old.1 ≠ []) then
    let base := if control = 0x01 then ([], []) else old
    let all := base.1 ++ b.drop 1
    let allFlags := base.2 ++ (flags.filter (1 ≤ ·)).map (· - 1 + base.1.length)
    let bad := allFlags.any (· < 32) || !validHeader (all.take 32)
    let n := if bad then min 48 all.length else segmentLength all
    if all.length < n then
      s.setWale w { v with rx := { v.rx with partialFixed := Map.put ([], []) v.rx.partialFixed key (all, allFlags) } }
    else
      let seg := cutSegment (all.take n) (allFlags.filter (· < n)) true
      s.setWale w { v with rx := { v.rx with
        partialFixed := Map.put ([], []) v.rx.partialFixed key ([], []), delineated := v.rx.delineated ++ [seg] } }
  else s

/-- The slots of a frame received InFrame on a lane of a wale: fixed slots at once, the concatenated ones as the member's
unit (R236, R245). -/
def State.slotsReceived (s : State) (w k : Nat) (body : Bytes) (pass : Bool) (flagged : List Nat) : State :=
  let x := s.lane k
  let role := roleOf x.rx.member
  let slotOf (i : Nat) : Bytes := slice body (26 + 511 * i) 511
  let flagsIn (i : Nat) : List Nat :=
    (flagged.filter fun f => decide (32 + 511 * i ≤ f ∧ f < 543 + 511 * i)).map (· - (32 + 511 * i))
  let s1 := s.each ((List.range 32).filter fun i => (role.slotVc i).isSome) fun t i =>
    match role.slotVc i with
    | some vc => t.fixedArrives w k vc (slotOf i) (flagsIn i)
    | none => t
  let slots := role.concatenated
  let flags := (List.range slots.length).flatMap fun j => (flagsIn (slots.getD j 0)).map (· + 511 * j)
  s1.unitArrives w x.rx.counter ⟨x.rx.member % 32, k, slots.flatMap slotOf,
    if pass then some (beNat (slice body 10 2)) else none, if pass then some (beNat (slice body 6 4)) else none, flags⟩

/-- WaleRxStakes from the roles that the lanes InFrame receive (R252). -/
def State.noteRxStakes (s : State) (w : Nat) : State :=
  let roles := ((s.waleLanes w).filter fun k => (s.lane k).rx.known && s.num (Obj.lineLaneAlignState k) == 3).map fun k =>
    ((s.lane k).rx.member % 32, Sys2Proof.Machine.roleOf (s.lane k).rx.member)
  let onPlan (planB : Bool) : Option (Nat × Role) := roles.find? fun r => r.2 == .stake planB false || r.2 == .stake planB true
  let shields (r : Option (Nat × Role)) : Bool := r.any fun x => x.2 == .stake false true || x.2 == .stake true true
  s.setNum (Obj.waleRxStakes w) (stakeWord ((onPlan false).map Prod.fst) ((onPlan true).map Prod.fst)
    (shields (onPlan false) || shields (onPlan true)))

/-- WaleRxMap from the latest frame received that passed R229 (R252). -/
def State.noteRxMap (s : State) (w counter map : Nat) : State :=
  let v := s.wale w
  if v.rx.latest.any fun l => decide (32768 ≤ (counter + 65536 - l) % 65536) then s
  else (s.setWale w { v with rx := { v.rx with latest := some counter } }).setNum (Obj.waleRxMap w) map

/-! ### A frame InFrame (R229–R233) -/

/-- AIS and RDI in the Status byte, and WaleId, of a frame that passed R229, while neither LOS nor LOF holds (R243). -/
def State.statusReceived (s : State) (k status waleId : Nat) : State :=
  let y := s.lane k
  let a := runs (status.testBit 6) y.rx.aisSet y.rx.aisClear
  let d := runs (status.testBit 7) y.rx.rdiSet y.rx.rdiClear
  let i := runs ((s.waleOf k).any fun w => waleId != s.num (Obj.waleIdentity w)) y.rx.idBad y.rx.idGood
  let t := s.setLane k { y with
    rx := { y.rx with aisSet := a.1, aisClear := a.2, rdiSet := d.1, rdiClear := d.2, idBad := i.1, idGood := i.2 } }
  let t1 := (t.judgeDefect k .ais Ev.lineAis a.1 a.2 3 3 false).judgeDefect k .rdi Ev.lineRdi d.1 d.2 3 3 true
  match t1.waleOf k with
  | some w => if 3 ≤ i.1 ∨ t1.duplicateMember w k then t1.declareDefect k .tim Ev.lineTim true else t1
  | none => t1

/-- The eight Channel bytes of a frame (R232): a trace is valid when its eight frames follow one another, passed R229 and its CRC checks; it
counts when the lane was free of LOS, LOF and TIM for all of them. -/
def State.channelReceived (s : State) (k : Nat) (piece : Bytes) (pass follows clean : Bool) : State :=
  let y := s.lane k
  let n := y.rx.counter % 8
  let goesOn := follows && y.rx.trace.length == 8 * n
  let good := clean && !s.hasDefect k .tim
  let trace := if n = 0 then piece else if goesOn then y.rx.trace ++ piece else []
  let ok := pass && (n == 0 || (goesOn && y.rx.traceOk))
  let counts := good && (n == 0 || (goesOn && y.rx.traceCounts))
  let s1 := s.setLane k { y with rx := { y.rx with trace := trace, traceOk := ok, traceCounts := counts } }
  if n = 7 ∧ ok ∧ trace.length = 64 ∧ crc16 (trace.take 62) = beNat (trace.drop 62) then s1.traceReceived k trace counts clean
  else s1

/-- A frame received InFrame (R229–R233, R243, R245). -/
def State.frameReceived (s : State) (k : Nat) (line : Bytes) (flagged : List Nat) : State :=
  let body := scramble (line.drop 6)
  let head := body.take 24
  let pass := crc16 head == beNat (slice body 24 2)
  let x := s.lane k
  let next := (x.rx.counter + 1) % 65536
  let counter := if pass then beNat (slice body 0 2) else next
  let member := if pass then beNat (slice body 5 1) else x.rx.member
  let wrong := if pass && x.rx.bipKnown then popCount 16 (x.rx.bip ^^^ beNat (slice body 12 2)) else 0
  let status := beNat (slice body 14 1)
  let s1 := s.setLane k { x with
    rx := { x.rx with
      counter := counter, member := member, known := x.rx.known || pass, bip := bip16 (line.drop 6), bipKnown := true },
    tx := { x.tx with bei := if pass && x.rx.bipKnown then wrong else x.tx.bei } }
  let s2 := (s1.bump 64 (Obj.lineLaneBipErrors k) wrong).bump 64 (Obj.lineLaneFarEndErrors k) (if pass then status % 32 else 0)
  let s3 := if pass then s2 else s2.bump 64 (Obj.lineLaneCrcErrors k) 1
  let clean := !s3.hasDefect k .los && !s3.hasDefect k .lof
  let s4 := if pass && clean then s3.statusReceived k status (beNat (slice body 2 3)) else s3
  let s5 := s4.channelReceived k (slice body 16 8) pass (counter == next) clean
  let s6 := if pass && clean then s5.labelReceived k (counter / 256) (counter % 256) (body.getD 15 0) else s5
  let s7 := if clean && counter % 256 == 32 then s6.judgeLabel k (counter / 256) else s6
  match s7.waleOf k with
  | some w =>
    let s8 := if counter % 256 = 0 ∧ s7.timingLane w = some k then
        let v := s7.wale w
        s7.setWale w { v with rxStamps := ((counter, s7.baseNs 3) :: v.rxStamps).take 4096 }
      else s7
    let s9 := if pass then s8.noteRxMap w counter (beNat (slice body 6 4)) else s8
    (s9.noteRxStakes w).slotsReceived w k body pass flagged
  | none => s7

/-- SARSIA_FRAME_RECEIVED (R240, R243, R245): alignment at this position, where the byte carries a frame-start mark only while the FEC is
locked (R254); then, InFrame, the frame's contents. -/
def execSarsiaFrameReceived (k : Lane) (mark : Bool) (line : Bytes) (flagged : List Nat) (s : State) :
    Host.Outcome State Fault Refusal :=
  if s.hasDefect k .los then .next s
  else
    let s1 := s.align k (line.take 6 == fas) (mark && s.flag (Obj.lineFecLocked k))
    .next (match s1.num (Obj.lineLaneAlignState k) with
      | 0 => s1
      | 3 => s1.frameReceived k line flagged
      | _ => s1.presyncFrame k line)

/-! ### Defect timers (R242, R246) -/

/-- LOS_DECLARE (R242): the input was bad for 100 µs. OOF is held and the lane hunts (R240); the member leaves the map (R247). -/
def execLosDeclare (k : Lane) (s : State) : Host.Outcome State Fault Refusal :=
  let x := s.lane k
  if x.rx.losState = 1 then .next s
  else
    let s1 := ((s.setLane k { x with rx := { x.rx with losState := 1 } }).hunt k).setDefect k .oof true
    .next ((s1.setDefect k .lof false).declareDefect k .los Ev.lineLos true)

/-- LOS_CLEAR (R242): the input was good for 1 ms, which it cannot be without a local oscillator (R297). Automatic power
reduction ends (R305). -/
def execLosClear (k : Lane) (s : State) : Host.Outcome State Fault Refusal :=
  let x := s.lane k
  if x.rx.losState = 1 ∧ s.hasOscillator k then
    let s1 := (s.setLane k { x with rx := { x.rx with losState := 0 } }).setDefect k .los false
    .next ((s1.setOptic k { s1.optic k with apr := false }).settleLane k)
  else .next s

/-- LOF_DECLARE (R242): OOF for 3 ms. -/
def execLofDeclare (k : Lane) (s : State) : Host.Outcome State Fault Refusal :=
  let x := s.lane k
  if x.rx.losState = 0 ∧ s.hasDefect k .oof then
    .next ((s.setLane k { x with rx := { x.rx with losState := 2 } }).declareDefect k .lof Ev.lineLof true)
  else .next s

/-- LOF_CLEAR (R242): InFrame for 3 ms. -/
def execLofClear (k : Lane) (s : State) : Host.Outcome State Fault Refusal :=
  let x := s.lane k
  if x.rx.losState = 2 ∧ s.num (Obj.lineLaneAlignState k) = 3 then
    .next ((s.setLane k { x with rx := { x.rx with losState := 0 } }).setDefect k .lof false)
  else .next s

/-- SKEW_DECLARE (R246): the member's unit is later than LineSkewLimit; the frames that waited for it go on (R244, R245). -/
def execSkewDeclare (k : Lane) (s : State) : Host.Outcome State Fault Refusal :=
  if (s.waleOf k).isSome ∧ s.num (Obj.lineLaneAlignState k) = 3 ∧ !s.hasDefect k .los ∧ !s.hasDefect k .lof then
    .next (s.declareDefect k .skew Ev.waleSkewExceeded false)
  else .next s

/-- SKEW_CLEAR (R246): the skew stayed below LineSkewLimit − 100 µs for WaleRejoinHold, and so does the last one measured. -/
def execSkewClear (k : Lane) (s : State) : Host.Outcome State Fault Refusal :=
  if s.hasDefect k .skew ∧ (s.int (Obj.lineLaneSkew k)).toNat + 100000 < 1000 * s.num Obj.lineSkewLimit then
    .next (s.setDefect k .skew false)
  else .next s

/-! ### Membership (R247, R248) -/

/-- The conditions under which a member may be in the map (R247): its own receive free of LOS, LOF, TIM, PLM; no RDI; the last trace that
counted on the lane since it was last InFrame joinable; this member's bit clear in the last such trace of every lane of the wale; the
lane drives an end and sends no AIS. -/
def State.mayJoin (s : State) (w k : Nat) : Bool :=
  let t := (s.lane k).rx.counted
  !s.sendsRdi k && !s.hasDefect k .rdi && !s.hasDefect k .aisSent && (s.lane k).tx.enabled && t != [] &&
  bitAt (beNat (slice t 15 1)) 0 && (s.waleLanes w).all fun j => !bitAt (beNat (slice (s.lane j).rx.counted 16 4)) (s.memberIndex w k)

/-- MEMBER_REJOIN (R247): every condition held for WaleRejoinHold and the member enters the transmit map. -/
def execMemberRejoin (k : Lane) (s : State) : Host.Outcome State Fault Refusal :=
  match s.waleOf k with
  | none => .next s
  | some w => if s.mayJoin w k then .next (s.enterMap w k) else .next s

/-- The lanes that may take a free plan (R248): in the map for WaleRejoinHold, no stake lane. -/
def State.restorable (s : State) (w : Nat) : List Nat :=
  let tx := (s.wale w).tx
  (s.mapLanes w).filter fun k => tx.roleOf k == .nonStake &&
    decide (Map.get 0 tx.memberSince k + 1000000 * s.num (Obj.waleRejoinHold w) ≤ s.now)

/-- STAKE_RESTORE (R248): one stake lane with Protection, and lane k's member is the lowest that has been in the map for
WaleRejoinHold: it takes the free plan, and the survivor clears Protection, with the next frame. -/
def execStakeRestore (k : Lane) (s : State) : Host.Outcome State Fault Refusal :=
  match s.waleOf k with
  | none => .next s
  | some w =>
    let v := s.wale w
    if v.tx.protection ∧ (s.restorable w).head? = some k.val then
      .next (s.setWale w { v with tx := { v.tx with restore := some k.val } })
    else .next s

/-! ### Wale commands (R252) -/

/-- RepeatShareBytes: one share for each configured lane and each removed lane whose share is not yet returned (R270). -/
def State.setShares (s : State) (w : Nat) : State :=
  s.setNum (Obj.repeatShareBytes w)
    (((s.waleLanes w).length + (s.wale w).tx.unreturned.length) * s.num Obj.repeatLaneShareBytes)

/-- A share of the lane is still held by some wale that it was removed from (R252). -/
def State.shareHeld (s : State) (k : Nat) : Bool := (List.range 32).any fun w => (s.wale w).tx.unreturned.contains k

/-- Lane k takes its place in a wale: it takes up the wale's counter (R235), and what the wale judges by begins anew. -/
def State.bindLane (s : State) (w k : Nat) : State :=
  let x := s.lane k
  (s.setLane k { x with rx := { x.rx with
    timBad := 0, timGood := 0, idBad := 0, idGood := 0, plmBad := 0, plmGood := 0, known := false, counted := [] } }).setNum
    (Obj.lineLaneWale k) w

/-- MemberIndex of every lane of a wale (R234). -/
def State.setIndexes (s : State) (w : Nat) : State :=
  s.each (s.waleLanes w) fun t k => t.setNum (Obj.lineLaneMemberIndex k) (t.memberIndex w k)

/-- Member indices have moved: the transmit map and WaleTxStakes follow their lanes (R234, R252). -/
def State.setMap (s : State) (w : Nat) (lanes : List Nat) : State :=
  (s.setNum (Obj.waleTxMap w) (lanes.foldl (fun m j => setBit m (s.memberIndex w j) true) 0)).noteStakes w

/-- The configured lanes break R234: none, several lane modes, or a lane whose end is dark. -/
def State.breaksR234 (s : State) (lanes : List Nat) : Bool :=
  match lanes with
  | [] => true
  | k :: r => r.any (fun j => s.num (Obj.lineLaneMode j) != s.num (Obj.lineLaneMode k)) ||
      lanes.any fun j => s.num (Obj.lineLaneEnd j) == 0

/-- A wale that begins anew: segments that were accepted ahead of their group's epoch are still held (R260). -/
def WaleState.fresh (v : WaleState) : WaleState := { rx := { early := v.rx.early } }

/-- Form a wale from its configured lanes (R252, R265). -/
def State.formWale (s : State) (w : Nat) : State :=
  let s1 := s.each (s.waleLanes w) fun t k => t.bindLane w k
  let s2 := s1.setWale w (s1.wale w).fresh
  let s3 := ((s2.setIndexes w).setNum (Obj.waleState w) 1).setNum (Obj.repeatState w) 1
  let s4 := (((s3.setNum (Obj.waleTxMap w) 0).setNum (Obj.waleTxStakes w) 0xFFFF).setNum (Obj.waleRxStakes w) 0xFFFF)
  (s4.clearRepeat w).setShares w |>.countWales

/-- The wale is not one that auto-bonding formed (R326). -/
def State.notAuto (s : State) (w : Nat) : State :=
  { s with net := { s.net with autoWales := s.net.autoWales.filter (· != w) } }

/-- WaleCommand Create (R252): ST_BUSY for a wale that is not Free or a lane of another wale, ST_ACCESS_DENIED for a breach of
R234, an identity of 0 or a module without FabricAddress (R324). -/
def State.createWale (s : State) (w : Nat) : State × Nat :=
  let lanes := s.waleLanes w
  if s.num (Obj.waleState w) ≠ 0 then (s, St.busy)
  else if lanes.any (fun k => (s.waleOf k).isSome || s.shareHeld k) then (s, St.busy)
  else if s.breaksR234 lanes ∨ s.num (Obj.waleIdentity w) = 0 ∨ s.num Obj.fabricAddress = 0 then (s, St.accessDenied)
  else ((s.formWale w).notAuto w, St.ok)

/-- WaleCommand AddLane (R252, R268): the lane and its repeat share join the wale. -/
def State.addLane (s : State) (w : Nat) : State × Nat :=
  let k := s.num (Obj.waleCommandLane w)
  if s.num (Obj.waleState w) = 0 then (s, St.notPermittedInState)
  else if (s.waleOf k).isSome || (s.shareHeld k && !(s.wale w).tx.unreturned.contains k) then (s, St.busy)
  else if s.breaksR234 (k :: s.waleLanes w) then (s, St.accessDenied)
  else
    let lanes := s.mapLanes w
    let v := s.wale w
    let s1 := s.setWale w { v with tx := { v.tx with unreturned := v.tx.unreturned.filter (· != k) } }
    let s2 := s1.setP (Obj.waleLanes w) (.num (setBit (s.num (Obj.waleLanes w)) k true))
    let s3 := ((s2.bindLane w k).setIndexes w).setMap w lanes
    ((s3.setShares w).settleWale w, St.ok)

/-- WaleCommand RemoveLane (R250, R252): the lane leaves WaleLanes and the map; its share stays until REPEAT_SHARE_RETURN. -/
def State.removeLane (s : State) (w : Nat) : State × Nat :=
  let k := s.num (Obj.waleCommandLane w)
  if s.num (Obj.waleState w) = 0 then (s, St.notPermittedInState)
  else if !bitAt (s.num (Obj.waleLanes w)) k then (s, St.accessDenied)
  else if s.num (Obj.waleTxMap w) = 2 ^ s.memberIndex w k then (s, St.notPermittedInState)
  else
    let s0 := s.leaveMap w [k]
    let lanes := s0.mapLanes w
    let s1 := s0.setP (Obj.waleLanes w) (.num (setBit (s0.num (Obj.waleLanes w)) k false))
    let s2 := ((s1.setNum (Obj.lineLaneWale k) 0xFF).setNum (Obj.lineLaneMemberIndex k) 0xFF).setIndexes w
    let s3 := s2.setMap w lanes
    let v := s3.wale w
    let s4 := s3.setWale w { v with tx := { v.tx with
      unreturned := v.tx.unreturned ++ [k], leaving := v.tx.leaving.filter (· != k) } }
    ((s4.setShares w).settleWale w, St.ok)

/-- WaleCommand Delete (R252, R268): the wale's lanes, shares, window and sessions are freed. -/
def State.deleteWale (s : State) (w : Nat) : State × Nat :=
  if s.num (Obj.waleState w) = 0 then (s, St.notPermittedInState)
  else
    let s1 := s.each (s.waleLanes w) fun t k =>
      (t.setNum (Obj.lineLaneWale k) 0xFF).setNum (Obj.lineLaneMemberIndex k) 0xFF
    let s2 := ((s1.setWale w (s1.wale w).fresh).noteSessions w).dropTransit w
    let s3 := s2.each [Obj.waleState w, Obj.waleTxMap w, Obj.waleRxMap w, Obj.repeatState w, Obj.repeatTxNext w,
      Obj.repeatTxCumulative w, Obj.repeatTxOutstanding w, Obj.repeatTxBytes w, Obj.repeatShareBytes w,
      Obj.repeatRxCumulative w, Obj.repeatHoldElapsed w, Obj.lineSession0State w] fun t k => t.setNum k 0
    (((s3.setNum (Obj.waleTxStakes w) 0xFFFF).setNum (Obj.waleRxStakes w) 0xFFFF).countWales.notAuto w, St.ok)

/-- WALE_CREATE (R252). -/
def execWaleCreate (rq : Requester) (w : Wale) (s : State) : Host.Outcome State Fault Refusal :=
  .next (s.request rq (Obj.waleCommand w) (.num 1) none (reported (Obj.waleCommandStatus w) fun t => t.createWale w))

/-- WALE_ADD_LANE (R252). -/
def execWaleAddLane (rq : Requester) (w : Wale) (s : State) : Host.Outcome State Fault Refusal :=
  .next (s.request rq (Obj.waleCommand w) (.num 2) none (reported (Obj.waleCommandStatus w) fun t => t.addLane w))

/-- WALE_REMOVE_LANE (R252). -/
def execWaleRemoveLane (rq : Requester) (w : Wale) (s : State) : Host.Outcome State Fault Refusal :=
  .next (s.request rq (Obj.waleCommand w) (.num 3) none (reported (Obj.waleCommandStatus w) fun t => t.removeLane w))

/-- WALE_DELETE (R252). -/
def execWaleDelete (rq : Requester) (w : Wale) (s : State) : Host.Outcome State Fault Refusal :=
  .next (s.request rq (Obj.waleCommand w) (.num 4) none (reported (Obj.waleCommandStatus w) fun t => t.deleteWale w))

/-- REPEAT_SHARE_RETURN (R252): the wale's outstanding bytes fit the shares of the lanes still configured and the share of
removed lane k is returned. -/
def execRepeatShareReturn (w : Wale) (k : Lane) (s : State) : Host.Outcome State Fault Refusal :=
  let v := s.wale w
  if v.tx.unreturned.contains (k : Nat) ∧
      s.num (Obj.repeatTxBytes w) ≤ (s.waleLanes w).length * s.num Obj.repeatLaneShareBytes then
    .next ((s.setWale w { v with tx := { v.tx with unreturned := v.tx.unreturned.filter (· != (k : Nat)) } }).setShares w)
  else .next s

end Sys2Proof.Machine
end

