-- ==== Sys2Proof/Machine/Optics.lean ====
section
/-! DEFINITION. The commands of the optics (chapter 15). -/

namespace Sys2Proof.Machine

open Sys2Proof

/-! ### Pairs and lanes (R291–R295) -/

/-- A swap runs for the IP lane of a pair (R308). -/
def State.swapping (s : State) (k : Nat) : Bool := (s.swapOf k).isSome

/-- The conditions of R294 on a PairSetting of pair k, in their order. -/
def State.pairStatus (s : State) (k setting : Nat) : Nat :=
  let single := s.num (Obj.pairSingleEnd k)
  let e := pairEnds setting single
  if s.inWale k || s.inWale (k + 16) || s.swapping k then St.busy
  else if (e.1 == 2 || e.2 == 2) && !siteFitted k then St.refusedNotReady
  else if (setting == 2 || setting == 3) && decide (1 < single) then St.accessDenied
  else St.ok

/-- The effect of a PairSetting write (R294): the lanes are placed on their ends, or the write is refused. -/
def pairEffect (k value : Nat) : Effect := fun s =>
  let st := s.pairStatus k value
  let s1 := s.setNum (Obj.pairCommandStatus k) st
  if st ≠ St.ok then (s1, st)
  else ((((s1.setPNum (Obj.pairSetting k) value).placePair k).assignSpares), St.ok)

/-- PAIR_SETTING_WRITE (R294). -/
def execPairSettingWrite (rq : Requester) (k : Pair) (value : BitVec 8) (s : State) : Host.Outcome State Fault Refusal :=
  .next (s.request rq (Obj.pairSetting k) (.num value.toNat) none (pairEffect k value.toNat))

/-- A lane's mode changes (R291): it starts a map period of the new mode (R254, R269) and goes through FEC re-acquisition. -/
def State.newMode (s : State) (k : Nat) : State :=
  let x := s.lane k
  ((s.setLane k { x with tx := { x.tx with mapped := [] } }).noteFec k).loseFec k

/-- The effect of a LineLaneMode write (R291, R292): only while the lane is in no wale; a change goes through FEC
re-acquisition. -/
def laneModeEffect (k value : Nat) : Effect := fun s =>
  if s.inWale k then refuse St.busy s
  else if s.num (Obj.lineLaneResolution k) < 6 - min 2 value then refuse St.accessDenied s
  else
    let old := s.num (Obj.lineLaneMode k)
    let s1 := s.setPNum (Obj.lineLaneMode k) value
    (if old = value then s1 else s1.newMode k, St.ok)

/-- LINE_LANE_MODE_WRITE (R291). -/
def execLineLaneModeWrite (rq : Requester) (k : Lane) (value : BitVec 8) (s : State) : Host.Outcome State Fault Refusal :=
  .next (s.request rq (Obj.lineLaneMode k) (.num value.toNat) none (laneModeEffect k value.toNat))

/-- The effect of a LineLaneResolution write (R292): refused below the lowest of the lane's mode, 6, 5 or 4 bits (R291). -/
def resolutionEffect (k value : Nat) : Effect := fun s =>
  if value < 6 - min 2 (s.num (Obj.lineLaneMode k)) then refuse St.accessDenied s
  else (s.setPNum (Obj.lineLaneResolution k) value, St.ok)

/-- LINE_LANE_RESOLUTION_WRITE (R292): without loss of lock, in a wale too. -/
def execLineLaneResolutionWrite (rq : Requester) (k : Lane) (value : BitVec 8) (s : State) :
    Host.Outcome State Fault Refusal :=
  .next (s.request rq (Obj.lineLaneResolution k) (.num value.toNat) none (resolutionEffect k value.toNat))

/-- The effect of a LineLaneFrequency write (R295): the laser of the lane's end tunes with its output blocked. -/
def frequencyEffect (k value : Nat) : Effect := fun s =>
  if s.inWale k then refuse St.busy s
  else
    let s1 := s.setPNum (Obj.lineLaneFrequency k) value
    let x := s1.optic k
    (((s1.setOptic k { x with tuning := s1.num (Obj.lineLaneEnd k) != 0 }).settlePair (k % 16)), St.ok)

/-- LINE_LANE_FREQUENCY_WRITE (R295). -/
def execLineLaneFrequencyWrite (rq : Requester) (k : Lane) (value : BitVec 32) (s : State) :
    Host.Outcome State Fault Refusal :=
  .next (s.request rq (Obj.lineLaneFrequency k) (.num value.toNat) none (frequencyEffect k value.toNat))

/-- LASER_TUNING_COMPLETE (R295): the laser has locked and its output is unblocked. -/
def execLaserTuningComplete (k : Lane) (s : State) : Host.Outcome State Fault Refusal :=
  let x := s.optic k
  if x.tuning then .next ((s.setOptic k { x with tuning := false }).settlePair (k.val % 16)) else .next s

/-! ### Lasers (R298–R302) -/

/-- A commissioning of a laser starts: 1 s of measurement (R298). -/
def State.startCommission (s : State) (n : Nat) : State := s.setLaser n { s.laser n with commissioning := true }

/-- The IP lane that laser n serves: the laser is the one in its IpLaser and is not retired. -/
def State.servedBy (s : State) (n : Nat) : Option Nat :=
  (List.range 16).find? fun i => s.num (Obj.ipLaser i) == n && s.num (Obj.laserState n) != 5

/-- LASER_COMMISSION (R298): of a laser that serves a lane. -/
def execLaserCommission (rq : Requester) (n : Laser) (s : State) : Host.Outcome State Fault Refusal :=
  .next (s.request rq (Obj.laserCommand n) (.num 1) none fun t =>
    if (t.servedBy n).isSome then (t.startCommission n, St.ok) else refuse St.notPermittedInState t)

/-- A laser is taken out by command (R301): one that serves a lane as at Evict, a spare that is being tuned as one that
failed to lock, a free spare out of the pool. -/
def State.retire (s : State) (n : Nat) : State :=
  match s.servedBy n with
  | some i => s.retireServing i
  | none =>
    match (s.laser n).swapFor with
    | some i =>
      let s1 := (s.setPNum (Obj.laserState n) 5).setLaser n { s.laser n with swapFor := none }
      match s1.freeSpare with
      | some m => s1.beginSwap i m
      | none => s1.noSpare i
    | none => (s.setPNum (Obj.laserState n) 5).setPNum Obj.sparesFree (s.num Obj.sparesFree - 1)

/-- LASER_RETIRE (R301): any laser but a retired one. -/
def execLaserRetire (rq : Requester) (n : Laser) (s : State) : Host.Outcome State Fault Refusal :=
  .next (s.request rq (Obj.laserCommand n) (.num 2) none fun t =>
    if t.num (Obj.laserState n) = 5 then refuse St.notPermittedInState t else (t.retire n, St.ok))

/-- ENGINE_COMMISSION (R298): of the laser of a fitted board engine. -/
def execEngineCommission (rq : Requester) (k : Engine) (s : State) : Host.Outcome State Fault Refusal :=
  .next (s.request rq (Obj.engineCommand k) (.num 1) none fun t =>
    if siteFitted k then (t.startCommission (32 + k), St.ok) else refuse St.refusedNotReady t)

/-- LASER_COMMISSION_COMPLETE (R298, R300): the means of the second are the reference values; a swap ends with them. -/
def execLaserCommissionComplete (x : LaserUnit) (bias : BitVec 32) (power : Int) (s : State) :
    Host.Outcome State Fault Refusal :=
  match x with
  | .engine k =>
    let l := s.laser (32 + k)
    if l.commissioning then
      let s1 := (s.setPNum (Obj.engineCommissionedBias k) bias.toNat).setP (Obj.engineCommissionedPower k)
        (.num (ofSigned 32 power))
      .next ((s1.setLaser (32 + k) { l with commissioning := false, raised := 0 }).settlePair k)
    else .next s
  | .bank n =>
    let l := s.laser n
    if l.commissioning then
      let s1 := (s.setPNum (Obj.laserCommissionedBias n) bias.toNat).setP (Obj.laserCommissionedPower n)
        (.num (ofSigned 32 power))
      let s2 := s1.setLaser n { l with commissioning := false, raised := 0, swapFor := none }
      match l.swapFor with
      | some i => .next (s2.raise Ev.laserSwapDone { die := 23, unit := n, detail := i })
      | none => .next s2
    else .next s

/-- Raise EV_LASER_WARN once for each level newly reached (R299); below Warn every level may be reached anew. `levels` is the
highest level that raises it. -/
def State.noteLevel (s : State) (n die unit level levels : Nat) : State :=
  let x := s.laser n
  if level = 0 then s.setLaser n { x with raised := 0 }
  else
    let new := ([1, 2, 3].filter fun l => l ≤ level ∧ !x.raised.testBit l)
    let s1 := s.setLaser n { x with raised := new.foldl (fun r l => setBit r l true) x.raised }
    s1.each (new.filter (· ≤ levels)) fun t l => t.raise Ev.laserWarn { die := die, unit := unit, detail := l }

/-- One sample of a laser joins the 16 of the mean (R298). -/
def State.sampleLaser (s : State) (n : Nat) (sample : Nat × Int) : State :=
  let x := s.laser n
  s.setLaser n { x with samples := (sample :: x.samples).take 16 }

/-- Means of the samples of a laser: bias, power (R311). -/
def meanOf (x : LaserData) : Nat × Int :=
  let n := x.samples.length
  if n = 0 then (0, 0)
  else ((x.samples.map Prod.fst).foldl (· + ·) 0 / n, (x.samples.map Prod.snd).foldl (· + ·) 0 / (n : Int))

/-- The check of the laser that serves IPi (R299, R301): Warn, then Swap, then Evict. -/
def State.checkServing (s : State) (i : Nat) : State :=
  let n := s.num (Obj.ipLaser i)
  let level := healthLevel (s.laser n) (s.num (Obj.laserCommissionedBias n)) (s.int (Obj.laserCommissionedPower n))
  if s.num (Obj.laserState n) = 5 then s
  else
    let s1 := s.noteLevel n 23 n level 1
    let st := s1.num (Obj.laserState n)
    let s2 := if level = 0 ∧ st = 2 then s1.setPNum (Obj.laserState n) 1
      else if level ≠ 0 ∧ st = 1 then s1.setPNum (Obj.laserState n) 2 else s1
    let st2 := s2.num (Obj.laserState n)
    let s3 := if 2 ≤ level ∧ (st2 = 1 ∨ st2 = 2) then
        match s2.freeSpare with
        | some m => s2.beginSwap i m
        | none => s2.noSpare i
      else s2
    if level = 3 ∧ s3.num (Obj.laserState n) = 3 ∧ s3.freeSpare = none then s3.retireServing i else s3

/-- LASER_HEALTH_SAMPLE (R298, R299): the samples of the bank's lasers by number and of the board engines by site. -/
def execLaserHealthSample (lasers engines : List (Nat × Int)) (s : State) : Host.Outcome State Fault Refusal :=
  let s1 := s.each ((List.range 20).zip lasers) fun t c => t.sampleLaser c.1 c.2
  let s2 := s1.each ((List.range 16).zip engines) fun t c => t.sampleLaser (32 + c.1) c.2
  let s3 := s2.each (List.range 20) fun t n =>
    let m := meanOf (t.laser n)
    (t.setNum (Obj.laserBias n) (m.1 % 2 ^ 32)).setInt (Obj.laserBackFacet n) m.2
  let s4 := s3.each (List.range 16) fun t k =>
    let m := meanOf (t.laser (32 + k))
    (t.setNum (Obj.engineBias k) (m.1 % 2 ^ 32)).setInt (Obj.engineBackFacet k) m.2
  let s5 := s4.each (List.range 16) State.checkServing
  .next (s5.each (List.range 16) fun t k =>
    if siteFitted k then
      let level := healthLevel (t.laser (32 + k)) (t.num (Obj.engineCommissionedBias k)) (t.int (Obj.engineCommissionedPower k))
      let t1 := t.noteLevel (32 + k) 0 k level 3
      t1.setNum (Obj.engineState k) (t1.engineStateOf k)
    else t)

/-- SPARE_LOCKED (R300, steps 3–5): the lane goes over to the spare, the old laser is off for good, the spare is
commissioned. -/
def execSpareLocked (n : Laser) (s : State) : Host.Outcome State Fault Refusal :=
  match (s.laser n).swapFor with
  | none => .next s
  | some i =>
    let old := s.num (Obj.ipLaser i)
    if old = n then .next s
    else
      let s1 := (s.setPNum (Obj.laserState old) 5).setPNum (Obj.ipLaser i) n
      .next (((s1.setPNum (Obj.laserState n) 1).startCommission n).settleOptics)

/-- SPARE_LOCK_TIMEOUT (R301): the spare did not lock within 250 ms and is retired. The lane's laser is in Swap pending, and takes
the next free spare if there is one. -/
def execSpareLockTimeout (n : Laser) (s : State) : Host.Outcome State Fault Refusal :=
  match (s.laser n).swapFor with
  | none => .next s
  | some i => if s.num (Obj.ipLaser i) = n then .next s else .next (s.retire n)

/-! ### Selectors and eye safety (R304, R305) -/

/-- The effect of IpCommand Select (R304, R308). -/
def State.selectPorts (s : State) (i : Nat) : State × Nat :=
  let tx := s.num (Obj.ipTxSelect i)
  let rx := s.num (Obj.ipRxSelect i)
  let present := s.num (Obj.ipPortsPresent i)
  if (s.ipLane i).any s.inWale || s.swapping i then refuse St.busy s
  else if !bitAt present tx || !bitAt present rx then refuse St.refusedNotReady s
  else (({ s with optics := { s.optics with ports := Map.put (0, 0) s.optics.ports i (tx, rx) } } : State).settlePair i, St.ok)

/-- IP_SELECT (R304). -/
def execIpSelect (rq : Requester) (i : Ip) (s : State) : Host.Outcome State Fault Refusal :=
  .next (s.request rq (Obj.ipCommand i) (.num 1) none (reported (Obj.ipCommandStatus i) fun t => t.selectPorts i))

/-- IP_CLEAR_TRIP (R305): the latch ends only with the tap below +6.0 dBm; `tap` is its reading in 0.1 dBm. -/
def execIpClearTrip (rq : Requester) (i : Ip) (tap : Int) (s : State) : Host.Outcome State Fault Refusal :=
  .next (s.request rq (Obj.ipCommand i) (.num 2) none (reported (Obj.ipCommandStatus i) fun t =>
    if t.optics.tripped.contains i.val ∧ 60 ≤ tap then refuse St.refusedNotReady t
    else (({ t with optics := { t.optics with tripped := t.optics.tripped.filter (· != i.val) } } : State).settlePair i, St.ok)))

/-- APR_ENTRY (R305): the lane's receive has been in LOS for OpticsAprDelay; its launch is reduced until LOS clears. -/
def execAprEntry (k : Lane) (s : State) : Host.Outcome State Fault Refusal :=
  let x := s.optic k
  if s.hasDefect k .los ∧ !x.apr then
    .next (((s.setOptic k { x with apr := true }).settlePair (k.val % 16)).raise Ev.aprActive { die := 19 + k.val / 16, unit := k })
  else .next s

/-- EYE_SAFETY_TRIP (R305): the comparator of the in-package end that the lane drives latches and blocks its transmit. -/
def execEyeSafetyTrip (k : Lane) (s : State) : Host.Outcome State Fault Refusal :=
  let i := k.val % 16
  if s.num (Obj.lineLaneEnd k) = 1 ∧ !s.optics.tripped.contains i then
    let s1 : State := { s with optics := { s.optics with tripped := i :: s.optics.tripped } }
    let s2 := (s1.settlePair i).bump 32 Obj.opticsEyeSafetyTrips 1
    .next (s2.raise Ev.eyeSafetyTrip { die := 21 + i / 8, unit := k })
  else .next s

/-- The presence of a connector changes (R304, R490): an OPM carries the four ports of two IP lanes. -/
def State.setConnector (s : State) (p : FibrePort) (present : Bool) : State :=
  match p with
  | .opm q =>
    let mask := if present then 0x0F else 0
    let s1 := s.setNum Obj.opticalConnectorsPresent (setBit (s.num Obj.opticalConnectorsPresent) q present)
    let s2 := (s1.setNum (Obj.ipPortsPresent (2 * q)) mask).setNum (Obj.ipPortsPresent (2 * q + 1)) mask
    (s2.settlePair (2 * q)).settlePair (2 * q + 1)
  | .bep k =>
    let s1 := s.setNum Obj.opticalConnectorsPresent (setBit (s.num Obj.opticalConnectorsPresent) (16 + k) present)
    s1.settlePair k

/-- CONNECTOR_REMOVED (R305): its ports go dark. -/
def execConnectorRemoved (p : FibrePort) (s : State) : Host.Outcome State Fault Refusal := .next (s.setConnector p false)

/-- CONNECTOR_INSERTED (R304): presence is reported. -/
def execConnectorInserted (p : FibrePort) (s : State) : Host.Outcome State Fault Refusal := .next (s.setConnector p true)

end Sys2Proof.Machine
end

