-- ==== Sys2Proof/Machine/Power.lean ====
section
/-! DEFINITION. The commands of power, temperature and scheduling (chapter 20). -/

namespace Sys2Proof.Machine

open Sys2Proof

/-! ### Votes (R385, R386) -/

/-- A domain and those whose entry waits for it (R384): the network of a tile's die, the manager of a memory domain. -/
def State.settleWith (s : State) (d : Nat) : State :=
  match domainTile d with
  | some t => s.settleTileDomain t
  | none => if (domainMemory d).isSome then (s.settleDomain d).settleDomain (d + 1) else s.settleDomain d

/-- The effect of a host vote (R384, R385): a code of R382, but no sleep state that the class does not offer. -/
def hostVoteEffect (d value : Nat) : Effect := fun s =>
  if value ≤ 5 ∨ value = 0xFF ∨ (value ≤ 8 ∧ offers (classOf d) value) then
    ((s.setNum (Obj.domainVoteHost d) value).settleWith d, St.ok)
  else refuse St.accessDenied s

/-- DOMAIN_VOTE_HOST_WRITE (R385). -/
def execDomainVoteHostWrite (rq : Requester) (d : Domain) (value : BitVec 8) (s : State) : Host.Outcome State Fault Refusal :=
  .next (s.request rq (Obj.domainVoteHost d) (.num value.toNat) none (hostVoteEffect d value.toNat))

/-- TILE_IDLE_HOLD_EXPIRY (R386): no chunk has been bound to the tile, nor waited for one of the hoop's, for TileIdleHold. -/
def execTileIdleHoldExpiry (t : Tile) (s : State) : Host.Outcome State Fault Refusal :=
  let h := s.num (Obj.tileOwner t)
  if h < 16 ∧ !s.tileBound t ∧ !s.hoopWaitsTile h then
    .next ((s.setNum (Obj.domainVoteHoop (tileDomain t)) (s.num (Obj.hoopIdleState h))).settleTileDomain t)
  else .next s

/-! ### Entering and leaving sleep (R389, R390) -/

/-- QUIESCE_COMPLETE (R389): the blocks are idle and the clocks stop (abort point 1). -/
def execQuiesceComplete (d : Domain) (s : State) : Host.Outcome State Fault Refusal :=
  if s.num (Obj.domainSleepState d) ≠ 1 then .next s
  else
    match s.target d with
    | 6 => .next ((s.setSleep d 4).settleWith d)
    | 7 => .next (s.setSleep d 2)
    | 8 => .next (s.setSleep d 3)
    | _ => .next (s.abandonEntry d)

/-- RETENTION_SAVE_COMPLETE (R389): abort point 2. -/
def execRetentionSaveComplete (d : Domain) (s : State) : Host.Outcome State Fault Refusal :=
  if s.num (Obj.domainSleepState d) = 2 then .next (s.setSleep d 3) else .next s

/-- What of its store a tile keeps in S2 (R384): the constants and the staged area of its resident image. -/
def TileData.retained (x : TileData) : Memory :=
  let i := x.image
  let ranges := [(constBase i, constBase i + constLength i), (stagedBase i, stagedBase i + stagedLength i)]
  if x.residentHash = imageHash i then x.store.filter fun c => ranges.any fun r => decide (r.1 ≤ c.1 ∧ c.1 < r.2) else []

/-- What a tile keeps when its power switch opens (R384): in S2 its resident image and staged area; in S3 nothing, and what its
hardware holds takes its default (R473). A load that a hoop fault cut short leaves no image to keep. Its sensors stop reading. -/
def State.tilePowerOff (s : State) (t : Nat) (deep : Bool) : State :=
  let x := s.tile t
  if deep then
    (s.setTile t { testing := x.testing }).each (tileHardware t) fun u k => u.set k (objDefault k)
  else
    let whole := decide (x.residentHash = imageHash x.image)
    s.setTile t { x with store := x.retained, defined := [], samples := [], residentHash := if whole then x.residentHash else []
                         staged := if whole then x.staged else none }

/-- POWER_SWITCH_OPEN (R384, R389): abort point 3. -/
def execPowerSwitchOpen (d : Domain) (s : State) : Host.Outcome State Fault Refusal :=
  if s.num (Obj.domainSleepState d) ≠ 3 then .next s
  else
    match s.target d with
    | 7 =>
      let s1 := s.setSleep d 5
      .next ((match domainTile d with
        | some t => s1.tilePowerOff t false
        | none => s1).settleWith d)
    | 8 =>
      let s1 := s.setSleep d 6
      .next ((match domainTile d with
        | some t => s1.tilePowerOff t true
        | none => s1).settleWith d)
    | _ => .next (s.abandonEntry d)

/-- WAKE_EVENT (R376, R389, R390, R477): ignored during a reset. -/
def execWakeEvent (d : Domain) (s : State) : Host.Outcome State Fault Refusal :=
  if s.boot.resetting.isSome then .next s
  else
    let s1 := s.wakeDomain d
    .next { s1 with power := { s1.power with stopped := s1.power.stopped.filter fun c => c.1 != d.val } }

/-- WAKE_COMPLETE (R389): the domain runs again; a target that is deep takes effect from Running. -/
def execWakeComplete (d : Domain) (s : State) : Host.Outcome State Fault Refusal :=
  if s.num (Obj.domainSleepState d) = 7 then .next ((s.setSleep d 0).settleWith d) else .next s

/-- LEVEL_CHANGE_COMPLETE (R383, R387, R391): the supply has settled and the clock is that of the level wanted; a tile that has
left Excluded has its divider restored. -/
def execLevelChangeComplete (d : Domain) (s : State) : Host.Outcome State Fault Refusal :=
  if s.num (Obj.domainState d) ≠ 1 ∨ s.num (Obj.domainSleepState d) ≠ 0 then .next s
  else
    let level := s.wantedLevel d
    let c := levelClock d level
    let s1 := ((s.setNum (Obj.domainLevel d) level).setNum (Obj.domainFrequency d) c.1).setNum (Obj.domainVoltage d) c.2
    match domainTile d with
    | none => .next s1
    | some t =>
      .next ((if t ∈ s.power.returning then s1.restoreDivider t else s1).settleTileDomain t)

/-! ### The governor (R388) -/

/-- Tiles of hoop h, and those of them on die g. -/
def State.tilesOf (s : State) (h : Nat) : List Nat := (List.range 48).filter fun t => s.num (Obj.tileOwner t) == h
def State.tilesOn (s : State) (h g : Nat) : List Nat := (s.tilesOf h).filter fun t => t / 6 == g

/-- Input power and the ceiling of every tile (R388). -/
def State.governInput (s : State) (input standby : Nat) : State :=
  let lim := s.num Obj.modulePowerLimit * 10
  let cm := s.num Obj.modulePowerCeiling
  let cm' := if lim < input then min 5 (cm + 1) else if input < lim * 95 / 100 ∧ 0 < cm then cm - 1 else cm
  ((s.setNum Obj.moduleInputPower (input % 2 ^ 32)).setNum Obj.standbyInputPower (standby % 2 ^ 32)).setNum
    Obj.modulePowerCeiling cm'

/-- Mean tile power of hoop h over its window, with this millisecond's samples (R388). -/
def State.noteHoopPower (s : State) (tilePower : List Nat) (h : Nat) : State :=
  let now := ((s.tilesOf h).map fun t => tilePower[t]?.getD 0).sum
  let l := (now :: Map.get [] s.power.tilePower h).take (max 1 (s.num (Obj.hoopCapWindow h)))
  let s1 : State := { s with power := { s.power with tilePower := Map.put [] s.power.tilePower h l } }
  s1.setNum (Obj.hoopTilePower h) (l.sum / l.length % 2 ^ 32)

/-- The cap of hoop h moves its ceiling (R388). -/
def State.governHoop (s : State) (h : Nat) : State :=
  let cap := s.num (Obj.hoopPowerCap h) * 10
  let p := s.num (Obj.hoopTilePower h)
  let ch := s.num (Obj.hoopCapCeiling h)
  if cap = 0 then s
  else if cap < p then (s.setNum (Obj.hoopCapCeiling h) (min 5 (ch + 1))).bump 32 (Obj.hoopCapEvents h) 1
  else if p < cap * 90 / 100 ∧ 0 < ch then s.setNum (Obj.hoopCapCeiling h) (ch - 1)
  else s

/-- excess[h] (R388): power above 90 % of the hoop's cap. -/
def State.excess (s : State) (h : Nat) : Nat :=
  let cap := s.num (Obj.hoopPowerCap h) * 10
  if cap = 0 then 0 else s.num (Obj.hoopTilePower h) - cap * 90 / 100

/-- DiePowerBudget of G die g (R388). -/
def State.dieBudget (s : State) (g : Nat) : Nat :=
  let base := s.num Obj.diePowerBudgetBase * s.num Obj.modulePowerLimit / 1800
  base - ((List.range 16).map fun h =>
    let n := (s.tilesOf h).length
    if n = 0 then 0 else s.excess h * (s.tilesOn h g).length / n).sum

/-- POWER_GOVERNOR_STEP (R388): input powers and the power of each tile, in 0.1 W. -/
def execPowerGovernorStep (input standby : Nat) (tilePower : List Nat) (s : State) : Host.Outcome State Fault Refusal :=
  let s1 := s.governInput input standby
  let s2 := (s1.each (List.range 16) fun t h => t.noteHoopPower tilePower h).each (List.range 16) State.governHoop
  let s3 := s2.each (List.range 8) fun t g =>
    (t.setNum (Obj.diePower g) ((((tilePower.drop (6 * g)).take 6).sum) % 2 ^ 32)).setNum (Obj.diePowerBudget g) (t.dieBudget g)
  .next (s3.each (List.range 48) fun t i => t.settleDomain (tileDomain i))

/-! ### Heat (R386, R387, R392) -/

/-- The die's thermal ceiling moves by one level per millisecond (R387). -/
def State.moveCeiling (s : State) (n : Nat) (highest : Int) : State :=
  let c := s.num (Obj.dieThermalCeiling n)
  let due := (s.power.ceilingMoved.find? fun x => x.1 == n).all fun x => decide (x.2 + 1000000 ≤ s.now)
  let next := if 1050 ≤ highest ∧ c < 5 then c + 1 else if highest < 1000 ∧ 0 < c then c - 1 else c
  if due ∧ next ≠ c then
    { s.setNum (Obj.dieThermalCeiling n) next with power := { s.power with ceilingMoved := Map.put 0 s.power.ceilingMoved n s.now } }
  else s

/-- A sensor read 115.0 °C or more in two consecutive samples (R392). -/
def twiceHot (now before : List Int) : Bool := (List.zipWith (fun a b => decide (1150 ≤ a ∧ 1150 ≤ b)) now before).any id

/-- DIE_SENSOR_SAMPLE (R386, R387, R392): the readings of a die's sensors in 0.1 °C. The sensors of a tile count for its own domain
(TILE_SENSOR_SAMPLE), those of the die for its other domains; the warnings are those of the dies that carry no tile. -/
def execDieSensorSample (n : Die) (readings : List Int) (s : State) : Host.Outcome State Fault Refusal :=
  match readings with
  | [] => .next s
  | r :: rest =>
    let highest := rest.foldl max r
    let before := Map.get [] s.power.lastReadings n
    let below (x : Int) : Bool := before.all fun y => decide (y < x)
    let tiles := decide (1 ≤ n.val ∧ n.val ≤ 8)
    let s1 : State := { s.setInt (Obj.dieTemperatureMax n) highest with
      power := { s.power with lastReadings := Map.put [] s.power.lastReadings n readings } }
    let domains := (domainsOf n).filter fun d => (domainTile d).isNone
    let s2 := (s1.each domains fun t d => t.thermalVote d highest).moveCeiling n highest
    let s3 := if !tiles && decide (950 ≤ highest) && below 950 then s2.raise Ev.dieTempWarn { die := n, detail := highest.toNat } else s2
    let s4 := if !tiles && decide (1050 ≤ highest) && below 1050 then s3.raise Ev.dieTempHigh { die := n, detail := highest.toNat } else s3
    if twiceHot readings before then .next (s4.shutdown n) else .next (s4.each domains State.settleDomain)

end Sys2Proof.Machine
end

