-- ==== Sys2Proof/Machine/Boot.lean ====
section
/-! DEFINITION. Inputs, start-up and the resets (chapter 24), with the power inputs of R454 and R480. -/

namespace Sys2Proof.Machine

open Sys2Proof

/-! ### Inputs (R454, R463, R480) -/

/-- The 54 V input is declared present; the 12 V input. -/
def State.mainPresent (s : State) : Bool := bitAt (s.num Obj.inputState) 0
def State.standbyPresent (s : State) : Bool := bitAt (s.num Obj.inputState) 3

/-- Set bits of InputState (R463). -/
def State.setInput (s : State) (l : List (Nat × Bool)) : State :=
  s.setNum Obj.inputState (l.foldl (fun n b => setBit n b.1 b.2) (s.num Obj.inputState))

/-! ### The persistent store at boot (R421, R475) -/

/-- The newest committed record of a store: its sequence and body. -/
def newestRecord (store : Map StoreRecord) : Option (Nat × Map Val) :=
  (store.filter fun c => c.2.committed).foldl (fun (best : Option (Nat × Map Val)) c => match best with
    | some b => if b.1 < c.2.sequence then some (c.2.sequence, c.2.body) else some b
    | none => some (c.2.sequence, c.2.body)) none

/-- The objects of a record take their values. -/
def State.restore (s : State) (body : Map Val) : State := s.each body fun t c => t.set c.1 c.2

/-- P and H objects from the newest committed records, their defaults and EV_PERSIST_EMPTY where there is none (R421, R475). -/
def State.loadStore (s : State) : State :=
  let s1 := match newestRecord s.control.store with
    | some r => (s.restore r.2).setNum Obj.persistSequence r.1
    | none => s.raise Ev.persistEmpty
  match newestRecord s1.control.hoopStore with
  | some r => s1.restore r.2
  | none => s1.raise Ev.persistEmpty { detail := 1 }

/-- The image of a slot runs (R171, R429): its arithmetic and tile instruction set are the module's. -/
def State.runImage (s : State) (n : Nat) : State :=
  match s.firmwareSlot n with
  | none => s
  | some i =>
    let s1 : State := { s with security := { s.security with running := i } }
    match i with
    | .shipped => s1
    | .image _ => (s1.setNum Obj.arithmeticVersion i.arithmetic).setNum Obj.tileIsaVersion i.isa

/-! ### Stages (R464) -/

/-- A stage begins: StartupStage, and its word in MB00 (R464, R467). -/
def State.beginStage (s : State) (n : Nat) : State := (s.setNum Obj.startupStage n).postStage n 0xFF St.ok

/-- Start-up ends in the Limp state, with an event that names a regulator or source (R464, R469). -/
def State.failStart (s : State) (cause regulator event detail : Nat) : State :=
  (s.enterLimp cause regulator).raise event { detail := detail }

/-- The start-up sequence is in progress: not while a lesser reset runs. -/
def State.starting (s : State) : Bool :=
  s.num Obj.moduleState == 0 && (match s.boot.resetting with
    | none => true
    | some .powerOn => true
    | some .cold => true
    | _ => false)

/-- No reset is in progress any more. -/
def State.endReset (s : State) : State := { s with boot := { s.boot with resetting := none, misses := [] } }

/-- Standby (R466): hub and E die run from the 12 V input, every other die is off. -/
def State.enterStandby (s : State) : State := ((s.setNum Obj.startupStage 6).setModule 1).endReset

/-- The tiles of the hoops' masks return to their hoops after their owners were lost with their dies (R105). -/
def State.ownAgain (s : State) : State :=
  s.each ((List.range 16).filter fun h => s.num (Obj.hoopState h) != 0 && !(s.hoop h).taken) fun t h =>
    t.setTiles h (t.num (Obj.hoopTileMask h))

/-- Every port trains (R210). -/
def State.trainFabric (s : State) (fresh : Bool) : State :=
  if fresh then s.each (List.range 8) State.trainMac
  else s.each ((List.range 16).filter fun p => (s.port p).width != 0) State.trainPort

/-- Stage 9 (R252, R294, R464): wales are created again, lasers lit as the pair settings require, and the module is Ready. -/
def State.becomeReady (s : State) (place : Bool) : State :=
  let s1 := (s.setNum Obj.startupStage 9).setModule 2
  let s2 := if place then s1.each (List.range 16) State.placePair else s1
  (s2.each ((List.range 32).filter fun w => s2.num (Obj.waleLanes w) != 0) State.formWale).settleOptics.endReset

/-- Stage 8 ends (R183, R186, R188): a channel that fails training is mapped out at once; a channel that is to be restored leaves
the list if it trained. -/
def State.trainChannel (s : State) (failed : List Nat) (c : Nat) : State :=
  let listed := leNat (s.bytes Obj.mappedOutChannels)
  let x := Map.get {} s.memory.channels c
  let unlist (t : State) : State := t.setP Obj.mappedOutChannels (.blob (leBytes 80 (setBit listed c false)))
  let clear (t : State) : State :=
    { t with memory := { t.memory with channels := Map.put {} t.memory.channels c { x with restore := false } } }
  if bitAt listed c then
    if x.restore then
      if failed.contains c then (clear s).setNum (Obj.channelState c) 3 else clear ((unlist s).setNum (Obj.channelState c) 0)
    else s.setNum (Obj.channelState c) 2
  else if failed.contains c then
    (((s.loseChannel c).setNum (Obj.channelState c) 3).raise Ev.channelMapOut { die := 9 + c / 80, unit := c }).raise
      Ev.channelMappedOut { die := 9 + c / 80, unit := c }
  else s

/-- The channels that were migrating out when a reset took the module's memory are mapped out: the die starts without them (R188). -/
def State.listLeaving (s : State) : State :=
  let gone := (s.memory.channels.filter fun x => x.2.leaving).map Prod.fst
  let s1 := s.each (gone.filter fun c => !bitAt (leNat (s.bytes Obj.mappedOutChannels)) c) State.loseChannel
  s1.each gone fun t c =>
    { t with memory := { t.memory with channels := Map.put {} t.memory.channels c { Map.get {} t.memory.channels c with leaving := false } } }

/-- Channels whose training has an outcome to record: on the list, or failed. -/
def State.trainedChannels (s : State) (failed : List Nat) : List Nat :=
  (List.range 640).filter fun c => bitAt (leNat (s.bytes Obj.mappedOutChannels)) c || failed.contains c

/-- A stage completes (R464–R467, R427, R429, R435). Which of its two failures ended stage 3 the command does not say, unless no
copy of the store can be read: it is a free value (log entry 34). -/
def State.stageDone (s : State) (ok : Bool) (failed : List Nat) : State :=
  match s.num Obj.startupStage with
  | 1 => if ok then (s.comeUp standbyDomains).beginStage 2 else s
  | 2 => s.beginStage 3
  | 3 =>
    if s.copyFailed 0 && s.copyFailed 1 then s.failStart 3 0xFF Ev.identityFail 0
    else if !ok then
      if s.freeNat 1 = 0 then s.tookFree.failStart 3 0xFF Ev.identityFail 0 else s.tookFree.failStart 5 0xFF Ev.floorInvalid 0
    else
      let s1 := s.loadStore.listLeaving.readGroups
      ({ s1 with security := { s1.security with identityReady := true } }.deriveAgain).beginStage 4
  | 4 =>
    match s.bootSlot with
    | some n =>
      if !ok then s.failStart 4 0xFF Ev.firmwareInvalid 0
      else
        let s1 := s.runImage n
        let s2 := if n = s1.num Obj.firmwareActiveSlot then s1
          else (s1.setP Obj.firmwareActiveSlot (.num n)).raise Ev.firmwareFallback { detail := n }
        s2.beginStage 5
    | none => s.failStart 4 0xFF Ev.firmwareInvalid 0
  | 5 => if ok then s.beginStage 6 else s.failStart 1 0xFF Ev.wakeFail 1
  | 6 => if s.mainPresent then s.beginStage 7 else s.enterStandby
  | 7 => if ok then ((s.comeUp dieDomains).ownAgain).beginStage 8 else s.failStart 2 0xFF Ev.wakeFail 0xFF
  | 8 =>
    let s0 := s.listLeaving
    let s1 := s0.each (s0.trainedChannels failed) fun t c => t.trainChannel failed c
    ((s1.sizeMemory.takeHoops.trainFabric true).beginStage 9)
  | 9 => s.becomeReady true
  | _ => s

/-- STARTUP_STAGE_COMPLETE (R464). -/
def execStartupStageComplete (ok : Bool) (failedChannels : List Channel) (s : State) : Host.Outcome State Fault Refusal :=
  .next (if s.starting && (s.mainPresent || s.standbyPresent || s.num Obj.startupStage != 1) then
      s.stageDone ok (failedChannels.map Fin.val)
    else s)

/-- REGULATOR_POWER_GOOD (R464, R465). -/
def execRegulatorPowerGood (n : BitVec 8) (s : State) : Host.Outcome State Fault Refusal :=
  .next { s with boot := { s.boot with
      powered := if s.boot.powered.contains n.toNat then s.boot.powered else s.boot.powered ++ [n.toNat]
      misses := Map.put 0 s.boot.misses n.toNat 0 } }

/-- REGULATOR_TIMEOUT (R465): three retries; the fourth miss is a failure, with the outcome that R464 gives for the stage. -/
def execRegulatorTimeout (n : BitVec 8) (s : State) : Host.Outcome State Fault Refusal :=
  .next (
    if !s.starting then s
    else
      let m := Map.get 0 s.boot.misses n.toNat + 1
      let s1 : State := { s with boot := { s.boot with misses := Map.put 0 s.boot.misses n.toNat m } }
      if m < 4 then s1.bump 32 Obj.regulatorRetries 1
      else
        let s2 := s1.setNum Obj.regulatorFailed n.toNat
        if s2.num Obj.startupStage = 1 then s2 else s2.failStart 2 n.toNat Ev.wakeFail n.toNat)

/-- XTAL_READY_TIMEOUT (R367, R464): whichever of stages 2–5 is in progress is abandoned. -/
def execXtalReadyTimeout (s : State) : Host.Outcome State Fault Refusal :=
  .next (if s.starting && !s.flag (Obj.sourceReady 1) && decide (2 ≤ s.num Obj.startupStage ∧ s.num Obj.startupStage ≤ 5) then
      s.failStart 1 0xFF Ev.wakeFail 1
    else s)

/-! ### Power-on (R442, R471) -/

/-- What the meter resumes from the newest record (R442). -/
def MeterState.resume (m : MeterState) : MeterState :=
  let r := Map.get [] m.records m.newest
  let entry (h : Nat) : Map Nat := (List.range 9).filterMap fun c =>
    let v := field r (160 + 96 * h + 8 * c) 8 * (if c = 8 then 100000 else 1)
    if v = 0 then none else some (16 * h + c, v)
  let gens : Map Nat := (List.range 16).filterMap fun h =>
    let v := field r (160 + 96 * h + 76) 4
    if v = 0 then none else some (h, v)
  { counters := (List.range 16).flatMap entry, generation := gens
    moduleEnergy := field r 128 8 * 100000, unattributed := field r 136 8 * 100000, ticks := field r 24 8
    records := m.records, newest := m.newest, gap := r != [] && !bitAt (field r 6 2) 0, firmwareChanged := m.firmwareChanged
    sealCounter := m.sealCounter, floor := m.floor, firmware := m.firmware }

/-- The meter's own objects after its power-on (R448). -/
def State.meterObjects (s : State) : State :=
  let m := s.meter
  let s1 := (s.setNum Obj.meterSealCounter m.sealCounter).setNum Obj.meterLastSequence m.newest
  let s2 := s1.setNum Obj.meterOldestSequence ((m.records.head?.map Prod.fst).getD 0)
  match m.firmware with
  | some b => s2.setBytes Obj.meterFirmwareHash (leBytes 64 (Config.meterImageHash b).toNat)
  | none => s2

/-- Power is applied, or lost, with InputState as given: only what is stored without power is kept (R471). -/
def State.unpower (s : State) (inputs : Nat) : State :=
  let s0 := (s.setModule 0).loseMemory
  let s1 : State := {
    pending := s0.pending, out := s0.out, freeCtr := s0.freeCtr
    dict := s0.dict.filter fun c => measured c.1 && !(decide (0xC010 ≤ c.1 / 256 ∧ c.1 / 256 < 0xC015))
    control := { store := s0.control.store, hoopStore := s0.control.hoopStore }
    security := {
      activationReadable := s0.security.activationReadable, slotA := s0.security.slotA, slotB := s0.security.slotB
      running := s0.security.running, floorTag := s0.security.floorTag }
    meter := s0.meter.resume, memory := s0.memory, optics := { tripped := s0.optics.tripped }
    boot := { resetting := some .powerOn } }
  (s1.setNum Obj.inputState inputs).meterObjects

/-- POWER_ON (R464, R471): from stage 1. -/
def execPowerOn (main standby : Bool) (s : State) : Host.Outcome State Fault Refusal :=
  .next ((s.unpower ((if main then 1 else 0) + if standby then 8 else 0)).beginStage 1)

/-! ### Loss and return of the inputs (R454, R466, R477, R480) -/

/-- An input has changed: a module that has none is off; one that loses the main input goes to Standby, from Ready, from stages 7
and 8, or from a lesser reset that then completes in Standby. -/
def State.inputsChanged (s : State) : State :=
  if !s.mainPresent && !s.standbyPresent then s.unpower (s.num Obj.inputState)
  else if s.mainPresent then s
  else if s.num Obj.moduleState = 2 ∨ (s.starting ∧ (s.num Obj.startupStage = 7 ∨ s.num Obj.startupStage = 8)) then
    (s.setModule 1).diesOff.enterStandby
  else if s.num Obj.moduleState = 0 ∧ !s.starting then s.diesOff
  else s

/-- MAIN_INPUT_LOSS (R466). -/
def execMainInputLoss (s : State) : Host.Outcome State Fault Refusal := .next (s.setInput [(0, false)]).inputsChanged

/-- MAIN_INPUT_APPEAR (R466): a module in Standby continues from stage 7. -/
def execMainInputAppear (s : State) : Host.Outcome State Fault Refusal :=
  let s1 := s.setInput [(0, true), (1, false), (2, false)]
  .next (if s1.num Obj.moduleState = 1 then (s1.setModule 0).beginStage 7 else s1)

/-- STANDBY_INPUT_CHANGE (R480). -/
def execStandbyInputChange (present : Bool) (s : State) : Host.Outcome State Fault Refusal :=
  .next ((s.setInput (if present then [(3, true), (4, false)] else [(3, false)])).inputsChanged)

/-- INPUT_FAULT (R454): a reversed input does not conduct, a 54 V input out of range is treated as absent. -/
def execInputFault (input : PowerInput) (kind : InputFault) (s : State) : Host.Outcome State Fault Refusal :=
  .next (match input, kind with
    | .main, .reversed => ((s.setInput [(0, false), (1, true)]).inputsChanged).raise Ev.inputFault { unit := 0 }
    | .main, .outOfRange => (s.setInput [(0, false), (2, true)]).inputsChanged
    | .standby, .reversed => ((s.setInput [(3, false), (4, true)]).inputsChanged).raise Ev.inputFault { unit := 1 }
    | .standby, .outOfRange => (s.setInput [(3, false)]).inputsChanged)

/-! ### Cold, warm and hub-only reset (R471–R474) -/

/-- What the hub's control plane keeps when the hub restarts: the store, and whether writes wait for a commit. -/
def ControlState.restarted (c : ControlState) : ControlState :=
  { store := c.store, hoopStore := c.hoopStore, uncoveredP := c.uncoveredP, uncoveredH := c.uncoveredH }

/-- What the security root keeps through a warm or hub-only reset (R427). -/
def SecurityState.restarted (x : SecurityState) : SecurityState := { x with stage := [], installing := none, quoting := [] }

/-- A commit that runs completes before the hub restarts (R423), and the one that was to follow it. -/
def State.finishCommits (s : State) : State :=
  let step (t : State) : State := match t.control.commit with
    | some j => t.commitDone j
    | none => t
  step (step s)

/-- Cold reset (R471): every die but the E die; start-up from stage 2. -/
def State.coldReset (s : State) : State :=
  let s0 := (s.setModule 0).loseMemory.loseLine
  let s1 := if s0.events.alerts = [] then s0 else s0.emit (.pin .alertL true)
  let s2 : State := { s1.keepObjects coldKeeps with
    control := { store := s1.control.store, hoopStore := s1.control.hoopStore }
    events := {}, time := {}, work := {}, pools := {}, tiles := [], fabric := {}, net := {}, power := {}
    security := { s1.security.restarted with identityReady := false }
    boot := { powered := s1.boot.powered.filter fun n => n == 3 || n == 195 || n == 232, resetting := some .cold } }
  ((s2.setNum Obj.lastResetClass 1).comeUp [0, 1, 2, 3, 4, 5, 6, 7]).beginStage 2

/-- What warm and hub-only reset share: work ends, the hub restarts, and the commands that were cut read ST_ABORTED (R159,
R472). -/
def State.restartHub (s : State) (keeps : Nat → Bool) (cls : ResetClass) (number : Nat) : State :=
  let s0 := ((s.finishCommits).setModule 0).endWork
  let s1 : State := { s0.keepObjects keeps with
    control := s0.control.restarted, security := s0.security.restarted, net := {}
    boot := { s0.boot with resetting := some cls, misses := [], flitFailures := [] } }
  let s2 := match newestRecord s1.control.store with
    | some r => s1.setNum Obj.persistSequence r.1
    | none => s1
  ((s2.setNum Obj.lastResetClass number).setNum Obj.resetCommandStatus St.busy).each s.cutJobs fun t k => t.setNum k St.aborted

/-- Warm reset (R471, R472): tiles, transports and the line start again; Faulted tiles stay Faulted (R105). -/
def State.warmReset (s : State) : State :=
  let s1 := (s.loseLine).restartHub warmKeeps .warm 2
  let clean (c : Nat × QpData) : Nat × QpData := (c.1, { bound := c.2.bound, hoop := c.2.hoop, port := c.2.port })
  let s2 : State := { s1 with
    tiles := [], power := {}, fabric := { s1.fabric with qps := s1.fabric.qps.map clean } }
  let s3 := s2.each (List.range 48) fun t i => if t.num (Obj.tileState i) = 5 then t else t.setNum (Obj.tileState i) 0
  s3.bump 32 Obj.warmResets 1

/-- Hub-only reset (R471, R472): the wales' sessions and repeat state end. -/
def State.hubReset (s : State) : State :=
  let s1 := s.restartHub hubKeeps .hub 3
  { s1 with line := { lanes := s1.line.lanes } }

/-- Hub firmware starts again after a warm or hub-only reset: the image of the slot that boot chooses (R429, R430). -/
def State.bootAgain (s : State) : Option State :=
  s.bootSlot.map fun n =>
    let s1 := s.runImage n
    if n = s1.num Obj.firmwareActiveSlot then s1
    else (s1.setP Obj.firmwareActiveSlot (.num n)).raise Ev.firmwareFallback { detail := n }

/-- The end of a warm or hub-only reset (R472, R474, R476): Ready, or Standby without a main input; the Limp state without a
valid image. -/
def State.resetDone (s : State) (warm : Bool) : State :=
  match s.bootAgain with
  | none => s.failStart 4 0xFF Ev.firmwareInvalid 0
  | some s0 =>
    let s1 := (s0.setNum Obj.resetCommandStatus St.ok).comeUp [0, 1, 2, 3, 4, 5, 6, 7]
    if !s1.mainPresent then s1.sizeMemory.countKept.enterStandby
    else
      let s2 := if warm then ((s1.comeUp dieDomains).ownAgain).trainFabric false else s1
      (s2.sizeMemory.countKept).becomeReady warm

/-! ### Per-die and per-hoop reset (R472) -/

/-- Reset of G die g: the chunks of its tiles restart on other tiles; a hoop that had one there and has no Idle or Busy tile outside
the die faults (R100, R102). -/
def State.resetG (s : State) (g : Nat) : State :=
  let tiles := (List.range 6).map (6 * g + ·)
  let owners := (List.range 16).filter fun h => tiles.any fun t => s.num (Obj.tileOwner t) == h && s.tileBound t
  let s1 := s.each tiles fun t i => (t.setNum (Obj.tileState i) 0).setNum (Obj.tileOwner i) 0xFF
  let s2 := s1.each tiles fun t i => t.moveChunks i true
  let s3 := { s2.keepObjects (dieKeeps (1 + g)) with tiles := Map.clear (fun t => decide (t / 6 = g)) s2.tiles }
  s3.each owners fun t h => if t.noTileLeft h then t.hoopFault h 11 (1 + g) else t

/-- Reset of F die f: its ports go down, its queue pairs go to Reset (R216). -/
def State.resetF (s : State) (f : Nat) : State :=
  let s1 := s.each (List.range 8) fun t i => t.portDown (8 * f + i)
  let s2 := s1.each ((s1.fabric.qps.map Prod.fst).filter fun q => q / 8192 == f && s1.num (Obj.qpState q) != 0) State.qpReset
  s2.keepObjects (dieKeeps (17 + f))

/-- The lanes that a die's reset makes dark (R472): of an L die, or those on the in-package ends of a P chiplet or the K die. -/
def State.lanesOfDie (s : State) (n : Nat) : List Nat :=
  (List.range 32).filter fun k =>
    (n == 19 + k / 16) || (s.num (Obj.lineLaneEnd k) == 1 && (n == 21 + k % 16 / 8 || n == 23))

/-- Reset of an L die, P chiplet or the K die: lanes go dark and leave their wales (R247, R472). -/
def State.resetOptical (s : State) (n : Nat) : State :=
  let lanes := s.lanesOfDie n
  let ends := lanes.map fun k => (k, s.num (Obj.lineLaneEnd k), s.num (Obj.lineLaneWale k), s.num (Obj.lineLaneMemberIndex k))
  let s1 := s.each lanes State.laneLeaves
  let s2 := s1.keepObjects (dieKeeps n)
  let s3 := s2.each ends fun t x =>
    ((t.setNum (Obj.lineLaneEnd x.1) x.2.1).setNum (Obj.lineLaneWale x.1) x.2.2.1).setNum (Obj.lineLaneMemberIndex x.1) x.2.2.2
  let fed (t : State) (k : Nat) : Bool := t.domainFailed (64 + k / 4 * 2) || t.domainFailed (65 + k / 4 * 2)
  let s4 := if n < 21 then s3.each lanes fun t k => if fed t k then (t.setLane k {}).setAis k .memory true else t.setLane k {} else s3
  s4.settleOptics

/-- A per-die reset begins (R472). -/
def State.dieReset (s : State) (n : Nat) : State :=
  let s0 : State := { s with boot := { s.boot with resetting := some (.die n) } }
  if n < 9 then s0.resetG (n - 1)
  else if n < 17 then
    let s1 := (s0.memoryDieLost (n - 9) 11).keepObjects (dieKeeps n)
    { s1 with memory := { s1.memory with migrations := Map.put [] s1.memory.migrations (n - 9) [] } }
  else if n < 19 then s0.resetF (n - 17)
  else s0.resetOptical n

/-- A per-die reset ends (R472, R476): the die runs, its tiles return to their hoops, its ports train. -/
def State.dieRuns (s : State) (n : Nat) : State :=
  let s1 := (s.endReset.setNum Obj.resetCommandStatus St.ok).comeUp (domainsOf n)
  if n < 9 then
    s1.each ((List.range 16).filter fun h => s1.num (Obj.hoopState h) != 0) fun t h =>
      t.each ((maskTiles (t.num (Obj.hoopTileMask h))).filter fun i => i / 6 == n - 1) fun u i => u.ownTile h i
  else if n < 17 then ((s1.listChannels (n - 9)).sizeMemory).memoryWorks (n - 9)
  else if n < 19 then s1.each ((List.range 16).filter fun p => p / 8 == n - 17 && (s1.port p).width != 0) State.trainPort
  else s1.settleOptics

/-! ### Commands (R470, R471, R477) -/

/-- Rank of a class: what covers more is higher (R477). -/
def ResetClass.rank : ResetClass → Nat
  | .hoop _ => 1
  | .die _ => 2
  | .hub => 3
  | .warm => 4
  | .cold => 5
  | .powerOn => 6

/-- Rank of the reset in progress, start-up included; 0 for none. -/
def State.resetRank (s : State) : Nat :=
  match s.boot.resetting with
  | some c => c.rank
  | none => if s.num Obj.moduleState = 0 then ResetClass.powerOn.rank else 0

/-- Status of a ResetCommand (R470, R471, R477). A reset of the class in progress is refused as a lesser one is (log entry 35). -/
def State.resetStatus (s : State) (c : ResetClass) : Nat :=
  let target := match c with
    | .die n => decide (1 ≤ n ∧ n ≤ 23)
    | .hoop h => decide (h < 16)
    | _ => true
  if s.limp && c != .cold then St.notPermittedInState
  else if !target then St.accessDenied
  else if c.rank ≤ s.resetRank then St.busy
  else St.ok

/-- A ResetCommand (R404, R471): its outcome stands in ResetCommandStatus; the request is answered before the reset acts. -/
def State.resetCommand (s : State) (rq : Requester) (number : Nat) (c : State → ResetClass) (act : State → State) : State :=
  s.checked rq Obj.resetCommand (.num number) none fun t =>
    let st := t.resetStatus (c t)
    let t1 := (t.setNum Obj.resetCommandStatus st).answer rq St.ok 0 0 []
    if st = St.ok then act t1 else t1

/-- RESET_COLD (R471). -/
def execResetCold (rq : Requester) (s : State) : Host.Outcome State Fault Refusal :=
  .next (s.resetCommand rq 1 (fun _ => .cold) State.coldReset)

/-- RESET_WARM (R471, R472). -/
def execResetWarm (rq : Requester) (s : State) : Host.Outcome State Fault Refusal :=
  .next (s.resetCommand rq 2 (fun _ => .warm) State.warmReset)

/-- RESET_HUB (R471, R472). -/
def execResetHub (rq : Requester) (s : State) : Host.Outcome State Fault Refusal :=
  .next (s.resetCommand rq 3 (fun _ => .hub) State.hubReset)

/-- RESET_DIE (R471, R472): ResetTarget names the die. -/
def execResetDie (rq : Requester) (s : State) : Host.Outcome State Fault Refusal :=
  .next (s.resetCommand rq 4 (fun t => .die (t.num Obj.resetTarget)) fun t =>
    (t.setNum Obj.resetCommandStatus St.busy).dieReset (t.num Obj.resetTarget))

/-- RESET_HOOP (R471): ResetTarget names the hoop; its work ends now, what Release does at RESET_COMPLETE. -/
def execResetHoop (rq : Requester) (s : State) : Host.Outcome State Fault Refusal :=
  .next (s.resetCommand rq 5 (fun t => .hoop (t.num Obj.resetTarget)) fun t =>
    let h := t.num Obj.resetTarget
    let t1 := ((t.setNum Obj.resetCommandStatus St.busy).abortJobs h (t.hoop h)).discardGroups h
    { t1 with boot := { t1.boot with resetting := some (.hoop h) } })

/-- RESET_L_ASSERT (R471): a cold reset, whatever is in progress. -/
def execResetLAssert (s : State) : Host.Outcome State Fault Refusal := .next s.coldReset

/-- RESET_COMPLETE (R476). -/
def execResetComplete (s : State) : Host.Outcome State Fault Refusal :=
  .next (match s.boot.resetting with
    | some .warm => s.resetDone true
    | some .hub => s.resetDone false
    | some (.die n) => s.dieRuns n
    | some (.hoop h) => ((s.releaseHoop h).endReset).setNum Obj.resetCommandStatus St.ok
    | _ => s)

/-! ### Die links and the event log (R451, R459, R463) -/

/-- DIE_LINK_FLIT_ERROR (R451): sixteen failures in a row on one link are as the failure of every domain of the receiving die. -/
def execDieLinkFlitError (sender receiver : Die) (s : State) : Host.Outcome State Fault Refusal :=
  let key := 32 * sender.val + receiver.val
  let n := Map.get 0 s.boot.flitFailures key + 1
  let put (t : State) (v : Nat) : State := { t with boot := { t.boot with flitFailures := Map.put 0 t.boot.flitFailures key v } }
  .next (
    if n < 16 then put s n
    else
      let s1 := (put s 0).bump 32 Obj.dieLinkFaults 1
      (s1.each (domainsOf receiver) State.enterSafe).raise Ev.dieLinkFault { die := receiver, unit := sender })

/-- Sequence a is not after sequence b: serial order, 0 never naming an entry (R457). -/
def sequenceReached (a b : Nat) : Bool := decide ((b + 2 ^ 32 - a) % 2 ^ 32 < 2 ^ 31)

/-- EVENT_ACK (R459, R462, R463). -/
def execEventAck (rq : Requester) (seq : BitVec 32) (s : State) : Host.Outcome State Fault Refusal :=
  .next (s.request rq Obj.eventAck (.num seq.toNat) none fun t =>
    if !sequenceReached seq.toNat (t.num Obj.eventLogNewest) then refuse St.accessDenied t
    else
      let left := t.events.alerts.filter fun e => !sequenceReached e seq.toNat
      let t1 : State := { t with events := { t.events with alerts := left } }
      let t2 := t1.setNum Obj.eventUnacked left.length
      (if left = [] ∧ t.events.alerts ≠ [] then t2.emit (.pin .alertL true) else t2, St.ok))

end Sys2Proof.Machine
end

