-- ==== Sys2Proof/Machine/Hoops.lean ====
section
/-! DEFINITION. The commands of hoops, admission and evacuation (chapter 2). -/

namespace Sys2Proof.Machine

open Sys2Proof

/-- A HoopCommand: its outcome is reported in HoopCommandStatus (R29). -/
def State.hoopCommand (s : State) (rq : Requester) (h command : Nat) (f : State → State × Nat) : State :=
  s.request rq (Obj.hoopCommand h) (.num command) none (reported (Obj.hoopCommandStatus h) f)

/-- CONFIGURE (R27, R31). -/
def execConfigure (rq : Requester) (h : Hoop) (s : State) : Host.Outcome State Fault Refusal :=
  .next (s.hoopCommand rq h 1 fun t => t.configure h)

/-- ADMIT (R27, R33, R197). -/
def execAdmit (rq : Requester) (h : Hoop) (s : State) : Host.Outcome State Fault Refusal :=
  .next (s.hoopCommand rq h 2 fun t => t.admitJob h)

/-- START (R27). -/
def execStart (rq : Requester) (h : Hoop) (s : State) : Host.Outcome State Fault Refusal :=
  .next (s.hoopCommand rq h 3 fun t => t.start h)

/-- DRAIN (R27). -/
def execDrain (rq : Requester) (h : Hoop) (s : State) : Host.Outcome State Fault Refusal :=
  .next (s.hoopCommand rq h 4 fun t => t.drainCommand h)

/-- EVACUATE (R27, R39–R41). -/
def execEvacuate (rq : Requester) (h : Hoop) (s : State) : Host.Outcome State Fault Refusal :=
  .next (s.hoopCommand rq h 5 fun t => t.evacuateCommand h)

/-- UNBIND (R27, R153). -/
def execUnbind (rq : Requester) (h : Hoop) (s : State) : Host.Outcome State Fault Refusal :=
  .next (s.hoopCommand rq h 6 fun t => t.unbind h)

/-- RELEASE (R27, R43). -/
def execRelease (rq : Requester) (h : Hoop) (s : State) : Host.Outcome State Fault Refusal :=
  .next (s.hoopCommand rq h 7 fun t => t.release h)

/-- Key and effect of a reservation write (R32). -/
def reservationKey (h : Nat) : Reservation → Nat
  | .memory => Obj.hoopMemoryCapacity h
  | .tiles => Obj.hoopTileMask h
  | .contexts => Obj.hoopContextMinimum h
  | .pool k c => minimumKey h k c

/-- The effect of a reservation write (R32, R204). -/
def reservationEffect (h v : Nat) : Reservation → Effect
  | .memory => memoryEffect h v
  | .tiles => tileMaskEffect h v
  | .contexts => contextEffect h v
  | .pool k c => poolMinimumEffect h k c v

/-- HOOP_RESERVATION_WRITE (R32). -/
def execHoopReservationWrite (rq : Requester) (h : Hoop) (object : Reservation) (value : BitVec 64) (s : State) :
    Host.Outcome State Fault Refusal :=
  .next (s.request rq (reservationKey h object) (.num value.toNat) none (reservationEffect h value.toNat object))

/-- The effect of a write of EvacuationTarget (R40). -/
def evacuationTargetEffect (h : Nat) (value : Bytes) : Effect := fun s =>
  if value.length ≠ 32 ∨ 2 < targetKind value then refuse St.accessDenied s
  else plainWrite (Obj.evacuationTarget h) (.blob value) s

/-- EVACUATION_TARGET_WRITE (R40). -/
def execEvacuationTargetWrite (rq : Requester) (h : Hoop) (value : Bytes) (s : State) : Host.Outcome State Fault Refusal :=
  .next (s.request rq (Obj.evacuationTarget h) (.blob value) none (evacuationTargetEffect h value))

/-- EVACUATION_COMPLETE (R39, R40): the parts and the manifest are written. To an RDMA target that ends the evacuation; a peer
answers after the manifest. A frame of another hoop stops it (R202): the hoop faults, and EVACUATION_TIMEOUT ends the evacuation. -/
def execEvacuationComplete (h : Hoop) (s : State) : Host.Outcome State Fault Refusal :=
  match (s.hoop h).evacuation with
  | none => .next s
  | some e =>
    let s1 := (s.writeEvacuation h e).noteEvacuationReads h
    let s2 := s1.setNum (Obj.evacuationBytesWritten h) (s.evacuationLength h)
    if (s.evacuationForeign h).isSome then .next (s.ownerFault h ((s.evacuationForeign h).getD 0))
    else if e.toPeer then .next s2
    else .next ((s2.setHoop h { s2.hoop h with evacuation := none }).setNum (Obj.evacuationStatus h) St.ok)

/-- An evacuation ends with a status. -/
def State.endEvacuation (s : State) (h status : Nat) : State :=
  (s.setHoop h { s.hoop h with evacuation := none }).setNum (Obj.evacuationStatus h) status

/-- EVACUATION_TIMEOUT (R41). How much had been written no command says. -/
def execEvacuationTimeout (h : Hoop) (s : State) : Host.Outcome State Fault Refusal :=
  if (s.hoop h).evacuation.isSome then
    .next ((s.countUp (Obj.evacuationBytesWritten h) (s.evacuationLength h)).endEvacuation h St.timeout)
  else .next s

/-- The hoop may take an evacuated state: a shadow in Loading, or Stopped with a job bound under the evacuating hoop's PlanHash,
which is that of the hoop session (R40, R277). -/
def State.mayTake (s : State) (h : Nat) (planHash : Bytes) : Bool :=
  s.num (Obj.shadowState h) == 1 ||
    (s.num (Obj.hoopState h) == 4 && (s.hoop h).bound && s.bytes (Obj.planHash h) == planHash)

/-- The manifest gives the length and digest of each of the five parts as they came (R39, R40). -/
def digestsMatch (parts : List Bytes) (manifest : Bytes) : Bool :=
  manifest.take 360 == parts.flatMap fun p => leBytes 8 p.length ++ sha3Bytes p

/-- The bytes of a part cut over pieces of regions: buffer, parity, offset, bytes. -/
def cutPieces : List (Nat × Nat × Nat × Nat) → Bytes → List (Nat × Nat × Nat × Bytes)
  | [], _ => []
  | x :: rest, b => (x.1, x.2.1, x.2.2.1, b.take x.2.2.2) :: cutPieces rest (b.drop x.2.2.2)

/-- Deferred streams as part 5 carries them (log entry 25). -/
def readDeferred : Nat → Bytes → List (Nat × Nat × Nat × Nat × Bytes)
  | 0, _ => []
  | fuel + 1, b =>
    if b.length < 20 then []
    else
      (field b 0 4, field b 4 4, field b 8 4, field b 12 4, slice b 20 (field b 16 4)) ::
        readDeferred fuel (b.drop (20 + field b 16 4))

/-- Parts 3, 4 and 5 go into the regions that the plan binds, and the deferred streams into the hoop's deferred queue. A shadow sets
OuterStepCounter to the header's last completed step plus one and compares from then on (R337); elsewhere the user sets the
counter (R40). -/
def State.takeState (s : State) (h : Nat) (parts : List Bytes) : State :=
  let part (k : Nat) : Bytes := parts[k - 1]?.getD []
  let pieces (k : Nat) := s.classPieces h (partClass k)
  let s1 := s.each ([3, 4, 5].flatMap fun k => cutPieces (pieces k) (part k)) fun t p => t.deliverPlan h p.1 p.2.1 p.2.2.1 p.2.2.2
  let rest := (part 5).drop (piecesLength (pieces 5))
  let s2 := s1.setHoop h { s1.hoop h with deferred := readDeferred rest.length rest }
  if s2.num (Obj.shadowState h) = 1 then
    (s2.setNum (Obj.outerStepCounter h) ((field (part 1) 8 4 + 1) % 2 ^ 32)).setNum (Obj.shadowState h) 2
  else s2

/-- EVACUATION_RECEIVED (R40): the hoop of the session takes the state, and the module answers on the same session and VC. -/
def execEvacuationReceived (w : Wale) (session : SessionNo) (parts : List Bytes) (manifest : Bytes) (s : State) :
    Host.Outcome State Fault Refusal :=
  let x := s.session w session
  if x.state ≠ 2 ∨ 16 ≤ x.hoop then .next s
  else
    let h := x.hoop
    let status := if !s.mayTake h x.planHash then St.notPermittedInState else if !digestsMatch parts manifest then St.uncorrectable
      else St.ok
    let s1 := if status = St.ok then s.takeState h parts else s
    .next (s1.enqueue w {
      owner := h, vc := 3, session := session, origin := s.num Obj.fabricAddress,
      destination := (s.wale w).handshake.peerAddress, tail := List.replicate 10 0,
      payload := beBytes 2 status ++ sha3Bytes manifest, entered := 0 })

/-- EVACUATION_STATUS_RECEIVED (R40): EvacuationStatus takes the peer's status. A peer that has
taken the state may be the hoop's shadow (R337). -/
def execEvacuationStatusReceived (w : Wale) (session : SessionNo) (payload : Bytes) (s : State) :
    Host.Outcome State Fault Refusal :=
  let x := s.session w session
  if x.state ≠ 2 ∨ 16 ≤ x.hoop then .next s
  else if (s.hoop x.hoop).evacuation.any Evacuation.toPeer then
    let status := beNat (payload.take 2)
    let s1 := if status = St.ok then s.setHoop x.hoop { s.hoop x.hoop with shadow := some (s.wale w).handshake.peerAddress } else s
    .next (s1.endEvacuation x.hoop status)
  else .next s

end Sys2Proof.Machine
end

