-- ==== Sys2Proof/Machine/Images.lean ====
section
/-! DEFINITION. The commands of weave images and job plans (chapter 7). -/

namespace Sys2Proof.Machine

open Sys2Proof

/-- The effect of a staging write (R147, R148). -/
def stageEffect (h : Nat) (piece : Bytes) : Effect := fun s =>
  let x := s.hoop h
  let off := field piece 0 4
  let n := piece.length - 4
  if x.job.any ImageJob.loads then refuse St.busy s
  else if piece.length < 5 ∨ 4096 < n ∨ 8388608 < off + n then refuse St.lenExceeded s
  else ((s.setHoop h { x with stage := x.stage.writeBytes off (piece.drop 4) }).clearLines
    ((List.range (ceilDiv (off % 64 + n) 64)).map fun i => s.regionLine .staging h 0 (off / 64 + i)), St.ok)

/-- IMAGE_STAGE_WRITE (R147). -/
def execImageStageWrite (rq : Requester) (h : Hoop) (piece : Bytes) (s : State) : Host.Outcome State Fault Refusal :=
  .next (s.request rq (Obj.imageStageWrite h) (.blob piece) none (stageEffect h piece))

/-- IMAGE_LOAD (R148). -/
def execImageLoad (rq : Requester) (h : Hoop) (s : State) : Host.Outcome State Fault Refusal :=
  .next (s.request rq (Obj.imageCommand h) (.num 1) none (jobCommand h fun t => t.loadImage h false))

/-- IMAGE_LOAD_PENDING (R148, R158). -/
def execImageLoadPending (rq : Requester) (h : Hoop) (s : State) : Host.Outcome State Fault Refusal :=
  .next (s.request rq (Obj.imageCommand h) (.num 2) none (jobCommand h fun t => t.loadImage h true))

/-- IMAGE_CANCEL_PENDING (R159). -/
def execImageCancelPending (rq : Requester) (h : Hoop) (s : State) : Host.Outcome State Fault Refusal :=
  .next (s.request rq (Obj.imageCommand h) (.num 3) none (jobCommand h fun t => t.cancelPending h))

/-- IMAGE_CLEAR (R146, R159). -/
def execImageClear (rq : Requester) (h : Hoop) (s : State) : Host.Outcome State Fault Refusal :=
  .next (s.request rq (Obj.imageCommand h) (.num 4) none (jobCommand h fun t => t.clearImage h))

/-- IMAGE_COMMAND_COMPLETE (R149). -/
def execImageCommandComplete (h : Hoop) (s : State) : Host.Outcome State Fault Refusal := .next (s.finishJob h false)

/-- PLAN_LOAD (R153). -/
def execPlanLoad (rq : Requester) (h : Hoop) (s : State) : Host.Outcome State Fault Refusal :=
  .next (s.request rq (Obj.planCommand h) (.num 1) none (jobCommand h fun t => t.loadPlan h))

/-- PLAN_UNLOAD (R153). -/
def execPlanUnload (rq : Requester) (h : Hoop) (s : State) : Host.Outcome State Fault Refusal :=
  .next (s.request rq (Obj.planCommand h) (.num 2) none (jobCommand h fun t => t.unloadPlan h))

/-- PLAN_COMMAND_COMPLETE (R153). -/
def execPlanCommandComplete (h : Hoop) (s : State) : Host.Outcome State Fault Refusal := .next (s.finishJob h true)

/-- PENDING_IMAGE_ACTIVATION (R158). -/
def execPendingImageActivation (h : Hoop) (slot : Fin 16) (s : State) : Host.Outcome State Fault Refusal :=
  .next (if s.slotDue h slot then s.activateSlot h slot else s)

end Sys2Proof.Machine
end

