-- ==== Sys2Proof/Machine/Codeword.lean ====
section
/-! DEFINITION. The outer code of module memory (R180): Reed–Solomon over GF(2^8), its check bytes and its decoder, and where a byte of
a line lies on its channel (R181). -/

namespace Sys2Proof.Machine

open Sys2Proof

/-! ### The field of R180 -/

/-- Twice an element: the field is generated by x^8 + x^4 + x^3 + x^2 + 1. -/
def gfDouble (a : Nat) : Nat := if 2 * a < 256 then 2 * a else 2 * a ^^^ 0x11D

/-- Product of an element and the low n bits of another. -/
def gfMulBits : Nat → Nat → Nat → Nat
  | 0, _, _ => 0
  | n + 1, a, b => (if b % 2 = 1 then a else 0) ^^^ gfMulBits n (gfDouble a) (b / 2)

/-- Product of two elements. -/
def gfMul (a b : Nat) : Nat := if a = 0 then 0 else gfMulBits 8 a b

/-- Power of an element. -/
def gfPow (a : Nat) : Nat → Nat
  | 0 => 1
  | n + 1 => gfMul a (gfPow a n)

/-- Power of the generator, with exponents modulo 255. -/
def gfExp (n : Nat) : Nat := gfPow 2 (n % 255)

/-- Inverse of an element that is not 0. -/
def gfInv (a : Nat) : Nat := gfPow a 254

/-- Value of a polynomial, lowest coefficient first. -/
def gfEval (p : List Nat) (x : Nat) : Nat := p.foldr (fun c acc => c ^^^ gfMul x acc) 0

/-- Sum of two polynomials. -/
def gfAdd : List Nat → List Nat → List Nat
  | [], q => q
  | p, [] => p
  | a :: p, b :: q => (a ^^^ b) :: gfAdd p q

/-! ### Check bytes (R180; roots and byte order: log entry 147) -/

/-- The generator polynomial without its leading 1, lowest coefficient first: roots α^1 to α^8. -/
def rsGenerator : List Nat :=
  ((List.range 8).foldl (fun p i => gfAdd (0 :: p) (p.map (gfMul (gfExp (i + 1))))) [1]).take 8

/-- The remainder register, highest coefficient first, after one more symbol of the message. -/
def rsStep (reg : List Nat) (m : Nat) : List Nat :=
  let f := m ^^^ reg.headD 0
  gfAdd ((reg.drop 1) ++ [0]) (rsGenerator.reverse.map (gfMul f))

/-- The six virtual bytes of a data line: channel number, physical line number (R180). -/
def virtualBytes (channel phys : Nat) : Bytes := leBytes 2 channel ++ leBytes 4 phys

/-- The eight check bytes of a data line (R180). -/
def checkBytes (channel phys : Nat) (line : Bytes) : Bytes :=
  ((virtualBytes channel phys ++ line).foldl (fun reg b => rsStep reg b.toNat) (List.replicate 8 0)).map (BitVec.ofNat 8)

/-! ### The decoder (R180) -/

/-- The eight syndromes of a codeword of 72 stored bytes with its virtual bytes. -/
def syndromes (channel phys : Nat) (word : Bytes) : List Nat :=
  let c := virtualBytes channel phys ++ word
  (List.range 8).map fun i => c.foldl (fun acc b => gfMul (gfExp (i + 1)) acc ^^^ b.toNat) 0

/-- Where the error locator stands after a number of syndromes: locator, previous locator, errors, shift, previous discrepancy. -/
structure Locator where
  c : List Nat := [1]
  b : List Nat := [1]
  errors : Nat := 0
  shift : Nat := 1
  last : Nat := 1

/-- The locator after syndrome n. -/
def Locator.next (s : List Nat) (l : Locator) (n : Nat) : Locator :=
  let d := (List.range (l.errors + 1)).foldl (fun acc i => acc ^^^ gfMul (l.c.getD i 0) (s.getD (n - i) 0)) 0
  if d = 0 then { l with shift := l.shift + 1 }
  else
    let c := gfAdd l.c (List.replicate l.shift 0 ++ l.b.map (gfMul (gfMul d (gfInv l.last))))
    if 2 * l.errors ≤ n then { c := c, b := l.c, errors := n + 1 - l.errors, shift := 1, last := d }
    else { l with c := c, shift := l.shift + 1 }

/-- The error locator of eight syndromes. -/
def errorLocator (s : List Nat) : Locator := (List.range 8).foldl (Locator.next s) {}

/-- The locator element of byte k of the 72 stored bytes: the last one has the lowest power. -/
def locatorOf (k : Nat) : Nat := gfExp (71 - k)

/-- The error in byte k that a locator and the syndromes give. -/
def errorValue (s c : List Nat) (k : Nat) : Nat :=
  let x := gfInv (locatorOf k)
  let term (n i : Nat) : Nat := gfMul (c.getD i 0) (s.getD (n - i) 0)
  let value := (List.range 8).map fun n => (List.range (n + 1)).foldl (fun acc i => acc ^^^ term n i) 0
  let slope := c.zipIdx.map fun t => if t.2 % 2 = 1 then t.1 else 0
  gfMul (gfEval value x) (gfInv (gfEval (slope.drop 1) x))

/-- Decode 72 stored bytes of a data line: the word as corrected and the bytes that were wrong, at most 3; none for a word that is
further from every codeword (R180). -/
def decodeWord (channel phys : Nat) (word : Bytes) : Option (Bytes × List Nat) :=
  let s := syndromes channel phys word
  if s.all (· == 0) then some (word, [])
  else
    let l := errorLocator s
    let wrong := (List.range 72).filter fun k => gfEval l.c (gfInv (locatorOf k)) == 0
    let fixed := word.zipIdx.map fun x =>
      if wrong.contains x.2 then x.1 ^^^ BitVec.ofNat 8 (errorValue s l.c x.2) else x.1
    if l.errors ≤ 3 ∧ wrong.length = l.errors ∧ (syndromes channel phys fixed).all (· == 0) then some (fixed, wrong) else none

/-! ### Pins and beats (R177, R181) -/

/-- DQ pin of byte k of a line, data or check, and the beat that carries its bit b. -/
def linePin (k : Nat) : Nat := k % 16
def lineBeat (k b : Nat) : Nat := 8 * (k / 16) + b

/-- The byte of a burst of 32 beats over 16 pins: where each bit of byte k of the line travels. -/
def burstByte (burst : Nat → Nat → Bool) (k : Nat) : Byte :=
  BitVec.ofNat 8 ((List.range 8).foldl (fun acc b => if burst (lineBeat k b) (linePin k) then acc + 2 ^ b else acc) 0)

/-- The pin of byte k of the codeword of the data line in slot i of its group: bytes 64–71 are its check bytes, at 8i to 8i + 7 of the
check line. -/
def pinOf (slot k : Nat) : Nat := if k < 64 then linePin k else linePin (8 * slot + (k - 64))

end Sys2Proof.Machine
end

