-- ==== Sys2Proof/Machine/ModuleMemory.lean ====
section
/-! DEFINITION. The commands of module memory (chapter 9): patrol scrub (R185), map-out and its migration (R186–R188, R203),
restore. -/

namespace Sys2Proof.Machine

open Sys2Proof

/-- A channel's data beside its objects. -/
def State.channel (s : State) (c : Nat) : ChannelData := Map.get {} s.memory.channels c

/-- The state with a channel's data set. -/
def State.setChannel (s : State) (c : Nat) (x : ChannelData) : State :=
  { s with memory := { s.memory with channels := Map.put {} s.memory.channels c x } }

/-- Channels of die m that are migrating out, the running one first (R188). -/
def State.migrating (s : State) (m : Nat) : List Nat := Map.get [] s.memory.migrations m

/-- Frames of 2 MiB in one channel's usable bytes. -/
def channelFrames : Nat := channelBytes / frameBytes

/-! ### Map-out (R186, R187, R203) -/

/-- A free frame for one that has to move: the lowest of its die, else of the die with the most free frames (R203). -/
def State.newPlace (s : State) (m : Nat) : Option Nat :=
  match s.freeFrame m with
  | some f => some (frameKey m f)
  | none =>
    let free (d : Nat) : Nat := s.num (Obj.diePoolFrames d) - (s.heldFrames.filter fun c => c.1 / 2 ^ 17 == d).length
    let best := (List.range 8).foldl (fun b d => if free b < free d then d else b) 0
    (s.freeFrame best).map (frameKey best)

/-- Move one held frame: copied, its place in the frame table changed, the old place zeroed (R203); its handles and the lines that
read uncorrectable go with it, once the copy has met them (R184). -/
def State.moveFrame (s : State) (key : Nat) (f : Frame) : State :=
  match s.newPlace (key / 2 ^ 17) with
  | none => s
  | some new =>
    let a := frameAddress key
    let b := frameAddress new
    let moved := { f with place := s.freePlace (new / 2 ^ 17) f.cls }
    let bad := s.memory.bad.map fun l => if lineIn a frameBytes l then l - a / 64 + b / 64 else l
    let s1 := (((s.noteBadLines (s.badLines a frameBytes)).bump 64 Obj.poolFramesMoved 1).setFrame key none).setFrame new (some (if new / 2 ^ 17 = key / 2 ^ 17 then f else moved))
    { s1 with
      mem := (s1.mem.zero a frameBytes).writeBytes b (s1.mem.readBytes a frameBytes)
      memory := { s1.memory with bad := bad } }

/-- Step 1 of a map-out (R31, R187, R203): the channel joins the list, which a commit takes into the persistent store. -/
def State.startMapOut (s : State) (c : Nat) : State :=
  let m := c / 80
  let s1 := (((s.loseChannel c).setNum (Obj.channelState c) 1).beginCommit none).takeHoops
  let s2 := s1.lower (Obj.diePoolFrames m) channelFrames
  let bound := s2.firstPoolFrame + s2.num (Obj.diePoolFrames m)
  let s3 := s2.each (s2.heldFrames.filter fun f => f.1 / 2 ^ 17 == m && decide (bound ≤ f.1 % 2 ^ 17)) fun t f => t.moveFrame f.1 f.2
  s3.each (List.range 16) State.countPools

/-- A map-out of channel c: on a die that migrates it waits until the first has completed its step 3 (R188). -/
def State.beginMapOut (s : State) (c : Nat) : State :=
  let m := c / 80
  let s1 : State := { s with memory := { s.memory with migrations := Map.put [] s.memory.migrations m (s.migrating m ++ [c]) } }
  if s.migrating m = [] then s1.startMapOut c else s1

/-- A map-out of channel c is refused (R186): it would leave its die fewer than 64 live channels, or the channel is not Active, or its
map-out waits. -/
def State.mapOutRefused (s : State) (c : Nat) : Bool :=
  let m := c / 80
  s.num (Obj.channelState c) != 0 || (s.migrating m).contains c || decide ((s.liveChannels m).length - (s.migrating m).length ≤ 64)

/-- Channel c is a candidate (R186): reported, and mapped out where the policy or an operator asks for it. -/
def State.candidate (s : State) (c : Nat) (operator : Bool) : State :=
  let s1 := s.raise Ev.channelMapOut { die := 9 + c / 80, unit := c }
  if !operator && s1.num Obj.mapOutPolicy == 0 then s1
  else if s1.mapOutRefused c then s1.setNum (Obj.channelCommandStatus c) St.notPermittedInState
  else s1.beginMapOut c

/-- CHANNEL_MAP_OUT (R186, R187). -/
def execChannelMapOut (rq : Requester) (c : Channel) (s : State) : Host.Outcome State Fault Refusal :=
  .next (s.request rq (Obj.channelCommand c) (.num 1) none (reported (Obj.channelCommandStatus c) fun t =>
    if t.num (Obj.channelState c) ≠ 0 ∨ (t.migrating (c / 80)).contains c.val then (t, St.notPermittedInState)
    else
      let r := t.mapOutRefused c
      (t.candidate c true, if r then St.notPermittedInState else St.ok)))

/-- CHANNEL_RESTORE (R188): accepted only while every hoop is Empty; it acts at the next power-on or cold reset. -/
def execChannelRestore (rq : Requester) (c : Channel) (s : State) : Host.Outcome State Fault Refusal :=
  .next (s.request rq (Obj.channelCommand c) (.num 2) none (reported (Obj.channelCommandStatus c) fun t =>
    if (List.range 16).any (fun h => t.num (Obj.hoopState h) != 0) ∨ !bitAt (leNat (t.bytes Obj.mappedOutChannels)) c then
      (t, St.notPermittedInState)
    else (t.setChannel c { t.channel c with restore := true }, St.ok)))

/-- The channels of a die start a new scrub pass (R187 step 4). -/
def State.restartScrub (s : State) (m : Nat) : State :=
  s.each (List.range 80) fun t j =>
    let c := 80 * m + j
    let x := t.channel c
    let t1 := if x.pins = [] ∧ x.passUncorrectable = 0 ∧ x.position = 0 then t
      else t.setChannel c { x with pins := [], passUncorrectable := 0, position := 0 }
    (t1.setNum (Obj.channelCorrectedPass c) 0).setNum (Obj.channelWorstPin c) 0xFF

/-- Lines that the copy of a migration could not correct: every one that it reads counts, and each of them stays uncorrectable in its
new place (R184, R187). -/
def State.copyFails (s : State) (m : Nat) (lines : List Nat) : State :=
  let top := (s.num (Obj.dieUsableBytes m) - channelBytes) / 64
  let read (l : Nat) : Bool := l / 2 ^ 32 == m && decide (l % 2 ^ 32 < top)
  let fresh := lines.filter fun l => read l && !s.memory.bad.contains l
  let s1 : State := { s with memory := { s.memory with bad := fresh ++ s.memory.bad } }
  s1.noteBadLines (s1.memory.bad.filter read)

/-- MIGRATION_COMPLETE (R187, R188): the copy is made, with the module lines that it could not correct; steps 3 and 4 of the running
map-out of die m; the one that waits begins its step 1. -/
def execMigrationComplete (m : MDie) (failed : List Nat) (s : State) : Host.Outcome State Fault Refusal :=
  match s.migrating m with
  | [] => .next s
  | c :: rest =>
    let s0 := s.copyFails m failed
    let s1 : State := { s0 with memory := { s0.memory with migrations := Map.put [] s0.memory.migrations m rest } }
    let s2 := ((s1.setNum (Obj.channelState c) 2).lower (Obj.dieLiveChannels m) 1).lower (Obj.dieUsableBytes m) channelBytes
    let s3 := ((s2.lower Obj.memoryUsableBytes channelBytes).bump 16 Obj.channelsMappedOut 1).setNum (Obj.dieMigrationProgress m) 0
    let s4 := (s3.raise Ev.channelMappedOut { die := 9 + m, unit := c }).restartScrub m
    .next (match rest with
      | [] => s4
      | next :: _ => s4.startMapOut next)

/-! ### Scrub (R177, R180, R185) -/

/-- Physical lines of a channel (R176). -/
def channelLines : Nat := 33554432

/-- The next data line of a channel in ascending order: check lines hold no codeword of their own (R176, R177). -/
def nextLine (p : Nat) : Nat := if p % 8 = 6 then p + 2 else p + 1

/-- The 64 bytes of a data line of a channel. -/
def State.lineBytes (s : State) (c phys : Nat) : Bytes :=
  match s.dataLine c phys with
  | some l => s.mem.readBytes (l * 64) 64
  | none => []

/-- The check line of a group (R177): eight check bytes of each of its data lines, then 8 reserved bytes that the controller writes 0. -/
def State.checkLine (s : State) (c group : Nat) : Bytes :=
  ((List.range 7).flatMap fun i => checkBytes c (8 * group + i) (s.lineBytes c (8 * group + i))) ++ List.replicate 8 0

/-- The codeword of a data line as it was last written: the line, then its check bytes from its group's check line (R177, R180). -/
def State.codeword (s : State) (c phys : Nat) : Bytes :=
  s.lineBytes c phys ++ slice (s.checkLine c (phys / 8)) (8 * (phys % 8)) 8

/-- The pin with the most corrections, the lowest first; 0xFF with none. -/
def worstPin (pins : Map Nat) : Nat :=
  ((pins.foldl (fun (b : Nat × Nat) p => if b.2 < p.2 then p else b) (0xFF, 0))).1

/-- Sixteen uncorrectable codewords in the pass, or within 86,400 s (R186). -/
def State.manyUncorrectable (s : State) (c : Nat) : Bool :=
  let x := s.channel c
  decide (16 ≤ x.passUncorrectable) ||
    decide (16 ≤ (x.times.filter fun t => decide (s.now ≤ t + 86400 * 1000000000)).length)

/-- A codeword that scrub could not correct (R185): counted, and left as it is. -/
def State.scrubFails (s : State) (c line : Nat) : State :=
  let x := s.channel c
  let s1 := (s.bump 32 (Obj.channelUncorrectable c) 1).bump 64 Obj.scrubUncorrectable 1
  let s2 := s1.setChannel c { x with passUncorrectable := x.passUncorrectable + 1, times := s.now :: x.times }
  let s3 : State := match s2.dataLine c line with
    | some l => if s2.memory.bad.contains l then s2 else { s2 with memory := { s2.memory with bad := l :: s2.memory.bad } }
    | none => s2
  if s3.manyUncorrectable c then s3.candidate c false else s3

/-- A codeword that scrub has corrected (R185): written back, counted, each corrected byte attributed to its pin. -/
def State.scrubCorrects (s : State) (c line : Nat) (word : Bytes) (wrong : List Nat) : State :=
  let x := s.channel c
  let pins := wrong.foldl (fun p k =>
    let pin := pinOf (line % 8) k
    Map.put 0 p pin (Map.get 0 p pin + 1)) x.pins
  let s1 := (s.bump 32 (Obj.channelCorrected c) 1).bump 32 (Obj.channelCorrectedPass c) 1
  let s2 := (s1.setChannel c { x with pins := pins }).setNum (Obj.channelWorstPin c) (worstPin pins)
  match s2.dataLine c line with
  | some l => s2.store (l * 64) (word.take 64)
  | none => s2

/-- SCRUB_CODEWORD_READ (R185): the next codeword of channel c in physical order, as its 72 bytes were read. Nothing is scrubbed on a die
that is migrating. A line that reads uncorrectable does so until it is next written (R184). -/
def execScrubCodewordRead (c : Channel) (word : Bytes) (s : State) : Host.Outcome State Fault Refusal :=
  let x := s.channel c
  let line := x.position
  if s.num (Obj.channelState c) ≠ 0 ∨ s.migrating (c / 80) ≠ [] ∨ channelLines ≤ line then .next s
  else
    let s1 := s.setChannel c { x with position := nextLine line }
    let torn := (s.dataLine c line).any s.memory.bad.contains
    match if torn then none else decodeWord c line word with
    | none => .next (s1.scrubFails c line)
    | some (fixed, wrong) => .next (if wrong = [] then s1 else s1.scrubCorrects c line fixed wrong)

/-- ScrubPassCount: completed passes of the slowest live channel (R190). -/
def State.countPasses (s : State) : State :=
  let live := (List.range 640).filter s.channelLive
  s.setNum Obj.scrubPassCount ((live.map fun c => (s.channel c).passes).min?.getD 0)

/-- SCRUB_PASS_COMPLETE (R185, R186): every codeword of the channel has been read; the pass is judged, then its counts are cleared. -/
def execScrubPassComplete (c : Channel) (s : State) : Host.Outcome State Fault Refusal :=
  if s.num (Obj.channelState c) ≠ 0 ∨ s.migrating (c / 80) ≠ [] ∨ (s.channel c).position < channelLines then .next s
  else
    let x := s.channel c
    let bad := decide (s.num Obj.mapOutCorrectedThreshold ≤ s.num (Obj.channelCorrectedPass c)) ||
      x.pins.any (fun p => decide (s.num Obj.mapOutPinThreshold ≤ p.2)) || s.manyUncorrectable c
    let s1 := if bad then s.candidate c false else s
    let s2 := s1.setChannel c { s1.channel c with pins := [], passUncorrectable := 0, position := 0, passes := x.passes + 1 }
    .next (((s2.setNum (Obj.channelCorrectedPass c) 0).setNum (Obj.channelWorstPin c) 0xFF).countPasses)

/-- SCRUB_PERIOD_EXPIRY (R185): the pass is late and goes on. -/
def execScrubPeriodExpiry (c : Channel) (s : State) : Host.Outcome State Fault Refusal :=
  if s.channelLive c then .next (s.raise Ev.scrubLate { die := 9 + c.val / 80, unit := c }) else .next s

end Sys2Proof.Machine
end

