-- ==== Sys2Proof/Machine/Operands.lean ====
section
/-! DEFINITION. Operands of tile instructions: the instruction word (R115), the decoder's checks (R116), registers (R106),
effective addresses (R117), access to the tile store (R108) and to regions (R109). -/

namespace Sys2Proof.Machine

open Sys2Proof

/-! ### Exceptions (R134) -/

namespace Ex

def illegal : Nat := 0x01
def fetch : Nat := 0x02
def address : Nat := 0x03
def uninit : Nat := 0x04
def bounds : Nat := 0x05
def parity : Nat := 0x06
def format : Nat := 0x07
def range : Nat := 0x08
def emit : Nat := 0x09
def loop : Nat := 0x0A
def semaphore : Nat := 0x0B
def deadlock : Nat := 0x0C
def order : Nat := 0x0D
def mailbox : Nat := 0x0E
def trap : Nat := 0x0F

end Ex

/-! ### The word (R115, R116) -/

/-- The register file that a field names: none for a field that is not used. -/
inductive RegFile where
  | none | s | a | v
deriving DecidableEq, Repr

/-- What an instruction table says of the fields: the file of D, A, B and C, and the IMM bits in use (R116). -/
structure Fields where
  d : RegFile := .none
  a : RegFile := .none
  b : RegFile := .none
  c : RegFile := .none
  imm : Nat := 0

/-- A field passes the checks of R116. -/
def RegFile.ok (f : RegFile) (x : BitVec 6) : Bool :=
  match f with
  | .none => x == 0
  | .s => decide (x.toNat < 32)
  | .a => decide (x.toNat < 16)
  | .v => true

/-- An instruction passes the checks of R116. -/
def Fields.ok (f : Fields) (w : TileWord) : Bool :=
  f.d.ok w.d && f.a.ok w.a && f.b.ok w.b && f.c.ok w.c && w.imm.toNat &&& f.imm == w.imm.toNat

/-- The s registers that an instruction reads: those of A, B and C, and that of D for LIH and DXFER (R122, R124). -/
def Fields.sources (f : Fields) (op : Nat) (w : TileWord) : List Nat :=
  (if f.a = .s then [w.a.toNat] else []) ++ (if f.b = .s then [w.b.toNat] else []) ++ (if f.c = .s then [w.c.toNat] else []) ++
    if op = 0x1D ∨ op = 0x34 then [w.d.toNat] else []

/-- The s register that an instruction writes, 0 for none. -/
def Fields.target (f : Fields) (op : Nat) (w : TileWord) : Nat := if f.d = .s ∧ op ≠ 0x34 then w.d.toNat else 0

/-- Every bit of IMM. -/
def immAll : Nat := 2 ^ 32 - 1

/-- Sign extension of the low `k` bits of IMM to 64 bits. -/
def immSext (w : TileWord) (k : Nat) : Nat := ofSigned 64 (toSigned k w.imm.toNat)

/-- Bits high to low of IMM. -/
def immBits (w : TileWord) (hi lo : Nat) : Nat := Sys2Proof.bits w.imm.toNat hi lo

/-- Bit i of IMM. -/
def immBit (w : TileWord) (i : Nat) : Bool := bitAt w.imm.toNat i

/-! ### Registers (R106) -/

/-- s[n], 64 bits: s0 reads 0. -/
def TileData.sreg (x : TileData) (n : Nat) : Nat := if n = 0 then 0 else Map.get 0 x.s n % 2 ^ 64

/-- Write s[n], 64 bits: writes to s0 are discarded. -/
def TileData.setS (x : TileData) (n v : Nat) : TileData :=
  if n = 0 then x else { x with s := Map.put 0 x.s n (v % 2 ^ 64) }

/-- a[n], 64 bits. -/
def TileData.areg (x : TileData) (n : Nat) : Nat := Map.get 0 x.a n % 2 ^ 64

/-- Write a[n], 64 bits. -/
def TileData.setA (x : TileData) (n v : Nat) : TileData := { x with a := Map.put 0 x.a n (v % 2 ^ 64) }

/-- 512 lanes of 32 bits. -/
def vectorOf (l : List Nat) : List Nat := (l.take 512 ++ List.replicate (512 - l.length) 0).map (· % 2 ^ 32)

/-- The 512 lanes of v[n]. -/
def TileData.vreg (x : TileData) (n : Nat) : List Nat := vectorOf (Map.get (List.replicate 512 0) x.v n)

/-- Write v[n]. -/
def TileData.setV (x : TileData) (n : Nat) (lanes : List Nat) : TileData :=
  { x with v := Map.put (List.replicate 512 0) x.v n lanes }

/-! ### The chunk that runs -/

/-- What an instruction sees: the module and the tile before it, the chunk, its operation, plan entry and schedule record. -/
structure Running where
  s : State
  t : Nat
  w : TileWord
  x : TileData
  c : Chunk
  o : Operation
  e : Bytes
  r : ChunkRecord

/-- Hoop of the chunk. -/
def Running.h (k : Running) : Nat := k.s.hoopOfGroup k.c.group

/-- Registers that the fields name. -/
def Running.sa (k : Running) : Nat := k.x.sreg k.w.a.toNat
def Running.sb (k : Running) : Nat := k.x.sreg k.w.b.toNat
def Running.sc (k : Running) : Nat := k.x.sreg k.w.c.toNat
def Running.sd (k : Running) : Nat := k.x.sreg k.w.d.toNat
def Running.aa (k : Running) : Nat := k.x.areg k.w.a.toNat
def Running.ab (k : Running) : Nat := k.x.areg k.w.b.toNat
def Running.ac (k : Running) : Nat := k.x.areg k.w.c.toNat
/-- The tile-store addresses that a[A], a[B] and a[C] name: bits [22:0] (R106). -/
def Running.ta (k : Running) : Nat := k.aa % 2 ^ 23
def Running.tb (k : Running) : Nat := k.ab % 2 ^ 23
def Running.tc (k : Running) : Nat := k.ac % 2 ^ 23
def Running.va (k : Running) : List Nat := k.x.vreg k.w.a.toNat
def Running.vb (k : Running) : List Nat := k.x.vreg k.w.b.toNat
def Running.vc (k : Running) : List Nat := k.x.vreg k.w.c.toNat

/-- The state with the tile's data set. -/
def Running.set (k : Running) (x : TileData) : State := k.s.setTile k.t x

/-- EA of R117: a[A] + Off; [31] post-increments a[A]. -/
def Running.ea (k : Running) : Nat := (k.ta + immSext k.w 20) % 2 ^ 64

/-- a[n] after an access of `bytes` at it, where P asks for the post-increment (R117). -/
def TileData.post (x : TileData) (w : TileWord) (n bytes : Nat) : TileData :=
  if immBit w 31 then x.setA n (x.areg n + bytes) else x

/-- LocalContributors (R107). -/
def Running.contributors (k : Running) : Nat := (k.s.group k.c.group).contributors

/-- SlotStride and bytes of one slot of the chunk (R93). -/
def Running.stride (k : Running) : Nat := slotStride k.e k.r
def Running.slotBytes (k : Running) : Nat := chunkBytes k.e k.r

/-- The peer set, and this module's place in it (R77, R107). -/
def Running.peers (k : Running) : List Nat := k.s.peersOf k.h k.o k.r
def Running.ownPosition (k : Running) : Nat :=
  let own := k.s.ownAddress k.h
  let l := k.peers
  if l.contains own then l.findIdx (· == own) else l.findIdx (· == k.s.num Obj.fabricAddress)

/-! ### Ranges -/

/-- The parts of ranges that lie outside every range of `cuts`. -/
def cutRanges (l cuts : List (Nat × Nat)) : List (Nat × Nat) :=
  cuts.foldl (fun l c => if c.1 < c.2 then cutRange l c.1 c.2 else l) l

/-- Two ranges have a byte in common. -/
def meets (a b : Nat × Nat) : Bool := decide (max a.1 b.1 < min a.2 b.2)

/-- Some range of one list meets some range of the other. -/
def meetAny (l m : List (Nat × Nat)) : Bool := l.any fun a => m.any (meets a)

/-! ### The tile store as a program sees it (R108) -/

/-- Bytes of the tile store. -/
def storeBytes : Nat := 0x800000

/-- The chunk's zone, and both zones. -/
def Running.zoneRange (k : Running) : Nat × Nat := (zoneBase k.x.image k.c.zone, zoneBase k.x.image k.c.zone + zoneSize k.x.image k.c.zone)
def Running.zones (k : Running) : List (Nat × Nat) :=
  [0, 1].map fun z => (zoneBase k.x.image z, zoneBase k.x.image z + zoneSize k.x.image z)

/-- The constant region, the staged area within it (R144). -/
def Running.constants (k : Running) : List (Nat × Nat) :=
  [(constBase k.x.image, constBase k.x.image + constLength k.x.image),
   (stagedBase k.x.image, stagedBase k.x.image + stagedLength k.x.image)]

/-- The exchange region. -/
def Running.exchangeRange (k : Running) : Nat × Nat :=
  (exchangeBase k.x.image, exchangeBase k.x.image + exchangeSize k.x.image)

/-- Bytes of local slots first to first + count − 1. -/
def Running.slotRanges (k : Running) (first count : Nat) : List (Nat × Nat) :=
  (List.range count).map fun i =>
    let a := k.zoneRange.1 + (first + i) * k.stride
    (a, a + k.slotBytes)

/-- Claimed slot bytes, until DREL. -/
def Running.claimed (k : Running) : List (Nat × Nat) :=
  if k.x.released then [] else k.x.claims.flatMap fun c => k.slotRanges c.1 c.2

/-- The armed site slot of a position. -/
def Running.armed (k : Running) (j : Nat) : Option (Nat × Nat) :=
  (Map.get none k.x.arms j).map fun b => (b, b + k.r.emitLength)

/-- Every armed site slot. -/
def Running.armedAll (k : Running) : List (Nat × Nat) := (k.x.arms.map Prod.fst).filterMap k.armed

/-- Areas that are not working store. -/
def Running.special (k : Running) : List (Nat × Nat) := k.zones ++ k.constants ++ [k.exchangeRange] ++ k.armedAll

/-- Special areas that may be read. -/
def Running.readable (k : Running) : List (Nat × Nat) :=
  k.claimed ++ k.constants ++ [(exchangeBase k.x.image, exchangeBase k.x.image + k.x.exchanged)] ++ k.x.awaited.filterMap k.armed

/-- The exception of a read of [a, b), if any (R108); a refused byte decides before an undefined word. -/
def Running.readFault (k : Running) (r : Nat × Nat) : Option Nat :=
  let rest := cutRanges [r] k.readable
  if storeBytes < r.2 ∨ meetAny rest k.special then some Ex.address
  else if cutRanges rest k.x.defined ≠ [] then some Ex.uninit
  else none

/-- The exception of a write of [a, b), if any (R108). -/
def Running.writeFault (k : Running) (r : Nat × Nat) : Option Nat :=
  if storeBytes < r.2 ∨ meetAny (cutRanges [r] k.claimed) k.special then some Ex.address else none

/-- A write marks the words it covers as defined, from its dispatch on (R108). -/
def TileData.define (x : TileData) (r : Nat × Nat) : TileData :=
  { x with defined := addRange x.defined (r.1 / 8 * 8) (ceilDiv r.2 8 * 8) }

/-! ### Interlocks (R110, R111) -/

/-- The range from the lowest byte of some ranges to the highest (R111). -/
def hull (l : List (Nat × Nat)) : Nat × Nat :=
  match l.filter fun r => decide (r.1 < r.2) with
  | [] => (0, 0)
  | r :: l => l.foldl (fun a x => (min a.1 x.1, max a.2 x.2)) r

/-- What an instruction reads and what it writes of the tile store (R111): ranges from the lowest byte to the highest. -/
structure Footprint where
  reads : Nat × Nat := (0, 0)
  writes : Nat × Nat := (0, 0)

/-- A footprint meets that of an uncompleted instruction, and one of the two writes there (R111). -/
def Footprint.conflicts (f : Footprint) (j : TileJob) : Bool :=
  meets f.reads j.writes || meets f.writes j.writes || meets f.writes j.reads

/-- It does so for an uncompleted instruction in another queue than q (R111): vector registers, accumulator rows, resident slots and
region bytes are each used by one queue only. -/
def TileData.interlocked (x : TileData) (q : Nat) (f : Footprint) : Bool :=
  x.queues.any fun c => c.1 != q && c.2.any f.conflicts

/-- An uncompleted instruction writes one of these s registers (R110); s0 is never written. -/
def TileData.awaits (x : TileData) (l : List Nat) : Bool :=
  l.any fun n => n != 0 && x.queues.any fun q => q.2.any fun j => j.target == n

/-! ### Outcome of a dispatch -/

/-- What dispatching an instruction does: take effect and go on; enter a queue, with what it still has to do, its footprint and the state
that its dispatch leaves; stand at this one (CDONE); go to a target; raise an exception; be withheld. -/
inductive Issue where
  | ok (s : State) (f : Footprint)
  | enter (s : State) (q : Nat) (op : TileOp) (f : Footprint)
  | stay (s : State)
  | jump (s : State) (target : Nat)
  | raise (code : Nat)
  | hold

/-- The first fault of a list of accesses, reads before writes. -/
def Running.accessFault (k : Running) (reads writes : List (Nat × Nat)) : Option Nat :=
  match reads.findSome? k.readFault with
  | some x => some x
  | none => writes.findSome? k.writeFault

/-- Make the accesses of an instruction of queue q: withheld where R111 says so, checked by R108; then go on, the words written being
defined. -/
def Running.access (k : Running) (q : Nat) (reads writes : List (Nat × Nat)) (f : TileData → Footprint → Issue) : Issue :=
  let p : Footprint := { reads := hull reads, writes := hull writes }
  if k.x.interlocked q p then .hold
  else match k.accessFault reads writes with
    | some x => .raise x
    | none => f (writes.foldl TileData.define k.x) p

/-- A range of `n` bytes at an address. -/
def span (a n : Nat) : Nat × Nat := (a, a + n)

/-- Bytes of the tile's store. -/
def TileData.read (x : TileData) (a n : Nat) : Bytes := x.store.readBytes a n

/-- The tile with bytes written to its store. -/
def TileData.write (x : TileData) (a : Nat) (b : Bytes) : TileData := { x with store := x.store.writeBytes a b }

/-! ### Regions (R109, R142) -/

/-- Selector of R109: the parity at which an access reaches a region, or its exception. -/
def Running.regionParity (k : Running) (region par : Nat) (write : Bool) : Except Nat Nat :=
  let d := regionDecl k.x.image region
  let read := k.s.readParity k.h k.o d.cls ((entryRegion k.e region).getD (0, 0)).1
  if par = 3 then .error Ex.illegal
  else if !d.double then (if !write ∧ par = 0 then .ok 0 else .error Ex.parity)
  else if write then (if par = 2 ∧ !d.readOnly then .ok (1 - k.o.step % 2) else .error Ex.parity)
  else if par = 1 then .ok read
  else .error Ex.parity

/-- Length of a region at one parity: FixedBytes and PerChunkBytes for each landing chunk (R142). An undeclared region has none. -/
def Running.regionLength (k : Running) (region : Nat) : Nat :=
  if regionDeclared k.x.image region then
    let d := regionDecl k.x.image region
    d.fixedBytes + d.perChunk * (landingChunks (k.s.hoop k.h).plan k.e).length
  else 0

/-- Buffer and offset that the plan binds to a region (R151). -/
def Running.binding (k : Running) (region : Nat) : Nat × Nat := (entryRegion k.e region).getD (0, 0)

end Sys2Proof.Machine
end

