-- ==== Sys2Proof/Machine/TileIssue.lean ====
section
/-! DEFINITION. Dispatch of tile instructions (R110, R111, R116, R120): the checks, the loop stack, exceptions (R134, R135), the
queues and what their instructions do when they complete (R112, R113, R124), the end of a chunk (R121). -/

namespace Sys2Proof.Machine

open Sys2Proof

/-! ### The running chunk -/

/-- What tile t runs; none where it runs no chunk of a live operation. -/
def State.running (s : State) (t : Nat) (w : TileWord) : Option Running :=
  let x := s.tile t
  x.running.bind fun key => (s.chunk key).bind fun c => (s.operation key.1 key.2.1).bind fun o =>
    (s.entryOf key.1 o).bind fun e => (s.recordOf key.1 o key.2.2).map fun r => ⟨s, t, w, x, c, o, e, r⟩

/-- The queue with a number (R110). -/
def TileData.queue (x : TileData) (q : Nat) : List TileJob := Map.get [] x.queues q

/-- The tile with a queue set. -/
def TileData.setQueue (x : TileData) (q : Nat) (l : List TileJob) : TileData := { x with queues := Map.put [] x.queues q l }

/-- The tile with a job at the end of a queue. -/
def TileData.push (x : TileData) (q : Nat) (j : TileJob) : TileData := x.setQueue q (x.queue q ++ [j])

/-- The tile with an instruction that has entered queue q (R110). -/
def TileData.enter (x : TileData) (q : Nat) (op : TileOp) (f : Footprint) (target : Nat) : TileData :=
  { x.push q { op := op, number := x.issued, reads := f.reads, writes := f.writes, target := target } with issued := x.issued + 1 }

/-- The tile with an instruction that has taken effect and completes behind what stands in its queue, where that is not empty; one of the
sequencer's own has no queue (R110). -/
def TileData.behind (x : TileData) (queue : Option Nat) (f : Footprint) (target : Nat) : TileData :=
  match queue with
  | some q => if x.queue q = [] then x else x.enter q .held f target
  | none => x

/-- Every queue is empty. -/
def TileData.idle (x : TileData) : Bool := x.queues.all fun q => q.2 == []

/-! ### DMA effects (R124, R125) -/

/-- Write a DOUT's bytes through DestinationTarget (R124): on a shadow that compares, nothing (R337). A queue pair not in RTS ends
the operation (R216). -/
def Running.sendOut (k : Running) (s : State) (offset : Nat) (data : Bytes) : State :=
  if s.shadowSilent k.h then s
  else match s.writeTarget k.h (dDestinationTarget k.o.desc) (dDestinationOffset k.o.desc + offset) data (some k.c.key) with
    | some u => u
    | none => s.undeliverable k.c.group k.c.seq

/-- Record that a DXFER of the chunk has been delivered (R125). -/
def State.noteTransfer (s : State) (key : Nat × Nat × Nat) (chunk offset n : Nat) : State :=
  match s.chunk key with
  | some c => s.setChunk { c with delivered := c.delivered ++ [(chunk, offset, n)] }
  | none => s

/-- Deliver exchange data to a later chunk of the operation (R125): to its region where it runs, and kept for it. A chunk that is
not bound needs a Local buffer; none where the pool has none and the request waits (R200). -/
def Running.deliver (k : Running) (s : State) (chunk offset : Nat) (data : Bytes) : Option State :=
  let g := k.c.group
  let seq := k.c.seq
  let x := s.exchange g seq chunk
  let x' := { x with data := x.data.writeBytes offset data, got := addRange x.got offset (offset + data.length) }
  let done (u : State) := u.noteTransfer k.c.key chunk offset data.length
  match s.chunk (g, seq, chunk) with
  | some c =>
    if c.phase = 2 then some (done ((s.setExchange x').storeTile c.tile (exchangeBase c.image + offset) data))
    else if c.phase ≠ 0 then some (done (s.setExchange x'))
    else unbound x x' done
  | none => unbound x x' done
where
  /-- Delivery to a chunk that no tile holds. -/
  unbound (x x' : Exchange) (done : State → State) : Option State :=
    let request : PoolRequest := ⟨k.h, 0, none, (classFor data.length).getD 3, .exchange k.c.group k.c.seq chunk⟩
    if 0 < x.credit then some (done (s.setExchange { x' with credit := x.credit - 1 }))
    else if s.pools.waiting.contains request then none
    else match s.poolRequest k.h 0 none request.cls with
      | some (u, handle) => some (done (u.setExchange { x' with buffers := x'.buffers ++ [handle] }))
      | none => none

/-- The waiting request of a delivery that found no buffer (R200). -/
def Running.waitBuffer (k : Running) (s : State) (chunk n : Nat) : State :=
  let request : PoolRequest := ⟨k.h, 0, none, (classFor n).getD 3, .exchange k.c.group k.c.seq chunk⟩
  if s.pools.waiting.contains request then s else s.startWait request

/-! ### Exceptions (R134, R135) -/

/-- An exception: recorded, reported, and a hoop fault (R101, R134, R136). -/
def Running.raise (k : Running) (s : State) (code pc word : Nat) : State :=
  let s1 := ((s.setNum (Obj.tileExceptionCode k.t) code).setNum (Obj.tileExceptionPc k.t) pc).setNum (Obj.tileExceptionWord k.t) word
  (s1.raise Ev.imageException { hoop := k.h, die := 1 + k.t / 6, unit := k.t, detail := code }).hoopFault k.h 5 k.t

/-- An exception at dispatch (R135): it is taken once every instruction before the faulting one has completed, and none after it is
dispatched. -/
def Running.trap (k : Running) (s : State) (code pc word : Nat) : State :=
  let x := s.tile k.t
  if x.idle then k.raise s code pc word else s.setTile k.t { x with trapped := some (code, pc, word) }

/-! ### Emission (R133) -/

/-- The chunk whose record holds the emitted ranges: a receiver's stream is its emitter's (R155). -/
def Running.emitKey (k : Running) : Nat × Nat × Nat := (k.c.group, k.c.seq, streamIndex k.r k.c.index)

/-- A range of the stream has been passed to the line already, by an earlier attempt or by the emitter (R81, R133, R155); an
operation that runs again sends none (R343). -/
def Running.passed (k : Running) (off n : Nat) : Bool :=
  k.o.redo != 0 || (k.s.chunk k.emitKey).any fun c => covered (c.emitted.foldl (fun l e => addRange l e.1 (e.1 + e.2)) []) off (off + n)

/-- Nothing of a range goes to the line: it has been passed, the shadow only compares (R337), or there is no other site. -/
def Running.silent (k : Running) (off n : Nat) : Bool := k.passed off n || k.s.shadowSilent k.h || decide (k.peers.length ≤ 1)

/-- Send a range to every other site of the peer set (R133, R256, R312), under a ticket (R319). -/
def Running.sendRange (k : Running) (s : State) (off : Nat) (payload : Bytes) (vc : Nat) : State :=
  let number := s.work.nextOrder
  let others := (k.peers.zipIdx.filter fun p => p.2 != k.ownPosition).map Prod.fst
  let tail := dataTail (streamIndex k.r k.c.index) off k.c.group
  let s1 := s.each others fun u a => u.emitTo k.h vc a k.c.seq k.o.epoch tail payload (some k.c.key) (some ⟨k.t, number⟩)
  let s2 := match s1.chunk k.emitKey with
    | some c => s1.setChunk { c with emitted := c.emitted ++ [(off, payload.length)] }
    | none => s1
  { s2 with work := { s2.work with nextOrder := number + 1 } }

/-- The tile with what a LEMIT of bytes [a, a + n) of its store gives (R75, R133): the stream's bytes (R338), and the copy in the own site
slot where that is armed. -/
def Running.emitted (k : Running) (x : TileData) (off a n : Nat) : TileData :=
  let payload := x.read a n
  let y : TileData := { x with streamData := x.streamData ++ [(off, payload)] }
  match Map.get none y.arms k.ownPosition with
  | some base => { y.write (base + off) payload with ownSlot := addRange y.ownSlot off (off + n) }
  | none => y

/-! ### Queues (R110, R113) -/

/-- An instruction that waits for nothing once it stands at the head of its queue. -/
def TileOp.passes : TileOp → Bool
  | .held => true
  | .ssig _ _ _ _ => true
  | .release => true
  | .stream _ _ _ _ => true
  | _ => false

/-- What becomes of a queue's head: it stays; it has completed; it goes on as another job; an SSIG has overflowed, at a PC with a word. -/
inductive HeadStep where
  | stays
  | completed (s : State)
  | becomes (s : State) (op : TileOp)
  | overflow (pc word : Nat)

/-- The head of a queue of tile t takes effect, where it waits for nothing: an instruction that was held behind others completes, an SSIG
adds its count, a DREL frees the zone (R126), a LEMIT passes its range to the line. -/
def Running.head (k : Running) (s : State) (j : TileJob) : HeadStep :=
  let x := s.tile k.t
  match j.op with
  | .held => .completed s
  | .ssig sem count pc word =>
    let v := Map.get 0 x.semaphores sem + count
    if 65535 < v then .overflow pc word
    else .completed (s.setTile k.t { x with semaphores := Map.put 0 x.semaphores sem v })
  | .release => .completed (if x.zone k.c.zone = some k.c.key then s.setTile k.t (x.setZone k.c.zone none) else s)
  | .stream off a n vc =>
    let s1 := s.setTile k.t (k.emitted x off a n)
    if k.silent off n then .completed s1 else .becomes (k.sendRange s1 off (x.read a n) vc) (.emit s.work.nextOrder)
  | _ => .stays

/-- Take queue q on from its head. The flag is the PC and word of an SSIG that overflowed. -/
def Running.settleQueue (k : Running) (q : Nat) : Nat → State → State × Option (Nat × Nat)
  | 0, s => (s, none)
  | fuel + 1, s =>
    match (s.tile k.t).queue q with
    | [] => (s, none)
    | j :: rest =>
      match k.head s j with
      | .stays => (s, none)
      | .completed u => k.settleQueue q fuel (u.setTile k.t ((u.tile k.t).setQueue q rest))
      | .becomes u op => (u.setTile k.t ((u.tile k.t).setQueue q ({ j with op := op } :: rest)), none)
      | .overflow pc word => (s, some (pc, word))

/-! ### The end of a chunk (R121) -/

/-- The bytes of the chunk's emitted stream (R338). -/
def Running.streamBytes (k : Running) : Bytes :=
  (k.x.streamData.foldl (fun m r => Memory.writeBytes m r.1 r.2) ([] : Memory)).readBytes 0 k.r.emitLength

/-- Compare the shadow's digest of a chunk with this module's, where both are there (R338); not while the hoop is partitioned
(R348). A step counts once all its chunks have matched. -/
def State.compareDigest (s : State) (h g seq i : Nat) : State :=
  let x := s.hoop h
  let own := x.digests.find? fun d => (d.2.1, d.2.2.1, d.2.2.2.1) == (g, seq, i)
  let theirs := x.shadowDigests.find? fun d => (d.1, d.2.1, d.2.2.1) == (g, seq, i)
  match own, theirs with
  | some a, some b =>
    let s1 := s.setHoop h { x with shadowDigests := x.shadowDigests.filter (· != b) }
    if s.num (Obj.partitionState h) ≠ 0 then s1
    else if a.2.2.2.2 = b.2.2.2 then
      ({ s1 with net := { s1.net with matched := s1.net.matched ++ [(h, g, seq, i)] } }).settleMatch h a.1
    else
      ((s1.bump 32 (Obj.shadowMismatches h) 1).setNum (Obj.shadowMatchedSteps h) 0).raise Ev.shadowMismatch
        { hoop := h, unit := g, detail := i }
  | _, _ => s

/-- The digest of R338 is kept, and a shadow that compares sends it to its primary. -/
def Running.noteDigest (k : Running) (s : State) : State :=
  let digest := sha3Bytes (k.streamBytes ++ k.x.outData)
  let x := s.hoop k.h
  let mine (d : Nat × Nat × Nat × Nat × Bytes) : Bool := (d.2.1, d.2.2.1, d.2.2.2.1) == k.c.key
  let s0 := s.setHoop k.h { x with
    digests := x.digests.filter (!mine ·) ++ [(k.o.step, k.c.group, k.c.seq, k.c.index, digest)] }
  let s1 := s0.compareDigest k.h k.c.group k.c.seq k.c.index
  if s1.num (Obj.shadowState k.h) = 2 then
    (s1.sendFabric (s1.num (Obj.shadowPrimary k.h)) 0x0405 (beBytes 2 (s1.num Obj.fabricAddress) ++ beBytes 2 k.c.group ++
      beBytes 4 k.c.seq ++ beBytes 4 k.c.index ++ beBytes 4 0 ++ digest)).1
  else s1

/-- The chunk's own stream joins the deferred-queue ring of the last HoopAutonomousWindow steps (R342). -/
def Running.keepStream (k : Running) (s : State) : State :=
  let w := s.num (Obj.hoopAutonomousWindow k.h)
  if w = 0 ∨ k.r.emitLength = 0 ∨ k.r.role = 2 then s
  else
    let x := s.hoop k.h
    let key := (k.c.group, k.c.seq, k.c.index)
    let ring := x.deferred.filter fun d => decide (k.o.step < d.1 + w) && (d.2.1, d.2.2.1, d.2.2.2.1) != key
    s.setHoop k.h { x with deferred := ring ++ [(k.o.step, k.c.group, k.c.seq, k.c.index, k.streamBytes)] }

/-- CDONE is done waiting (R121): the stream must be covered; the zone is released and the chunk goes to the plan sequencer. -/
def Running.endChunk (k : Running) (s : State) : State :=
  if k.r.emitLength ≠ 0 ∧ !covered (k.x.emits.foldl (fun l e => addRange l e.1 (e.1 + e.2)) []) 0 k.r.emitLength then
    k.raise s Ex.emit k.x.pc (0x08 * 2 ^ 56)
  else
    let s1 := (k.noteDigest (k.keepStream s)).leaveTile k.t k.c.key
    let c := (s1.chunk k.c.key).getD k.c
    (((s1.setChunk { c with phase := 3 }).bump 64 (Obj.tileChunksRun k.t) 1).bump 64
      (Obj.slotChunksRun (16 * k.h + entrySlot k.e)) 1).activateDue k.h

/-- After a change of a tile's queues: what waits for nothing takes effect; where the queues are empty, an exception that waited is taken
(R135), and a CDONE ends the chunk. -/
def State.settleQueues (s : State) (t : Nat) : State :=
  match s.running t {} with
  | none => s
  | some k =>
    let r := [0, 1, 2, 3, 4].foldl (fun (a : State × Option (Nat × Nat)) q =>
      if a.2.isSome then a else k.settleQueue q 17 a.1) (s, none)
    let k1 : Running := { k with s := r.1, x := r.1.tile t }
    match r.2 with
    | some f => k1.raise r.1 Ex.semaphore f.1 f.2
    | none =>
      if k1.x.idle then
        match k1.x.trapped with
        | some e => k1.raise r.1 e.1 e.2.1 e.2.2
        | none => if k1.x.ending then k1.endChunk r.1 else r.1
      else r.1

/-! ### Program order (R120) -/

/-- Where execution goes on after the instruction at `pc`, and the loop stack: at the end of the innermost body the next
iteration begins, or the loop ends and the loop outside it is looked at. -/
def afterPc (pc : Nat) : List (Nat × Nat × Nat) → Nat × List (Nat × Nat × Nat)
  | [] => (pc + 1, [])
  | (first, last, left) :: r =>
    if pc = last then (if 1 < left then (first, (first, last, left - 1) :: r) else afterPc pc r)
    else (pc + 1, (first, last, left) :: r)

/-- The exception of a branch to a target (R120): outside the code, or out of the innermost active body. -/
def TileData.branchFault (x : TileData) (target : Nat) : Option Nat :=
  if codeCount x.image ≤ target then some Ex.fetch
  else match x.loops with
    | [] => none
    | (first, last, _) :: _ => if first ≤ target ∧ target ≤ last then none else some Ex.loop

/-- The tile with its PC past the instruction at `pc`. -/
def TileData.advance (x : TileData) (pc : Nat) : TileData :=
  let r := afterPc pc x.loops
  { x with pc := r.1, loops := r.2 }

/-! ### Dispatch (R110, R111, R116) -/

/-- The word of code at the PC (R115): little-endian, one word per instruction. -/
def Running.codeWord (k : Running) : Nat := field k.x.image (field k.x.image 20 4 + 8 * k.x.pc) 8

/-- R110 or R111 withheld dispatch for a cycle (R136); nothing can be dispatched until an instruction completes. -/
def State.stall (s : State) (t : Nat) : State :=
  (s.setTile t { s.tile t with withheld := true }).bump 64 (Obj.tileIssueStalls t) 1

/-- The tile past the instruction at its PC. -/
def Running.past (k : Running) (s : State) : State := s.setTile k.t ((s.tile k.t).advance k.x.pc)

/-- Apply the outcome of a dispatch to a queue, of an instruction that writes an s register or none (0): where the queue is not empty, the
instruction completes behind what stands in it. -/
def Running.settle (k : Running) (queue : Option Nat) (target word : Nat) : Issue → State
  | .ok s f =>
    let s1 := k.past s
    (s1.setTile k.t ((s1.tile k.t).behind queue f target)).settleQueues k.t
  | .enter s q op f =>
    let s1 := k.past s
    (s1.setTile k.t ((s1.tile k.t).enter q op f target)).settleQueues k.t
  | .stay s => s.settleQueues k.t
  | .jump s target =>
    match k.x.branchFault target with
    | some code => k.trap k.s code k.x.pc word
    | none => s.setTile k.t { s.tile k.t with pc := target }
  | .raise code => k.trap k.s code k.x.pc word
  | .hold => k.s.stall k.t

/-- Dispatch one instruction on tile t: opcode, its word, its fields, its queue, and what it does. The tile fetches from its image, in
program order (R110): a command whose word does not stand at the PC is not what it dispatches, and nothing happens; an opcode that is not
listed is an exception (R116). On a tile that runs no chunk, or whose FENCE, CDONE or exception waits, there is nothing to dispatch. At
the end of the code there is no word: a free value stands for it (R120, R136). -/
def State.issue (s : State) (t : Nat) (op : Nat) (w : TileWord) (f : Fields) (queue : Option Nat) (body : Running → Issue) : State :=
  match s.running t w with
  | none => s
  | some k =>
    if k.x.fenced ∨ k.x.ending ∨ k.x.trapped.isSome then s
    else if codeCount k.x.image ≤ k.x.pc then k.trap s.tookFree Ex.fetch k.x.pc (s.freeNat 64)
    else if !listedOpcode (wordOpcode k.codeWord) then k.trap s Ex.illegal k.x.pc k.codeWord
    else if k.codeWord ≠ tileWord op w then s
    else if queue.any fun q => decide (16 ≤ (k.x.queue q).length) then s.stall t
    else if !f.ok w then k.trap s Ex.illegal k.x.pc k.codeWord
    else if k.x.awaits (f.sources op w) then s.stall t
    else k.settle queue (f.target op w) k.codeWord (body k)

/-- The instruction leaves the tile's data changed and nothing else. -/
def Running.done (k : Running) (x : TileData) (f : Footprint := {}) : Issue := .ok (k.set x) f

end Sys2Proof.Machine
end

