-- ==== Sys2Proof/Machine/GatewayFabric.lean ====
section
/-! DEFINITION. The commands of the gateway fabric (chapter 17): addresses, discovery, routes, heartbeats, health, shadow mode. -/

namespace Sys2Proof.Machine

open Sys2Proof

/-! ### Identity and addresses (R324, R325) -/

/-- The effect of a write of FabricAddress (R324): 0 cannot be assigned, and every hoop must be Empty. A module that had no address
begins the establishment of its wales. -/
def fabricAddressEffect (v : Nat) : Effect := fun s =>
  if v = 0 then refuse St.accessDenied s
  else if (List.range 16).any fun h => s.num (Obj.hoopState h) != 0 then refuse St.notPermittedInState s
  else
    let s1 := (plainWrite Obj.fabricAddress (.num v) s).1
    let waiting := (List.range 32).filter fun w => s.num (Obj.waleTxMap w) != 0 && s.num (Obj.lineSession0State w) == 0
    let s2 := if s.num Obj.fabricAddress = 0 then s1.each waiting State.startHandshake else s1
    ((s2.settleConflict (s.num Obj.fabricAddress)).settleConflict v, St.ok)

/-- FABRIC_ADDRESS_WRITE (R324). -/
def execFabricAddressWrite (rq : Requester) (value : FabAddr) (s : State) : Host.Outcome State Fault Refusal :=
  .next (s.request rq Obj.fabricAddress (.num value.toNat) none (fabricAddressEffect value.toNat))

/-- ADDRESS_CONFLICT_END (R325): one announcement has stopped for 3 s. -/
def execAddressConflictEnd (address : FabAddr) (node : BitVec 64) (s : State) : Host.Outcome State Fault Refusal :=
  let a := s.net.announcements.filter fun x => !(x.node == node.toNat && x.address == address.toNat)
  let l := s.net.linkStates.filter fun x => !(x.node == node.toNat && x.address == address.toNat)
  .next (({ s with net := { s.net with announcements := a, linkStates := l } }).settleConflict address.toNat)

/-! ### Auto-bonding (R326) -/

/-- Lane k qualifies (R326). -/
def State.qualifies (s : State) (k : Nat) : Bool :=
  let t := (s.lane k).rx.counted
  s.flag Obj.fabricAutoWale && s.num Obj.fabricAddress != 0 && (s.waleOf k).isNone && t != [] &&
    beNat (slice t 20 8) == nodeIdentity && beNat (slice t 28 1) == k && beNat (slice t 8 2) != 0 &&
    beNat (slice t 11 1) == s.num (Obj.lineLaneMode k)

/-- WaleIdentity of an auto-bonded wale, from the lane at the low end (R326, R496). -/
def autoIdentity (low high lane : Nat) : Nat :=
  let d := leNat ((sha3Bytes (leBytes 8 low ++ leBytes 8 high ++ leBytes 1 lane)).take 3)
  if d = 0 then 1 else d

/-- Lane k joins a wale by AddLane (R326). -/
def State.joinWale (s : State) (w k : Nat) : State :=
  let old := s.num (Obj.waleCommandLane w)
  (((s.setNum (Obj.waleCommandLane w) k).addLane w).1).setNum (Obj.waleCommandLane w) old

/-- A qualifying lane forms a wale in the lowest Free slot (R326). -/
def State.formAuto (s : State) (k : Nat) : State :=
  let t := (s.lane k).rx.counted
  let peer := beNat (t.take 8)
  let lane := if nodeIdentity < peer then k else beNat (slice t 10 1)
  match (List.range 32).find? fun w => s.num (Obj.waleState w) == 0 with
  | none => s
  | some w =>
    if s.breaksR234 [k] ∨ s.shareHeld k then s
    else
      let s1 := ((s.setP (Obj.waleIdentity w) (.num (autoIdentity (min nodeIdentity peer) (max nodeIdentity peer) lane))).setP
        (Obj.waleLanes w) (.num (2 ^ k))).setP (Obj.walePeerNode w) (.num peer)
      let s2 := s1.formWale w
      { s2 with net := { s2.net with autoWales := s2.net.autoWales ++ [w] } }

/-- AUTO_BOND (R326): the lane joins the auto-bonded wale that leads to its peer in its mode, or forms one. -/
def execAutoBond (k : Lane) (s : State) : Host.Outcome State Fault Refusal :=
  if !s.qualifies k then .next s
  else
    let peer := beNat ((s.lane k).rx.counted.take 8)
    let fits (w : Nat) : Bool := s.num (Obj.waleState w) != 0 && s.num (Obj.walePeerNode w) == peer &&
      s.num (Obj.lineLaneMode ((s.waleLanes w).headD 0)) == s.num (Obj.lineLaneMode k)
    match s.net.autoWales.find? fits with
    | some w => .next (s.joinWale w k)
    | none => .next (s.formAuto k)

/-! ### Discovery (R327, R328) -/

/-- FABRIC_HELLO_RECEIVED (R327): the neighbour's announcement. -/
def execFabricHelloReceived (w : Wale) (payload : Bytes) (s : State) : Host.Outcome State Fault Refusal :=
  if payload.length ≠ 24 ∨ beNat (payload.take 8) ≠ (s.wale w).handshake.peerNode then .next s
  else
    .next (s.announced {
      node := beNat (payload.take 8), address := beNat (slice payload 8 2), health := beNat (slice payload 10 2)
      arithmetic := beNat (slice payload 12 4), isa := beNat (slice payload 16 2), heard := s.now })

/-- LINK_STATE_RECEIVED (R327, R328): a newer one replaces what is held, goes on over every other usable wale, and the routes are
computed again. -/
def execLinkStateReceived (w : Wale) (payload : Bytes) (s : State) : Host.Outcome State Fault Refusal :=
  match readLinkState payload s.now with
  | none => .next s
  | some x =>
    let stale := s.net.linkStates.any fun y => y.node == x.node && decide (x.seq ≤ y.seq)
    if x.node = nodeIdentity ∨ stale then .next s
    else
      let rest := s.net.linkStates.filter fun y => y.node != x.node
      let s1 := ({ s with net := { s.net with linkStates := rest ++ [x] } }).announced
        { s.announcementOf x.node x.address with heard := s.now }
      .next ((s1.flood (some w) 0x0402 payload).computeRoutes)

/-- LINK_STATE_ORIGINATE (R327): sent on every usable wale. -/
def execLinkStateOriginate (s : State) : Host.Outcome State Fault Refusal :=
  let seq := (s.net.lsaSequence + 1) % 2 ^ 32
  let s1 : State := { s with net := { s.net with lsaSequence := seq, usable := s.usableWales } }
  .next ((s1.flood none 0x0402 (s1.linkStatePayload seq)).computeRoutes)

/-- LINK_STATE_EXPIRY (R327): not refreshed for 3 s. -/
def execLinkStateExpiry (origin : BitVec 64) (s : State) : Host.Outcome State Fault Refusal :=
  let rest := s.net.linkStates.filter fun y => y.node != origin.toNat
  .next ({ s with net := { s.net with linkStates := rest } }).computeRoutes

/-! ### Heartbeats (R329, R330) -/

/-- The open hoop sessions of a wale: session, hoop. -/
def State.openSessions (s : State) (w : Nat) : List (Nat × Nat) :=
  ((s.wale w).sessions.filter fun c => c.1 != 0 && c.2.state == 2 && decide (c.2.hoop < 16)).map fun c => (c.1, c.2.hoop)

/-- The heartbeat of a wale (R329). -/
def State.heartbeat (s : State) (w beat : Nat) : Bytes :=
  let l := (s.openSessions w).take 32
  beBytes 8 nodeIdentity ++ beBytes 2 (s.num Obj.fabricAddress) ++ beBytes 2 (s.num Obj.healthScore) ++ beBytes 4 beat ++
    beBytes 1 l.length ++ beBytes 7 0 ++ l.flatMap fun c =>
      beBytes 1 c.1 ++ beBytes 1 (s.num (Obj.partitionState c.2)) ++ beBytes 1 (s.num (Obj.autonomousSteps c.2)) ++ beBytes 1 0 ++
      beBytes 4 (s.num (Obj.hoopEpoch c.2)) ++ beBytes 4 (s.num (Obj.outerStepCounter c.2)) ++ beBytes 4 0

/-- Queue the heartbeat of a wale as a link message of type 0x10 (R258, R329). -/
def State.sendHeartbeat (s : State) (w : Nat) : State :=
  let beat := (Map.get 0 s.net.beats w + 1) % 2 ^ 32
  let s1 : State := { s with net := { s.net with beats := Map.put 0 s.net.beats w beat } }
  let v := s1.wale w
  s1.setWale w { v with tx := { v.tx with links := v.tx.links ++ [(0x10, s1.heartbeat w beat)] } }

/-- HEARTBEAT_SEND (R329, R330): on every wale whose session 0 is Established; EV_PEER_SUSPECT for every suspected member. -/
def execHeartbeatSend (s : State) : Host.Outcome State Fault Refusal :=
  let s1 := s.each ((List.range 32).filter s.established) State.sendHeartbeat
  let s2 := s1.settleSuspicion
  .next (s2.each (s2.net.suspected.map Prod.fst) State.reportSuspect)

/-- One entry of a heartbeat: session, partition state, autonomous steps, epoch, step counter. -/
def State.takeReport (s : State) (w address : Nat) (e : Bytes) : State :=
  match (s.openSessions w).find? fun c => c.1 == beNat (e.take 1) with
  | none => s
  | some c =>
    let r : HoopReport := {
      address := address, hoop := c.2, partition := beNat (slice e 1 1), steps := beNat (slice e 2 1)
      epoch := beNat (slice e 4 4), counter := beNat (slice e 8 4) }
    let rest := s.net.reports.filter fun x => !(x.address == address && x.hoop == c.2)
    let s1 : State := { s with net := { s.net with reports := rest ++ [r] } }
    if s.num (Obj.hoopEpoch c.2) < r.epoch then s1.raise Ev.epochAhead { hoop := c.2, unit := address, detail := r.epoch } else s1

/-- HEARTBEAT_RECEIVED (R329, R330, R348): suspicion of the sender ends and its hoop states are kept. -/
def execHeartbeatReceived (w : Wale) (payload : Bytes) (s : State) : Host.Outcome State Fault Refusal :=
  let n := beNat (slice payload 16 1)
  let node := beNat (payload.take 8)
  let address := beNat (slice payload 8 2)
  if 32 < n ∨ payload.length ≠ 24 + 16 * n ∨ node ≠ (s.wale w).handshake.peerNode then .next s
  else
    let s1 : State := { s with net := { s.net with lastBeat := Map.put none s.net.lastBeat address (some s.now) } }
    let s2 := s1.announced { s1.announcementOf node address with health := beNat (slice payload 10 2), heard := s1.now }
    .next ((s2.unsuspect address).each (entriesOf 16 n (payload.drop 24)) fun t e => t.takeReport w address e)

/-- PEER_SUSPECT (R330): no heartbeat of a neighbour for HeartbeatMisses intervals. -/
def execPeerSuspect (peer : FabAddr) (s : State) : Host.Outcome State Fault Refusal := .next (s.suspect peer.toNat)

/-! ### Health (R335, R336) -/

/-- This module proposes its own expulsion, or is held back by a proposal of its site (R336). -/
def State.proposeExpulsion (s : State) : State :=
  let own := s.num Obj.fabricAddress
  let site := siteOf own
  let recent := (Map.get none s.net.proposals site).any fun p =>
    decide (s.now < p.1 + s.num Obj.healthExpelInterval * 1000000000)
  if !recent then
    let s1 : State := { s with net := { s.net with
      proposals := Map.put none s.net.proposals site (some (s.now, own)), heldBack := false } }
    ((s1.bump 32 Obj.expelProposals 1).flood none 0x0406
      (beBytes 2 own ++ beBytes 2 (s.num Obj.healthScore) ++ beBytes 4 0)).raise Ev.expelProposed { detail := s.num Obj.healthScore }
  else if s.net.heldBack ∨ (Map.get none s.net.proposals site).any fun p => p.2 == own then s
  else
    (({ s with net := { s.net with heldBack := true } }).bump 32 Obj.expelSuppressed 1).raise Ev.expelSuppressed {}

/-- HEALTH_SCORE_UPDATE (R335, R336). -/
def execHealthScoreUpdate (s : State) : Host.Outcome State Fault Refusal :=
  let score := 1000 - s.healthPenalty
  let s1 := s.setNum Obj.healthScore score
  if s.num Obj.healthExpelThreshold ≤ score then .next { s1 with net := { s1.net with belowSince := none, heldBack := false } }
  else match s.net.belowSince with
    | none => .next { s1 with net := { s1.net with belowSince := some s.now } }
    | some t => .next (if t + 60000000000 ≤ s.now then s1.proposeExpulsion else s1)

/-- EXPEL_PROPOSAL_RECEIVED (R336, R348): recorded for its site and passed on; of two within one second the lower address stands.
One from a fenced module is ignored. -/
def execExpelProposalReceived (w : Wale) (payload : Bytes) (s : State) : Host.Outcome State Fault Refusal :=
  let address := beNat (payload.take 2)
  let site := siteOf address
  let own := s.num Obj.fabricAddress
  let held := Map.get none s.net.proposals site
  let fenced := (List.range 16).any fun h => s.fencedIn h address
  let close := held.any fun p => decide (s.now < p.1 + 1000000000)
  let seen := close && held.any fun p => decide (p.2 ≤ address)
  if payload.length ≠ 8 ∨ fenced ∨ address = own ∨ seen then .next s
  else
    let s1 : State := { s with net := { s.net with proposals := Map.put none s.net.proposals site (some (s.now, address)) } }
    let s2 := s1.flood (some w) 0x0406 payload
    .next (if close && held.any fun p => p.2 == own then s2.raise Ev.expelSuppressed {} else s2)

/-! ### Shadow mode (R337–R339) -/

/-- SHADOW_START (R337): Loading. -/
def execShadowStart (rq : Requester) (h : Hoop) (s : State) : Host.Outcome State Fault Refusal :=
  .next (s.request rq (Obj.shadowCommand h) (.num 1) none fun t =>
    if t.num (Obj.shadowState h) ≠ 0 then refuse St.notPermittedInState t else (t.setNum (Obj.shadowState h) 1, St.ok))

/-- SHADOW_STOP (R350). -/
def execShadowStop (rq : Requester) (h : Hoop) (s : State) : Host.Outcome State Fault Refusal :=
  .next (s.request rq (Obj.shadowCommand h) (.num 2) none fun t => (t.setNum (Obj.shadowState h) 0, St.ok))

/-- SHADOW_DIGEST_RECEIVED (R338): kept until this module's own digest of the chunk is there, then compared. -/
def execShadowDigestReceived (_w : Wale) (payload : Bytes) (s : State) : Host.Outcome State Fault Refusal :=
  let g := beNat (slice payload 2 2)
  let seq := beNat (slice payload 4 4)
  let i := beNat (slice payload 8 4)
  let h := s.hoopOfGroup g
  if payload.length ≠ 80 ∨ 4096 ≤ g ∨ s.num (Obj.groupState g) = 0 ∨ s.num (Obj.partitionState h) ≠ 0 then .next s
  else
    let x := s.hoop h
    let rest := x.shadowDigests.filter fun d => (d.1, d.2.1, d.2.2.1) != (g, seq, i)
    .next ((s.setHoop h { x with shadowDigests := rest ++ [(g, seq, i, payload.drop 16)] }).compareDigest h g seq i)

end Sys2Proof.Machine
end

