-- ==== Sys2Proof/Machine/Partition.lean ====
section
/-! DEFINITION. Fencing (R332, R333), the autonomous window and reconciliation (R340–R344). -/

namespace Sys2Proof.Machine

open Sys2Proof

/-! ### Sides (R340, R341) -/

/-- Members of the hoop's open groups (R340). -/
def State.hoopMembers (s : State) (h : Nat) : List Nat :=
  (((s.groupsOf h).filter fun g => s.num (Obj.groupState g) == 1).flatMap fun g => (s.group g).members).eraseDups

/-- Members of the hoop on the sites of a mask. -/
def State.sideMembers (s : State) (h sites : Nat) : List Nat := (s.hoopMembers h).filter fun a => bitAt sites (siteOf a)

/-- The lowest address of a list (R341). -/
def lowest : List Nat → Option Nat
  | [] => none
  | a :: r => some (r.foldl min a)

/-- What a member last reported of the hoop (R329). -/
def State.reportOf (s : State) (h address : Nat) : Option HoopReport :=
  s.net.reports.find? fun r => r.hoop == h && r.address == address

/-- Step counter of a member: this module's own, or the one in its heartbeats (R341). -/
def State.counterOf (s : State) (h address : Nat) : Nat :=
  if address = s.ownAddress h then s.num (Obj.outerStepCounter h)
  else ((s.reportOf h address).map HoopReport.counter).getD (s.num (Obj.outerStepCounter h))

/-- Send a message of the partition to every other address of a list, under the hoop session, which names the hoop (R341). -/
def State.sendPartition (s : State) (h kind : Nat) (payload : Bytes) (l : List Nat) : State :=
  s.each (l.filter (· != s.ownAddress h)) fun t a =>
    t.emitTo h 4 a 0 0 (beBytes 2 kind ++ List.replicate 8 0) payload none none

/-! ### Restart and rollback (R341) -/

/-- An operation restarts over the sites of the side: chunks that a tile holds run again from their start (R81, R341). -/
def State.restartOp (s : State) (g : Nat) (o : Operation) (sites : Nat) : State :=
  let mine := s.work.chunks.filter fun c => c.group == g && c.seq == o.seq && (c.phase == 1 || c.phase == 2)
  (s.setOp g { o with side := sites }).each mine fun t c => t.moveChunk c.tile true c.key

/-- Operations of a hoop that hold a context and have not ended, of a step. -/
def State.stepOps (s : State) (h step : Nat) : List (Nat × Operation) :=
  (s.groupsOf h).flatMap fun g =>
    ((s.group g).ops.filter fun o => o.phase == 1 && o.ending.isNone && o.step == step).map fun o => (g, o)

/-- Streams of a step that this module has kept go out again to the side where its members stand at different steps (R341, R345;
DEDUCED, log entry 36). -/
def State.resendStep (s : State) (h step sites : Nat) : State :=
  let mixed := (s.sideMembers h sites).any fun a => s.counterOf h a != step
  let kept := ((s.hoop h).retained.filter fun r => r.op.step == step).map fun r => (r.group, r.op)
  if mixed then s.each (kept ++ s.stepOps h step) fun t x => t.resendStreams h x.1 x.2 sites else s

/-- An operation of the step after BaseStep goes back to Queued (R341). -/
def State.requeue (s : State) (g : Nat) (o : Operation) : State :=
  let s1 := s.restartOp g o 0xFFFF
  match s1.operation g o.seq with
  | some y => s1.setOp g { y with phase := 0 }
  | none => s1

/-- Roll back to BaseStep b: OuterStepCounter becomes b, and step b runs again as autonomous (R341). -/
def State.rollBack (s : State) (h b sites : Nat) : State :=
  let s1 := (s.setNum (Obj.outerStepCounter h) b).each (s.stepOps h (b + 1)) fun t x => t.requeue x.1 x.2
  let kept := (s1.hoop h).retained.filter fun r => r.op.step == b
  let s2 := (s1.each kept fun t r => t.runAgain r sites 1).countAutonomous h
  s2.each (s2.groupsOf h) State.settleRedo

/-- A SideDeclare acts on a member (R341, R348): base step b, the sites of the side. Only a Running or Draining hoop with an
autonomous window takes one; an Autonomous hoop takes a smaller side. -/
def State.sideDeclare (s : State) (h epoch sites b : Nat) : State :=
  let st := s.num (Obj.hoopState h)
  let c := s.num (Obj.outerStepCounter h)
  let p := s.num (Obj.partitionState h)
  if epoch ≠ s.num (Obj.hoopEpoch h) ∨ s.num (Obj.hoopAutonomousWindow h) = 0 ∨ !(st = 2 ∨ st = 3) ∨
      !bitAt sites (siteOf (s.ownAddress h)) then s
  else if p = 1 then
    let s1 := s.setNum (Obj.partitionSide h) sites
    let live := (s.groupsOf h).flatMap fun g =>
      ((s.group g).ops.filter fun o => o.side != 0xFFFF && o.ending.isNone).map fun o => (g, o)
    s1.each live fun t x => t.restartOp x.1 x.2 sites
  else if p ≠ 0 then s
  else if b + 1 < c then s.enterSplit h
  else if c < b then s
  else
    let s1 := ((s.setNum (Obj.partitionState h) 1).setNum (Obj.partitionSide h) sites).setNum (Obj.partitionBaseStep h) b
    let s2 := s1.resendStep h b sites
    if s2.num (Obj.hoopState h) = 6 then s2.settleFault h
    else if c = b then
      let ops := s2.stepOps h b
      let s3 := s2.each ops fun t x => t.restartOp x.1 x.2 sites
      if ops = [] then s3 else s3.countAutonomous h
    else s2.rollBack h b sites

/-- The side that is left when site `site` is cut off too (R340). -/
def State.sideWithout (s : State) (h site : Nat) : Nat :=
  (List.range 16).foldl (fun m x =>
    if x = siteOf (s.ownAddress h) then setBit m x true
    else if x = site ∨ s.siteMembers h x = [] ∨ s.cutOff h x then m
    else setBit m x true) 0

/-- The sites on which a side agreed before: all, or those of the last SideDeclare while Autonomous. -/
def State.currentSide (s : State) (h : Nat) : Nat :=
  if s.num (Obj.partitionState h) = 1 then s.num (Obj.partitionSide h) else 0xFFFF

/-- PARTITION_HOLD_EXPIRY (R340, R341): every member at the site has been suspected for PartitionHold. The side's leader sends
SideDeclare to the side, and acts on it itself. -/
def execPartitionHoldExpiry (h : Hoop) (site : Fin 16) (s : State) : Host.Outcome State Fault Refusal :=
  let h := h.val
  let st := s.num (Obj.hoopState h)
  let own := s.ownAddress h
  let members := s.siteMembers h site
  let suspected := members.all fun a => (Map.get none s.net.suspected a).isSome
  let sites := s.sideWithout h site &&& s.currentSide h
  if s.num (Obj.hoopAutonomousWindow h) = 0 ∨ !(st = 2 ∨ st = 3) ∨ 2 ≤ s.num (Obj.partitionState h) ∨ members = [] ∨
      !suspected ∨ site.val = siteOf own ∨ !bitAt (s.currentSide h) site then .next s
  else
    let side := s.sideMembers h sites
    if lowest side ≠ some own then .next s
    else
      let b := if s.num (Obj.partitionState h) = 1 then s.num (Obj.partitionBaseStep h)
        else (side.map (s.counterOf h)).foldl min (s.num (Obj.outerStepCounter h))
      let epoch := s.num (Obj.hoopEpoch h)
      let payload := beBytes 4 epoch ++ beBytes 2 sites ++ beBytes 2 own ++ beBytes 4 b ++ beBytes 4 0
      .next ((s.sendPartition h 0x0403 payload side).sideDeclare h epoch sites b)

/-- SIDE_DECLARE_RECEIVED (R341). -/
def execSideDeclareReceived (_w : Wale) (h : Hoop) (payload : Bytes) (s : State) : Host.Outcome State Fault Refusal :=
  if payload.length ≠ 16 then .next s
  else .next (s.sideDeclare h (beNat (payload.take 4)) (beNat (slice payload 4 2)) (beNat (slice payload 8 4)))

/-! ### Merge (R343) -/

/-- Begin to reconcile the steps from `base` to `highest` over the given sites (R343, R344): retained streams go out again, and
the autonomous steps are replayed. -/
def State.reconcileSteps (s : State) (h base highest sites : Nat) : State :=
  let c : Reconcile := ⟨base, highest, sites⟩
  let s1 := (s.setNum (Obj.partitionState h) 2).setHoop h { s.hoop h with reconcile := some c }
  let mine := (s1.hoop h).retained.filter fun r =>
    r.op.side != 0xFFFF && decide (base ≤ r.op.step ∧ r.op.step ≤ highest)
  let s2 := s1.each mine fun t r => if t.num (Obj.hoopState h) = 6 then t else t.replay h c r
  (s2.each (s2.groupsOf h) State.settleRedo).settleFault h

/-- A Merge acts on a member (R343): a Split on either side, or more steps than the window, leaves both sides Split. -/
def State.merge (s : State) (h epoch base highest : Nat) : State :=
  let p := s.num (Obj.partitionState h)
  let split := p == 3 || s.net.reports.any fun r => r.hoop == h && r.partition == 3 && (s.hoopMembers h).contains r.address
  if epoch ≠ s.num (Obj.hoopEpoch h) ∨ !(p = 1 ∨ p = 3) then s
  else if split ∨ s.num (Obj.hoopAutonomousWindow h) < highest + 1 - base then s.enterSplit h
  else s.reconcileSteps h base highest 0xFFFF

/-- BaseStep of another side by a member's report: AutonomousSteps counts the step that it is in (R342; DEDUCED). -/
def HoopReport.base (r : HoopReport) : Nat := if r.steps = 0 then r.counter else r.counter + 1 - r.steps

/-- MERGE_HOLD_EXPIRY (R343): the sites of two sides have been mutually reachable for PartitionHold. The lower of the two leaders
sends Merge to both sides, and acts on it itself. -/
def execMergeHoldExpiry (h : Hoop) (s : State) : Host.Outcome State Fault Refusal :=
  let h := h.val
  let p := s.num (Obj.partitionState h)
  let own := s.ownAddress h
  let sites := s.num (Obj.partitionSide h)
  let mine := s.sideMembers h sites
  let others := (s.hoopMembers h).filter fun a => !bitAt sites (siteOf a) && (Map.get none s.net.suspected a).isNone
  match lowest mine, lowest others with
  | some a, some b =>
    if !(p = 1 ∨ p = 3) ∨ a ≠ own ∨ b < a then .next s
    else
      let reports := others.filterMap (s.reportOf h)
      let base := (reports.map HoopReport.base).foldl min (s.num (Obj.partitionBaseStep h))
      let highest := ((mine ++ others).map (s.counterOf h)).foldl max (s.num (Obj.outerStepCounter h))
      let epoch := s.num (Obj.hoopEpoch h)
      let payload := beBytes 4 epoch ++ beBytes 2 sites ++ beBytes 2 own ++ beBytes 4 base ++ beBytes 4 highest
      .next ((s.sendPartition h 0x0404 payload (mine ++ others)).merge h epoch base highest)
  | _, _ => .next s

/-- MERGE_RECEIVED (R343). -/
def execMergeReceived (_w : Wale) (h : Hoop) (payload : Bytes) (s : State) : Host.Outcome State Fault Refusal :=
  if payload.length ≠ 16 then .next s
  else .next (s.merge h (beNat (payload.take 4)) (beNat (slice payload 8 4)) (beNat (slice payload 12 4)))

/-- A hoop is whole again: Joined, and its deferred state is settled (R343, R344). -/
def State.joined (s : State) (h : Nat) : State :=
  let x := s.hoop h
  let plain (r : Retained) : Retained := { r with op := { r.op with side := 0xFFFF } }
  let s1 := s.setHoop h { x with reconcile := none, retained := x.retained.map plain, shadowDigests := [] }
  ((s1.setNum (Obj.partitionState h) 0).setNum (Obj.autonomousSteps h) 0).setNum (Obj.shadowMatchedSteps h) 0

/-- RECONCILIATION_COMPLETE (R343, R344): every step to reconcile has been replayed or run. A Split that a FenceRecord settled is
Running again. -/
def execReconciliationComplete (h : Hoop) (s : State) : Host.Outcome State Fault Refusal :=
  let done := (s.hoop h).reconcile.any fun c => decide (c.highest < s.num (Obj.outerStepCounter h))
  if s.num (Obj.partitionState h) ≠ 2 ∨ s.redoing h ∨ s.autonomousLeft h ∨ !done then .next s
  else
    let s1 := (s.joined h).raise Ev.reconciled { hoop := h }
    let s2 := if s1.num (Obj.hoopState h) = 5 then (s1.setNum (Obj.hoopState h) 2).forgetEvacuation h else s1
    .next (s2.settleHoop h)

/-! ### Fencing (R332, R333, R344) -/

/-- A FenceRecord: Epoch, SurvivingSites, the fenced addresses; none where its length does not fit its Count (R332). -/
def readFence (b : Bytes) : Option (Nat × Nat × List Nat) :=
  let n := field b 6 2
  if n ≤ 1024 ∧ b.length = 8 + 2 * n then
    some (field b 0 4, field b 4 2, (entriesOf 2 n (b.drop 8)).map leNat)
  else none

/-- A Split is settled (R27, R344). -/
def State.settleSplit (s : State) (h surviving : Nat) : State :=
  if s.num (Obj.hoopState h) ≠ 5 ∨ surviving = 0xFFFF then s
  else if bitAt surviving (siteOf (s.ownAddress h)) then
    let c := s.num (Obj.outerStepCounter h)
    s.reconcileSteps h (s.num (Obj.partitionBaseStep h)) (if s.autonomousLeft h then c else c - 1) (s.num (Obj.partitionSide h))
  else
    let s1 := s.each (s.groupsOf h) fun t g =>
      let t1 := (t.each (t.group g).redo fun u o => u.voidOperation g o).checkFrees
      t1.setGroup g { t1.group g with redo := [] }
    let s2 := (s1.setHoop h { s1.hoop h with deferred := [], retained := [] }).joined h
    s2.stopHoop h

/-- A replay that a FenceRecord meets begins again under the new epoch, over the sites that keep a module (R345, R348). -/
def State.restartReplay (s : State) (h : Nat) : State :=
  match (s.hoop h).reconcile with
  | none => s
  | some c =>
    let kept := (List.range 16).foldl (fun m x =>
      let l := s.siteMembers h x
      if l != [] && l.all (s.fencedIn h) then setBit m x false else m) c.sides
    let s1 := s.each (s.groupsOf h) fun t g =>
      let t1 := (t.each (t.group g).redo fun u o => u.voidOperation g o).checkFrees
      t1.setGroup g { t1.group g with redo := [] }
    s1.reconcileSteps h c.base c.highest kept

/-- Open groups with a fenced member break at once (R332). -/
def State.breakFenced (s : State) (h : Nat) : State :=
  s.each ((s.groupsOf h).filter fun g => s.num (Obj.groupState g) == 1 && (s.group g).members.any (s.fencedIn h)) fun t g =>
    (t.markBroken g).abortGroup g St.fenced

/-- A FenceRecord is accepted (R332): epoch and list, sessions with fenced modules close, groups break, a Split is settled. -/
def State.acceptFence (s : State) (h : Nat) (record notice : Bytes) (epoch surviving : Nat) (fenced : List Nat) : State :=
  let s1 := (s.setBytes (Obj.fenceRecord h) record).setNum (Obj.hoopEpoch h) epoch
  let s2 := s1.setBytes (Obj.fenceList h) (record.drop 8)
  let rest := s2.net.notices.filter fun n => n.hoop != h
  let own := fenced.map fun a => (⟨h, a, notice, false, none⟩ : FenceNotice)
  let s3 : State := { s2 with net := { s2.net with notices := rest ++ own } }
  let s4 := s3.each ((List.range 32).filter fun w => fenced.contains (s3.neighbour w)) fun t w =>
    let mine := (t.wale w).sessions.filter fun c => c.1 != 0 && c.2.hoop == h && c.2.state != 0
    t.each (mine.map Prod.fst) fun u n => u.endSession w n
  let replaying := s4.num (Obj.partitionState h) == 2
  let s5 := s4.breakFenced h
  (if replaying then s5.restartReplay h else s5).settleSplit h surviving

/-- A token as its bytes (R402). -/
def tokenBytes (t : Token) : Bytes := tokenHead t ++ t.signature

/-- The effect of a write of FenceRecord (R332): only a higher epoch is accepted. -/
def fenceEffect (h : Nat) (record : Bytes) (t : Token) : Effect := fun s =>
  match readFence record with
  | none => refuse St.accessDenied s
  | some (epoch, surviving, fenced) =>
    if epoch ≤ s.num (Obj.hoopEpoch h) then refuse St.fenced s
    else (s.acceptFence h record (record ++ tokenBytes t) epoch surviving fenced, St.ok)

/-- FENCE_RECORD_WRITE (R332). -/
def execFenceRecordWrite (rq : Requester) (h : Hoop) (record : Bytes) (token : Token) (s : State) :
    Host.Outcome State Fault Refusal :=
  .next (s.request rq (Obj.fenceRecord h) (.blob record) (some token) (fenceEffect h record token))

/-- FENCE_NOTICE_RECEIVED (R333): a verified notice under a higher epoch that names this module fences its hoop: pending operations
end ST_FENCED, and the hoop faults. -/
def execFenceNoticeReceived (_w : Wale) (record : Bytes) (token : Token) (s : State) : Host.Outcome State Fault Refusal :=
  let h := token.index.toNat - 0xA020
  let key := s.bytes (Obj.hoopControllerKey h)
  match readFence record with
  | none => .next s
  | some (epoch, _, fenced) =>
    let named := fenced.contains (s.num Obj.fabricAddress) && decide (s.num (Obj.hoopEpoch h) < epoch)
    let object := decide (0xA020 ≤ token.index.toNat ∧ token.index.toNat < 0xA030) && token.sub == 1
    let signed := key != [] && verifies key (tokenHead token ++ record) "penrel-sig" token.signature
    if named && object && signed then
      let s1 := s.raise Ev.fenced { hoop := h, detail := epoch }
      let s2 := if s1.num (Obj.hoopState h) = 6 then s1 else s1.each (s1.groupsOf h) fun t g => t.abortGroup g St.fenced
      .next (s2.hoopFault h 9 0xFFFFFFFF)
    else .next s

end Sys2Proof.Machine
end

