-- ==== Sys2Proof/Machine/Tiles.lean ====
section
/-! DEFINITION. The commands of the weaver tiles (chapter 5): sensor samples, binding and start of chunks, tile faults, TileCommand. -/

namespace Sys2Proof.Machine

open Sys2Proof

/-- TILE_SENSOR_SAMPLE (R98, R100, R103, R386, R392, R494): the four readings in 0.1 °C. A tile in S2 or S3 has none. -/
def execTileSensorSample (t : Tile) (r0 r1 r2 r3 : Int) (s : State) : Host.Outcome State Fault Refusal :=
  let d := tileDomain t
  let sleep := s.num (Obj.domainSleepState d)
  if sleep = 5 ∨ sleep = 6 then .next s
  else
    let now := [r0, r1, r2, r3]
    let x := s.tile t
    let st := s.num (Obj.tileState t)
    let highest := max (max r0 r1) (max r2 r3)
    let reached := decide (1100 ≤ highest)
    let earlier := (x.samples.head?).any fun b => b.any fun r => decide (1100 ≤ r)
    let trips := reached && (if st = 0 ∨ st = 5 then !earlier else st != 4)
    let s1 := (s.setTile t { x with samples := (now :: x.samples).take 11 }).setInt (Obj.tileTemperatureMax t) highest
    let s2 := if trips then s1.tripTile t else s1
    let st2 := s2.num (Obj.tileState t)
    let drops := fastDropSeen now x.samples[9]? && st2 != 3 && st2 != 4 && !s2.flag (Obj.tileClockDivided t)
    let s3 := if drops then s2.dropTile t else s2
    let hot := (x.samples.head?).any fun b => (List.zipWith (fun a c => decide (1150 ≤ a ∧ 1150 ≤ c)) now b).any id
    let s4 := (s3.thermalVote d highest).settleTileDomain t
    .next (if hot then s4.shutdown (1 + t / 6) else s4)

/-- TILE_RETURN_HOLD_EXPIRY (R99, R391, R494): the tile leaves Excluded or Tripped. Its divider is restored once its supply has
risen, and so is that of an Idle or Busy tile whose clock was divided before a hoop owned it; on an Unowned or Faulted tile at once. -/
def execTileReturnHoldExpiry (t : Tile) (s : State) : Host.Outcome State Fault Refusal :=
  let st := s.num (Obj.tileState t)
  let cool := ((s.tile t).samples.head?).all fun l => l.all fun r => decide (r < 950)
  if !cool then .next s
  else if st = 3 ∨ st = 4 then .next ((((s.beginReturn t).setNum (Obj.tileState t) 1).settleTile t).settleTileDomain t)
  else if st = 0 ∨ st = 5 then .next ((s.restoreDivider t).settleTileDomain t)
  else if s.flag (Obj.tileClockDivided t) then .next ((s.beginReturn t).settleTileDomain t)
  else .next s

/-- CHUNK_BIND (R94, R95, R155): the next bindable chunk of the hoop takes a free zone. -/
def execChunkBind (h : Hoop) (s : State) : Host.Outcome State Fault Refusal :=
  match s.nextBinding h with
  | none => .next s
  | some (g, o, i) => .next (s.bindChunk g o i)

/-- CHUNK_START (R94, R106, R154): the tile's next chunk runs. -/
def execChunkStart (t : Tile) (s : State) : Host.Outcome State Fault Refusal :=
  match s.waitingChunk t with
  | none => .next s
  | some c => if s.mayStart t c then .next (s.startChunk t c) else .next s

/-- TILE_FAULT (R101, R102): cause 1 is an uncorrectable read of the tile store, at an address. One of a landed local slot is no fault of
the tile: the slot's chunk takes the row "input read uncorrectable" of R63. -/
def execTileFault (t : Tile) (cause : BitVec 8) (address : BitVec 23) (readable : Bool) (s : State) : Host.Outcome State Fault Refusal :=
  match if cause = 1 ∧ s.num (Obj.tileState t) ≠ 5 then s.landedAt t address.toNat else none with
  | some c =>
    match s.operation c.group c.seq with
    | some o => .next (s.inputLost c.group o c.index)
    | none => .next s
  | none => .next (s.tileFaults t cause.toNat readable)

/-- The instruction at the head of a queue waits for something that is no hang (R113, R114). -/
def TileOp.waits : TileOp → Bool
  | .swait _ _ => true
  | .claim _ _ => true
  | .exchange _ => true
  | .siteWait _ => true
  | .post _ _ => true
  | _ => false

/-- SEQUENCER_HANG_TIMEOUT (R101, R114): work that no wait of R114 explains has stood in a queue for 1 ms. -/
def execSequencerHangTimeout (t : Tile) (s : State) : Host.Outcome State Fault Refusal :=
  let x := s.tile t
  let stuck := x.queues.any fun q => q.2.head?.any fun j => !j.op.waits
  if x.running.isSome ∧ stuck then .next (s.tileFaults t 6 true) else .next s

/-- TILE_TEST (R104). -/
def execTileTest (rq : Requester) (t : Tile) (s : State) : Host.Outcome State Fault Refusal :=
  .next (s.request rq (Obj.tileCommand t) (.num 1) none (reported (Obj.tileCommandStatus t) fun u =>
    let st := u.num (Obj.tileState t)
    if (u.tile t).testing then (u, St.busy)
    else if st = 0 ∨ st = 5 then (u.setTile t { u.tile t with testing := true }, St.busy)
    else (u, St.notPermittedInState)))

/-- TILE_OUT_OF_SERVICE (R104). -/
def execTileOutOfService (rq : Requester) (t : Tile) (s : State) : Host.Outcome State Fault Refusal :=
  .next (s.request rq (Obj.tileCommand t) (.num 2) none (reported (Obj.tileCommandStatus t) fun u =>
    if (u.tile t).testing then (u, St.busy)
    else if u.num (Obj.tileState t) = 5 then (u, St.notPermittedInState)
    else (u.tileFaults t 7 true, St.ok)))

/-- TILE_SELF_TEST_DONE (R104): the test has overwritten the tile store. What TileCommandStatus holds after a failed test the
spec does not state: a free value. A failed test raises no EV_TILE_FAULT and is not judged by step 5 of R102, while
TILE_OUT_OF_SERVICE does both: the spec says neither (DESIGN CHOICE, log entry 163). -/
def execTileSelfTestDone (t : Tile) (pass : Bool) (s : State) : Host.Outcome State Fault Refusal :=
  let x := s.tile t
  if !x.testing then .next s
  else
    let s1 := s.setTile t { x with testing := false, store := [], residentHash := [], staged := none }
    if pass then
      let s2 := if s1.num (Obj.tileState t) = 5 then
          (s1.setNum (Obj.tileState t) (if s1.num (Obj.tileOwner t) < 16 then 1 else 0)).setNum (Obj.tileFaultCause t) 0
        else s1
      .next (s2.setNum (Obj.tileCommandStatus t) St.ok)
    else
      let s2 := (s1.setNum (Obj.tileState t) 5).setNum (Obj.tileFaultCause t) 8
      .next ((s2.setNum (Obj.tileCommandStatus t) (s2.freeNat 16)).tookFree)

end Sys2Proof.Machine
end

