-- ==== Sys2Proof/Machine/Writes.lean ====
section
/-! DEFINITION. Writes of the dictionary (R403, R404): which command a write to a command object is, the effects of writes to the
objects that no row of its own names, and tokens as bytes (R402). -/

namespace Sys2Proof.Machine

open Sys2Proof

/-! ### Values and tokens as they travel (R399, R402) -/

/-- Bytes of a token (R402). -/
def tokenLength : Nat := 4663

/-- A token from its bytes (R402). -/
def tokenOf (b : Bytes) : Token where
  keyId := BitVec.ofNat 64 (field b 0 8)
  node := BitVec.ofNat 64 (field b 8 8)
  index := BitVec.ofNat 16 (field b 16 2)
  sub := BitVec.ofNat 8 (field b 18 1)
  counter := BitVec.ofNat 64 (field b 20 8)
  signature := b.drop 36

/-- A value of no type: it fails check 5 of R404. -/
def misfit (r : ObjRow) : Val := if r.ty = .blob ∨ r.ty = .str then .num 0 else .blob []

/-- The value that bytes carry for an object (R399). -/
def valueOf (r : ObjRow) (b : Bytes) : Val :=
  if r.ty = .blob ∨ r.ty = .str then .blob b else if b.length = r.size then .num (leNat b) else misfit r

/-- An object whose table defines pieces (R147, R403, R446, R448). -/
def isPiece (r : ObjRow) : Bool := (r.base == 0x4200 && r.sub == 1) || (r.base == 0xD000 && r.sub == 0x0A) || (r.base == 0xD100 && r.sub == 2)

/-- The value written by bytes at an Offset (R403): only a piece is written at another offset than 0, and the Offset counts on from
the piece's own. -/
def writtenValue (r : ObjRow) (offset : Nat) (b : Bytes) : Val :=
  if offset = 0 then valueOf r b
  else if isPiece r ∧ b.length + offset ≤ r.size then .blob (leBytes 4 (field b 0 4 + offset) ++ b.drop 4)
  else misfit r

/-! ### Effects of writes without a row of their own -/

/-- A plain write that a condition of the defining chapter guards. -/
def guarded (ok : State → Bool) (status : Nat) (k : Nat) (v : Val) : Effect := fun s =>
  if ok s then plainWrite k v s else refuse status s

/-- A write that sets its object, and what follows from the new value. -/
def followed (k : Nat) (v : Val) (f : State → State) : Effect := fun s => (f (plainWrite k v s).1, St.ok)

/-- A write of LaneEnable (R224, R376): a lane that is disabled stops and is Off. -/
def laneEnableEffect (l : Nat) (k : Nat) (v : Val) : Effect :=
  followed k v fun s =>
    let d := 80 + 2 * (l / 32)
    let s1 := if v.toNat = 0 then
        let s2 := (s.setNum (Obj.laneState l) 0).setNum (Obj.laneRate l) 0
        { s2 with power := { s2.power with running := s2.power.running.filter (· != .fabricLane (Fin.ofNat 64 l)) } }
      else s
    (s1.settleDomain d).settleDomain (d + 1)

/-- A write of OpticsEvictOnFecDegrade (R302): lanes on which EV_FEC_DEGRADED stands are evicted. -/
def evictEffect (k : Nat) (v : Val) : Effect :=
  followed k v fun s =>
    if v.toNat = 0 then s
    else s.each (List.range 32) fun t l => if (t.lane l).degraded ∧ t.num (Obj.lineLaneEnd l) ≠ 0 then t.evictLane l else t

/-- A write of HoopTileLevel or HoopIdleState (R386): the standing votes of the hoop follow. -/
def hoopVoteEffect (h : Nat) (k : Nat) (v : Val) : Effect :=
  followed k v fun s =>
    s.each (List.range 48) fun t n =>
      if t.num (Obj.tileOwner n) ≠ h then t
      else
        let key := Obj.domainVoteHoop (tileDomain n)
        (t.setNum key (if t.num key < 6 then t.num (Obj.hoopTileLevel h) else t.num (Obj.hoopIdleState h))).settleTileDomain n

/-- Launch power of a lane, in 0.1 dBm, within the range of its end (R293, R310); a lane on no end may hold either's. -/
def State.launchAllowed (s : State) (k : Nat) (x : Int) : Bool :=
  match s.num (Obj.lineLaneEnd k) with
  | 1 => decide (-80 ≤ x ∧ x ≤ 30)
  | 2 => decide (-50 ≤ x ∧ x ≤ 60)
  | _ => decide (-80 ≤ x ∧ x ≤ 60)

/-- The effect of a write that passed checks 1–6 to an object without a row of its own, by the rule of its chapter: R189, R81, R216,
R224, R252, R293, R302, R361, R386, R424; any other write sets its object. -/
def writeEffect (k base sub i : Nat) (v : Val) : Effect :=
  match base, sub with
  | 0x1100, 0x01 => guarded (fun _ => i != 0 || v.toNat == 0) St.accessDenied k v
  | 0x3040, 0x04 => followed k v fun s => s.activateDue i
  | 0x5000, 0x0C => fun s => if s.allHoopsEmpty then followed k v State.sizeMemory s else refuse St.notPermittedInState s
  | 0x6040, 0x01 => laneEnableEffect i k v
  | 0x6500, 0x07 => guarded (fun s => decide (s.num (Obj.qpState i) < 3)) St.notPermittedInState k v
  | 0x7040, 0x05 => guarded (fun s => s.num (Obj.waleState i) == 0) St.notPermittedInState k v
  | 0x7040, 0x06 => guarded (fun s => s.num (Obj.waleState i) == 0) St.notPermittedInState k v
  | 0x7040, 0x07 => guarded (fun s => s.num (Obj.waleState i) == 0) St.notPermittedInState k v
  | 0x8000, 0x03 => evictEffect k v
  | 0x8040, 0x04 => guarded (fun s => s.launchAllowed i (toSigned 32 v.toNat)) St.accessDenied k v
  | 0xB060, 0x02 => guarded (fun _ => decide (1000000 ≤ v.toNat)) St.accessDenied k v
  | 0xC400, 0x01 => hostVoteEffect i v.toNat
  | 0xC500, 0x01 => hoopVoteEffect i k v
  | 0xC500, 0x02 => hoopVoteEffect i k v
  | _, _ => plainWrite k v

/-! ### Writes that are commands of their own -/

/-- Commands of hoops, groups, tiles, images and plans (R30, R45, R50, R62, R105, R160). -/
def workCommand (rq : Requester) (base sub i n : Nat) (b : Bytes) : Option (State → Host.Outcome State Fault Refusal) :=
  let h : Hoop := Fin.ofNat 16 i
  let g : GroupNo := Fin.ofNat 4096 i
  match base, sub, n with
  | 0x2100, 0x02, 1 => some (execConfigure rq h)
  | 0x2100, 0x02, 2 => some (execAdmit rq h)
  | 0x2100, 0x02, 3 => some (execStart rq h)
  | 0x2100, 0x02, 4 => some (execDrain rq h)
  | 0x2100, 0x02, 5 => some (execEvacuate rq h)
  | 0x2100, 0x02, 6 => some (execUnbind rq h)
  | 0x2100, 0x02, 7 => some (execRelease rq h)
  | 0x2100, 0x04, n => some (execHoopReservationWrite rq h .memory (BitVec.ofNat 64 n))
  | 0x2100, 0x05, n => some (execHoopReservationWrite rq h .tiles (BitVec.ofNat 64 n))
  | 0x3020, 0x01, n => some (execHoopReservationWrite rq h .contexts (BitVec.ofNat 64 n))
  | 0x2100, 0x0B, _ => some (execEvacuationTargetWrite rq h b)
  | 0x3100, 0x01, 1 => some (execGroupCreate rq g)
  | 0x3100, 0x01, 2 => some (execGroupReform rq g)
  | 0x3100, 0x01, 3 => some (execGroupDelete rq g)
  | 0x3001, 0x01, _ => some (execHostSubmit rq b)
  | 0x4100, 0x03, 1 => some (execTileTest rq (Fin.ofNat 48 i))
  | 0x4100, 0x03, 2 => some (execTileOutOfService rq (Fin.ofNat 48 i))
  | 0x4200, 0x01, _ => some (execImageStageWrite rq h b)
  | 0x4200, 0x03, 1 => some (execImageLoad rq h)
  | 0x4200, 0x03, 2 => some (execImageLoadPending rq h)
  | 0x4200, 0x03, 3 => some (execImageCancelPending rq h)
  | 0x4200, 0x03, 4 => some (execImageClear rq h)
  | 0x4200, 0x09, 1 => some (execPlanLoad rq h)
  | 0x4200, 0x09, 2 => some (execPlanUnload rq h)
  | _, _, _ => none

/-- Commands of memory channels, pools, fabric ports, queue pairs and windows (R191, R206, R224–R226). -/
def fabricCommand (rq : Requester) (base sub i n : Nat) : Option (State → Host.Outcome State Fault Refusal) :=
  let q : Qp := Fin.ofNat 16384 i
  let w : Window := Fin.ofNat 16384 i
  match base, sub, n with
  | 0x5100, 0x05, 1 => some (execChannelMapOut rq (Fin.ofNat 640 i))
  | 0x5100, 0x05, 2 => some (execChannelRestore rq (Fin.ofNat 640 i))
  | 0x6010, 0x03, 1 => some (execMacRetrain rq (Fin.ofNat 8 i))
  | 0x6500, 0x01, 1 => some (execQpToInit rq q)
  | 0x6500, 0x01, 2 => some (execQpToRtr rq q)
  | 0x6500, 0x01, 3 => some (execQpToRts rq q)
  | 0x6500, 0x01, 4 => some (execQpToReset rq q)
  | 0x6500, 0x01, 5 => some (execQpToError rq q)
  | 0x6100, 0x01, 1 => some (execWindowCreateLanding rq w)
  | 0x6100, 0x01, 2 => some (execWindowCreateBuffer rq w)
  | 0x6100, 0x01, 3 => some (execWindowDelete rq w)
  | 0x6900, sub, n => some (execTargetWrite rq (Fin.ofNat 16 (i / 1024)) (Fin.ofNat 1024 i) (Fin.ofNat 4 sub) (BitVec.ofNat 64 n))
  | 0x6100, sub, n => some (execWindowConfigWrite rq w (BitVec.ofNat 8 sub) (BitVec.ofNat 64 n))
  | 0x5300, sub, n =>
    some (execPoolMinimumWrite rq (Fin.ofNat 16 (i / 4)) (Fin.ofNat 4 i) (Fin.ofNat 4 (sub - 1)) (BitVec.ofNat 32 n))
  | _, _, _ => none

/-- Commands of wales, line sessions, optics and scheduling (R252, R289, R290, R309–R311, R322, R323, R349, R350). -/
def lineCommand (rq : Requester) (base sub i n : Nat) (s : State) : Option (Host.Outcome State Fault Refusal) :=
  let w : Wale := Fin.ofNat 32 i
  let k : Lane := Fin.ofNat 32 i
  let h : Hoop := Fin.ofNat 16 i
  match base, sub, n with
  | 0x7040, 0x02, 1 => some (execWaleCreate rq w s)
  | 0x7040, 0x02, 2 => some (execWaleAddLane rq w s)
  | 0x7040, 0x02, 3 => some (execWaleRemoveLane rq w s)
  | 0x7040, 0x02, 4 => some (execWaleDelete rq w s)
  | 0x7820, 0x02, n => some (execLineHoopClearEnableBWrite rq h (BitVec.ofNat 32 n) s)
  | 0x7880, 0x04, 1 => some (execLineSessionOpen rq w s)
  | 0x7880, 0x04, 2 => some (execLineSessionClose rq w s)
  | 0x7880, 0x04, 3 => some (execLineRekeyTx rq w s)
  | 0x8020, 0x01, n => some (execPairSettingWrite rq (Fin.ofNat 16 i) (BitVec.ofNat 8 n) s)
  | 0x8040, 0x01, n => some (execLineLaneModeWrite rq k (BitVec.ofNat 8 n) s)
  | 0x8040, 0x02, n => some (execLineLaneResolutionWrite rq k (BitVec.ofNat 8 n) s)
  | 0x8040, 0x03, n => some (execLineLaneFrequencyWrite rq k (BitVec.ofNat 32 n) s)
  | 0x80A0, 0x05, 1 => some (execIpSelect rq (Fin.ofNat 16 i) s)
  | 0x80A0, 0x05, 2 => some (execIpClearTrip rq (Fin.ofNat 16 i) (toSigned 32 (s.freeNat 32)) s.tookFree)
  | 0x80C0, 0x07, 1 => some (execLaserCommission rq (Fin.ofNat 20 i) s)
  | 0x80C0, 0x07, 2 => some (execLaserRetire rq (Fin.ofNat 20 i) s)
  | 0x8100, 0x06, 1 => some (execEngineCommission rq (Fin.ofNat 16 i) s)
  | 0x9000, 0x02, 1 => some (execSampleClear rq s)
  | 0x9000, 0x02, 2 => some (execSampleFreeze rq s)
  | 0x9000, 0x02, 3 => some (execSampleRun rq s)
  | 0xA000, 0x02, n => some (execFabricAddressWrite rq (BitVec.ofNat 16 n) s)
  | 0xA020, 0x07, 1 => some (execShadowStart rq h s)
  | 0xA020, 0x07, 2 => some (execShadowStop rq h s)
  | 0x9040, sub, n => if 4 ≤ sub then some (execPolicerWrite rq h (BitVec.ofNat 8 sub) (BitVec.ofNat 64 n) s) else none
  | _, _, _ => none

/-- Commands of time, clocks, control, security, the meter, events and reset (R364, R381, R424, R425, R446–R448, R463, R478). -/
def moduleCommand (rq : Requester) (base sub i n : Nat) (b : Bytes) : Option (State → Host.Outcome State Fault Refusal) :=
  let piece : BitVec 32 := BitVec.ofNat 32 (field b 0 4)
  match base, sub, n with
  | 0xB010, 0x02, n => some (execTbIncrementWrite rq (Fin.ofNat 4 i) (BitVec.ofNat 64 n))
  | 0xB010, 0x03, n => some (execTbSetTime rq (Fin.ofNat 4 i) (BitVec.ofNat 80 n))
  | 0xC000, 0x03, n => some (execClkoutWrite rq 3 (BitVec.ofNat 32 n))
  | 0xC000, 0x04, n => some (execClkoutWrite rq 4 (BitVec.ofNat 32 n))
  | 0xC100, 0x01, n => some (execDomainSourceWrite rq (Fin.ofNat 100 i) (BitVec.ofNat 8 n))
  | 0xC100, 0x03, 1 => some (execDomainRestart rq (Fin.ofNat 100 i))
  | 0x1100, 0x07, n => some (execMailboxPost rq (Fin.ofNat 64 i) (BitVec.ofNat 32 n))
  | 0x1200, 0x03, 1 => some (execPersistCommit rq)
  | 0xF000, 0x01, 1 => some (execSnapshotTrigger rq)
  | 0xF000, 0x01, 2 => some (execSnapshotArm rq)
  | 0xF000, 0x01, 3 => some (execSnapshotDisarm rq)
  | 0xF000, 0x01, 4 => some (execSnapshotUnlock rq)
  | 0xD000, 0x05, _ => some (execOwnershipTransfer rq b)
  | 0xD000, 0x0A, _ => some (execFirmwareStageWrite rq piece (b.drop 4))
  | 0xD000, 0x0C, 1 => some (execFirmwareInstall rq)
  | 0xD000, 0x0E, _ => some (execAttestNonceWrite rq b)
  | 0xD020, 0x04, _ => some (execHoopAttestNonceWrite rq (Fin.ofNat 16 i) b)
  | 0xD100, 0x02, _ => some (execMeterStageWrite rq piece (b.drop 4))
  | 0xD100, 0x04, 1 => some (execMeterInstall rq)
  | 0xE000, 0x08, n => some (execEventAck rq (BitVec.ofNat 32 n))
  | 0xC600, 0x06, 1 => some (execResetCold rq)
  | 0xC600, 0x06, 2 => some (execResetWarm rq)
  | 0xC600, 0x06, 3 => some (execResetHub rq)
  | 0xC600, 0x06, 4 => some (execResetDie rq)
  | 0xC600, 0x06, 5 => some (execResetHoop rq)
  | _, _, _ => none

/-- Writes with a token that are commands of their own (R285, R332, R435). -/
def signedCommand (rq : Requester) (base sub i n : Nat) (b : Bytes) (t : Token) :
    Option (State → Host.Outcome State Fault Refusal) :=
  match base, sub with
  | 0x7820, 0x01 => some (execLineHoopClearEnableAWrite rq (Fin.ofNat 16 i) (BitVec.ofNat 8 n) t)
  | 0xA020, 0x01 => some (execFenceRecordWrite rq (Fin.ofNat 16 i) b t)
  | 0xD000, 0x06 => some (execRollbackFloorWrite rq (BitVec.ofNat 32 n) t)
  | _, _ => none

/-- The command that a write of a value is, if it is one. -/
def State.ownCommand (s : State) (rq : Requester) (base sub i : Nat) (v : Val) (token : Option Token) :
    Option (Host.Outcome State Fault Refusal) :=
  let n := v.toNat
  let b := v.toBytes
  match token with
  | some t => (signedCommand rq base sub i n b t).map fun f => f s
  | none =>
    (((workCommand rq base sub i n b).map fun f => f s).or ((fabricCommand rq base sub i n).map fun f => f s)).or
      ((lineCommand rq base sub i n s).or ((moduleCommand rq base sub i n b).map fun f => f s))

/-- The state that an outcome leads to; no meaning that a write reaches stops. -/
def stateAfter (s : State) : Host.Outcome State Fault Refusal → State
  | .next t => t
  | .fault _ => s
  | .refused _ => s

/-- A write of a value to an object, with a token for a SIG object: a command of its own, or the effect of `writeEffect`. What
fails checks 1–6 is refused by `request`. -/
def State.writeVal (s : State) (rq : Requester) (k : Nat) (r : ObjRow) (i : Nat) (v : Val) (token : Option Token) : State :=
  match if r.fits v then s.ownCommand rq r.base r.sub i v token else none with
  | some o => stateAfter s o
  | none => s.request rq k v token (writeEffect k r.base r.sub i v)

/-- A Write of bytes at an Offset (R403): for a SIG object the value and its token (R402). -/
def State.writeObject (s : State) (rq : Requester) (k offset : Nat) (b : Bytes) : State :=
  match findRow k with
  | none => s.request rq k (.blob b) none (plainWrite k (.blob b))
  | some (r, i) =>
    if r.acc = .sig ∧ tokenLength ≤ b.length then
      let n := b.length - tokenLength
      s.writeVal rq k r i (writtenValue r offset (b.take n)) (some (tokenOf (b.drop n)))
    else s.writeVal rq k r i (writtenValue r offset b) none

end Sys2Proof.Machine
end

