-- ==== Sys2Proof/Machine/Dictionary.lean ====
section
/-! DEFINITION. The dictionary requests (R403, R404) and the paths beside PCIe: PDP messages (R412, R413) and peer requests (R414,
R415). -/

namespace Sys2Proof.Machine

open Sys2Proof

/-! ### Requests (R403) -/

/-- The mailbox whose MailboxTake a key is (R410). -/
def takeOf (k : Nat) : Option Mailbox := (List.finRange 64).find? fun n => k == Obj.mailboxTake n

/-- A Read (R403): a read of MailboxTake takes the word (R410). -/
def State.readRequest (s : State) (rq : Requester) (k offset length : Nat) : State :=
  match takeOf k with
  | some n => stateAfter s (execMailboxTake rq n s)
  | none => s.serveRead rq k offset length (State.readObject rq k)

/-- DICT_READ (R403, R404). -/
def execDictRead (rq : Requester) (index : BitVec 16) (sub : BitVec 8) (offset length : Nat) (s : State) :
    Host.Outcome State Fault Refusal :=
  .next (s.readRequest rq (keyOf index.toNat sub.toNat) offset length)

/-- DICT_WRITE (R403, R404). -/
def execDictWrite (rq : Requester) (index : BitVec 16) (sub : BitVec 8) (offset : Nat) (data : Bytes) (s : State) :
    Host.Outcome State Fault Refusal :=
  .next (s.writeObject rq (keyOf index.toNat sub.toNat) offset data)

/-- The code of a type (R399). -/
def ObjType.code : ObjType → Nat
  | .u8 => 1
  | .u16 => 2
  | .u32 => 3
  | .u64 => 4
  | .i32 => 5
  | .bool => 6
  | .enum => 7
  | .str => 8
  | .blob => 9
  | .time80 => 10

/-- The code of an access (R400). -/
def Access.code : Access → Nat
  | .ro => 0
  | .rw => 1
  | .wo => 2
  | .rws => 3
  | .sig => 4

/-- The code of a retention class (R401). -/
def Retention.code : Retention → Nat
  | .v => 0
  | .w => 1
  | .p => 2
  | .h => 3

/-- The 16-byte descriptor of an object (R403). -/
def descriptor (r : ObjRow) (i : Nat) : Bytes :=
  leBytes 1 r.ty.code ++ leBytes 1 r.acc.code ++ leBytes 1 r.ret.code ++ leBytes 1 0 ++ leBytes 4 r.size ++
  ((r.encode (r.dflt i)).take 8 ++ List.replicate 8 0).take 8

/-- A Describe (R403): checks 1 and 2 of R404. -/
def State.describeRequest (s : State) (rq : Requester) (k : Nat) : State :=
  if !s.serves rq then s
  else
    let s1 := s.dropLatch rq k
    match findRow k with
    | none => s1.answer rq St.accessDenied 0 0 []
    | some (r, i) =>
      if s1.authorised rq k false then s1.answer rq St.ok 0 16 (descriptor r i)
      else (s1.countRefusal rq k false).answer rq St.accessDenied 0 0 []

/-- DICT_DESCRIBE (R403). -/
def execDictDescribe (rq : Requester) (index : BitVec 16) (sub : BitVec 8) (s : State) : Host.Outcome State Fault Refusal :=
  .next (s.describeRequest rq (keyOf index.toNat sub.toNat))

/-- The snapshot value of an object and its Stale flag (R419). Where nothing has been latched a V or W object reads its default. -/
def State.snapshotValue (s : State) (k : Nat) : Val × Nat :=
  match retentionOf k with
  | .p => (s.view k, 0)
  | .h => (s.view k, 0)
  | _ =>
    let x := s.control.snapshot.getD {}
    let d := objectDomain k
    if x.off.contains d then
      ((match objDefault k with
        | .num _ => .num 0
        | .blob _ => .blob []), 1)
    else
      (if s.control.snapshot.isSome && isMeasured k then
          .num (Config.freeValue (8 * fixedSize k) (x.free + k)).toNat
        else Map.get (objDefault k) x.values k, if x.stale.contains d then 1 else 0)

/-- A ReadSnapshot (R403, R419): as Read, from the snapshot copy. -/
def State.snapshotRequest (s : State) (rq : Requester) (k offset length : Nat) : State :=
  if !s.serves rq then s
  else
    let s1 := (s.dropLatch rq k).touch k
    let st := s1.readStatus rq k offset
    if st ≠ St.ok then (s1.countRefusal rq k false).answer rq st 0 0 []
    else
      let s2 := s1.settleLatch k
      let x := s2.snapshotValue k
      s2.answerRead rq k offset length x.2 (scopedValue (s2.scopeOf rq) k (encodeVal k x.1))

/-- DICT_READ_SNAPSHOT (R419). -/
def execDictReadSnapshot (rq : Requester) (index : BitVec 16) (sub : BitVec 8) (offset length : Nat) (s : State) :
    Host.Outcome State Fault Refusal :=
  .next (s.snapshotRequest rq (keyOf index.toNat sub.toNat) offset length)

/-- A write with a token apart from its value (R402): for an object that is not SIG the token's bytes belong to the value. -/
def State.signedWrite (s : State) (rq : Requester) (k : Nat) (value : Bytes) (token : Token) : State :=
  match findRow k with
  | some (r, i) =>
    if r.acc = .sig then s.writeVal rq k r i (valueOf r value) (some token)
    else s.writeObject rq k 0 (value ++ tokenHead token ++ token.signature)
  | none => s.writeObject rq k 0 value

/-- SIG_TOKEN_WRITE (R402). -/
def execSigTokenWrite (rq : Requester) (index : BitVec 16) (sub : BitVec 8) (value : Bytes) (token : Token) (s : State) :
    Host.Outcome State Fault Refusal :=
  .next (s.signedWrite rq (keyOf index.toNat sub.toNat) value token)

/-- A request by its Command code (R403); another code fails check 1 of R404. -/
def State.commanded (s : State) (rq : Requester) (command k offset length : Nat) (data : Bytes) : State :=
  match command with
  | 1 => s.readRequest rq k offset length
  | 2 => s.writeObject rq k offset data
  | 3 => s.describeRequest rq k
  | 4 => s.snapshotRequest rq k offset length
  | _ => if s.serves rq then s.answer rq St.accessDenied 0 0 [] else s

/-! ### PDP (R412, R413) -/

/-- A session that has carried 2^32 messages is closed (R413). -/
def State.retirePdp (s : State) (n : Nat) : State :=
  if 2 ^ 32 ≤ (s.pdpSession n).messages then s.closePdp n else s

/-- A whole PDP message (R412, R413): ciphertext and tag under the session key. One whose tag fails is discarded; a request
already answered is answered from the kept copy. The header is that of R407 with Go omitted: 60 bytes. -/
def State.pdpMessage (s : State) (session : PdpSession) (seq : Nat) (message : Bytes) : State :=
  let p := s.pdpSession session
  let n := message.length - 16
  match gcmOpen p.key (leBytes 4 session ++ leBytes 8 seq) [] (message.take n) (message.drop n) with
  | none => s
  | some plain =>
    match p.responses.find? fun r => r.1 == seq with
    | some r => s.emit (.pdp session (seq + 1) (pdpSeal p.key session (seq + 1) r.2))
    | none =>
      let b := plain
      let s1 := s.setPdp session { p with messages := p.messages + 1 }
      ((s1.commanded (.pdp session seq) (field b 0 1) (keyOf (field b 4 2) (field b 2 1)) (field b 8 4) (field b 12 4)
        (slice b 60 (field b 12 4)))).retirePdp session

/-- PDP_REQUEST_RECEIVED (R413): fragments of one sequence number are put together; the client's numbers are even. -/
def execPdpRequestReceived (session : PdpSession) (seq : Nat) (fragment count : Nat) (payload : Bytes) (s : State) :
    Host.Outcome State Fault Refusal :=
  let p := s.pdpSession session
  .next (
    if p.phase ≠ 2 ∨ !s.flag Obj.pdpEnable ∨ s.limp ∨ seq % 2 ≠ 0 ∨ count ≤ fragment then s
    else
      let old := if p.fragmentSeq = seq then p.fragments else []
      let parts := (old.filter fun x => x.1 != fragment) ++ [(fragment, payload)]
      if (List.range count).all fun i => parts.any fun x => x.1 == i then
        (s.setPdp session { p with fragments := [] }).pdpMessage session seq
          ((List.range count).flatMap fun i => ((parts.find? fun x => x.1 == i).map Prod.snd).getD [])
      else s.setPdp session { p with fragmentSeq := seq, fragments := parts })

/-! ### Peers (R414, R415) -/

/-- PEER_READ_RECEIVED (R414, R415): Command 1, 3 or 4. -/
def execPeerReadReceived (wale : Wale) (index : BitVec 16) (sub command : BitVec 8) (offset length : Nat) (tag : BitVec 32)
    (s : State) : Host.Outcome State Fault Refusal :=
  .next (
    if !s.established wale then s
    else s.commanded (.peer wale tag) (if command = 2 then 0 else command.toNat) (keyOf index.toNat sub.toNat) offset length [])

/-- PEER_WRITE_RECEIVED (R414, R415). -/
def execPeerWriteReceived (wale : Wale) (index : BitVec 16) (sub : BitVec 8) (offset : Nat) (value : Bytes) (tag : BitVec 32)
    (s : State) : Host.Outcome State Fault Refusal :=
  .next (if !s.established wale then s else s.commanded (.peer wale tag) 2 (keyOf index.toNat sub.toNat) offset 0 value)

/-- PEER_RESPONSE_RECEIVED (R414): the answer is kept for who asked; the last 64 are. -/
def execPeerResponseReceived (wale : Wale) (tag : BitVec 32) (status flags : BitVec 16) (total : Nat) (data : Bytes) (s : State) :
    Host.Outcome State Fault Refusal :=
  .next (
    if !s.established wale then s
    else { s with control := { s.control with
        peerAnswers := (⟨wale.val, tag.toNat, status.toNat, flags.toNat, total, data⟩ :: s.control.peerAnswers).take 64 } })

end Sys2Proof.Machine
end

