-- ==== Sys2Proof/Machine/Segments.lean ====
section
/-! DEFINITION. Received segments (R257, R260, R261, R281, R283): checks, decryption, acceptance and delivery, transit (R256), fenced
origins (R332), forwarding to a shadow (R337). -/

namespace Sys2Proof.Machine

open Sys2Proof

/-! ### The header (R256) -/

def headerLink (h : Bytes) : Bool := (h.getD 0 0).toNat.testBit 5
def headerEpoch (h : Bytes) : Nat := beNat (slice h 1 1)
def headerSession (h : Bytes) : Nat := beNat (slice h 2 1)
def headerCounter (h : Bytes) : Nat := beNat (slice h 4 8)
def headerDestination (h : Bytes) : Nat := beNat (slice h 30 2)

/-! ### The Request list (R257, R261) -/

/-- The sequence number of a segment joins the Request list (R257). -/
def State.requestSegment (s : State) (w : Nat) (h : Bytes) : State :=
  if headerLink h then s
  else
    let q := headerCounter h % 2 ^ 32
    s.requestRun w (q, (q + 1) % 2 ^ 32)

/-- The segment leaves the list of those that delineation has found. -/
def takeDelineated (r : WaleRx) : WaleRx :=
  { r with delineated := r.delineated.drop 1, breakMarks := r.breakMarks.map fun m => (m.1 - 1, m.2) }

/-- Breaks before which every delineated segment has now been checked: the numbers lost begin after the last one accepted (R261). -/
def State.settleMarks (s : State) (w : Nat) : State :=
  let v := s.wale w
  if v.rx.breakMarks = [] then s
  else s.setWale w { v with rx := { v.rx with
    breakMarks := v.rx.breakMarks.map fun m => if m.1 = 0 then (0, some (m.2.getD v.rx.nextAfter)) else m } }

/-- The first data segment delineated after a break (R261): the numbers between the last one accepted before the break and this one join
the Request list. -/
def State.afterBreak (s : State) (w : Nat) (h : Bytes) : State :=
  let v := s.wale w
  let q := headerCounter h % 2 ^ 32
  let s1 := s.setWale w { v with rx := { v.rx with breakMarks := v.rx.breakMarks.filter fun m => m.1 != 0 } }
  s1.each (v.rx.breakMarks.filter fun m => m.1 == 0) fun t m =>
    let first := m.2.getD v.rx.nextAfter
    if seqBefore first q then t.requestRun w (first, q) else t

/-! ### Failures (R257, R281, R283) -/

/-- A segment that fails the first or second row of R257; delineation has broken the stream at one that it found there. -/
def State.headerError (s : State) (w : Nat) (x : RxSegment) (queued : Bool) : State :=
  let s1 := s.bump 64 (Obj.segmentHeaderErrors w) 1
  if x.fixedSlot ∨ queued then s1
  else
    let v := s1.wale w
    (s1.setWale w { v with rx := brokenRx v.rx }).countBreaks w

/-- The sequence number is below Cumulative or marked (R260). -/
def State.isDuplicate (s : State) (w counter : Nat) : Bool :=
  seqBefore counter (s.num (Obj.repeatRxCumulative w)) || (s.wale w).rx.accepted.contains (counter % 2 ^ 32)

/-- A ChunkNotice with ST_AUTH_FAIL for a VC2 segment of an operation that asks for chunk records (R63, R283). -/
def State.authNotice (s : State) (h : Nat) (header : Bytes) : State :=
  let g := headerGroup header
  if headerVc header ≠ 2 ∨ s.num (Obj.groupState g) = 0 ∨ s.hoopOfGroup g ≠ h then s
  else match s.operation g (headerSequence header) with
    | none => s
    | some o =>
      if dFlag o.desc 0 && o.ending.isNone && headerTag header == o.epoch % 256 then
        let i := match s.recordOf g o (headerChunk header) with
          | some r => consumerIndex r (headerChunk header)
          | none => headerChunk header
        if s.recordUsable g o.desc recChunkNotice then
          s.writeRecord g o.desc recChunkNotice 0 St.authFail (some i) i o.done.length
        else s.undeliverable g o.seq
      else s

/-- EV_LINE_AUTH_FAIL, at most once per second per wale (R283). -/
def State.reportAuth (s : State) (w n : Nat) : State :=
  let v := s.wale w
  if v.lastAuthEvent.all fun t => decide (t + 1000000000 ≤ s.now) then
    (s.setWale w { v with lastAuthEvent := some s.now }).raise Ev.lineAuthFail { unit := w, detail := n }
  else s

/-- Count a failure of a session direction; more than LineAuthFailLimit within one second are a storm (R283): a hoop session is
rekeyed, the module session is lost. -/
def State.countAuth (s : State) (w n : Nat) : State :=
  let x := s.session w n
  let times := s.now :: x.failures.filter fun t => decide (s.now < t + 1000000000)
  if s.num Obj.lineAuthFailLimit < times.length then
    let s1 := (s.setSession w n { x with failures := [] }).raise Ev.lineAuthStorm { unit := w, detail := n }
    if n = 0 then s1.loseWale w else s1.rekeyDue w n
  else s.setSession w n { x with failures := times }

/-- The plaintext that the engine forms while it computes the tag (R283), under the key of the segment's epoch (R271); in clear mode the
payload itself (R285). -/
def State.plaintextOf (s : State) (w : Nat) (x : RxSegment) : Bytes :=
  let y := s.session w (headerSession x.header)
  let iv := segmentIv (headerEpoch x.header) (s.num (Obj.waleIdentity w)) (headerCounter x.header)
  if y.clear then x.body else gcmCrypt (Map.get [] y.rxKeys (headerEpoch x.header)) iv x.body

/-- VC2 data whose tag fails has been written where it belongs (R283): into its armed site slot, over bytes that no verified copy has
written. What goes to a pool buffer is written when a buffer is taken, which a failed segment takes none of (log entry 95). -/
def State.writeUnverified (s : State) (w h : Nat) (x : RxSegment) : State :=
  let g := headerGroup x.header
  let seq := headerSequence x.header
  let i := headerChunk x.header
  let off := headerOffset x.header
  if headerVc x.header ≠ 2 ∨ s.num (Obj.groupState g) = 0 ∨ s.hoopOfGroup g ≠ h ∨
      s.segmentFate g (headerTag x.header) seq ≠ .live then s
  else
    let y := s.stream g seq i (headerOrigin x.header)
    match s.armedSlot g seq i (headerOrigin x.header) with
    | some slot => if touched y.got off (off + x.body.length) then s
      else s.storeTile slot.1 (slot.2 + off) (s.plaintextOf w x)
    | none => s

/-- A tag that does not verify (R283). -/
def State.tagFailed (s : State) (w : Nat) (x : RxSegment) : State :=
  let header := x.header
  let n := headerSession header
  let h := (s.session w n).hoop
  let s1 := s.requestSegment w header
  let s2 := if n ≠ 0 ∧ h < 16 then
      let t := if s.isDuplicate w (headerCounter header) then s1 else s1.writeUnverified w h x
      (t.authNotice h header).bump 64 (Obj.lineHoopAuthFailures h) 1
    else s1
  ((s2.bump 64 (Obj.lineAuthFailures w) 1).reportAuth w n).countAuth w n

/-! ### The tag (R271, R281, R285) -/

/-- Plaintext of a segment under the key of its epoch (R271); in clear mode the payload is only authenticated (R285). -/
def State.openSegment (s : State) (w : Nat) (x : RxSegment) : Option Bytes :=
  let y := s.session w (headerSession x.header)
  let key := Map.get [] y.rxKeys (headerEpoch x.header)
  let iv := segmentIv (headerEpoch x.header) (s.num (Obj.waleIdentity w)) (headerCounter x.header)
  if y.clear then (gcmOpen key iv (x.header ++ x.body) [] x.tag).map fun _ => x.body
  else gcmOpen key iv x.header x.body x.tag

/-! ### Delivery (R256, R260) -/

/-- A verified segment goes to its consumer. -/
def State.hand (s : State) (w : Nat) (header payload : Bytes) : State := s.emit (.delivered w header payload)

/-- The segments of VC0 and VC4 that the L die holds, and their bytes (R260). -/
def heldAhead (r : WaleRx) : Nat × Nat :=
  let l := r.held0 ++ r.held4
  (l.length, (l.map fun c => c.2.length).sum)

/-- Deliver what has been held in ascending VcSequence, as far as no gap follows (R260). -/
def State.drainHeld : Nat → State → Nat → Nat → State
  | 0, s, _, _ => s
  | fuel + 1, s, w, vc =>
    let v := s.wale w
    let next := if vc = 0 then v.rx.next0 else v.rx.next4
    let held := if vc = 0 then v.rx.held0 else v.rx.held4
    match Map.get [] held next with
    | [] => s
    | b =>
      let rest := Map.put [] held next []
      let rx : WaleRx := if vc = 0 then { v.rx with held0 := rest, next0 := (next + 1) % 2 ^ 32 }
        else { v.rx with held4 := rest, next4 := (next + 1) % 2 ^ 32 }
      State.drainHeld fuel ((s.setWale w { v with rx := rx }).hand w (b.take 32) (b.drop 32)) w vc

/-- A VC0 or VC4 segment is held, accepted and delivered in order; discarded unaccepted where the L die has no room (R260). -/
def State.takeOrdered (s : State) (w vc : Nat) (header payload : Bytes) : State :=
  let v := s.wale w
  let room := heldAhead v.rx
  let q := beNat (slice header 16 4)
  if 4096 ≤ room.1 ∨ 8 * 2 ^ 20 < room.2 + header.length + payload.length then s
  else
    let rx : WaleRx := if vc = 0 then { v.rx with held0 := Map.put [] v.rx.held0 q (header ++ payload) }
      else { v.rx with held4 := Map.put [] v.rx.held4 q (header ++ payload) }
    let s1 := (s.setWale w { v with rx := rx }).accept w (headerCounter header)
    State.drainHeld (room.1 + 2) s1 w vc

/-- A VC1 or VC2 segment ahead of its group's epoch is held; one of VC2 needs a buffer of the hoop's VC2 owner (R201, R260). -/
def State.holdEarly (s : State) (w h : Nat) (header payload : Bytes) : State :=
  let g := headerGroup header
  let keep (t : State) (b : Option Nat) : State :=
    let v := t.wale w
    (t.setWale w { v with rx := { v.rx with early := v.rx.early ++ [(header, payload, b)] } }).accept w (headerCounter header)
  if headerVc header = 1 then keep s none
  else match (classFor payload.length).bind fun c => s.poolRequest h 2 (some g) c with
    | some r => keep r.1 (some r.2)
    | none => s.deferSegment h 2

/-- A verified VC2 segment of a hoop that has a shadow goes on to it on VC3 (R337). -/
def State.forwardShadow (s : State) (h : Nat) (header payload : Bytes) : State :=
  match (s.hoop h).shadow with
  | none => s
  | some a =>
    let r := s.routeFor h a
    s.enqueue r.1 {
      owner := h, vc := 3, session := r.2, origin := headerOrigin header, destination := a
      opSequence := headerSequence header, tail := slice header 20 10, payload := payload, entered := 0 }

/-- VC2 data of a live operation: placed, and accepted when written there (R260, R337). -/
def State.takeStream (s : State) (w h : Nat) (header payload : Bytes) : State :=
  match s.placeSegment w (headerCounter header) h (headerGroup header) (headerSequence header) (headerChunk header) (headerOrigin header)
      (headerOffset header) payload with
  | some t => ((t.forwardShadow h header payload).accept w (headerCounter header)).hand w header payload
  | none => s.deferSegment h 2

/-- VC1 and VC2 data (R260): gone, ahead of the epoch, or live. -/
def State.takeData (s : State) (w h : Nat) (header payload : Bytes) : State :=
  let g := headerGroup header
  let counter := headerCounter header
  if s.num (Obj.groupState g) = 0 ∨ s.hoopOfGroup g ≠ h then s.accept w counter
  else match s.segmentFate g (headerTag header) (headerSequence header) with
    | .gone => s.accept w counter
    | .ahead => s.holdEarly w h header payload
    | .live => if headerVc header = 1 then (s.accept w counter).hand w header payload else s.takeStream w h header payload

/-- VC3 data of a hoop: a shadow that compares takes it as its primary's VC2 data (R337); else it goes into a buffer of the hoop's
VC3 owner (R260). -/
def State.takeBulk (s : State) (w h : Nat) (header payload : Bytes) : State :=
  let g := headerGroup header
  if s.shadowSilent h then
    if s.num (Obj.groupState g) ≠ 0 ∧ s.hoopOfGroup g = h ∧
        s.segmentFate g (s.num (Obj.groupEpoch g) % 256) (headerSequence header) = .live then s.takeStream w h header payload
    else s.accept w (headerCounter header)
  else match (classFor payload.length).bind fun c => s.poolRequest h 3 none c with
    | some r => ((r.1.emit (.handle h 3 r.2)).accept w (headerCounter header)).hand w header payload
    | none => s.deferSegment h 3

/-- The session of a wale that carries on a transit segment: session 0, or the session of the same PlanHash (R277). -/
def State.transitSession (s : State) (w n out : Nat) : Option Nat :=
  if n = 0 then some 0
  else ((s.wale out).sessions.find? fun c =>
    c.1 != 0 && c.2.state == 2 && c.2.planHash == (s.session w n).planHash).map Prod.fst

/-- A segment for another module (R256, R277): it waits in the transit queue of the wale on its route, and is accepted here when it
stands in that wale's repeat buffer. Without a route it is not accepted. -/
def State.forward (s : State) (w : Nat) (header payload : Bytes) : State :=
  let counter := headerCounter header
  match (s.waleTo (headerDestination header)).bind fun out =>
    if out = w then none else (s.transitSession w (headerSession header) out).map fun n => (out, n) with
  | none => s
  | some (out, n) =>
    let waiting := (s.wale out).tx.queue.any fun r => r.transit == some (w, counter)
    if waiting then s
    else s.enqueue out {
      owner := 16, vc := headerVc header, session := n, epochTag := headerTag header, origin := headerOrigin header
      destination := headerDestination header, opSequence := headerSequence header, tail := slice header 20 10
      payload := payload, entered := 0, transit := some (w, counter) }

/-- The segment at a sequence number lies at or beyond Cumulative + 2^20 (R260). -/
def State.beyondReceive (s : State) (w counter : Nat) : Bool :=
  decide (2 ^ 20 ≤ seqDist (s.num (Obj.repeatRxCumulative w)) counter)

/-- A copy of an accepted segment that was lost before its use (R184): it is delivered once more. -/
def State.takeLost (s : State) (w counter : Nat) : State :=
  let v := s.wale w
  s.setWale w { v with rx := { v.rx with lost := v.rx.lost.filter (· != counter % 2 ^ 32) } }

/-- A verified data segment (R260, R332). -/
def State.takeSegment (s : State) (w : Nat) (header payload : Bytes) : State :=
  let n := headerSession header
  let h := (s.session w n).hoop
  let counter := headerCounter header
  let vc := headerVc header
  if s.isDuplicate w counter then
    if (s.wale w).rx.lost.contains (counter % 2 ^ 32) ∧ vc = 2 ∧ n ≠ 0 ∧ h < 16 then (s.takeLost w counter).takeData w h header payload
    else s.bump 64 (Obj.repeatRxDuplicates w) 1
  else if s.beyondReceive w counter then s
  else if n ≠ 0 ∧ h < 16 ∧ s.fencedIn h (headerOrigin header) then
    ((s.accept w counter).bump 64 (Obj.repeatSessionDiscards w) 1).noteFenced h (headerOrigin header)
  else if headerDestination header ≠ s.num Obj.fabricAddress ∧ headerDestination header ≠ 0 then s.forward w header payload
  else if vc = 0 ∨ vc = 4 then s.takeOrdered w vc header payload
  else if n = 0 ∨ 16 ≤ h then (s.accept w counter).hand w header payload
  else if vc = 3 then s.takeBulk w h header payload
  else s.takeData w h header payload

/-- The checks of R257 from row 3 on, and what follows them. -/
def State.checkSegment (s : State) (w : Nat) (x : RxSegment) : State :=
  let header := x.header
  let n := headerSession header
  let y := s.session w n
  let counter := headerCounter header
  let old := s.isDuplicate w counter
  if x.bodyFlag then (s.requestSegment w header).bump 64 (Obj.segmentsFecDiscarded w) 1
  else if n ≠ 0 ∧ y.state = 0 then
    if headerLink header then s
    else if old then s.bump 64 (Obj.repeatRxDuplicates w) 1
    else if s.beyondReceive w counter then s
    else (s.accept w counter).bump 64 (Obj.repeatSessionDiscards w) 1
  else if n = 0 ∧ headerEpoch header = 0 ∧ s.established w then s.strayHandshake w
  else if Map.get [] y.rxKeys (headerEpoch header) = [] then
    if headerLink header then s.bump 64 Obj.lineEpochUnknown 1
    else if seqBefore counter (s.num (Obj.repeatRxCumulative w)) then s.bump 64 (Obj.repeatRxDuplicates w) 1
    else (s.requestSegment w header).bump 64 Obj.lineEpochUnknown 1
  else match s.openSegment w x with
    | none => s.tagFailed w x
    | some payload => if headerLink header then s.hand w header payload else s.takeSegment w header payload

/-- SEGMENT_RECEIVED (R257, R260, R261): the segment is the next that delineation found, or comes as it is. -/
def execSegmentReceived (w : Wale) (segment : RxSegment) (s : State) : Host.Outcome State Fault Refusal :=
  let v := s.wale w
  let queued := v.rx.delineated.head? == some segment
  let broken := !segment.fixedSlot && !headerLink segment.header && v.rx.breakMarks.any fun m => m.1 == 0
  let s1 := if queued then s.setWale w { v with rx := takeDelineated v.rx } else s
  let s2 := if segment.headerFlag ∨ !validHeader segment.header ∨ segment.body.length ≠ beNat (slice segment.header 12 2) then
      s1.headerError w segment queued
    else (if broken then s1.afterBreak w segment.header else s1).checkSegment w segment
  .next (s2.settleMarks w)

end Sys2Proof.Machine
end

