-- ==== Sys2Proof/Machine/TileControl.lean ====
section
/-! DEFINITION. Control instructions of the tile (R120, R121) and the completion of FENCE. -/

namespace Sys2Proof.Machine

open Sys2Proof

/-- The target of a branch: PC + sext(IMM[15:0]) (R120); a target below 0 lies outside the code. -/
def Running.target (k : Running) : Nat := (k.x.pc + immSext k.w 16) % 2 ^ 64

/-- A conditional branch (R120). -/
def Running.branchIf (k : Running) (b : Bool) : Issue := if b then .jump k.s k.target else .ok k.s {}

/-- NOP (R120). -/
def execNop (t : Tile) (x : TileWord) (s : State) : Host.Outcome State Fault Refusal :=
  .next (s.issue t 0x00 x {} none fun k => .ok k.s {})

/-- JMP (R120). -/
def execJmp (t : Tile) (x : TileWord) (s : State) : Host.Outcome State Fault Refusal :=
  .next (s.issue t 0x01 x { imm := 0xFFFF } none fun k => .jump k.s k.target)

/-- BEQZ (R120). -/
def execBeqz (t : Tile) (x : TileWord) (s : State) : Host.Outcome State Fault Refusal :=
  .next (s.issue t 0x02 x { a := .s, imm := 0xFFFF } none fun k => k.branchIf (k.sa == 0))

/-- BNEZ (R120). -/
def execBnez (t : Tile) (x : TileWord) (s : State) : Host.Outcome State Fault Refusal :=
  .next (s.issue t 0x03 x { a := .s, imm := 0xFFFF } none fun k => k.branchIf (k.sa != 0))

/-- JAL (R120). -/
def execJal (t : Tile) (x : TileWord) (s : State) : Host.Outcome State Fault Refusal :=
  .next (s.issue t 0x04 x { d := .s, imm := 0xFFFF } none fun k =>
    .jump (k.set (k.x.setS x.d.toNat (k.x.pc + 1))) k.target)

/-- JR (R120). -/
def execJr (t : Tile) (x : TileWord) (s : State) : Host.Outcome State Fault Refusal :=
  .next (s.issue t 0x05 x { a := .s } none fun k => .jump k.s k.sa)

/-- The effect of LOOP (R120): a count of 0 skips the body. Where both a cause of EX_LOOP and a count of 2^32 or more hold, the spec
names no order: the model raises EX_LOOP (DESIGN CHOICE, log entry 72). -/
def Running.loop (k : Running) : Issue :=
  let n := immBits k.w 11 0
  let last := k.x.pc + n
  if n = 0 ∨ codeCount k.x.image ≤ last ∨ 4 ≤ k.x.loops.length then .raise Ex.loop
  else if 2 ^ 32 ≤ k.sa then .raise Ex.range
  else if k.sa = 0 then
    let r := afterPc last k.x.loops
    .stay (k.set { k.x with pc := r.1, loops := r.2 })
  else .stay (k.set { k.x with pc := k.x.pc + 1, loops := (k.x.pc + 1, last, k.sa) :: k.x.loops })

/-- LOOP (R120). -/
def execLoop (t : Tile) (x : TileWord) (s : State) : Host.Outcome State Fault Refusal :=
  .next (s.issue t 0x06 x { a := .s, imm := 0xFFF } none Running.loop)

/-- FENCE (R120): it waits until every queue is empty. -/
def execFence (t : Tile) (x : TileWord) (s : State) : Host.Outcome State Fault Refusal :=
  .next (s.issue t 0x07 x {} none fun k => .ok (if k.x.idle then k.s else k.set { k.x with fenced := true }) {})

/-- CDONE (R121). -/
def execCdone (t : Tile) (x : TileWord) (s : State) : Host.Outcome State Fault Refusal :=
  .next (s.issue t 0x08 x {} none fun k => .stay (k.set { k.x with ending := true }))

/-- TRAP (R120): the code stands in the word that TileExceptionWord records. -/
def execTrap (t : Tile) (x : TileWord) (s : State) : Host.Outcome State Fault Refusal :=
  .next (s.issue t 0x09 x { imm := 0xFFFF } none fun _ => .raise Ex.trap)

/-- FENCE_COMPLETE (R120). -/
def execFenceComplete (t : Tile) (s : State) : Host.Outcome State Fault Refusal :=
  let x := s.tile t
  if x.fenced ∧ x.idle then .next (s.setTile t { x with fenced := false }) else .next s

end Sys2Proof.Machine
end

