-- ==== Sys2Proof/Machine/TileDma.lean ====
section
/-! DEFINITION. DMA and landing instructions of the tile and their completions (R108, R109, R111, R124–R126). -/

namespace Sys2Proof.Machine

open Sys2Proof

/-- IMM bits of DLD and DST, and of DGATH (R124). -/
def dmaImm : Nat := 0x8000003F
def gatherImm : Nat := 0x8000FF3F

/-- Region and Par of a DMA instruction (R124). -/
def Running.region (k : Running) : Nat := immBits k.w 3 0
def Running.par (k : Running) : Nat := immBits k.w 5 4

/-- A region offset uses bits [47:0] (R106). -/
def regionOffset (a : Nat) : Nat := a % 2 ^ 48

/-- Check a list of (offset, length) against a region (R109, R124): the parity, or the exception. -/
def Running.regionCheck (k : Running) (pieces : List (Nat × Nat)) (write : Bool) : Except Nat Nat :=
  match k.regionParity k.region k.par write with
  | .error e => .error e
  | .ok p => if pieces.any fun x => decide (k.regionLength k.region < x.1 + x.2) then .error Ex.bounds else .ok p

/-- What a DLD or DGATH reads: region pieces at a parity, one after the other from AA on (R124). -/
def Running.loadPieces (k : Running) (parity : Nat) (pieces : List (Nat × Nat)) : List LoadPiece :=
  let b := k.binding k.region
  pieces.zipIdx.map fun x => ⟨b.1, parity, b.2 + x.1.1, x.1.2, k.ta + x.2 * x.1.2, []⟩

/-- The parts of a load that are the chunk's local input: those inside the operation's source window, where it is a Buffer window on the
piece's plan buffer (R184, R217): offset, length. -/
def Running.inputPieces (k : Running) (x : LoadPiece) : List (Nat × Nat) :=
  let w := dSourceWindow k.o.desc
  let lo := k.s.num (Obj.windowBufferOffset w)
  let hi := lo + k.s.num (Obj.windowLength w)
  if k.s.num (Obj.windowState w) = 2 ∧ k.s.num (Obj.windowBuffer w) = x.buffer then
    let first := max lo x.off
    let last := min hi (x.off + x.len)
    if first < last then [(first, last - first)] else []
  else []

/-- Both address registers after a DLD or DST (R124). -/
def TileData.postBoth (x : TileData) (w : TileWord) (n : Nat) : TileData :=
  (x.post w w.a.toNat n).post w w.b.toNat n

/-- DLD (R124): EX_PARITY and EX_BOUNDS of the region are found before EX_ADDRESS of the tile range (DESIGN CHOICE, log entry 72). -/
def execDld (t : Tile) (x : TileWord) (s : State) : Host.Outcome State Fault Refusal :=
  .next (s.issue t 0x30 x { a := .a, b := .a, c := .s, imm := dmaImm } (some 3) fun k =>
    let off := regionOffset k.ab
    let n := k.sc
    if k.par = 3 then .raise Ex.illegal
    else if k.ta % 64 ≠ 0 ∨ off % 64 ≠ 0 ∨ n % 64 ≠ 0 then .raise Ex.address
    else match k.regionCheck [(off, n)] false with
      | .error e => .raise e
      | .ok p => k.access 3 [] [span k.ta n] fun y f =>
          .enter (k.set (y.postBoth x n)) 3 (.load (k.loadPieces p [(off, n)])) f)

/-- Writes of a region class that an operation discards (R342): class 2 in an autonomous step, class 1 in a replay. -/
def Operation.discards (o : Operation) (cls : Nat) : Bool := (o.autonomous && cls == 2) || (o.redo == 2 && cls == 1)

/-- DST (R124), with its faults in the order of DLD (DESIGN CHOICE, log entry 72). -/
def execDst (t : Tile) (x : TileWord) (s : State) : Host.Outcome State Fault Refusal :=
  .next (s.issue t 0x31 x { a := .a, b := .a, c := .s, imm := dmaImm } (some 3) fun k =>
    let off := regionOffset k.ab
    let n := k.sc
    if k.par = 3 then .raise Ex.illegal
    else if k.ta % 64 ≠ 0 ∨ off % 64 ≠ 0 ∨ n % 64 ≠ 0 then .raise Ex.address
    else match k.regionCheck [(off, n)] true with
      | .error e => .raise e
      | .ok p => k.access 3 [span k.ta n] [] fun y f =>
          let b := k.binding k.region
          .enter (k.set (y.postBoth x n)) 3 (.store b.1 p (b.2 + off) k.ta n (k.o.discards (regionDecl k.x.image k.region).cls)) f)

/-- DGATH (R124): its list gives the region bytes that its checks name, so it is withheld while an uncompleted instruction of its own queue
writes the list (DEDUCED, log entry 70). -/
def execDgath (t : Tile) (x : TileWord) (s : State) : Host.Outcome State Fault Refusal :=
  .next (s.issue t 0x32 x { a := .a, b := .a, c := .s, imm := gatherImm } (some 3) fun k =>
    let entries := k.sc
    let size := 64 * (immBits x 15 8 + 1)
    if k.par = 3 then .raise Ex.illegal
    else if k.ta % 64 ≠ 0 ∨ k.tb % 64 ≠ 0 then .raise Ex.address
    else if 4096 < entries then .raise Ex.range
    else
      let place := span k.tb (4 * entries)
      let list := (List.range entries).map fun e => leNat (k.x.read (k.tb + 4 * e) 4) * size
      if (k.x.queue 3).any fun j => meets place j.writes then .hold
      else k.access 3 [place] [span k.ta (entries * size)] fun y f =>
        match k.regionCheck (list.map fun o => (o, size)) false with
        | .error e => .raise e
        | .ok p => .enter (k.set (y.post x x.a.toNat (entries * size))) 3 (.load (k.loadPieces p (list.map fun o => (o, size)))) f)

/-- Length of the DestinationTarget of the chunk's operation; 0 where it has none (R51, R221). -/
def Running.targetLength (k : Running) : Nat :=
  let t := dDestinationTarget k.o.desc
  if t < 1024 then k.s.num (Obj.targetLength (targetIndex k.h t)) else 0

/-- DOUT (R124): its table row lists no P, so IMM[31] is an unused bit and raises EX_ILLEGAL when set (DESIGN CHOICE, log entry 164). -/
def execDout (t : Tile) (x : TileWord) (s : State) : Host.Outcome State Fault Refusal :=
  .next (s.issue t 0x33 x { a := .a, b := .s, c := .s } (some 3) fun k =>
    let n := k.sc
    if k.ta % 64 ≠ 0 ∨ n = 0 ∨ 16777216 < n then .raise Ex.address
    else if k.targetLength < dDestinationOffset k.o.desc + k.sb + n then .raise Ex.bounds
    else k.access 3 [span k.ta n] [] fun y f => .enter (k.set y) 3 (.out k.sb k.ta n) f)

/-- A DXFER of a range that an earlier attempt of the chunk delivered (R125). -/
def Running.transferred (k : Running) (chunk off n : Nat) : Bool :=
  covered ((k.c.delivered.filter fun d => d.1 == chunk).foldl (fun l d => addRange l d.2.1 (d.2.1 + d.2.2)) []) off (off + n)

/-- DXFER (R124, R125): to the exchange region of a later chunk. A place beyond that region is refused as an access to an address
outside it is. IMM[31] raises EX_ILLEGAL when set, as in DOUT (DESIGN CHOICE, log entry 164). -/
def execDxfer (t : Tile) (x : TileWord) (s : State) : Host.Outcome State Fault Refusal :=
  .next (s.issue t 0x34 x { d := .s, a := .a, b := .s, c := .s } (some 3) fun k =>
    let chunk := k.sd
    let n := k.sc
    if chunk ≤ k.c.index ∨ entryChunks k.e ≤ chunk then .raise Ex.order
    else if k.ta % 64 ≠ 0 ∨ k.sb % 64 ≠ 0 ∨ n % 64 ≠ 0 ∨ exchangeSize k.x.image < k.sb + n then .raise Ex.address
    else k.access 3 [span k.ta n] [] fun y f =>
      if n = 0 ∨ k.transferred chunk k.sb n then k.done y f
      else .enter (k.set y) 3 (.transfer chunk k.sb k.ta n) f)

/-- Exchange bytes [0, n) of the chunk have arrived (R124). -/
def Running.exchangeArrived (k : Running) (n : Nat) : Bool :=
  covered (k.s.exchange k.c.group k.c.seq k.c.index).got 0 n

/-- DXWAIT (R124): a count beyond the exchange region is out of range. -/
def execDxwait (t : Tile) (x : TileWord) (s : State) : Host.Outcome State Fault Refusal :=
  .next (s.issue t 0x35 x { a := .s } (some 3) fun k =>
    let n := k.sa
    if exchangeSize k.x.image < n then .raise Ex.range
    else
      let f : Footprint := { writes := span (exchangeBase k.x.image) n }
      let y : TileData := { k.x with exchanged := max k.x.exchanged n }
      if k.x.interlocked 3 f then .hold
      else if k.exchangeArrived n ∧ y.queue 3 = [] then k.done y else .enter (k.set y) 3 (.exchange n) f)

/-- Local slots first to first + count − 1 of the chunk are complete (R74); a receiver's are empty. -/
def Running.slotsIn (k : Running) (first count : Nat) : Bool :=
  let l := k.s.landingD (dSourceWindow k.o.desc) k.o.generation k.c.index
  !k.r.lands || (List.range count).all fun i =>
    covered l.placed ((first + i) * k.stride) ((first + i) * k.stride + k.slotBytes)

/-- DCLAIM (R124). -/
def execDclaim (t : Tile) (x : TileWord) (s : State) : Host.Outcome State Fault Refusal :=
  .next (s.issue t 0x36 x { a := .s, b := .s } (some 3) fun k =>
    if k.contributors < k.sa + k.sb then .raise Ex.range
    else
      let f : Footprint := { writes := hull (k.slotRanges k.sa k.sb) }
      let y : TileData := { k.x with claims := k.x.claims ++ [(k.sa, k.sb)] }
      if k.x.interlocked 3 f then .hold
      else if k.slotsIn k.sa k.sb ∧ y.queue 3 = [] then k.done y else .enter (k.set y) 3 (.claim k.sa k.sb) f)

/-- DREL (R126): from its dispatch on the chunk has no access to the zone; the zone is free for a new chunk once the instructions before
it in the queue have completed. -/
def execDrel (t : Tile) (x : TileWord) (s : State) : Host.Outcome State Fault Refusal :=
  .next (s.issue t 0x37 x {} (some 3) fun k => .enter (k.set { k.x with released := true }) 3 .release {})

/-! ### Completions -/

/-- Take the head off a tile's queue and go on (R110): what was withheld may be dispatched now. -/
def State.popQueue (s : State) (t q : Nat) : State :=
  let x := s.tile t
  (s.setTile t { x.setQueue q ((x.queue q).drop 1) with withheld := false }).settleQueues t

/-- One piece of a load reaches the tile store (R124): a range that a window write met before has an undefined value (R217). -/
def Running.place (k : Running) (s : State) (x : LoadPiece) : State :=
  let s1 := s.storeTile k.t x.place (s.readPlan k.h x.buffer x.parity x.off x.len)
  s1.each x.torn fun u r => u.tookFree.storeTile k.t (x.place + r.1) (leBytes (r.2 - r.1) (u.freeNat (8 * (r.2 - r.1))))

/-- A load completes, or what stops it, in which nothing is delivered: a frame of another hoop (R202), or an uncorrectable read. Input of
the chunk is then asked for again (R63), any other data of the hoop is a hoop fault (R184). -/
def Running.loaded (k : Running) (s : State) (pieces : List LoadPiece) : State :=
  let bad := pieces.flatMap fun x => s.badIn (s.planExtents k.h x.buffer x.parity x.off x.len)
  let input := pieces.flatMap fun x =>
    (k.inputPieces x).flatMap fun r => s.badIn (s.planExtents k.h x.buffer x.parity r.1 r.2)
  match pieces.findSome? fun x => s.foreignPlan k.h x.buffer x.parity x.off x.len with
  | some other => s.ownerFault k.h other
  | none =>
    if bad = [] then (s.each pieces k.place).popQueue k.t 3
    else if bad.all input.contains then (s.noteBadLines bad).inputLost k.c.group k.o k.c.index
    else (s.noteBadLines bad).hoopFault k.h 1 (s.channelOf (bad.headD 0 * 64))

/-- DMA_TRANSFER_COMPLETE (R124): the transfer at the head of the DMA queue is done. The tile's bytes are those it holds now, after
everything before it in the queue. A DXFER to a chunk that is not bound waits for a Local buffer (R96, R125, R200). -/
def execDmaTransferComplete (t : Tile) (s : State) : Host.Outcome State Fault Refusal :=
  match s.running t {} with
  | none => .next s
  | some k =>
    match (k.x.queue 3).head?.map TileJob.op with
    | some (.load pieces) => .next (k.loaded s pieces)
    | some (.store b p off a n discarded) => .next ((s.deliverPlan k.h b p off (if discarded then [] else k.x.read a n)).popQueue t 3)
    | some (.out off a n) =>
      let data := k.x.read a n
      .next ((k.sendOut (s.setTile t { k.x with outData := k.x.outData ++ data }) off data).popQueue t 3)
    | some (.transfer chunk off a n) =>
      match k.deliver s chunk off (k.x.read a n) with
      | some u => .next (u.popQueue t 3)
      | none => .next (k.waitBuffer s chunk n)
    | _ => .next s

/-- DCLAIM_COMPLETE (R111, R124). -/
def execDclaimComplete (t : Tile) (s : State) : Host.Outcome State Fault Refusal :=
  match s.running t {} with
  | none => .next s
  | some k =>
    match (k.x.queue 3).head?.map TileJob.op with
    | some (.claim first count) => .next (if k.slotsIn first count then s.popQueue t 3 else s)
    | _ => .next s

/-- DXWAIT_COMPLETE (R111, R124). -/
def execDxwaitComplete (t : Tile) (s : State) : Host.Outcome State Fault Refusal :=
  match s.running t {} with
  | none => .next s
  | some k =>
    match (k.x.queue 3).head?.map TileJob.op with
    | some (.exchange n) => .next (if k.exchangeArrived n then s.popQueue t 3 else s)
    | _ => .next s

end Sys2Proof.Machine
end

