-- ==== Sys2Proof/Machine/TileLine.lean ====
section
/-! DEFINITION. Synchronisation and line instructions of the tile and their completions (R113, R114, R132, R133, R319). -/

namespace Sys2Proof.Machine

open Sys2Proof

/-! ### Semaphores (R113) -/

/-- IMM bits of SWAIT and SSIG (R132). -/
def semaphoreImm : Nat := 0x00FFFFF7

/-- SWAIT (R113, R132): where the queue is free and the semaphore holds the count, it is taken at once. -/
def execSwait (t : Tile) (x : TileWord) (s : State) : Host.Outcome State Fault Refusal :=
  .next (s.issue t 0xA0 x { imm := semaphoreImm } none fun k =>
    let q := immBits x 2 0
    let sem := immBits x 7 4
    let count := immBits x 23 8
    let have_ := Map.get 0 k.x.semaphores sem
    if 4 < q ∨ count = 0 then .raise Ex.illegal
    else if 16 ≤ (k.x.queue q).length then .hold
    else if k.x.queue q = [] ∧ count ≤ have_ then
      k.done { k.x with semaphores := Map.put 0 k.x.semaphores sem (have_ - count) }
    else .enter k.s q (.swait sem count) {})

/-- SSIG (R113, R132): it takes effect when it stands at the head of its queue. -/
def execSsig (t : Tile) (x : TileWord) (s : State) : Host.Outcome State Fault Refusal :=
  .next (s.issue t 0xA1 x { imm := semaphoreImm } none fun k =>
    let q := immBits x 2 0
    let sem := immBits x 7 4
    let count := immBits x 23 8
    if 4 < q ∨ count = 0 then .raise Ex.illegal
    else if 16 ≤ (k.x.queue q).length then .hold
    else .enter k.s q (.ssig sem count k.x.pc (tileWord 0xA1 x)) {})

/-- SWAIT_RELEASE (R113): the semaphore holds the count; it is subtracted and the queue goes on. -/
def execSwaitRelease (t : Tile) (q : Fin 5) (s : State) : Host.Outcome State Fault Refusal :=
  let x := s.tile t
  match (x.queue q).head?.map TileJob.op with
  | some (.swait sem count) =>
    let have_ := Map.get 0 x.semaphores sem
    if count ≤ have_ then
      .next ((s.setTile t { x with semaphores := Map.put 0 x.semaphores sem (have_ - count) }).popQueue t q)
    else .next s
  | _ => .next s

/-- A wait that R114 names: DCLAIM, LAWAIT, DXWAIT or MBPOST. -/
def TileOp.outside : TileOp → Bool
  | .claim _ _ => true
  | .exchange _ => true
  | .siteWait _ => true
  | .post _ _ => true
  | _ => false

/-- The sequencer cannot dispatch: a FENCE, a CDONE or an exception waits for the queues, or dispatch is withheld and nothing has completed
since (R110, R111, R120, R121, R135). -/
def TileData.stuck (x : TileData) : Bool := x.fenced || x.ending || x.trapped.isSome || x.withheld

/-- Every queue is empty or has an SWAIT at its head, and not all are empty (R114). -/
def TileData.paced (x : TileData) : Bool :=
  !x.idle && x.queues.all fun q => match q.2.head?.map TileJob.op with
    | none => true
    | some (.swait _ _) => true
    | _ => false

/-- DEADLOCK_TIMEOUT (R114): for 64 cycles the sequencer could not dispatch, every queue was empty or had an SWAIT at its head, and no
DCLAIM, LAWAIT, DXWAIT or MBPOST waited. The word recorded is the one at the PC. -/
def execDeadlockTimeout (t : Tile) (s : State) : Host.Outcome State Fault Refusal :=
  match s.running t {} with
  | none => .next s
  | some k =>
    let waits := k.x.queues.any fun q => q.2.any fun j => j.op.outside
    if k.x.stuck ∧ k.x.paced ∧ !waits then .next (k.raise s Ex.deadlock k.x.pc k.codeWord) else .next s

/-! ### Mailboxes (R132) -/

/-- MBPOST (R132): it waits until every earlier instruction has completed and the mailbox is empty. -/
def execMbpost (t : Tile) (x : TileWord) (s : State) : Host.Outcome State Fault Refusal :=
  .next (s.issue t 0xA2 x { a := .s, imm := 0x3F } (some 0) fun k =>
    let n := immBits x 5 0
    let word := k.sa % 2 ^ 32
    if !bitAt (mailboxMask k.x.image) n then .raise Ex.mailbox
    else if k.x.idle ∧ !s.mailboxFull n then .ok (s.postMailbox n 3 word) {}
    else .enter k.s 0 (.post n word) {})

/-- MBPOST_COMPLETE (R132): every earlier instruction has completed, whatever was dispatched after it. -/
def execMbpostComplete (t : Tile) (s : State) : Host.Outcome State Fault Refusal :=
  let x := s.tile t
  match (x.queue 0).head? with
  | some j =>
    match j.op with
    | .post n word =>
      let earlier := x.queues.any fun q => q.2.any fun i => decide (i.number < j.number)
      if !earlier ∧ !s.mailboxFull n then .next ((s.postMailbox n 3 word).popQueue t 0) else .next s
    | _ => .next s
  | none => .next s

/-! ### The line (R133) -/

/-- Bytes of a peer's stream that wait are placed in the slot that is armed for it (R133, R155). -/
def placeWaiting (base : Nat) (x : SiteStream) (y : TileData) : TileData :=
  x.got.foldl (fun z r => z.write (base + r.1) (x.data.readBytes r.1 (r.2 - r.1))) y

/-- LARM (R108, R133): a waiting segment that its buffer cannot return is lost and requested again (R184). -/
def execLarm (t : Tile) (x : TileWord) (s : State) : Host.Outcome State Fault Refusal :=
  .next (s.issue t 0xB0 x { a := .s, b := .a, c := .s } (some 4) fun k =>
    let j := k.sa
    let base := k.tb
    let area := span base k.sc
    if k.peers.length ≤ j ∨ (Map.get none k.x.arms j).isSome ∨ k.sc ≠ k.r.emitLength then .raise Ex.range
    else if storeBytes < area.2 ∨ meetAny [area] k.special then .raise Ex.address
    else if k.x.interlocked 4 { writes := area } then .hold
    else
      match k.peers[j]? with
      | none => .raise Ex.range
      | some a =>
        let x := k.s.stream k.c.group k.c.seq (streamIndex k.r k.c.index) a
        let lost := k.s.lostParts x
        let other := k.s.foreignHandle k.h x.buffers
        if other.isSome then .ok (k.s.ownerFault k.h (other.getD 0)) {}
        else
        let y := placeWaiting base { x with got := lost.foldl (fun l p => cutRange l p.off (p.off + p.len)) x.got } k.x
        .ok ((k.set { y with arms := Map.put none y.arms j (some base) }).each lost fun t p => t.losePart k.h x p) { writes := area })

/-- LEMIT (R75, R133, R155, R337): its range goes to the line in the order of its queue. -/
def execLemit (t : Tile) (x : TileWord) (s : State) : Host.Outcome State Fault Refusal :=
  .next (s.issue t 0xB1 x { a := .a, b := .s, c := .s, imm := 1 } (some 4) fun k =>
    let off := k.sb
    let n := k.sc
    let overlaps := k.x.emits.any fun e => meets (e.1, e.1 + e.2) (span off n)
    let own := match Map.get none k.x.arms k.ownPosition with
      | some base => span (base + off) n
      | none => (0, 0)
    if n = 0 ∨ 16384 < n ∨ k.ta % 8 ≠ 0 ∨ k.r.emitLength < off + n ∨ overlaps then .raise Ex.emit
    else if k.x.interlocked 4 { writes := own } then .hold
    else k.access 4 [span k.ta n] [] fun y f =>
      .enter (k.set { y with emits := y.emits ++ [(off, n)] }) 4 (.stream off k.ta n (if immBit x 0 then 3 else 2)) { f with writes := own })

/-- LEMIT_COMPLETE (R319): every wale has taken its copy of the segment at the head of the line queue. -/
def execLemitComplete (t : Tile) (s : State) : Host.Outcome State Fault Refusal :=
  match ((s.tile t).queue 4).head?.map TileJob.op with
  | some (.emit number) =>
    let waiting := s.line.wales.any fun w => w.2.tx.queue.any fun r => r.ticket == some ⟨t, number⟩
    if waiting then .next s else .next (s.popQueue t 4)
  | _ => .next s

/-- Site slot j is complete (R74): the own one by LEMIT, another by verified segments. -/
def Running.siteComplete (k : Running) (j : Nat) : Bool :=
  if j = k.ownPosition then covered k.x.ownSlot 0 k.r.emitLength
  else match k.peers[j]? with
    | some a => covered (k.s.stream k.c.group k.c.seq (streamIndex k.r k.c.index) a).got 0 k.r.emitLength
    | none => false

/-- LAWAIT (R133). -/
def execLawait (t : Tile) (x : TileWord) (s : State) : Host.Outcome State Fault Refusal :=
  .next (s.issue t 0xB2 x { a := .s } (some 4) fun k =>
    let j := k.sa
    if (Map.get none k.x.arms j).isNone then .raise Ex.range
    else
      let f : Footprint := { writes := (k.armed j).getD (0, 0) }
      let y : TileData := { k.x with awaited := k.x.awaited ++ [j] }
      if k.x.interlocked 4 f then .hold
      else if k.siteComplete j ∧ y.queue 4 = [] then k.done y else .enter (k.set y) 4 (.siteWait j) f)

/-- LAWAIT_COMPLETE (R111, R133). -/
def execLawaitComplete (t : Tile) (s : State) : Host.Outcome State Fault Refusal :=
  match s.running t {} with
  | none => .next s
  | some k =>
    match (k.x.queue 4).head?.map TileJob.op with
    | some (.siteWait j) => .next (if k.siteComplete j then s.popQueue t 4 else s)
    | _ => .next s

end Sys2Proof.Machine
end

