-- ==== Sys2Proof/Machine/TileMesh.lean ====
section
/-! DEFINITION. The mesh instructions of the tile (R92, R127, R128). -/

namespace Sys2Proof.Machine

open Sys2Proof

/-- A format code that the mesh takes (R127). -/
def meshFormat (fmt : Nat) : Bool := fmt == 1 || fmt == 2 || (decide (5 ≤ fmt) && decide (fmt ≤ 9))

/-- A stride that R127 allows for rows of n bytes. -/
def strideOk (stride n : Nat) : Bool := stride % 8 == 0 && decide (n ≤ stride)

/-- Rows i = 0 … n − 1 of `len` bytes from a base. -/
def rowSpans (base stride n len : Nat) : List (Nat × Nat) := (List.range n).map fun i => span (base + i * stride) len

/-- The 128 columns of a resident operand, each as R128 stores a column. -/
def TileData.columns (x : TileData) (fmt : Nat) (transposed : Bool) (base stride : Nat) : List Bytes :=
  if transposed then
    let rows := (List.range (meshK fmt)).map fun k => x.read (base + k * stride) 256
    (List.range 128).map fun j => rows.flatMap fun r => slice r (2 * j) 2
  else (List.range 128).map fun j => x.read (base + j * stride) (operandBytes fmt)

/-- MLOAD (R127, R128). -/
def execMload (t : Tile) (x : TileWord) (s : State) : Host.Outcome State Fault Refusal :=
  .next (s.issue t 0x40 x { a := .a, b := .s, imm := 0x0F000011 } (some 1) fun k =>
    let fmt := immBits x 27 24
    let transposed := immBit x 4
    let n := if transposed then meshK fmt else 128
    let len := if transposed then 256 else operandBytes fmt
    if !meshFormat fmt || (transposed && decide (5 ≤ fmt)) then .raise Ex.format
    else if !strideOk k.sb len then .raise Ex.range
    else k.access 1 (rowSpans k.ta k.sb n len) [] fun y p =>
      k.done { y with slots := Map.put none y.slots (immBits x 0 0) (some ⟨fmt, y.columns fmt transposed k.ta k.sb⟩) } p)

/-- Key of row r of an accumulator set. -/
def accumKey (set r : Nat) : Nat := 512 * set + r

/-- A row of an accumulator set has been written in this chunk; its 128 values. -/
def TileData.rowWritten (x : TileData) (set r : Nat) : Bool := Map.get [] x.accum (accumKey set r) != []

/-- One row of MMA (R128): dot products with the 128 columns, added to the row where Acc is set. -/
def mmaRow (fmt : Nat) (columns : List DotOperand) (old : Option (List Nat)) (row : DotOperand) : List Nat :=
  let p := columns.map fun c => dotK fmt row c
  match old with
  | some l => List.zipWith addFp32 l p
  | none => p

/-- Canonical NaNs among FP32 values (R174). -/
def countNan (l : List Nat) : Nat := (l.filter (· == nanFp32)).length

/-- Cycles in which the mesh streamed a row (R105); the die reports them to the meter by METER_LINK_FRAME (R440). -/
def State.meshBusy (s : State) (t m : Nat) : State := s.bump 64 (Obj.tileMeshBusyCycles t) m

/-- MMA (R127, R128). -/
def execMma (t : Tile) (x : TileWord) (s : State) : Host.Outcome State Fault Refusal :=
  .next (s.issue t 0x41 x { a := .a, b := .s, c := .s, imm := 0xFFF } (some 1) fun k =>
    let set := immBits x 1 1
    let acc := immBit x 2
    let r0 := immBits x 11 3
    let m := k.sc
    if m = 0 ∨ 512 < m ∨ 512 < r0 + m then .raise Ex.range
    else match Map.get none k.x.slots (immBits x 0 0) with
      | none => .raise Ex.uninit
      | some operand =>
        let len := operandBytes operand.fmt
        if !strideOk k.sb len then .raise Ex.range
        else if acc && !(List.range m).all (fun i => k.x.rowWritten set (r0 + i)) then .raise Ex.uninit
        else k.access 1 (rowSpans k.ta k.sb m len) [] fun y p =>
          let columns := operand.columns.map (readOperand operand.fmt)
          let z := (List.range m).foldl (fun (a : TileData × Nat) i =>
            let key := accumKey set (r0 + i)
            let old := if acc then some (Map.get [] a.1.accum key) else none
            let row := mmaRow operand.fmt columns old (readOperand operand.fmt (y.read (k.ta + i * k.sb) len))
            ({ a.1 with accum := Map.put [] a.1.accum key row }, a.2 + countNan row)) (y, 0)
          .ok (((k.set z.1).meshBusy k.t m).bump 64 (Obj.tileNanResults t) z.2) p)

/-- One accumulator row as MDRAIN writes it (R128): bytes, and the canonical NaNs in them. -/
def drainRow (out : Nat) (row : List Nat) : Bytes × Nat :=
  if out = 0 then (packBytes 32 row, countNan row)
  else
    let f := if out = 1 then bf16 else fp16
    let codes := row.map fun a => (narrow32 f a).1
    (packBytes 16 codes, (codes.filter (· == f.nanCode)).length)

/-- MDRAIN (R127, R128): the base is aligned as every write covers whole words (R108). -/
def execMdrain (t : Tile) (x : TileWord) (s : State) : Host.Outcome State Fault Refusal :=
  .next (s.issue t 0x42 x { a := .a, b := .s, c := .s, imm := 0x1FFF } (some 1) fun k =>
    let set := immBits x 0 0
    let r0 := immBits x 9 1
    let out := immBits x 11 10
    let n := k.sc
    let len := if out = 0 then 512 else 256
    if out = 3 then .raise Ex.format
    else if n = 0 ∨ 512 < n ∨ 512 < r0 + n ∨ !strideOk k.sb len then .raise Ex.range
    else if !(List.range n).all (fun i => k.x.rowWritten set (r0 + i)) then .raise Ex.uninit
    else if k.ta % 8 ≠ 0 then .raise Ex.address
    else k.access 1 [] (rowSpans k.ta k.sb n len) fun y p =>
      let z := (List.range n).foldl (fun (a : TileData × Nat) i =>
        let key := accumKey set (r0 + i)
        let d := drainRow out (Map.get [] a.1.accum key)
        let w := a.1.write (k.ta + i * k.sb) d.1
        (if immBit x 12 then { w with accum := Map.put [] w.accum key [] } else w, a.2 + d.2)) (y, 0)
      .ok ((k.set z.1).bump 64 (Obj.tileNanResults t) z.2) p)

end Sys2Proof.Machine
end

