-- ==== Sys2Proof/Machine/TileScalar.lean ====
section
/-! DEFINITION. Scalar, address and context instructions of the tile (R107, R122, R123). -/

namespace Sys2Proof.Machine

open Sys2Proof

/-- The fields of the scalar ALU instructions (R122). -/
def aluFields : Fields := { d := .s, a := .s, b := .s, imm := immAll }

/-- s[D] := f(s[A], op2) with op2 := s[B] + sext(IMM), modulo 2^64 (R122). -/
def Running.alu (k : Running) (f : Nat → Nat → Nat) : Issue :=
  k.done (k.x.setS k.w.d.toNat (f k.sa ((k.sb + immSext k.w 32) % 2 ^ 64)))

/-- ADD (R122). -/
def execAdd (t : Tile) (x : TileWord) (s : State) : Host.Outcome State Fault Refusal :=
  .next (s.issue t 0x10 x aluFields (some 0) fun k => k.alu (fun a b => a + b))

/-- SUB (R122). -/
def execSub (t : Tile) (x : TileWord) (s : State) : Host.Outcome State Fault Refusal :=
  .next (s.issue t 0x11 x aluFields (some 0) fun k => k.alu (fun a b => a + (2 ^ 64 - b)))

/-- MUL (R122). -/
def execMul (t : Tile) (x : TileWord) (s : State) : Host.Outcome State Fault Refusal :=
  .next (s.issue t 0x12 x aluFields (some 0) fun k => k.alu (fun a b => a * b))

/-- MULHU (R122). -/
def execMulhu (t : Tile) (x : TileWord) (s : State) : Host.Outcome State Fault Refusal :=
  .next (s.issue t 0x13 x aluFields (some 0) fun k => k.alu (fun a b => a * b / 2 ^ 64))

/-- AND (R122). -/
def execAnd (t : Tile) (x : TileWord) (s : State) : Host.Outcome State Fault Refusal :=
  .next (s.issue t 0x14 x aluFields (some 0) fun k => k.alu (fun a b => a &&& b))

/-- OR (R122). -/
def execOr (t : Tile) (x : TileWord) (s : State) : Host.Outcome State Fault Refusal :=
  .next (s.issue t 0x15 x aluFields (some 0) fun k => k.alu (fun a b => a ||| b))

/-- XOR (R122). -/
def execXor (t : Tile) (x : TileWord) (s : State) : Host.Outcome State Fault Refusal :=
  .next (s.issue t 0x16 x aluFields (some 0) fun k => k.alu (fun a b => a ^^^ b))

/-- SHL (R122). -/
def execShl (t : Tile) (x : TileWord) (s : State) : Host.Outcome State Fault Refusal :=
  .next (s.issue t 0x17 x aluFields (some 0) fun k => k.alu (fun a b => a <<< (b % 64)))

/-- SHR (R122). -/
def execShr (t : Tile) (x : TileWord) (s : State) : Host.Outcome State Fault Refusal :=
  .next (s.issue t 0x18 x aluFields (some 0) fun k => k.alu (fun a b => a >>> (b % 64)))

/-- SRA (R122). -/
def execSra (t : Tile) (x : TileWord) (s : State) : Host.Outcome State Fault Refusal :=
  .next (s.issue t 0x19 x aluFields (some 0) fun k => k.alu (fun a b => ofSigned 64 (toSigned 64 a >>> (b % 64))))

/-- SLTU (R122). -/
def execSltu (t : Tile) (x : TileWord) (s : State) : Host.Outcome State Fault Refusal :=
  .next (s.issue t 0x1A x aluFields (some 0) fun k => k.alu (fun a b => if a < b then 1 else 0))

/-- SLT (R122). -/
def execSlt (t : Tile) (x : TileWord) (s : State) : Host.Outcome State Fault Refusal :=
  .next (s.issue t 0x1B x aluFields (some 0) fun k => k.alu (fun a b => if toSigned 64 a < toSigned 64 b then 1 else 0))

/-- SEQ (R122). -/
def execSeq (t : Tile) (x : TileWord) (s : State) : Host.Outcome State Fault Refusal :=
  .next (s.issue t 0x1C x aluFields (some 0) fun k => k.alu (fun a b => if a = b then 1 else 0))

/-- LIH (R122): A is 0. -/
def execLih (t : Tile) (x : TileWord) (s : State) : Host.Outcome State Fault Refusal :=
  .next (s.issue t 0x1D x { d := .s, imm := immAll } (some 0) fun k =>
    k.done (k.x.setS x.d.toNat (k.sd % 2 ^ 32 + x.imm.toNat * 2 ^ 32)))

/-- AMOV (R123). -/
def execAmov (t : Tile) (x : TileWord) (s : State) : Host.Outcome State Fault Refusal :=
  .next (s.issue t 0x20 x { d := .a, a := .s, imm := immAll } (some 0) fun k =>
    k.done (k.x.setA x.d.toNat (k.sa + immSext x 32)))

/-- AADD (R123). -/
def execAadd (t : Tile) (x : TileWord) (s : State) : Host.Outcome State Fault Refusal :=
  .next (s.issue t 0x21 x { d := .a, a := .a, b := .s, imm := immAll } (some 0) fun k =>
    k.done (k.x.setA x.d.toNat (k.aa + k.sb + immSext x 32)))

/-- SMOVA (R123). -/
def execSmova (t : Tile) (x : TileWord) (s : State) : Host.Outcome State Fault Refusal :=
  .next (s.issue t 0x22 x { d := .s, a := .a } (some 0) fun k => k.done (k.x.setS x.d.toNat k.aa))

/-- SLD (R123). -/
def execSld (t : Tile) (x : TileWord) (s : State) : Host.Outcome State Fault Refusal :=
  .next (s.issue t 0x23 x { d := .s, a := .a, imm := immAll } (some 0) fun k =>
    let a := (k.ta + immSext x 32) % 2 ^ 64
    if a % 8 ≠ 0 then .raise Ex.address
    else k.access 0 [span a 8] [] fun y p => k.done (y.setS x.d.toNat (leNat (y.read a 8))) p)

/-- SST (R123): aligned as every write covers whole words (R108). -/
def execSst (t : Tile) (x : TileWord) (s : State) : Host.Outcome State Fault Refusal :=
  .next (s.issue t 0x24 x { a := .a, b := .s, imm := immAll } (some 0) fun k =>
    let a := (k.ta + immSext x 32) % 2 ^ 64
    if a % 8 ≠ 0 then .raise Ex.address
    else k.access 0 [] [span a 8] fun y p => k.done (y.write a (leBytes 8 k.sb)) p)

/-- The context item with a number (R107); none for another number. A PeerSite beyond the peer set is the inner none. -/
def Running.context (k : Running) (item : Nat) : Option (Option Nat) :=
  match item with
  | 0x00 => some (some k.c.index)
  | 0x01 => some (some (entryChunks k.e))
  | 0x02 => some (some (entryShard k.e))
  | 0x03 => some (some k.o.step)
  | 0x04 => some (some (k.o.step % 2))
  | 0x05 => some (some k.contributors)
  | 0x06 => some (some k.stride)
  | 0x07 => some (some k.zoneRange.1)
  | 0x08 => some (some (zoneSize k.x.image k.c.zone))
  | 0x09 => some (some k.r.elementBase)
  | 0x0A => some (some k.r.elementCount)
  | 0x0B => some (some k.peers.length)
  | 0x0C => some (some k.ownPosition)
  | 0x0D => some (k.peers[k.sa]?.map siteOf)
  | 0x0E => some (some k.r.emitLength)
  | 0x0F => some (some (dOpcode k.o.desc))
  | 0x10 => some (some (dType k.o.desc))
  | 0x11 => some (some (dSequence k.o.desc))
  | 0x12 => some (some (dPlanEntry k.o.desc))
  | n => if 0x20 ≤ n ∧ n < 0x30 then some (some (entryParameter k.e (n - 0x20))) else none

/-- CTX (R107, R123). -/
def execCtx (t : Tile) (x : TileWord) (s : State) : Host.Outcome State Fault Refusal :=
  .next (s.issue t 0x25 x { d := .s, a := .s, imm := 0xFF } (some 0) fun k =>
    match k.context (immBits x 7 0) with
    | none => .raise Ex.illegal
    | some none => .raise Ex.range
    | some (some v) => k.done (k.x.setS x.d.toNat v))

/-- FADD (R123). -/
def execFadd (t : Tile) (x : TileWord) (s : State) : Host.Outcome State Fault Refusal :=
  .next (s.issue t 0x26 x { d := .s, a := .s, b := .s } (some 0) fun k =>
    k.done (k.x.setS x.d.toNat (addFp32 (k.sa % 2 ^ 32) (k.sb % 2 ^ 32))))

/-- FMUL (R123). -/
def execFmul (t : Tile) (x : TileWord) (s : State) : Host.Outcome State Fault Refusal :=
  .next (s.issue t 0x27 x { d := .s, a := .s, b := .s } (some 0) fun k =>
    k.done (k.x.setS x.d.toNat (mulFp32 (k.sa % 2 ^ 32) (k.sb % 2 ^ 32))))

/-- FRSQ (R123). -/
def execFrsq (t : Tile) (x : TileWord) (s : State) : Host.Outcome State Fault Refusal :=
  .next (s.issue t 0x28 x { d := .s, a := .s } (some 0) fun k => k.done (k.x.setS x.d.toNat (rsqrtFp32 (k.sa % 2 ^ 32))))

/-- FRCP (R123). -/
def execFrcp (t : Tile) (x : TileWord) (s : State) : Host.Outcome State Fault Refusal :=
  .next (s.issue t 0x29 x { d := .s, a := .s } (some 0) fun k => k.done (k.x.setS x.d.toNat (rcpFp32 (k.sa % 2 ^ 32))))

/-- FCVTI (R123). -/
def execFcvti (t : Tile) (x : TileWord) (s : State) : Host.Outcome State Fault Refusal :=
  .next (s.issue t 0x2A x { d := .s, a := .s } (some 0) fun k => k.done (k.x.setS x.d.toNat (fp32OfInt (toSigned 64 k.sa))))

end Sys2Proof.Machine
end

