-- ==== Sys2Proof/Machine/TileVector.lean ====
section
/-! DEFINITION. Vector, conversion, special and random instructions of the tile (R129–R131, R164–R166). -/

namespace Sys2Proof.Machine

open Sys2Proof

/-- v[D] := the lanes. -/
def Running.lanes (k : Running) (l : List Nat) : Issue := k.done (k.x.setV k.w.d.toNat l)

/-- s[D][31:0] := a value, s[D][63:32] := 0 (R130). -/
def Running.scalar (k : Running) (v : Nat) : Issue := k.done (k.x.setS k.w.d.toNat v)

/-- A function on three lists, lane by lane. -/
def zip3 (f : Nat → Nat → Nat → Nat) (a b c : List Nat) : List Nat := List.zipWith (fun p z => f p.1 p.2 z) (a.zip b) c

/-- One lane of VNSCOMB (R130): every product and sum is rounded. -/
def combine (coeff : List Nat) (a b c : Nat) : Nat :=
  addFp32 (addFp32 (mulFp32 (coeff[0]?.getD 0) a) (mulFp32 (coeff[1]?.getD 0) b)) (mulFp32 (coeff[2]?.getD 0) c)

/-- VADD (R130). -/
def execVadd (t : Tile) (x : TileWord) (s : State) : Host.Outcome State Fault Refusal :=
  .next (s.issue t 0x52 x { d := .v, a := .v, b := .v } (some 2) fun k => k.lanes (List.zipWith addFp32 k.va k.vb))

/-- VSUB (R130). -/
def execVsub (t : Tile) (x : TileWord) (s : State) : Host.Outcome State Fault Refusal :=
  .next (s.issue t 0x53 x { d := .v, a := .v, b := .v } (some 2) fun k => k.lanes (List.zipWith subFp32 k.va k.vb))

/-- VMUL (R130). -/
def execVmul (t : Tile) (x : TileWord) (s : State) : Host.Outcome State Fault Refusal :=
  .next (s.issue t 0x54 x { d := .v, a := .v, b := .v } (some 2) fun k => k.lanes (List.zipWith mulFp32 k.va k.vb))

/-- VFMA (R130). -/
def execVfma (t : Tile) (x : TileWord) (s : State) : Host.Outcome State Fault Refusal :=
  .next (s.issue t 0x55 x { d := .v, a := .v, b := .v, c := .v } (some 2) fun k => k.lanes (zip3 fmaFp32 k.va k.vb k.vc))

/-- VMAX (R130, R169). -/
def execVmax (t : Tile) (x : TileWord) (s : State) : Host.Outcome State Fault Refusal :=
  .next (s.issue t 0x56 x { d := .v, a := .v, b := .v } (some 2) fun k => k.lanes (List.zipWith maxFp32 k.va k.vb))

/-- VMIN (R130, R169). -/
def execVmin (t : Tile) (x : TileWord) (s : State) : Host.Outcome State Fault Refusal :=
  .next (s.issue t 0x57 x { d := .v, a := .v, b := .v } (some 2) fun k => k.lanes (List.zipWith minFp32 k.va k.vb))

/-- VABS (R130). -/
def execVabs (t : Tile) (x : TileWord) (s : State) : Host.Outcome State Fault Refusal :=
  .next (s.issue t 0x58 x { d := .v, a := .v } (some 2) fun k => k.lanes (k.va.map fun a => a % 2 ^ 31))

/-- VNEG (R130). -/
def execVneg (t : Tile) (x : TileWord) (s : State) : Host.Outcome State Fault Refusal :=
  .next (s.issue t 0x59 x { d := .v, a := .v } (some 2) fun k => k.lanes (k.va.map fun a => a ^^^ 2 ^ 31))

/-- VSCL (R130). -/
def execVscl (t : Tile) (x : TileWord) (s : State) : Host.Outcome State Fault Refusal :=
  .next (s.issue t 0x5A x { d := .v, a := .v, b := .s } (some 2) fun k => k.lanes (k.va.map fun a => mulFp32 a (k.sb % 2 ^ 32)))

/-- VCMPLT (R130, R169). -/
def execVcmplt (t : Tile) (x : TileWord) (s : State) : Host.Outcome State Fault Refusal :=
  .next (s.issue t 0x5B x { d := .v, a := .v, b := .v } (some 2) fun k => k.lanes (List.zipWith (fun a b => if ltFp32 a b then 2 ^ 32 - 1 else 0) k.va k.vb))

/-- VSEL (R130). -/
def execVsel (t : Tile) (x : TileWord) (s : State) : Host.Outcome State Fault Refusal :=
  .next (s.issue t 0x5C x { d := .v, a := .v, b := .v, c := .v } (some 2) fun k => k.lanes (zip3 (fun a b c => (c &&& a) ||| ((2 ^ 32 - 1 - c) &&& b)) k.va k.vb k.vc))

/-- VBCAST (R130). -/
def execVbcast (t : Tile) (x : TileWord) (s : State) : Host.Outcome State Fault Refusal :=
  .next (s.issue t 0x5D x { d := .v, a := .s } (some 2) fun k => k.lanes (List.replicate 512 (k.sa % 2 ^ 32)))

/-- VIOTA (R130). -/
def execViota (t : Tile) (x : TileWord) (s : State) : Host.Outcome State Fault Refusal :=
  .next (s.issue t 0x5E x { d := .v } (some 2) fun k => k.lanes (List.range 512))

/-- VIADD (R130). -/
def execViadd (t : Tile) (x : TileWord) (s : State) : Host.Outcome State Fault Refusal :=
  .next (s.issue t 0x60 x { d := .v, a := .v, b := .v } (some 2) fun k => k.lanes (List.zipWith (fun a b => (a + b) % 2 ^ 32) k.va k.vb))

/-- VISUB (R130). -/
def execVisub (t : Tile) (x : TileWord) (s : State) : Host.Outcome State Fault Refusal :=
  .next (s.issue t 0x61 x { d := .v, a := .v, b := .v } (some 2) fun k => k.lanes (List.zipWith (fun a b => (a + (2 ^ 32 - b)) % 2 ^ 32) k.va k.vb))

/-- VAND (R130). -/
def execVand (t : Tile) (x : TileWord) (s : State) : Host.Outcome State Fault Refusal :=
  .next (s.issue t 0x62 x { d := .v, a := .v, b := .v } (some 2) fun k => k.lanes (List.zipWith (fun a b => a &&& b) k.va k.vb))

/-- VOR (R130). -/
def execVor (t : Tile) (x : TileWord) (s : State) : Host.Outcome State Fault Refusal :=
  .next (s.issue t 0x63 x { d := .v, a := .v, b := .v } (some 2) fun k => k.lanes (List.zipWith (fun a b => a ||| b) k.va k.vb))

/-- VXOR (R130). -/
def execVxor (t : Tile) (x : TileWord) (s : State) : Host.Outcome State Fault Refusal :=
  .next (s.issue t 0x64 x { d := .v, a := .v, b := .v } (some 2) fun k => k.lanes (List.zipWith (fun a b => a ^^^ b) k.va k.vb))

/-- VSHL (R130). -/
def execVshl (t : Tile) (x : TileWord) (s : State) : Host.Outcome State Fault Refusal :=
  .next (s.issue t 0x65 x { d := .v, a := .v, imm := 0x1F } (some 2) fun k => k.lanes (k.va.map fun a => (a <<< immBits x 4 0) % 2 ^ 32))

/-- VSHR (R130). -/
def execVshr (t : Tile) (x : TileWord) (s : State) : Host.Outcome State Fault Refusal :=
  .next (s.issue t 0x66 x { d := .v, a := .v, imm := 0x1F } (some 2) fun k => k.lanes (k.va.map fun a => a >>> immBits x 4 0))

/-- VEXT (R130). -/
def execVext (t : Tile) (x : TileWord) (s : State) : Host.Outcome State Fault Refusal :=
  .next (s.issue t 0x67 x { d := .s, a := .v, imm := 0x1FF } (some 2) fun k => k.scalar (k.va[immBits x 8 0]?.getD 0))

/-- VRSUM (R130, R131). -/
def execVrsum (t : Tile) (x : TileWord) (s : State) : Host.Outcome State Fault Refusal :=
  .next (s.issue t 0x68 x { d := .s, a := .v } (some 2) fun k => k.scalar (tree addFp32 k.va))

/-- VRMAX (R130, R131). -/
def execVrmax (t : Tile) (x : TileWord) (s : State) : Host.Outcome State Fault Refusal :=
  .next (s.issue t 0x69 x { d := .s, a := .v } (some 2) fun k => k.scalar (tree maxFp32 k.va))

/-- VDOT (R130, R131). -/
def execVdot (t : Tile) (x : TileWord) (s : State) : Host.Outcome State Fault Refusal :=
  .next (s.issue t 0x6A x { d := .s, a := .v, b := .v } (some 2) fun k => k.scalar (tree addFp32 (List.zipWith mulFp32 k.va k.vb)))

/-- VCVTI (R130). -/
def execVcvti (t : Tile) (x : TileWord) (s : State) : Host.Outcome State Fault Refusal :=
  .next (s.issue t 0x74 x { d := .v, a := .v } (some 2) fun k => k.lanes (k.va.map fun a => fp32OfInt (toSigned 32 a)))

/-- VCVTF (R130). -/
def execVcvtf (t : Tile) (x : TileWord) (s : State) : Host.Outcome State Fault Refusal :=
  .next (s.issue t 0x75 x { d := .v, a := .v } (some 2) fun k => k.lanes (k.va.map intOfFp32))

/-- VRSQRT (R130). -/
def execVrsqrt (t : Tile) (x : TileWord) (s : State) : Host.Outcome State Fault Refusal :=
  .next (s.issue t 0x80 x { d := .v, a := .v } (some 2) fun k => k.lanes (k.va.map rsqrtFp32))

/-- VRCP (R130). -/
def execVrcp (t : Tile) (x : TileWord) (s : State) : Host.Outcome State Fault Refusal :=
  .next (s.issue t 0x81 x { d := .v, a := .v } (some 2) fun k => k.lanes (k.va.map rcpFp32))

/-- VNSCOEF (R130). -/
def execVnscoef (t : Tile) (x : TileWord) (s : State) : Host.Outcome State Fault Refusal :=
  .next (s.issue t 0x82 x { a := .s, b := .s, c := .s } (some 2) fun k => k.done { k.x with coeff := [k.sa % 2 ^ 32, k.sb % 2 ^ 32, k.sc % 2 ^ 32] })

/-- VNSCOMB (R130). -/
def execVnscomb (t : Tile) (x : TileWord) (s : State) : Host.Outcome State Fault Refusal :=
  .next (s.issue t 0x83 x { d := .v, a := .v, b := .v, c := .v } (some 2) fun k => k.lanes (zip3 (combine k.x.coeff) k.va k.vb k.vc))

/-- VSUMSQ (R130, R131). -/
def execVsumsq (t : Tile) (x : TileWord) (s : State) : Host.Outcome State Fault Refusal :=
  .next (s.issue t 0x84 x { d := .s, a := .v } (some 2) fun k => k.scalar (tree addFp32 (k.va.map fun a => mulFp32 a a)))

/-- VRUNI (R82, R130). -/
def execVruni (t : Tile) (x : TileWord) (s : State) : Host.Outcome State Fault Refusal :=
  .next (s.issue t 0x91 x { d := .v, a := .v } (some 2) fun k => k.lanes (k.va.map uniformOf))

/-- VRSGN (R82, R130). -/
def execVrsgn (t : Tile) (x : TileWord) (s : State) : Host.Outcome State Fault Refusal :=
  .next (s.issue t 0x92 x { d := .v, a := .v } (some 2) fun k => k.lanes (k.va.map signOf))

/-! ### Loads and stores -/

/-- IMM bits of VLD and VST; of VLDC and VSTC; of VQMX and VDQMX (R117). -/
def vectorImm : Nat := 0x800FFFFF
def convertImm : Nat := 0x8F0FFFFF
def mxImm : Nat := 0xCF0FFFFF

/-- VLD (R130). -/
def execVld (t : Tile) (x : TileWord) (s : State) : Host.Outcome State Fault Refusal :=
  .next (s.issue t 0x50 x { d := .v, a := .a, imm := vectorImm } (some 2) fun k =>
    if k.ea % 64 ≠ 0 then .raise Ex.address
    else k.access 2 [span k.ea 2048] [] fun y p =>
      k.done ((y.setV x.d.toNat (unpackBytes 32 512 (y.read k.ea 2048))).post x x.a.toNat 2048) p)

/-- Canonical NaNs that an instruction wrote (R174). -/
def Running.noteNan (k : Running) (n : Nat) (s : State) : State := s.bump 64 (Obj.tileNanResults k.t) n

/-- VST (R130). -/
def execVst (t : Tile) (x : TileWord) (s : State) : Host.Outcome State Fault Refusal :=
  .next (s.issue t 0x51 x { a := .a, b := .v, imm := vectorImm } (some 2) fun k =>
    if k.ea % 64 ≠ 0 then .raise Ex.address
    else k.access 2 [] [span k.ea 2048] fun y p =>
      .ok (k.noteNan (k.vb.filter (· == nanFp32)).length (k.set ((y.write k.ea (packBytes 32 k.vb)).post x x.a.toNat 2048))) p)

/-- The format of a VLDC or VSTC (R118, R130): Fmt 0x1–0x4. -/
def Running.narrowFormat (k : Running) : Option FFmt :=
  let fmt := immBits k.w 27 24
  if 1 ≤ fmt ∧ fmt ≤ 4 then fmtOf fmt else none

/-- VLDC (R130). -/
def execVldc (t : Tile) (x : TileWord) (s : State) : Host.Outcome State Fault Refusal :=
  .next (s.issue t 0x70 x { d := .v, a := .a, imm := convertImm } (some 2) fun k =>
    match k.narrowFormat with
    | none => .raise Ex.format
    | some f =>
      let n := 64 * f.width
      if k.ea % 64 ≠ 0 then .raise Ex.address
      else k.access 2 [span k.ea n] [] fun y p =>
        k.done ((y.setV x.d.toNat ((unpackBytes f.width 512 (y.read k.ea n)).map (toFp32 f))).post x x.a.toNat n) p)

/-- VSTC (R130, R164). -/
def execVstc (t : Tile) (x : TileWord) (s : State) : Host.Outcome State Fault Refusal :=
  .next (s.issue t 0x71 x { a := .a, b := .v, imm := convertImm } (some 2) fun k =>
    match k.narrowFormat with
    | none => .raise Ex.format
    | some f =>
      let n := 64 * f.width
      if k.ea % 64 ≠ 0 then .raise Ex.address
      else k.access 2 [] [span k.ea n] fun y p =>
        let r := k.vb.map (narrow32 f)
        let s1 := k.set ((y.write k.ea (packBytes f.width (r.map Prod.fst))).post x x.a.toNat n)
        .ok ((k.noteNan ((r.filter fun c => f.decode c.1 == .nan).length) s1).bump 64 (Obj.tileNarrowSaturations t)
          (r.filter Prod.snd).length) p)

/-! ### MX (R129, R165, R166) -/

/-- Where the 16 blocks of a VQMX or VDQMX stand (R129): for each block its element bytes and its scale byte. -/
structure MxPlace where
  elements : Nat
  scale : Nat

/-- Bytes of one block of a format. -/
def mxBlockBytes (fmt : Nat) : Nat := 4 * (mxElem fmt).width

/-- The places of the blocks (R129): with I, rows of K elements and their scales; else packed, the scales at a[C]. -/
def Running.mxPlaces (k : Running) (fmt : Nat) : List MxPlace :=
  (List.range 16).map fun b =>
    if immBit k.w 30 then
      let per := meshK fmt / 32
      let row := k.ea + b / per * operandBytes fmt
      ⟨row + b % per * mxBlockBytes fmt, row + per * mxBlockBytes fmt + b % per⟩
    else ⟨k.ea + b * mxBlockBytes fmt, k.tc + b⟩

/-- The ranges that an MX access covers (R129). -/
def Running.mxSpans (k : Running) (fmt : Nat) : List (Nat × Nat) :=
  if immBit k.w 30 then [span k.ea (512 / meshK fmt * operandBytes fmt)]
  else [span k.ea (16 * mxBlockBytes fmt), span k.tc 16]

/-- The checks of VQMX and VDQMX (R118, R129, R130): a bad Fmt is found before a C that I leaves unused (DESIGN CHOICE, log entry 72). -/
def Running.mxFault (k : Running) (fmt : Nat) : Option Nat :=
  if !isMx fmt then some Ex.format
  else if immBit k.w 30 ∧ k.w.c ≠ 0 then some Ex.illegal
  else if k.ea % 8 ≠ 0 ∨ (!immBit k.w 30 ∧ k.tc % 8 ≠ 0) then some Ex.address
  else none

/-- The address registers after a VQMX or VDQMX (R117). -/
def Running.mxPost (k : Running) (fmt : Nat) (y : TileData) : TileData :=
  if immBit k.w 30 then y.post k.w k.w.a.toNat (512 / meshK fmt * operandBytes fmt)
  else (y.post k.w k.w.a.toNat (16 * mxBlockBytes fmt)).post k.w k.w.c.toNat 16

/-- VQMX (R165). -/
def execVqmx (t : Tile) (x : TileWord) (s : State) : Host.Outcome State Fault Refusal :=
  .next (s.issue t 0x72 x { a := .a, b := .v, c := .a, imm := mxImm } (some 2) fun k =>
    let fmt := immBits x 27 24
    match k.mxFault fmt with
    | some e => .raise e
    | none => k.access 2 [] (k.mxSpans fmt) fun y p =>
        let blocks := (piecesOf 32 16 k.vb).map (quantiseBlock fmt)
        let y1 := ((k.mxPlaces fmt).zip blocks).foldl (fun z p =>
          (z.write p.1.elements (packBytes (mxElem fmt).width p.2.2.1)).write p.1.scale (leBytes 1 p.2.1)) y
        let nan := (blocks.filter fun b => b.1 == 0xFF).length
        .ok ((k.noteNan nan (k.set (k.mxPost fmt y1))).bump 64 (Obj.tileNarrowSaturations t)
          (blocks.map fun b => b.2.2).sum) p)

/-- VDQMX (R166). -/
def execVdqmx (t : Tile) (x : TileWord) (s : State) : Host.Outcome State Fault Refusal :=
  .next (s.issue t 0x73 x { d := .v, a := .a, c := .a, imm := mxImm } (some 2) fun k =>
    let fmt := immBits x 27 24
    match k.mxFault fmt with
    | some e => .raise e
    | none => k.access 2 (k.mxSpans fmt) [] fun y p =>
        let lanes := (k.mxPlaces fmt).flatMap fun p =>
          let scale := leNat (y.read p.scale 1)
          (unpackBytes (mxElem fmt).width 32 (y.read p.elements (mxBlockBytes fmt))).map (decodeMx fmt scale)
        k.done (k.mxPost fmt (y.setV x.d.toNat lanes)) p)

/-! ### Random draws (R82, R131) -/

/-- VPHILOX (R131): 128 calls from the call index in s[A]. -/
def execVphilox (t : Tile) (x : TileWord) (s : State) : Host.Outcome State Fault Refusal :=
  .next (s.issue t 0x90 x { d := .v, a := .s } (some 2) fun k =>
    if 0xFFFFFF80 < k.sa then .raise Ex.range
    else
      let seed := s.num (Obj.jobSeed k.h)
      let key := (seed / 2 ^ 32) ^^^ s.num (Obj.planRandomTag k.h)
      k.lanes ((List.range 128).flatMap fun i =>
        philox (seed % 2 ^ 32) key (k.sa + i, k.c.index, entryShard k.e, k.o.step)))

end Sys2Proof.Machine
end

