-- ==== Sys2Proof/Machine/Triggers.lean ====
section
/-! DEFINITION. Step triggers (R361). -/

namespace Sys2Proof.Machine

open Sys2Proof

/-- Time of the base that triggers hoop h, in nanoseconds; none where the trigger is off or cannot fire: P while Unset, a failed time
unit (R361, R373). -/
def State.triggerTime (s : State) (h : Nat) : Option Nat :=
  let source := s.num (Obj.stepTriggerSource h)
  if s.num (Obj.domainState 5) = 3 then none
  else if 1 ≤ source ∧ source ≤ 3 then some (s.baseNs source)
  else if source = 4 ∧ s.num Obj.protectedSelect ≠ 0 then some s.protectedNs
  else none

/-- The last boundary at or before a time (R361). -/
def lastBoundary (t phase period : Nat) : Int := (t : Int) - ((t : Int) - (phase : Int)).emod (period : Int)

/-- STEP_BOUNDARY (R361): the boundary that the base has reached last fires once. The write is not made where the target's queue
pair is not in RTS. -/
def execStepBoundary (h : Hoop) (s : State) : Host.Outcome State Fault Refusal :=
  let period := s.num (Obj.stepTriggerPeriod h)
  match s.triggerTime h with
  | none => .next s
  | some t =>
    let tb := lastBoundary t (s.num (Obj.stepTriggerPhase h)) period
    if period = 0 ∨ tb ≤ (nsOfTime80 (s.num (Obj.stepBoundaryLast h)) : Int) then .next s
    else
      let s1 := (s.bump 32 (Obj.stepBoundaryCount h) 1).setNum (Obj.stepBoundaryLast h) (time80 tb.toNat)
      let data := leBytes 4 (s1.num (Obj.outerStepCounter h)) ++ leBytes 4 (s1.num (Obj.stepBoundaryCount h))
      .next ((s1.writeTarget h (s1.num (Obj.stepTriggerTarget h)) 0 data none).getD s1)

end Sys2Proof.Machine
end

