-- ==== Sys2Proof/Machine/Dispatch.lean ====
section
/-! DEFINITION. The dispatch of commands: one arm for each constructor of `Instr`, each a direct call of its meaning. -/

namespace Sys2Proof.Machine

open Sys2Proof

/-- The meaning of a command: its effect on everything but the queue. -/
def exec (i : Instr) (s : State) : Host.Outcome State Fault Refusal :=
  match i with
  | .configure rq h => Sys2Proof.Machine.execConfigure rq h s
  | .admitJob rq h => Sys2Proof.Machine.execAdmit rq h s
  | .start rq h => Sys2Proof.Machine.execStart rq h s
  | .drain rq h => Sys2Proof.Machine.execDrain rq h s
  | .evacuate rq h => Sys2Proof.Machine.execEvacuate rq h s
  | .unbind rq h => Sys2Proof.Machine.execUnbind rq h s
  | .release rq h => Sys2Proof.Machine.execRelease rq h s
  | .hoopReservationWrite rq h object value => Sys2Proof.Machine.execHoopReservationWrite rq h object value s
  | .evacuationTargetWrite rq h value => Sys2Proof.Machine.execEvacuationTargetWrite rq h value s
  | .evacuationComplete h => Sys2Proof.Machine.execEvacuationComplete h s
  | .evacuationTimeout h => Sys2Proof.Machine.execEvacuationTimeout h s
  | .evacuationReceived w session parts manifest => Sys2Proof.Machine.execEvacuationReceived w session parts manifest s
  | .evacuationStatusReceived w session payload => Sys2Proof.Machine.execEvacuationStatusReceived w session payload s
  | .groupCreate rq g => Sys2Proof.Machine.execGroupCreate rq g s
  | .groupReform rq g => Sys2Proof.Machine.execGroupReform rq g s
  | .groupDelete rq g => Sys2Proof.Machine.execGroupDelete rq g s
  | .queueDoorbell q w value => Sys2Proof.Machine.execQueueDoorbell q w value s
  | .hostSubmit rq data => Sys2Proof.Machine.execHostSubmit rq data s
  | .contextGranted g => Sys2Proof.Machine.execContextGranted g s
  | .operationRun g seq => Sys2Proof.Machine.execOperationRun g seq s
  | .chunkDone g seq chunk => Sys2Proof.Machine.execChunkDone g seq chunk s
  | .resupplyLanded g seq chunk => Sys2Proof.Machine.execResupplyLanded g seq chunk s
  | .resupplyTimeout g seq chunk => Sys2Proof.Machine.execResupplyTimeout g seq chunk s
  | .memberLost member => Sys2Proof.Machine.execMemberLost member s
  | .smallContributionReceived g member epoch seq opcode elementType reduceOp elementCount payload => Sys2Proof.Machine.execSmallContributionReceived g member epoch seq opcode elementType reduceOp elementCount payload s
  | .reproDigestReceived g peer digest version => Sys2Proof.Machine.execReproDigestReceived g peer digest version s
  | .tileSensorSample t r0 r1 r2 r3 => Sys2Proof.Machine.execTileSensorSample t r0 r1 r2 r3 s
  | .tileReturnHoldExpiry t => Sys2Proof.Machine.execTileReturnHoldExpiry t s
  | .chunkBind h => Sys2Proof.Machine.execChunkBind h s
  | .chunkStart t => Sys2Proof.Machine.execChunkStart t s
  | .tileFault t cause address readable => Sys2Proof.Machine.execTileFault t cause address readable s
  | .sequencerHangTimeout t => Sys2Proof.Machine.execSequencerHangTimeout t s
  | .tileTest rq t => Sys2Proof.Machine.execTileTest rq t s
  | .tileOutOfService rq t => Sys2Proof.Machine.execTileOutOfService rq t s
  | .tileSelfTestDone t pass => Sys2Proof.Machine.execTileSelfTestDone t pass s
  | .nop t x => Sys2Proof.Machine.execNop t x s
  | .jmp t x => Sys2Proof.Machine.execJmp t x s
  | .beqz t x => Sys2Proof.Machine.execBeqz t x s
  | .bnez t x => Sys2Proof.Machine.execBnez t x s
  | .jal t x => Sys2Proof.Machine.execJal t x s
  | .jr t x => Sys2Proof.Machine.execJr t x s
  | .loopS t x => Sys2Proof.Machine.execLoop t x s
  | .fence t x => Sys2Proof.Machine.execFence t x s
  | .cdone t x => Sys2Proof.Machine.execCdone t x s
  | .trap t x => Sys2Proof.Machine.execTrap t x s
  | .addS t x => Sys2Proof.Machine.execAdd t x s
  | .subS t x => Sys2Proof.Machine.execSub t x s
  | .mulS t x => Sys2Proof.Machine.execMul t x s
  | .mulhu t x => Sys2Proof.Machine.execMulhu t x s
  | .andS t x => Sys2Proof.Machine.execAnd t x s
  | .orS t x => Sys2Proof.Machine.execOr t x s
  | .xorS t x => Sys2Proof.Machine.execXor t x s
  | .shl t x => Sys2Proof.Machine.execShl t x s
  | .shr t x => Sys2Proof.Machine.execShr t x s
  | .sra t x => Sys2Proof.Machine.execSra t x s
  | .sltu t x => Sys2Proof.Machine.execSltu t x s
  | .slt t x => Sys2Proof.Machine.execSlt t x s
  | .seq t x => Sys2Proof.Machine.execSeq t x s
  | .lih t x => Sys2Proof.Machine.execLih t x s
  | .amov t x => Sys2Proof.Machine.execAmov t x s
  | .aadd t x => Sys2Proof.Machine.execAadd t x s
  | .smova t x => Sys2Proof.Machine.execSmova t x s
  | .sld t x => Sys2Proof.Machine.execSld t x s
  | .sst t x => Sys2Proof.Machine.execSst t x s
  | .ctx t x => Sys2Proof.Machine.execCtx t x s
  | .fadd t x => Sys2Proof.Machine.execFadd t x s
  | .fmul t x => Sys2Proof.Machine.execFmul t x s
  | .frsq t x => Sys2Proof.Machine.execFrsq t x s
  | .frcp t x => Sys2Proof.Machine.execFrcp t x s
  | .fcvti t x => Sys2Proof.Machine.execFcvti t x s
  | .dld t x => Sys2Proof.Machine.execDld t x s
  | .dst t x => Sys2Proof.Machine.execDst t x s
  | .dgath t x => Sys2Proof.Machine.execDgath t x s
  | .dout t x => Sys2Proof.Machine.execDout t x s
  | .dxfer t x => Sys2Proof.Machine.execDxfer t x s
  | .dxwait t x => Sys2Proof.Machine.execDxwait t x s
  | .dclaim t x => Sys2Proof.Machine.execDclaim t x s
  | .drel t x => Sys2Proof.Machine.execDrel t x s
  | .dmaTransferComplete t => Sys2Proof.Machine.execDmaTransferComplete t s
  | .dclaimComplete t => Sys2Proof.Machine.execDclaimComplete t s
  | .dxwaitComplete t => Sys2Proof.Machine.execDxwaitComplete t s
  | .mload t x => Sys2Proof.Machine.execMload t x s
  | .mma t x => Sys2Proof.Machine.execMma t x s
  | .mdrain t x => Sys2Proof.Machine.execMdrain t x s
  | .vld t x => Sys2Proof.Machine.execVld t x s
  | .vst t x => Sys2Proof.Machine.execVst t x s
  | .vadd t x => Sys2Proof.Machine.execVadd t x s
  | .vsub t x => Sys2Proof.Machine.execVsub t x s
  | .vmul t x => Sys2Proof.Machine.execVmul t x s
  | .vfma t x => Sys2Proof.Machine.execVfma t x s
  | .vmax t x => Sys2Proof.Machine.execVmax t x s
  | .vmin t x => Sys2Proof.Machine.execVmin t x s
  | .vabs t x => Sys2Proof.Machine.execVabs t x s
  | .vneg t x => Sys2Proof.Machine.execVneg t x s
  | .vscl t x => Sys2Proof.Machine.execVscl t x s
  | .vcmplt t x => Sys2Proof.Machine.execVcmplt t x s
  | .vsel t x => Sys2Proof.Machine.execVsel t x s
  | .vbcast t x => Sys2Proof.Machine.execVbcast t x s
  | .viota t x => Sys2Proof.Machine.execViota t x s
  | .viadd t x => Sys2Proof.Machine.execViadd t x s
  | .visub t x => Sys2Proof.Machine.execVisub t x s
  | .vand t x => Sys2Proof.Machine.execVand t x s
  | .vor t x => Sys2Proof.Machine.execVor t x s
  | .vxor t x => Sys2Proof.Machine.execVxor t x s
  | .vshl t x => Sys2Proof.Machine.execVshl t x s
  | .vshr t x => Sys2Proof.Machine.execVshr t x s
  | .vext t x => Sys2Proof.Machine.execVext t x s
  | .vrsum t x => Sys2Proof.Machine.execVrsum t x s
  | .vrmax t x => Sys2Proof.Machine.execVrmax t x s
  | .vdot t x => Sys2Proof.Machine.execVdot t x s
  | .vldc t x => Sys2Proof.Machine.execVldc t x s
  | .vstc t x => Sys2Proof.Machine.execVstc t x s
  | .vqmx t x => Sys2Proof.Machine.execVqmx t x s
  | .vdqmx t x => Sys2Proof.Machine.execVdqmx t x s
  | .vcvti t x => Sys2Proof.Machine.execVcvti t x s
  | .vcvtf t x => Sys2Proof.Machine.execVcvtf t x s
  | .vrsqrt t x => Sys2Proof.Machine.execVrsqrt t x s
  | .vrcp t x => Sys2Proof.Machine.execVrcp t x s
  | .vnscoef t x => Sys2Proof.Machine.execVnscoef t x s
  | .vnscomb t x => Sys2Proof.Machine.execVnscomb t x s
  | .vsumsq t x => Sys2Proof.Machine.execVsumsq t x s
  | .vphilox t x => Sys2Proof.Machine.execVphilox t x s
  | .vruni t x => Sys2Proof.Machine.execVruni t x s
  | .vrsgn t x => Sys2Proof.Machine.execVrsgn t x s
  | .swait t x => Sys2Proof.Machine.execSwait t x s
  | .ssig t x => Sys2Proof.Machine.execSsig t x s
  | .swaitRelease t q => Sys2Proof.Machine.execSwaitRelease t q s
  | .mbpost t x => Sys2Proof.Machine.execMbpost t x s
  | .mbpostComplete t => Sys2Proof.Machine.execMbpostComplete t s
  | .larm t x => Sys2Proof.Machine.execLarm t x s
  | .lemit t x => Sys2Proof.Machine.execLemit t x s
  | .lemitComplete t => Sys2Proof.Machine.execLemitComplete t s
  | .lawait t x => Sys2Proof.Machine.execLawait t x s
  | .lawaitComplete t => Sys2Proof.Machine.execLawaitComplete t s
  | .fenceComplete t => Sys2Proof.Machine.execFenceComplete t s
  | .deadlockTimeout t => Sys2Proof.Machine.execDeadlockTimeout t s
  | .imageStageWrite rq h piece => Sys2Proof.Machine.execImageStageWrite rq h piece s
  | .imageLoad rq h => Sys2Proof.Machine.execImageLoad rq h s
  | .imageLoadPending rq h => Sys2Proof.Machine.execImageLoadPending rq h s
  | .imageCancelPending rq h => Sys2Proof.Machine.execImageCancelPending rq h s
  | .imageClear rq h => Sys2Proof.Machine.execImageClear rq h s
  | .imageCommandComplete h => Sys2Proof.Machine.execImageCommandComplete h s
  | .planLoad rq h => Sys2Proof.Machine.execPlanLoad rq h s
  | .planUnload rq h => Sys2Proof.Machine.execPlanUnload rq h s
  | .planCommandComplete h => Sys2Proof.Machine.execPlanCommandComplete h s
  | .pendingImageActivation h slot => Sys2Proof.Machine.execPendingImageActivation h slot s
  | .scrubCodewordRead c word => Sys2Proof.Machine.execScrubCodewordRead c word s
  | .scrubPassComplete c => Sys2Proof.Machine.execScrubPassComplete c s
  | .scrubPeriodExpiry c => Sys2Proof.Machine.execScrubPeriodExpiry c s
  | .channelMapOut rq c => Sys2Proof.Machine.execChannelMapOut rq c s
  | .channelRestore rq c => Sys2Proof.Machine.execChannelRestore rq c s
  | .migrationComplete m failed => Sys2Proof.Machine.execMigrationComplete m failed s
  | .poolAllocate h k group bytes => Sys2Proof.Machine.execPoolAllocate h k group bytes s
  | .poolFree h handle => Sys2Proof.Machine.execPoolFree h handle s
  | .poolWaitGranted h cls => Sys2Proof.Machine.execPoolWaitGranted h cls s
  | .poolMinimumWrite rq h k cls value => Sys2Proof.Machine.execPoolMinimumWrite rq h k cls value s
  | .macRetrain rq n => Sys2Proof.Machine.execMacRetrain rq n s
  | .laneLockTimeout p => Sys2Proof.Machine.execLaneLockTimeout p s
  | .portTrainingComplete p lanes reversed => Sys2Proof.Machine.execPortTrainingComplete p lanes reversed s
  | .fabricLaneFail l => Sys2Proof.Machine.execFabricLaneFail l s
  | .fabricLinkHoldExpiry p => Sys2Proof.Machine.execFabricLinkHoldExpiry p s
  | .fabricFrameReceived p frame fcsOk icrcOk => Sys2Proof.Machine.execFabricFrameReceived p frame fcsOk icrcOk s
  | .pfcFrameReceived p enabled quanta => Sys2Proof.Machine.execPfcFrameReceived p enabled quanta s
  | .neighborSolicitationReceived p target source => Sys2Proof.Machine.execNeighborSolicitationReceived p target source s
  | .neighborAdvertisementReceived p target mac => Sys2Proof.Machine.execNeighborAdvertisementReceived p target mac s
  | .echoRequestReceived p source payload => Sys2Proof.Machine.execEchoRequestReceived p source payload s
  | .rdmaWriteReceived x => Sys2Proof.Machine.execRdmaWriteReceived x s
  | .rdmaReadRequestReceived x => Sys2Proof.Machine.execRdmaReadRequestReceived x s
  | .unsupportedOpcodeReceived x => Sys2Proof.Machine.execUnsupportedOpcodeReceived x s
  | .ackReceived x psn => Sys2Proof.Machine.execAckReceived x psn s
  | .nakReceived x psn code => Sys2Proof.Machine.execNakReceived x psn code s
  | .rnrNakReceived x psn => Sys2Proof.Machine.execRnrNakReceived x psn s
  | .cnpReceived x => Sys2Proof.Machine.execCnpReceived x s
  | .rateRecoveryTimer q => Sys2Proof.Machine.execRateRecoveryTimer q s
  | .ackCoalesceTimer q => Sys2Proof.Machine.execAckCoalesceTimer q s
  | .rdmaLocalAckTimeout q => Sys2Proof.Machine.execRdmaLocalAckTimeout q s
  | .rnrTimerExpiry q => Sys2Proof.Machine.execRnrTimerExpiry q s
  | .qpToInit rq q => Sys2Proof.Machine.execQpToInit rq q s
  | .qpToRtr rq q => Sys2Proof.Machine.execQpToRtr rq q s
  | .qpToRts rq q => Sys2Proof.Machine.execQpToRts rq q s
  | .qpToReset rq q => Sys2Proof.Machine.execQpToReset rq q s
  | .qpToError rq q => Sys2Proof.Machine.execQpToError rq q s
  | .windowCreateLanding rq w => Sys2Proof.Machine.execWindowCreateLanding rq w s
  | .windowCreateBuffer rq w => Sys2Proof.Machine.execWindowCreateBuffer rq w s
  | .windowDelete rq w => Sys2Proof.Machine.execWindowDelete rq w s
  | .windowConfigWrite rq w object value => Sys2Proof.Machine.execWindowConfigWrite rq w object value s
  | .targetWrite rq h n object value => Sys2Proof.Machine.execTargetWrite rq h n object value s
  | .frameTransmit => Sys2Proof.Machine.execFrameTransmit s
  | .sarsiaFrameReceived k mark line flagged => Sys2Proof.Machine.execSarsiaFrameReceived k mark line flagged s
  | .losDeclare k => Sys2Proof.Machine.execLosDeclare k s
  | .losClear k => Sys2Proof.Machine.execLosClear k s
  | .lofDeclare k => Sys2Proof.Machine.execLofDeclare k s
  | .lofClear k => Sys2Proof.Machine.execLofClear k s
  | .skewDeclare k => Sys2Proof.Machine.execSkewDeclare k s
  | .skewClear k => Sys2Proof.Machine.execSkewClear k s
  | .memberRejoin k => Sys2Proof.Machine.execMemberRejoin k s
  | .stakeRestore k => Sys2Proof.Machine.execStakeRestore k s
  | .waleCreate rq w => Sys2Proof.Machine.execWaleCreate rq w s
  | .waleAddLane rq w => Sys2Proof.Machine.execWaleAddLane rq w s
  | .waleRemoveLane rq w => Sys2Proof.Machine.execWaleRemoveLane rq w s
  | .waleDelete rq w => Sys2Proof.Machine.execWaleDelete rq w s
  | .repeatShareReturn w k => Sys2Proof.Machine.execRepeatShareReturn w k s
  | .fecLock k => Sys2Proof.Machine.execFecLock k s
  | .fecLockLoss k => Sys2Proof.Machine.execFecLockLoss k s
  | .fecBerEvaluation k correctedBits uncorrectable ber => Sys2Proof.Machine.execFecBerEvaluation k correctedBits uncorrectable ber s
  | .segmentReceived w segment => Sys2Proof.Machine.execSegmentReceived w segment s
  | .sackReceived w payload => Sys2Proof.Machine.execSackReceived w payload s
  | .periodicSack w => Sys2Proof.Machine.execPeriodicSack w s
  | .requestedSack w => Sys2Proof.Machine.execRequestedSack w s
  | .resendGuardScan w => Sys2Proof.Machine.execResendGuardScan w s
  | .repeatSilenceExpiry w => Sys2Proof.Machine.execRepeatSilenceExpiry w s
  | .repeatDarkHoldExpiry w => Sys2Proof.Machine.execRepeatDarkHoldExpiry w s
  | .fixedVcSelect w => Sys2Proof.Machine.execFixedVcSelect w s
  | .bulkStreamSelect w => Sys2Proof.Machine.execBulkStreamSelect w s
  | .helloReceived w payload => Sys2Proof.Machine.execHelloReceived w payload s
  | .replyReceived w payload => Sys2Proof.Machine.execReplyReceived w payload s
  | .finishedReceived w payload => Sys2Proof.Machine.execFinishedReceived w payload s
  | .sessionRetryTimer w => Sys2Proof.Machine.execSessionRetryTimer w s
  | .sessionOpenReceived w session mode payload => Sys2Proof.Machine.execSessionOpenReceived w session mode payload s
  | .sessionAcceptReceived w session payload => Sys2Proof.Machine.execSessionAcceptReceived w session payload s
  | .sessionRefuseReceived w session payload => Sys2Proof.Machine.execSessionRefuseReceived w session payload s
  | .sessionCloseReceived w session payload => Sys2Proof.Machine.execSessionCloseReceived w session payload s
  | .lineSessionOpen rq w => Sys2Proof.Machine.execLineSessionOpen rq w s
  | .lineSessionClose rq w => Sys2Proof.Machine.execLineSessionClose rq w s
  | .lineRekeyTx rq w => Sys2Proof.Machine.execLineRekeyTx rq w s
  | .rekeyIntervalExpiry w session => Sys2Proof.Machine.execRekeyIntervalExpiry w session s
  | .rekeyOfferReceived w session epoch payload => Sys2Proof.Machine.execRekeyOfferReceived w session epoch payload s
  | .rekeyAcceptReceived w session epoch payload => Sys2Proof.Machine.execRekeyAcceptReceived w session epoch payload s
  | .rekeyRetireReceived w session epoch payload => Sys2Proof.Machine.execRekeyRetireReceived w session epoch payload s
  | .lineHoopClearEnableAWrite rq h value token => Sys2Proof.Machine.execLineHoopClearEnableAWrite rq h value token s
  | .lineHoopClearEnableBWrite rq h value => Sys2Proof.Machine.execLineHoopClearEnableBWrite rq h value s
  | .dualRailDisagreement l => Sys2Proof.Machine.execDualRailDisagreement l s
  | .pairSettingWrite rq k value => Sys2Proof.Machine.execPairSettingWrite rq k value s
  | .lineLaneModeWrite rq k value => Sys2Proof.Machine.execLineLaneModeWrite rq k value s
  | .lineLaneResolutionWrite rq k value => Sys2Proof.Machine.execLineLaneResolutionWrite rq k value s
  | .lineLaneFrequencyWrite rq k value => Sys2Proof.Machine.execLineLaneFrequencyWrite rq k value s
  | .laserTuningComplete k => Sys2Proof.Machine.execLaserTuningComplete k s
  | .laserCommission rq n => Sys2Proof.Machine.execLaserCommission rq n s
  | .laserRetire rq n => Sys2Proof.Machine.execLaserRetire rq n s
  | .engineCommission rq k => Sys2Proof.Machine.execEngineCommission rq k s
  | .laserCommissionComplete x bias power => Sys2Proof.Machine.execLaserCommissionComplete x bias power s
  | .laserHealthSample lasers engines => Sys2Proof.Machine.execLaserHealthSample lasers engines s
  | .spareLocked n => Sys2Proof.Machine.execSpareLocked n s
  | .spareLockTimeout n => Sys2Proof.Machine.execSpareLockTimeout n s
  | .ipSelect rq ip => Sys2Proof.Machine.execIpSelect rq ip s
  | .ipClearTrip rq ip tap => Sys2Proof.Machine.execIpClearTrip rq ip tap s
  | .aprEntry k => Sys2Proof.Machine.execAprEntry k s
  | .eyeSafetyTrip k => Sys2Proof.Machine.execEyeSafetyTrip k s
  | .connectorRemoved p => Sys2Proof.Machine.execConnectorRemoved p s
  | .connectorInserted p => Sys2Proof.Machine.execConnectorInserted p s
  | .queueSample => Sys2Proof.Machine.execQueueSample s
  | .sampleClear rq => Sys2Proof.Machine.execSampleClear rq s
  | .sampleFreeze rq => Sys2Proof.Machine.execSampleFreeze rq s
  | .sampleRun rq => Sys2Proof.Machine.execSampleRun rq s
  | .policerWrite rq h object value => Sys2Proof.Machine.execPolicerWrite rq h object value s
  | .fabricAddressWrite rq value => Sys2Proof.Machine.execFabricAddressWrite rq value s
  | .autoBond k => Sys2Proof.Machine.execAutoBond k s
  | .fabricHelloReceived w payload => Sys2Proof.Machine.execFabricHelloReceived w payload s
  | .linkStateReceived w payload => Sys2Proof.Machine.execLinkStateReceived w payload s
  | .linkStateOriginate => Sys2Proof.Machine.execLinkStateOriginate s
  | .linkStateExpiry origin => Sys2Proof.Machine.execLinkStateExpiry origin s
  | .heartbeatSend => Sys2Proof.Machine.execHeartbeatSend s
  | .heartbeatReceived w payload => Sys2Proof.Machine.execHeartbeatReceived w payload s
  | .peerSuspect peer => Sys2Proof.Machine.execPeerSuspect peer s
  | .addressConflictEnd address node => Sys2Proof.Machine.execAddressConflictEnd address node s
  | .fenceRecordWrite rq h record token => Sys2Proof.Machine.execFenceRecordWrite rq h record token s
  | .fenceNoticeReceived w record token => Sys2Proof.Machine.execFenceNoticeReceived w record token s
  | .healthScoreUpdate => Sys2Proof.Machine.execHealthScoreUpdate s
  | .expelProposalReceived w payload => Sys2Proof.Machine.execExpelProposalReceived w payload s
  | .shadowStart rq h => Sys2Proof.Machine.execShadowStart rq h s
  | .shadowStop rq h => Sys2Proof.Machine.execShadowStop rq h s
  | .shadowDigestReceived w payload => Sys2Proof.Machine.execShadowDigestReceived w payload s
  | .partitionHoldExpiry h site => Sys2Proof.Machine.execPartitionHoldExpiry h site s
  | .sideDeclareReceived w h payload => Sys2Proof.Machine.execSideDeclareReceived w h payload s
  | .mergeHoldExpiry h => Sys2Proof.Machine.execMergeHoldExpiry h s
  | .mergeReceived w h payload => Sys2Proof.Machine.execMergeReceived w h payload s
  | .reconciliationComplete h => Sys2Proof.Machine.execReconciliationComplete h s
  | .tbSetTime rq b value => Sys2Proof.Machine.execTbSetTime rq b value s
  | .tbIncrementWrite rq b value => Sys2Proof.Machine.execTbIncrementWrite rq b value s
  | .ptpAnnounceReceived port domain master grandmaster dataset masterTime => Sys2Proof.Machine.execPtpAnnounceReceived port domain master grandmaster dataset masterTime s
  | .ptpSyncReceived port domain master t1 t2 => Sys2Proof.Machine.execPtpSyncReceived port domain master t1 t2 s
  | .ptpDelayResponseReceived port domain master t3 t4 => Sys2Proof.Machine.execPtpDelayResponseReceived port domain master t3 t4 s
  | .timeSourceTimeout d => Sys2Proof.Machine.execTimeSourceTimeout d s
  | .timeRevertHoldExpiry => Sys2Proof.Machine.execTimeRevertHoldExpiry s
  | .timeSyncSend => Sys2Proof.Machine.execTimeSyncSend s
  | .timeSyncReceived w payload => Sys2Proof.Machine.execTimeSyncReceived w payload s
  | .ppsInEdge => Sys2Proof.Machine.execPpsInEdge s
  | .ppsOutEdge => Sys2Proof.Machine.execPpsOutEdge s
  | .stepBoundary h => Sys2Proof.Machine.execStepBoundary h s
  | .xtalReady => Sys2Proof.Machine.execXtalReady s
  | .sourceReady c frequency => Sys2Proof.Machine.execSourceReady c frequency s
  | .clockFail x => Sys2Proof.Machine.execClockFail x s
  | .domainSourceWrite rq d value => Sys2Proof.Machine.execDomainSourceWrite rq d value s
  | .domainSwitchComplete d => Sys2Proof.Machine.execDomainSwitchComplete d s
  | .domainRestart rq d => Sys2Proof.Machine.execDomainRestart rq d s
  | .intoscTrimMeasure cycles interrupted => Sys2Proof.Machine.execIntoscTrimMeasure cycles interrupted s
  | .clkoutWrite rq object value => Sys2Proof.Machine.execClkoutWrite rq object value s
  | .autoGateIdle d block => Sys2Proof.Machine.execAutoGateIdle d block s
  | .blockEnableComplete b => Sys2Proof.Machine.execBlockEnableComplete b s
  | .domainVoteHostWrite rq d value => Sys2Proof.Machine.execDomainVoteHostWrite rq d value s
  | .tileIdleHoldExpiry t => Sys2Proof.Machine.execTileIdleHoldExpiry t s
  | .quiesceComplete d => Sys2Proof.Machine.execQuiesceComplete d s
  | .retentionSaveComplete d => Sys2Proof.Machine.execRetentionSaveComplete d s
  | .powerSwitchOpen d => Sys2Proof.Machine.execPowerSwitchOpen d s
  | .wakeEvent d => Sys2Proof.Machine.execWakeEvent d s
  | .wakeComplete d => Sys2Proof.Machine.execWakeComplete d s
  | .powerGovernorStep input standby tilePower => Sys2Proof.Machine.execPowerGovernorStep input standby tilePower s
  | .dieSensorSample n readings => Sys2Proof.Machine.execDieSensorSample n readings s
  | .dictRead rq index sub offset length => Sys2Proof.Machine.execDictRead rq index sub offset length s
  | .dictWrite rq index sub offset data => Sys2Proof.Machine.execDictWrite rq index sub offset data s
  | .dictDescribe rq index sub => Sys2Proof.Machine.execDictDescribe rq index sub s
  | .dictReadSnapshot rq index sub offset length => Sys2Proof.Machine.execDictReadSnapshot rq index sub offset length s
  | .sigTokenWrite rq index sub value token => Sys2Proof.Machine.execSigTokenWrite rq index sub value token s
  | .pdpHelloReceived publicKey encapKey nonce => Sys2Proof.Machine.execPdpHelloReceived publicKey encapKey nonce s
  | .pdpConfirmReceived session signature => Sys2Proof.Machine.execPdpConfirmReceived session signature s
  | .pdpRequestReceived session seq fragment count payload => Sys2Proof.Machine.execPdpRequestReceived session seq fragment count payload s
  | .pdpSessionIdleTimeout session => Sys2Proof.Machine.execPdpSessionIdleTimeout session s
  | .peerReadReceived wale index sub command offset length tag => Sys2Proof.Machine.execPeerReadReceived wale index sub command offset length tag s
  | .peerWriteReceived wale index sub offset value tag => Sys2Proof.Machine.execPeerWriteReceived wale index sub offset value tag s
  | .peerResponseReceived wale tag status flags total data => Sys2Proof.Machine.execPeerResponseReceived wale tag status flags total data s
  | .mailboxPostRegisterWrite n word => Sys2Proof.Machine.execMailboxPostRegisterWrite n word s
  | .mailboxPost rq n word => Sys2Proof.Machine.execMailboxPost rq n word s
  | .mailboxTakeRegisterRead n => Sys2Proof.Machine.execMailboxTakeRegisterRead n s
  | .mailboxTake rq n => Sys2Proof.Machine.execMailboxTake rq n s
  | .mailboxTimeout n => Sys2Proof.Machine.execMailboxTimeout n s
  | .snapInEdge => Sys2Proof.Machine.execSnapInEdge s
  | .snapshotTrigger rq => Sys2Proof.Machine.execSnapshotTrigger rq s
  | .snapshotArm rq => Sys2Proof.Machine.execSnapshotArm rq s
  | .snapshotDisarm rq => Sys2Proof.Machine.execSnapshotDisarm rq s
  | .snapshotUnlock rq => Sys2Proof.Machine.execSnapshotUnlock rq s
  | .snapshotArmFire => Sys2Proof.Machine.execSnapshotArmFire s
  | .persistCommitDelayExpiry => Sys2Proof.Machine.execPersistCommitDelayExpiry s
  | .persistCommit rq => Sys2Proof.Machine.execPersistCommit rq s
  | .persistCommitComplete readBackOk => Sys2Proof.Machine.execPersistCommitComplete readBackOk s
  | .pcieFlr => Sys2Proof.Machine.execPcieFlr s
  | .perstLAssert => Sys2Proof.Machine.execPerstLAssert s
  | .ownershipTransfer rq record => Sys2Proof.Machine.execOwnershipTransfer rq record s
  | .firmwareStageWrite rq offset data => Sys2Proof.Machine.execFirmwareStageWrite rq offset data s
  | .firmwareInstall rq => Sys2Proof.Machine.execFirmwareInstall rq s
  | .firmwareInstallComplete readBackOk => Sys2Proof.Machine.execFirmwareInstallComplete readBackOk s
  | .rollbackFloorWrite rq value token => Sys2Proof.Machine.execRollbackFloorWrite rq value token s
  | .attestNonceWrite rq nonce => Sys2Proof.Machine.execAttestNonceWrite rq nonce s
  | .hoopAttestNonceWrite rq h nonce => Sys2Proof.Machine.execHoopAttestNonceWrite rq h nonce s
  | .quoteComplete scope => Sys2Proof.Machine.execQuoteComplete scope s
  | .meterLinkFrame link crcOk count increments => Sys2Proof.Machine.execMeterLinkFrame link crcOk count increments s
  | .meterAdcSample mainInput standbyInput rails => Sys2Proof.Machine.execMeterAdcSample mainInput standbyInput rails s
  | .meterEnergySplit => Sys2Proof.Machine.execMeterEnergySplit s
  | .meterRecord => Sys2Proof.Machine.execMeterRecord s
  | .meterPowerFailRecord => Sys2Proof.Machine.execMeterPowerFailRecord s
  | .meterStageWrite rq offset data => Sys2Proof.Machine.execMeterStageWrite rq offset data s
  | .meterInstall rq => Sys2Proof.Machine.execMeterInstall rq s
  | .dieLinkFlitError sender receiver => Sys2Proof.Machine.execDieLinkFlitError sender receiver s
  | .eventAck rq seq => Sys2Proof.Machine.execEventAck rq seq s
  | .inputFault input kind => Sys2Proof.Machine.execInputFault input kind s
  | .powerOn main standby => Sys2Proof.Machine.execPowerOn main standby s
  | .startupStageComplete ok failedChannels => Sys2Proof.Machine.execStartupStageComplete ok failedChannels s
  | .regulatorPowerGood n => Sys2Proof.Machine.execRegulatorPowerGood n s
  | .regulatorTimeout n => Sys2Proof.Machine.execRegulatorTimeout n s
  | .xtalReadyTimeout => Sys2Proof.Machine.execXtalReadyTimeout s
  | .mainInputAppear => Sys2Proof.Machine.execMainInputAppear s
  | .mainInputLoss => Sys2Proof.Machine.execMainInputLoss s
  | .resetLAssert => Sys2Proof.Machine.execResetLAssert s
  | .resetCold rq => Sys2Proof.Machine.execResetCold rq s
  | .resetWarm rq => Sys2Proof.Machine.execResetWarm rq s
  | .resetHub rq => Sys2Proof.Machine.execResetHub rq s
  | .resetDie rq => Sys2Proof.Machine.execResetDie rq s
  | .resetHoop rq => Sys2Proof.Machine.execResetHoop rq s
  | .levelChangeComplete d => Sys2Proof.Machine.execLevelChangeComplete d s
  | .sourceNotReady c => Sys2Proof.Machine.execSourceNotReady c s
  | .pciePowerStateWrite d3hot => Sys2Proof.Machine.execPciePowerStateWrite d3hot s
  | .mgtLinkStateChange port up => Sys2Proof.Machine.execMgtLinkStateChange port up s
  | .meterRestartComplete => Sys2Proof.Machine.execMeterRestartComplete s
  | .resetComplete => Sys2Proof.Machine.execResetComplete s
  | .pfcPauseExpiry p priority => Sys2Proof.Machine.execPfcPauseExpiry p priority s
  | .standbyInputChange present => Sys2Proof.Machine.execStandbyInputChange present s

end Sys2Proof.Machine
end

