-- ==== Sys2Proof/WellFormed.lean ====
section
/-! DEFINITION. Well-formed commands: the operands that the parts outside the module can bring with each. Register numbers and
unit numbers are bounded by their types; what is checked here are lengths and the ranges of what is carried in lists. -/

namespace Sys2Proof

/-- A token carries a signature of 4,627 bytes (R402). -/
def Token.wf (t : Token) : Bool := decide (t.signature.length = 4627)

/-- A packet has an IPv6 source address (R211). -/
def PacketOrigin.wf (x : PacketOrigin) : Bool := decide (x.source.length = 16)

/-- No more payload than a path MTU of 4,096 bytes (R212, R213). -/
def RdmaPacket.wf (x : RdmaPacket) : Bool := x.toPacketOrigin.wf && decide (x.data.length ≤ 4096)

/-- A segment has a header of 32 bytes and a tag of 16 (R256). -/
def RxSegment.wf (x : RxSegment) : Bool := decide (x.header.length = 32 ∧ x.tag.length = 16)

/-- An increment of the meter fits its u64 counter (R438). -/
def MeterIncrement.wf : MeterIncrement → Bool
  | .counter _ _ amount => decide (amount < 2 ^ 64)
  | .meshBusy _ cycles => decide (cycles < 2 ^ 64)

/-- A request carries at most the 4,096 bytes of a PCIe slot's data buffer (R406, R407). -/
def Requester.carries (rq : Requester) (data : Bytes) : Bool :=
  match rq with
  | .pcie _ _ _ => decide (data.length ≤ 4096)
  | _ => true

/-- The command is well-formed. -/
def Instr.wellFormed : Instr → Bool
  | .configure _ _ => true
  | .admitJob _ _ => true
  | .start _ _ => true
  | .drain _ _ => true
  | .evacuate _ _ => true
  | .unbind _ _ => true
  | .release _ _ => true
  | .hoopReservationWrite _ _ _ _ => true
  | .evacuationTargetWrite _ _ _ => true
  | .evacuationComplete _ => true
  | .evacuationTimeout _ => true
  | .evacuationReceived _ _ parts _ => decide (parts.length = 5)
  | .evacuationStatusReceived _ _ _ => true
  | .groupCreate _ _ => true
  | .groupReform _ _ => true
  | .groupDelete _ _ => true
  | .queueDoorbell _ _ _ => true
  | .hostSubmit _ _ => true
  | .contextGranted _ => true
  | .operationRun _ _ => true
  | .chunkDone _ _ _ => true
  | .resupplyLanded _ _ _ => true
  | .resupplyTimeout _ _ _ => true
  | .memberLost _ => true
  | .smallContributionReceived _ _ _ _ _ _ _ _ payload => decide (payload.length ≤ 256)
  | .reproDigestReceived _ _ digest _ => decide (digest.length = 64)
  | .tileSensorSample _ _ _ _ _ => true
  | .tileReturnHoldExpiry _ => true
  | .chunkBind _ => true
  | .chunkStart _ => true
  | .tileFault _ _ _ _ => true
  | .sequencerHangTimeout _ => true
  | .tileTest _ _ => true
  | .tileOutOfService _ _ => true
  | .tileSelfTestDone _ _ => true
  | .nop _ _ => true
  | .jmp _ _ => true
  | .beqz _ _ => true
  | .bnez _ _ => true
  | .jal _ _ => true
  | .jr _ _ => true
  | .loopS _ _ => true
  | .fence _ _ => true
  | .cdone _ _ => true
  | .trap _ _ => true
  | .addS _ _ => true
  | .subS _ _ => true
  | .mulS _ _ => true
  | .mulhu _ _ => true
  | .andS _ _ => true
  | .orS _ _ => true
  | .xorS _ _ => true
  | .shl _ _ => true
  | .shr _ _ => true
  | .sra _ _ => true
  | .sltu _ _ => true
  | .slt _ _ => true
  | .seq _ _ => true
  | .lih _ _ => true
  | .amov _ _ => true
  | .aadd _ _ => true
  | .smova _ _ => true
  | .sld _ _ => true
  | .sst _ _ => true
  | .ctx _ _ => true
  | .fadd _ _ => true
  | .fmul _ _ => true
  | .frsq _ _ => true
  | .frcp _ _ => true
  | .fcvti _ _ => true
  | .dld _ _ => true
  | .dst _ _ => true
  | .dgath _ _ => true
  | .dout _ _ => true
  | .dxfer _ _ => true
  | .dxwait _ _ => true
  | .dclaim _ _ => true
  | .drel _ _ => true
  | .dmaTransferComplete _ => true
  | .dclaimComplete _ => true
  | .dxwaitComplete _ => true
  | .mload _ _ => true
  | .mma _ _ => true
  | .mdrain _ _ => true
  | .vld _ _ => true
  | .vst _ _ => true
  | .vadd _ _ => true
  | .vsub _ _ => true
  | .vmul _ _ => true
  | .vfma _ _ => true
  | .vmax _ _ => true
  | .vmin _ _ => true
  | .vabs _ _ => true
  | .vneg _ _ => true
  | .vscl _ _ => true
  | .vcmplt _ _ => true
  | .vsel _ _ => true
  | .vbcast _ _ => true
  | .viota _ _ => true
  | .viadd _ _ => true
  | .visub _ _ => true
  | .vand _ _ => true
  | .vor _ _ => true
  | .vxor _ _ => true
  | .vshl _ _ => true
  | .vshr _ _ => true
  | .vext _ _ => true
  | .vrsum _ _ => true
  | .vrmax _ _ => true
  | .vdot _ _ => true
  | .vldc _ _ => true
  | .vstc _ _ => true
  | .vqmx _ _ => true
  | .vdqmx _ _ => true
  | .vcvti _ _ => true
  | .vcvtf _ _ => true
  | .vrsqrt _ _ => true
  | .vrcp _ _ => true
  | .vnscoef _ _ => true
  | .vnscomb _ _ => true
  | .vsumsq _ _ => true
  | .vphilox _ _ => true
  | .vruni _ _ => true
  | .vrsgn _ _ => true
  | .swait _ _ => true
  | .ssig _ _ => true
  | .swaitRelease _ _ => true
  | .mbpost _ _ => true
  | .mbpostComplete _ => true
  | .larm _ _ => true
  | .lemit _ _ => true
  | .lemitComplete _ => true
  | .lawait _ _ => true
  | .lawaitComplete _ => true
  | .fenceComplete _ => true
  | .deadlockTimeout _ => true
  | .imageStageWrite _ _ _ => true
  | .imageLoad _ _ => true
  | .imageLoadPending _ _ => true
  | .imageCancelPending _ _ => true
  | .imageClear _ _ => true
  | .imageCommandComplete _ => true
  | .planLoad _ _ => true
  | .planUnload _ _ => true
  | .planCommandComplete _ => true
  | .pendingImageActivation _ _ => true
  | .scrubCodewordRead _ word => decide (word.length = 72)
  | .scrubPassComplete _ => true
  | .scrubPeriodExpiry _ => true
  | .channelMapOut _ _ => true
  | .channelRestore _ _ => true
  | .migrationComplete _ _ => true
  | .poolAllocate _ k group _ => group.isNone || k == 2
  | .poolFree _ _ => true
  | .poolWaitGranted _ _ => true
  | .poolMinimumWrite _ _ _ _ _ => true
  | .macRetrain _ _ => true
  | .laneLockTimeout _ => true
  | .portTrainingComplete _ lanes _ => decide (lanes.length ≤ 8) && lanes.all fun l => decide (l.1 < 8)
  | .fabricLaneFail _ => true
  | .fabricLinkHoldExpiry _ => true
  | .fabricFrameReceived _ frame _ _ => decide (14 ≤ frame.length)
  | .pfcFrameReceived _ _ quanta => decide (quanta.length = 8) && quanta.all fun q => decide (q < 65536)
  | .neighborSolicitationReceived _ target source => decide (target.length = 16 ∧ source.length = 16)
  | .neighborAdvertisementReceived _ target mac => decide (target.length = 16 ∧ mac.length = 6)
  | .echoRequestReceived _ source _ => decide (source.length = 16)
  | .rdmaWriteReceived x => x.wf
  | .rdmaReadRequestReceived x => x.wf
  | .unsupportedOpcodeReceived x => x.wf
  | .ackReceived x _ => x.wf
  | .nakReceived x _ _ => x.wf
  | .rnrNakReceived x _ => x.wf
  | .cnpReceived x => x.wf
  | .rateRecoveryTimer _ => true
  | .ackCoalesceTimer _ => true
  | .rdmaLocalAckTimeout _ => true
  | .rnrTimerExpiry _ => true
  | .qpToInit _ _ => true
  | .qpToRtr _ _ => true
  | .qpToRts _ _ => true
  | .qpToReset _ _ => true
  | .qpToError _ _ => true
  | .windowCreateLanding _ _ => true
  | .windowCreateBuffer _ _ => true
  | .windowDelete _ _ => true
  | .windowConfigWrite _ _ _ _ => true
  | .targetWrite _ _ _ _ _ => true
  | .frameTransmit => true
  | .sarsiaFrameReceived _ _ line flagged => decide (line.length = 16384) && flagged.all fun i => decide (i < 16384)
  | .losDeclare _ => true
  | .losClear _ => true
  | .lofDeclare _ => true
  | .lofClear _ => true
  | .skewDeclare _ => true
  | .skewClear _ => true
  | .memberRejoin _ => true
  | .stakeRestore _ => true
  | .waleCreate _ _ => true
  | .waleAddLane _ _ => true
  | .waleRemoveLane _ _ => true
  | .waleDelete _ _ => true
  | .repeatShareReturn _ _ => true
  | .fecLock _ => true
  | .fecLockLoss _ => true
  | .fecBerEvaluation _ _ _ _ => true
  | .segmentReceived _ segment => segment.wf
  | .sackReceived _ _ => true
  | .periodicSack _ => true
  | .requestedSack _ => true
  | .resendGuardScan _ => true
  | .repeatSilenceExpiry _ => true
  | .repeatDarkHoldExpiry _ => true
  | .fixedVcSelect _ => true
  | .bulkStreamSelect _ => true
  | .helloReceived _ _ => true
  | .replyReceived _ _ => true
  | .finishedReceived _ _ => true
  | .sessionRetryTimer _ => true
  | .sessionOpenReceived _ _ _ _ => true
  | .sessionAcceptReceived _ _ _ => true
  | .sessionRefuseReceived _ _ _ => true
  | .sessionCloseReceived _ _ _ => true
  | .lineSessionOpen _ _ => true
  | .lineSessionClose _ _ => true
  | .lineRekeyTx _ _ => true
  | .rekeyIntervalExpiry _ _ => true
  | .rekeyOfferReceived _ _ _ _ => true
  | .rekeyAcceptReceived _ _ _ _ => true
  | .rekeyRetireReceived _ _ _ _ => true
  | .lineHoopClearEnableAWrite _ _ _ token => token.wf
  | .lineHoopClearEnableBWrite _ _ _ => true
  | .dualRailDisagreement _ => true
  | .pairSettingWrite _ _ _ => true
  | .lineLaneModeWrite _ _ _ => true
  | .lineLaneResolutionWrite _ _ _ => true
  | .lineLaneFrequencyWrite _ _ _ => true
  | .laserTuningComplete _ => true
  | .laserCommission _ _ => true
  | .laserRetire _ _ => true
  | .engineCommission _ _ => true
  | .laserCommissionComplete _ _ _ => true
  | .laserHealthSample lasers engines => decide (lasers.length = 20 ∧ engines.length = 16)
  | .spareLocked _ => true
  | .spareLockTimeout _ => true
  | .ipSelect _ _ => true
  | .ipClearTrip _ _ _ => true
  | .aprEntry _ => true
  | .eyeSafetyTrip _ => true
  | .connectorRemoved _ => true
  | .connectorInserted _ => true
  | .queueSample => true
  | .sampleClear _ => true
  | .sampleFreeze _ => true
  | .sampleRun _ => true
  | .policerWrite _ _ _ _ => true
  | .fabricAddressWrite _ _ => true
  | .autoBond _ => true
  | .fabricHelloReceived _ _ => true
  | .linkStateReceived _ _ => true
  | .linkStateOriginate => true
  | .linkStateExpiry _ => true
  | .heartbeatSend => true
  | .heartbeatReceived _ _ => true
  | .peerSuspect _ => true
  | .addressConflictEnd _ _ => true
  | .fenceRecordWrite _ _ _ token => token.wf
  | .fenceNoticeReceived _ _ token => token.wf
  | .healthScoreUpdate => true
  | .expelProposalReceived _ _ => true
  | .shadowStart _ _ => true
  | .shadowStop _ _ => true
  | .shadowDigestReceived _ _ => true
  | .partitionHoldExpiry _ _ => true
  | .sideDeclareReceived _ _ _ => true
  | .mergeHoldExpiry _ => true
  | .mergeReceived _ _ _ => true
  | .reconciliationComplete _ => true
  | .tbSetTime _ _ _ => true
  | .tbIncrementWrite _ _ _ => true
  | .ptpAnnounceReceived _ _ _ _ _ _ => true
  | .ptpSyncReceived _ _ _ _ _ => true
  | .ptpDelayResponseReceived _ _ _ _ _ => true
  | .timeSourceTimeout _ => true
  | .timeRevertHoldExpiry => true
  | .timeSyncSend => true
  | .timeSyncReceived _ _ => true
  | .ppsInEdge => true
  | .ppsOutEdge => true
  | .stepBoundary _ => true
  | .xtalReady => true
  | .sourceReady _ _ => true
  | .clockFail _ => true
  | .domainSourceWrite _ _ _ => true
  | .domainSwitchComplete _ => true
  | .domainRestart _ _ => true
  | .intoscTrimMeasure _ _ => true
  | .clkoutWrite _ _ _ => true
  | .autoGateIdle _ _ => true
  | .blockEnableComplete _ => true
  | .domainVoteHostWrite _ _ _ => true
  | .tileIdleHoldExpiry _ => true
  | .quiesceComplete _ => true
  | .retentionSaveComplete _ => true
  | .powerSwitchOpen _ => true
  | .wakeEvent _ => true
  | .wakeComplete _ => true
  | .powerGovernorStep _ _ tilePower => decide (tilePower.length = 48)
  | .dieSensorSample _ readings => readings != []
  | .dictRead _ _ _ offset length => decide (offset < 2 ^ 32 ∧ length < 2 ^ 32)
  | .dictWrite rq _ _ offset data => decide (offset < 2 ^ 32) && rq.carries data
  | .dictDescribe _ _ _ => true
  | .dictReadSnapshot _ _ _ offset length => decide (offset < 2 ^ 32 ∧ length < 2 ^ 32)
  | .sigTokenWrite _ _ _ _ token => token.wf
  | .pdpHelloReceived publicKey encapKey nonce => decide (publicKey.length = 2592 ∧ encapKey.length = 1568 ∧ nonce.length = 32)
  | .pdpConfirmReceived _ signature => decide (signature.length = 4627)
  | .pdpRequestReceived _ _ fragment count payload => decide (fragment < count ∧ payload.length ≤ 1232)
  | .pdpSessionIdleTimeout _ => true
  | .peerReadReceived _ _ _ _ offset length _ => decide (offset < 2 ^ 32 ∧ length < 2 ^ 32)
  | .peerWriteReceived _ _ _ offset _ _ => decide (offset < 2 ^ 32)
  | .peerResponseReceived _ _ _ _ total _ => decide (total < 2 ^ 32)
  | .mailboxPostRegisterWrite _ _ => true
  | .mailboxPost _ _ _ => true
  | .mailboxTakeRegisterRead _ => true
  | .mailboxTake _ _ => true
  | .mailboxTimeout _ => true
  | .snapInEdge => true
  | .snapshotTrigger _ => true
  | .snapshotArm _ => true
  | .snapshotDisarm _ => true
  | .snapshotUnlock _ => true
  | .snapshotArmFire => true
  | .persistCommitDelayExpiry => true
  | .persistCommit _ => true
  | .persistCommitComplete _ => true
  | .pcieFlr => true
  | .perstLAssert => true
  | .ownershipTransfer _ _ => true
  | .firmwareStageWrite _ _ _ => true
  | .firmwareInstall _ => true
  | .firmwareInstallComplete _ => true
  | .rollbackFloorWrite _ _ token => token.wf
  | .attestNonceWrite _ _ => true
  | .hoopAttestNonceWrite _ _ _ => true
  | .quoteComplete _ => true
  | .meterLinkFrame _ _ _ increments => increments.all MeterIncrement.wf
  | .meterAdcSample _ _ rails => decide (rails.length = 8)
  | .meterEnergySplit => true
  | .meterRecord => true
  | .meterPowerFailRecord => true
  | .meterStageWrite _ _ _ => true
  | .meterInstall _ => true
  | .dieLinkFlitError _ _ => true
  | .eventAck _ _ => true
  | .inputFault _ _ => true
  | .powerOn _ _ => true
  | .startupStageComplete _ _ => true
  | .regulatorPowerGood _ => true
  | .regulatorTimeout _ => true
  | .xtalReadyTimeout => true
  | .mainInputAppear => true
  | .mainInputLoss => true
  | .resetLAssert => true
  | .resetCold _ => true
  | .resetWarm _ => true
  | .resetHub _ => true
  | .resetDie _ => true
  | .resetHoop _ => true
  | .levelChangeComplete _ => true
  | .sourceNotReady _ => true
  | .pciePowerStateWrite _ => true
  | .mgtLinkStateChange _ _ => true
  | .meterRestartComplete => true
  | .resetComplete => true
  | .pfcPauseExpiry _ _ => true
  | .standbyInputChange _ => true

end Sys2Proof
end

