-- ==== Sys2Proof/Safety.lean ====
section
/-! DEFINITION. What counts as a sound state and a safe run, in the terms that the statements use. -/

namespace Sys2Proof

open Sys2Proof.Machine

/-- The store of objects and module memory are in their canonical form: keys strictly rising, no entry equal to what an unlisted
key reads as. Equal contents are then equal data. -/
def Canonical (s : State) : Prop := Map.wf objDefault s.dict = true ∧ Memory.wf s.mem = true

/-- Every object beside the listed keys holds what it held. -/
def ObjectsKept (keys : List Nat) (s t : State) : Prop := ∀ k, k ∉ keys → t.obj k = s.obj k

/-- Every byte of module memory reads as it did. -/
def MemoryKept (s t : State) : Prop := ∀ a, t.mem.read a = s.mem.read a

/-- The dictionary engine serves a request's path and the request passes checks 1–6 of R404. -/
abbrev Accepts (s : State) (rq : Requester) (k : Nat) (v : Val) (token : Option Token) : Prop :=
  s.serves rq = true ∧ ((s.dropLatch rq k).touch k).writeStatus rq k v token = St.ok

/-- Every held frame with one of these logical numbers is held by the hoop: the owner tags of R202 agree. -/
abbrev OwnFrames (s : State) (h : Nat) (logicals : List Nat) : Prop := ∀ c ∈ s.heldFrames, c.2.logical ∈ logicals → c.2.hoop = h

/-- The frames of the hoop's plan buffers are the hoop's. -/
abbrev OwnPlan (s : State) (h : Nat) : Prop := OwnFrames s h (s.hoop h).planFrames.flatten

/-- The frames of buffers are the hoop's. -/
abbrev OwnBuffers (s : State) (h : Nat) (handles : List Nat) : Prop := OwnFrames s h (handles.map fun x => bits x 31 12)

/-- Freeing the buffers in turn leaves no hoop to be faulted: none is free or in a frame of another hoop (R202). -/
abbrev FreesWell (s : State) (h : Nat) (handles : List Nat) : Prop := (s.freeEach h handles).pools.misfreed = []

/-- Every byte of memory reads as it did, but in frames that went back to the free list, which are zeroed (R203). -/
abbrev KeptButReturned (s t : State) : Prop :=
  ∀ a, (∀ x, (Map.get none s.pools.frames x).isSome = true → Map.get none t.pools.frames x = none →
    ¬ (frameAddress x ≤ a ∧ a < frameAddress x + frameBytes)) → t.mem.read a = s.mem.read a

/-- Chunks stand at tiles of the module. -/
abbrev TilesExist (s : State) : Prop := ∀ c ∈ s.work.chunks, c.tile < 48

/-- No group stands and no chunk is bound. -/
abbrev IdleWork (s : State) : Prop := s.work.groups = [] ∧ s.work.chunks = [] ∧ s.pools.misfreed = []

/-- Every group is of one of the sixteen hoops. -/
abbrev GroupsOwned (s : State) : Prop := ∀ g : GroupNo, s.num (Obj.groupHoop g) < 16

/-- No group of the hoop has an operation that runs or is replayed. -/
abbrev QuietHoop (s : State) (h : Nat) : Prop := ∀ g ∈ s.groupsOf h, g < 4096 ∧ (s.group g).ops = [] ∧ (s.group g).redo = []

/-- The command has its effect: `exec` answers a next state, and `post` holds of it. -/
def Completes (c : Instr) (s : State) (post : State → Prop) : Prop := ∃ t, exec c s = .next t ∧ post t

/-- The requester has its answer: the slot's header, the response kept for the PDP session, the response queued for the peer (R407,
R413, R414). Hub firmware sees its own writes. -/
def Answered (rq : Requester) (status : Nat) (t : State) : Prop :=
  match rq with
  | .pcie slot tag _ =>
    let x := Map.get {} t.control.slots slot.val
    x.go = 3 ∧ x.status = status ∧ x.tag = tag.toNat
  | .pdp session seq => ∃ rest, ((Map.get {} t.control.pdp session.val).responses).head? = some (seq, leBytes 2 status ++ rest)
  | .peer w tag => ∃ r, (t.wale w).tx.queue.getLast? = some r ∧ r.payload.take 6 = beBytes 4 tag.toNat ++ beBytes 2 status
  | .hubFirmware => True

/-- The requester has its answer with its data (R403, R407, R413, R414): status, flags, the value's length, the bytes returned. -/
def Returned (rq : Requester) (status flags total : Nat) (data : Bytes) (t : State) : Prop :=
  match rq with
  | .pcie slot tag _ =>
    let x := Map.get {} t.control.slots slot.val
    x.go = 3 ∧ x.status = status ∧ x.tag = tag.toNat ∧ x.responseFlags = flags ∧ x.totalLength = total ∧ x.data = data
  | .pdp session seq =>
    ((Map.get {} t.control.pdp session.val).responses).head? = some (seq, responseBytes status flags total data)
  | .peer w tag => ∃ r, (t.wale w).tx.queue.getLast? = some r ∧
    r.payload = beBytes 4 tag.toNat ++ beBytes 2 status ++ beBytes 2 flags ++ beBytes 4 total ++ beBytes 4 0 ++ data
  | .hubFirmware => True

/-- Nothing changes but how the requester is served: its slot, its latched copy, the clocks of the blocks that serve it. Every object
beside `keys` and every byte of memory is kept, and so is the data of every engine. -/
def OnlyObjects (keys : List Nat) (s t : State) : Prop :=
  ObjectsKept keys s t ∧ t.pending = s.pending ∧ t.mem = s.mem ∧ t.freeCtr = s.freeCtr ∧ t.events = s.events ∧ t.boot = s.boot ∧ t.security = s.security ∧ t.meter = s.meter ∧
    t.time = s.time ∧ t.work = s.work ∧ t.pools = s.pools ∧ t.tiles = s.tiles ∧ t.fabric = s.fabric ∧ t.memory = s.memory ∧
    t.optics = s.optics ∧ t.net = s.net

/-- Nothing changes but objects, those of `keys`. -/
def ChangesObjects (keys : List Nat) (s t : State) : Prop := ObjectsKept keys s t ∧ { t with dict := s.dict } = s

/-- Nothing changes but the data of tile t, which becomes `y`. -/
def TileBecomes (s : State) (t : Nat) (y : TileData) (u : State) : Prop :=
  u.tile t = y ∧ (∀ j, j ≠ t → u.tile j = s.tile j) ∧ { u with tiles := s.tiles } = s

/-- Tile t runs a chunk, as `k` says, and its sequencer dispatches the instruction `w` of an opcode to a queue: no FENCE, CDONE or
exception waits, the word stands at the PC within the code, the queue has room, the fields pass the checks, no uncompleted instruction
writes an s register that it reads, and no head of a queue is one that would have completed (R110, R113, R116, R120). -/
structure Dispatches (s : State) (t : Tile) (op : Nat) (w : TileWord) (f : Fields) (queue : Option Nat) (k : Running) : Prop where
  runs : s.running t w = some k
  free : k.x.fenced = false ∧ k.x.ending = false ∧ k.x.trapped = none
  inCode : k.x.pc < codeCount k.x.image
  fetched : k.codeWord = tileWord op w
  room : ∀ q, queue = some q → (k.x.queue q).length < 16
  fields : f.ok w = true
  ready : k.x.awaits (f.sources op w) = false
  heads : ∀ q < 5, ∀ j rest, k.x.queue q = j :: rest → j.op.passes = false

/-- The event log shows the event: an entry of its code for the same hoop, unit and detail (R457, R458). -/
def Reported (code : Nat) (a : EventArgs) (t : State) : Prop :=
  ∃ e ∈ t.events.log, e.code = code ∧ e.hoop = a.hoop ∧ e.unit = a.unit ∧ e.detail = a.detail

/-- The objects that an event writes (R457–R459, R463), and the commit that a critical one starts (R422). -/
def Machine.eventKeys : List Nat :=
  [Obj.eventLogOverruns, Obj.eventLogNewest, Obj.eventLogOldest, Obj.eventUnacked, Obj.eventCriticalRecord, Obj.persistPending,
    Obj.persistCommandStatus]

/-- An event is entered, and beside it and what the log keeps nothing changes but objects of `keys`; memory does not. -/
def Logs (code : Nat) (a : EventArgs) (keys : List Nat) (s t : State) : Prop :=
  Reported code a t ∧ ObjectsKept (keys ++ eventKeys) s t ∧ t.mem = s.mem

/-- A run that never stops: every command of the queue has an effect and gives a next state. -/
def Runs (s : State) : Prop := ∀ n : Nat, ∃ t, Host.Core.run
  { State := State, Fault := Fault, Refusal := Refusal, step := step, reset := State.reset } n s = .next t

end Sys2Proof
end

