-- ==== Sys2Proof/Certificates/Slice0/Obligations.lean ====
section
/-! DEFINITION. The statements about the model, for the provers: the numbered rules of the spec, family by family. -/

open Sys2Proof Sys2Proof.Machine

/-- With a command at the front of the queue a step is exec of that command on the state with the rest of the queue. (00_scope.md) -/
def Obligations.StepRunsFrontCommand : Prop :=
  ∀ (c : Instr) (r : List Instr) (s : State), s.pending = c :: r → step s = exec c { s with pending := r }

/-- With no command waiting, a step answers a next state in which every time base that counts has advanced by its increment and
the others stand, only ProtectedOffset among the objects may change, and module memory and the engines' data are as before
(the model's choice, log entry 1). (R351, R356) -/
def Obligations.EmptyQueueTicks : Prop :=
  ∀ s : State, s.pending = [] → ∃ t, step s = .next t ∧ t.pending = [] ∧ t.mem = s.mem ∧ t.tiles = s.tiles ∧ t.work = s.work ∧
    t.pools = s.pools ∧ t.fabric = s.fabric ∧ t.net = s.net ∧ t.events = s.events ∧ ObjectsKept [Obj.protectedOffset] s t ∧
    ∀ b : Base, Map.get 0 t.time.acc b = Map.get 0 s.time.acc b + if s.ticking b then s.num (Obj.tbIncrement b) else 0

/-- From every state, a run of any number of steps answers a next state: no command ends in a fault or a refusal. (R404, R456) -/
def Obligations.NothingStopsTheBlock : Prop :=
  ∀ s : State, Runs s

/-- After reset the object store and module memory are in canonical form and the queue is empty. (R11, R175) -/
def Obligations.ResetIsCanonical : Prop :=
  Canonical State.reset ∧ State.reset.pending = [] ∧ (∀ a, State.reset.mem.read a = 0)

/-- After reset no object of the store differs from its default: hoops Empty with an autonomous window of 4, tiles owned by no
hoop, all pool frames free, wales with stakes of all lanes and a rejoin hold of 100, pairs at setting 4, lane resolution 8,
step triggers without a target, clock domains on source 1 but for CD03 on 3 and CD80 and CD82 on 4, no host, hoop or thermal
vote, mailboxes with their time-out and vector, start-up at stage 1; and the event log, the tiles and the queue are empty.
(R30, R105, R205, R252, R309, R310, R365, R381, R397, R424, R478) -/
def Obligations.ResetHoldsListedDefaults : Prop :=
  let num (k : Nat) := State.reset.num k
  (∀ k, State.reset.obj k = objDefault k) ∧ State.reset.events = {} ∧ State.reset.tiles = [] ∧ State.reset.pending = [] ∧
  (∀ h : Hoop, num (Obj.hoopState h) = 0 ∧ num (Obj.hoopAutonomousWindow h) = 4 ∧ num (Obj.stepTriggerTarget h) = 0xFFFF) ∧
  (∀ t : Tile, num (Obj.tileOwner t) = 0xFF) ∧
  num Obj.poolFramesTotal = 539072 ∧ num Obj.poolFramesFree = 539072 ∧ num Obj.sparesFree = 4 ∧ num Obj.startupStage = 1 ∧
  (∀ w : Wale, num (Obj.waleTxStakes w) = 0xFFFF ∧ num (Obj.waleRejoinHold w) = 100) ∧
  (∀ k : Pair, num (Obj.pairSetting k) = 4) ∧ (∀ k : Lane, num (Obj.lineLaneResolution k) = 8) ∧
  (∀ d : Domain, num (Obj.domainSource d) = (if d.val = 3 then 3 else if d.val = 80 ∨ d.val = 82 then 4 else 1) ∧ num (Obj.domainVoteHost d) = 0xFF ∧
    num (Obj.domainVoteHoop d) = 0xFF ∧ num (Obj.domainVoteThermal d) = 0xFF) ∧
  (∀ m : Mailbox, num (Obj.mailboxTimeout m) = 10000 ∧ num (Obj.mailboxVector m) = 4 + m.val % 60)

/-- From every state in canonical form, whatever command stands at the front of the queue, a step that answers a next state
answers one in canonical form. (R11, R175, R404) -/
def Obligations.EveryStepKeepsCanonicalForm : Prop :=
  ∀ s t : State, Canonical s → step s = .next t → Canonical t

/-- A write request on a path that is served, which fails one of checks 1 to 6, is answered with the status of the first that
fails and leaves every object (but PeerAccessRefusals of a peer without authority), module memory and every engine as they
were; on a path that is not served nothing happens at all. (R404, R415, R469) -/
def Obligations.RefusedRequestChangesNothing : Prop :=
  ∀ (s : State) (rq : Requester) (k : Nat) (v : Val) (token : Option Token) (effect : Effect),
    (s.serves rq = false → s.request rq k v token effect = s) ∧
    (s.serves rq = true → ∀ st, ((s.dropLatch rq k).touch k).writeStatus rq k v token = st → st ≠ St.ok →
      Answered rq st (s.request rq k v token effect) ∧
      OnlyObjects [Obj.peerAccessRefusals] s (s.request rq k v token effect) ∧
      ((∀ w tag, rq ≠ .peer w tag) → OnlyObjects [] s (s.request rq k v token effect)))

/-- A write to an object that does not exist, that the requester has no authority for, that is read-only, that is reservation-
bound in a hoop state that forbids it, that lacks its token, that has the wrong size or lies out of range is answered with the
status of R404 for the first of these that applies (an EvacuationTarget of a wrong size with ST_ACCESS_DENIED); otherwise it
passes. (R40, R399, R400, R402, R404, R433) -/
def Obligations.FirstFailingCheckDecides : Prop :=
  ∀ (s : State) (rq : Requester) (k : Nat) (v : Val) (token : Option Token),
    (findRow k = none → s.writeStatus rq k v token = St.accessDenied) ∧
    ∀ r i, findRow k = some (r, i) →
      (s.authorised rq k true = false → s.writeStatus rq k v token = St.accessDenied) ∧
      (s.authorised rq k true = true →
        (r.acc = .ro → s.writeStatus rq k v token = St.accessDenied) ∧
        (∀ h, r.acc = .rws → s.ownerHoop k = some h →
          s.num (Obj.hoopState h) ≠ 0 → s.num (Obj.hoopState h) ≠ 1 → s.num (Obj.hoopState h) ≠ 4 →
          s.writeStatus rq k v token = St.notPermittedInState) ∧
        (r.acc = .sig → s.num (Obj.domainState 6) ≠ 3 → token = none → s.writeStatus rq k v token = St.badSignature) ∧
        (r.acc = .rw → r.fits v = false → s.writeStatus rq k v token =
          if r.base = 0x2100 ∧ r.sub = 0x0B then St.accessDenied else St.lenExceeded) ∧
        (r.acc = .rw → r.fits v = true → r.inRange v = false → s.writeStatus rq k v token = St.accessDenied) ∧
        (r.acc = .rw → r.fits v = true → r.inRange v = true → s.writeStatus rq k v token = St.ok))

/-- Of a tile mask, a capacity and a context minimum for hoop h: a mask that is 0, sets a bit above 47 or shares a tile with
another non-Empty hoop fails with ST_BUSY; a capacity that with the other reservations exceeds what is available fails with
ST_CAPACITY_SHORTFALL and the excess; minima that do not fit fail with ST_CAPACITY_SHORTFALL. (R31, R32) -/
def Obligations.ReservationChecks : Prop :=
  ∀ (s : State) (h : Hoop) (mask capacity contexts : Nat),
    let tiles := mask ≠ 0 ∧ mask < 2 ^ 48 ∧
      ∀ x : Hoop, x ≠ h → s.num (Obj.hoopState x) ≠ 0 → mask &&& s.num (Obj.hoopTileMask x) = 0
    let need := s.reservedBeside h + capacity
    let minima := ((s.otherHoops h).map fun x => s.num (Obj.hoopContextMinimum x)).sum + contexts ≤ 65536 ∧
      s.backingFrames h ≤ capacity / frameBytes
    (¬ tiles → s.reserveCheck h mask capacity contexts = (St.busy, 0)) ∧
    (tiles → s.hoopMemoryAvailable < need →
      s.reserveCheck h mask capacity contexts = (St.capacityShortfall, need - s.hoopMemoryAvailable)) ∧
    (tiles → need ≤ s.hoopMemoryAvailable → ¬ minima → s.reserveCheck h mask capacity contexts = (St.capacityShortfall, 0)) ∧
    (tiles → need ≤ s.hoopMemoryAvailable → minima → s.reserveCheck h mask capacity contexts = (St.ok, 0))

/-- An accepted HoopCommand in a state that has a row for it takes the transition of the row and reports ST_OK in
HoopCommandStatus. Configure reserves and sets HoopFrameLimit, or reports the failing check; Admit binds the job and clears
AdmissionShortfall, or reports the shortfall in bytes; Start, Drain, Unbind and Release set the state that the table gives,
Start and Drain changing no other object beside the status, Release leaving the hoop Empty and without data. (R27, R29, R31,
R33, R43, R153, R197) -/
def Obligations.HoopCommandsTakeTheirTransitions : Prop :=
  (∀ (rq : Requester) (h : Hoop) (s : State), Accepts s rq (Obj.hoopCommand h) (.num 1) none → s.num (Obj.hoopState h) = 0 →
    let mask := s.num (Obj.hoopTileMask h)
    let capacity := s.num (Obj.hoopMemoryCapacity h)
    let contexts := s.num (Obj.hoopContextMinimum h)
    (s.reserveCheck h mask capacity contexts = (St.ok, 0) → Completes (.configure rq h) s fun t =>
      t.num (Obj.hoopState h) = 1 ∧ t.num (Obj.hoopFrameLimit h) = capacity / frameBytes ∧
      t.num (Obj.hoopCommandStatus h) = St.ok ∧ Answered rq St.ok t) ∧
    (∀ st excess, s.reserveCheck h mask capacity contexts = (st, excess) → st ≠ St.ok → Completes (.configure rq h) s fun t =>
      t.num (Obj.hoopState h) = 0 ∧ t.num (Obj.admissionShortfall h) = excess ∧ t.num (Obj.hoopCommandStatus h) = st ∧
      Answered rq St.ok t ∧ OnlyObjects [Obj.admissionShortfall h, Obj.hoopCommandStatus h] s t)) ∧
  (∀ (rq : Requester) (h : Hoop) (s : State), Accepts s rq (Obj.hoopCommand h) (.num 2) none → s.num (Obj.hoopState h) = 1 →
    (s.hoop h).plan ≠ [] → (s.hoop h).bound = false →
    let need := s.num (Obj.jobDeclaredMemory h)
    let capacity := s.num (Obj.hoopMemoryCapacity h)
    (capacity < need → Completes (.admitJob rq h) s fun t =>
      t.num (Obj.admissionShortfall h) = need - capacity ∧ t.num (Obj.hoopCommandStatus h) = St.capacityShortfall ∧
      OnlyObjects [Obj.admissionShortfall h, Obj.hoopCommandStatus h] s t) ∧
    (need ≤ capacity →
      planFrameCount (s.hoop h).plan + s.num (Obj.hoopBackingFrames h) + s.furtherFrames h ≤ s.num (Obj.hoopFrameLimit h) →
      Completes (.admitJob rq h) s fun t => (t.hoop h).bound = true ∧ (t.hoop h).plan = (s.hoop h).plan ∧
        t.num (Obj.admissionShortfall h) = 0 ∧ t.num (Obj.hoopState h) = 1 ∧ t.num (Obj.hoopCommandStatus h) = St.ok)) ∧
  (∀ (rq : Requester) (h : Hoop) (s : State), Accepts s rq (Obj.hoopCommand h) (.num 3) none →
    (s.num (Obj.hoopState h) = 4 ∨ s.num (Obj.hoopState h) = 1 ∧ (s.hoop h).bound = true ∧ s.slotsFilled h = true) →
    Completes (.start rq h) s fun t => t.num (Obj.hoopState h) = 2 ∧ t.num (Obj.hoopCommandStatus h) = St.ok ∧
      OnlyObjects [Obj.hoopState h, Obj.hoopCommandStatus h] s t) ∧
  (∀ (rq : Requester) (h : Hoop) (s : State), Accepts s rq (Obj.hoopCommand h) (.num 4) none → s.num (Obj.hoopState h) = 2 →
    Completes (.drain rq h) s fun t =>
      t.num (Obj.hoopState h) = (if s.num (Obj.hoopContextsInUse h) = 0 then 4 else 3) ∧
      t.num (Obj.hoopCommandStatus h) = St.ok ∧ OnlyObjects [Obj.hoopState h, Obj.hoopCommandStatus h] s t) ∧
  (∀ (rq : Requester) (h : Hoop) (s : State), Accepts s rq (Obj.hoopCommand h) (.num 6) none → s.num (Obj.hoopState h) = 4 →
    Completes (.unbind rq h) s fun t => t.num (Obj.hoopState h) = 1 ∧ (t.hoop h).bound = false ∧
      t.num (Obj.hoopMemoryCapacity h) = s.num (Obj.hoopMemoryCapacity h) ∧ t.num (Obj.hoopCommandStatus h) = St.ok) ∧
  (∀ (rq : Requester) (h : Hoop) (s : State), Accepts s rq (Obj.hoopCommand h) (.num 7) none →
    (s.num (Obj.hoopState h) = 1 ∨ (s.num (Obj.hoopState h) = 4 ∨ s.num (Obj.hoopState h) = 6) ∧ (s.hoop h).evacuation = none) →
    Completes (.release rq h) s fun t => t.num (Obj.hoopState h) = 0 ∧ t.hoop h = {} ∧
      t.num (Obj.hoopMemoryCapacity h) = 0 ∧ t.num (Obj.hoopCommandStatus h) = St.ok)

/-- An accepted HoopCommand that has no row for the hoop's current state answers ST_OK to the request, sets HoopCommandStatus to
ST_NOT_PERMITTED_IN_STATE, and changes nothing else. (R29) -/
def Obligations.HoopCommandWithoutARowIsRefused : Prop :=
  ∀ (rq : Requester) (h : Hoop) (s : State),
    let st := s.num (Obj.hoopState h)
    let refused (c : Instr) : Prop := Completes c s fun t => t.num (Obj.hoopCommandStatus h) = St.notPermittedInState ∧
      Answered rq St.ok t ∧ OnlyObjects [Obj.hoopCommandStatus h] s t
    (Accepts s rq (Obj.hoopCommand h) (.num 1) none → st ≠ 0 → refused (.configure rq h)) ∧
    (Accepts s rq (Obj.hoopCommand h) (.num 2) none → st ≠ 1 → refused (.admitJob rq h)) ∧
    (Accepts s rq (Obj.hoopCommand h) (.num 3) none → st ≠ 1 → st ≠ 4 → refused (.start rq h)) ∧
    (Accepts s rq (Obj.hoopCommand h) (.num 4) none → st ≠ 2 → refused (.drain rq h)) ∧
    (Accepts s rq (Obj.hoopCommand h) (.num 5) none → st ≠ 2 → st ≠ 4 → st ≠ 6 →
      (s.hoop h).evacuation = none → refused (.evacuate rq h)) ∧
    (Accepts s rq (Obj.hoopCommand h) (.num 6) none → st ≠ 4 → refused (.unbind rq h)) ∧
    (Accepts s rq (Obj.hoopCommand h) (.num 7) none → st ≠ 1 → st ≠ 4 → st ≠ 6 → refused (.release rq h))

/-- An accepted reservation write on an Empty hoop stores its value unchecked; a capacity that passes the checks of Configure and
covers the frames held becomes the reservation with its frame limit, a tile mask that drops a tile with a bound chunk or a
capacity below what is held is refused with ST_BUSY, each refusal leaving the object as it was. EvacuationTarget takes only 32
bytes with Kind 0 to 2. Evacuate on a Stopped or Faulted hoop starts the evacuation or reports what its target lacks;
completing, timing out and a peer's status end it with their status; a received manifest is answered on the same wale with its
status and digest. (R27, R32, R39, R40, R41, R206, R277) -/
def Obligations.ReservationWritesAndEvacuation : Prop :=
  (∀ (rq : Requester) (h : Hoop) (object : Reservation) (value : BitVec 64) (s : State),
    Accepts s rq (reservationKey h object) (.num value.toNat) none → s.num (Obj.hoopState h) = 0 →
    (∀ k c, object ≠ .pool k c) → Completes (.hoopReservationWrite rq h object value) s fun t =>
      t.num (reservationKey h object) = value.toNat ∧ Answered rq St.ok t ∧
      OnlyObjects [reservationKey h object, Obj.persistPending] s t) ∧
  (∀ (rq : Requester) (h : Hoop) (value : BitVec 64) (s : State),
    Accepts s rq (Obj.hoopMemoryCapacity h) (.num value.toNat) none → s.num (Obj.hoopState h) ≠ 0 →
    s.reserveCheck h (s.num (Obj.hoopTileMask h)) value.toNat (s.num (Obj.hoopContextMinimum h)) = (St.ok, 0) →
    (s.num (Obj.hoopFramesHeld h) * frameBytes ≤ value.toNat → Completes (.hoopReservationWrite rq h .memory value) s fun t =>
      t.num (Obj.hoopMemoryCapacity h) = value.toNat ∧ t.num (Obj.hoopFrameLimit h) = value.toNat / frameBytes ∧
      Answered rq St.ok t) ∧
    (value.toNat < s.num (Obj.hoopFramesHeld h) * frameBytes → Completes (.hoopReservationWrite rq h .memory value) s fun t =>
      Answered rq St.busy t ∧ OnlyObjects [] s t)) ∧
  (∀ (rq : Requester) (h : Hoop) (value : BitVec 64) (s : State),
    Accepts s rq (Obj.hoopTileMask h) (.num value.toNat) none → s.num (Obj.hoopState h) ≠ 0 →
    s.reserveCheck h value.toNat (s.num (Obj.hoopMemoryCapacity h)) (s.num (Obj.hoopContextMinimum h)) = (St.ok, 0) →
    s.losesBoundTile h value.toNat = true → Completes (.hoopReservationWrite rq h .tiles value) s fun t =>
      Answered rq St.busy t ∧ OnlyObjects [] s t) ∧
  (∀ (rq : Requester) (h : Hoop) (value : Bytes) (s : State), Accepts s rq (Obj.evacuationTarget h) (.blob value) none →
    (value.length = 32 → targetKind value ≤ 2 → Completes (.evacuationTargetWrite rq h value) s fun t =>
      t.obj (Obj.evacuationTarget h) = .blob value ∧ Answered rq St.ok t ∧
      OnlyObjects [Obj.evacuationTarget h, Obj.persistPending] s t) ∧
    (value.length ≠ 32 ∨ 2 < targetKind value → Completes (.evacuationTargetWrite rq h value) s fun t =>
      Answered rq St.accessDenied t ∧ OnlyObjects [] s t)) ∧
  (∀ (rq : Requester) (h : Hoop) (s : State), Accepts s rq (Obj.hoopCommand h) (.num 5) none →
    (s.hoop h).evacuation = none → (s.num (Obj.hoopState h) = 4 ∨ s.num (Obj.hoopState h) = 6) →
    (s.evacuationCheck h = St.ok → Completes (.evacuate rq h) s fun t => (t.hoop h).evacuation.isSome = true ∧
      t.num (Obj.evacuationStatus h) = St.busy ∧ t.num (Obj.evacuationBytesWritten h) = 0 ∧
      t.num (Obj.hoopState h) = s.num (Obj.hoopState h) ∧ t.num (Obj.hoopCommandStatus h) = St.ok) ∧
    (s.evacuationCheck h ≠ St.ok → Completes (.evacuate rq h) s fun t => (t.hoop h).evacuation = none ∧
      t.num (Obj.evacuationStatus h) = s.evacuationCheck h ∧ t.mem = s.mem)) ∧
  (∀ (h : Hoop) (e : Evacuation) (s : State), (s.hoop h).evacuation = some e → OwnPlan s h → Completes (.evacuationComplete h) s fun t =>
    t.num (Obj.evacuationBytesWritten h) = s.evacuationLength h ∧ t.mem = s.mem ∧
    (e.toPeer = false → (t.hoop h).evacuation = none ∧ t.num (Obj.evacuationStatus h) = St.ok) ∧
    (e.toPeer = true → t.num (Obj.evacuationStatus h) = s.num (Obj.evacuationStatus h))) ∧
  (∀ (h : Hoop) (s : State), (s.hoop h).evacuation.isSome = true → Completes (.evacuationTimeout h) s fun t =>
    (t.hoop h).evacuation = none ∧ t.num (Obj.evacuationStatus h) = St.timeout ∧
    ObjectsKept [Obj.evacuationStatus h, Obj.evacuationBytesWritten h] s t ∧ t.mem = s.mem) ∧
  (∀ (w : Wale) (n : SessionNo) (parts : List Bytes) (manifest : Bytes) (s : State), (s.session w n).state = 2 → (s.session w n).hoop < 16 →
    let h := (s.session w n).hoop
    let status := if !s.mayTake h (s.session w n).planHash then St.notPermittedInState
      else if !digestsMatch parts manifest then St.uncorrectable else St.ok
    OwnPlan s h → Completes (.evacuationReceived w n parts manifest) s fun t =>
      (∃ r, (t.wale w).tx.queue = (s.wale w).tx.queue ++ [r] ∧ r.vc = 3 ∧ r.session = n.val ∧
        r.payload = beBytes 2 status ++ sha3Bytes manifest) ∧
      (status ≠ St.ok → t.mem = s.mem ∧ t.dict = s.dict) ∧
      (status = St.ok → s.num (Obj.shadowState h) = 1 → t.num (Obj.shadowState h) = 2 ∧
        t.num (Obj.outerStepCounter h) = (field (parts.getD 0 []) 8 4 + 1) % 2 ^ 32)) ∧
  (∀ (w : Wale) (n : SessionNo) (payload : Bytes) (s : State), (s.session w n).state = 2 → (s.session w n).hoop < 16 →
    let h := (s.session w n).hoop
    (s.hoop h).evacuation.any Evacuation.toPeer = true → Completes (.evacuationStatusReceived w n payload) s fun t =>
      (t.hoop h).evacuation = none ∧ t.num (Obj.evacuationStatus h) = beNat (payload.take 2) ∧
      (beNat (payload.take 2) = St.ok → (t.hoop h).shadow = some (s.wale w).handshake.peerAddress) ∧
      ObjectsKept [Obj.evacuationStatus h] s t ∧ t.mem = s.mem)

/-- Create of a group whose definition passes the checks of R493 opens it with the definition's hoop, kind, epoch, first sequence,
depth and members and a Queue window; Reform that passes takes the new epoch and membership; Delete leaves the group Free and
without data. A command whose check fails reports the check's status in GroupCommandStatus and changes nothing else. (R37,
R46, R47, R217, R493) -/
def Obligations.GroupsOpenReformAndClose : Prop :=
  (∀ (rq : Requester) (g : GroupNo) (s : State), Accepts s rq (Obj.groupCommand g) (.num 1) none →
    let d := groupDef (s.bytes (Obj.groupDefinition g))
    (s.createStatus g = St.ok → Completes (.groupCreate rq g) s fun t =>
      t.num (Obj.groupState g) = 1 ∧ t.num (Obj.groupHoop g) = d.hoop ∧ t.num (Obj.groupKind g) = d.kind ∧
      t.num (Obj.groupEpoch g) = d.epoch ∧ t.num (Obj.groupNextSequence g) = d.first ∧
      t.num (Obj.groupQueueDepth g) = d.depth ∧ (t.group g).members = d.members ∧
      t.num (Obj.windowState (t.num (Obj.groupQueueWindow g))) = 3 ∧ t.num (Obj.groupCommandStatus g) = St.ok ∧
      Answered rq St.ok t) ∧
    (s.createStatus g ≠ St.ok → Completes (.groupCreate rq g) s fun t =>
      t.num (Obj.groupCommandStatus g) = s.createStatus g ∧ OnlyObjects [Obj.groupCommandStatus g] s t)) ∧
  (∀ (rq : Requester) (g : GroupNo) (s : State), Accepts s rq (Obj.groupCommand g) (.num 2) none →
    let d := groupDef (s.bytes (Obj.groupDefinition g))
    (s.reformStatus g = St.ok → Completes (.groupReform rq g) s fun t =>
      t.num (Obj.groupEpoch g) = d.epoch ∧ (t.group g).members = d.members ∧ t.num (Obj.groupCommandStatus g) = St.ok ∧
      (s.producer g = s.consumer g → t.num (Obj.groupNextSequence g) = d.first)) ∧
    (s.reformStatus g ≠ St.ok → Completes (.groupReform rq g) s fun t =>
      t.num (Obj.groupCommandStatus g) = s.reformStatus g ∧ OnlyObjects [Obj.groupCommandStatus g] s t)) ∧
  (∀ (rq : Requester) (g : GroupNo) (s : State), Accepts s rq (Obj.groupCommand g) (.num 3) none →
    (s.num (Obj.groupState g) ≠ 0 → Completes (.groupDelete rq g) s fun t =>
      t.num (Obj.groupState g) = 0 ∧ t.group g = {} ∧ t.num (Obj.groupQueueWindow g) = 0xFFFF ∧
      t.num (Obj.groupCommandStatus g) = St.ok) ∧
    (s.num (Obj.groupState g) = 0 → Completes (.groupDelete rq g) s fun t =>
      t.num (Obj.groupCommandStatus g) = St.notPermittedInState ∧ OnlyObjects [Obj.groupCommandStatus g] s t))

/-- A doorbell of a queue pair of the group's hoop sets the producer index, unless it would overrun the ring, when it is discarded
and reported; an entry that cannot be read leaves the consumer index where it is; a doorbell of another queue pair, or of a
window no group has, does nothing. An accepted HostSubmit of a whole descriptor into a ring with room advances the producer
index by its entries; without room it reports ST_BUSY. A context that falls free goes to the group that has waited longest:
its descriptor that passes the checks becomes a Queued operation. (R48, R49, R50, R55, R60, R61, R184) -/
def Obligations.QueuesAndContexts : Prop :=
  (∀ (q : Qp) (w : Window) (value : BitVec 32) (s : State),
    (s.groupOfWindow w = none → exec (.queueDoorbell q w value) s = .next s) ∧
    ∀ g, s.groupOfWindow w = some g →
      (((s.qp q).bound = false ∨ (s.qp q).hoop ≠ s.hoopOfGroup g) → exec (.queueDoorbell q w value) s = .next s) ∧
      ((s.qp q).bound = true → (s.qp q).hoop = s.hoopOfGroup g →
        let ahead := (value.toNat % 2 ^ 16 + 2 ^ 16 - s.consumer g) % 2 ^ 16
        (s.num (Obj.groupQueueDepth g) < ahead → Completes (.queueDoorbell q w value) s fun t =>
          t.num (Obj.groupQueueIndices g) = s.num (Obj.groupQueueIndices g) ∧ t.work = s.work ∧
          Reported Ev.queueOverrun { hoop := s.hoopOfGroup g, unit := g } t) ∧
        (ahead ≤ s.num (Obj.groupQueueDepth g) → Completes (.queueDoorbell q w value) s fun t =>
          t.producer g = value.toNat % 2 ^ 16 ∧ (s.badSlots g 1 ≠ [] → t.consumer g = s.consumer g)))) ∧
  (∀ (rq : Requester) (data : Bytes) (s : State), Accepts s rq Obj.hostSubmit (.blob data) none →
    let g := field data 0 2
    let ext := field data 15 1 % 16
    let used := (s.producer g + 2 ^ 16 - s.consumer g) % 2 ^ 16
    g < 4096 → ext ≤ 4 → data.length = 2 + 64 * (1 + ext) → s.num (Obj.groupState g) ≠ 0 →
    (used + (1 + ext) ≤ s.num (Obj.groupQueueDepth g) → Completes (.hostSubmit rq data) s fun t =>
      t.producer g = (s.producer g + (1 + ext)) % 2 ^ 16 ∧ t.num Obj.hostSubmitStatus = St.ok ∧ Answered rq St.ok t) ∧
    (s.num (Obj.groupQueueDepth g) < used + (1 + ext) → Completes (.hostSubmit rq data) s fun t =>
      t.num Obj.hostSubmitStatus = St.busy ∧ OnlyObjects [Obj.hostSubmitStatus] s t)) ∧
  (∀ (g : GroupNo) (s : State),
    (s.longestWaiting g = false ∨ s.contextSource g = none → exec (.contextGranted g) s = .next s) ∧
    (let slots := 1 + dExtSlots (s.ringSlot g (s.consumer g))
      let d := (List.range slots).flatMap fun i => s.ringSlot g (s.consumer g + i)
      s.longestWaiting g = true → (s.contextSource g).isSome = true → s.isSmall g = false → slots ≤ 5 →
      (s.producer g + 2 ^ 16 - s.consumer g) % 2 ^ 16 = slots → 0 < s.num (Obj.groupQueueDepth g) →
      s.descriptorStatus g d = St.ok → s.badSlots g slots = [] → Completes (.contextGranted g) s fun t =>
        (∃ o, (t.group g).ops = (s.group g).ops ++ [o] ∧ o.seq = dSequence d ∧ o.desc = d ∧ o.phase = 0) ∧
        (t.group g).waiting = none ∧ t.consumer g = t.producer g ∧
        t.num (Obj.groupNextSequence g) = (s.num (Obj.groupNextSequence g) + 1) % 2 ^ 32))

/-- A Queued operation whose predecessor condition holds goes to Running with the step that the hoop's counter shows, beyond the
autonomous window its hoop enters Split instead; a chunk that has ended without a pending result joins the operation's done
chunks, and the last one ends a lone operation; input that has landed again ends the resupply, its time-out ends a lone
operation; a lost member breaks each of its groups that no cut-off covers and ends its operations; a contribution is held once
per member and ends a lone Barrier that then has all; a peer's latest digest is kept, a mismatch stands until every peer
agrees, and a digest that differs is reported. (R57, R63, R68, R70, R84, R331, R340, R342, R495) -/
def Obligations.OperationsRunAndEnd : Prop :=
  (∀ (g : GroupNo) (seq : BitVec 32) (o : Operation) (s : State), s.operation g seq.toNat = some o → o.phase = 0 →
    o.ending = none → s.mayRun g o = true → s.stepOpen (s.hoopOfGroup g) = true →
    (s.beyondWindow (s.hoopOfGroup g) = false → s.memory.bad = [] →
      (s.isSmall g = false ∨ (s.group g).contributions = [] ∧
        (s.group g).members.any (fun m => m != s.ownAddress (s.hoopOfGroup g)) = true) → Completes (.operationRun g seq) s fun t =>
      t.operation g seq.toNat = some { o with
        phase := 1, step := s.num (Obj.outerStepCounter (s.hoopOfGroup g))
        side := if s.num (Obj.partitionState (s.hoopOfGroup g)) = 1 then s.num (Obj.partitionSide (s.hoopOfGroup g)) else 0xFFFF } ∧
      t.mem = s.mem ∧ t.tiles = s.tiles) ∧
    (s.beyondWindow (s.hoopOfGroup g) = true → s.num (Obj.hoopState (s.hoopOfGroup g)) = 2 →
      Completes (.operationRun g seq) s fun t => t.num (Obj.hoopState (s.hoopOfGroup g)) = 5 ∧
        t.num (Obj.partitionState (s.hoopOfGroup g)) = 3 ∧ t.operation g seq.toNat = some o)) ∧
  (∀ (g : GroupNo) (seq chunk : BitVec 32) (o : Operation) (c : Chunk) (s : State), s.operation g seq.toNat = some o →
    o.phase = 1 → o.ending = none → s.chunk (g.val, seq.toNat, chunk.toNat) = some c → c.phase = 3 →
    o.done.contains chunk.toNat = false → s.resultPending g seq.toNat chunk.toNat = false → s.pools.misfreed = [] →
    (∀ l ∈ s.work.landings, l.chunk = chunk.toNat → l.buffers = []) →
    (∀ x ∈ s.work.streams, x.group = g.val → x.seq = seq.toNat → x.buffers = []) →
    (dFlag o.desc 0 = false ∨ s.recordUsable g o.desc recChunkDone = true) →
    (o.done.length + 1 < (s.workChunks g o).length → Completes (.chunkDone g seq chunk) s fun t =>
      t.operation g seq.toNat = some { o with done := o.done ++ [chunk.toNat] }) ∧
    ((s.workChunks g o).length = o.done.length + 1 → (s.group g).ops = [o] → (s.group g).redo = [] →
      Completes (.chunkDone g seq chunk) s fun t => (t.group g).ops = [])) ∧
  (∀ (g : GroupNo) (seq chunk : BitVec 32) (o : Operation) (c : Chunk) (s : State), s.operation g seq.toNat = some o →
    s.chunk (g.val, seq.toNat, chunk.toNat) = some c → c.resupply = true → s.slotsComplete g o chunk.toNat = true →
    Completes (.resupplyLanded g seq chunk) s fun t =>
      t.chunk (g.val, seq.toNat, chunk.toNat) = some { c with resupply := false } ∧ { t with work := s.work } = s) ∧
  (∀ (g : GroupNo) (seq chunk : BitVec 32) (o : Operation) (c : Chunk) (s : State),
    s.chunk (g.val, seq.toNat, chunk.toNat) = some c → c.resupply = true → (s.group g).ops = [o] → (s.group g).redo = [] →
    o.seq = seq.toNat → o.ending = none → Completes (.resupplyTimeout g seq chunk) s fun t =>
      (t.group g).ops = []) ∧
  (∀ (member : FabAddr) (g : GroupNo) (s : State), s.num (Obj.groupState g) = 1 →
    (s.group g).members.contains member.toNat = true → s.cutOff (s.hoopOfGroup g) (siteOf member.toNat) = false →
    Completes (.memberLost member) s fun t => t.num (Obj.groupState g) = 2 ∧ (t.group g).ops = []) ∧
  (∀ (g : GroupNo) (member : FabAddr) (epoch seq : BitVec 32) (opcode elementType reduceOp : BitVec 8)
    (elementCount : BitVec 48) (payload : Bytes) (s : State),
    let c : Contribution := ⟨member.toNat, seq.toNat, epoch.toNat % 256, opcode.toNat, elementType.toNat, reduceOp.toNat,
      elementCount.toNat, payload⟩
    let dup := (s.group g).contributions.any fun y => y.member == c.member && y.seq == c.seq && y.epoch == c.epoch
    let run := Instr.smallContributionReceived g member epoch seq opcode elementType reduceOp elementCount payload
    (s.num (Obj.groupState g) = 0 ∨ dup = true ∨ s.segmentFate g c.epoch c.seq = .gone ∨
      (s.group g).members.contains member.toNat = false → exec run s = .next s) ∧
    (s.num (Obj.groupState g) ≠ 0 → dup = false → s.segmentFate g c.epoch c.seq ≠ .gone →
      (s.group g).members.contains member.toNat = true → s.operation g seq.toNat = none → Completes run s fun t =>
        t.group g = { s.group g with contributions := (s.group g).contributions ++ [c] } ∧ { t with work := s.work } = s) ∧
    (s.num (Obj.groupState g) ≠ 0 → dup = false → s.segmentFate g c.epoch c.seq ≠ .gone →
      (s.group g).members.contains member.toNat = true →
      ∀ o, (s.group g).ops = [o] → (s.group g).redo = [] → o.seq = seq.toNat → o.phase = 1 → o.ending = none →
      let s1 := s.setGroup g { s.group g with contributions := (s.group g).contributions ++ [c] }
      (s1.contributionsOf g o).any (fun y => y.four != fourOf o.desc) = false → (s1.allPayloads g o).isSome = true →
      s.resultPending g seq.toNat 0 = false → dOpcode o.desc = 5 → Completes run s fun t => (t.group g).ops = [])) ∧
  (∀ (g : GroupNo) (peer : FabAddr) (digest : Bytes) (version : BitVec 32) (s : State),
    let bad := digest ≠ s.reproDigest (s.hoopOfGroup g) ∨ version.toNat ≠ s.num Obj.arithmeticVersion
    (s.num (Obj.groupState g) = 0 ∨ (s.group g).members.contains peer.toNat = false →
      exec (.reproDigestReceived g peer digest version) s = .next s) ∧
    (s.num (Obj.groupState g) ≠ 0 → (s.group g).members.contains peer.toNat = true →
      Completes (.reproDigestReceived g peer digest version) s fun t =>
        (peer.toNat, digest, version.toNat) ∈ (t.group g).heard ∧
        (∀ m ∈ (t.group g).heard, m.1 = peer.toNat → m = (peer.toNat, digest, version.toNat)) ∧
        (t.group g).stands = (((s.group g).stands || decide bad) && !t.allAgree g) ∧
        (¬ bad → t.events = s.events) ∧
        (bad → Reported Ev.reproMismatch { hoop := s.hoopOfGroup g, unit := g, detail := peer.toNat } t)))

/-- A sample shows the highest of the four readings; at 110.0 °C the tile trips, above 100.0 °C it drops its clock and is
Excluded; a cool tile returns after its hold to Idle or Busy, and a cool Unowned or Faulted one loses its divided clock. The
next bindable chunk is bound to a free zone of the tile that the rule of R95 chooses; the earliest bound chunk whose slots are
complete runs from its entry point. An uncorrectable tile-store word in landed input loses that input, whose chunk then waits
for it again; any other fault, a hang and OutOfService make the tile Faulted with their cause; Test runs on an Unowned or
Faulted tile, and its end returns the tile or makes it Faulted with cause 8. (R94, R98, R99, R100, R101, R102, R103, R104,
R105, R106, R494) -/
def Obligations.TilesBindRunAndLeaveService : Prop :=
  (∀ (t : Tile) (r0 r1 r2 r3 : Int) (s : State),
    let sleep := s.num (Obj.domainSleepState (tileDomain t))
    let highest := max (max r0 r1) (max r2 r3)
    let st := s.num (Obj.tileState t)
    let run := Instr.tileSensorSample t r0 r1 r2 r3
    let before := (s.tile t).samples
    let cooler := ∀ b, before.head? = some b → ∀ r ∈ b, r < 1150
    (sleep = 5 ∨ sleep = 6 → exec run s = .next s) ∧
    (sleep ≠ 5 → sleep ≠ 6 → -2147483648 ≤ highest → highest < 2147483648 → cooler →
      (highest ≤ 1000 → (∀ b, before[9]? = some b → ∀ i : Nat, i < 4 → [r0, r1, r2, r3].getD i 0 - b.getD i 0 ≤ 50) →
        Completes run s fun u => u.int (Obj.tileTemperatureMax t) = highest ∧ u.num (Obj.tileState t) = st ∧
          u.num (Obj.tileTrips t) = s.num (Obj.tileTrips t) ∧ u.events = s.events ∧ u.mem = s.mem) ∧
      (1000 < highest → highest < 1100 → st = 1 ∨ st = 2 → s.flag (Obj.tileClockDivided t) = false →
        Completes run s fun u => u.int (Obj.tileTemperatureMax t) = highest ∧ u.num (Obj.tileState t) = 3 ∧
          u.num (Obj.tileFastDrops t) = (s.num (Obj.tileFastDrops t) + 1) % 2 ^ 32) ∧
      (1100 ≤ highest → st = 1 ∨ st = 2 ∨ st = 3 → Completes run s fun u =>
        u.int (Obj.tileTemperatureMax t) = highest ∧ u.num (Obj.tileState t) = 4 ∧
          u.num (Obj.tileTrips t) = (s.num (Obj.tileTrips t) + 1) % 2 ^ 32))) ∧
  (∀ (t : Tile) (s : State),
    let cool := ((s.tile t).samples.head?).all fun l => l.all fun r => decide (r < 950)
    (cool = false → exec (.tileReturnHoldExpiry t) s = .next s) ∧
    (cool = true → s.num (Obj.tileState t) = 3 ∨ s.num (Obj.tileState t) = 4 → Completes (.tileReturnHoldExpiry t) s fun u =>
      u.num (Obj.tileState t) = (if (s.tile t).held = [] then 1 else 2) ∧ u.power.returning.contains t.val = true ∧
      u.mem = s.mem) ∧
    (cool = true → s.num (Obj.tileState t) = 0 ∨ s.num (Obj.tileState t) = 5 → Completes (.tileReturnHoldExpiry t) s fun u =>
      u.num (Obj.tileState t) = s.num (Obj.tileState t) ∧ u.flag (Obj.tileClockDivided t) = false ∧ u.mem = s.mem)) ∧
  (∀ (h : Hoop) (s : State),
    (s.nextBinding h = none → exec (.chunkBind h) s = .next s) ∧
    ∀ g o i tile zone, s.nextBinding h = some (g, o, i) → s.chooseTile (s.hoopOfGroup g) = some tile →
      (s.tile tile).freeZone = some zone → s.memory.bad = [] →
      FreesWell s (s.hoopOfGroup g) ((s.exchange g o.seq i).buffers ++
        ((s.landing (dSourceWindow o.desc) o.generation i).toList.flatMap fun l => l.buffers.map Prod.snd)) →
      Completes (.chunkBind h) s fun u =>
        (u.tile tile).zone zone = some (g, o.seq, i) ∧
        ∃ c, u.chunk (g, o.seq, i) = some c ∧ c.phase = 1 ∧ c.tile = tile ∧ c.zone = zone ∧ c.image = s.chunkImage g o i) ∧
  (∀ (t : Tile) (s : State),
    (s.waitingChunk t = none → exec (.chunkStart t) s = .next s) ∧
    ∀ c, s.waitingChunk t = some c →
      (s.mayStart t c = false → exec (.chunkStart t) s = .next s) ∧
      (s.mayStart t c = true → s.memory.bad = [] → OwnPlan s (s.hoopOfGroup c.group) → s.num (Obj.hoopState (s.hoopOfGroup c.group)) ≠ 6 →
        Completes (.chunkStart t) s fun u => (u.tile t).running = some c.key ∧ (u.tile t).pc = field c.image 28 2 ∧
          (u.tile t).s = [] ∧ (u.tile t).queues = [] ∧ (u.tile t).image = c.image ∧
          u.chunk c.key = some { c with phase := 2 })) ∧
  (∀ (t : Tile) (cause : BitVec 8) (address : BitVec 23) (readable : Bool) (s : State),
    (s.num (Obj.tileState t) = 5 → exec (.tileFault t cause address readable) s = .next s) ∧
    (s.num (Obj.tileState t) ≠ 5 → cause ≠ 1 ∨ s.landedAt t address.toNat = none →
      Completes (.tileFault t cause address readable) s fun u =>
        u.num (Obj.tileState t) = 5 ∧ u.num (Obj.tileFaultCause t) = cause.toNat) ∧
    ∀ c o, s.num (Obj.tileState t) ≠ 5 → cause = 1 → s.landedAt t address.toNat = some c → s.operation c.group c.seq = some o →
      s.pools.misfreed = [] → (∀ l ∈ s.work.landings, l.chunk = c.index → l.buffers = []) →
      s.recordUsable c.group o.desc recChunkNotice = true → Completes (.tileFault t cause address readable) s fun u =>
        u.chunk c.key = some { c with resupply := true, phase := if c.phase = 2 then 1 else c.phase } ∧
        u.num (Obj.tileState t) = s.num (Obj.tileState t)) ∧
  (∀ (t : Tile) (s : State),
    let stuck := (s.tile t).queues.any fun q => q.2.head?.any fun j => !j.op.waits
    ((s.tile t).running = none ∨ stuck = false → exec (.sequencerHangTimeout t) s = .next s) ∧
    ((s.tile t).running.isSome = true → stuck = true → s.num (Obj.tileState t) ≠ 5 →
      Completes (.sequencerHangTimeout t) s fun u => u.num (Obj.tileState t) = 5 ∧ u.num (Obj.tileFaultCause t) = 6)) ∧
  (∀ (rq : Requester) (t : Tile) (s : State), Accepts s rq (Obj.tileCommand t) (.num 1) none →
    let st := s.num (Obj.tileState t)
    ((s.tile t).testing = false → st = 0 ∨ st = 5 → Completes (.tileTest rq t) s fun u =>
      u.tile t = { s.tile t with testing := true } ∧ u.num (Obj.tileCommandStatus t) = St.busy ∧ Answered rq St.ok u ∧
      ObjectsKept [Obj.tileCommandStatus t] s u) ∧
    ((s.tile t).testing = false → st ≠ 0 → st ≠ 5 → Completes (.tileTest rq t) s fun u =>
      u.num (Obj.tileCommandStatus t) = St.notPermittedInState ∧ OnlyObjects [Obj.tileCommandStatus t] s u)) ∧
  (∀ (rq : Requester) (t : Tile) (s : State), Accepts s rq (Obj.tileCommand t) (.num 2) none → (s.tile t).testing = false →
    (s.num (Obj.tileState t) = 5 → Completes (.tileOutOfService rq t) s fun u =>
      u.num (Obj.tileCommandStatus t) = St.notPermittedInState ∧ OnlyObjects [Obj.tileCommandStatus t] s u) ∧
    (s.num (Obj.tileState t) ≠ 5 → Completes (.tileOutOfService rq t) s fun u => u.num (Obj.tileState t) = 5 ∧
      u.num (Obj.tileFaultCause t) = 7 ∧ u.num (Obj.tileCommandStatus t) = St.ok)) ∧
  (∀ (t : Tile) (pass : Bool) (s : State),
    ((s.tile t).testing = false → exec (.tileSelfTestDone t pass) s = .next s) ∧
    ((s.tile t).testing = true → Completes (.tileSelfTestDone t pass) s fun u =>
      (u.tile t).testing = false ∧ (u.tile t).store = [] ∧ u.mem = s.mem ∧
      (pass = true → u.num (Obj.tileCommandStatus t) = St.ok ∧ (s.num (Obj.tileState t) = 5 →
        u.num (Obj.tileState t) = (if s.num (Obj.tileOwner t) < 16 then 1 else 0) ∧ u.num (Obj.tileFaultCause t) = 0)) ∧
      (pass = false → u.num (Obj.tileState t) = 5 ∧ u.num (Obj.tileFaultCause t) = 8)))

/-- Dispatched on a tile, each scalar ALU instruction writes s[D] (s0 discards it) from s[A] and op2 = s[B] plus the sign-extended
immediate, as 64-bit arithmetic, moves the PC on, completes behind what stands in the scalar queue, and changes nothing else
of the tile, of any other tile or of the module; LIH sets the upper half of s[D]. (R122) -/
def Obligations.ScalarArithmetic : Prop :=
  (∀ (t : Tile) (x : TileWord) (s : State) (k : Running),
    let a := BitVec.ofNat 64 k.sa
    let b := BitVec.ofNat 64 k.sb + x.imm.signExtend 64
    let sets (op : Nat) (c : Instr) (v : BitVec 64) : Prop := Dispatches s t op x aluFields (some 0) k →
      Completes c s (TileBecomes s t (((k.x.setS x.d.toNat v.toNat).advance k.x.pc).behind (some 0) {} x.d.toNat))
    sets 0x10 (.addS t x) (a + b) ∧ sets 0x11 (.subS t x) (a - b) ∧ sets 0x12 (.mulS t x) (a * b) ∧
    sets 0x13 (.mulhu t x) (((a.zeroExtend 128 * b.zeroExtend 128) >>> 64).truncate 64) ∧
    sets 0x14 (.andS t x) (a &&& b) ∧ sets 0x15 (.orS t x) (a ||| b) ∧ sets 0x16 (.xorS t x) (a ^^^ b) ∧
    sets 0x17 (.shl t x) (a <<< (b.toNat % 64)) ∧ sets 0x18 (.shr t x) (a >>> (b.toNat % 64)) ∧
    sets 0x19 (.sra t x) (a.sshiftRight (b.toNat % 64)) ∧
    sets 0x1A (.sltu t x) (if a.ult b then 1 else 0) ∧ sets 0x1B (.slt t x) (if a.slt b then 1 else 0) ∧
    sets 0x1C (.seq t x) (if a = b then 1 else 0)) ∧
  (∀ (t : Tile) (x : TileWord) (s : State) (k : Running),
    Dispatches s t 0x1D x { d := .s, imm := immAll } (some 0) k → Completes (.lih t x) s
      (TileBecomes s t (((k.x.setS x.d.toNat (x.imm ++ BitVec.ofNat 32 k.sd).toNat).advance k.x.pc).behind (some 0) {} x.d.toNat)))

/-- Dispatched on a tile, AMOV, AADD, SMOVA and CTX move their values, SLD and SST access the tile store at an 8-aligned address
that R108 permits and R111 does not interlock, and the FP32 instructions write their result to s[D][31:0] with zeros above;
each moves the PC on, completes behind what stands in the scalar queue and changes nothing else. (R107, R108, R123) -/
def Obligations.AddressAndScalarFloat : Prop :=
  ∀ (t : Tile) (x : TileWord) (s : State) (k : Running),
    let goes (f : Footprint) (target : Nat) (c : Instr) (y : TileData) : Prop :=
      Completes c s (TileBecomes s t ((y.advance k.x.pc).behind (some 0) f target))
    let scalar (op : Nat) (f : Fields) (c : Instr) (v : Nat) : Prop :=
      Dispatches s t op x f (some 0) k → goes {} x.d.toNat c (k.x.setS x.d.toNat v)
    let imm := x.imm.signExtend 64
    let ea := (BitVec.ofNat 64 k.ta + imm).toNat
    (Dispatches s t 0x20 x { d := .a, a := .s, imm := immAll } (some 0) k →
      goes {} 0 (.amov t x) (k.x.setA x.d.toNat (BitVec.ofNat 64 k.sa + imm).toNat)) ∧
    (Dispatches s t 0x21 x { d := .a, a := .a, b := .s, imm := immAll } (some 0) k →
      goes {} 0 (.aadd t x) (k.x.setA x.d.toNat (BitVec.ofNat 64 k.aa + BitVec.ofNat 64 k.sb + imm).toNat)) ∧
    scalar 0x22 { d := .s, a := .a } (.smova t x) k.aa ∧
    (Dispatches s t 0x23 x { d := .s, a := .a, imm := immAll } (some 0) k →
      ea % 8 = 0 → k.x.interlocked 0 { reads := (ea, ea + 8) } = false → k.readFault (ea, ea + 8) = none →
      goes { reads := (ea, ea + 8) } x.d.toNat (.sld t x) (k.x.setS x.d.toNat (leNat (k.x.read ea 8)))) ∧
    (Dispatches s t 0x24 x { a := .a, b := .s, imm := immAll } (some 0) k →
      ea % 8 = 0 → k.x.interlocked 0 { writes := (ea, ea + 8) } = false → k.writeFault (ea, ea + 8) = none →
      goes { writes := (ea, ea + 8) } 0 (.sst t x) ((k.x.define (ea, ea + 8)).write ea (leBytes 8 k.sb))) ∧
    (∀ v, k.context (x.imm.toNat % 256) = some (some v) → scalar 0x25 { d := .s, a := .s, imm := 0xFF } (.ctx t x) v) ∧
    scalar 0x26 { d := .s, a := .s, b := .s } (.fadd t x) (addFp32 (k.sa % 2 ^ 32) (k.sb % 2 ^ 32)) ∧
    scalar 0x27 { d := .s, a := .s, b := .s } (.fmul t x) (mulFp32 (k.sa % 2 ^ 32) (k.sb % 2 ^ 32)) ∧
    scalar 0x28 { d := .s, a := .s } (.frsq t x) (rsqrtFp32 (k.sa % 2 ^ 32)) ∧
    scalar 0x29 { d := .s, a := .s } (.frcp t x) (rcpFp32 (k.sa % 2 ^ 32)) ∧
    scalar 0x2A { d := .s, a := .s } (.fcvti t x) (fp32OfInt (BitVec.ofNat 64 k.sa).toInt)

/-- NOP moves on; a jump or a taken branch to a target inside the code and the innermost loop sets the PC to it, an untaken one
moves on; JAL links; LOOP enters its body with the count or skips it at 0; FENCE moves on where every queue is empty and waits
otherwise, until they are; CDONE on empty queues of a chunk whose stream is covered ends the chunk, else it waits for the
queues. (R110, R111, R120, R121) -/
def Obligations.TileControlFlow : Prop :=
  ∀ (t : Tile) (x : TileWord) (s : State) (k : Running),
    let goes (c : Instr) (y : TileData) : Prop := Completes c s (TileBecomes s t y)
    let ready (op : Nat) (f : Fields) : Prop := Dispatches s t op x f none k
    let inside (target : Nat) : Prop := target < codeCount k.x.image ∧
      ∀ first last left r, k.x.loops = (first, last, left) :: r → first ≤ target ∧ target ≤ last
    let target := (BitVec.ofNat 64 k.x.pc + (x.imm.truncate 16).signExtend 64).toNat
    (ready 0x00 {} → goes (.nop t x) (k.x.advance k.x.pc)) ∧
    (ready 0x07 {} → (k.x.idle = true → goes (.fence t x) (k.x.advance k.x.pc)) ∧
      (k.x.idle = false → goes (.fence t x) ({ k.x with fenced := true }.advance k.x.pc))) ∧
    (ready 0x08 {} → (k.x.idle = false → goes (.cdone t x) { k.x with ending := true }) ∧
      (k.x.idle = true → k.r.emitLength = 0 → Completes (.cdone t x) s fun u => (u.tile t).running = none ∧
        ∃ c, u.chunk k.c.key = some c ∧ c.phase = 3)) ∧
    (ready 0x01 { imm := 0xFFFF } → inside target → goes (.jmp t x) { k.x with pc := target }) ∧
    (ready 0x02 { a := .s, imm := 0xFFFF } →
      (k.sa = 0 → inside target → goes (.beqz t x) { k.x with pc := target }) ∧
      (k.sa ≠ 0 → goes (.beqz t x) (k.x.advance k.x.pc))) ∧
    (ready 0x03 { a := .s, imm := 0xFFFF } →
      (k.sa ≠ 0 → inside target → goes (.bnez t x) { k.x with pc := target }) ∧
      (k.sa = 0 → goes (.bnez t x) (k.x.advance k.x.pc))) ∧
    (ready 0x04 { d := .s, imm := 0xFFFF } → inside target →
      goes (.jal t x) { k.x.setS x.d.toNat (k.x.pc + 1) with pc := target }) ∧
    (ready 0x05 { a := .s } → inside k.sa → goes (.jr t x) { k.x with pc := k.sa }) ∧
    (ready 0x06 { a := .s, imm := 0xFFF } →
      let n := x.imm.toNat % 2 ^ 12
      n ≠ 0 → k.x.pc + n < codeCount k.x.image → k.x.loops.length < 4 → k.sa < 2 ^ 32 →
      (k.sa = 0 → goes (.loopS t x) (k.x.advance (k.x.pc + n))) ∧
      (k.sa ≠ 0 → goes (.loopS t x) { k.x with pc := k.x.pc + 1, loops := (k.x.pc + 1, k.x.pc + n, k.sa) :: k.x.loops })) ∧
    ((s.tile t).fenced = true → (s.tile t).idle = true → goes (.fenceComplete t) { s.tile t with fenced := false }) ∧
    ((s.tile t).fenced = false ∨ (s.tile t).idle = false → exec (.fenceComplete t) s = .next s)

/-- The sequencer dispatches only the word that stands at its PC. TRAP, an opcode that is not listed, an instruction whose fields
fail the checks, one at the end of the code and a deadlock record their exception with PC and word on the tile and fault the
hoop, at once where the queues are empty and once they are otherwise; a full queue, or an s register that an uncompleted
instruction writes, withholds dispatch, which counts in TileIssueStalls and changes nothing else; a tile that runs no chunk,
or whose FENCE, CDONE or exception waits, dispatches nothing. (R101, R110, R114, R116, R120, R134, R135, R136) -/
def Obligations.TileExceptionsFaultTheHoop : Prop :=
  (∀ (t : Tile) (x : TileWord) (s : State) (k : Running), Dispatches s t 0x09 x { imm := 0xFFFF } none k →
    (k.x.idle = true → s.num (Obj.hoopState k.h) ≠ 0 → Completes (.trap t x) s fun u => u.num (Obj.tileExceptionCode t) = 0x0F ∧
      u.num (Obj.tileExceptionPc t) = k.x.pc ∧ u.num (Obj.tileExceptionWord t) = tileWord 0x09 x ∧
      u.num (Obj.hoopState k.h) = 6) ∧
    (k.x.idle = false → Completes (.trap t x) s (TileBecomes s t { k.x with trapped := some (0x0F, k.x.pc, tileWord 0x09 x) }))) ∧
  (∀ (t : Tile) (x : TileWord) (s : State) (k : Running) (op : Nat) (f : Fields) (q : Option Nat) (body : Running → Issue),
    s.running t x = some k →
    let u := s.issue t op x f q body
    let waits := k.x.fenced = true ∨ k.x.ending = true ∨ k.x.trapped.isSome = true
    let full := ∃ n, q = some n ∧ 16 ≤ (k.x.queue n).length
    let inside := k.x.pc < codeCount k.x.image
    let listed := listedOpcode (wordOpcode k.codeWord) = true
    let takes (code : Nat) : Prop := k.x.idle = true → s.num (Obj.hoopState k.h) ≠ 0 →
      u.num (Obj.tileExceptionCode t) = code ∧ u.num (Obj.tileExceptionPc t) = k.x.pc ∧ u.num (Obj.hoopState k.h) = 6
    let counts : Prop := TileBecomes s t { k.x with withheld := true } { u with dict := s.dict } ∧
      ObjectsKept [Obj.tileIssueStalls t] s u ∧ u.num (Obj.tileIssueStalls t) = (s.num (Obj.tileIssueStalls t) + 1) % 2 ^ 64
    (waits → u = s) ∧
    (¬ waits → ¬ inside → takes 0x02) ∧
    (¬ waits → inside → ¬ listed → takes 0x01 ∧ (k.x.idle = true → s.num (Obj.hoopState k.h) ≠ 0 →
      u.num (Obj.tileExceptionWord t) = k.codeWord)) ∧
    (¬ waits → inside → listed → k.codeWord ≠ tileWord op x → u = s) ∧
    (¬ waits → inside → listed → k.codeWord = tileWord op x → full → counts) ∧
    (¬ waits → inside → listed → k.codeWord = tileWord op x → ¬ full → f.ok x = false → takes 0x01) ∧
    (¬ waits → inside → listed → k.codeWord = tileWord op x → ¬ full → f.ok x = true → k.x.awaits (f.sources op x) = true → counts)) ∧
  (∀ (t : Tile) (x : TileWord) (s : State) (op : Nat) (f : Fields) (q : Option Nat) (body : Running → Issue),
    s.running t x = none → s.issue t op x f q body = s) ∧
  (∀ (t : Tile) (s : State) (k : Running), s.running t {} = some k → k.x.stuck = true → k.x.paced = true →
    (∀ q ∈ k.x.queues, ∀ j ∈ q.2, j.op.outside = false) →
    s.num (Obj.hoopState k.h) ≠ 0 → Completes (.deadlockTimeout t) s fun u =>
      u.num (Obj.tileExceptionCode t) = 0x0C ∧ u.num (Obj.tileExceptionPc t) = k.x.pc ∧
      u.num (Obj.tileExceptionWord t) = k.codeWord ∧ u.num (Obj.hoopState k.h) = 6) ∧
  (∀ (t : Tile) (s : State) (k : Running), s.running t {} = some k → k.x.stuck = false → exec (.deadlockTimeout t) s = .next s)

/-- An aligned transfer within its region, permitted by R108 and not interlocked by R111, enters the DMA queue with its footprint;
DCLAIM and DXWAIT complete at once where what they wait for is there and the queue is empty, and queue otherwise; DREL ends
the chunk's access to the zone and frees it once the queue before it is empty. The completion of the job at the head of the
queue carries it out on the bytes that then stand, and takes it off: a load puts the region's bytes into the tile store, and
one that meets a line which reads uncorrectable outside the chunk's input, or a frame that another hoop holds, faults the
hoop. (R108, R109, R111, R124, R125, R126, R184) -/
def Obligations.TileDmaAndLanding : Prop :=
  ∀ (t : Tile) (x : TileWord) (s : State) (k : Running),
    let goes (c : Instr) (y : TileData) : Prop := Completes c s (TileBecomes s t y)
    let off := k.ab % 2 ^ 48
    let n := k.sc
    let area := (k.ta, k.ta + n)
    let read : Footprint := { reads := hull [area] }
    let aligned := k.par ≠ 3 ∧ k.ta % 64 = 0 ∧ off % 64 = 0 ∧ n % 64 = 0
    let readable : Prop := k.x.interlocked 3 read = false ∧ k.readFault area = none
    let enters (c : Instr) (y : TileData) (op : TileOp) (f : Footprint) : Prop := goes c ((y.advance k.x.pc).enter 3 op f 0)
    (aligned → ∀ p, k.regionCheck [(off, n)] false = .ok p → k.x.interlocked 3 { writes := hull [area] } = false → k.writeFault area = none →
      Dispatches s t 0x30 x { a := .a, b := .a, c := .s, imm := dmaImm } (some 3) k →
      enters (.dld t x) ((k.x.define area).postBoth x n) (.load (k.loadPieces p [(off, n)])) { writes := hull [area] }) ∧
    (aligned → ∀ p, k.regionCheck [(off, n)] true = .ok p → readable →
      Dispatches s t 0x31 x { a := .a, b := .a, c := .s, imm := dmaImm } (some 3) k →
      enters (.dst t x) (k.x.postBoth x n) (.store (k.binding k.region).1 p ((k.binding k.region).2 + off) k.ta n
        (k.o.discards (regionDecl k.x.image k.region).cls)) read) ∧
    (Dispatches s t 0x32 x { a := .a, b := .a, c := .s, imm := gatherImm } (some 3) k → k.par ≠ 3 → k.ta % 64 = 0 → k.tb % 64 = 0 →
      n ≤ 4096 →
      let size := 64 * (immBits x 15 8 + 1)
      let list := (k.tb, k.tb + 4 * n)
      let place := (k.ta, k.ta + n * size)
      let pieces := (List.range n).map fun e => (leNat (k.x.read (k.tb + 4 * e) 4) * size, size)
      let f : Footprint := { reads := hull [list], writes := hull [place] }
      k.x.interlocked 3 f = false → (∀ j ∈ k.x.queue 3, meets list j.writes = false) → k.readFault list = none → k.writeFault place = none →
      ∀ p, k.regionCheck pieces false = .ok p →
        enters (.dgath t x) ((k.x.define place).post x x.a.toNat (n * size)) (.load (k.loadPieces p pieces)) f) ∧
    (Dispatches s t 0x33 x { a := .a, b := .s, c := .s } (some 3) k → k.ta % 64 = 0 → 0 < n → n ≤ 16777216 →
      dDestinationOffset k.o.desc + k.sb + n ≤ k.targetLength → readable → enters (.dout t x) k.x (.out k.sb k.ta n) read) ∧
    (Dispatches s t 0x34 x { d := .s, a := .a, b := .s, c := .s } (some 3) k → k.c.index < k.sd → k.sd < entryChunks k.e →
      k.ta % 64 = 0 → k.sb % 64 = 0 → n % 64 = 0 → k.sb + n ≤ exchangeSize k.x.image → readable →
      (n ≠ 0 → k.transferred k.sd k.sb n = false → enters (.dxfer t x) k.x (.transfer k.sd k.sb k.ta n) read) ∧
      (n = 0 ∨ k.transferred k.sd k.sb n = true → goes (.dxfer t x) ((k.x.advance k.x.pc).behind (some 3) read 0))) ∧
    (Dispatches s t 0x35 x { a := .s } (some 3) k → k.sa ≤ exchangeSize k.x.image →
      let f : Footprint := { writes := (exchangeBase k.x.image, exchangeBase k.x.image + k.sa) }
      let y : TileData := { k.x with exchanged := max k.x.exchanged k.sa }
      k.x.interlocked 3 f = false →
      (k.exchangeArrived k.sa = true → k.x.queue 3 = [] → goes (.dxwait t x) (y.advance k.x.pc)) ∧
      (k.exchangeArrived k.sa = false ∨ k.x.queue 3 ≠ [] → enters (.dxwait t x) y (.exchange k.sa) f)) ∧
    (Dispatches s t 0x36 x { a := .s, b := .s } (some 3) k → k.sa + k.sb ≤ k.contributors →
      let f : Footprint := { writes := hull (k.slotRanges k.sa k.sb) }
      let y : TileData := { k.x with claims := k.x.claims ++ [(k.sa, k.sb)] }
      k.x.interlocked 3 f = false →
      (k.slotsIn k.sa k.sb = true → k.x.queue 3 = [] → goes (.dclaim t x) (y.advance k.x.pc)) ∧
      (k.slotsIn k.sa k.sb = false ∨ k.x.queue 3 ≠ [] → enters (.dclaim t x) y (.claim k.sa k.sb) f)) ∧
    (Dispatches s t 0x37 x {} (some 3) k →
      (k.x.queue 3 = [] → Completes (.drel t x) s fun u => (u.tile t).released = true ∧
        (k.x.zone k.c.zone = some k.c.key → (u.tile t).zone k.c.zone = none) ∧ { u with tiles := s.tiles } = s) ∧
      (k.x.queue 3 ≠ [] → enters (.drel t x) { k.x with released := true } .release {})) ∧
    (s.running t {} = some k → k.x.ending = false → k.x.trapped = none → ∀ j rest, k.x.queue 3 = j :: rest →
      (∀ q < 5, ∀ i more, (if q = 3 then rest else k.x.queue q) = i :: more → i.op.passes = false) →
      let popped : TileData := { k.x.setQueue 3 rest with withheld := false }
      (∀ pieces, j.op = .load pieces →
        let bad (p : LoadPiece) := s.badIn (s.planExtents k.h p.buffer p.parity p.off p.len)
        let other (p : LoadPiece) := s.foreignPlan k.h p.buffer p.parity p.off p.len
        ((∀ p ∈ pieces, p.torn = [] ∧ other p = none ∧ bad p = []) → goes (.dmaTransferComplete t)
          (pieces.foldl (fun y p => y.write p.place (s.readPlan k.h p.buffer p.parity p.off p.len)) popped)) ∧
        ((∀ p ∈ pieces, other p = none) → (∃ p ∈ pieces, bad p ≠ [] ∧ k.inputPieces p = []) → (∀ p ∈ pieces, k.inputPieces p = []) →
          s.num (Obj.hoopState k.h) ≠ 0 → Completes (.dmaTransferComplete t) s fun u => u.num (Obj.hoopState k.h) = 6) ∧
        ((∀ p ∈ pieces, other p = none ∧ k.inputPieces p = [(p.off, p.len)]) → (∃ p ∈ pieces, bad p ≠ []) →
          Completes (.dmaTransferComplete t) s fun u => ∀ c, u.chunk k.c.key = some c → c.resupply = true) ∧
        ((∃ p ∈ pieces, (other p).isSome = true) → s.num (Obj.hoopState k.h) ≠ 0 →
          Completes (.dmaTransferComplete t) s fun u => u.num (Obj.hoopState k.h) = 6)) ∧
      (∀ b p o a m d, j.op = .store b p o a m d → OwnPlan s k.h → Completes (.dmaTransferComplete t) s fun u =>
        u.mem = (s.writePlan k.h b p o (if d then [] else k.x.read a m)).mem ∧ u.tile t = popped ∧ u.dict = s.dict) ∧
      (∀ o a m, j.op = .out o a m → s.shadowSilent k.h = true →
        goes (.dmaTransferComplete t) { popped with outData := k.x.outData ++ k.x.read a m }) ∧
      (∀ chunk o a m v, j.op = .transfer chunk o a m → k.deliver s chunk o (k.x.read a m) = some v →
        Completes (.dmaTransferComplete t) s fun u => (u.tile t).queue 3 = rest ∧ u.mem = v.mem ∧ u.dict = v.dict ∧ u.work = v.work) ∧
      (∀ first count, j.op = .claim first count →
        (k.slotsIn first count = true → goes (.dclaimComplete t) popped) ∧
        (k.slotsIn first count = false → exec (.dclaimComplete t) s = .next s)) ∧
      (∀ m, j.op = .exchange m →
        (k.exchangeArrived m = true → goes (.dxwaitComplete t) popped) ∧
        (k.exchangeArrived m = false → exec (.dxwaitComplete t) s = .next s)))

/-- MLOAD of a mesh format with a permitted stride stores the operand's 128 columns in its slot; MMA with a loaded operand gives
each row of the set the dot products with the columns, added to the row where Acc is set; MDRAIN writes each accumulator row
to the tile store in the format asked for. Only the tile and its counters change. (R92, R127, R128) -/
def Obligations.MeshAndAccumulators : Prop :=
  ∀ (t : Tile) (x : TileWord) (s : State) (k : Running),
    let only (u : State) : Prop := ObjectsKept [Obj.tileMeshBusyCycles t, Obj.tileNanResults t] s u ∧ u.mem = s.mem ∧
      (u.tile t).pc = (k.x.advance k.x.pc).pc ∧ ∀ j, j ≠ t.val → u.tile j = s.tile j
    (Dispatches s t 0x40 x { a := .a, b := .s, imm := 0x0F000011 } (some 1) k →
      let fmt := immBits x 27 24
      let transposed := immBit x 4
      let n := if transposed then meshK fmt else 128
      let len := if transposed then 256 else operandBytes fmt
      meshFormat fmt = true → (transposed = true → fmt < 5) → k.sb % 8 = 0 → len ≤ k.sb →
      let f : Footprint := { reads := hull (rowSpans k.ta k.sb n len) }
      k.x.interlocked 1 f = false → k.accessFault (rowSpans k.ta k.sb n len) [] = none →
      Completes (.mload t x) s (TileBecomes s t (({ k.x with
        slots := Map.put none k.x.slots (immBits x 0 0) (some ⟨fmt, k.x.columns fmt transposed k.ta k.sb⟩) }.advance k.x.pc).behind (some 1) f 0))) ∧
    (Dispatches s t 0x41 x { a := .a, b := .s, c := .s, imm := 0xFFF } (some 1) k →
      let set := immBits x 1 1
      let acc := immBit x 2
      let r0 := immBits x 11 3
      let m := k.sc
      0 < m → r0 + m ≤ 512 → ∀ operand, Map.get none k.x.slots (immBits x 0 0) = some operand →
      let len := operandBytes operand.fmt
      k.sb % 8 = 0 → len ≤ k.sb → (acc = true → ∀ i < m, k.x.rowWritten set (r0 + i) = true) →
      k.x.interlocked 1 { reads := hull (rowSpans k.ta k.sb m len) } = false → k.accessFault (rowSpans k.ta k.sb m len) [] = none →
      Completes (.mma t x) s fun u => only u ∧
        u.num (Obj.tileMeshBusyCycles t) = (s.num (Obj.tileMeshBusyCycles t) + m) % 2 ^ 64 ∧
        ∀ i < m, Map.get [] (u.tile t).accum (accumKey set (r0 + i)) =
          mmaRow operand.fmt (operand.columns.map (readOperand operand.fmt))
            (if acc then some (Map.get [] k.x.accum (accumKey set (r0 + i))) else none)
            (readOperand operand.fmt (k.x.read (k.ta + i * k.sb) len))) ∧
    (Dispatches s t 0x42 x { a := .a, b := .s, c := .s, imm := 0x1FFF } (some 1) k →
      let set := immBits x 0 0
      let r0 := immBits x 9 1
      let out := immBits x 11 10
      let n := k.sc
      let len := if out = 0 then 512 else 256
      let row (i : Nat) := Map.get [] k.x.accum (accumKey set (r0 + i))
      out ≠ 3 → 0 < n → r0 + n ≤ 512 → k.sb % 8 = 0 → len ≤ k.sb → k.ta % 8 = 0 → (∀ i < n, (row i).length = 128) →
      k.x.interlocked 1 { writes := hull (rowSpans k.ta k.sb n len) } = false → k.accessFault [] (rowSpans k.ta k.sb n len) = none →
      Completes (.mdrain t x) s fun u => only u ∧
        ∀ i < n, (u.tile t).read (k.ta + i * k.sb) len = (drainRow out (row i)).1)

/-- Dispatched on a tile, each integer or bitwise vector instruction writes lane i of v[D] from lane i of its sources as 32-bit
arithmetic, for all 512 lanes, moves the PC on, completes behind what stands in the vector queue and changes nothing else;
VEXT and VBCAST go between a lane and a scalar register. (R129, R130) -/
def Obligations.VectorIntegerLanes : Prop :=
  ∀ (t : Tile) (x : TileWord) (s : State) (k : Running),
    let a (i : Nat) := BitVec.ofNat 32 (k.va.getD i 0)
    let b (i : Nat) := BitVec.ofNat 32 (k.vb.getD i 0)
    let c (i : Nat) := BitVec.ofNat 32 (k.vc.getD i 0)
    let goes (op : Nat) (f : Fields) (target : Nat) (c : Instr) (y : TileData) : Prop := Dispatches s t op x f (some 2) k →
      Completes c s (TileBecomes s t ((y.advance k.x.pc).behind (some 2) {} target))
    let lanes (op : Nat) (f : Fields) (c : Instr) (v : Nat → BitVec 32) : Prop :=
      goes op f 0 c (k.x.setV x.d.toNat ((List.range 512).map fun i => (v i).toNat))
    let two : Fields := { d := .v, a := .v, b := .v }
    let shift : Fields := { d := .v, a := .v, imm := 0x1F }
    lanes 0x60 two (.viadd t x) (fun i => a i + b i) ∧ lanes 0x61 two (.visub t x) (fun i => a i - b i) ∧
    lanes 0x62 two (.vand t x) (fun i => a i &&& b i) ∧ lanes 0x63 two (.vor t x) (fun i => a i ||| b i) ∧
    lanes 0x64 two (.vxor t x) (fun i => a i ^^^ b i) ∧
    lanes 0x5B two (.vcmplt t x) (fun i => if ltFp32 (a i).toNat (b i).toNat then BitVec.allOnes 32 else 0) ∧
    lanes 0x5C { d := .v, a := .v, b := .v, c := .v } (.vsel t x) (fun i => (c i &&& a i) ||| (~~~(c i) &&& b i)) ∧
    lanes 0x65 shift (.vshl t x) (fun i => a i <<< x.imm.toNat) ∧ lanes 0x66 shift (.vshr t x) (fun i => a i >>> x.imm.toNat) ∧
    lanes 0x58 { d := .v, a := .v } (.vabs t x) (fun i => a i &&& 0x7FFFFFFF) ∧
    lanes 0x59 { d := .v, a := .v } (.vneg t x) (fun i => a i ^^^ 0x80000000) ∧
    lanes 0x5D { d := .v, a := .s } (.vbcast t x) (fun _ => BitVec.ofNat 32 k.sa) ∧
    lanes 0x5E { d := .v } (.viota t x) (fun i => BitVec.ofNat 32 i) ∧
    goes 0x67 { d := .s, a := .v, imm := 0x1FF } x.d.toNat (.vext t x) (k.x.setS x.d.toNat (a x.imm.toNat).toNat)

/-- Dispatched on a tile, each floating-point or conversion instruction writes lane i of v[D] from lane i of its sources by the
FP32 operation the table gives, the tree instructions write the fixed tree's value to s[D], VNSCOEF sets the coefficients that
VNSCOMB uses, VPHILOX makes 128 calls from an index that fits; each moves the PC on, completes behind what stands in the
vector queue and changes nothing else. (R82, R129, R130, R131, R169) -/
def Obligations.VectorFloatLanes : Prop :=
  ∀ (t : Tile) (x : TileWord) (s : State) (k : Running),
    let a (i : Nat) := k.va.getD i 0
    let b (i : Nat) := k.vb.getD i 0
    let c (i : Nat) := k.vc.getD i 0
    let goes (op : Nat) (f : Fields) (target : Nat) (c : Instr) (y : TileData) : Prop := Dispatches s t op x f (some 2) k →
      Completes c s (TileBecomes s t ((y.advance k.x.pc).behind (some 2) {} target))
    let lanes (op : Nat) (f : Fields) (c : Instr) (v : Nat → Nat) : Prop := goes op f 0 c (k.x.setV x.d.toNat ((List.range 512).map v))
    let scalar (op : Nat) (f : Fields) (c : Instr) (v : Nat) : Prop := goes op f x.d.toNat c (k.x.setS x.d.toNat v)
    let coeff (i : Nat) := k.x.coeff.getD i 0
    let one : Fields := { d := .v, a := .v }
    let two : Fields := { d := .v, a := .v, b := .v }
    let three : Fields := { d := .v, a := .v, b := .v, c := .v }
    let seed := s.num (Obj.jobSeed k.h)
    lanes 0x52 two (.vadd t x) (fun i => addFp32 (a i) (b i)) ∧ lanes 0x53 two (.vsub t x) (fun i => subFp32 (a i) (b i)) ∧
    lanes 0x54 two (.vmul t x) (fun i => mulFp32 (a i) (b i)) ∧ lanes 0x56 two (.vmax t x) (fun i => maxFp32 (a i) (b i)) ∧
    lanes 0x57 two (.vmin t x) (fun i => minFp32 (a i) (b i)) ∧
    lanes 0x55 three (.vfma t x) (fun i => fmaFp32 (a i) (b i) (c i)) ∧
    lanes 0x83 three (.vnscomb t x) (fun i =>
      addFp32 (addFp32 (mulFp32 (coeff 0) (a i)) (mulFp32 (coeff 1) (b i))) (mulFp32 (coeff 2) (c i))) ∧
    lanes 0x5A { d := .v, a := .v, b := .s } (.vscl t x) (fun i => mulFp32 (a i) (k.sb % 2 ^ 32)) ∧
    lanes 0x74 one (.vcvti t x) (fun i => fp32OfInt (BitVec.ofNat 32 (a i)).toInt) ∧ lanes 0x75 one (.vcvtf t x) (fun i => intOfFp32 (a i)) ∧
    lanes 0x80 one (.vrsqrt t x) (fun i => rsqrtFp32 (a i)) ∧ lanes 0x81 one (.vrcp t x) (fun i => rcpFp32 (a i)) ∧
    lanes 0x91 one (.vruni t x) (fun i => uniformOf (a i)) ∧ lanes 0x92 one (.vrsgn t x) (fun i => signOf (a i)) ∧
    scalar 0x68 { d := .s, a := .v } (.vrsum t x) (tree addFp32 k.va) ∧ scalar 0x69 { d := .s, a := .v } (.vrmax t x) (tree maxFp32 k.va) ∧
    scalar 0x84 { d := .s, a := .v } (.vsumsq t x) (tree addFp32 ((List.range 512).map fun i => mulFp32 (a i) (a i))) ∧
    scalar 0x6A { d := .s, a := .v, b := .v } (.vdot t x) (tree addFp32 ((List.range 512).map fun i => mulFp32 (a i) (b i))) ∧
    goes 0x82 { a := .s, b := .s, c := .s } 0 (.vnscoef t x) { k.x with coeff := [k.sa % 2 ^ 32, k.sb % 2 ^ 32, k.sc % 2 ^ 32] } ∧
    (k.sa + 127 < 2 ^ 32 → goes 0x90 { d := .v, a := .s } 0 (.vphilox t x) (k.x.setV x.d.toNat ((List.range 128).flatMap fun i =>
      philox (seed % 2 ^ 32) ((seed / 2 ^ 32) ^^^ s.num (Obj.planRandomTag k.h))
        (k.sa + i, k.c.index, entryShard k.e, k.o.step))))

/-- At an aligned effective address that R108 permits, VLD and VLDC load and widen 512 lanes, VST and VSTC store and narrow them,
VQMX stores 16 quantised blocks with their scales and VDQMX decodes them; the address register is post-incremented where P
asks, the PC moves on, and only the tile and its counters of NaN results and saturations change. (R108, R117, R118, R129,
R130, R164, R165, R166, R174) -/
def Obligations.VectorLoadsAndStores : Prop :=
  ∀ (t : Tile) (x : TileWord) (s : State) (k : Running),
    let after (f : Footprint) (y : TileData) := (y.advance k.x.pc).behind (some 2) f 0
    let goes (f : Footprint) (c : Instr) (y : TileData) : Prop := Completes c s (TileBecomes s t (after f y))
    let stores (f : Footprint) (c : Instr) (y : TileData) : Prop := Completes c s fun u => u.tile t = after f y ∧ u.mem = s.mem ∧
      ObjectsKept [Obj.tileNanResults t, Obj.tileNarrowSaturations t] s u ∧ ∀ j, j ≠ t.val → u.tile j = s.tile j
    let area (n : Nat) := (k.ea, k.ea + n)
    let reads (r : List (Nat × Nat)) : Footprint := { reads := hull r }
    let writes (r : List (Nat × Nat)) : Footprint := { writes := hull r }
    let readable (r : List (Nat × Nat)) : Prop := k.x.interlocked 2 (reads r) = false ∧ k.accessFault r [] = none
    let writable (r : List (Nat × Nat)) : Prop := k.x.interlocked 2 (writes r) = false ∧ k.accessFault [] r = none
    (Dispatches s t 0x50 x { d := .v, a := .a, imm := vectorImm } (some 2) k → k.ea % 64 = 0 → readable [area 2048] →
      goes (reads [area 2048]) (.vld t x) ((k.x.setV x.d.toNat (unpackBytes 32 512 (k.x.read k.ea 2048))).post x x.a.toNat 2048)) ∧
    (Dispatches s t 0x51 x { a := .a, b := .v, imm := vectorImm } (some 2) k → k.ea % 64 = 0 → writable [area 2048] →
      stores (writes [area 2048]) (.vst t x)
        (((k.x.define (area 2048)).write k.ea (packBytes 32 k.vb)).post x x.a.toNat 2048)) ∧
    (Dispatches s t 0x70 x { d := .v, a := .a, imm := convertImm } (some 2) k → k.ea % 64 = 0 → ∀ f, k.narrowFormat = some f →
      readable [area (64 * f.width)] → goes (reads [area (64 * f.width)]) (.vldc t x)
        ((k.x.setV x.d.toNat ((unpackBytes f.width 512 (k.x.read k.ea (64 * f.width))).map (toFp32 f))).post x x.a.toNat
          (64 * f.width))) ∧
    (Dispatches s t 0x71 x { a := .a, b := .v, imm := convertImm } (some 2) k → k.ea % 64 = 0 → ∀ f, k.narrowFormat = some f →
      writable [area (64 * f.width)] → stores (writes [area (64 * f.width)]) (.vstc t x)
        (((k.x.define (area (64 * f.width))).write k.ea (packBytes f.width (k.vb.map fun v => (narrow32 f v).1))).post x
          x.a.toNat (64 * f.width))) ∧
    (Dispatches s t 0x72 x { a := .a, b := .v, c := .a, imm := mxImm } (some 2) k →
      k.mxFault (immBits x 27 24) = none → writable (k.mxSpans (immBits x 27 24)) →
      Completes (.vqmx t x) s fun u => u.mem = s.mem ∧ (u.tile t).pc = (k.x.advance k.x.pc).pc ∧
        ObjectsKept [Obj.tileNanResults t, Obj.tileNarrowSaturations t] s u ∧
        ((quantiseBlock (immBits x 27 24) (k.vb.take 32)).1 < 256 →
          ∀ p rest, k.mxPlaces (immBits x 27 24) = p :: rest → immBit x 30 = false → k.tc + 16 ≤ k.ea →
            leNat ((u.tile t).read p.scale 1) = (quantiseBlock (immBits x 27 24) (k.vb.take 32)).1)) ∧
    (Dispatches s t 0x73 x { d := .v, a := .a, c := .a, imm := mxImm } (some 2) k →
      k.mxFault (immBits x 27 24) = none → readable (k.mxSpans (immBits x 27 24)) →
      let fmt := immBits x 27 24
      goes (reads (k.mxSpans fmt)) (.vdqmx t x) (k.mxPost fmt (k.x.setV x.d.toNat ((k.mxPlaces fmt).flatMap fun p =>
        (unpackBytes (mxElem fmt).width 32 (k.x.read p.elements (mxBlockBytes fmt))).map
          (decodeMx fmt (leNat (k.x.read p.scale 1)))))))

/-- SWAIT takes its count where it is there and its queue is free, else it waits until it is released; SSIG adds its count, at
once on a free queue; MBPOST posts to an empty declared mailbox once every earlier instruction has completed and waits
otherwise; LARM arms a free position of the peer set; LEMIT notes the range it emits and, in the order of its queue, queues
one segment for every other site of the peer set; LAWAIT completes when the site's stream is whole; LEMIT completes when no
wale holds its request any more. (R75, R113, R132, R133, R155, R319, R337) -/
def Obligations.SemaphoresMailboxesAndLine : Prop :=
  ∀ (t : Tile) (x : TileWord) (s : State) (k : Running),
    let goes (c : Instr) (y : TileData) : Prop := Completes c s (TileBecomes s t y)
    let past := k.x.advance k.x.pc
    let q := immBits x 2 0
    let sem := immBits x 7 4
    let count := immBits x 23 8
    let held := Map.get 0 k.x.semaphores sem
    let live : Prop := s.running t {} = some k ∧ k.x.ending = false ∧ k.x.trapped = none
    let popped (p : Nat) (rest : List TileJob) : TileData := { k.x.setQueue p rest with withheld := false }
    let still (p : Nat) (rest : List TileJob) : Prop :=
      ∀ r < 5, ∀ i more, (if r = p then rest else k.x.queue r) = i :: more → i.op.passes = false
    (Dispatches s t 0xA0 x { imm := semaphoreImm } none k → q ≤ 4 → 0 < count → (k.x.queue q).length < 16 →
      (k.x.queue q = [] → count ≤ held → goes (.swait t x)
        ({ k.x with semaphores := Map.put 0 k.x.semaphores sem (held - count) }.advance k.x.pc)) ∧
      (k.x.queue q ≠ [] ∨ held < count → goes (.swait t x) (past.enter q (.swait sem count) {} 0))) ∧
    (Dispatches s t 0xA1 x { imm := semaphoreImm } none k → q ≤ 4 → 0 < count → (k.x.queue q).length < 16 →
      (k.x.queue q = [] → held + count ≤ 65535 → Completes (.ssig t x) s fun u =>
        Map.get 0 (u.tile t).semaphores sem = held + count ∧ (u.tile t).queue q = [] ∧
        (u.tile t).pc = past.pc ∧ u.dict = s.dict ∧ u.mem = s.mem) ∧
      (k.x.queue q ≠ [] → goes (.ssig t x) (past.enter q (.ssig sem count k.x.pc (tileWord 0xA1 x)) {} 0))) ∧
    (live → ∀ (q : Fin 5) sem count j rest, k.x.queue q = j :: rest → j.op = .swait sem count → still q rest →
      (count ≤ Map.get 0 k.x.semaphores sem → goes (.swaitRelease t q) { popped q rest with
        semaphores := Map.put 0 k.x.semaphores sem (Map.get 0 k.x.semaphores sem - count) }) ∧
      (Map.get 0 k.x.semaphores sem < count → exec (.swaitRelease t q) s = .next s)) ∧
    (Dispatches s t 0xA2 x { a := .s, imm := 0x3F } (some 0) k →
      let n := immBits x 5 0
      bitAt (mailboxMask k.x.image) n = true →
      (k.x.idle = true → s.mailboxFull n = false → Completes (.mbpost t x) s fun u =>
        u.num (Obj.mailboxWord n) = k.sa % 2 ^ 32 ∧ u.mailboxFull n = true ∧ u.tile t = past ∧ u.mem = s.mem) ∧
      (k.x.idle = false ∨ s.mailboxFull n = true → goes (.mbpost t x) (past.enter 0 (.post n (k.sa % 2 ^ 32)) {} 0))) ∧
    (live → ∀ n word j rest, n < 64 → k.x.queue 0 = j :: rest → j.op = .post n word → still 0 rest →
      let earlier := k.x.queues.any fun q => q.2.any fun i => decide (i.number < j.number)
      (earlier = false → s.mailboxFull n = false → Completes (.mbpostComplete t) s fun u => u.num (Obj.mailboxWord n) = word ∧
        u.mailboxFull n = true ∧ u.tile t = popped 0 rest) ∧
      (earlier = true ∨ s.mailboxFull n = true → exec (.mbpostComplete t) s = .next s)) ∧
    (Dispatches s t 0xB0 x { a := .s, b := .a, c := .s } (some 4) k → k.sa < k.peers.length →
      Map.get none k.x.arms k.sa = none → k.sc = k.r.emitLength → k.tb + k.sc ≤ storeBytes →
      meetAny [(k.tb, k.tb + k.sc)] k.special = false → k.x.interlocked 4 { writes := (k.tb, k.tb + k.sc) } = false →
      s.memory.bad = [] →
      OwnBuffers s k.h (s.stream k.c.group k.c.seq (streamIndex k.r k.c.index) (k.peers.getD k.sa 0)).buffers →
      Completes (.larm t x) s fun u =>
        Map.get none (u.tile t).arms k.sa = some k.tb ∧ (u.tile t).pc = past.pc ∧ { u with tiles := s.tiles } = s) ∧
    (Dispatches s t 0xB1 x { a := .a, b := .s, c := .s, imm := 1 } (some 4) k →
      let off := k.sb
      let n := k.sc
      let payload := k.x.read k.ta n
      let others := (k.peers.zipIdx.filter fun p => p.2 != k.ownPosition).map Prod.fst
      let own := match Map.get none k.x.arms k.ownPosition with
        | some base => (base + off, base + off + n)
        | none => (0, 0)
      let vc := if immBit x 0 then 3 else 2
      let f : Footprint := { reads := hull [(k.ta, k.ta + n)], writes := own }
      0 < n → n ≤ 16384 → k.ta % 8 = 0 → off + n ≤ k.r.emitLength →
      (k.x.emits.any fun e => meets (e.1, e.1 + e.2) (off, off + n)) = false →
      k.x.interlocked 4 { reads := hull [(k.ta, k.ta + n)] } = false → k.x.interlocked 4 { writes := own } = false →
      k.readFault (k.ta, k.ta + n) = none →
      (k.x.queue 4 ≠ [] →
        goes (.lemit t x) (({ k.x with emits := k.x.emits ++ [(off, n)] }.advance k.x.pc).enter 4 (.stream off k.ta n vc) f 0)) ∧
      (k.x.queue 4 = [] → Completes (.lemit t x) s fun u => (u.tile t).emits = k.x.emits ++ [(off, n)] ∧
        (u.tile t).pc = past.pc ∧ u.mem = s.mem ∧ (u.tile t).streamData = k.x.streamData ++ [(off, payload)] ∧
        (k.silent off n = false → (u.tile t).queue 4 ≠ [] ∧ ∀ a ∈ others,
          ∃ r ∈ (u.wale (s.routeFor k.h a).1).tx.queue, r.destination = a ∧ r.payload = payload ∧
            r.vc = vc ∧ r.opSequence = k.c.seq))) ∧
    (live → ∀ number j rest, k.x.queue 4 = j :: rest → j.op = .emit number → still 4 rest →
      let waiting := s.line.wales.any fun w => w.2.tx.queue.any fun r => r.ticket == some ⟨t.val, number⟩
      (waiting = false → goes (.lemitComplete t) (popped 4 rest)) ∧
      (waiting = true → exec (.lemitComplete t) s = .next s)) ∧
    (Dispatches s t 0xB2 x { a := .s } (some 4) k → (Map.get none k.x.arms k.sa).isSome = true →
      let f : Footprint := { writes := (k.armed k.sa).getD (0, 0) }
      let y : TileData := { k.x with awaited := k.x.awaited ++ [k.sa] }
      k.x.interlocked 4 f = false →
      (k.siteComplete k.sa = true → k.x.queue 4 = [] → goes (.lawait t x) (y.advance k.x.pc)) ∧
      (k.siteComplete k.sa = false ∨ k.x.queue 4 ≠ [] → goes (.lawait t x) ((y.advance k.x.pc).enter 4 (.siteWait k.sa) f 0))) ∧
    (live → ∀ p j rest, k.x.queue 4 = j :: rest → j.op = .siteWait p → still 4 rest →
      (k.siteComplete p = true → goes (.lawaitComplete t) (popped 4 rest)) ∧
      (k.siteComplete p = false → exec (.lawaitComplete t) s = .next s))

/-- For every listed opcode and every value of the fields D, A, B, C and IMM, the word that carries them decodes to the command of
that opcode with those fields; a word whose opcode is not listed decodes to none, and every word of 64 bits is the word of its
own opcode and fields. (R115, R116) -/
def Obligations.TileWordsDecodeToTheirCommands : Prop :=
  (∀ (t : Tile) (c : Nat × (Tile → TileWord → Instr)) (w : TileWord), c ∈ tileOpcodes →
    decodeTileWord t (tileWord c.1 w) = some (c.2 t w)) ∧
  (∀ (t : Tile) (op : Nat) (w : TileWord), listedOpcode op = false → decodeTileWord t (tileWord op w) = none) ∧
  (∀ n : Nat, n < 2 ^ 64 → tileWord (wordOpcode n) (wordFields n) = n ∧ wordOpcode n < 2 ^ 8)

/-- A staging write puts its bytes at its offset in the staging buffer. An image or plan command that R148, R153 or R159 allows
runs with its status ST_BUSY, with the effect and the status that the first failing check gives; while another runs it is
refused ST_BUSY. At its end the slot holds the new image, or its pending image with its step, or nothing, or the hoop its plan
or none, and status and detail are final. A pending image whose step has come becomes current. (R147, R148, R149, R153, R158,
R159, R160) -/
def Obligations.ImagesAndPlansLoad : Prop :=
  (∀ (rq : Requester) (h : Hoop) (piece : Bytes) (s : State), Accepts s rq (Obj.imageStageWrite h) (.blob piece) none →
    (s.hoop h).job = none → 5 ≤ piece.length → piece.length ≤ 4100 → field piece 0 4 + (piece.length - 4) ≤ 8388608 →
    Completes (.imageStageWrite rq h piece) s fun t => ObjectsKept [] s t ∧ t.mem = s.mem ∧ Answered rq St.ok t ∧
      t.hoop h = { s.hoop h with stage := (s.hoop h).stage.writeBytes (field piece 0 4) (piece.drop 4) }) ∧
  (∀ (rq : Requester) (h : Hoop) (s : State), Accepts s rq (Obj.imageCommand h) (.num 1) none → (s.hoop h).job = none →
    let slot := s.num (Obj.imageCommandSlot h)
    let check := s.imageStatus h slot false
    Completes (.imageLoad rq h) s fun t => t.num (Obj.imageCommandStatus h) = St.busy ∧ Answered rq St.ok t ∧
      (check.1 ≠ St.uncorrectable → ObjectsKept [Obj.imageCommandStatus h] s t) ∧ t.mem = s.mem ∧
      t.hoop h = { s.hoop h with job := some ⟨false, check.1, check.2,
        if check.1 = St.ok then .current slot (s.staged h) else .nothing⟩ }) ∧
  (∀ (rq : Requester) (h : Hoop) (s : State), Accepts s rq (Obj.imageCommand h) (.num 2) none → (s.hoop h).job = none →
    let slot := s.num (Obj.imageCommandSlot h)
    let check := s.imageStatus h slot true
    Completes (.imageLoadPending rq h) s fun t => t.num (Obj.imageCommandStatus h) = St.busy ∧ Answered rq St.ok t ∧
      (check.1 ≠ St.uncorrectable → ObjectsKept [Obj.imageCommandStatus h] s t) ∧ t.mem = s.mem ∧
      t.hoop h = { s.hoop h with job := some ⟨false, check.1, check.2,
        if check.1 = St.ok then .pending slot (s.staged h) (s.num (Obj.imageActivateStep h)) else .nothing⟩ }) ∧
  (∀ (rq : Requester) (h : Hoop) (s : State), Accepts s rq (Obj.imageCommand h) (.num 3) none → (s.hoop h).job = none →
    let slot := s.num (Obj.imageCommandSlot h)
    let begun := s.slotPending h slot = [] ∨ s.num (Obj.slotActivateStep (16 * h + slot)) ≤ s.num (Obj.outerStepCounter h)
    (begun → Completes (.imageCancelPending rq h) s fun t => t.num (Obj.imageCommandStatus h) = St.notPermittedInState ∧
      t.num (Obj.imageCommandDetail h) = 0 ∧ OnlyObjects [Obj.imageCommandStatus h, Obj.imageCommandDetail h] s t) ∧
    (¬ begun → Completes (.imageCancelPending rq h) s fun t => t.num (Obj.imageCommandStatus h) = St.busy ∧
      t.hoop h = { s.hoop h with job := some ⟨false, St.ok, 0, .cancel slot⟩ })) ∧
  (∀ (rq : Requester) (h : Hoop) (s : State), Accepts s rq (Obj.imageCommand h) (.num 4) none → (s.hoop h).job = none →
    let slot := s.num (Obj.imageCommandSlot h)
    let inUse := s.slotNamed h slot = true ∧ (s.num (Obj.hoopState h) = 2 ∨ s.num (Obj.hoopState h) = 3)
    (inUse → Completes (.imageClear rq h) s fun t => t.num (Obj.imageCommandStatus h) = St.notPermittedInState ∧
      t.num (Obj.imageCommandDetail h) = 0 ∧ OnlyObjects [Obj.imageCommandStatus h, Obj.imageCommandDetail h] s t) ∧
    (¬ inUse → Completes (.imageClear rq h) s fun t => t.num (Obj.imageCommandStatus h) = St.busy ∧
      t.hoop h = { s.hoop h with job := some ⟨false, St.ok, 0, .clear slot⟩ })) ∧
  (∀ (rq : Requester) (h : Hoop) (s : State), Accepts s rq (Obj.planCommand h) (.num 1) none → (s.hoop h).job = none →
    let check := s.planStatus h
    Completes (.planLoad rq h) s fun t => t.num (Obj.planCommandStatus h) = St.busy ∧ Answered rq St.ok t ∧
      (check.1 ≠ St.uncorrectable → ObjectsKept [Obj.planCommandStatus h] s t) ∧ t.mem = s.mem ∧
      t.hoop h = { s.hoop h with job := some ⟨true, check.1, check.2,
        if check.1 = St.ok then .plan ((s.staged h).take (field (s.stagedHead h) 24 4)) else .nothing⟩ }) ∧
  (∀ (rq : Requester) (h : Hoop) (s : State), Accepts s rq (Obj.planCommand h) (.num 2) none → (s.hoop h).job = none →
    let allowed := s.num (Obj.hoopState h) = 1 ∧ (s.hoop h).bound = false
    (allowed → Completes (.planUnload rq h) s fun t => t.num (Obj.planCommandStatus h) = St.busy ∧
      t.hoop h = { s.hoop h with job := some ⟨true, St.ok, 0, .unload⟩ }) ∧
    (¬ allowed → Completes (.planUnload rq h) s fun t => t.num (Obj.planCommandStatus h) = St.notPermittedInState ∧
      t.num (Obj.planCommandDetail h) = 0 ∧ OnlyObjects [Obj.planCommandStatus h, Obj.planCommandDetail h] s t)) ∧
  (∀ (rq : Requester) (h : Hoop) (s : State), (s.hoop h).job.isSome = true →
    (Accepts s rq (Obj.imageCommand h) (.num 1) none → Completes (.imageLoad rq h) s fun t =>
      Answered rq St.busy t ∧ OnlyObjects [] s t) ∧
    (Accepts s rq (Obj.planCommand h) (.num 1) none → Completes (.planLoad rq h) s fun t =>
      Answered rq St.busy t ∧ OnlyObjects [] s t)) ∧
  (∀ (h : Hoop) (s : State) (st check : Nat) (e : ImageEffect), (s.hoop h).job = some ⟨false, st, check, e⟩ →
    Completes (.imageCommandComplete h) s fun t => (t.hoop h).job = none ∧ t.mem = s.mem ∧
      t.num (Obj.imageCommandStatus h) = st ∧ t.num (Obj.imageCommandDetail h) = check ∧
      (∀ g : Hoop, g ≠ h → t.hoop g = s.hoop g) ∧
      (e = .nothing → ∀ k, t.slotImage h k = s.slotImage h k ∧ t.slotPending h k = s.slotPending h k) ∧
      (∀ k image, e = .current k image → t.slotImage h k = image ∧ t.slotPending h k = s.slotPending h k) ∧
      (∀ k image step, e = .pending k image step → image ≠ [] → t.slotPending h k = image ∧
        t.slotImage h k = s.slotImage h k ∧ t.num (Obj.slotActivateStep (16 * h + k)) = step) ∧
      (∀ k, e = .cancel k → t.slotPending h k = [] ∧ t.slotImage h k = s.slotImage h k) ∧
      (∀ k, e = .clear k → t.slotPending h k = [] ∧ t.slotImage h k = [] ∧ t.num (Obj.slotState (16 * h + k)) = 0)) ∧
  (∀ (h : Hoop) (s : State) (st check : Nat) (e : ImageEffect), (s.hoop h).job = some ⟨true, st, check, e⟩ →
    Completes (.planCommandComplete h) s fun t => (t.hoop h).job = none ∧ t.mem = s.mem ∧
      t.num (Obj.planCommandStatus h) = st ∧ t.num (Obj.planCommandDetail h) = check ∧
      (∀ p, e = .plan p → p ≠ [] → (t.hoop h).plan = p ∧ t.bytes (Obj.planHash h) = sha3Bytes p ∧
        t.num (Obj.jobDeclaredMemory h) = field p 16 8 ∧ t.num (Obj.planEntryCount h) = entryCount p) ∧
      (e = .unload → (t.hoop h).plan = [] ∧ t.bytes (Obj.planHash h) = [])) ∧
  (∀ (h : Hoop) (slot : Fin 16) (s : State),
    (s.slotDue h slot = false → exec (.pendingImageActivation h slot) s = .next s) ∧
    (s.slotDue h slot = true → Completes (.pendingImageActivation h slot) s fun t =>
      t.slotImage h slot = s.slotPending h slot ∧ t.slotPending h slot = [] ∧
      t.num (Obj.slotState (16 * h + slot)) = 1 ∧ t.mem = s.mem ∧ t.tiles = s.tiles))

/-- The scrub reads the channel's lines in ascending order and decodes each codeword; a corrected one counts in the channel and
its pins and is written back, an uncorrectable one counts in the channel and the module, and its line reads uncorrectable from
then on; a pass that read every line and stays under the thresholds clears its counts and counts as one pass; a late pass is
reported. An accepted map-out of an Active channel whose die keeps more than 64 starts its migration, or waits for the one
that runs; its end maps the channel out, lowers what the die and the module hold, marks the lines that could not be copied,
and starts the next that waits. Restore of a mapped-out channel is noted for the next power-on or cold reset, while every hoop
is Empty. (R183, R184, R185, R186, R187, R188, R190) -/
def Obligations.ScrubAndMapOut : Prop :=
  (∀ (c : Channel) (word : Bytes) (s : State),
    let run := Instr.scrubCodewordRead c word
    let line := (s.channel c).position
    let idle := s.num (Obj.channelState c) = 0 ∧ s.migrating (c / 80) = [] ∧ line < channelLines
    let bad := (s.dataLine c line).any s.memory.bad.contains = true ∨ decodeWord c line word = none
    (¬ idle → exec run s = .next s) ∧
    (idle → ¬ bad → ∀ fixed, decodeWord c line word = some (fixed, []) → Completes run s fun t =>
      (t.channel c).position = nextLine line ∧ ObjectsKept [] s t ∧ t.mem = s.mem) ∧
    (idle → ¬ bad → ∀ fixed wrong, decodeWord c line word = some (fixed, wrong) → wrong ≠ [] → Completes run s fun t =>
      t.num (Obj.channelCorrected c) = (s.num (Obj.channelCorrected c) + 1) % 2 ^ 32 ∧
      t.num (Obj.channelCorrectedPass c) = (s.num (Obj.channelCorrectedPass c) + 1) % 2 ^ 32 ∧
      (t.channel c).position = nextLine line ∧
      ObjectsKept [Obj.channelCorrected c, Obj.channelCorrectedPass c, Obj.channelWorstPin c] s t ∧
      ∀ a, (∀ l, s.dataLine c line = some l → ¬ (l * 64 ≤ a ∧ a < l * 64 + 64)) → t.mem.read a = s.mem.read a) ∧
    (idle → bad → s.manyUncorrectable c = false →
      (s.channel c).passUncorrectable < 15 → (s.channel c).times.length < 15 → Completes run s fun t =>
        t.num (Obj.channelUncorrectable c) = (s.num (Obj.channelUncorrectable c) + 1) % 2 ^ 32 ∧
        t.num Obj.scrubUncorrectable = (s.num Obj.scrubUncorrectable + 1) % 2 ^ 64 ∧
        (t.channel c).position = nextLine line ∧ (∀ l, s.dataLine c line = some l → l ∈ t.memory.bad) ∧
        ObjectsKept [Obj.channelUncorrectable c, Obj.scrubUncorrectable] s t ∧ t.mem = s.mem)) ∧
  (∀ (c : Channel) (s : State), s.num (Obj.channelState c) = 0 → s.migrating (c / 80) = [] →
    channelLines ≤ (s.channel c).position →
    s.num (Obj.channelCorrectedPass c) < s.num Obj.mapOutCorrectedThreshold → s.manyUncorrectable c = false →
    (s.channel c).pins.all (fun p => decide (p.2 < s.num Obj.mapOutPinThreshold)) = true →
    Completes (.scrubPassComplete c) s fun t => t.num (Obj.channelCorrectedPass c) = 0 ∧ t.num (Obj.channelWorstPin c) = 0xFF ∧
      t.channel c = { s.channel c with pins := [], passUncorrectable := 0, position := 0, passes := (s.channel c).passes + 1 } ∧
      ObjectsKept [Obj.channelCorrectedPass c, Obj.channelWorstPin c, Obj.scrubPassCount] s t ∧ t.mem = s.mem) ∧
  (∀ (c : Channel) (s : State),
    (s.channelLive c = true → Completes (.scrubPeriodExpiry c) s (Logs Ev.scrubLate { die := 9 + c.val / 80, unit := c } [] s)) ∧
    (s.channelLive c = false → exec (.scrubPeriodExpiry c) s = .next s)) ∧
  (∀ (rq : Requester) (c : Channel) (s : State), Accepts s rq (Obj.channelCommand c) (.num 1) none →
    let allowed := s.num (Obj.channelState c) = 0 ∧ (s.migrating (c / 80)).contains c.val = false ∧
      64 < (s.liveChannels (c / 80)).length - (s.migrating (c / 80)).length
    (allowed → s.memory.bad = [] → Completes (.channelMapOut rq c) s fun t =>
      t.num (Obj.channelCommandStatus c) = St.ok ∧ t.migrating (c / 80) = s.migrating (c / 80) ++ [c.val] ∧
      (s.migrating (c / 80) = [] → t.num (Obj.channelState c) = 1 ∧ bitAt (leNat (t.bytes Obj.mappedOutChannels)) c = true) ∧
      (s.migrating (c / 80) ≠ [] → t.num (Obj.channelState c) = 0 ∧ t.mem = s.mem) ∧ Answered rq St.ok t) ∧
    (s.num (Obj.channelState c) ≠ 0 → Completes (.channelMapOut rq c) s fun t =>
      t.num (Obj.channelCommandStatus c) = St.notPermittedInState ∧ OnlyObjects [Obj.channelCommandStatus c] s t) ∧
    (¬ allowed → Completes (.channelMapOut rq c) s fun t =>
      t.num (Obj.channelCommandStatus c) = St.notPermittedInState ∧ t.num (Obj.channelState c) = s.num (Obj.channelState c) ∧
      t.mem = s.mem)) ∧
  (∀ (m : MDie) (failed : List Nat) (s : State),
    let run := Instr.migrationComplete m failed
    (s.migrating m = [] → exec run s = .next s) ∧
    ∀ (c : Channel) (rest : List Nat), s.migrating m = c.val :: rest → rest.contains c.val = false →
      (∀ x ∈ rest, x < 640) → s.memory.bad = [] →
      (rest = [] ∨ failed = []) → Completes run s fun t =>
      t.num (Obj.channelState c) = 2 ∧ t.migrating m = rest ∧
      t.num (Obj.dieLiveChannels m) = s.num (Obj.dieLiveChannels m) - 1 ∧
      t.num (Obj.dieUsableBytes m) = s.num (Obj.dieUsableBytes m) - channelBytes ∧
      t.num Obj.memoryUsableBytes = s.num Obj.memoryUsableBytes - channelBytes ∧
      t.num Obj.channelsMappedOut = (s.num Obj.channelsMappedOut + 1) % 2 ^ 16 ∧
      (∀ next after, rest = next :: after → t.num (Obj.channelState next) = 1) ∧
      (rest = [] → Reported Ev.channelMappedOut { die := 9 + m.val, unit := c } t ∧ t.mem = s.mem ∧
        ∀ l ∈ failed, l / 2 ^ 32 = m → l % 2 ^ 32 < (s.num (Obj.dieUsableBytes m) - channelBytes) / 64 → l ∈ t.memory.bad)) ∧
  (∀ (rq : Requester) (c : Channel) (s : State), Accepts s rq (Obj.channelCommand c) (.num 2) none →
    let allowed := (∀ h : Hoop, s.num (Obj.hoopState h) = 0) ∧ bitAt (leNat (s.bytes Obj.mappedOutChannels)) c = true
    (allowed → Completes (.channelRestore rq c) s fun t => t.channel c = { s.channel c with restore := true } ∧
      t.num (Obj.channelCommandStatus c) = St.ok ∧ ObjectsKept [Obj.channelCommandStatus c] s t ∧ t.mem = s.mem ∧
      Answered rq St.ok t) ∧
    (¬ allowed → Completes (.channelRestore rq c) s fun t =>
      t.num (Obj.channelCommandStatus c) = St.notPermittedInState ∧ OnlyObjects [Obj.channelCommandStatus c] s t))

/-- A request of no bytes or of more than 2 MiB is refused; one that R198 grants gives a handle of the smallest class that holds
it, naming a buffer of a frame of the hoop that is now in use by the owner; one that it does not grant waits (Local), fails
(Plan) or is discarded and counted (peer segments). A free of a buffer in use frees it; any other is counted and reported, and
faults the hoop that holds the named frame. A waiting request that can be granted is served in the order of R200. A minimum
below a group's reserves is refused; one that the pools can back takes effect. (R193, R194, R198, R199, R200, R201, R202,
R204) -/
def Obligations.PoolsGrantAndFree : Prop :=
  (∀ (h : Hoop) (k : Fin 4) (group : Option GroupNo) (bytes : Nat) (s : State),
    let run := Instr.poolAllocate h k group bytes
    (bytes = 0 ∨ 2097152 < bytes → exec run s = .next (s.emit (.poolRefused h k St.lenExceeded))) ∧
    ∀ c, 0 < bytes → classFor bytes = some c →
      (bytes ≤ classBytes c ∧ ∀ b < c, classBytes b < bytes) ∧
      (∀ u handle, s.poolRequest h k (group.map Fin.val) c = some (u, handle) → Completes run s fun t =>
        t = u.emit (.handle h k handle) ∧ t.mem = s.mem ∧
        ∃ key f b tag, Map.get none t.pools.frames key = some f ∧ f.hoop = h ∧ f.cls = c ∧ handle = handleOf c f.logical b ∧
          Map.get none f.used b = some tag ∧ tag.owner = k) ∧
      (s.poolRequest h k (group.map Fin.val) c = none →
        (k = 0 → Completes run s fun t => t.pools.waiting = s.pools.waiting ++ [⟨h, k, group.map Fin.val, c, .plain⟩] ∧
          t.mem = s.mem) ∧
        (k = 1 → exec run s = .next (s.emit (.poolRefused h k St.capacityShortfall))) ∧
        (2 ≤ k.val → Completes run s fun t =>
          t.num Obj.segmentsDeferred = (s.num Obj.segmentsDeferred + 1) % 2 ^ 64 ∧ t.pools.waiting = s.pools.waiting ∧
          t.mem = s.mem))) ∧
  (∀ (h : Hoop) (handle : BitVec 64) (s : State),
    let frame := bits handle.toNat 31 12
    let b := handle.toNat % 2 ^ 12
    (s.frameOfLogical frame = none → s.pools.misfreed = [] → Completes (.poolFree h handle) s fun t =>
      t.num Obj.poolIntegrityErrors = (s.num Obj.poolIntegrityErrors + 1) % 2 ^ 32 ∧
      Logs Ev.poolIntegrity { hoop := h, unit := frame } [Obj.poolIntegrityErrors] s t) ∧
    ∀ key f, s.frameOfLogical frame = some (key, f) →
      let mine := f.hoop = h ∧ f.cls = bits handle.toNat 33 32 ∧ (Map.get none f.used b).isSome = true
      (mine → Completes (.poolFree h handle) s fun t => t.pools.waiting = s.pools.waiting ∧
        (∀ f', Map.get none t.pools.frames key = some f' → f' = { f with used := Map.put none f.used b none }) ∧
        KeptButReturned s t) ∧
      (¬ mine → f.hoop < 16 → s.num (Obj.hoopState f.hoop) ≠ 0 → s.pools.misfreed = [] → Completes (.poolFree h handle) s fun t =>
        t.num (Obj.hoopState f.hoop) = 6 ∧
        (s.num (Obj.hoopState f.hoop) ≠ 6 → t.num (Obj.hoopFaultCause f.hoop) = 7) ∧
        (s.work = {} → t.num Obj.poolIntegrityErrors = (s.num Obj.poolIntegrityErrors + 1) % 2 ^ 32))) ∧
  (∀ (h : Hoop) (cls : Fin 4) (s : State),
    (s.nextWaiting h cls = none → exec (.poolWaitGranted h cls) s = .next s) ∧
    ∀ r, s.nextWaiting h cls = some r →
      (s.grant h r.owner r.group cls = none → exec (.poolWaitGranted h cls) s = .next s) ∧
      ∀ u handle, s.grant h r.owner r.group cls = some (u, handle) → Completes (.poolWaitGranted h cls) s fun t =>
        t.pools.waiting = removeRequest r s.pools.waiting ∧ KeptButReturned s t ∧
        (∃ key f b tag, Map.get none t.pools.frames key = some f ∧ f.hoop = h ∧ f.cls = cls ∧ handle = handleOf cls f.logical b ∧
          Map.get none f.used b = some tag ∧ tag.owner = r.owner) ∧
        (r.purpose = .plain → t.out = .handle r.hoop r.owner handle :: s.out)) ∧
  (∀ (rq : Requester) (h : Hoop) (k cls : Fin 4) (value : BitVec 32) (s : State),
    let key := minimumKey h k cls
    let run := Instr.poolMinimumWrite rq h k cls value
    Accepts s rq key (.num value.toNat) none →
    (k = 1 → Completes run s fun t => Answered rq St.accessDenied t ∧ OnlyObjects [] s t) ∧
    (k ≠ 1 → s.num (Obj.hoopState h) = 0 → Completes run s fun t => t.num key = value.toNat ∧ Answered rq St.ok t ∧
      OnlyObjects [key, Obj.persistPending] s t) ∧
    (k ≠ 1 → s.num (Obj.hoopState h) ≠ 0 → k = 2 ∧ cls = 2 ∧ value.toNat < s.reserveSum h → Completes run s fun t =>
      Answered rq St.capacityShortfall t ∧ OnlyObjects [] s t) ∧
    (k ≠ 1 → s.num (Obj.hoopState h) ≠ 0 → ¬ (k = 2 ∧ cls = 2 ∧ value.toNat < s.reserveSum h) →
      let u := (((s.dropLatch rq key).touch key).setP key (.num value.toNat)).settleBacking h
      (u.poolsFit h = true → Completes run s fun t => t.num key = value.toNat ∧ t.num (Obj.hoopBackingFrames h) = t.backingFrames h ∧
        Answered rq St.ok t) ∧
      (u.poolsFit h = false → Completes run s fun t => Answered rq St.capacityShortfall t ∧ OnlyObjects [] s t)))

/-- Retrain takes the MAC's width and rate and puts its present ports and their enabled lanes in training; a lock time-out makes
an Auto port fall back; a finished training sets the port's state, rate, lanes and transmit order; a failed lane is reported
and retrains its port, on its healthy half where it has one. A bad frame is counted and dropped; a PFC frame pauses what it
and PortPfcMask enable until it or the pause's expiry resumes; solicitations and echo requests are answered; an advertisement
of a next hop is kept, and what waited for it leaves. (R208, R209, R210, R211, R222) -/
def Obligations.PortsTrainAndFail : Prop :=
  (∀ (rq : Requester) (n : Mac) (s : State), Accepts s rq (Obj.macCommand n) (.num 1) none →
    let four := s.num (Obj.macWidth n) = 1
    Completes (.macRetrain rq n) s fun t => t.num (Obj.macCommandStatus n) = St.ok ∧ Answered rq St.ok t ∧
      t.num (Obj.portState (2 * n)) = 2 ∧ t.num (Obj.portRate (2 * n)) = 0 ∧ t.num (Obj.portLanesActive (2 * n)) = 0 ∧
      (t.port (2 * n)).width = (if four then 4 else 8) ∧ (t.port (2 * n)).mode = s.num (Obj.macLaneRate n) ∧
      t.num (Obj.portState (2 * n + 1)) = (if four then 2 else 0) ∧ t.num (Obj.portRate (2 * n + 1)) = 0 ∧
      (∀ i < 8, t.num (Obj.laneState (8 * n + i)) = if s.flag (Obj.laneEnable (8 * n + i)) then 1 else 0) ∧ t.mem = s.mem) ∧
  (∀ (p : Port) (s : State),
    let auto := s.num (Obj.portState p) = 2 ∧ (s.port p).mode = 0
    (auto → exec (.laneLockTimeout p) s = .next (s.setPort p { s.port p with fallback := true })) ∧
    (¬ auto → exec (.laneLockTimeout p) s = .next s)) ∧
  (∀ (p : Port) (lanes : List (Nat × Bool)) (reversed : Bool) (s : State),
    (s.num (Obj.portState p) ≠ 2 → exec (.portTrainingComplete p lanes reversed) s = .next s) ∧
    (s.num (Obj.portState p) = 2 → Completes (.portTrainingComplete p lanes reversed) s fun t =>
      (t.port p).txReversed = (reversed && s.trainRate p == 400) ∧
      t.num (Obj.portState p) = (if (s.port p).half.isSome then 4 else 3) ∧
      t.num (Obj.portRate p) = s.trainRate p * (s.activeLanes p).length ∧
      t.num (Obj.portLanesActive p) = (s.activeLanes p).length ∧
      (lanes.length = (s.activeLanes p).length → ∀ l ∈ s.activeLanes p,
        t.num (Obj.laneState l) = 2 ∧ t.num (Obj.laneRate l) = s.trainRate p) ∧ t.mem = s.mem)) ∧
  (∀ (l : FabLane) (s : State),
    let a : EventArgs := { die := fDie (l / 32), unit := l }
    (s.portOfLane l = none → Completes (.fabricLaneFail l) s fun t =>
      t.num (Obj.laneState l) = 3 ∧ Logs Ev.fabricLaneFail a [Obj.laneState l] s t) ∧
    ∀ p, s.portOfLane l = some p →
      let bad (j : Nat) : Prop := j = l ∨ s.num (Obj.laneState j) = 3
      let eight := (s.port p).width = 8 ∧ s.trainRate p = 400
      (eight → ∀ k < 2, (∀ j ∈ halfLanes p k, ¬ bad j) → (∃ j ∈ halfLanes p (1 - k), bad j) → (s.port p).half ≠ some k →
        Completes (.fabricLaneFail l) s fun t => t.num (Obj.laneState l) = 3 ∧ t.num (Obj.portState p) = 2 ∧
          (t.port p).half = some k ∧ Reported Ev.fabricLaneFail a t) ∧
      (eight → (∃ j ∈ halfLanes p 0, bad j) → (∃ j ∈ halfLanes p 1, bad j) → Completes (.fabricLaneFail l) s fun t =>
        t.num (Obj.portState p) = 1 ∧ t.num (Obj.portRate p) = 0 ∧ Reported Ev.fabricLaneFail a t) ∧
      (¬ eight → Completes (.fabricLaneFail l) s fun t => t.num (Obj.portState p) = 2 ∧ Reported Ev.fabricLaneFail a t)) ∧
  (∀ (p : Port) (s : State),
    (s.portUp p = true → exec (.fabricLinkHoldExpiry p) s = .next s) ∧
    (s.portUp p = false → Completes (.fabricLinkHoldExpiry p) s fun t => ∀ c ∈ s.fabric.qps, c.2.bound = true → c.2.port = p.val →
      s.num (Obj.qpState c.1) = 1 ∨ s.num (Obj.qpState c.1) = 2 ∨ s.num (Obj.qpState c.1) = 3 →
      t.num (Obj.qpState c.1) = 4 ∧ t.num (Obj.qpErrorCause c.1) = 4)) ∧
  (∀ (p : Port) (frame : Bytes) (fcsOk icrcOk : Bool) (s : State),
    let run := Instr.fabricFrameReceived p frame fcsOk icrcOk
    let x := s.frameImplemented p frame
    let counts (k : Nat) : Prop := Completes run s fun t => t.num k = (s.num k + 1) % 2 ^ 64 ∧ ChangesObjects [k] s t
    (fcsOk = false → counts (Obj.portFcsErrors p)) ∧
    (fcsOk = true → x.1 = false → counts (Obj.portRxDiscards p)) ∧
    (fcsOk = true → x.1 = true → x.2 = true → icrcOk = false → counts (Obj.portIcrcErrors p)) ∧
    (fcsOk = true → x.1 = true → (x.2 = false ∨ icrcOk = true) → exec run s = .next s)) ∧
  (∀ (p : Port) (enabled : BitVec 8) (quanta : List Nat) (s : State),
    Completes (.pfcFrameReceived p enabled quanta) s fun t => t.mem = s.mem ∧ ∀ k < 8,
      (k ∈ (t.port p).paused ↔ if enabled.getLsbD k && bitAt (s.num (Obj.portPfcMask p)) k then quanta[k]?.getD 0 ≠ 0
        else k ∈ (s.port p).paused)) ∧
  (∀ (p : Port) (k : Fin 8) (s : State), Completes (.pfcPauseExpiry p k) s fun t => t.mem = s.mem ∧
    ∀ j, j ∈ (t.port p).paused ↔ j ≠ k.val ∧ j ∈ (s.port p).paused) ∧
  (∀ (p : Port) (target source : Bytes) (s : State),
    let own := s.bytes (Obj.portAddress p)
    let run := Instr.neighborSolicitationReceived p target source
    (own ≠ [] → target = own → exec run s =
      .next (s.emit (.icmp p (s.ipHead p source 255 0 0) 136 (own ++ beBytes 6 (Config.portMacAddress p).toNat)))) ∧
    (own = [] ∨ target ≠ own → exec run s = .next s)) ∧
  (∀ (p : Port) (target mac : Bytes) (s : State),
    let hop := ∃ c ∈ s.fabric.qps, c.2.bound = true ∧ c.2.port = p.val ∧ s.bytes (Obj.qpRemoteAddress c.1) = target
    (hop → Completes (.neighborAdvertisementReceived p target mac) s fun t =>
      (∀ m, (target, m) ∈ (t.port p).neighbours ↔ m = mac) ∧ t.mem = s.mem ∧
      (∀ y ∈ (s.port p).unsent, y.1 = target → y.2 ∈ t.out) ∧ ∀ y ∈ (t.port p).unsent, y.1 ≠ target) ∧
    (¬ hop → exec (.neighborAdvertisementReceived p target mac) s = .next s)) ∧
  (∀ (p : Port) (source payload : Bytes) (s : State),
    (s.bytes (Obj.portAddress p) = [] → exec (.echoRequestReceived p source payload) s = .next s) ∧
    (s.bytes (Obj.portAddress p) ≠ [] →
      exec (.echoRequestReceived p source payload) s = .next (s.emit (.icmp p (s.ipHead p source 64 0 0) 129 payload))))

/-- A packet of no queue pair in RTR or RTS with its origin as remote end is counted and dropped; a duplicate is acknowledged, a
gap answered with one NAK; an access that R218 forbids is answered with a NAK, counted, and puts the queue pair in Error; a
whole write into a Buffer window with write access stands in the buffer and moves the expected PSN; a read of a Buffer window
is answered with its bytes in packets of the path MTU; an opcode outside R212 puts the queue pair in Error. (R212, R213, R214,
R216, R217, R218, R222) -/
def Obligations.ResponderChecksAndPlaces : Prop :=
  ∀ (x : RdmaPacket) (s : State),
    let lost := if s.bytes (Obj.portAddress x.port) = [] then Obj.portRxDiscards x.port else Obj.portQpMisses x.port
    let miss (c : Instr) : Prop := Completes c s fun t => t.num lost = (s.num lost + 1) % 2 ^ 64 ∧ ChangesObjects [lost] s t
    (s.packetQp x.toPacketOrigin = none → miss (.rdmaWriteReceived x) ∧ miss (.rdmaReadRequestReceived x) ∧
      (implementedOpcode x.opcode.toNat = false → miss (.unsupportedOpcodeReceived x))) ∧
    (implementedOpcode x.opcode.toNat = true → exec (.unsupportedOpcodeReceived x) s = .next s) ∧
    ∀ q, s.packetQp x.toPacketOrigin = some q → x.ce = false →
      let psn := x.psn.toNat
      let e := s.expectedPsn q
      let behind := (e + 2 ^ 24 - psn) % 2 ^ 24
      let answers (t : State) (y : Signal) : Prop := s.resolved q = true → t.out = y :: s.out
      (implementedOpcode x.opcode.toNat = false → Completes (.unsupportedOpcodeReceived x) s fun t =>
        t.num (Obj.qpState q) = 4 ∧ t.num (Obj.qpErrorCause q) = 3 ∧
        t.num (Obj.qpNaksSent q) = (s.num (Obj.qpNaksSent q) + 1) % 2 ^ 64) ∧
      (∀ c, c = Instr.rdmaWriteReceived x ∨ c = Instr.rdmaReadRequestReceived x →
        (psn ≠ e → behind ≤ 2 ^ 23 → Completes c s fun t =>
          answers t (.response q (s.packetHead q) 0 ((e + 2 ^ 24 - 1) % 2 ^ 24) 0) ∧
          (t.qp q).unacked = 0 ∧ t.dict = s.dict ∧ t.mem = s.mem) ∧
        (2 ^ 23 < behind → (s.qp q).nakOpen = true → exec c s = .next s) ∧
        (2 ^ 23 < behind → (s.qp q).nakOpen = false → Completes c s fun t =>
          (t.qp q).nakOpen = true ∧ answers t (.response q (s.packetHead q) 2 e 0) ∧ t.mem = s.mem ∧
          t.num (Obj.qpNaksSent q) = (s.num (Obj.qpNaksSent q) + 1) % 2 ^ 64 ∧ ObjectsKept [Obj.qpNaksSent q] s t)) ∧
      (psn = e → x.opcode = 0x06 ∨ x.opcode = 0x0A →
        (s.windowCheck q x.address.toNat x.key.toNat x.length.toNat false = none → Completes (.rdmaWriteReceived x) s fun t =>
          t.num (Obj.qpState q) = 4 ∧ t.num (Obj.qpErrorCause q) = 2 ∧
          t.num Obj.fabricAccessViolations = (s.num Obj.fabricAccessViolations + 1) % 2 ^ 64) ∧
        ∀ w, s.windowCheck q x.address.toNat x.key.toNat x.length.toNat false = some w →
          x.data.length ≤ x.length.toNat → (x.opcode = 0x0A → x.data.length = x.length.toNat) →
          s.num (Obj.windowState w) = 2 → s.num (Obj.windowGroup w) = 0xFFFF → OwnPlan s (s.num (Obj.windowHoop w)) →
          Completes (.rdmaWriteReceived x) s fun t =>
            t.mem = (s.writePlan (s.num (Obj.windowHoop w)) (s.num (Obj.windowBuffer w)) (s.windowParity w)
              (s.num (Obj.windowBufferOffset w) + x.address.toNat) x.data).mem ∧
            t.expectedPsn q = (psn + 1) % 2 ^ 24 ∧ t.sendPsn q = s.sendPsn q ∧
            (x.opcode = 0x0A → (t.qp q).inbound = none) ∧
            (x.data ≠ [] → t.num (Obj.windowPackets w) = (s.num (Obj.windowPackets w) + 1) % 2 ^ 64)) ∧
      (psn = e →
        (s.windowCheck q x.address.toNat x.key.toNat x.length.toNat true = none → Completes (.rdmaReadRequestReceived x) s fun t =>
          t.num (Obj.qpState q) = 4 ∧ t.num (Obj.qpErrorCause q) = 2) ∧
        ∀ w, s.windowCheck q x.address.toNat x.key.toNat x.length.toNat true = some w → s.memory.bad = [] →
          OwnPlan s (s.num (Obj.windowHoop w)) →
          let data := s.readPlan (s.num (Obj.windowHoop w)) (s.num (Obj.windowBuffer w)) (s.windowParity w)
            (s.num (Obj.windowBufferOffset w) + x.address.toNat) x.length.toNat
          let pieces := mtuPieces (s.pathMtu q) (data.length + 1) data
          let n := max 1 pieces.length
          Completes (.rdmaReadRequestReceived x) s fun t => t.expectedPsn q = (psn + n) % 2 ^ 24 ∧ t.mem = s.mem ∧
            (s.resolved q = true →
              ∀ i < n, .packet q (s.packetHead q) (readOpcode i n) ((psn + i) % 2 ^ 24) 0 0 (pieces[i]?.getD []) ∈ t.out))

/-- In RTS an acknowledgement frees the packets up to its PSN; a sequence NAK and a time-out count a retry and go back, or put the
queue pair in Error at the retry count; another NAK puts it in Error; an RNR NAK holds it until its timer; a CNP halves the
rate, to no less than 1/64 of the port's, and each recovery raises it by 1/16 of the port's, to the port's; the coalescing
timer acknowledges what is unacknowledged. Outside RTS they do nothing; an answer of no queue pair is counted and dropped.
(R213, R214, R216, R222) -/
def Obligations.RequesterRetriesAndRates : Prop :=
  ∀ (x : PacketOrigin) (q : Qp) (s : State),
    let mine := s.packetQp x = some q.val
    let rts := s.num (Obj.qpState q) = 3
    let port := s.portMbit (s.qp q).port
    let lost := if s.bytes (Obj.portAddress x.port) = [] then Obj.portRxDiscards x.port else Obj.portQpMisses x.port
    let miss (c : Instr) : Prop := Completes c s fun t => t.num lost = (s.num lost + 1) % 2 ^ 64 ∧ ChangesObjects [lost] s t
    let fails (c : Instr) (cause : Nat) : Prop := Completes c s fun t =>
      t.num (Obj.qpState q) = 4 ∧ t.num (Obj.qpErrorCause q) = cause
    (∀ (psn : BitVec 24) (code : Fin 3), s.packetQp x = none → miss (.ackReceived x psn) ∧ miss (.nakReceived x psn code) ∧
      miss (.rnrNakReceived x psn) ∧ miss (.cnpReceived x)) ∧
    (∀ (psn : BitVec 24) (code : Fin 3), mine → ¬ rts → exec (.ackReceived x psn) s = .next s ∧
      exec (.nakReceived x psn code) s = .next s ∧ exec (.rnrNakReceived x psn) s = .next s ∧ exec (.cnpReceived x) s = .next s) ∧
    (¬ rts → exec (.rateRecoveryTimer q) s = .next s) ∧
    (∀ psn : BitVec 24, mine → rts →
      let known := psnReached (s.sendPsn q + 2 ^ 24 - 1) psn.toNat = true
      (¬ known → exec (.ackReceived x psn) s = .next s) ∧
      (known → (∀ y ∈ (s.qp q).sent, y.result = none) → Completes (.ackReceived x psn) s fun t =>
        (t.qp q).sent = (s.qp q).sent.filter (fun y => !psnReached psn.toNat y.psn) ∧ { t with fabric := s.fabric } = s)) ∧
    (∀ psn : BitVec 24, mine → rts →
      let u := s.freeUpTo q ((psn.toNat + 2 ^ 24 - 1) % 2 ^ 24)
      let limit := s.num (Obj.qpTimers q) / 2 ^ 8 % 8
      let rnrLimit := s.num (Obj.qpTimers q) / 2 ^ 16 % 8
      ((u.qp q).retries + 1 < limit → Completes (.nakReceived x psn 0) s fun t =>
        (t.qp q).retries = (u.qp q).retries + 1 ∧ t.num (Obj.qpState q) = 3) ∧
      (limit ≤ (u.qp q).retries + 1 → fails (.nakReceived x psn 0) 1) ∧
      fails (.nakReceived x psn 1) 3 ∧ fails (.nakReceived x psn 2) 2 ∧
      (rnrLimit = 7 ∨ (u.qp q).rnrRetries + 1 ≤ rnrLimit → Completes (.rnrNakReceived x psn) s fun t =>
        (t.qp q).held = true ∧ (t.qp q).rnrRetries = (u.qp q).rnrRetries + 1 ∧ t.num (Obj.qpState q) = 3) ∧
      (rnrLimit ≠ 7 → rnrLimit < (u.qp q).rnrRetries + 1 → fails (.rnrNakReceived x psn) 1)) ∧
    ((s.qp q).held = false → exec (.rnrTimerExpiry q) s = .next s) ∧
    ((s.qp q).held = true → Completes (.rnrTimerExpiry q) s fun t => (t.qp q).held = false ∧ t.mem = s.mem ∧
      ((s.setQp q { s.qp q with held := false }).canSend q = true → ∀ y ∈ (t.qp q).sent, y.left = true)) ∧
    ((s.qp q).sent = [] ∨ ¬ rts → exec (.rdmaLocalAckTimeout q) s = .next s) ∧
    ((s.qp q).sent ≠ [] → rts →
      ((s.qp q).retries + 1 < s.num (Obj.qpTimers q) / 2 ^ 8 % 8 → Completes (.rdmaLocalAckTimeout q) s fun t =>
        (t.qp q).retries = (s.qp q).retries + 1 ∧ t.mem = s.mem) ∧
      (s.num (Obj.qpTimers q) / 2 ^ 8 % 8 ≤ (s.qp q).retries + 1 → fails (.rdmaLocalAckTimeout q) 1)) ∧
    (mine → rts → Completes (.cnpReceived x) s fun t => t.num (Obj.qpRate q) = max (s.num (Obj.qpRate q) / 2) (port / 64) ∧
      ChangesObjects [Obj.qpRate q] s t) ∧
    (rts → Completes (.rateRecoveryTimer q) s fun t => t.num (Obj.qpRate q) = min port (s.num (Obj.qpRate q) + port / 16) ∧
      ChangesObjects [Obj.qpRate q] s t) ∧
    ((s.qp q).unacked = 0 → exec (.ackCoalesceTimer q) s = .next s) ∧
    ((s.qp q).unacked ≠ 0 → Completes (.ackCoalesceTimer q) s fun t => (t.qp q).unacked = 0 ∧ t.dict = s.dict ∧ t.mem = s.mem ∧
      (s.resolved q = true → t.out = .response q (s.packetHead q) 0 ((s.expectedPsn q + 2 ^ 24 - 1) % 2 ^ 24) 0 :: s.out))

/-- A QpCommand takes the queue pair along its row of R216 and reports ST_OK, or is refused with the status of R216. Create makes
a Free window live with a new generation and the key that names it; Delete frees it unless an operation names it. The
configuration of a window changes only while it is Free, a target only while no accepted operation names it. (R215, R216,
R217, R221, R224, R225, R226) -/
def Obligations.QueuePairsWindowsAndTargets : Prop :=
  (∀ (rq : Requester) (q : Qp) (s : State),
    let accepted (n : Nat) := Accepts s rq (Obj.qpCommand q) (.num n) none
    let st := s.num (Obj.qpState q)
    let key := Obj.qpCommandStatus q
    let refused (c : Instr) (status : Nat) : Prop := Completes c s fun t => t.num key = status ∧ Answered rq St.ok t ∧ OnlyObjects [key] s t
    (accepted 1 →
      let h := s.num (Obj.qpHoop q)
      let p := s.num (Obj.qpPort q)
      let sound := h < 16 ∧ s.num (Obj.hoopState h) ≠ 0 ∧ p < 16 ∧ p / 8 = q / 8192 ∧
        s.num (Obj.hoopQpsInUse h) < s.num (Obj.hoopQpLimit h)
      (st ≠ 0 → refused (.qpToInit rq q) St.notPermittedInState) ∧
      (st = 0 → ¬ sound → refused (.qpToInit rq q) St.accessDenied) ∧
      (st = 0 → sound → Completes (.qpToInit rq q) s fun t => t.num (Obj.qpState q) = 1 ∧ t.num key = St.ok ∧
        t.num (Obj.hoopQpsInUse h) = (s.num (Obj.hoopQpsInUse h) + 1) % 2 ^ 16 ∧
        t.qp q = { bound := true, hoop := h, port := p } ∧
        ObjectsKept [key, Obj.qpState q, Obj.hoopQpsInUse h] s t ∧ t.mem = s.mem)) ∧
    (accepted 2 →
      let sound := 2 ≤ s.num (Obj.qpRemoteQpn q) % 2 ^ 24 ∧ (s.bytes (Obj.qpRemoteAddress q)).length = 16
      (st ≠ 1 → refused (.qpToRtr rq q) St.notPermittedInState) ∧
      (st = 1 → ¬ sound → refused (.qpToRtr rq q) St.accessDenied) ∧
      (st = 1 → sound → Completes (.qpToRtr rq q) s fun t => t.num (Obj.qpState q) = 2 ∧ t.num key = St.ok ∧
        OnlyObjects [key, Obj.qpState q] s t)) ∧
    (accepted 3 →
      (st ≠ 2 → refused (.qpToRts rq q) St.notPermittedInState) ∧
      (st = 2 → Completes (.qpToRts rq q) s fun t => t.num (Obj.qpState q) = 3 ∧ t.num key = St.ok ∧
        t.num (Obj.qpRate q) = s.portMbit (s.qp q).port ∧ OnlyObjects [key, Obj.qpState q, Obj.qpRate q] s t)) ∧
    (accepted 4 → Completes (.qpToReset rq q) s fun t => t.num (Obj.qpState q) = 0 ∧ t.num key = St.ok ∧
      (st ≠ 3 → t.num (Obj.qpPsns q) = 0 ∧ t.num (Obj.qpPacketsSent q) = 0 ∧ t.num (Obj.qpPacketsReceived q) = 0 ∧
        (t.qp q).sent = [] ∧ (st ≠ 0 → t.num (Obj.hoopQpsInUse (s.qp q).hoop) = s.num (Obj.hoopQpsInUse (s.qp q).hoop) - 1) ∧
        t.mem = s.mem)) ∧
    (accepted 5 →
      (st = 1 ∨ st = 2 ∨ st = 3 → Completes (.qpToError rq q) s fun t =>
        t.num (Obj.qpState q) = 4 ∧ t.num (Obj.qpErrorCause q) = 5 ∧ t.num key = St.ok) ∧
      (st ≠ 1 → st ≠ 2 → st ≠ 3 → refused (.qpToError rq q) St.notPermittedInState))) ∧
  (∀ (rq : Requester) (w : Window) (s : State),
    let accepted (n : Nat) := Accepts s rq (Obj.windowCommand w) (.num n) none
    let h := s.num (Obj.windowHoop w)
    let st := s.num (Obj.windowState w)
    let key := Obj.windowCommandStatus w
    let live (type : Nat) (t : State) : Prop := t.num (Obj.windowState w) = type ∧ t.num key = St.ok ∧ Answered rq St.ok t ∧
      t.num (Obj.windowGeneration w) = (s.num (Obj.windowGeneration w) + 1) % 2 ^ 32 ∧
      t.num (Obj.windowRemoteKey w) = w * 2 ^ 18 + t.num (Obj.windowGeneration w) % 2 ^ 18 ∧
      t.num (Obj.windowPackets w) = 0 ∧ t.num (Obj.hoopWindowsInUse h) = (s.num (Obj.hoopWindowsInUse h) + 1) % 2 ^ 16 ∧
      t.mem = s.mem
    let refused (c : Instr) (status : Nat) : Prop := Completes c s fun t => t.num key = status ∧ OnlyObjects [key] s t
    (accepted 1 →
      let sound := h < 16 ∧ s.num (Obj.hoopState h) ≠ 0 ∧ s.bindingOk w h = true
      (st ≠ 0 → refused (.windowCreateLanding rq w) St.busy) ∧
      (st = 0 → ¬ sound → refused (.windowCreateLanding rq w) St.accessDenied) ∧
      (st = 0 → sound → Completes (.windowCreateLanding rq w) s (live 1))) ∧
    (accepted 2 →
      let p := (s.hoop h).plan
      let b := s.num (Obj.windowBuffer w)
      let hoop := h < 16 ∧ s.num (Obj.hoopState h) ≠ 0
      let sound := b < bufferCount p ∧ s.num (Obj.windowBufferOffset w) + s.num (Obj.windowLength w) ≤ (planBuffer p b).length ∧
        s.bindingOk w h = true
      (st ≠ 0 → refused (.windowCreateBuffer rq w) St.busy) ∧
      (st = 0 → ¬ hoop → refused (.windowCreateBuffer rq w) St.accessDenied) ∧
      (st = 0 → hoop → (s.hoop h).bound = false → refused (.windowCreateBuffer rq w) St.notPermittedInState) ∧
      (st = 0 → hoop → (s.hoop h).bound = true → ¬ sound → refused (.windowCreateBuffer rq w) St.accessDenied) ∧
      (st = 0 → hoop → (s.hoop h).bound = true → sound → Completes (.windowCreateBuffer rq w) s (live 2))) ∧
    (accepted 3 →
      (st = 0 → refused (.windowDelete rq w) St.notPermittedInState) ∧
      (st = 3 → refused (.windowDelete rq w) St.accessDenied) ∧
      (st ≠ 0 → st ≠ 3 → s.windowNamed w = true → refused (.windowDelete rq w) St.busy) ∧
      (st ≠ 0 → st ≠ 3 → s.windowNamed w = false → Completes (.windowDelete rq w) s fun t => t.num (Obj.windowState w) = 0 ∧
        t.num key = St.ok ∧ t.num (Obj.hoopWindowsInUse h) = s.num (Obj.hoopWindowsInUse h) - 1 ∧
        ∀ l ∈ t.work.landings, l.window ≠ w))) ∧
  (∀ (rq : Requester) (w : Window) (object : BitVec 8) (value : BitVec 64) (s : State),
    let key := packedField 0x6100 w object.toNat
    let run := Instr.windowConfigWrite rq w object value
    3 ≤ object.toNat → object.toNat ≤ 0x0A → Accepts s rq key (.num value.toNat) none →
    (s.num (Obj.windowState w) ≠ 0 → Completes run s fun t => Answered rq St.notPermittedInState t ∧ OnlyObjects [] s t) ∧
    (s.num (Obj.windowState w) = 0 → Completes run s fun t => Answered rq St.ok t ∧ OnlyObjects [key, Obj.persistPending] s t ∧
      t.num key = if object = 0x0A then value.toNat % 4 else value.toNat)) ∧
  (∀ (rq : Requester) (h : Hoop) (n : Fin 1024) (object : Fin 4) (value : BitVec 64) (s : State),
    let key := packedField 0x6900 (targetIndex h n) object
    let run := Instr.targetWrite rq h n object value
    Accepts s rq key (.num value.toNat) none →
    (s.targetNamed h n = true → Completes run s fun t => Answered rq St.busy t ∧ OnlyObjects [] s t) ∧
    (s.targetNamed h n = false → Completes run s fun t => Answered rq St.ok t ∧ t.num key = value.toNat ∧
      OnlyObjects [key, Obj.persistPending] s t))

/-- At a frame start every enabled lane sends a frame and its counter moves on, the lanes of a wale under the wale's counter. A
received pattern moves the lane along the alignment table, and counts only where the FEC is locked; InFrame, a frame that
fails R229 is counted. Bad and good input, OOF and InFrame for their times declare and clear LOS and LOF, and a late unit
declares skew. (R227, R229, R235, R239, R240, R242, R244, R246, R254, R305) -/
def Obligations.FramesAndDefects : Prop :=
  (∀ s : State, Completes .frameTransmit s fun t => t.mem = s.mem ∧
    (∀ w : Wale, s.num (Obj.waleState w) ≠ 0 → (t.wale w).tx.counter = ((s.wale w).tx.counter + 1) % 65536) ∧
    ∀ k : Lane,
      let listed (w : Wale) : Prop := s.num (Obj.waleState w) ≠ 0 ∧ k.val ∈ s.waleLanes w
      let sends (counter : Nat) : Prop := (t.lane k).tx.counter = (counter + 1) % 65536 ∧ ∃ b, .frame k (fas ++ b) ∈ t.out
      ((s.lane k).tx.enabled = false → t.lane k = s.lane k) ∧
      ((s.lane k).tx.enabled = true → s.waleOf k = none → (∀ w, ¬ listed w) → sends (s.lane k).tx.counter) ∧
      ((s.lane k).tx.enabled = true → ∀ w, listed w → (∀ v, v ≠ w → ¬ listed v) → s.waleOf k = some w.val →
        sends (s.wale w).tx.counter)) ∧
  (∀ (k : Lane) (mark : Bool) (line : Bytes) (flagged : List Nat) (s : State),
    let run := Instr.sarsiaFrameReceived k mark line flagged
    let found := line.take 6 = fas
    let marked := mark = true ∧ s.flag (Obj.lineFecLocked k) = true
    let st := s.num (Obj.lineLaneAlignState k)
    let state (n : Nat) (t : State) : Prop := t.num (Obj.lineLaneAlignState k) = n ∧ (t.lane k).rx.errored = 0 ∧ t.mem = s.mem ∧
      ObjectsKept [Obj.lineLaneAlignState k] s t
    (s.hasDefect k .los = true → exec run s = .next s) ∧
    (s.hasDefect k .los = false →
      (st = 0 → found → marked → Completes run s (state 1)) ∧
      (st = 0 → found → ¬ marked → Completes run s fun t =>
        t.num (Obj.lineLanePositionMismatch k) = (s.num (Obj.lineLanePositionMismatch k) + 1) % 2 ^ 32 ∧
        ChangesObjects [Obj.lineLanePositionMismatch k] s t) ∧
      (st = 0 → ¬ found → exec run s = .next s) ∧
      (st = 1 → found → marked → Completes run s (state 2)) ∧
      (st = 1 ∨ st = 2 → ¬ (found ∧ marked) → Completes run s (state 0)) ∧
      (st = 2 ∨ st = 3 → found → marked → s.waleOf k = none → Completes run s fun t =>
        let body := scramble (line.drop 6)
        let pass := crc16 (body.take 24) = beNat (slice body 24 2)
        t.num (Obj.lineLaneAlignState k) = 3 ∧ t.mem = s.mem ∧ t.num (Obj.lineLaneCrcErrors k) =
          (if pass then s.num (Obj.lineLaneCrcErrors k) else (s.num (Obj.lineLaneCrcErrors k) + 1) % 2 ^ 64)) ∧
      (st = 3 → ¬ (found ∧ marked) → (s.lane k).rx.errored < 4 → s.waleOf k = none → Completes run s fun t =>
        t.num (Obj.lineLaneAlignState k) = 3 ∧ (t.lane k).rx.errored = (s.lane k).rx.errored + 1 ∧ t.mem = s.mem) ∧
      (st = 3 → ¬ (found ∧ marked) → 4 ≤ (s.lane k).rx.errored → Completes run s fun t =>
        t.num (Obj.lineLaneAlignState k) = 0 ∧ t.hasDefect k .oof = true ∧
        t.num (Obj.lineLaneOofCount k) = (s.num (Obj.lineLaneOofCount k) + 1) % 2 ^ 32 ∧ t.mem = s.mem))) ∧
  (∀ (k : Lane) (s : State),
    let rx (t : State) := (t.lane k).rx.losState
    (rx s = 1 → exec (.losDeclare k) s = .next s) ∧
    (rx s ≠ 1 → Completes (.losDeclare k) s fun t => rx t = 1 ∧ t.hasDefect k .los = true ∧ t.hasDefect k .lof = false ∧
      t.hasDefect k .oof = true ∧ t.num (Obj.lineLaneAlignState k) = 0 ∧ t.mem = s.mem ∧
      (s.hasDefect k .los = false → s.waleOf k = none → Reported Ev.lineLos { die := 19 + k / 16, unit := k } t)) ∧
    (¬ (rx s = 1 ∧ s.hasOscillator k = true) → exec (.losClear k) s = .next s) ∧
    (rx s = 1 → s.hasOscillator k = true → Completes (.losClear k) s fun t => rx t = 0 ∧ t.hasDefect k .los = false ∧
      (t.optic k).apr = false ∧ t.mem = s.mem ∧
      ObjectsKept [Obj.lineLaneDefects k, Obj.lineLaneOpticalState k, Obj.lineFecMode k, Obj.lineMapFrames k] s t) ∧
    (¬ (rx s = 0 ∧ s.hasDefect k .oof = true) → exec (.lofDeclare k) s = .next s) ∧
    (rx s = 0 → s.hasDefect k .oof = true → Completes (.lofDeclare k) s fun t => rx t = 2 ∧ t.hasDefect k .lof = true ∧
      t.mem = s.mem ∧ (s.hasDefect k .lof = false → s.waleOf k = none → Reported Ev.lineLof { die := 19 + k / 16, unit := k } t)) ∧
    (¬ (rx s = 2 ∧ s.num (Obj.lineLaneAlignState k) = 3) → exec (.lofClear k) s = .next s) ∧
    (rx s = 2 → s.num (Obj.lineLaneAlignState k) = 3 → Completes (.lofClear k) s fun t => rx t = 0 ∧
      t.hasDefect k .lof = false ∧ ObjectsKept [Obj.lineLaneDefects k] s t ∧ t.mem = s.mem) ∧
    (let late := (∃ w, s.waleOf k = some w) ∧ s.num (Obj.lineLaneAlignState k) = 3 ∧ s.hasDefect k .los = false ∧
        s.hasDefect k .lof = false
     (¬ late → exec (.skewDeclare k) s = .next s) ∧
     (late → Completes (.skewDeclare k) s fun t => t.hasDefect k .skew = true ∧ t.mem = s.mem)) ∧
    (let back := s.hasDefect k .skew = true ∧ (s.int (Obj.lineLaneSkew k)).toNat + 100000 < 1000 * s.num Obj.lineSkewLimit
     (¬ back → exec (.skewClear k) s = .next s) ∧
     (back → Completes (.skewClear k) s fun t => t.hasDefect k .skew = false ∧ ChangesObjects [Obj.lineLaneDefects k] s t)))

/-- A WaleCommand that R252 allows forms the wale with its lanes, ranks and shares, adds or removes the named lane, or frees the
wale, its lanes and its sessions; one that it does not allow reports its status and changes nothing else. A member whose
conditions hold enters the transmit map, the lowest restored member takes a missing plan with the next frame, a member that
leaves is out of the map with the next frame, and a removed lane's share returns when the outstanding bytes fit without it.
(R234, R247, R248, R250, R252, R265, R268, R270, R324) -/
def Obligations.WalesAndMembership : Prop :=
  (∀ (rq : Requester) (w : Wale) (s : State),
    let accepted (n : Nat) := Accepts s rq (Obj.waleCommand w) (.num n) none
    let key := Obj.waleCommandStatus w
    let refused (c : Instr) (status : Nat) : Prop := Completes c s fun t => t.num key = status ∧ Answered rq St.ok t ∧ OnlyObjects [key] s t
    let lanes := s.waleLanes w
    let st := s.num (Obj.waleState w)
    let k := s.num (Obj.waleCommandLane w)
    (accepted 1 →
      let taken := lanes.any (fun j => (s.waleOf j).isSome || s.shareHeld j) = true
      let unsound := s.breaksR234 lanes = true ∨ s.num (Obj.waleIdentity w) = 0 ∨ s.num Obj.fabricAddress = 0
      (st ≠ 0 ∨ taken → refused (.waleCreate rq w) St.busy) ∧
      (st = 0 → ¬ taken → unsound → refused (.waleCreate rq w) St.accessDenied) ∧
      (st = 0 → ¬ taken → ¬ unsound → Completes (.waleCreate rq w) s fun t => t.num (Obj.waleState w) = 1 ∧
        t.num (Obj.repeatState w) = 1 ∧ t.num (Obj.waleTxMap w) = 0 ∧ t.num (Obj.waleTxStakes w) = 0xFFFF ∧
        t.num (Obj.repeatShareBytes w) = lanes.length * s.num Obj.repeatLaneShareBytes ∧
        (∀ j ∈ lanes, t.num (Obj.lineLaneWale j) = w ∧ t.num (Obj.lineLaneMemberIndex j) = s.memberIndex w j) ∧
        (t.wale w).sessions = [] ∧ t.num key = St.ok ∧ Answered rq St.ok t ∧ t.mem = s.mem)) ∧
    (accepted 2 →
      let taken := (s.waleOf k).isSome = true ∨ s.shareHeld k = true ∧ k ∉ (s.wale w).tx.unreturned
      let unsound := s.breaksR234 (k :: lanes) = true
      (st = 0 → refused (.waleAddLane rq w) St.notPermittedInState) ∧
      (st ≠ 0 → taken → refused (.waleAddLane rq w) St.busy) ∧
      (st ≠ 0 → ¬ taken → unsound → refused (.waleAddLane rq w) St.accessDenied) ∧
      (st ≠ 0 → ¬ taken → ¬ unsound → Completes (.waleAddLane rq w) s fun t =>
        t.num (Obj.waleLanes w) = setBit (s.num (Obj.waleLanes w)) k true ∧ t.num (Obj.lineLaneWale k) = w ∧
        k ∉ (t.wale w).tx.unreturned ∧ t.num (Obj.repeatShareBytes w) =
          ((t.waleLanes w).length + (t.wale w).tx.unreturned.length) * s.num Obj.repeatLaneShareBytes ∧
        t.num key = St.ok ∧ t.mem = s.mem)) ∧
    (accepted 3 →
      let configured := bitAt (s.num (Obj.waleLanes w)) k = true
      let last := s.num (Obj.waleTxMap w) = 2 ^ s.memberIndex w k
      (st = 0 ∨ configured ∧ last → refused (.waleRemoveLane rq w) St.notPermittedInState) ∧
      (st ≠ 0 → ¬ configured → refused (.waleRemoveLane rq w) St.accessDenied) ∧
      (st ≠ 0 → configured → ¬ last → Completes (.waleRemoveLane rq w) s fun t =>
        t.num (Obj.waleLanes w) = setBit (s.num (Obj.waleLanes w)) k false ∧ t.num (Obj.lineLaneMemberIndex k) = 0xFF ∧
        k ∈ (t.wale w).tx.unreturned ∧ t.num key = St.ok ∧ t.mem = s.mem)) ∧
    (accepted 4 →
      (st = 0 → refused (.waleDelete rq w) St.notPermittedInState) ∧
      (st ≠ 0 → Completes (.waleDelete rq w) s fun t => t.num (Obj.waleState w) = 0 ∧ (t.wale w).sessions = [] ∧
        (t.wale w).tx.outstanding = [] ∧ (t.wale w).tx.unreturned = [] ∧
        (∀ j ∈ lanes, t.num (Obj.lineLaneWale j) = 0xFF) ∧ t.num (Obj.waleTxMap w) = 0 ∧
        t.num (Obj.repeatState w) = 0 ∧ t.num key = St.ok ∧ t.mem = s.mem))) ∧
  (∀ (k : Lane) (s : State),
    (s.waleOf k = none → exec (.memberRejoin k) s = .next s ∧ exec (.stakeRestore k) s = .next s) ∧
    ∀ w, s.waleOf k = some w →
      let i := s.memberIndex w k
      let free := (s.wale w).tx.protection = true ∧ (s.restorable w).head? = some k.val
      (s.mayJoin w k = false → exec (.memberRejoin k) s = .next s) ∧
      (s.mayJoin w k = true → Completes (.memberRejoin k) s fun t => bitAt (t.num (Obj.waleTxMap w)) i = true ∧ t.mem = s.mem) ∧
      (¬ free → exec (.stakeRestore k) s = .next s) ∧
      (free → Completes (.stakeRestore k) s fun t => (t.wale w).tx.restore = some k.val ∧ { t with line := s.line } = s)) ∧
  (∀ (w : Wale) (k : Nat) (s : State), s.num (Obj.waleState w) ≠ 0 →
    let x := (s.wale w).tx
    (x.leaving = [] → x.restore = some k → x.planA ≠ none → x.planB = none → x.planA ≠ some k → Completes .frameTransmit s fun t =>
      (t.wale w).tx.planA = x.planA ∧ (t.wale w).tx.planB = some k ∧ (t.wale w).tx.protection = false ∧
      t.num (Obj.waleTxStakes w) = s.stakeObject w x.planA (some k) false) ∧
    (x.leaving = [k] → k ∈ s.mapLanes w → Completes .frameTransmit s fun t =>
      t.num (Obj.waleTxMap w) = setBit (s.num (Obj.waleTxMap w)) (s.memberIndex w k) false ∧ (t.wale w).tx.leaving = [] ∧
      (t.num (Obj.waleTxMap w) = 0 → s.num (Obj.waleState w) ≠ 1 → t.num (Obj.waleState w) = 4))) ∧
  (∀ (w : Wale) (k : Lane) (s : State),
    let fits := k.val ∈ (s.wale w).tx.unreturned ∧
      s.num (Obj.repeatTxBytes w) ≤ (s.waleLanes w).length * s.num Obj.repeatLaneShareBytes
    (¬ fits → exec (.repeatShareReturn w k) s = .next s) ∧
    (fits → Completes (.repeatShareReturn w k) s fun t =>
      (t.wale w).tx.unreturned = (s.wale w).tx.unreturned.filter (fun j => j != k.val) ∧
      t.num (Obj.repeatShareBytes w) =
        ((s.waleLanes w).length + (t.wale w).tx.unreturned.length) * s.num Obj.repeatLaneShareBytes ∧
      ObjectsKept [Obj.repeatShareBytes w] s t ∧ t.mem = s.mem))

/-- A lock sets the lane's FEC and its map frames, a loss counts; a second's evaluation adds its counts and shows the ratio. An
Established wale queues a SACK at each interval and, at most each 5 µs, for a first request, and one that waits serves; a
valid SACK takes the covered segments from the window and moves the cumulative number; guards that have passed make segments
eligible that do not wait to leave already. Silence holds an Open direction, and a hold that runs out loses it. (R254, R255,
R261, R262, R263, R264, R266) -/
def Obligations.FecAndRepeat : Prop :=
  (∀ (k : Lane) (s : State),
    Completes (.fecLock k) s (fun t => t.flag (Obj.lineFecLocked k) = true ∧
      t.num (Obj.lineFecMode k) = (if s.num (Obj.lineLaneMode k) = 0 then 1 else 2) ∧
      t.num (Obj.lineMapFrames k) = (if s.num (Obj.lineLaneMode k) = 1 then 24 else 8) ∧
      ChangesObjects [Obj.lineFecLocked k, Obj.lineFecMode k, Obj.lineMapFrames k] s t) ∧
    (s.flag (Obj.lineFecLocked k) = false → exec (.fecLockLoss k) s = .next s) ∧
    (s.flag (Obj.lineFecLocked k) = true → Completes (.fecLockLoss k) s fun t => t.flag (Obj.lineFecLocked k) = false ∧
      t.num (Obj.lineFecLockLosses k) = (s.num (Obj.lineFecLockLosses k) + 1) % 2 ^ 32 ∧
      ChangesObjects [Obj.lineFecLocked k, Obj.lineFecLockLosses k] s t) ∧
    ∀ corrected uncorrectable ber : Nat,
      let limit := s.num (Obj.lineFecDegradeThreshold k)
      let run := Instr.fecBerEvaluation k corrected uncorrectable ber
      let counts (t : State) : Prop :=
        t.num (Obj.lineFecCorrectedBits k) = (s.num (Obj.lineFecCorrectedBits k) + corrected) % 2 ^ 64 ∧
        t.num (Obj.lineFecUncorrectable k) = (s.num (Obj.lineFecUncorrectable k) + uncorrectable) % 2 ^ 64 ∧
        t.num (Obj.lineFecPreBer k) = ber % 2 ^ 32
      s.flag Obj.opticsEvictOnFecDegrade = false → Completes run s fun t => counts t ∧ t.mem = s.mem ∧
        (t.lane k).degradedSeconds = (if limit < ber then (s.lane k).degradedSeconds + 1 else 0) ∧
        (limit < ber → 9 ≤ (s.lane k).degradedSeconds → (s.lane k).degraded = false →
          (t.lane k).degraded = true ∧ Reported Ev.fecDegraded { die := 19 + k / 16, unit := k } t) ∧
        (ber < limit → 9 ≤ (s.lane k).goodSeconds → (t.lane k).degraded = false)) ∧
  (∀ (w : Wale) (s : State),
    let sack (t : State) : Prop := (t.wale w).tx.links = (if (s.wale w).tx.links.contains (0x01, []) then (s.wale w).tx.links
      else (s.wale w).tx.links ++ [(0x01, [])]) ∧ { t with line := s.line } = s
    let extra := s.established w = true ∧ (s.wale w).rx.requests ≠ [] ∧
      ∀ x, (s.wale w).rx.lastExtraSack = some x → x + 5000 ≤ s.now
    let st := s.num (Obj.repeatState w)
    (s.established w = false → exec (.periodicSack w) s = .next s) ∧
    (s.established w = true → Completes (.periodicSack w) s sack) ∧
    (¬ extra → exec (.requestedSack w) s = .next s) ∧
    (extra → Completes (.requestedSack w) s fun t => sack t ∧ (t.wale w).rx.lastExtraSack = some s.now) ∧
    (st ≠ 1 → st ≠ 3 → exec (.resendGuardScan w) s = .next s) ∧
    (st = 1 ∨ st = 3 → s.memory.bad = [] → Completes (.resendGuardScan w) s fun t => t.dict = s.dict ∧ t.mem = s.mem ∧
      ∀ x ∈ (s.wale w).tx.outstanding, s.guardOf w x ≤ s.now → (s.wale w).tx.waits x = false →
        x.counter ∈ (t.wale w).tx.resend) ∧
    (st ≠ 1 → exec (.repeatSilenceExpiry w) s = .next s) ∧
    (st = 1 → Completes (.repeatSilenceExpiry w) s fun t => t.num (Obj.repeatState w) = 2 ∧
      (t.wale w).tx.heldSince = s.now ∧ Logs Ev.repeatHeld { unit := w } [Obj.repeatState w] s t) ∧
    (st ≠ 2 → exec (.repeatDarkHoldExpiry w) s = .next s) ∧
    (st = 2 → Completes (.repeatDarkHoldExpiry w) s fun t => t.num (Obj.repeatState w) = 3 ∧
      (t.wale w).tx.outstanding = [] ∧ t.mem = s.mem) ∧
    ∀ payload : Bytes,
      (readSack payload = none ∨ st = 0 → exec (.sackReceived w payload) s = .next s) ∧
      ∀ k, readSack payload = some k → s.memory.bad = [] →
        let acknowledged (t : State) : Prop := t.num (Obj.repeatTxCumulative w) = k.cumulative ∧ t.mem = s.mem ∧
          (t.wale w).tx.outstanding = (s.wale w).tx.outstanding.filter (fun x => !k.covers x.counter)
        (st = 1 ∨ st = 3 → Completes (.sackReceived w payload) s fun t => acknowledged t ∧ t.num (Obj.repeatState w) = st) ∧
        (st = 2 → Completes (.sackReceived w payload) s fun t => acknowledged t ∧
          t.num (Obj.repeatState w) = if s.num (Obj.waleState w) = 4 then 2 else 1))

/-- A segment with a bad header is counted; one with a flagged body is counted and requested again; one of a session that is not
open is counted and accepted; one of an unknown epoch is counted; one whose tag does not verify is counted and delivers
nothing; a duplicate is counted and delivers nothing; a verified segment of VC0 or VC4 in order, and one of session 0 on the
other VCs, is accepted and delivered; a fenced origin's is accepted and not delivered. (R257, R260, R261, R271, R273, R281,
R283, R332) -/
def Obligations.SegmentsAreCheckedAndDelivered : Prop :=
  ∀ (w : Wale) (x : RxSegment) (s : State),
    let rx := (s.wale w).rx
    let run := Instr.segmentReceived w x
    let h := x.header
    let n := headerSession h
    let y := s.session w n
    let counter := headerCounter h
    let sound := x.headerFlag = false ∧ validHeader h = true ∧ x.body.length = beNat (slice h 12 2)
    let key := Map.get [] y.rxKeys (headerEpoch h)
    let counts (keys : List Nat) (k width : Nat) (t : State) : Prop :=
      t.num k = (s.num k + 1) % 2 ^ width ∧ t.mem = s.mem ∧ t.out = s.out ∧ ObjectsKept (k :: keys) s t
    rx.delineated.head? ≠ some x → rx.breakMarks = [] →
    (¬ sound → x.fixedSlot = true → Completes run s fun t =>
      t.num (Obj.segmentHeaderErrors w) = (s.num (Obj.segmentHeaderErrors w) + 1) % 2 ^ 64 ∧
      ChangesObjects [Obj.segmentHeaderErrors w] s t) ∧
    (sound → headerLink h = false →
      (x.bodyFlag = true → Completes run s fun t => counts [] (Obj.segmentsFecDiscarded w) 64 t ∧
        (rx.requests = [] → (t.wale w).rx.requests = [(counter % 2 ^ 32, (counter % 2 ^ 32 + 1) % 2 ^ 32)])) ∧
      (x.bodyFlag = false →
        (n ≠ 0 → y.state = 0 → s.isDuplicate w counter = false → s.beyondReceive w counter = false → Completes run s
          (counts [Obj.repeatRxCumulative w] (Obj.repeatSessionDiscards w) 64)) ∧
        (n = 0 ∨ y.state ≠ 0 → ¬ (n = 0 ∧ headerEpoch h = 0 ∧ s.established w = true) →
          (key = [] → seqBefore counter (s.num (Obj.repeatRxCumulative w)) = false →
            Completes run s (counts [] Obj.lineEpochUnknown 64)) ∧
          (key ≠ [] →
            let own := headerDestination h = s.num Obj.fabricAddress ∨ headerDestination h = 0
            let next := s.isDuplicate w counter = false ∧ seqDist (s.num (Obj.repeatRxCumulative w)) counter < 2 ^ 20 ∧ rx.accepted = []
            let accepted (t : State) : Prop := counter % 2 ^ 32 = s.num (Obj.repeatRxCumulative w) →
              t.num (Obj.repeatRxCumulative w) = (counter + 1) % 2 ^ 32
            Completes run s fun t => match s.openSegment w x with
              | none => t.num (Obj.lineAuthFailures w) = (s.num (Obj.lineAuthFailures w) + 1) % 2 ^ 64
              | some payload =>
                let delivered : Prop := t.out = .delivered w h payload :: s.out ∧ accepted t ∧ t.mem = s.mem
                (s.isDuplicate w counter = true → rx.lost = [] →
                  t.num (Obj.repeatRxDuplicates w) = (s.num (Obj.repeatRxDuplicates w) + 1) % 2 ^ 64 ∧
                  ChangesObjects [Obj.repeatRxDuplicates w] s t) ∧
                (next → n ≠ 0 → y.hoop < 16 → s.fencedIn y.hoop (headerOrigin h) = true → s.net.notices = [] →
                  counts [Obj.repeatRxCumulative w] (Obj.repeatSessionDiscards w) 64 t ∧ accepted t) ∧
                (next → own → n = 0 → headerVc h ≠ 0 → headerVc h ≠ 4 → delivered) ∧
                (next → own → n = 0 → headerVc h = 0 → rx.held0 = [] → rx.held4 = [] → beNat (slice h 16 4) = rx.next0 →
                  delivered ∧ (t.wale w).rx.next0 = (rx.next0 + 1) % 2 ^ 32)))))

/-- A key message of a wrong length or in a state without a row is counted and discarded; a Hello that passes its checks is kept
and answered once this end's own is out; a Reply whose signature verifies and whose secret opens installs epoch 1 and sends
Finished, one that does not ends the attempt with its status; a Finished that agrees establishes session 0. A refused attempt
starts again at its timer. (R266, R274, R275, R276, R284, R288, R327) -/
def Obligations.ModuleSessionIsEstablished : Prop :=
  ∀ (w : Wale) (s : State),
    let st := s.num (Obj.lineSession0State w)
    let v := s.wale w
    let k := v.handshake
    let discarded (c : Instr) : Prop := Completes c s fun t =>
      t.num (Obj.lineAuthFailures w) = (s.num (Obj.lineAuthFailures w) + 1) % 2 ^ 64 ∧ ChangesObjects [Obj.lineAuthFailures w] s t
    let stray (c : Instr) : Prop := k.strays.length < 15 → Completes c s fun t => t.mem = s.mem ∧
      t.num (Obj.lineHandshakeStray w) = (s.num (Obj.lineHandshakeStray w) + 1) % 2 ^ 32 ∧ ObjectsKept [Obj.lineHandshakeStray w] s t
    let refused (status : Nat) (t : State) : Prop := t.num (Obj.lineSession0State w) = 4 ∧
      t.num (Obj.lineSessionStatus w) = status ∧ Reported Ev.sessionRefused { unit := w, detail := status } t ∧ t.mem = s.mem
    let sent (kind : Nat) (payload : Bytes) (t : State) : Prop := ∃ r, (t.wale w).tx.queue.getLast? = some r ∧ r.vc = 0 ∧
      r.session = 0 ∧ r.tail.take 2 = beBytes 2 kind ∧ r.payload = payload
    (∀ p : Bytes,
      (p.length ≠ 4208 → discarded (.helloReceived w p)) ∧
      (p.length = 4208 → s.established w = true → stray (.helloReceived w p)) ∧
      (p.length = 4208 → s.established w = false → Completes (.helloReceived w p) s fun t =>
        (s.helloStatus w p ≠ St.ok → refused (s.helloStatus w p) t) ∧
        (s.helloStatus w p = St.ok → (t.wale w).handshake.peerHello = p ∧ (t.wale w).handshake.peerNode = beNat (p.take 8) ∧
          t.bytes (Obj.linePeerIdentityDigest w) = sha3Bytes (helloIdentityKey p) ∧ t.mem = s.mem ∧
          t.num (Obj.lineSession0State w) = if st = 1 then 2 else st))) ∧
    (∀ p : Bytes,
      (p.length ≠ 6195 → discarded (.replyReceived w p)) ∧
      (p.length = 6195 → s.established w = true → stray (.replyReceived w p)) ∧
      (p.length = 6195 → s.established w = false → st ≠ 2 → discarded (.replyReceived w p)) ∧
      (p.length = 6195 → s.established w = false → st = 2 → Completes (.replyReceived w p) s fun t =>
        if verifies (helloIdentityKey k.peerHello) (k.th ++ p.take 1568) "sarsia-session" (p.drop 1568) then
          match Config.mlKemDecap k.kemSeed (p.take 1568) with
          | none => refused St.authFail t
          | some _ => (t.session w 0).txEpoch = 1 ∧ (t.session w 0).rxNew = 1 ∧ (t.wale w).handshake.finishedSent = true ∧
            (k.th.length = 64 → sent 0x0103 k.th t) ∧ ObjectsKept [] s t ∧ t.mem = s.mem
        else refused St.badSignature t)) ∧
    (∀ p : Bytes,
      (p.length ≠ 64 ∨ st ≠ 2 ∨ k.finishedSent = false → discarded (.finishedReceived w p)) ∧
      (p.length = 64 → st = 2 → k.finishedSent = true → p ≠ k.th → Completes (.finishedReceived w p) s (refused St.authFail)) ∧
      (p.length = 64 → st = 2 → k.finishedSent = true → p = k.th → Completes (.finishedReceived w p) s fun t =>
        t.established w = true ∧ Map.get [] (t.session w 0).rxKeys 0 = [] ∧ Map.get [] (t.session w 0).txKeys 0 = [] ∧
        (s.num (Obj.repeatState w) = 3 → t.num (Obj.repeatState w) = 1) ∧
        ObjectsKept [Obj.lineSession0State w, Obj.repeatState w] s t ∧ t.mem = s.mem)) ∧
    (st ≠ 4 ∨ s.num (Obj.waleState w) = 0 → exec (.sessionRetryTimer w) s = .next s) ∧
    (st = 4 → s.num (Obj.waleState w) ≠ 0 → s.num Obj.fabricAddress ≠ 0 → k.peerHello = [] →
      Completes (.sessionRetryTimer w) s fun t => t.num (Obj.lineSession0State w) = 1 ∧ (t.wale w).tx.outstanding = [] ∧
        (t.session w 0).txKeys = [(0, zeroKey)] ∧ sent 0x0101 (t.wale w).handshake.hello t ∧ t.mem = s.mem)

/-- An open that fits no row is discarded and counted, one for a session in use, an unknown plan, a fenced or conflicting peer or
another mode is refused, one that agrees is bound with epoch 1 and accepted; an accept of an open offer binds it, a refusal or
a close frees the session. The session commands open, close and rekey, or report why not. A rekey offer installs the next
receive epoch and is accepted; an accept whose secret opens moves the transmit epoch on; a retire zeroises the old key. (R275,
R277, R278, R279, R280, R288, R325, R332) -/
def Obligations.HoopSessionsOpenAndRekey : Prop :=
  (∀ (w : Wale) (session : SessionNo) (s : State),
    let n := session.val
    let x := s.session w n
    let discarded (c : Instr) : Prop := Completes c s fun t =>
      t.num (Obj.lineAuthFailures w) = (s.num (Obj.lineAuthFailures w) + 1) % 2 ^ 64 ∧ ChangesObjects [Obj.lineAuthFailures w] s t
    let sent (kind : Nat) (t : State) : Prop := ∃ r, (t.wale w).tx.queue.getLast? = some r ∧ r.vc = 0 ∧ r.session = 0 ∧
      r.tail.take 2 = beBytes 2 kind
    (∀ (mode : Bool) (p : Bytes),
      let run := Instr.sessionOpenReceived w session mode p
      let plan := p.take 64
      let bad := p.length ≠ 1632 ∨ n = 0 ∨ s.established w = false
      let peer := (s.wale w).handshake.peerAddress
      let refused (status : Nat) (t : State) : Prop := sent 0x0203 t ∧ t.dict = s.dict ∧ t.mem = s.mem ∧
        ∃ r, (t.wale w).tx.queue.getLast? = some r ∧ r.payload = beBytes 2 status
      (bad → discarded run) ∧
      (¬ bad → (s.ownOffer w plan).isSome = true → s.isLow w = true → exec run s = .next s) ∧
      (¬ bad → s.ownOffer w plan = none →
        (x.state ≠ 0 → Completes run s (refused St.busy)) ∧
        (x.state = 0 → s.hoopOfPlan plan = none → (s.flag Obj.lineTransitEnable = false ∨ mode = true ∨ peer ∈ s.net.conflicts) →
          Completes run s (refused St.accessDenied)) ∧
        ∀ h, x.state = 0 → s.hoopOfPlan plan = some h →
          (s.fencedIn h peer = false → (peer ∈ s.net.conflicts ∨ s.clearEnabled h ≠ mode) → Completes run s (refused St.accessDenied)) ∧
          (s.fencedIn h peer = false → peer ∉ s.net.conflicts → s.clearEnabled h = mode → Completes run s fun t =>
            (t.session w n).state = 2 ∧ (t.session w n).hoop = h ∧ (t.session w n).clear = mode ∧
            (t.session w n).planHash = plan ∧ (t.session w n).txEpoch = 1 ∧ (t.session w n).rxNew = 1 ∧ sent 0x0202 t ∧ t.mem = s.mem))) ∧
    (∀ p : Bytes,
      let bad := p.length ≠ 1632 ∨ n = 0 ∨ x.state ≠ 1 ∨ p.take 64 ≠ x.planHash
      (bad → discarded (.sessionAcceptReceived w session p)) ∧
      (¬ bad → Completes (.sessionAcceptReceived w session p) s fun t => match Config.mlKemDecap x.offer (p.drop 64) with
        | none => t.num (Obj.lineAuthFailures w) = (s.num (Obj.lineAuthFailures w) + 1) % 2 ^ 64 ∧
          ChangesObjects [Obj.lineAuthFailures w] s t
        | some _ => (t.session w n).state = 2 ∧ (t.session w n).txEpoch = 1 ∧ (t.session w n).hoop = x.hoop ∧ t.mem = s.mem)) ∧
    (∀ p : Bytes,
      let bad := p.length ≠ 2 ∨ n = 0 ∨ x.state ≠ 1
      (bad → discarded (.sessionRefuseReceived w session p)) ∧
      (¬ bad → Completes (.sessionRefuseReceived w session p) s fun t => t.session w n = {} ∧
        t.num (Obj.lineSessionStatus w) = beNat p ∧ t.mem = s.mem)) ∧
    (∀ p : Bytes, p ≠ [] ∨ n = 0 ∨ x.state = 0 → discarded (.sessionCloseReceived w session p)) ∧
    (n ≠ 0 → x.state ≠ 0 → Completes (.sessionCloseReceived w session []) s fun t => t.session w n = {} ∧ t.mem = s.mem) ∧
    (x.state ≠ 2 → exec (.rekeyIntervalExpiry w session) s = .next s) ∧
    (x.state = 2 → x.phase = 0 → Completes (.rekeyIntervalExpiry w session) s fun t => (t.session w n).phase = 1 ∧
      sent 0x0301 t ∧ t.dict = s.dict ∧ t.mem = s.mem) ∧
    (x.state = 2 → x.phase = 2 → Completes (.rekeyIntervalExpiry w session) s fun t =>
      t.session w n = { x with rekeyDue := true } ∧ t.dict = s.dict ∧ t.mem = s.mem) ∧
    (∀ (epoch : BitVec 8) (p : Bytes),
      let e := epoch.toNat
      let noOffer := p.length ≠ 1568 ∨ x.state ≠ 2 ∨ x.rxOld ≠ 0 ∨ e ≠ nextEpoch x.rxNew
      let noAccept := p.length ≠ 1568 ∨ x.state ≠ 2 ∨ x.phase ≠ 1 ∨ e ≠ nextEpoch x.txEpoch
      let noRetire := p ≠ [] ∨ x.state ≠ 2 ∨ x.rxOld = 0 ∨ e ≠ x.rxOld
      (noOffer → discarded (.rekeyOfferReceived w session epoch p)) ∧
      (¬ noOffer → Completes (.rekeyOfferReceived w session epoch p) s fun t => (t.session w n).rxNew = e ∧
        (t.session w n).rxOld = x.rxNew ∧ Map.get [] (t.session w n).rxKeys e = epochKey (t.session w n).chainRx e ∧
        sent 0x0302 t ∧ t.dict = s.dict ∧ t.mem = s.mem) ∧
      (noAccept → discarded (.rekeyAcceptReceived w session epoch p)) ∧
      (¬ noAccept → Completes (.rekeyAcceptReceived w session epoch p) s fun t => match Config.mlKemDecap x.offer p with
        | none => (t.session w n).txEpoch = x.txEpoch ∧ (t.session w n).phase = 1 ∧ t.mem = s.mem ∧
          t.num (Obj.lineAuthFailures w) = (s.num (Obj.lineAuthFailures w) + 1) % 2 ^ 64
        | some secret => (t.session w n).txEpoch = e ∧ t.mem = s.mem ∧
          (t.session w n).chainTx = nextChain x.chainTx (leBytes 32 secret.toNat) e) ∧
      (noRetire → discarded (.rekeyRetireReceived w session epoch p)) ∧
      (¬ noRetire → Completes (.rekeyRetireReceived w session epoch p) s fun t => (t.session w n).rxOld = 0 ∧
        Map.get [] (t.session w n).rxKeys e = [] ∧ t.dict = s.dict ∧ t.mem = s.mem))) ∧
  (∀ (rq : Requester) (w : Wale) (s : State),
    let accepted (n : Nat) := Accepts s rq (Obj.lineSessionCommand w) (.num n) none
    let key := Obj.lineSessionCommandStatus w
    let refused (c : Instr) (status : Nat) : Prop := Completes c s fun t => t.num key = status ∧ Answered rq St.ok t ∧ OnlyObjects [key] s t
    let n := s.num (Obj.lineSessionCommandArg w) % 256
    let h := s.num (Obj.lineSessionCommandArg w) / 256
    let st := s.num (Obj.hoopState h)
    let ready := (st = 1 ∨ st = 2 ∨ st = 4) ∧ s.bytes (Obj.planHash h) ≠ []
    (accepted 1 →
      (16 ≤ h → refused (.lineSessionOpen rq w) St.accessDenied) ∧
      (h < 16 → ¬ ready → refused (.lineSessionOpen rq w) St.notPermittedInState) ∧
      (h < 16 → ready → s.established w = false → refused (.lineSessionOpen rq w) St.refusedNotReady) ∧
      (h < 16 → ready → s.established w = true → (∀ m : SessionNo, m ≠ 0 → (s.session w m).state ≠ 0) →
        refused (.lineSessionOpen rq w) St.busy) ∧
      (∀ m : SessionNo, h < 16 → ready → s.established w = true → m ≠ 0 → (s.session w m).state = 0 →
        (∀ j : SessionNo, j < m → j ≠ 0 → (s.session w j).state ≠ 0) → Completes (.lineSessionOpen rq w) s fun t =>
          (t.session w m).state = 1 ∧ (t.session w m).hoop = h ∧ (t.session w m).planHash = s.bytes (Obj.planHash h) ∧
          (t.session w m).clear = s.clearEnabled h ∧ t.num key = St.ok ∧ ObjectsKept [key] s t ∧ t.mem = s.mem)) ∧
    (accepted 2 →
      (n = 0 ∨ 32 < n → refused (.lineSessionClose rq w) St.accessDenied) ∧
      (n ≠ 0 → n ≤ 32 → (s.session w n).state = 0 → refused (.lineSessionClose rq w) St.notPermittedInState) ∧
      (n ≠ 0 → n ≤ 32 → (s.session w n).state ≠ 0 → Completes (.lineSessionClose rq w) s fun t => t.session w n = {} ∧
        t.num key = St.ok ∧ t.mem = s.mem)) ∧
    (accepted 3 →
      (32 < n → refused (.lineRekeyTx rq w) St.accessDenied) ∧
      (n ≤ 32 → (s.session w n).state ≠ 2 → refused (.lineRekeyTx rq w) St.notPermittedInState) ∧
      (n ≤ 32 → (s.session w n).state = 2 → (s.session w n).phase = 0 → Completes (.lineRekeyTx rq w) s fun t =>
        (t.session w n).phase = 1 ∧ t.num key = St.ok ∧ ObjectsKept [key] s t ∧ t.mem = s.mem)))

/-- A write of an enable is permitted only while the hoop is Configured or Stopped without a session; enable A needs its token,
enable B takes its coded value and reads 0 after any other. A dual-rail disagreement clears both enables of every hoop and is
reported. (R285, R288, R402, R404, R450) -/
def Obligations.ClearModeNeedsBothEnables : Prop :=
  (∀ (rq : Requester) (h : Hoop) (value : BitVec 8) (token : Token) (s : State),
    let key := Obj.lineHoopClearEnableA h
    let status := ((s.dropLatch rq key).touch key).writeStatus rq key (.num value.toNat) (some token)
    s.serves rq = true → Completes (.lineHoopClearEnableAWrite rq h value token) s fun t =>
      (status ≠ St.ok → Answered rq status t ∧ OnlyObjects [Obj.peerAccessRefusals] s t) ∧
      (status = St.ok → s.clearWritable h = false → Answered rq St.notPermittedInState t ∧ OnlyObjects [] s t) ∧
      (status = St.ok → s.clearWritable h = true → Answered rq St.ok t ∧ t.num key = value.toNat ∧
        t.num Obj.sigCounter = token.counter.toNat ∧ OnlyObjects [key, Obj.sigCounter, Obj.persistPending] s t)) ∧
  (∀ (rq : Requester) (h : Hoop) (value : BitVec 32) (s : State),
    let key := Obj.lineHoopClearEnableB h
    Accepts s rq key (.num value.toNat) none →
    (s.clearWritable h = false → Completes (.lineHoopClearEnableBWrite rq h value) s fun t =>
      Answered rq St.notPermittedInState t ∧ OnlyObjects [] s t) ∧
    (s.clearWritable h = true → Completes (.lineHoopClearEnableBWrite rq h value) s fun t => Answered rq St.ok t ∧
      t.num key = (if value.toNat = 0x5AFEC1E0 ||| h.val then value.toNat else 0) ∧
      OnlyObjects [key, Obj.persistPending] s t)) ∧
  (∀ (l : Fin 2) (s : State), Completes (.dualRailDisagreement l) s fun t =>
    (∀ h : Hoop, t.flag (Obj.lineHoopClearEnableA h) = false ∧ t.num (Obj.lineHoopClearEnableB h) = 0 ∧ t.clearEnabled h = false) ∧
    Reported Ev.cipherPathFault { die := 19 + l.val, unit := l } t ∧ t.mem = s.mem ∧ t.tiles = s.tiles ∧ t.work = s.work)

/-- The fixed VCs send the oldest link message first, then VC0, VC1, VC4: a resend before a fresh request; a fresh segment takes
the next counter and joins the window, or waits for room, and one whose keystream fails the check of R286 is not sent but
counted. On the bulk stream a pick that the deficit covers is sent and charged; with nothing to send the deficits fall to 0. A
lost direction sends nothing. A policer write that leaves an enabled meter unsound is refused; else it takes effect and fills
the meter. A sample adds one to the bins of every queue unless frozen; Clear, Freeze and Run do what they say. (R258, R259,
R264, R265, R286, R313, R314, R315, R316, R317, R320, R321) -/
def Obligations.SegmentsAreSelectedAndSampled : Prop :=
  (∀ (w : Wale) (s : State),
    let tx := (s.wale w).tx
    let closed := s.num (Obj.repeatState w) = 0 ∨ s.num (Obj.repeatState w) = 3 ∧ s.num (Obj.lineSession0State w) = 0
    let run := Instr.fixedVcSelect w
    (closed → exec run s = .next s) ∧
    (¬ closed → s.established w = true → s.num (Obj.waleState w) ≠ 4 → ∀ kind message rest, tx.links = (kind, message) :: rest →
      (2 ^ 32 ≤ (s.session w 0).sent → exec run s = .next s) ∧
      ((s.session w 0).sent < 2 ^ 32 →
        let payload := if kind = 1 then s.sackPayload w else message
        let epoch := (s.session w 0).txEpoch
        let counter := 2 ^ 63 + tx.linkCount
        let header := segmentHeader true 0 epoch 0 0 counter payload.length 0 kind (List.replicate 10 0) 0
        Completes run s fun t => t.mem = s.mem ∧ if s.cipherFault w 0 epoch counter header payload then
          t.num Obj.lineCipherPathFaults = (s.num Obj.lineCipherPathFaults + 1) % 2 ^ 32 ∧ (t.wale w).tx.links = tx.links
        else (t.wale w).tx.links = rest ∧ (t.wale w).tx.linkCount = tx.linkCount + 1 ∧
          ∃ out, (t.wale w).tx.fixed = tx.fixed ++ [⟨0, none, header ++ out⟩])) ∧
    (¬ closed → (s.established w = false ∨ s.num (Obj.waleState w) = 4 ∨ tx.links = []) →
      ((∀ vc, vc = 0 ∨ vc = 1 ∨ vc = 4 → s.selectFixed w vc = none) → exec run s = .next s) ∧
      ∀ vc, vc = 0 ∨ (vc = 1 ∧ s.selectFixed w 0 = none) ∨ (vc = 4 ∧ s.selectFixed w 0 = none ∧ s.selectFixed w 1 = none) →
        (∀ x, s.resendHead w vc = some x → Completes run s fun t => t.mem = s.mem ∧ t.dict = s.dict ∧
          (t.wale w).tx.resend = tx.resend.filter (fun q => q != x.counter) ∧ (t.wale w).tx.outstanding = tx.outstanding ∧
          ⟨x.vc, some x.counter, x.header ++ x.body ++ x.tag⟩ ∈ (t.wale w).tx.fixed ++ (t.wale w).tx.stream) ∧
        (∀ p, s.resendHead w vc = none → s.pickOwner w vc = some p →
          (s.windowRoom w vc p.request.payload.length = true → Completes run s fun t => t.mem = s.mem ∧
            if s.requestFault w p.session p.request then t.num Obj.lineCipherPathFaults = (s.num Obj.lineCipherPathFaults + 1) % 2 ^ 32 ∧
              (t.wale w).tx.queue = tx.queue ∧ (t.wale w).tx.outstanding = tx.outstanding
            else t.num (Obj.repeatTxNext w) = s.num (Obj.repeatTxNext w) + 1 ∧ ∃ x, (t.wale w).tx.outstanding = tx.outstanding ++ [x] ∧ x.counter = s.num (Obj.repeatTxNext w) ∧ x.vc = vc ∧
              x.session = p.session ∧ x.times = 0) ∧
          (s.windowRoom w vc p.request.payload.length = false → vc ∉ tx.windowFull → Completes run s fun t =>
            t.num (Obj.repeatWindowFullWaits w) = (s.num (Obj.repeatWindowFullWaits w) + 1) % 2 ^ 64 ∧
            (t.wale w).tx.outstanding = tx.outstanding ∧
            (tx.windowFull = [] → Reported Ev.repeatWindowFull { unit := w } t))))) ∧
  (∀ (w : Wale) (s : State),
    let tx := (s.wale w).tx
    let vc := tx.turn
    let closed := s.num (Obj.repeatState w) = 0 ∨ s.num (Obj.repeatState w) = 3
    let run := Instr.bulkStreamSelect w
    (closed → exec run s = .next s) ∧
    (¬ closed → vc = 2 ∨ vc = 3 → tx.queue = [] → tx.resend = [] → s.quantum w 3 < 2 ^ 32 → Completes run s fun t => t.deficit w 2 = 0 ∧ t.deficit w 3 = 0 ∧
      (t.wale w).tx.outstanding = tx.outstanding ∧ ObjectsKept [Obj.waleDeficits w] s t ∧ t.mem = s.mem) ∧
    (¬ closed → vc = 2 ∨ vc = 3 → tx.visiting = true → ∀ p, s.pickBulk w vc = some p →
      let charge := s.streamCharge w p.bytes
      charge ≤ s.deficit w vc →
      (∀ x, p = .resend x → Completes run s fun t => t.deficit w vc = s.deficit w vc - charge ∧
        (t.wale w).tx.resend = tx.resend.filter (fun q => q != x.counter) ∧ (t.wale w).tx.outstanding = tx.outstanding ∧
        ⟨x.vc, some x.counter, x.header ++ x.body ++ x.tag⟩ ∈ (t.wale w).tx.fixed ++ (t.wale w).tx.stream ∧ t.mem = s.mem) ∧
      (∀ c, p = .fresh c → s.windowRoom w vc c.request.payload.length = true → Completes run s fun t =>
        t.mem = s.mem ∧ if s.requestFault w c.session c.request then (t.wale w).tx.queue = tx.queue ∧ (t.wale w).tx.outstanding = tx.outstanding ∧
          t.num Obj.lineCipherPathFaults = (s.num Obj.lineCipherPathFaults + 1) % 2 ^ 32 ∧ t.deficit w vc = s.deficit w vc
        else t.deficit w vc = s.deficit w vc - charge ∧ t.num (Obj.repeatTxNext w) = s.num (Obj.repeatTxNext w) + 1 ∧ ∃ x, (t.wale w).tx.outstanding = tx.outstanding ++ [x] ∧ x.counter = s.num (Obj.repeatTxNext w) ∧ x.vc = vc))) ∧
  (∀ (rq : Requester) (h : Hoop) (object : BitVec 8) (value : BitVec 64) (s : State),
    let key := linearKey 0x9040 object.toNat h
    let u := s.set key (.num value.toNat)
    let unsound := u.flag (Obj.hoopPolicerEnable h) = true ∧ u.meterSound h = false
    let run := Instr.policerWrite rq h object value
    4 ≤ object.toNat → object.toNat ≤ 8 → Accepts s rq key (.num value.toNat) none →
    (unsound → Completes run s fun t => Answered rq St.accessDenied t ∧ OnlyObjects [] s t) ∧
    (¬ unsound → Completes run s fun t => Answered rq St.ok t ∧ OnlyObjects [key, Obj.persistPending] s t ∧
      t.num key = value.toNat ∧ (Map.get {} t.line.meters h).tc = t.num (Obj.hoopCbs h) * 1000000000 ∧
      (Map.get {} t.line.meters h).tp = t.num (Obj.hoopPbs h) * 1000000000)) ∧
  (∀ s : State,
    (s.num Obj.schedSampleState = 1 → exec .queueSample s = .next s) ∧
    (s.num Obj.schedSampleState ≠ 1 → Completes .queueSample s fun t =>
      t.num Obj.schedSamplesTaken = (s.num Obj.schedSamplesTaken + 1) % 2 ^ 64 ∧ t.mem = s.mem ∧
      ∀ w : Wale, (∀ v : Wale, s.num (Obj.waleState v) ≠ 0 ↔ v = w) → ∀ o < 17, ∀ vc < 5,
        let depth := ((s.wale w).tx.queue.filter fun r => r.owner == o && r.vc == vc).length
        let bins (x : State) := Map.get [] x.line.histograms (ownerHist o vc)
        Map.get 0 (bins t) (depthBin depth) = min (2 ^ 64 - 1) (Map.get 0 (bins s) (depthBin depth) + 1))) ∧
  (∀ (rq : Requester) (s : State),
    (Accepts s rq Obj.schedSampleCommand (.num 1) none → Completes (.sampleClear rq) s fun t => t.line.histograms = [] ∧
      t.num Obj.schedSamplesTaken = 0 ∧ (∀ o < 17, t.num (Obj.hoopQueueDelayMax o) = 0) ∧ Answered rq St.ok t ∧ t.mem = s.mem) ∧
    (Accepts s rq Obj.schedSampleCommand (.num 2) none → Completes (.sampleFreeze rq) s fun t =>
      t.num Obj.schedSampleState = 1 ∧ Answered rq St.ok t ∧ OnlyObjects [Obj.schedSampleState] s t) ∧
    (Accepts s rq Obj.schedSampleCommand (.num 3) none → Completes (.sampleRun rq) s fun t =>
      t.num Obj.schedSampleState = 0 ∧ Answered rq St.ok t ∧ OnlyObjects [Obj.schedSampleState] s t))

/-- A pair setting that R294 allows places the two lanes on their ends and ends their eviction; a mode, a resolution or a
frequency is written only where the lane's wale and bits allow it, and a new frequency tunes the laser until it has locked. A
selection of two present ports takes effect; a trip latches a lane on its in-package end, is counted and reported, and ends
only by ClearTrip below +6.0 dBm; a receive long in LOS reduces its launch once. A connector's presence is reported. (R22,
R291, R292, R293, R294, R295, R304, R305, R310) -/
def Obligations.LanesTakeTheirEnds : Prop :=
  (∀ (rq : Requester) (k : Pair) (value : BitVec 8) (s : State), Accepts s rq (Obj.pairSetting k) (.num value.toNat) none →
    let st := s.pairStatus k value.toNat
    let ends := pairEnds value.toNat (s.num (Obj.pairSingleEnd k))
    Completes (.pairSettingWrite rq k value) s fun t => t.num (Obj.pairCommandStatus k) = st ∧ Answered rq st t ∧ t.mem = s.mem ∧
      (st ≠ St.ok → OnlyObjects [Obj.pairCommandStatus k] s t) ∧
      (st = St.ok → t.num (Obj.pairSetting k) = value.toNat ∧ t.num (Obj.lineLaneEnd k) = ends.1 ∧
        t.num (Obj.lineLaneEnd (k + 16)) = ends.2 ∧ (t.optic k).evicted = false ∧ (t.optic (k + 16)).evicted = false)) ∧
  (∀ (rq : Requester) (k : Lane) (value : BitVec 8) (s : State),
    let mode := Obj.lineLaneMode k
    let bits := Obj.lineLaneResolution k
    let refused (c : Instr) (status : Nat) : Prop := Completes c s fun t => Answered rq status t ∧ OnlyObjects [] s t
    (Accepts s rq mode (.num value.toNat) none →
      let low := s.num bits < 6 - min 2 value.toNat
      (s.inWale k = true → refused (.lineLaneModeWrite rq k value) St.busy) ∧
      (s.inWale k = false → low → refused (.lineLaneModeWrite rq k value) St.accessDenied) ∧
      (s.inWale k = false → ¬ low → Completes (.lineLaneModeWrite rq k value) s fun t => t.num mode = value.toNat ∧
        Answered rq St.ok t ∧ OnlyObjects [mode, Obj.persistPending, Obj.lineFecLocked k, Obj.lineFecLockLosses k, Obj.lineFecMode k, Obj.lineMapFrames k] s t ∧
        (s.num mode ≠ value.toNat → t.flag (Obj.lineFecLocked k) = false ∧
          t.num (Obj.lineFecMode k) = fecOfMode value.toNat ∧ t.num (Obj.lineMapFrames k) = mapFrames value.toNat))) ∧
    (Accepts s rq bits (.num value.toNat) none →
      let low := value.toNat < 6 - min 2 (s.num mode)
      (low → refused (.lineLaneResolutionWrite rq k value) St.accessDenied) ∧
      (¬ low → Completes (.lineLaneResolutionWrite rq k value) s fun t => t.num bits = value.toNat ∧ Answered rq St.ok t ∧
        OnlyObjects [bits, Obj.persistPending] s t))) ∧
  (∀ (rq : Requester) (k : Lane) (value : BitVec 32) (s : State),
    Accepts s rq (Obj.lineLaneFrequency k) (.num value.toNat) none →
    (s.inWale k = true → Completes (.lineLaneFrequencyWrite rq k value) s fun t => Answered rq St.busy t ∧ OnlyObjects [] s t) ∧
    (s.inWale k = false → Completes (.lineLaneFrequencyWrite rq k value) s fun t => Answered rq St.ok t ∧ t.mem = s.mem ∧
      t.num (Obj.lineLaneFrequency k) = value.toNat ∧ (t.optic k).tuning = decide (s.num (Obj.lineLaneEnd k) ≠ 0))) ∧
  (∀ (k : Lane) (s : State),
    let dark := s.hasDefect k .los = true ∧ (s.optic k).apr = false
    let driven := s.num (Obj.lineLaneEnd k) = 1 ∧ k.val % 16 ∉ s.optics.tripped
    ((s.optic k).tuning = false → exec (.laserTuningComplete k) s = .next s) ∧
    ((s.optic k).tuning = true → Completes (.laserTuningComplete k) s fun t => t.optic k = { s.optic k with tuning := false } ∧
      t.mem = s.mem) ∧
    (¬ dark → exec (.aprEntry k) s = .next s) ∧
    (dark → Completes (.aprEntry k) s fun t => t.optic k = { s.optic k with apr := true } ∧ t.mem = s.mem ∧
      Reported Ev.aprActive { die := 19 + k / 16, unit := k } t) ∧
    (¬ driven → exec (.eyeSafetyTrip k) s = .next s) ∧
    (driven → Completes (.eyeSafetyTrip k) s fun t => k.val % 16 ∈ t.optics.tripped ∧ t.mem = s.mem ∧
      t.num Obj.opticsEyeSafetyTrips = (s.num Obj.opticsEyeSafetyTrips + 1) % 2 ^ 32 ∧
      Reported Ev.eyeSafetyTrip { die := 21 + k.val % 16 / 8, unit := k } t ∧
      ((s.optic k).evicted = false → t.num (Obj.lineLaneOpticalState k) = 4))) ∧
  (∀ (rq : Requester) (i : Ip) (s : State),
    let key := Obj.ipCommandStatus i
    let present := s.num (Obj.ipPortsPresent i)
    let tx := s.num (Obj.ipTxSelect i)
    let rx := s.num (Obj.ipRxSelect i)
    let held := (s.ipLane i).any s.inWale = true ∨ s.swapping i = true
    let refused (c : Instr) (status : Nat) : Prop := Completes c s fun t => t.num key = status ∧ Answered rq St.ok t ∧ OnlyObjects [key] s t
    (Accepts s rq (Obj.ipCommand i) (.num 1) none →
      let there := bitAt present tx = true ∧ bitAt present rx = true
      (held → refused (.ipSelect rq i) St.busy) ∧
      (¬ held → ¬ there → refused (.ipSelect rq i) St.refusedNotReady) ∧
      (¬ held → there → Completes (.ipSelect rq i) s fun t => t.selectors i = (tx, rx) ∧ t.num key = St.ok ∧ t.mem = s.mem)) ∧
    (Accepts s rq (Obj.ipCommand i) (.num 2) none → ∀ tap : Int,
      let high := i.val ∈ s.optics.tripped ∧ 60 ≤ tap
      (high → refused (.ipClearTrip rq i tap) St.refusedNotReady) ∧
      (¬ high → Completes (.ipClearTrip rq i tap) s fun t => i.val ∉ t.optics.tripped ∧ t.num key = St.ok ∧ t.mem = s.mem))) ∧
  (∀ (present : Bool) (s : State),
    let run (p : FibrePort) : Instr := if present then .connectorInserted p else .connectorRemoved p
    let shown (t : State) := t.num Obj.opticalConnectorsPresent
    (∀ q : Fin 8, Completes (run (.opm q)) s fun t => shown t = setBit (shown s) q present ∧
      t.num (Obj.ipPortsPresent (2 * q)) = (if present then 0x0F else 0) ∧
      t.num (Obj.ipPortsPresent (2 * q + 1)) = (if present then 0x0F else 0) ∧ t.mem = s.mem) ∧
    (∀ k : Engine, Completes (run (.bep k)) s fun t => shown t = setBit (shown s) (16 + k) present ∧ t.mem = s.mem))

/-- Commission starts a measurement of a laser that serves a lane, or of a fitted engine; its end sets the reference values and
ends a swap. Retire takes any laser but a retired one out, a free spare out of the pool. A sample joins the mean of the last
16, which the objects show. A spare that locks takes the lane over, the old laser is off for good; one that does not lock in
time is retired. (R298, R299, R300, R301, R302, R308, R311) -/
def Obligations.LasersAgeAndAreSwapped : Prop :=
  (∀ (rq : Requester) (n : Laser) (s : State),
    let refused (c : Instr) : Prop := Completes c s fun t => Answered rq St.notPermittedInState t ∧ OnlyObjects [] s t
    (Accepts s rq (Obj.laserCommand n) (.num 1) none →
      (s.servedBy n = none → refused (.laserCommission rq n)) ∧
      (s.servedBy n ≠ none → Completes (.laserCommission rq n) s fun t => Answered rq St.ok t ∧
        t.laser n = { s.laser n with commissioning := true } ∧ ObjectsKept [] s t ∧ t.mem = s.mem)) ∧
    (Accepts s rq (Obj.laserCommand n) (.num 2) none →
      (s.num (Obj.laserState n) = 5 → refused (.laserRetire rq n)) ∧
      (s.num (Obj.laserState n) ≠ 5 → s.servedBy n = none → (s.laser n).swapFor = none → Completes (.laserRetire rq n) s fun t =>
        t.num (Obj.laserState n) = 5 ∧ t.num Obj.sparesFree = s.num Obj.sparesFree - 1 ∧ Answered rq St.ok t ∧
        OnlyObjects [Obj.laserState n, Obj.sparesFree, Obj.persistPending] s t) ∧
      (s.num (Obj.laserState n) ≠ 5 → (∀ i, (s.laser n).swapFor = some i → i < 16) → Completes (.laserRetire rq n) s fun t =>
        t.num (Obj.laserState n) = 5 ∧ t.mem = s.mem))) ∧
  (∀ (rq : Requester) (k : Engine) (s : State), Accepts s rq (Obj.engineCommand k) (.num 1) none →
    Completes (.engineCommission rq k) s fun t =>
      if siteFitted k then Answered rq St.ok t ∧ t.laser (32 + k) = { s.laser (32 + k) with commissioning := true } ∧
        ObjectsKept [] s t ∧ t.mem = s.mem
      else Answered rq St.refusedNotReady t ∧ OnlyObjects [] s t) ∧
  (∀ (bias : BitVec 32) (power : Int) (s : State),
    (∀ k : Engine,
      ((s.laser (32 + k)).commissioning = false → exec (.laserCommissionComplete (.engine k) bias power) s = .next s) ∧
      ((s.laser (32 + k)).commissioning = true → Completes (.laserCommissionComplete (.engine k) bias power) s fun t =>
        t.num (Obj.engineCommissionedBias k) = bias.toNat ∧ t.num (Obj.engineCommissionedPower k) = ofSigned 32 power ∧
        (t.laser (32 + k)).commissioning = false ∧ t.mem = s.mem)) ∧
    (∀ n : Laser,
      ((s.laser n).commissioning = false → exec (.laserCommissionComplete (.bank n) bias power) s = .next s) ∧
      ((s.laser n).commissioning = true → Completes (.laserCommissionComplete (.bank n) bias power) s fun t =>
        t.num (Obj.laserCommissionedBias n) = bias.toNat ∧ t.num (Obj.laserCommissionedPower n) = ofSigned 32 power ∧
        t.laser n = { s.laser n with commissioning := false, raised := 0, swapFor := none } ∧ t.mem = s.mem ∧
        ∀ i, (s.laser n).swapFor = some i → Reported Ev.laserSwapDone { die := 23, unit := n, detail := i } t))) ∧
  (∀ (lasers engines : List (Nat × Int)) (s : State),
    let run := Instr.laserHealthSample lasers engines
    (∀ n : Laser, ∀ c, lasers[n.val]? = some c → Completes run s fun t =>
      (t.laser n).samples = (c :: (s.laser n).samples).take 16 ∧
      t.num (Obj.laserBias n) = (meanOf (t.laser n)).1 % 2 ^ 32 ∧ t.mem = s.mem) ∧
    (∀ k : Engine, ∀ c, engines[k.val]? = some c → Completes run s fun t =>
      (t.laser (32 + k)).samples = (c :: (s.laser (32 + k)).samples).take 16 ∧
      t.num (Obj.engineBias k) = (meanOf (t.laser (32 + k))).1 % 2 ^ 32)) ∧
  (∀ (n : Laser) (s : State),
    ((s.laser n).swapFor = none → exec (.spareLocked n) s = .next s ∧ exec (.spareLockTimeout n) s = .next s) ∧
    ∀ i, (s.laser n).swapFor = some i →
      let old := s.num (Obj.ipLaser i)
      (old = n → exec (.spareLocked n) s = .next s ∧ exec (.spareLockTimeout n) s = .next s) ∧
      (old ≠ n → i < 16 → old < 20 → Completes (.spareLocked n) s fun t => t.num (Obj.laserState old) = 5 ∧ t.num (Obj.ipLaser i) = n ∧
        t.num (Obj.laserState n) = 1 ∧ (t.laser n).commissioning = true ∧ t.mem = s.mem) ∧
      (old ≠ n → i < 16 → Completes (.spareLockTimeout n) s fun t => t.num (Obj.laserState n) = 5 ∧ t.mem = s.mem))

/-- FabricAddress takes a non-zero value while every hoop is Empty. A Hello and a newer LinkState refresh the announcement of
their sender; an announcement that ends, a LinkState that expires and an own LinkState leave the routes computed from the
database; a LinkState goes on over every other usable wale. A qualifying lane joins the auto-bonded wale to its peer, or forms
one in the lowest Free slot; others do nothing. (R324, R325, R326, R327, R328) -/
def Obligations.AddressesRoutesAndAutoBonds : Prop :=
  (∀ (rq : Requester) (value : FabAddr) (s : State),
    let run := Instr.fabricAddressWrite rq value
    Accepts s rq Obj.fabricAddress (.num value.toNat) none →
    (value = 0 → Completes run s fun t => Answered rq St.accessDenied t ∧ OnlyObjects [] s t) ∧
    (value ≠ 0 → (∃ h : Hoop, s.num (Obj.hoopState h) ≠ 0) → Completes run s fun t =>
      Answered rq St.notPermittedInState t ∧ OnlyObjects [] s t) ∧
    (value ≠ 0 → (∀ h : Hoop, s.num (Obj.hoopState h) = 0) → Completes run s fun t => Answered rq St.ok t ∧
      t.num Obj.fabricAddress = value.toNat ∧ t.mem = s.mem ∧ ∀ w : Wale, s.num Obj.fabricAddress = 0 →
        s.num (Obj.waleTxMap w) ≠ 0 → s.num (Obj.lineSession0State w) = 0 → t.num (Obj.lineSession0State w) ≠ 0)) ∧
  (∀ (w : Wale) (p : Bytes) (s : State),
    let bad := p.length ≠ 24 ∨ beNat (p.take 8) ≠ (s.wale w).handshake.peerNode
    (bad → exec (.fabricHelloReceived w p) s = .next s) ∧
    (¬ bad → Completes (.fabricHelloReceived w p) s fun t => t.mem = s.mem ∧ ObjectsKept eventKeys s t ∧
      ∀ a ∈ t.net.announcements, a.node = beNat (p.take 8) → a.address = beNat (slice p 8 2) →
        a.health = beNat (slice p 10 2) ∧ a.heard = s.now)) ∧
  (∀ (w : Wale) (p : Bytes) (s : State),
    let run := Instr.linkStateReceived w p
    (readLinkState p s.now = none → exec run s = .next s) ∧
    ∀ x, readLinkState p s.now = some x →
      let stale := x.node = nodeIdentity ∨ ∃ y ∈ s.net.linkStates, y.node = x.node ∧ x.seq ≤ y.seq
      (stale → exec run s = .next s) ∧
      (¬ stale → Completes run s fun t => t.mem = s.mem ∧ ObjectsKept eventKeys s t ∧
        (∀ y, y ∈ t.net.linkStates ↔ y = x ∨ y ∈ s.net.linkStates ∧ y.node ≠ x.node) ∧
        t.net.routes = t.bestPaths.map (fun q => ⟨q.address, q.wale, q.hops, q.cost⟩) ∧
        (p.length ≤ 16384 → ∀ v ∈ s.usableWales, v ≠ w →
          ∃ r ∈ (t.wale v).tx.queue, r.vc = 4 ∧ r.tail.take 2 = beBytes 2 0x0402 ∧ r.payload = p))) ∧
  (∀ s : State, Completes .linkStateOriginate s fun t => t.mem = s.mem ∧ ObjectsKept eventKeys s t ∧
    t.net.lsaSequence = (s.net.lsaSequence + 1) % 2 ^ 32 ∧
    t.net.routes = t.bestPaths.map (fun q => ⟨q.address, q.wale, q.hops, q.cost⟩) ∧
    ∀ v ∈ s.usableWales, ∃ r ∈ (t.wale v).tx.queue, r.vc = 4 ∧ r.tail.take 2 = beBytes 2 0x0402 ∧
      r.payload = s.linkStatePayload ((s.net.lsaSequence + 1) % 2 ^ 32)) ∧
  (∀ (origin : BitVec 64) (s : State), Completes (.linkStateExpiry origin) s fun t => t.mem = s.mem ∧ ObjectsKept eventKeys s t ∧
    t.net.linkStates = s.net.linkStates.filter (fun y => y.node != origin.toNat) ∧
    t.net.routes = t.bestPaths.map (fun q => ⟨q.address, q.wale, q.hops, q.cost⟩)) ∧
  (∀ (address : FabAddr) (node : BitVec 64) (s : State), Completes (.addressConflictEnd address node) s fun t =>
    t.mem = s.mem ∧ ObjectsKept eventKeys s t ∧
    (∀ a, a ∈ t.net.announcements ↔ a ∈ s.net.announcements ∧ ¬ (a.node = node.toNat ∧ a.address = address.toNat)) ∧
    (address ≠ 0 → (address.toNat ∈ t.net.conflicts ↔ t.conflicted address.toNat = true))) ∧
  (∀ (k : Lane) (s : State),
    let peer := beNat ((s.lane k).rx.counted.take 8)
    let leads (w : Nat) : Prop := s.num (Obj.waleState w) ≠ 0 ∧ s.num (Obj.walePeerNode w) = peer ∧
      s.num (Obj.lineLaneMode ((s.waleLanes w).headD 0)) = s.num (Obj.lineLaneMode k)
    (s.qualifies k = false → exec (.autoBond k) s = .next s) ∧
    (∀ w : Wale, s.qualifies k = true → s.net.autoWales = [w.val] → leads w → s.shareHeld k = false →
      s.breaksR234 (k.val :: s.waleLanes w) = false → Completes (.autoBond k) s fun t =>
        bitAt (t.num (Obj.waleLanes w)) k = true) ∧
    (∀ w : Wale, s.qualifies k = true → (∀ v ∈ s.net.autoWales, ¬ leads v) → s.num (Obj.waleState w) = 0 →
      (∀ v : Wale, v < w → s.num (Obj.waleState v) ≠ 0) → s.shareHeld k = false → s.breaksR234 [k.val] = false →
      Completes (.autoBond k) s fun t => t.num (Obj.waleState w) = 1 ∧ t.num (Obj.waleLanes w) = 2 ^ k.val ∧
        t.num (Obj.walePeerNode w) = peer ∧ t.num (Obj.lineLaneWale k) = w ∧ w.val ∈ t.net.autoWales ∧ t.mem = s.mem))

/-- A heartbeat goes out on every wale with an established session 0; one received ends its sender's suspicion and keeps its
reports; a silent peer becomes suspected, with an event where a group watches it. HealthScore is 1000 less the penalties; a
score under the threshold for 60 s proposes expulsion, or is held back; a proposal of another module is recorded and passed
on. Shadow mode starts from Off and stops; a digest that differs resets the matched steps and is reported. (R329, R330, R335,
R336, R337, R338) -/
def Obligations.HeartbeatsHealthAndShadow : Prop :=
  (∀ s : State, Completes .heartbeatSend s fun t => t.mem = s.mem ∧ ObjectsKept eventKeys s t ∧ ∀ w : Wale,
    let beat := (Map.get 0 s.net.beats w + 1) % 2 ^ 32
    (s.established w = false → t.wale w = s.wale w) ∧
    (s.established w = true → Map.get 0 t.net.beats w = beat ∧
      (t.wale w).tx.links = (s.wale w).tx.links ++ [(0x10, s.heartbeat w beat)])) ∧
  (∀ (w : Wale) (p : Bytes) (s : State),
    let n := beNat (slice p 16 1)
    let address := beNat (slice p 8 2)
    let bad := 32 < n ∨ p.length ≠ 24 + 16 * n ∨ beNat (p.take 8) ≠ (s.wale w).handshake.peerNode
    (bad → exec (.heartbeatReceived w p) s = .next s) ∧
    (¬ bad → Completes (.heartbeatReceived w p) s fun t => t.mem = s.mem ∧ ObjectsKept eventKeys s t ∧
      Map.get none t.net.lastBeat address = some s.now ∧ Map.get none t.net.suspected address = none ∧
      ∀ c, n = 1 → (s.openSessions w).find? (fun c => c.1 == beNat (slice p 24 1)) = some c →
        (∃ r ∈ t.net.reports, r.address = address ∧ r.hoop = c.2 ∧ r.partition = beNat (slice p 25 1) ∧
          r.epoch = beNat (slice p 28 4) ∧ r.counter = beNat (slice p 32 4)) ∧
        (s.num (Obj.hoopEpoch c.2) < beNat (slice p 28 4) →
          Reported Ev.epochAhead { hoop := c.2, unit := address, detail := beNat (slice p 28 4) } t))) ∧
  (∀ (peer : FabAddr) (s : State),
    let known := (Map.get none s.net.suspected peer.toNat).isSome = true
    (known → exec (.peerSuspect peer) s = .next s) ∧
    (¬ known → Completes (.peerSuspect peer) s fun t => Map.get none t.net.suspected peer.toNat = some s.now ∧
      (s.watched peer.toNat = true → Logs Ev.peerSuspect { unit := peer.toNat } [] s t) ∧
      (s.watched peer.toNat = false → t.dict = s.dict ∧ t.mem = s.mem))) ∧
  (∀ s : State,
    let score := 1000 - s.healthPenalty
    let low := score < s.num Obj.healthExpelThreshold
    let site := siteOf (s.num Obj.fabricAddress)
    let recent := ∃ p, Map.get none s.net.proposals site = some p ∧ s.now < p.1 + s.num Obj.healthExpelInterval * 1000000000
    Completes .healthScoreUpdate s fun t => t.num Obj.healthScore = score ∧ t.mem = s.mem ∧
      (¬ low → t.net.belowSince = none ∧ ObjectsKept [Obj.healthScore] s t) ∧
      (low → s.net.belowSince = none → t.net.belowSince = some s.now ∧ ObjectsKept [Obj.healthScore] s t) ∧
      (∀ since, low → s.net.belowSince = some since →
        (s.now < since + 60000000000 → ObjectsKept [Obj.healthScore] s t) ∧
        (since + 60000000000 ≤ s.now → ¬ recent →
          t.num Obj.expelProposals = (s.num Obj.expelProposals + 1) % 2 ^ 32 ∧ Reported Ev.expelProposed { detail := score } t ∧
          Map.get none t.net.proposals site = some (s.now, s.num Obj.fabricAddress) ∧
          ∀ v ∈ s.usableWales, ∃ r ∈ (t.wale v).tx.queue, r.vc = 4 ∧ r.tail.take 2 = beBytes 2 0x0406) ∧
        (∀ p, since + 60000000000 ≤ s.now → Map.get none s.net.proposals site = some p →
          s.now < p.1 + s.num Obj.healthExpelInterval * 1000000000 → p.2 ≠ s.num Obj.fabricAddress → s.net.heldBack = false →
          t.num Obj.expelSuppressed = (s.num Obj.expelSuppressed + 1) % 2 ^ 32 ∧ Reported Ev.expelSuppressed {} t))) ∧
  (∀ (w : Wale) (p : Bytes) (s : State),
    let address := beNat (p.take 2)
    let held := Map.get none s.net.proposals (siteOf address)
    let seen := ∃ x, held = some x ∧ s.now < x.1 + 1000000000 ∧ x.2 ≤ address
    let ignored := p.length ≠ 8 ∨ (∃ h : Hoop, s.fencedIn h address = true) ∨ address = s.num Obj.fabricAddress ∨ seen
    (ignored → exec (.expelProposalReceived w p) s = .next s) ∧
    (¬ ignored → Completes (.expelProposalReceived w p) s fun t => t.mem = s.mem ∧ ObjectsKept eventKeys s t ∧
      Map.get none t.net.proposals (siteOf address) = some (s.now, address) ∧
      ∀ v ∈ s.usableWales, v ≠ w → ∃ r ∈ (t.wale v).tx.queue, r.vc = 4 ∧ r.tail.take 2 = beBytes 2 0x0406 ∧ r.payload = p)) ∧
  (∀ (rq : Requester) (h : Hoop) (s : State),
    let key := Obj.shadowState h
    (Accepts s rq (Obj.shadowCommand h) (.num 1) none →
      (s.num key ≠ 0 → Completes (.shadowStart rq h) s fun t => Answered rq St.notPermittedInState t ∧ OnlyObjects [] s t) ∧
      (s.num key = 0 → Completes (.shadowStart rq h) s fun t => Answered rq St.ok t ∧ t.num key = 1 ∧ OnlyObjects [key] s t)) ∧
    (Accepts s rq (Obj.shadowCommand h) (.num 2) none → Completes (.shadowStop rq h) s fun t =>
      Answered rq St.ok t ∧ t.num key = 0 ∧ OnlyObjects [key] s t)) ∧
  (∀ (w : Wale) (p : Bytes) (s : State),
    let g := beNat (slice p 2 2)
    let seq := beNat (slice p 4 4)
    let i := beNat (slice p 8 4)
    let h := s.hoopOfGroup g
    let bad := p.length ≠ 80 ∨ 4096 ≤ g ∨ s.num (Obj.groupState g) = 0 ∨ s.num (Obj.partitionState h) ≠ 0
    let own := (s.hoop h).digests.find? fun d => (d.2.1, d.2.2.1, d.2.2.2.1) == (g, seq, i)
    (bad → exec (.shadowDigestReceived w p) s = .next s) ∧
    (¬ bad → own = none → Completes (.shadowDigestReceived w p) s fun t => t.dict = s.dict ∧ t.mem = s.mem ∧
      (g, seq, i, p.drop 16) ∈ (t.hoop h).shadowDigests) ∧
    (∀ d, ¬ bad → h < 16 → own = some d → d.2.2.2.2 ≠ p.drop 16 → Completes (.shadowDigestReceived w p) s fun t => t.mem = s.mem ∧
      t.num (Obj.shadowMismatches h) = (s.num (Obj.shadowMismatches h) + 1) % 2 ^ 32 ∧ t.num (Obj.shadowMatchedSteps h) = 0 ∧
      Logs Ev.shadowMismatch { hoop := h, unit := g, detail := i } [Obj.shadowMismatches h, Obj.shadowMatchedSteps h] s t))

/-- A SideDeclare of the hoop's epoch that names this module's site makes a Joined hoop Autonomous on that side from its base
step, or splits a hoop more than one step ahead; an Autonomous hoop takes the smaller side. The leader of a side declares it
once a site has been cut off. A Merge reconciles the autonomous steps of both sides, or splits the hoop where they exceed its
window; with every step reconciled the hoop is Joined. A FenceRecord of a higher epoch is kept and breaks groups with fenced
members; a verified notice that names this module faults its hoop with cause 9. (R332, R333, R340, R341, R342, R343, R344) -/
def Obligations.PartitionMergeAndFence : Prop :=
  (∀ (w : Wale) (h : Hoop) (p : Bytes) (s : State),
    let run := Instr.sideDeclareReceived w h p
    let state := s.num (Obj.partitionState h)
    let c := s.num (Obj.outerStepCounter h)
    let sites := beNat (slice p 4 2)
    let b := beNat (slice p 8 4)
    let live := s.num (Obj.hoopState h) = 2 ∨ s.num (Obj.hoopState h) = 3
    let acts := p.length = 16 ∧ beNat (p.take 4) = s.num (Obj.hoopEpoch h) ∧ s.num (Obj.hoopAutonomousWindow h) ≠ 0 ∧ live ∧
      bitAt sites (siteOf (s.ownAddress h)) = true
    (¬ acts ∨ 2 ≤ state → exec run s = .next s) ∧
    (acts → state = 1 → TilesExist s → Completes run s fun t => t.num (Obj.partitionSide h) = sites ∧ t.num (Obj.partitionState h) = 1 ∧
      t.num (Obj.partitionBaseStep h) = s.num (Obj.partitionBaseStep h)) ∧
    (acts → state = 0 → c < b → exec run s = .next s) ∧
    (acts → state = 0 → b + 1 < c → Completes run s fun t => t.num (Obj.partitionState h) = 3 ∧ t.num (Obj.hoopState h) = 5 ∧
      ChangesObjects [Obj.partitionState h, Obj.hoopState h] s t) ∧
    (acts → state = 0 → b = c → TilesExist s → s.memory.bad = [] → Completes run s fun t => t.num (Obj.partitionState h) = 1 ∧
      t.num (Obj.partitionSide h) = sites ∧ t.num (Obj.partitionBaseStep h) = b ∧ t.num (Obj.outerStepCounter h) = c) ∧
    (acts → state = 0 → b + 1 = c → QuietHoop s h → (s.hoop h).retained = [] → Completes run s fun t =>
      t.num (Obj.partitionState h) = 1 ∧ t.num (Obj.partitionSide h) = sites ∧ t.num (Obj.partitionBaseStep h) = b ∧
      t.num (Obj.outerStepCounter h) = b ∧ t.num (Obj.autonomousSteps h) = 1)) ∧
  (∀ (h : Hoop) (site : Fin 16) (s : State),
    let run := Instr.partitionHoldExpiry h site
    let state := s.num (Obj.partitionState h)
    let own := s.ownAddress h
    let members := s.siteMembers h site
    let sites := s.sideWithout h site &&& s.currentSide h
    let live := s.num (Obj.hoopState h) = 2 ∨ s.num (Obj.hoopState h) = 3
    let acts := s.num (Obj.hoopAutonomousWindow h) ≠ 0 ∧ live ∧ state < 2 ∧ members ≠ [] ∧
      (∀ a ∈ members, (Map.get none s.net.suspected a).isSome = true) ∧ site.val ≠ siteOf own ∧
      bitAt (s.currentSide h) site = true ∧ lowest (s.sideMembers h sites) = some own
    (¬ acts → exec run s = .next s) ∧
    (acts → bitAt sites (siteOf own) = true → state = 1 → TilesExist s → Completes run s fun t =>
      t.num (Obj.partitionSide h) = sites ∧ t.num (Obj.partitionState h) = 1) ∧
    (acts → bitAt sites (siteOf own) = true → state = 0 → TilesExist s →
      (∀ a ∈ s.sideMembers h sites, s.counterOf h a = s.num (Obj.outerStepCounter h)) → Completes run s fun t =>
        t.num (Obj.partitionState h) = 1 ∧ t.num (Obj.partitionSide h) = sites ∧
        t.num (Obj.partitionBaseStep h) = s.num (Obj.outerStepCounter h))) ∧
  (∀ (w : Wale) (h : Hoop) (p : Bytes) (s : State),
    let run := Instr.mergeReceived w h p
    let state := s.num (Obj.partitionState h)
    let base := beNat (slice p 8 4)
    let highest := beNat (slice p 12 4)
    let acts := p.length = 16 ∧ beNat (p.take 4) = s.num (Obj.hoopEpoch h) ∧ (state = 1 ∨ state = 3)
    let split := state = 3 ∨ (∃ r ∈ s.net.reports, r.hoop = h ∧ r.partition = 3 ∧ r.address ∈ s.hoopMembers h) ∨
      s.num (Obj.hoopAutonomousWindow h) < highest + 1 - base
    (¬ acts → exec run s = .next s) ∧
    (acts → split → Completes run s fun t => t.num (Obj.partitionState h) = 3 ∧
      ChangesObjects [Obj.partitionState h, Obj.hoopState h] s t) ∧
    (acts → ¬ split → QuietHoop s h → (s.hoop h).retained = [] → Completes run s fun t => t.num (Obj.partitionState h) = 2 ∧
      (t.hoop h).reconcile = some ⟨base, highest, 0xFFFF⟩)) ∧
  (∀ (h : Hoop) (s : State),
    let state := s.num (Obj.partitionState h)
    let sites := s.num (Obj.partitionSide h)
    let mine := s.sideMembers h sites
    let others := (s.hoopMembers h).filter fun a => !bitAt sites (siteOf a) && (Map.get none s.net.suspected a).isNone
    let acts := (state = 1 ∨ state = 3) ∧ lowest mine = some (s.ownAddress h) ∧ ∃ b, lowest others = some b ∧ s.ownAddress h ≤ b
    (¬ acts → exec (.mergeHoldExpiry h) s = .next s) ∧
    (acts → QuietHoop s h → (s.hoop h).retained = [] → Completes (.mergeHoldExpiry h) s fun t =>
      t.num (Obj.partitionState h) = 2 ∨ t.num (Obj.partitionState h) = 3) ∧
    (acts → state = 3 → Completes (.mergeHoldExpiry h) s fun t => t.num (Obj.partitionState h) = 3 ∧ t.mem = s.mem)) ∧
  (∀ (h : Hoop) (s : State),
    let done := ∃ c, (s.hoop h).reconcile = some c ∧ c.highest < s.num (Obj.outerStepCounter h)
    let acts := s.num (Obj.partitionState h) = 2 ∧ s.redoing h = false ∧ s.autonomousLeft h = false ∧ done
    let state := s.num (Obj.hoopState h)
    (¬ acts → exec (.reconciliationComplete h) s = .next s) ∧
    (acts → state ≠ 3 → Completes (.reconciliationComplete h) s fun t => t.num (Obj.partitionState h) = 0 ∧
      t.num (Obj.autonomousSteps h) = 0 ∧ t.num (Obj.shadowMatchedSteps h) = 0 ∧ (t.hoop h).reconcile = none ∧
      t.num (Obj.hoopState h) = (if state = 5 then 2 else state) ∧ Reported Ev.reconciled { hoop := h } t ∧ t.mem = s.mem)) ∧
  (∀ (rq : Requester) (h : Hoop) (record : Bytes) (token : Token) (s : State),
    let key := Obj.fenceRecord h
    let status := ((s.dropLatch rq key).touch key).writeStatus rq key (.blob record) (some token)
    s.serves rq = true → Completes (.fenceRecordWrite rq h record token) s fun t =>
      (status ≠ St.ok → Answered rq status t ∧ OnlyObjects [Obj.peerAccessRefusals] s t) ∧
      (status = St.ok → readFence record = none → Answered rq St.accessDenied t ∧ OnlyObjects [] s t) ∧
      (∀ epoch sites fenced, status = St.ok → readFence record = some (epoch, sites, fenced) →
        (epoch ≤ s.num (Obj.hoopEpoch h) → Answered rq St.fenced t ∧ OnlyObjects [] s t) ∧
        (s.num (Obj.hoopEpoch h) < epoch → QuietHoop s h → s.pools.misfreed = [] → s.num (Obj.hoopState h) ≠ 5 →
          s.num (Obj.partitionState h) ≠ 2 → Answered rq St.ok t ∧ t.num (Obj.hoopEpoch h) = epoch ∧ t.bytes key = record ∧
          t.bytes (Obj.fenceList h) = record.drop 8 ∧ t.num Obj.sigCounter = token.counter.toNat ∧
          ∀ g ∈ s.groupsOf h, s.num (Obj.groupState g) = 1 → (∃ a ∈ (s.group g).members, a ∈ fenced) →
            t.num (Obj.groupState g) = 2))) ∧
  (∀ (w : Wale) (record : Bytes) (token : Token) (s : State),
    let h := token.index.toNat - 0xA020
    let key := s.bytes (Obj.hoopControllerKey h)
    let run := Instr.fenceNoticeReceived w record token
    let fits := 0xA020 ≤ token.index.toNat ∧ token.index.toNat < 0xA030 ∧ token.sub = 1 ∧ key ≠ [] ∧
      ∃ epoch sites fenced, readFence record = some (epoch, sites, fenced) ∧ s.num Obj.fabricAddress ∈ fenced ∧
        s.num (Obj.hoopEpoch h) < epoch
    (¬ fits → exec run s = .next s) ∧
    (fits → Completes run s fun t =>
      if verifies key (tokenHead token ++ record) "penrel-sig" token.signature then
        (s.num (Obj.hoopState h) ≠ 0 → QuietHoop s h → s.pools.misfreed = [] → t.num (Obj.hoopState h) = 6 ∧
          (s.num (Obj.hoopState h) ≠ 6 → t.num (Obj.hoopFaultCause h) = 9))
      else t = s))

/-- TB0 cannot be set; a step of another base counts, is reported and leaves the protected time where it was; an increment must
lie within 500 ppm. Announce, Sync and Delay_Resp move a domain's base through Acquiring, Locked and Holdover as R355 says;
the protected time changes its source without moving. TimeSync goes out on every established wale and a neighbour's is kept.
The pulse pins and step triggers do what R360 and R361 say. (R351, R353, R354, R355, R356, R357, R358, R359, R360, R361) -/
def Obligations.TimeBasesFollowTheirSources : Prop :=
  (∀ (rq : Requester) (b : Base) (value : BitVec 80) (s : State),
    let ns := nsOfTime80 value.toNat
    Accepts s rq (Obj.tbSetTime b) (.num value.toNat) none →
    (b = 0 → Completes (.tbSetTime rq b value) s fun t => Answered rq St.accessDenied t ∧ OnlyObjects [] s t) ∧
    (b ≠ 0 → Completes (.tbSetTime rq b value) s fun t => Answered rq St.ok t ∧ t.mem = s.mem ∧ t.baseNs b = ns ∧
      t.num (Obj.tbSteps b) = (s.num (Obj.tbSteps b) + 1) % 2 ^ 32 ∧ Reported Ev.timeStep { unit := b } t ∧
      (s.num Obj.protectedSelect = b → s.protectedNs < 2 ^ 63 → ns < 2 ^ 63 → t.protectedNs = s.protectedNs))) ∧
  (∀ (rq : Requester) (b : Base) (value : BitVec 64) (s : State),
    let key := Obj.tbIncrement b
    Accepts s rq key (.num value.toNat) none →
    (incrementOk value.toNat = true → Completes (.tbIncrementWrite rq b value) s fun t =>
      Answered rq St.ok t ∧ t.num key = value.toNat ∧ OnlyObjects [key] s t) ∧
    (incrementOk value.toNat = false → Completes (.tbIncrementWrite rq b value) s fun t =>
      Answered rq St.accessDenied t ∧ OnlyObjects [] s t)) ∧
  (∀ (port : Fin 2) (domain : BitVec 8) (master grandmaster : BitVec 64) (dataset : Nat) (time : BitVec 80) (s : State),
    let run := Instr.ptpAnnounceReceived port domain master grandmaster dataset time
    (s.ptpDomains port domain.toNat = [] → exec run s = .next s) ∧
    ∀ d best, s.ptpDomains port domain.toNat = [d] →
      bestMaster ((s.ptp d).masters.filter (fun m => m.1 != master.toNat) ++ [(master.toNat, dataset, grandmaster.toNat)]) = some best →
      let st := s.num (Obj.tbState (d + 1))
      Completes run s fun t => t.bytes (Obj.timeMasterIdentity d) = beBytes 8 best.1 ∧ t.mem = s.mem ∧
        (t.ptp d).master = some best.1 ∧
        (st ≤ 1 → t.num (Obj.tbState (d + 1)) = 2 ∧ (s.firmwareServo (d + 1) = true → t.baseNs (d + 1) = nsOfTime80 time.toNat)) ∧
        (1 < st → (s.ptp d).grandmaster ≠ best.2.2 → t.num (Obj.tbState (d + 1)) = 2) ∧
        (1 < st → (s.ptp d).grandmaster = best.2.2 → ObjectsKept [Obj.timeMasterIdentity d] s t)) ∧
  (∀ (port : Fin 2) (domain : BitVec 8) (master : BitVec 64) (t1 t2 t3 t4 : Int) (s : State),
    let mine := (s.ptpDomains port domain.toNat).filter fun d => (s.ptp d).master == some master.toNat
    (mine = [] → exec (.ptpSyncReceived port domain master t1 t2) s = .next s ∧
      exec (.ptpDelayResponseReceived port domain master t3 t4) s = .next s) ∧
    ∀ d, mine = [d] →
      let b := d + 1
      let st := s.num (Obj.tbState b)
      let offset := t2 - t1 - (s.ptp d).meanPathDelay
      let far := oneMs ≤ offset.natAbs
      let near := offset.natAbs < s.num Obj.timeLockThreshold
      (Completes (.ptpSyncReceived port domain master t1 t2) s fun t =>
        t.num (Obj.tbOffset b) = ofSigned 32 offset ∧ (t.ptp d).syncPending = some (t1, t2) ∧ t.mem = s.mem ∧
        (st = 2 → ¬ far → near → 15 ≤ (s.ptp d).inThreshold → t.num (Obj.tbState b) = 3 ∧ Reported Ev.timeLocked { unit := b } t) ∧
        (st = 2 → (far ∨ ¬ near ∨ (s.ptp d).inThreshold < 15) → t.num (Obj.tbState b) = 2) ∧
        (st = 2 → far → s.firmwareServo b = true → t.baseNs b = ((s.baseNs b : Int) - offset).toNat) ∧
        (st = 3 → t.num (Obj.tbState b) = if oneMs ≤ offset.natAbs then 2 else 3) ∧
        (st = 4 → t.num (Obj.tbState b) = 2 ∧ ObjectsKept [Obj.tbOffset b, Obj.tbState b] s t) ∧
        (st < 2 → ObjectsKept [Obj.tbOffset b] s t)) ∧
      ((s.ptp d).syncPending = none → exec (.ptpDelayResponseReceived port domain master t3 t4) s = .next s) ∧
      (∀ u1 u2, (s.ptp d).syncPending = some (u1, u2) → Completes (.ptpDelayResponseReceived port domain master t3 t4) s fun t =>
        (t.ptp d).meanPathDelay = meanDelay u1 u2 t3 t4 ∧ (t.ptp d).syncPending = none ∧
        t.num (Obj.timeMeanPathDelay d) = ofSigned 32 (meanDelay u1 u2 t3 t4) ∧
        ObjectsKept [Obj.timeMeanPathDelay d] s t ∧ t.mem = s.mem)) ∧
  (∀ (d : Fin 2) (s : State),
    let b := d.val + 1
    let other := 3 - b
    let switches := s.num Obj.protectedSelect = b ∧ s.locked other = true
    (s.locked b = false → exec (.timeSourceTimeout d) s = .next s) ∧
    (s.locked b = true → Completes (.timeSourceTimeout d) s fun t => t.num (Obj.tbState b) = 4 ∧ t.mem = s.mem ∧
      t.num (Obj.tbIncrement b) = s.num (Obj.tbIncrement b) ∧
      (¬ switches → Logs Ev.timeUnlocked { unit := b } [Obj.tbState b] s t) ∧
      (switches → t.num Obj.protectedSelect = other ∧ Reported Ev.timeSourceSwitch { unit := other } t ∧
        (s.protectedNs < 2 ^ 63 → s.baseNs other < 2 ^ 63 → t.protectedNs = s.protectedNs)))) ∧
  (∀ s : State,
    let p := s.num Obj.timePreferred
    let acts := s.flag Obj.timeRevertive = true ∧ s.num Obj.protectedSelect ≠ 0 ∧ s.num Obj.protectedSelect ≠ p ∧ s.locked p = true
    (¬ acts → exec .timeRevertHoldExpiry s = .next s) ∧
    (acts → Completes .timeRevertHoldExpiry s fun t => t.num Obj.protectedSelect = p ∧
      t.num Obj.timeSelectChanges = (s.num Obj.timeSelectChanges + 1) % 2 ^ 32 ∧ Reported Ev.timeSourceSwitch { unit := p } t ∧
      t.mem = s.mem ∧ (p ≠ 0 → s.protectedNs < 2 ^ 63 → s.baseNs p < 2 ^ 63 → t.protectedNs = s.protectedNs))) ∧
  (∀ s : State, Completes .timeSyncSend s fun t => t.mem = s.mem ∧ t.num Obj.timeLineReference = s.lineReference.2 ∧
    (s.isReference = true → t.num Obj.timeLineParent = s.num Obj.fabricAddress ∧ t.num Obj.timeLineHops = 0) ∧
    (∀ c, s.isReference = false → s.lineParent = some c →
      t.num Obj.timeLineParent = c.2.address ∧ t.num Obj.timeLineHops = c.2.hops + 1) ∧
    (s.isReference = false → s.lineParent = none → t.num Obj.timeLineHops = 0xFF) ∧
    ∀ w : Wale, s.established w = true → ∃ r, (t.wale w).tx.queue = (s.wale w).tx.queue ++ [r] ∧ r.vc = 4 ∧
      r.tail.take 2 = beBytes 2 0x0501 ∧ r.payload.length = 30) ∧
  (∀ (w : Wale) (p : Bytes) (s : State),
    let bad := p.length ≠ 30 ∨ s.established w = false
    let report : LineTimePeer := { hops := beNat (slice p 1 1), reference := beNat (slice p 2 2), priority := beNat (slice p 4 1),
                                   locked := bitAt (beNat (slice p 5 1)) 0, address := (s.wale w).handshake.peerAddress }
    let u : State := { s with time := { s.time with linePeers := Map.put {} s.time.linePeers w report } }
    let fromParent := u.isReference = false ∧ u.lineParent.map (fun c => c.1) = some w.val
    (bad → exec (.timeSyncReceived w p) s = .next s) ∧
    (¬ bad → Completes (.timeSyncReceived w p) s fun t => Map.get {} t.time.linePeers w = report ∧ t.mem = s.mem ∧
      t.num Obj.timeLineReference = u.lineReference.2 ∧
      (¬ fromParent → ObjectsKept [Obj.timeLineReference, Obj.timeLineParent, Obj.timeLineHops] s t) ∧
      ∀ f g, fromParent → (s.wale w).txStamps.find? (fun c => c.1 == beNat (slice p 18 2)) = some f →
        (s.wale w).rxStamps.find? (fun c => c.1 == beNat (slice p 6 2)) = some g →
        let r := lineOffset f.2 (nsOfTime80 (beNat (slice p 20 10))) (nsOfTime80 (beNat (slice p 8 10))) g.2 (s.asymmetry w)
        t.num (Obj.waleTimeRtt w) = ofSigned 32 r.1 ∧ t.num (Obj.waleTimeOffset w) = ofSigned 32 r.2 ∧
          t.num (Obj.tbOffset 3) = ofSigned 32 r.2)) ∧
  (∀ s : State, Completes .ppsInEdge s fun t => t.bytes Obj.timePpsInCapture = s.fiveTimes ∧
    t.num Obj.timePpsInCount = (s.num Obj.timePpsInCount + 1) % 2 ^ 32 ∧
    ChangesObjects [Obj.timePpsInCapture, Obj.timePpsInCount] s t) ∧
  (∀ s : State,
    let source := s.num Obj.timePpsOutSource
    let early := ∃ x, s.time.lastPps = some x ∧ s.now < x + 100000000
    let stays := source = 0 ∨ (source = 5 ∧ s.num Obj.protectedSelect = 0) ∨ early
    (stays → exec .ppsOutEdge s = .next s) ∧
    (¬ stays → Completes .ppsOutEdge s fun t => t.out = .pin .ppsOut true :: s.out ∧ t.time.lastPps = some s.now ∧
      t.time.ppsHigh = true ∧ t.dict = s.dict ∧ t.mem = s.mem)) ∧
  (∀ (h : Hoop) (s : State),
    let period := s.num (Obj.stepTriggerPeriod h)
    (period = 0 ∨ s.triggerTime h = none → exec (.stepBoundary h) s = .next s) ∧
    ∀ now, period ≠ 0 → s.triggerTime h = some now →
      let tb := lastBoundary now (s.num (Obj.stepTriggerPhase h)) period
      (tb ≤ nsOfTime80 (s.num (Obj.stepBoundaryLast h)) → exec (.stepBoundary h) s = .next s) ∧
      (nsOfTime80 (s.num (Obj.stepBoundaryLast h)) < tb → Completes (.stepBoundary h) s fun t =>
        t.num (Obj.stepBoundaryCount h) = (s.num (Obj.stepBoundaryCount h) + 1) % 2 ^ 32 ∧
        t.num (Obj.stepBoundaryLast h) = time80 tb.toNat ∧ t.mem = s.mem))

/-- A ready XTAL starts the switch of every powered domain to its DomainSource; other sources become ready after it. A failed
source takes the domains that use it with it, a failed domain is reported and Failed. A DomainSource write is checked in
R371's order and switches, or is recorded; a restart brings a Failed domain back. A trim measurement sets the code and the
error or is discarded; CLKOUT takes a legal setting; an idle small block stops and an enabled large block runs. (R366, R368,
R369, R371, R372, R375, R376, R377, R378) -/
def Obligations.ClocksStartSwitchAndFail : Prop :=
  (∀ s : State, Completes .xtalReady s fun t => t.flag (Obj.sourceReady 1) = true ∧ t.mem = s.mem ∧ ∀ d : Domain,
    let target := s.num (Obj.domainSource d)
    let moves := Map.get 0 s.power.source d ≠ target ∧ target < 5 ∧ (target = 1 ∨ s.flag (Obj.sourceReady target) = true)
    let st := s.num (Obj.domainState d)
    (st = 1 → moves → t.num (Obj.domainState d) = 2) ∧
    (st = 4 → moves → Map.get 0 t.power.source d = target) ∧
    ((target < 5 ∧ ¬ moves) ∨ st ≠ 1 → t.num (Obj.domainState d) = st)) ∧
  (∀ (c : Source) (frequency : BitVec 32) (s : State),
    let early := 2 ≤ c.val ∧ s.flag (Obj.sourceReady 1) = false
    (early → exec (.sourceReady c frequency) s = .next s) ∧
    (¬ early → Completes (.sourceReady c frequency) s fun t => t.flag (Obj.sourceReady c) = true ∧
      t.num (Obj.sourceFrequency c) = frequency.toNat ∧ ChangesObjects [Obj.sourceReady c, Obj.sourceFrequency c] s t)) ∧
  (∀ (c : Source) (s : State), Completes (.sourceNotReady c) s fun t => t.flag (Obj.sourceReady c) = false ∧
    ChangesObjects [Obj.sourceReady c] s t) ∧
  (∀ (d : Domain) (s : State),
    let st := s.num (Obj.domainState d)
    let clocked := st = 1 ∨ st = 2
    (¬ clocked → exec (.clockFail (.domain d)) s = .next s) ∧
    (clocked → (d.val = 2 ∨ 8 ≤ d.val ∧ d.val < 80 → IdleWork s) → Completes (.clockFail (.domain d)) s fun t => t.num (Obj.domainState d) = 3 ∧
      t.num (Obj.domainFailures d) = (s.num (Obj.domainFailures d) + 1) % 2 ^ 32 ∧
      (d = 3 ∨ d = 6 ∨ d = 7 ∨ 98 ≤ d.val → Reported Ev.clockFail { die := dieOfDomain d, unit := d } t))) ∧
  (∀ (c : Source) (s : State), IdleWork s → Completes (.clockFail (.source c)) s fun t => t.flag (Obj.sourceReady c) = false ∧
    t.num (Obj.sourceFailures c) = (s.num (Obj.sourceFailures c) + 1) % 2 ^ 32 ∧
    ∀ d : Domain, s.sourceOf d = c → s.num (Obj.domainState d) = 1 ∨ s.num (Obj.domainState d) = 2 →
      t.num (Obj.domainState d) = 3) ∧
  (∀ (rq : Requester) (d : Domain) (value : BitVec 8) (s : State),
    let key := Obj.domainSource d
    let status := s.sourceStatus d value.toNat
    let run := Instr.domainSourceWrite rq d value
    Accepts s rq key (.num value.toNat) none →
    (status ≠ St.ok → Completes run s fun t => Answered rq status t ∧ t.num (Obj.domainCommandStatus d) = status ∧
      OnlyObjects [Obj.domainCommandStatus d] s t) ∧
    (status = St.ok → Completes run s fun t => Answered rq St.ok t ∧ t.num key = value.toNat ∧ t.mem = s.mem ∧
      t.num (Obj.domainCommandStatus d) = St.ok ∧
      (s.num (Obj.domainState d) = 1 → t.num (Obj.domainState d) = 2 ∧ Map.get 0 t.power.source d = Map.get 0 s.power.source d) ∧
      (s.num (Obj.domainState d) ≠ 1 → t.num (Obj.domainState d) = s.num (Obj.domainState d) ∧
        Map.get 0 t.power.source d = value.toNat))) ∧
  (∀ (d : Domain) (s : State),
    (s.num (Obj.domainState d) ≠ 2 → exec (.domainSwitchComplete d) s = .next s) ∧
    (s.num (Obj.domainState d) = 2 → Completes (.domainSwitchComplete d) s fun t => t.num (Obj.domainState d) = 1 ∧
      Map.get 0 t.power.source d = s.num (Obj.domainSource d) ∧
      t.num (Obj.domainFrequency d) = (levelClock d (s.num (Obj.domainLevel d))).1 ∧
      ObjectsKept [Obj.domainState d, Obj.domainFrequency d] s t ∧ t.mem = s.mem)) ∧
  (∀ (rq : Requester) (d : Domain) (s : State),
    let key := Obj.domainCommandStatus d
    let run := Instr.domainRestart rq d
    let ready := s.flag (Obj.sourceReady (s.num (Obj.domainSource d))) = true
    Accepts s rq (Obj.domainCommand d) (.num 1) none →
    (s.num (Obj.domainState d) ≠ 3 → Completes run s fun t => t.num key = St.notPermittedInState ∧ OnlyObjects [key] s t) ∧
    (s.num (Obj.domainState d) = 3 → ¬ ready → Completes run s fun t => t.num key = St.refusedNotReady ∧ OnlyObjects [key] s t) ∧
    (s.num (Obj.domainState d) = 3 → ready → Completes run s fun t => t.num key = St.ok ∧ Answered rq St.ok t ∧
      Map.get 0 t.power.source d = s.num (Obj.domainSource d) ∧
      (domainTile d = none → t.num (Obj.domainState d) = 1) ∧
      ∀ i, domainTile d = some i → t.num (Obj.domainState d) = if s.num (Obj.tileOwner i) = 0xFF then 4 else 1)) ∧
  (∀ (cycles : Nat) (interrupted : Bool) (s : State),
    let src := s.num Obj.intoscTrimSource
    let bad := interrupted = true ∨ (src = 1 ∧ s.flag (Obj.sourceReady 2) = false) ∨
      (src = 2 ∧ s.absentRx (s.num Obj.intoscTrimLane) = true) ∨ cycles = 0
    let run := Instr.intoscTrimMeasure cycles interrupted
    (src = 0 → exec run s = .next s) ∧
    (src ≠ 0 → bad → Completes run s fun t => t.num Obj.intoscTrimState = 3 ∧ ChangesObjects [Obj.intoscTrimState] s t) ∧
    (src ≠ 0 → ¬ bad →
      let r := trimCode s.trimCycles.1 s.trimCycles.2 cycles (toSigned 12 (s.num Obj.intoscTrimCode % 4096))
      Completes run s fun t => t.num Obj.intoscTrimCode = ofSigned 12 r.1 ∧ t.num Obj.intoscTrimState = 2 ∧
        t.num Obj.intoscError = ofSigned 32 r.2 ∧
        ChangesObjects [Obj.intoscTrimCode, Obj.intoscTrimState, Obj.intoscError] s t)) ∧
  (∀ (rq : Requester) (object : BitVec 8) (value : BitVec 32) (s : State),
    let sub := if object = 3 then 3 else 4
    let key := keyOf 0xC000 sub
    let select := if object = 3 then value.toNat else s.num Obj.clkoutSelect
    let divisor := if object = 3 then s.num Obj.clkoutDivisor else value.toNat
    let legal := clkoutNames select = true ∧ s.clkoutTooFast select divisor = false
    let run := Instr.clkoutWrite rq object value
    object = 3 ∨ object = 4 → Accepts s rq key (.num value.toNat) none →
    (¬ legal → Completes run s fun t => Answered rq St.accessDenied t ∧ OnlyObjects [] s t) ∧
    (legal → Completes run s fun t => Answered rq St.ok t ∧ t.num key = value.toNat ∧
      OnlyObjects [key, Obj.persistPending] s t)) ∧
  (∀ (d : Domain) (block : BitVec 16) (s : State), Completes (.autoGateIdle d block) s fun t =>
    (d.val, block.toNat) ∈ t.power.stopped ∧ { t with power := { t.power with stopped := s.power.stopped } } = s) ∧
  (∀ (b : LargeBlock) (s : State), Completes (.blockEnableComplete b) s fun t =>
    (∀ c, t.blockRuns c = true ↔ s.blockRuns c = true ∨ (c = b ∧ s.blockEnabled b = true)) ∧
    { t with power := { t.power with running := s.power.running } } = s)

/-- A host vote that the class offers is kept and the target follows; an idle tile takes its hoop's idle state. A domain that has
quiesced sleeps at the depth of its target or abandons the entry; its power switch drops the tile's store but for the
constants and the staged area of a whole image, in S3 all its state; a wake event brings it back or abandons the entry. A
settled level is the one that target and ceilings give. Each millisecond the governor moves the module's and the hoops'
ceilings; a die's readings warn, move its thermal ceiling, and two at 115 °C shut the module down. (R382, R384, R385, R386,
R387, R388, R389, R390, R392) -/
def Obligations.PowerFollowsVotesAndCeilings : Prop :=
  (∀ (rq : Requester) (d : Domain) (value : BitVec 8) (s : State),
    let v := value.toNat
    let legal := v ≤ 5 ∨ v = 0xFF ∨ (v ≤ 8 ∧ offers (classOf d) v = true)
    let run := Instr.domainVoteHostWrite rq d value
    Accepts s rq (Obj.domainVoteHost d) (.num v) none →
    (¬ legal → Completes run s fun t => Answered rq St.accessDenied t ∧ OnlyObjects [] s t) ∧
    (legal → Completes run s fun t => Answered rq St.ok t ∧ t.num (Obj.domainVoteHost d) = v ∧
      t.num (Obj.domainTarget d) = t.target d ∧ t.mem = s.mem ∧ t.tiles = s.tiles)) ∧
  (∀ (i : Tile) (s : State),
    let h := s.num (Obj.tileOwner i)
    let idle := h < 16 ∧ s.tileBound i = false ∧ s.hoopWaitsTile h = false
    (¬ idle → exec (.tileIdleHoldExpiry i) s = .next s) ∧
    (idle → Completes (.tileIdleHoldExpiry i) s fun t => t.mem = s.mem ∧ t.tiles = s.tiles ∧
      t.num (Obj.domainVoteHoop (tileDomain i)) = s.num (Obj.hoopIdleState h) ∧
      t.num (Obj.domainTarget (tileDomain i)) = t.target (tileDomain i))) ∧
  (∀ (d : Domain) (s : State),
    let key := Obj.domainSleepState d
    let aborts := Obj.domainEntryAborts d
    let st := s.num key
    let abandons (c : Instr) : Prop := Completes c s fun t => t.num key = 0 ∧ t.num aborts = (s.num aborts + 1) % 2 ^ 32 ∧
      ChangesObjects [key, aborts] s t
    (st ≠ 1 → exec (.quiesceComplete d) s = .next s) ∧
    (st = 1 → s.target d = 6 → Completes (.quiesceComplete d) s fun t => t.num key = 4 ∧ t.mem = s.mem ∧ t.tiles = s.tiles) ∧
    (st = 1 → s.target d = 7 ∨ s.target d = 8 → Completes (.quiesceComplete d) s fun t =>
      t.num key = (if s.target d = 7 then 2 else 3) ∧ ChangesObjects [key] s t) ∧
    (st = 1 → s.target d < 6 → abandons (.quiesceComplete d)) ∧
    (st ≠ 2 → exec (.retentionSaveComplete d) s = .next s) ∧
    (st = 2 → Completes (.retentionSaveComplete d) s fun t => t.num key = 3 ∧ ChangesObjects [key] s t) ∧
    (st ≠ 3 → exec (.powerSwitchOpen d) s = .next s) ∧
    (st = 3 → s.target d < 7 → abandons (.powerSwitchOpen d)) ∧
    (st = 3 → s.target d = 7 → Completes (.powerSwitchOpen d) s fun t => t.num key = 5 ∧ t.mem = s.mem ∧
      (domainTile d = none → t.tiles = s.tiles) ∧
      ∀ i, domainTile d = some i →
        let x := s.tile i
        let whole := x.residentHash = imageHash x.image
        t.tile i = { x with store := x.retained, defined := [], samples := [], residentHash := if whole then x.residentHash else [],
                            staged := if whole then x.staged else none }) ∧
    (st = 3 → s.target d = 8 → Completes (.powerSwitchOpen d) s fun t => t.num key = 6 ∧ t.mem = s.mem ∧
      ∀ i, domainTile d = some i → t.tile i = { testing := (s.tile i).testing } ∧ ∀ k ∈ tileHardware i, t.obj k = objDefault k) ∧
    (s.boot.resetting ≠ none → exec (.wakeEvent d) s = .next s) ∧
    (s.boot.resetting = none → Completes (.wakeEvent d) s fun t =>
      t.num key = (if st = 5 ∨ st = 6 then 7 else if 1 ≤ st ∧ st ≤ 4 then 0 else st) ∧
      t.num aborts = (if 1 ≤ st ∧ st ≤ 3 then (s.num aborts + 1) % 2 ^ 32 else s.num aborts) ∧
      (∀ c, c ∈ t.power.stopped ↔ c ∈ s.power.stopped ∧ c.1 ≠ d.val) ∧ ObjectsKept [key, aborts] s t ∧ t.mem = s.mem) ∧
    (st ≠ 7 → exec (.wakeComplete d) s = .next s) ∧
    (st = 7 → Completes (.wakeComplete d) s fun t => t.num key ≤ 1 ∧ (s.target d < 6 → t.num key = 0) ∧ t.mem = s.mem) ∧
    (s.num (Obj.domainState d) ≠ 1 ∨ st ≠ 0 → exec (.levelChangeComplete d) s = .next s) ∧
    (s.num (Obj.domainState d) = 1 → st = 0 → Completes (.levelChangeComplete d) s fun t =>
      let level := s.wantedLevel d
      t.num (Obj.domainLevel d) = level ∧ t.num (Obj.domainFrequency d) = (levelClock d level).1 ∧
      t.num (Obj.domainVoltage d) = (levelClock d level).2 ∧ t.mem = s.mem ∧ t.tiles = s.tiles ∧
      ∀ i, domainTile d = some i →
        (i ∈ s.power.returning → t.flag (Obj.tileClockDivided i) = false ∧ i ∉ t.power.returning) ∧
        (i ∉ s.power.returning → t.flag (Obj.tileClockDivided i) = s.flag (Obj.tileClockDivided i)))) ∧
  (∀ (input standby : Nat) (tilePower : List Nat) (s : State), Completes (.powerGovernorStep input standby tilePower) s fun t =>
    let limit := s.num Obj.modulePowerLimit * 10
    let ceiling := s.num Obj.modulePowerCeiling
    t.num Obj.moduleInputPower = input % 2 ^ 32 ∧ t.num Obj.standbyInputPower = standby % 2 ^ 32 ∧ t.mem = s.mem ∧
    (limit < input → t.num Obj.modulePowerCeiling = min 5 (ceiling + 1)) ∧
    (input < limit * 95 / 100 → t.num Obj.modulePowerCeiling = ceiling - 1) ∧
    (input ≤ limit → limit * 95 / 100 ≤ input → t.num Obj.modulePowerCeiling = ceiling) ∧
    (∀ g < 8, t.num (Obj.diePower g) = ((tilePower.drop (6 * g)).take 6).sum % 2 ^ 32) ∧
    ∀ h : Hoop,
      let cap := s.num (Obj.hoopPowerCap h) * 10
      let held := s.num (Obj.hoopCapCeiling h)
      let sum := ((s.tilesOf h).map fun i => tilePower[i]?.getD 0).sum
      let window := (sum :: Map.get [] s.power.tilePower h).take (max 1 (s.num (Obj.hoopCapWindow h)))
      let mean := window.sum / window.length % 2 ^ 32
      t.num (Obj.hoopTilePower h) = mean ∧
      (cap = 0 → t.num (Obj.hoopCapCeiling h) = held) ∧
      (cap ≠ 0 → cap < mean → t.num (Obj.hoopCapCeiling h) = min 5 (held + 1) ∧
        t.num (Obj.hoopCapEvents h) = (s.num (Obj.hoopCapEvents h) + 1) % 2 ^ 32) ∧
      (cap ≠ 0 → mean < cap * 90 / 100 → t.num (Obj.hoopCapCeiling h) = held - 1)) ∧
  (∀ (n : Die) (r : Int) (rest : List Int) (s : State),
    let highest := rest.foldl max r
    let before := Map.get [] s.power.lastReadings n
    let hot := twiceHot (r :: rest) before = true
    let tiles := 1 ≤ n.val ∧ n.val ≤ 8
    let c := s.num (Obj.dieThermalCeiling n)
    let due := ∀ x, s.power.ceilingMoved.find? (fun x => x.1 == n.val) = some x → x.2 + 1000000 ≤ s.now
    let run := Instr.dieSensorSample n (r :: rest)
    exec (.dieSensorSample n []) s = .next s ∧
    (¬ hot → Completes run s fun t => t.num (Obj.dieTemperatureMax n) = ofSigned 32 highest ∧ t.mem = s.mem ∧
      (¬ tiles → 1050 ≤ highest → (∀ y ∈ before, y < 1050) → Reported Ev.dieTempHigh { die := n, detail := highest.toNat } t) ∧
      (¬ tiles → 950 ≤ highest → highest < 1050 → (∀ y ∈ before, y < 950) →
        Reported Ev.dieTempWarn { die := n, detail := highest.toNat } t) ∧
      (due → 1050 ≤ highest → c < 5 → t.num (Obj.dieThermalCeiling n) = c + 1) ∧
      (due → highest < 1000 → 0 < c → t.num (Obj.dieThermalCeiling n) = c - 1) ∧
      (¬ due → t.num (Obj.dieThermalCeiling n) = c)) ∧
    (hot → s.limp = false → Completes run s fun t => t.num Obj.moduleState = 3 ∧ t.num Obj.limpCause = 6 ∧
      t.num Obj.thermalShutdowns = (s.num Obj.thermalShutdowns + 1) % 2 ^ 32 ∧ Reported Ev.thermalShutdown { die := n } t))

/-- A request that fails a check is answered with its status and changes nothing; a read at offset 0 returns and latches the
value, a later one is served from the latched copy, a gated object reads as zeros; a plain write sets its object, a
description returns the descriptor, a snapshot read the copied value; a write with a good token sets the SIG object and
SigCounter. A PDP hello of a listed key opens a session that a verified confirm establishes and an idle time-out closes. What
comes over PDP or from an established peer does what the same request does. (R377, R399, R402, R403, R404, R412, R413, R414,
R415, R419) -/
def Obligations.DictionaryServesRequests : Prop :=
  (∀ (rq : Requester) (index : BitVec 16) (sub : BitVec 8) (offset length : Nat) (s : State),
    let k := keyOf index.toNat sub.toNat
    let s0 := (s.dropLatch rq k).touch k
    let status := s0.readStatus rq k offset
    let run := Instr.dictRead rq index sub offset length
    let held := Map.get (0, []) s.control.latch (requesterNumber rq)
    let value := scopedValue (s0.scopeOf rq) k (encodeVal k (s0.view k))
    let plain := takeOf k = none ∧ status = St.ok ∧ s0.gatedObject k = false ∧ s0.readsFree k = false
    (∀ n, takeOf k = some n → exec run s = exec (.mailboxTake rq n) s) ∧
    (takeOf k = none → s.serves rq = false → exec run s = .next s) ∧
    (s.serves rq = true →
      (takeOf k = none → status ≠ St.ok → Completes run s fun t => Answered rq status t ∧ OnlyObjects [Obj.peerAccessRefusals] s t) ∧
      (plain → offset = 0 → Completes run s fun t => Returned rq St.ok 0 value.length (value.take (min length 4096)) t ∧
        Map.get (0, []) t.control.latch (requesterNumber rq) = (k, value.take 65536) ∧ OnlyObjects [] s t) ∧
      (plain → offset ≠ 0 → held.1 = k → Completes run s fun t =>
        Returned rq St.ok 2 held.2.length (slice held.2 offset (min length 4096)) t ∧ OnlyObjects [] s t) ∧
      (takeOf k = none → status = St.ok → s0.gatedObject k = true → offset = 0 → Completes run s fun t =>
        Returned rq St.ok 0 (fixedSize k) ((List.replicate (fixedSize k) 0).take (min length 4096)) t ∧
        t.num Obj.gatedAccessCount = (s.num Obj.gatedAccessCount + 1) % 2 ^ 64 ∧ OnlyObjects [Obj.gatedAccessCount] s t) ∧
      (∀ top, takeOf k = none → status = St.ok → s0.gatedObject k = false → isMeasured k = false → s0.countTop k = some top →
        offset = 0 → Completes run s fun t =>
          Returned rq St.ok 0 (fixedSize k) ((leBytes (fixedSize k) (t.num k)).take (min length 4096)) t ∧
          s.num k ≤ t.num k ∧ ObjectsKept [k] s t ∧ t.mem = s.mem))) ∧
  (∀ (rq : Requester) (index : BitVec 16) (sub : BitVec 8) (offset : Nat) (data : Bytes) (s : State),
    let k := keyOf index.toNat sub.toNat
    let run := Instr.dictWrite rq index sub offset data
    (findRow k = none → s.serves rq = true → Completes run s fun t =>
      Answered rq St.accessDenied t ∧ OnlyObjects [Obj.peerAccessRefusals] s t) ∧
    ∀ r i, findRow k = some (r, i) → r.acc ≠ .sig →
      let v := writtenValue r offset data
      let own := s.ownCommand rq r.base r.sub i v none
      let status := ((s.dropLatch rq k).touch k).writeStatus rq k v none
      (∀ o, r.fits v = true → own = some o → exec run s = .next (stateAfter s o)) ∧
      (s.serves rq = true → status ≠ St.ok → (r.fits v = false ∨ own = none) → Completes run s fun t =>
        Answered rq status t ∧ OnlyObjects [Obj.peerAccessRefusals] s t) ∧
      (Accepts s rq k v none → own = none → writeEffect k r.base r.sub i v = plainWrite k v → r.mask = none →
        Completes run s fun t => Answered rq St.ok t ∧ t.obj k = v ∧ OnlyObjects [k, Obj.persistPending] s t)) ∧
  (∀ (rq : Requester) (index : BitVec 16) (sub : BitVec 8) (s : State),
    let k := keyOf index.toNat sub.toNat
    let run := Instr.dictDescribe rq index sub
    (s.serves rq = false → exec run s = .next s) ∧
    (s.serves rq = true →
      (findRow k = none → Completes run s fun t => Answered rq St.accessDenied t ∧ OnlyObjects [] s t) ∧
      ∀ r i, findRow k = some (r, i) →
        ((s.dropLatch rq k).authorised rq k false = true → Completes run s fun t =>
          Returned rq St.ok 0 16 (descriptor r i) t ∧ OnlyObjects [] s t) ∧
        ((s.dropLatch rq k).authorised rq k false = false → Completes run s fun t =>
          Answered rq St.accessDenied t ∧ OnlyObjects [Obj.peerAccessRefusals] s t))) ∧
  (∀ (rq : Requester) (index : BitVec 16) (sub : BitVec 8) (offset length : Nat) (s : State),
    let k := keyOf index.toNat sub.toNat
    let s0 := (s.dropLatch rq k).touch k
    let status := s0.readStatus rq k offset
    let s1 := s0.settleLatch k
    let x := s1.snapshotValue k
    let value := scopedValue (s1.scopeOf rq) k (encodeVal k x.1)
    let run := Instr.dictReadSnapshot rq index sub offset length
    s.serves rq = true →
    (status ≠ St.ok → Completes run s fun t => Answered rq status t ∧ OnlyObjects [Obj.peerAccessRefusals] s t) ∧
    (status = St.ok → offset = 0 → Completes run s fun t =>
      Returned rq St.ok x.2 value.length (value.take (min length 4096)) t ∧ ObjectsKept [k] s t ∧ t.mem = s.mem ∧
      (isCount k = false → OnlyObjects [] s t))) ∧
  (∀ (rq : Requester) (index : BitVec 16) (sub : BitVec 8) (value : Bytes) (token : Token) (s : State),
    let k := keyOf index.toNat sub.toNat
    let run := Instr.sigTokenWrite rq index sub value token
    ∀ r i, findRow k = some (r, i) → r.acc = .sig →
      let v := valueOf r value
      let status := ((s.dropLatch rq k).touch k).writeStatus rq k v (some token)
      s.serves rq = true → s.ownCommand rq r.base r.sub i v (some token) = none →
      writeEffect k r.base r.sub i v = plainWrite k v → r.mask = none → Completes run s fun t =>
        (status ≠ St.ok → Answered rq status t ∧ OnlyObjects [Obj.peerAccessRefusals] s t) ∧
        (status = St.ok → Answered rq St.ok t ∧ t.obj k = v ∧ t.num Obj.sigCounter = token.counter.toNat ∧
          OnlyObjects [k, Obj.sigCounter, Obj.persistPending] s t)) ∧
  (∀ (key encap nonce : Bytes) (s : State),
    let run := Instr.pdpHelloReceived key encap nonce
    let on := s.flag Obj.pdpEnable = true ∧ s.limp = false
    (¬ on → exec run s = .next s) ∧
    (on → s.pdpEntry key = none → Completes run s fun t =>
      t.num Obj.pdpAuthFailures = (s.num Obj.pdpAuthFailures + 1) % 2 ^ 32 ∧
      Logs Ev.pdpAuthFail {} [Obj.pdpAuthFailures] s t ∧ t.control.pdp = s.control.pdp) ∧
    (∀ scope write, on → s.pdpEntry key = some (scope, write) →
      ((∀ n : PdpSession, (s.pdpSession n).phase ≠ 0) → exec run s = .next (s.emit (.pdpRefusal St.busy))) ∧
      ∀ n : PdpSession, (s.pdpSession n).phase = 0 → (∀ m : PdpSession, m < n → (s.pdpSession m).phase ≠ 0) →
        Completes run s fun t => (t.pdpSession n).phase = 1 ∧ (t.pdpSession n).clientKey = key ∧
          (t.pdpSession n).scope = scope ∧ (t.pdpSession n).write = write ∧ t.dict = s.dict ∧ t.mem = s.mem ∧
          ∃ reply, t.out = .pdp n 0 reply :: s.out)) ∧
  (∀ (n : PdpSession) (signature : Bytes) (s : State),
    let p := s.pdpSession n
    (p.phase ≠ 1 → exec (.pdpConfirmReceived n signature) s = .next s) ∧
    (p.phase = 1 → Completes (.pdpConfirmReceived n signature) s fun t =>
      if verifies p.clientKey p.transcript "penrel-pdp" signature then
        t.pdpSession n = { p with phase := 2 } ∧ t.num Obj.pdpSessionsOpen = (s.num Obj.pdpSessionsOpen + 1) % 2 ^ 8 ∧
        ObjectsKept [Obj.pdpSessionsOpen] s t
      else t.pdpSession n = {} ∧ t.out = .pdpRefusal St.badSignature :: s.out ∧ t.dict = s.dict) ∧
    Completes (.pdpSessionIdleTimeout n) s fun t => t.pdpSession n = {} ∧
      Map.get (0, []) t.control.latch (16 + n.val) = (0, []) ∧ t.mem = s.mem ∧
      (p.phase = 2 → t.num Obj.pdpSessionsOpen = s.num Obj.pdpSessionsOpen - 1 ∧ ObjectsKept [Obj.pdpSessionsOpen] s t) ∧
      (p.phase ≠ 2 → t.dict = s.dict)) ∧
  (∀ (n : PdpSession) (seq fragment count : Nat) (payload : Bytes) (s : State),
    let p := s.pdpSession n
    let run := Instr.pdpRequestReceived n seq fragment count payload
    let stray := p.phase ≠ 2 ∨ s.flag Obj.pdpEnable = false ∨ s.limp = true ∨ seq % 2 ≠ 0 ∨ count ≤ fragment
    let u := s.setPdp n { p with fragments := [] }
    let v := u.setPdp n { p with fragments := [], messages := p.messages + 1 }
    let size := payload.length - 16
    (stray → exec run s = .next s) ∧
    (¬ stray → fragment = 0 → count = 1 → Completes run s fun t =>
      match gcmOpen p.key (leBytes 4 n.val ++ leBytes 8 seq) [] (payload.take size) (payload.drop size) with
      | none => t = u
      | some b =>
        let index := BitVec.ofNat 16 (field b 4 2)
        let sub := BitVec.ofNat 8 (field b 2 1)
        let rq := Requester.pdp n seq
        let did (c : Instr) : Prop := ∃ x, exec c v = .next x ∧ t = x.retirePdp n
        (∀ r, p.responses.find? (fun r => r.1 == seq) = some r → ∃ m, t.out = .pdp n (seq + 1) m :: s.out ∧ t.dict = s.dict) ∧
        (p.responses.find? (fun r => r.1 == seq) = none →
          (field b 0 1 = 1 → did (.dictRead rq index sub (field b 8 4) (field b 12 4))) ∧
          (field b 0 1 = 2 → did (.dictWrite rq index sub (field b 8 4) (slice b 60 (field b 12 4)))) ∧
          (field b 0 1 = 3 → did (.dictDescribe rq index sub)) ∧
          (field b 0 1 = 4 → did (.dictReadSnapshot rq index sub (field b 8 4) (field b 12 4)))))) ∧
  (∀ (w : Wale) (index : BitVec 16) (sub : BitVec 8) (offset length : Nat) (tag : BitVec 32) (data : Bytes) (s : State),
    let rq := Requester.peer w tag
    (s.established w = false → (∀ command, exec (.peerReadReceived w index sub command offset length tag) s = .next s) ∧
      exec (.peerWriteReceived w index sub offset data tag) s = .next s) ∧
    (s.established w = true →
      exec (.peerReadReceived w index sub 1 offset length tag) s = exec (.dictRead rq index sub offset length) s ∧
      exec (.peerReadReceived w index sub 3 offset length tag) s = exec (.dictDescribe rq index sub) s ∧
      exec (.peerReadReceived w index sub 4 offset length tag) s = exec (.dictReadSnapshot rq index sub offset length) s ∧
      (∀ command : BitVec 8, s.limp = false → command ≠ 1 → command ≠ 3 → command ≠ 4 →
        Completes (.peerReadReceived w index sub command offset length tag) s fun t =>
          Answered rq St.accessDenied t ∧ OnlyObjects [] s t) ∧
      exec (.peerWriteReceived w index sub offset data tag) s = exec (.dictWrite rq index sub offset data) s)) ∧
  (∀ (w : Wale) (tag : BitVec 32) (status flags : BitVec 16) (total : Nat) (data : Bytes) (s : State),
    let run := Instr.peerResponseReceived w tag status flags total data
    (s.established w = false → exec run s = .next s) ∧
    (s.established w = true → Completes run s fun t =>
      t.control.peerAnswers.head? = some ⟨w.val, tag.toNat, status.toNat, flags.toNat, total, data⟩ ∧
      { t with control := s.control } = s))

/-- A post to an empty mailbox makes it full with the word and the sender's class; one to a full mailbox is dropped and marked, or
answered ST_BUSY. A take by the receiver returns the word and empties the mailbox. A time-out of a full mailbox is marked,
counted and reported. An acknowledgement of a sequence that has been entered clears the alerts up to it. (R409, R410, R411,
R459, R463) -/
def Obligations.MailboxesAndEventLog : Prop :=
  (∀ (n : Mailbox) (word : BitVec 32) (s : State),
    let key := Obj.mailboxState n
    (s.mailboxFull n = true → Completes (.mailboxPostRegisterWrite n word) s fun t =>
      bitAt (t.num key) 2 = true ∧ t.mailboxFull n = true ∧ ChangesObjects [key] s t) ∧
    (s.mailboxFull n = false → Completes (.mailboxPostRegisterWrite n word) s fun t => t.mailboxFull n = true ∧
      t.num (Obj.mailboxWord n) = word.toNat ∧ t.num key / 256 = 0 ∧ Map.get 0 t.control.postTime n = s.now ∧
      ObjectsKept [key, Obj.mailboxWord n] s t ∧ t.mem = s.mem)) ∧
  (∀ (rq : Requester) (n : Mailbox) (word : BitVec 32) (s : State),
    let key := Obj.mailboxState n
    Accepts s rq (Obj.mailboxPost n) (.num word.toNat) none →
    (s.mailboxFull n = true → Completes (.mailboxPost rq n word) s fun t => Answered rq St.busy t ∧ OnlyObjects [] s t) ∧
    (s.mailboxFull n = false → Completes (.mailboxPost rq n word) s fun t => Answered rq St.ok t ∧ t.mailboxFull n = true ∧
      t.num (Obj.mailboxWord n) = word.toNat ∧ t.num key / 256 = senderOf rq ∧
      OnlyObjects [key, Obj.mailboxWord n] s t)) ∧
  (∀ (n : Mailbox) (s : State),
    let key := Obj.mailboxState n
    let host := s.mailboxFull n = true ∧ s.num (Obj.mailboxReceiver n) = 0
    Completes (.mailboxTakeRegisterRead n) s fun t => t.out = .takeRegister n (s.takeValue n) :: s.out ∧ t.mem = s.mem ∧
      (host → t.num key = s.num key / 8 * 8 ∧ t.mailboxFull n = false ∧ ObjectsKept [key] s t) ∧
      (¬ host → t.dict = s.dict)) ∧
  (∀ (rq : Requester) (n : Mailbox) (s : State),
    let key := Obj.mailboxState n
    let k := Obj.mailboxTake n
    let status := ((s.dropLatch rq k).touch k).readStatus rq k 0
    let mine := s.mailboxFull n = true ∧ s.receives rq n = true
    s.serves rq = true →
    (status ≠ St.ok → Completes (.mailboxTake rq n) s fun t =>
      Answered rq status t ∧ OnlyObjects [Obj.peerAccessRefusals] s t) ∧
    (status = St.ok → Completes (.mailboxTake rq n) s fun t =>
      Returned rq St.ok 0 4 (leBytes 4 (s.num (Obj.mailboxWord n))) t ∧
      (mine → t.mailboxFull n = false ∧ OnlyObjects [key] s t) ∧ (¬ mine → OnlyObjects [] s t))) ∧
  (∀ (n : Mailbox) (s : State),
    let key := Obj.mailboxState n
    (s.mailboxFull n = false → exec (.mailboxTimeout n) s = .next s) ∧
    (s.mailboxFull n = true → Completes (.mailboxTimeout n) s fun t => bitAt (t.num key) 1 = true ∧ t.mailboxFull n = true ∧
      t.num (Obj.mailboxTimeouts n) = (s.num (Obj.mailboxTimeouts n) + 1) % 2 ^ 32 ∧
      Logs Ev.mailboxTimeout { unit := n } [key, Obj.mailboxTimeouts n] s t)) ∧
  (∀ (rq : Requester) (seq : BitVec 32) (s : State),
    let entered := sequenceReached seq.toNat (s.num Obj.eventLogNewest) = true
    let left := s.events.alerts.filter fun e => !sequenceReached e seq.toNat
    Accepts s rq Obj.eventAck (.num seq.toNat) none →
    (¬ entered → Completes (.eventAck rq seq) s fun t => Answered rq St.accessDenied t ∧ OnlyObjects [] s t) ∧
    (entered → Completes (.eventAck rq seq) s fun t => Answered rq St.ok t ∧ t.events.alerts = left ∧
      t.num Obj.eventUnacked = left.length ∧ (left = [] → s.events.alerts ≠ [] → .pin .alertL true ∈ t.out) ∧
      ObjectsKept [Obj.eventUnacked] s t ∧ t.mem = s.mem))

/-- A trigger takes the registers' values, the times, the source and the count, unless the lock holds the copy: then it is counted
as missed. The pin acts where it is enabled; the arm is set, cleared, and clears when it fires; an unlock releases the copy.
(R417, R418) -/
def Obligations.SnapshotsLatchTheModule : Prop :=
  (∀ s : State,
    let holds := s.flag Obj.snapshotLock = true ∧ s.control.snapshotReleased = false
    let takes (u : State) (source : Nat) (t : State) : Prop :=
      let seen := u.each u.progress fun x c => x.countUp c.1 c.2
      (holds → t.num Obj.snapshotMissed = (s.num Obj.snapshotMissed + 1) % 2 ^ 32 ∧ t.control.snapshot = s.control.snapshot ∧
        ObjectsKept [Obj.snapshotMissed] s t) ∧
      (¬ holds → t.num Obj.snapshotSource = source ∧ t.num Obj.snapshotCount = (s.num Obj.snapshotCount + 1) % 2 ^ 32 ∧
        t.bytes Obj.snapshotTimes = s.snapTimes ∧ t.control.snapshotReleased = false ∧
        t.control.snapshot.map SnapshotCopy.values = some seen.snapValues ∧
        ObjectsKept ([Obj.snapshotSource, Obj.snapshotCount, Obj.snapshotTimes] ++ s.progress.map Prod.fst) s t) ∧
      (s.flag Obj.snapshotOutEnable = true → .pin .snapOut true ∈ t.out) ∧ t.mem = s.mem
    (s.flag Obj.snapshotInEnable = false → exec .snapInEdge s = .next s) ∧
    (s.flag Obj.snapshotInEnable = true → Completes .snapInEdge s (takes s 1)) ∧
    (s.control.snapshotArmed = false → exec .snapshotArmFire s = .next s) ∧
    (s.control.snapshotArmed = true → Completes .snapshotArmFire s fun t =>
      t.control.snapshotArmed = false ∧ takes (s.setArm false) 3 t) ∧
    ∀ rq : Requester,
      let accepted (n : Nat) := Accepts s rq Obj.snapshotCommand (.num n) none
      let u := (s.dropLatch rq Obj.snapshotCommand).touch Obj.snapshotCommand
      (accepted 1 → Completes (.snapshotTrigger rq) s fun t => Answered rq St.ok t ∧ takes u 2 t) ∧
      (accepted 2 → Completes (.snapshotArm rq) s fun t => Answered rq St.ok t ∧ t.control.snapshotArmed = true ∧
        OnlyObjects [] s t) ∧
      (accepted 3 → Completes (.snapshotDisarm rq) s fun t => Answered rq St.ok t ∧ t.control.snapshotArmed = false ∧
        OnlyObjects [] s t) ∧
      (accepted 4 → Completes (.snapshotUnlock rq) s fun t => Answered rq St.ok t ∧ t.control.snapshotReleased = true ∧
        OnlyObjects [] s t))

/-- A commit takes the next sequence and a slot of a usable copy, and leaves no write uncovered; one asked for while another runs
follows it, or the command answers ST_BUSY; with no copy left it ends ST_REFUSED_NOT_READY. A committed record stands in its
slot, is counted and answered; a slot that does not read back is written once more, then its copy is failed and the record
goes to the other. (R420, R421, R422, R475) -/
def Obligations.CommitsReachTheStore : Prop :=
  (∀ s : State,
    let due := s.control.uncoveredP = true ∨ s.control.uncoveredH = true
    let run := Instr.persistCommitDelayExpiry
    (¬ due → exec run s = .next s) ∧
    (due → s.control.commit.isSome = true → Completes run s fun t => t.control.commitDue = true ∧
      t.control.commit = s.control.commit ∧ t.dict = s.dict ∧ t.mem = s.mem) ∧
    (∀ slot, due → s.control.commit = none → s.slotFor s.nextRecord = some slot → Completes run s fun t =>
      (∃ j, t.control.commit = some j ∧ j.sequence = s.nextRecord ∧ j.slot = slot ∧ j.body = s.classBody .p ∧
        j.hoopBody = s.classBody .h ∧ j.covers = s.num Obj.persistPending) ∧
      t.control.uncoveredP = false ∧ t.control.uncoveredH = false ∧ t.num Obj.persistCommandStatus = St.busy ∧
      ObjectsKept [Obj.persistCommandStatus] s t ∧ t.mem = s.mem) ∧
    (due → s.control.commit = none → s.slotFor s.nextRecord = none → Completes run s fun t =>
      t.num Obj.persistCommandStatus = St.refusedNotReady ∧ Logs Ev.persistFail {} [] s t)) ∧
  (∀ (rq : Requester) (s : State),
    let run := Instr.persistCommit rq
    let key := Obj.persistCommandStatus
    let busy := s.control.commit.isSome = true ∨ s.storeReachable = false
    Accepts s rq Obj.persistCommand (.num 1) none →
    (busy → Completes run s fun t => t.num key = St.busy ∧ Answered rq St.ok t ∧ OnlyObjects [key] s t) ∧
    (¬ busy → ∀ slot, s.slotFor s.nextRecord = some slot → Completes run s fun t => t.num key = St.busy ∧ Answered rq St.ok t ∧
      (∃ j, t.control.commit = some j ∧ j.sequence = s.nextRecord ∧ j.slot = slot) ∧ OnlyObjects [key] s t) ∧
    (¬ busy → s.slotFor s.nextRecord = none → Completes run s fun t => t.num key = St.refusedNotReady ∧ Answered rq St.ok t ∧
      t.mem = s.mem)) ∧
  (∀ s : State,
    let key := Obj.persistCommandStatus
    (∀ ok, s.control.commit = none → exec (.persistCommitComplete ok) s = .next s) ∧
    (∀ j, s.control.commit = some j → s.control.commitDue = false → Completes (.persistCommitComplete true) s fun t =>
      t.control.commit = none ∧ Map.get {} t.control.store j.slot = ⟨j.sequence, j.body, true⟩ ∧
      Map.get {} t.control.hoopStore j.slot = ⟨j.sequence, j.hoopBody, true⟩ ∧ t.num Obj.persistSequence = j.sequence ∧
      t.num key = St.ok ∧ t.num Obj.persistCommits = (s.num Obj.persistCommits + 1) % 2 ^ 64 ∧
      t.num Obj.persistPending = s.num Obj.persistPending - j.covers ∧ (∀ rq, j.answer = some rq → Answered rq St.ok t) ∧
      ObjectsKept [Obj.persistSequence, key, Obj.persistCommits, Obj.persistPending, Obj.persistRecordBytes] s t ∧ t.mem = s.mem) ∧
    (∀ j, s.control.commit = some j → j.retried = false → Completes (.persistCommitComplete false) s fun t =>
      t.control.commit = some { j with retried := true } ∧ t.dict = s.dict ∧ t.mem = s.mem) ∧
    (∀ j, s.control.commit = some j → j.retried = true →
      let u := s.failCopy (slotDevice j.slot)
      Completes (.persistCommitComplete false) s fun t => bitAt (t.num Obj.persistCopyState) (slotDevice j.slot) = true ∧
        Reported Ev.persistFail { unit := slotDevice j.slot } t ∧ t.mem = s.mem ∧
        (∀ slot, u.slotFor j.sequence = some slot → t.control.commit = some { j with slot := slot, retried := false }) ∧
        (u.slotFor j.sequence = none → t.control.commit = none ∧ t.num key = St.refusedNotReady ∧
          ∀ rq, j.answer = some rq → Answered rq St.refusedNotReady t)))

/-- A function-level reset and PERST clear the request slots, their latched copies and the vectors; in D0 the vectors kept pending
are sent. A management link that goes down sends the PTP domains on it to Holdover. Sixteen flit errors of a die link fail
every domain of the receiving die, and are reported. (R355, R408, R424, R451, R454, R482) -/
def Obligations.LinksOfTheModule : Prop :=
  (∀ s : State,
    let reset (t : State) : Prop := t.control.slots = [] ∧ t.control.msixTable = [] ∧ t.control.msixPending = [] ∧
      t.control.d3hot = false ∧ (∀ n < 16, Map.get (0, []) t.control.latch n = (0, [])) ∧
      (∀ n, 16 ≤ n → Map.get (0, []) t.control.latch n = Map.get (0, []) s.control.latch n) ∧
      t.control.store = s.control.store ∧ t.control.pdp = s.control.pdp ∧ { t with control := s.control } = s
    Completes .pcieFlr s (fun t => reset t ∧ t.control.pcieLinkUp = s.control.pcieLinkUp) ∧
    Completes .perstLAssert s (fun t => reset t ∧ t.control.pcieLinkUp = false) ∧
    Completes (.pciePowerStateWrite true) s (fun t => t.control.d3hot = true ∧
      t.control.msixPending = s.control.msixPending ∧ { t with control := s.control } = s) ∧
    Completes (.pciePowerStateWrite false) s (fun t => t.control.d3hot = false ∧ t.control.msixPending = [] ∧
      (∀ v ∈ s.control.msixPending, .msix v ∈ t.out) ∧ t.dict = s.dict ∧ t.mem = s.mem)) ∧
  (∀ (p : Fin 2) (s : State),
    Completes (.mgtLinkStateChange p true) s (fun t => t.num (Obj.mgtLinkState p) = 1 ∧
      ChangesObjects [Obj.mgtLinkState p] s t) ∧
    Completes (.mgtLinkStateChange p false) s fun t => t.num (Obj.mgtLinkState p) = 0 ∧ t.mem = s.mem ∧
      ∀ d : Fin 2,
        let st := s.num (Obj.tbState (d.val + 1))
        t.num (Obj.tbState (d.val + 1)) = if s.num (Obj.timeDomainPort d) = p ∧ (st = 2 ∨ st = 3) then 4 else st) ∧
  (∀ (sender receiver : Die) (s : State),
    let key := 32 * sender.val + receiver.val
    let n := Map.get 0 s.boot.flitFailures key + 1
    let run := Instr.dieLinkFlitError sender receiver
    (n < 16 → Completes run s fun t => Map.get 0 t.boot.flitFailures key = n ∧ { t with boot := s.boot } = s) ∧
    (16 ≤ n → IdleWork s → Completes run s fun t => Map.get 0 t.boot.flitFailures key = 0 ∧
      t.num Obj.dieLinkFaults = (s.num Obj.dieLinkFaults + 1) % 2 ^ 32 ∧
      (∀ d ∈ domainsOf receiver, t.num (Obj.domainState d) = 3) ∧
      Reported Ev.dieLinkFault { die := receiver, unit := sender } t))

/-- A piece of an image is staged; an install is checked in R430's order, writes the other slot and makes it the active one once
it reads back. An ownership record that holds sets the owner's key and sequence, renews the PDP keys, clears grants and the
hoops' keys, and starts a commit. The floor only rises, to at most the running image's version. A nonce of 32 bytes starts a
quote, whose completion signs its body. (R402, R428, R429, R430, R431, R432, R435, R436, R437, R446) -/
def Obligations.FirmwareOwnershipAndQuotes : Prop :=
  (∀ (rq : Requester) (offset : BitVec 32) (data : Bytes) (s : State),
    let run := Instr.firmwareStageWrite rq offset data
    let fits := 1 ≤ data.length ∧ data.length ≤ 4096 ∧ offset.toNat + data.length ≤ 33554432
    Accepts s rq Obj.firmwareStageWrite (.blob (leBytes 4 offset.toNat ++ data)) none →
    (¬ fits → Completes run s fun t => Answered rq St.lenExceeded t ∧ OnlyObjects [] s t) ∧
    (fits → Completes run s fun t => Answered rq St.ok t ∧ t.dict = s.dict ∧ t.mem = s.mem ∧
      t.security = { s.security with stage := s.security.stage.writeBytes offset.toNat data })) ∧
  (∀ (rq : Requester) (s : State),
    let run := Instr.firmwareInstall rq
    let key := Obj.firmwareCommandStatus
    let n := s.num Obj.firmwareStageLength
    let image := FirmwareImage.image (s.security.stage.readBytes 0 n)
    let busy := s.security.installing.isSome = true ∨ s.num (Obj.domainState 6) = 3 ∨ s.num (Obj.domainState 7) = 3
    let long := n < 14576 ∨ n ≠ field image.trailer 20 4 + 14576 ∨ 33554432 < n
    let refused (status : Nat) (t : State) : Prop := t.num key = status ∧ Answered rq St.ok t ∧ OnlyObjects [key] s t
    Accepts s rq Obj.firmwareCommand (.num 1) none →
    (busy → Completes run s (refused St.busy)) ∧
    (¬ busy → long → Completes run s (refused St.lenExceeded)) ∧
    (¬ busy → ¬ long → Completes run s fun t =>
      if image.signed = false then refused St.badSignature t
      else if image.security < s.num Obj.rollbackFloor then refused St.notPermittedInState t
      else t.num key = St.busy ∧ Answered rq St.ok t ∧ t.security.installing = some image ∧
        t.firmwareSlot (1 - s.num Obj.firmwareActiveSlot) = none ∧ ObjectsKept [key] s t ∧ t.mem = s.mem)) ∧
  (∀ s : State,
    let other := 1 - s.num Obj.firmwareActiveSlot
    (∀ ok, s.security.installing = none → exec (.firmwareInstallComplete ok) s = .next s) ∧
    ∀ i, s.security.installing = some i →
      Completes (.firmwareInstallComplete true) s (fun t => t.firmwareSlot other = some i ∧ t.security.installing = none ∧
        t.num Obj.firmwareActiveSlot = other ∧ t.num Obj.firmwareCommandStatus = St.ok ∧
        ObjectsKept [Obj.firmwareActiveSlot, Obj.firmwareCommandStatus, Obj.persistPending] s t) ∧
      Completes (.firmwareInstallComplete false) s fun t => t.security.installing = none ∧
        t.num Obj.firmwareCommandStatus = St.uncorrectable ∧ ObjectsKept [Obj.firmwareCommandStatus] s t) ∧
  (∀ (rq : Requester) (record : Bytes) (s : State),
    let run := Instr.ownershipTransfer rq record
    let key := slice record 24 2592
    let failed := s.num (Obj.domainState 6) = 3 ∨ s.num (Obj.domainState 7) = 3
    let refused (status : Nat) (t : State) : Prop := Answered rq status t ∧ OnlyObjects [] s t
    Accepts s rq Obj.ownershipTransfer (.blob record) none →
    (s.allHoopsEmpty = false → Completes run s (refused St.notPermittedInState)) ∧
    (s.allHoopsEmpty = true → failed → Completes run s (refused St.busy)) ∧
    (s.allHoopsEmpty = true → ¬ failed → Completes run s fun t =>
      if s.ownershipHolds record = false then refused St.badSignature t
      else t.bytes Obj.ownerKey = key ∧ t.num Obj.ownershipSequence = s.num Obj.ownershipSequence + 1 ∧
        t.bytes Obj.pdpKeyTable = sha3Bytes key ++ [0xFF, 1] ++ List.replicate 6 0 ∧ t.bytes Obj.peerGrantTable = [] ∧
        (∀ h : Hoop, t.bytes (Obj.hoopProgramKey h) = [] ∧ t.bytes (Obj.hoopControllerKey h) = []) ∧
        Reported Ev.ownershipChanged {} t ∧ t.mem = s.mem ∧
        (s.control.commit = none → s.slotFor s.nextRecord = none → Answered rq St.refusedNotReady t) ∧
        (s.control.commit = none → s.slotFor s.nextRecord ≠ none → ∃ j, t.control.commit = some j ∧ j.answer = some rq))) ∧
  (∀ (rq : Requester) (value : BitVec 32) (token : Token) (s : State),
    let key := Obj.rollbackFloor
    let v := value.toNat
    let old := s.num key
    let status := ((s.dropLatch rq key).touch key).writeStatus rq key (.num v) (some token)
    s.serves rq = true → Completes (.rollbackFloorWrite rq value token) s fun t =>
      (status ≠ St.ok → Answered rq status t ∧ OnlyObjects [Obj.peerAccessRefusals] s t) ∧
      (status = St.ok → v < old ∨ s.security.running.security < v → Answered rq St.accessDenied t ∧ OnlyObjects [] s t) ∧
      (status = St.ok → old ≤ v → v ≤ s.security.running.security → Answered rq St.ok t ∧ t.num key = v ∧
        t.num Obj.sigCounter = token.counter.toNat ∧ t.security = { s.security with floorTag := floorTagOf v } ∧ t.mem = s.mem ∧
        (old < v → Reported Ev.rollbackRaised { detail := v } t) ∧
        (v = old → ObjectsKept [key, Obj.sigCounter, Obj.persistPending] s t))) ∧
  (∀ (rq : Requester) (nonce : Bytes) (s : State),
    let starts (run : Instr) (scope key status : Nat) : Prop := Accepts s rq key (.blob nonce) none →
      (nonce.length ≠ 32 → Completes run s fun t => Answered rq St.lenExceeded t ∧ OnlyObjects [] s t) ∧
      (nonce.length = 32 → Completes run s fun t => Answered rq St.ok t ∧ t.bytes key = nonce ∧ t.num status = St.busy ∧
        Map.get [] t.security.quoting scope = nonce ∧ ObjectsKept [key, status] s t ∧ t.mem = s.mem)
    starts (.attestNonceWrite rq nonce) 16 Obj.attestNonce Obj.attestStatus ∧
    ∀ h : Hoop, starts (.hoopAttestNonceWrite rq h nonce) h (Obj.hoopAttestNonce h) (Obj.hoopAttestStatus h)) ∧
  (∀ s : State,
    let signs (scope : Option Hoop) (n key status : Nat) : Prop :=
      let nonce := Map.get [] s.security.quoting n
      let run := Instr.quoteComplete scope
      (nonce = [] ∨ s.num (Obj.domainState 6) = 3 → exec run s = .next s) ∧
      (nonce ≠ [] → s.num (Obj.domainState 6) ≠ 3 → Completes run s fun t => t.num status = St.ok ∧ t.mem = s.mem ∧
        Map.get [] t.security.quoting n = [] ∧ ObjectsKept [key, status] s t ∧
        ∃ sig, t.bytes key = s.quoteBody n nonce ++ sig ∧ sig.length = 4627)
    signs none 16 Obj.attestQuote Obj.attestStatus ∧
    ∀ h : Hoop, signs (some h) h (Obj.hoopAttestQuote h) (Obj.hoopAttestStatus h))

/-- While the meter is halted nothing counts. A good frame adds its increments, a bad one or a gap is marked; each sample adds its
energies; each millisecond the energies are shared among the hoops by their busy cycles. A record takes the next sequence, is
signed over its body, clears the marks and falls due after a restart that runs. An image that verifies is installed under a
higher seal counter and runs after the restart. (R438, R439, R440, R441, R442, R443) -/
def Obligations.MeterCountsAndSeals : Prop :=
  (∀ s : State, s.num Obj.meterState = 0 →
    (∀ link ok count l, exec (.meterLinkFrame link ok count l) s = .next s) ∧
    (∀ a b l, exec (.meterAdcSample a b l) s = .next s) ∧ exec .meterEnergySplit s = .next s ∧
    exec .meterRecord s = .next s ∧ exec .meterPowerFailRecord s = .next s) ∧
  (∀ (link : Fin 13) (count : Nat) (l : List MeterIncrement) (s : State), s.num Obj.meterState ≠ 0 →
    Completes (.meterLinkFrame link false count l) s (fun t => t = { s with meter := { s.meter with linkFault := true } }) ∧
    Completes (.meterLinkFrame link true count l) s fun t => { t with meter := s.meter } = s ∧
      Map.get 0 t.meter.expected link = count + 1 ∧
      (t.meter.linkFault = true ↔ s.meter.linkFault = true ∨ count ≠ Map.get 0 s.meter.expected link) ∧
      (∀ (h : Hoop) (c : Fin 8) (n : Nat), l = [.counter h c n] → ∀ (i : Hoop) (j : Nat), j < 9 →
        t.meter.counter i j = s.meter.counter i j + if i = h ∧ j = c then n else 0) ∧
      (∀ (h : Hoop) (n : Nat), l = [.meshBusy h n] → 1 ≤ link.val → link.val ≤ 8 →
        t.meter.busyOf (link.val - 1) h = s.meter.busyOf (link.val - 1) h + n ∧ t.meter.counters = s.meter.counters)) ∧
  (∀ (a b : Nat) (l : List Nat) (s : State), s.num Obj.meterState ≠ 0 → Completes (.meterAdcSample a b l) s fun t =>
    t.meter.inputEnergy = s.meter.inputEnergy + a + b ∧ { t with meter := s.meter } = s ∧
    ∀ g < 8, Map.get 0 t.meter.railEnergy g = Map.get 0 s.meter.railEnergy g + l[g]?.getD 0) ∧
  (∀ s : State, s.num Obj.meterState ≠ 0 → Completes .meterEnergySplit s fun t =>
    let given := ((List.range 16).map s.meter.shares).sum
    t.meter.ticks = s.meter.ticks + 1 ∧ t.meter.moduleEnergy = s.meter.moduleEnergy + s.meter.inputEnergy ∧
    t.meter.unattributed = s.meter.unattributed + (s.meter.inputEnergy - given) ∧
    (∀ h : Hoop, t.meter.counter h 8 = s.meter.counter h 8 + s.meter.shares h) ∧
    t.meter.busy = [] ∧ t.meter.railEnergy = [] ∧ t.meter.inputEnergy = 0 ∧ { t with meter := s.meter } = s) ∧
  (∀ s : State,
    let st := s.num Obj.meterState
    let wrote (u : State) (powerFail : Bool) (t : State) : Prop := t.meter.newest = s.meter.newest + 1 ∧
      t.num Obj.meterLastSequence = s.meter.newest + 1 ∧ t.meter.linkFault = false ∧ t.meter.gap = false ∧
      t.meter.firmwareChanged = false ∧ t.meter.counters = s.meter.counters ∧ t.mem = s.mem ∧
      ∃ sig, Map.get [] t.meter.records (s.meter.newest + 1) = u.meterBody powerFail ++ sig ∧ sig.length = 4627
    let kept : List Nat := [Obj.meterLastSequence, Obj.meterOldestSequence]
    (st = 2 → exec .meterRecord s = .next { s with meter := { s.meter with recordDue := true } }) ∧
    (st ≠ 0 → st ≠ 2 → Completes .meterRecord s fun t => wrote s false t ∧ ObjectsKept kept s t) ∧
    (st ≠ 0 → Completes .meterPowerFailRecord s fun t => wrote s true t ∧ ObjectsKept kept s t) ∧
    (st ≠ 2 → exec .meterRestartComplete s = .next s) ∧
    (st = 2 → Completes .meterRestartComplete s fun t => t.num Obj.meterState = 1 ∧ t.num Obj.meterCommandStatus = St.ok ∧
      t.num Obj.meterSealCounter = s.meter.sealCounter ∧ t.mem = s.mem ∧
      (s.meter.recordDue = true → t.meter.newest = s.meter.newest + 1 ∧ t.meter.recordDue = false) ∧
      (s.meter.recordDue = false → t.meter = s.meter))) ∧
  (∀ (rq : Requester) (offset : BitVec 32) (data : Bytes) (s : State),
    let run := Instr.meterStageWrite rq offset data
    let fits := 1 ≤ data.length ∧ data.length ≤ 4096
    Accepts s rq Obj.meterStageWrite (.blob (leBytes 4 offset.toNat ++ data)) none →
    (¬ fits → Completes run s fun t => Answered rq St.lenExceeded t ∧ OnlyObjects [] s t) ∧
    (fits → Completes run s fun t => Answered rq St.ok t ∧ t.dict = s.dict ∧ t.mem = s.mem ∧
      t.meter = { s.meter with stage := s.meter.stage.writeBytes offset.toNat data })) ∧
  (∀ (rq : Requester) (s : State),
    let run := Instr.meterInstall rq
    let key := Obj.meterCommandStatus
    let image := s.meter.stage.readBytes 0 (s.num Obj.meterStageLength)
    let refused (status : Nat) (t : State) : Prop := t.num key = status ∧ Answered rq St.ok t ∧ OnlyObjects [key] s t
    Accepts s rq Obj.meterCommand (.num 1) none →
    (s.num Obj.meterState = 2 → Completes run s (refused St.busy)) ∧
    (s.num Obj.meterState ≠ 2 → Completes run s fun t => match Config.meterImageVersion image with
      | none => refused St.badSignature t
      | some v =>
        if v.toNat < s.meter.floor ∨ s.num Obj.meterState = 0 then refused St.badSignature t
        else t.num Obj.meterState = 2 ∧ t.num key = St.busy ∧ Answered rq St.ok t ∧
          t.meter.sealCounter = (s.meter.sealCounter + 1) % 2 ^ 32 ∧ t.meter.floor = v.toNat ∧ t.meter.firmware = some image ∧
          t.meter.firmwareChanged = true ∧ t.meter.counters = s.meter.counters ∧
          ObjectsKept [key, Obj.meterState] s t ∧ t.mem = s.mem))

/-- Power-on keeps what needs no power and begins stage 1. A stage that completes while the module starts begins the next, with
its word in MB00; without a main input the module rests in Standby after stage 6, and after stage 9 it is Ready. A stage that
fails, a regulator's fourth miss and a crystal that does not start leave the Limp state with its cause; a regulator's first
three misses are retried. (R367, R421, R427, R429, R464, R465, R466, R467, R469, R471) -/
def Obligations.StartUpGoesThroughItsStages : Prop :=
  (∀ (main standby : Bool) (s : State), Completes (.powerOn main standby) s fun t => t.num Obj.startupStage = 1 ∧
    t.num Obj.moduleState = 0 ∧ t.mainPresent = main ∧ t.standbyPresent = standby ∧ t.mem = [] ∧ t.tiles = [] ∧
    t.control.store = s.control.store ∧ t.control.hoopStore = s.control.hoopStore ∧ t.security.slotA = s.security.slotA ∧
    t.security.slotB = s.security.slotB ∧ t.meter.records = s.meter.records ∧ t.pending = s.pending ∧
    (∀ h : Hoop, t.num (Obj.hoopState h) = 0) ∧ t.num (Obj.mailboxWord 0) = 1 + 0xFF * 2 ^ 8) ∧
  (∀ (ok : Bool) (failed : List Channel) (s : State),
    let stage := s.num Obj.startupStage
    let run := Instr.startupStageComplete ok failed
    let powered := s.mainPresent = true ∨ s.standbyPresent = true ∨ stage ≠ 1
    let runs := s.starting = true ∧ powered
    let reaches (n : Nat) (t : State) : Prop := t.num Obj.startupStage = n ∧ t.num Obj.moduleState = 0 ∧
      t.num (Obj.mailboxWord 0) = n + 0xFF * 2 ^ 8
    let fails (cause : Nat) (t : State) : Prop := t.num Obj.moduleState = 3 ∧ t.num Obj.limpCause = cause
    (¬ runs → exec run s = .next s) ∧
    (runs → stage = 1 → ok = true → Completes run s (reaches 2)) ∧
    (runs → stage = 1 → ok = false → exec run s = .next s) ∧
    (runs → stage = 2 → Completes run s (reaches 3)) ∧
    (runs → stage = 3 → ok = true → s.copyFailed 0 = false ∨ s.copyFailed 1 = false → Completes run s fun t =>
      t.num Obj.startupStage = 4 ∧ t.num (Obj.mailboxWord 0) = 4 + 0xFF * 2 ^ 8 ∧ t.security.identityReady = true) ∧
    (runs → stage = 3 → s.copyFailed 0 = true → s.copyFailed 1 = true → Completes run s fun t =>
      fails 3 t ∧ Reported Ev.identityFail {} t) ∧
    (runs → stage = 3 → ok = false → Completes run s fun t => fails 3 t ∨ fails 5 t) ∧
    (runs → stage = 4 → Completes run s fun t => match s.bootSlot with
      | none => fails 4 t
      | some n => if ok = true then t.num Obj.startupStage = 5 ∧ t.num Obj.firmwareActiveSlot = n ∧
          t.security.running = (s.firmwareSlot n).getD s.security.running else fails 4 t) ∧
    (runs → stage = 5 → Completes run s fun t => if ok = true then reaches 6 t else fails 1 t) ∧
    (runs → stage = 6 → s.mainPresent = true → Completes run s (reaches 7)) ∧
    (runs → stage = 6 → s.mainPresent = false → Completes run s fun t => t.num Obj.moduleState = 1 ∧
      t.num Obj.startupStage = 6 ∧ t.boot.resetting = none) ∧
    (runs → stage = 7 → Completes run s fun t => if ok = true then t.num Obj.startupStage = 8 else fails 2 t) ∧
    (runs → stage = 8 → Completes run s fun t => t.num Obj.startupStage = 9) ∧
    (runs → stage = 9 → Completes run s fun t => t.num Obj.moduleState = 2 ∧ t.boot.resetting = none)) ∧
  (∀ (n : BitVec 8) (s : State),
    let missed := Map.get 0 s.boot.misses n.toNat + 1
    Completes (.regulatorPowerGood n) s (fun t => n.toNat ∈ t.boot.powered ∧ Map.get 0 t.boot.misses n.toNat = 0 ∧
      { t with boot := s.boot } = s) ∧
    (s.starting = false → exec (.regulatorTimeout n) s = .next s) ∧
    (s.starting = true → missed < 4 → Completes (.regulatorTimeout n) s fun t => Map.get 0 t.boot.misses n.toNat = missed ∧
      t.num Obj.regulatorRetries = (s.num Obj.regulatorRetries + 1) % 2 ^ 32 ∧ ObjectsKept [Obj.regulatorRetries] s t) ∧
    (s.starting = true → 4 ≤ missed → s.num Obj.startupStage = 1 → Completes (.regulatorTimeout n) s fun t =>
      t.num Obj.regulatorFailed = n.toNat ∧ ObjectsKept [Obj.regulatorFailed] s t) ∧
    (s.starting = true → 4 ≤ missed → s.num Obj.startupStage ≠ 1 → Completes (.regulatorTimeout n) s fun t =>
      t.num Obj.moduleState = 3 ∧ t.num Obj.limpCause = 2 ∧ Reported Ev.wakeFail { detail := n.toNat } t)) ∧
  (∀ s : State,
    let stage := s.num Obj.startupStage
    let waits := s.starting = true ∧ s.flag (Obj.sourceReady 1) = false ∧ 2 ≤ stage ∧ stage ≤ 5
    (¬ waits → exec .xtalReadyTimeout s = .next s) ∧
    (waits → Completes .xtalReadyTimeout s fun t => t.num Obj.moduleState = 3 ∧ t.num Obj.limpCause = 1 ∧
      Reported Ev.wakeFail { detail := 1 } t))

/-- InputState follows the inputs. A module that loses its last input is off; a Ready module that loses the main input goes to
Standby; one in Standby whose main input returns continues from stage 7. A reversed input is absent, marked and reported; one
out of range is absent. (R454, R463, R466, R471, R480) -/
def Obligations.InputsComeAndGo : Prop :=
  ∀ s : State,
    let ready := s.num Obj.moduleState = 2
    let off (t : State) : Prop := t.num Obj.moduleState = 0 ∧ t.mem = [] ∧ t.tiles = [] ∧ t.boot.resetting = some .powerOn
    let standsBy (t : State) : Prop := t.num Obj.moduleState = 1 ∧ t.num Obj.startupStage = 6 ∧ t.mem = []
    let mainGone (c : Instr) : Prop := Completes c s fun t => t.mainPresent = false ∧ t.standbyPresent = s.standbyPresent ∧
      (s.standbyPresent = false → off t) ∧ (s.standbyPresent = true → ready → standsBy t)
    let standbyGone (c : Instr) : Prop := Completes c s fun t => t.standbyPresent = false ∧ t.mainPresent = s.mainPresent ∧
      (s.mainPresent = false → off t)
    mainGone .mainInputLoss ∧ mainGone (.inputFault .main .outOfRange) ∧ mainGone (.inputFault .main .reversed) ∧
    Completes (.inputFault .main .outOfRange) s (fun t => bitAt (t.num Obj.inputState) 2 = true) ∧
    Completes (.inputFault .main .reversed) s (fun t => bitAt (t.num Obj.inputState) 1 = true ∧
      Reported Ev.inputFault { unit := 0 } t) ∧
    standbyGone (.standbyInputChange false) ∧ standbyGone (.inputFault .standby .outOfRange) ∧
    standbyGone (.inputFault .standby .reversed) ∧
    Completes (.inputFault .standby .reversed) s (fun t => bitAt (t.num Obj.inputState) 4 = true ∧
      Reported Ev.inputFault { unit := 1 } t) ∧
    Completes (.standbyInputChange true) s (fun t => t.standbyPresent = true ∧ t.mainPresent = s.mainPresent ∧
      bitAt (t.num Obj.inputState) 4 = false ∧
      (s.mainPresent = true → ChangesObjects [Obj.inputState] s t)) ∧
    Completes .mainInputAppear s fun t => t.mainPresent = true ∧ t.standbyPresent = s.standbyPresent ∧
      (s.num Obj.moduleState = 1 → t.num Obj.moduleState = 0 ∧ t.num Obj.startupStage = 7) ∧
      (s.num Obj.moduleState ≠ 1 → ChangesObjects [Obj.inputState] s t)

/-- A ResetCommand is checked in order: in the Limp state only a cold reset, a target that exists, and no reset of the same or a
higher rank in progress. A cold reset, and RESET_L at any time, loses memory and work and starts again from stage 2; a warm or
hub-only reset keeps persistent objects, stops running hoops, breaks open groups and reads ST_BUSY until it ends; a die's
reset faults the hoops whose memory it held; a hoop's reset ends in its release. An end of a reset that is not in progress
does nothing. (R471, R472, R473, R474, R476, R477) -/
def Obligations.ResetsActByTheirClass : Prop :=
  (∀ s : State,
    let cold (t : State) : Prop := t.num Obj.startupStage = 2 ∧ t.num Obj.lastResetClass = 1 ∧ t.num Obj.moduleState = 0 ∧
      t.boot.resetting = some .cold ∧ t.mem = [] ∧ t.tiles = [] ∧ t.work = {} ∧ t.pools = {} ∧ t.fabric = {} ∧ t.line = {} ∧
      t.net = {} ∧ t.control.store = s.control.store ∧ t.meter = s.meter ∧ t.security.slotA = s.security.slotA ∧
      t.security.slotB = s.security.slotB ∧ (∀ h : Hoop, t.num (Obj.hoopState h) = 0) ∧
      (∀ g : GroupNo, t.num (Obj.groupState g) = 0)
    Completes .resetLAssert s cold ∧
    ∀ rq : Requester,
      let key := Obj.resetCommandStatus
      let target := s.num Obj.resetTarget
      let refused (n : Nat) (c : Instr) (x : ResetClass) : Prop := Accepts s rq Obj.resetCommand (.num n) none →
        ∀ status, s.resetStatus x = status → status ≠ St.ok → Completes c s fun t =>
          t.num key = status ∧ Answered rq St.ok t ∧ OnlyObjects [key] s t
      let takes (n : Nat) (c : Instr) (x : ResetClass) (post : State → Prop) : Prop :=
        Accepts s rq Obj.resetCommand (.num n) none → s.resetStatus x = St.ok → Completes c s post
      refused 1 (.resetCold rq) .cold ∧ refused 2 (.resetWarm rq) .warm ∧ refused 3 (.resetHub rq) .hub ∧
      refused 4 (.resetDie rq) (.die target) ∧ refused 5 (.resetHoop rq) (.hoop target) ∧
      takes 1 (.resetCold rq) .cold cold ∧
      (GroupsOwned s → takes 2 (.resetWarm rq) .warm (fun t => t.boot.resetting = some .warm ∧ t.num Obj.lastResetClass = 2 ∧ t.num key = St.busy ∧
        t.num Obj.moduleState = 0 ∧ t.num Obj.warmResets = (s.num Obj.warmResets + 1) % 2 ^ 32 ∧ t.tiles = [] ∧
        (∀ i : Tile, t.num (Obj.tileState i) = 5 ∨ t.num (Obj.tileState i) = 0) ∧
        (∀ h : Hoop, t.num (Obj.hoopState h) ≠ 2 ∧ t.num (Obj.hoopState h) ≠ 3) ∧
        (∀ g : GroupNo, t.num (Obj.groupState g) ≠ 1) ∧
        ∀ (h : Hoop) j, (s.hoop h).job = some j →
          t.num (if j.isPlan then Obj.planCommandStatus h else Obj.imageCommandStatus h) = St.aborted)) ∧
      (GroupsOwned s → takes 3 (.resetHub rq) .hub (fun t => t.boot.resetting = some .hub ∧ t.num Obj.lastResetClass = 3 ∧ t.num key = St.busy ∧
        t.num Obj.moduleState = 0 ∧ (∀ w : Wale, t.wale w = {}) ∧
        (∀ h : Hoop, t.num (Obj.hoopState h) ≠ 2 ∧ t.num (Obj.hoopState h) ≠ 3) ∧
        (∀ g : GroupNo, t.num (Obj.groupState g) ≠ 1) ∧
        ∀ (h : Hoop) j, (s.hoop h).job = some j →
          t.num (if j.isPlan then Obj.planCommandStatus h else Obj.imageCommandStatus h) = St.aborted)) ∧
      (IdleWork s → takes 4 (.resetDie rq) (.die target) (fun t => t.boot.resetting = some (.die target) ∧ t.num key = St.busy ∧
        (9 ≤ target → target < 17 → (∀ a, a / 2 ^ 38 = target - 9 → t.mem.read a = 0) ∧
          ∀ h : Hoop, s.num (Obj.hoopState h) ≠ 0 → t.num (Obj.hoopState h) = 6))) ∧
      (IdleWork s → takes 5 (.resetHoop rq) (.hoop target) (fun t => t.boot.resetting = some (.hoop target) ∧ t.num key = St.busy))) ∧
  (∀ s : State,
    let key := Obj.resetCommandStatus
    let boots (t : State) : Prop := match s.bootSlot with
      | none => t.num Obj.moduleState = 3 ∧ t.num Obj.limpCause = 4
      | some _ => t.boot.resetting = none ∧ t.num key = St.ok ∧ t.num Obj.moduleState = if s.mainPresent then 2 else 1
    (s.boot.resetting = none ∨ s.boot.resetting = some .cold ∨ s.boot.resetting = some .powerOn →
      exec .resetComplete s = .next s) ∧
    (s.boot.resetting = some .warm ∨ s.boot.resetting = some .hub → Completes .resetComplete s boots) ∧
    (∀ n : Die, s.boot.resetting = some (.die n) → Completes .resetComplete s fun t => t.boot.resetting = none ∧
      t.num key = St.ok ∧ ∀ d ∈ domainsOf n, t.num (Obj.domainState d) = 1 ∨ t.num (Obj.domainState d) = 4) ∧
    (∀ h : Hoop, s.boot.resetting = some (.hoop h) → IdleWork s → Completes .resetComplete s fun t => t.boot.resetting = none ∧
      t.num key = St.ok ∧ t.num (Obj.hoopState h) = 0 ∧ t.hoop h = {}))
end

