-- ==== Sys2Proof/Laws/Maps.lean ====
section
/-! SUPPORT. Laws of sparse data: what `get` reads after `put`, `clear` and `filter`, and that each operation keeps the canonical
form; the same for memory. -/

namespace Sys2Proof.Machine

/-! ### Canonical form as a sorted list without defaults -/

/-- The canonical form in two parts: keys strictly rising, no entry at its default. -/
theorem Map.wf_iff {β : Type} [DecidableEq β] (d : Nat → β) (m : Map β) :
    Map.wf d m = true ↔ m.Pairwise (fun a b => a.1 < b.1) ∧ ∀ c ∈ m, c.2 ≠ d c.1 := by
  induction m with
  | nil => simp [Map.wf]
  | cons c r ih =>
    cases r with
    | nil => simp [Map.wf]
    | cons e r =>
      obtain ⟨a, v⟩ := c
      obtain ⟨b, w⟩ := e
      simp only [Map.wf, Bool.and_eq_true, decide_eq_true_eq, ih]
      constructor
      · rintro ⟨⟨hv, hab⟩, hp, hd⟩
        refine ⟨List.pairwise_cons.2 ⟨?_, hp⟩, ?_⟩
        · intro e he
          rcases List.mem_cons.1 he with rfl | he
          · exact hab
          · exact lt_trans hab ((List.pairwise_cons.1 hp).1 e he)
        · intro e he
          rcases List.mem_cons.1 he with rfl | he
          · exact hv
          · exact hd e he
      · rintro ⟨hp, hd⟩
        have h := List.pairwise_cons.1 hp
        exact ⟨⟨hd _ (List.mem_cons_self ..), h.1 _ (List.mem_cons_self ..)⟩, h.2,
          fun e he => hd e (List.mem_cons_of_mem _ he)⟩

/-- A part of a canonical map, chosen by its entries, is canonical. -/
theorem Map.wf_filter {β : Type} [DecidableEq β] (d : Nat → β) (p : Nat × β → Bool) {m : Map β} (h : Map.wf d m = true) :
    Map.wf d (m.filter p) = true := by
  rw [Map.wf_iff] at h ⊢
  exact ⟨h.1.filter p, fun c hc => h.2 c (List.mem_filter.1 hc).1⟩

/-- The empty map is canonical. -/
theorem Map.wf_nil {β : Type} [DecidableEq β] (d : Nat → β) : Map.wf d ([] : Map β) = true := rfl

/-- Clearing keeps the canonical form. -/
theorem Map.wf_clear {β : Type} [DecidableEq β] (d : Nat → β) (p : Nat → Bool) {m : Map β} (h : Map.wf d m = true) :
    Map.wf d (Map.clear p m) = true := Map.wf_filter d _ h

/-- The entries of an insertion: the new one and the old ones. -/
theorem Map.mem_insert {β : Type} {k : Nat} {v : β} {m : Map β} {c : Nat × β} :
    c ∈ Map.insert k v m ↔ c = (k, v) ∨ c ∈ m := by
  induction m with
  | nil => simp [Map.insert]
  | cons e r ih =>
    obtain ⟨a, w⟩ := e
    simp only [Map.insert]
    split
    · simp [List.mem_cons]
    · simp only [List.mem_cons, ih]
      tauto

/-- Insertion of a key that is not listed keeps the order. -/
theorem Map.pairwise_insert {β : Type} {k : Nat} {v : β} {m : Map β} (h : m.Pairwise (fun a b => a.1 < b.1))
    (hk : ∀ c ∈ m, c.1 ≠ k) : (Map.insert k v m).Pairwise (fun a b => a.1 < b.1) := by
  induction m with
  | nil => simp [Map.insert]
  | cons e r ih =>
    obtain ⟨a, w⟩ := e
    have hp := List.pairwise_cons.1 h
    simp only [Map.insert]
    split
    case isTrue hlt =>
      refine List.pairwise_cons.2 ⟨fun c hc => ?_, h⟩
      rcases List.mem_cons.1 hc with rfl | hc
      · exact hlt
      · exact lt_trans hlt (hp.1 c hc)
    case isFalse hge =>
      have hne : a ≠ k := hk (a, w) (List.mem_cons_self ..)
      refine List.pairwise_cons.2 ⟨fun c hc => ?_, ih hp.2 fun c hc => hk c (List.mem_cons_of_mem _ hc)⟩
      rcases Map.mem_insert.1 hc with rfl | hc
      · show a < k
        omega
      · exact hp.1 c hc

/-- A write keeps the canonical form. -/
theorem Map.wf_put {β : Type} [DecidableEq β] (d : Nat → β) (k : Nat) (v : β) {m : Map β} (h : Map.wf d m = true) :
    Map.wf d (Map.put (d k) m k v) = true := by
  have hc := Map.wf_clear d (fun a => a == k) h
  unfold Map.put
  split
  · exact hc
  case isFalse hv =>
    rw [Map.wf_iff] at hc ⊢
    refine ⟨Map.pairwise_insert hc.1 fun c hm => ?_, fun c hm => ?_⟩
    · have := (List.mem_filter.1 hm).2
      simpa using this
    · rcases Map.mem_insert.1 hm with rfl | hm
      · exact hv
      · exact hc.2 c hm

/-! ### Reading -/

/-- A cleared key reads as the default. -/
theorem Map.get_clear {β : Type} (d : β) (p : Nat → Bool) (m : Map β) (k : Nat) :
    Map.get d (Map.clear p m) k = if p k then d else Map.get d m k := by
  induction m with
  | nil => simp [Map.clear, Map.get]
  | cons e r ih =>
    obtain ⟨a, v⟩ := e
    simp only [Map.clear] at ih ⊢
    rw [List.filter_cons]
    by_cases ha : a = k
    · subst ha
      by_cases hp : p a <;> simp_all [Map.get]
    · by_cases hp : p a <;> simp_all [Map.get]

/-- The key just inserted reads as its value. -/
theorem Map.get_insert_same {β : Type} (d : β) (k : Nat) (v : β) (m : Map β) : Map.get d (Map.insert k v m) k = v ∨ ∃ w, (k, w) ∈ m := by
  induction m with
  | nil => simp [Map.insert, Map.get]
  | cons e r ih =>
    obtain ⟨a, w⟩ := e
    by_cases ha : a = k
    · exact .inr ⟨w, by simp [ha]⟩
    · simp only [Map.insert]
      split
      · simp [Map.get]
      · rcases ih with h | ⟨w', h⟩
        · left; simpa [Map.get, ha] using h
        · exact .inr ⟨w', List.mem_cons_of_mem _ h⟩

/-- An insertion leaves every other key alone. -/
theorem Map.get_insert_other {β : Type} (d : β) {k j : Nat} (v : β) (m : Map β) (h : j ≠ k) :
    Map.get d (Map.insert k v m) j = Map.get d m j := by
  induction m with
  | nil => simp [Map.insert, Map.get, h.symm]
  | cons e r ih =>
    obtain ⟨a, w⟩ := e
    simp only [Map.insert]
    split
    · simp [Map.get, h.symm]
    · by_cases ha : a = j <;> simp [Map.get, ha, ih]

/-- A read after a write to the same key gives the value written. -/
@[simp] theorem Map.get_put_same {β : Type} [DecidableEq β] (d : β) (m : Map β) (k : Nat) (v : β) :
    Map.get d (Map.put d m k v) k = v := by
  unfold Map.put
  split
  case isTrue h => simp [Map.get_clear, h]
  case isFalse h =>
    rcases Map.get_insert_same d k v (Map.clear (fun a => a == k) m) with h | ⟨w, hw⟩
    · exact h
    · have := (List.mem_filter.1 hw).2
      simp at this

/-- A write leaves every other key alone. -/
theorem Map.get_put_other {β : Type} [DecidableEq β] (d d' : β) (m : Map β) {k j : Nat} (v : β) (h : j ≠ k) :
    Map.get d (Map.put d' m k v) j = Map.get d m j := by
  unfold Map.put
  split
  · simp [Map.get_clear, h]
  · rw [Map.get_insert_other d v _ h]
    simp [Map.get_clear, h]

/-! ### Memory -/

/-- An empty memory is canonical. -/
theorem Memory.wf_nil : Memory.wf [] = true := rfl

/-- A part of a canonical memory is canonical. -/
theorem Memory.wf_filter (p : Nat × BitVec 8 → Bool) {m : Memory} (h : Memory.wf m = true) : Memory.wf (m.filter p) = true :=
  Map.wf_filter _ p h

/-- A write of one byte keeps the canonical form. -/
theorem Memory.wf_write {m : Memory} (a : Nat) (v : Byte) (h : Memory.wf m = true) : Memory.wf (Memory.write m a v) = true :=
  Map.wf_put (fun _ => (0 : BitVec 8)) a v h

/-- Zeroing keeps the canonical form. -/
theorem Memory.wf_zero {m : Memory} (a n : Nat) (h : Memory.wf m = true) : Memory.wf (Memory.zero m a n) = true :=
  Map.wf_clear _ _ h

/-- The entries of a string of bytes lie where the string does, in rising order, and none is zero. -/
theorem Memory.cells_spec (b : List Byte) (a : Nat) :
    (Memory.cells a b).Pairwise (fun x y => x.1 < y.1) ∧
      ∀ c ∈ Memory.cells a b, a ≤ c.1 ∧ c.1 < a + b.length ∧ c.2 ≠ 0 := by
  induction b generalizing a with
  | nil => simp [Memory.cells]
  | cons v b ih =>
    have h := ih (a + 1)
    have hr : ∀ c ∈ Memory.cells (a + 1) b, a ≤ c.1 ∧ c.1 < a + (v :: b).length ∧ c.2 ≠ 0 := by
      intro c hc
      have := h.2 c hc
      simp only [List.length_cons]
      exact ⟨by omega, by omega, this.2.2⟩
    simp only [Memory.cells]
    split
    · exact ⟨h.1, hr⟩
    case isFalse hv =>
      refine ⟨List.pairwise_cons.2 ⟨fun c hc => ?_, h.1⟩, fun c hc => ?_⟩
      · have := h.2 c hc
        show a < c.1
        omega
      · rcases List.mem_cons.1 hc with rfl | hc
        · exact ⟨le_refl _, by simp, hv⟩
        · exact hr c hc

/-- A write of a string of bytes keeps the canonical form. -/
theorem Memory.wf_writeBytes {m : Memory} (a : Nat) (b : List Byte) (h : Memory.wf m = true) :
    Memory.wf (Memory.writeBytes m a b) = true := by
  have hc := Memory.cells_spec b a
  unfold Memory.wf Memory.writeBytes
  rw [Map.wf_iff]
  have h1 := (Map.wf_iff _ _).1 (Memory.wf_filter (fun c => decide (c.1 < a)) h)
  have h2 := (Map.wf_iff _ _).1 (Memory.wf_filter (fun c => decide (a + b.length ≤ c.1)) h)
  refine ⟨?_, ?_⟩
  · rw [List.pairwise_append, List.pairwise_append]
    refine ⟨h1.1, ⟨hc.1, h2.1, fun x hx y hy => ?_⟩, fun x hx y hy => ?_⟩
    · have := (hc.2 x hx).2.1
      have hy := (List.mem_filter.1 hy).2
      simp at hy
      omega
    · have hx := (List.mem_filter.1 hx).2
      simp at hx
      rcases List.mem_append.1 hy with hy | hy
      · have := (hc.2 y hy).1
        omega
      · have hy := (List.mem_filter.1 hy).2
        simp at hy
        omega
  · intro c hm
    rcases List.mem_append.1 hm with hm | hm
    · exact h1.2 c hm
    · rcases List.mem_append.1 hm with hm | hm
      · exact (hc.2 c hm).2.2
      · exact h2.2 c hm

/-- A read after a write of the same byte. -/
theorem Memory.read_write_same (m : Memory) (a : Nat) (v : Byte) : Memory.read (Memory.write m a v) a = v :=
  Map.get_put_same 0 m a v

/-- A write of one byte leaves every other alone. -/
theorem Memory.read_write_other (m : Memory) {a b : Nat} (v : Byte) (h : b ≠ a) :
    Memory.read (Memory.write m a v) b = Memory.read m b :=
  Map.get_put_other 0 0 m v h

/-- A zeroed byte reads 0, any other as before. -/
theorem Memory.read_zero (m : Memory) (a n j : Nat) :
    Memory.read (Memory.zero m a n) j = if a ≤ j ∧ j < a + n then 0 else Memory.read m j := by
  unfold Memory.read Memory.zero
  rw [Map.get_clear]
  by_cases h : a ≤ j ∧ j < a + n <;> simp [h]

end Sys2Proof.Machine
end

