-- ==== Sys2Proof/Laws/State.lean ====
section
/-! SUPPORT. Laws of the state: what each update leaves in every field it does not write, and what reading back gives. -/

namespace Sys2Proof.Machine

open Sys2Proof


/-! ### set -/

@[simp] theorem State.set_pending (s : State) (k : Nat) (v : Val) : (s.set k v).pending = s.pending := rfl
@[simp] theorem State.set_mem (s : State) (k : Nat) (v : Val) : (s.set k v).mem = s.mem := rfl
@[simp] theorem State.set_out (s : State) (k : Nat) (v : Val) : (s.set k v).out = s.out := rfl
@[simp] theorem State.set_freeCtr (s : State) (k : Nat) (v : Val) : (s.set k v).freeCtr = s.freeCtr := rfl
@[simp] theorem State.set_control (s : State) (k : Nat) (v : Val) : (s.set k v).control = s.control := rfl
@[simp] theorem State.set_events (s : State) (k : Nat) (v : Val) : (s.set k v).events = s.events := rfl
@[simp] theorem State.set_boot (s : State) (k : Nat) (v : Val) : (s.set k v).boot = s.boot := rfl
@[simp] theorem State.set_security (s : State) (k : Nat) (v : Val) : (s.set k v).security = s.security := rfl
@[simp] theorem State.set_meter (s : State) (k : Nat) (v : Val) : (s.set k v).meter = s.meter := rfl
@[simp] theorem State.set_line (s : State) (k : Nat) (v : Val) : (s.set k v).line = s.line := rfl
@[simp] theorem State.set_time (s : State) (k : Nat) (v : Val) : (s.set k v).time = s.time := rfl
@[simp] theorem State.set_work (s : State) (k : Nat) (v : Val) : (s.set k v).work = s.work := rfl
@[simp] theorem State.set_pools (s : State) (k : Nat) (v : Val) : (s.set k v).pools = s.pools := rfl
@[simp] theorem State.set_tiles (s : State) (k : Nat) (v : Val) : (s.set k v).tiles = s.tiles := rfl
@[simp] theorem State.set_fabric (s : State) (k : Nat) (v : Val) : (s.set k v).fabric = s.fabric := rfl
@[simp] theorem State.set_memory (s : State) (k : Nat) (v : Val) : (s.set k v).memory = s.memory := rfl
@[simp] theorem State.set_optics (s : State) (k : Nat) (v : Val) : (s.set k v).optics = s.optics := rfl
@[simp] theorem State.set_net (s : State) (k : Nat) (v : Val) : (s.set k v).net = s.net := rfl
@[simp] theorem State.set_power (s : State) (k : Nat) (v : Val) : (s.set k v).power = s.power := rfl

/-! ### setNum -/

@[simp] theorem State.setNum_pending (s : State) (k n : Nat) : (s.setNum k n).pending = s.pending := rfl
@[simp] theorem State.setNum_mem (s : State) (k n : Nat) : (s.setNum k n).mem = s.mem := rfl
@[simp] theorem State.setNum_out (s : State) (k n : Nat) : (s.setNum k n).out = s.out := rfl
@[simp] theorem State.setNum_freeCtr (s : State) (k n : Nat) : (s.setNum k n).freeCtr = s.freeCtr := rfl
@[simp] theorem State.setNum_control (s : State) (k n : Nat) : (s.setNum k n).control = s.control := rfl
@[simp] theorem State.setNum_events (s : State) (k n : Nat) : (s.setNum k n).events = s.events := rfl
@[simp] theorem State.setNum_boot (s : State) (k n : Nat) : (s.setNum k n).boot = s.boot := rfl
@[simp] theorem State.setNum_security (s : State) (k n : Nat) : (s.setNum k n).security = s.security := rfl
@[simp] theorem State.setNum_meter (s : State) (k n : Nat) : (s.setNum k n).meter = s.meter := rfl
@[simp] theorem State.setNum_line (s : State) (k n : Nat) : (s.setNum k n).line = s.line := rfl
@[simp] theorem State.setNum_time (s : State) (k n : Nat) : (s.setNum k n).time = s.time := rfl
@[simp] theorem State.setNum_work (s : State) (k n : Nat) : (s.setNum k n).work = s.work := rfl
@[simp] theorem State.setNum_pools (s : State) (k n : Nat) : (s.setNum k n).pools = s.pools := rfl
@[simp] theorem State.setNum_tiles (s : State) (k n : Nat) : (s.setNum k n).tiles = s.tiles := rfl
@[simp] theorem State.setNum_fabric (s : State) (k n : Nat) : (s.setNum k n).fabric = s.fabric := rfl
@[simp] theorem State.setNum_memory (s : State) (k n : Nat) : (s.setNum k n).memory = s.memory := rfl
@[simp] theorem State.setNum_optics (s : State) (k n : Nat) : (s.setNum k n).optics = s.optics := rfl
@[simp] theorem State.setNum_net (s : State) (k n : Nat) : (s.setNum k n).net = s.net := rfl
@[simp] theorem State.setNum_power (s : State) (k n : Nat) : (s.setNum k n).power = s.power := rfl

/-! ### setBytes -/

@[simp] theorem State.setBytes_pending (s : State) (k : Nat) (b : Bytes) : (s.setBytes k b).pending = s.pending := rfl
@[simp] theorem State.setBytes_mem (s : State) (k : Nat) (b : Bytes) : (s.setBytes k b).mem = s.mem := rfl
@[simp] theorem State.setBytes_out (s : State) (k : Nat) (b : Bytes) : (s.setBytes k b).out = s.out := rfl
@[simp] theorem State.setBytes_freeCtr (s : State) (k : Nat) (b : Bytes) : (s.setBytes k b).freeCtr = s.freeCtr := rfl
@[simp] theorem State.setBytes_control (s : State) (k : Nat) (b : Bytes) : (s.setBytes k b).control = s.control := rfl
@[simp] theorem State.setBytes_events (s : State) (k : Nat) (b : Bytes) : (s.setBytes k b).events = s.events := rfl
@[simp] theorem State.setBytes_boot (s : State) (k : Nat) (b : Bytes) : (s.setBytes k b).boot = s.boot := rfl
@[simp] theorem State.setBytes_security (s : State) (k : Nat) (b : Bytes) : (s.setBytes k b).security = s.security := rfl
@[simp] theorem State.setBytes_meter (s : State) (k : Nat) (b : Bytes) : (s.setBytes k b).meter = s.meter := rfl
@[simp] theorem State.setBytes_line (s : State) (k : Nat) (b : Bytes) : (s.setBytes k b).line = s.line := rfl
@[simp] theorem State.setBytes_time (s : State) (k : Nat) (b : Bytes) : (s.setBytes k b).time = s.time := rfl
@[simp] theorem State.setBytes_work (s : State) (k : Nat) (b : Bytes) : (s.setBytes k b).work = s.work := rfl
@[simp] theorem State.setBytes_pools (s : State) (k : Nat) (b : Bytes) : (s.setBytes k b).pools = s.pools := rfl
@[simp] theorem State.setBytes_tiles (s : State) (k : Nat) (b : Bytes) : (s.setBytes k b).tiles = s.tiles := rfl
@[simp] theorem State.setBytes_fabric (s : State) (k : Nat) (b : Bytes) : (s.setBytes k b).fabric = s.fabric := rfl
@[simp] theorem State.setBytes_memory (s : State) (k : Nat) (b : Bytes) : (s.setBytes k b).memory = s.memory := rfl
@[simp] theorem State.setBytes_optics (s : State) (k : Nat) (b : Bytes) : (s.setBytes k b).optics = s.optics := rfl
@[simp] theorem State.setBytes_net (s : State) (k : Nat) (b : Bytes) : (s.setBytes k b).net = s.net := rfl
@[simp] theorem State.setBytes_power (s : State) (k : Nat) (b : Bytes) : (s.setBytes k b).power = s.power := rfl

/-! ### setFlag -/

@[simp] theorem State.setFlag_pending (s : State) (k : Nat) (b : Bool) : (s.setFlag k b).pending = s.pending := rfl
@[simp] theorem State.setFlag_mem (s : State) (k : Nat) (b : Bool) : (s.setFlag k b).mem = s.mem := rfl
@[simp] theorem State.setFlag_out (s : State) (k : Nat) (b : Bool) : (s.setFlag k b).out = s.out := rfl
@[simp] theorem State.setFlag_freeCtr (s : State) (k : Nat) (b : Bool) : (s.setFlag k b).freeCtr = s.freeCtr := rfl
@[simp] theorem State.setFlag_control (s : State) (k : Nat) (b : Bool) : (s.setFlag k b).control = s.control := rfl
@[simp] theorem State.setFlag_events (s : State) (k : Nat) (b : Bool) : (s.setFlag k b).events = s.events := rfl
@[simp] theorem State.setFlag_boot (s : State) (k : Nat) (b : Bool) : (s.setFlag k b).boot = s.boot := rfl
@[simp] theorem State.setFlag_security (s : State) (k : Nat) (b : Bool) : (s.setFlag k b).security = s.security := rfl
@[simp] theorem State.setFlag_meter (s : State) (k : Nat) (b : Bool) : (s.setFlag k b).meter = s.meter := rfl
@[simp] theorem State.setFlag_line (s : State) (k : Nat) (b : Bool) : (s.setFlag k b).line = s.line := rfl
@[simp] theorem State.setFlag_time (s : State) (k : Nat) (b : Bool) : (s.setFlag k b).time = s.time := rfl
@[simp] theorem State.setFlag_work (s : State) (k : Nat) (b : Bool) : (s.setFlag k b).work = s.work := rfl
@[simp] theorem State.setFlag_pools (s : State) (k : Nat) (b : Bool) : (s.setFlag k b).pools = s.pools := rfl
@[simp] theorem State.setFlag_tiles (s : State) (k : Nat) (b : Bool) : (s.setFlag k b).tiles = s.tiles := rfl
@[simp] theorem State.setFlag_fabric (s : State) (k : Nat) (b : Bool) : (s.setFlag k b).fabric = s.fabric := rfl
@[simp] theorem State.setFlag_memory (s : State) (k : Nat) (b : Bool) : (s.setFlag k b).memory = s.memory := rfl
@[simp] theorem State.setFlag_optics (s : State) (k : Nat) (b : Bool) : (s.setFlag k b).optics = s.optics := rfl
@[simp] theorem State.setFlag_net (s : State) (k : Nat) (b : Bool) : (s.setFlag k b).net = s.net := rfl
@[simp] theorem State.setFlag_power (s : State) (k : Nat) (b : Bool) : (s.setFlag k b).power = s.power := rfl

/-! ### setInt -/

@[simp] theorem State.setInt_pending (s : State) (k : Nat) (x : Int) : (s.setInt k x).pending = s.pending := rfl
@[simp] theorem State.setInt_mem (s : State) (k : Nat) (x : Int) : (s.setInt k x).mem = s.mem := rfl
@[simp] theorem State.setInt_out (s : State) (k : Nat) (x : Int) : (s.setInt k x).out = s.out := rfl
@[simp] theorem State.setInt_freeCtr (s : State) (k : Nat) (x : Int) : (s.setInt k x).freeCtr = s.freeCtr := rfl
@[simp] theorem State.setInt_control (s : State) (k : Nat) (x : Int) : (s.setInt k x).control = s.control := rfl
@[simp] theorem State.setInt_events (s : State) (k : Nat) (x : Int) : (s.setInt k x).events = s.events := rfl
@[simp] theorem State.setInt_boot (s : State) (k : Nat) (x : Int) : (s.setInt k x).boot = s.boot := rfl
@[simp] theorem State.setInt_security (s : State) (k : Nat) (x : Int) : (s.setInt k x).security = s.security := rfl
@[simp] theorem State.setInt_meter (s : State) (k : Nat) (x : Int) : (s.setInt k x).meter = s.meter := rfl
@[simp] theorem State.setInt_line (s : State) (k : Nat) (x : Int) : (s.setInt k x).line = s.line := rfl
@[simp] theorem State.setInt_time (s : State) (k : Nat) (x : Int) : (s.setInt k x).time = s.time := rfl
@[simp] theorem State.setInt_work (s : State) (k : Nat) (x : Int) : (s.setInt k x).work = s.work := rfl
@[simp] theorem State.setInt_pools (s : State) (k : Nat) (x : Int) : (s.setInt k x).pools = s.pools := rfl
@[simp] theorem State.setInt_tiles (s : State) (k : Nat) (x : Int) : (s.setInt k x).tiles = s.tiles := rfl
@[simp] theorem State.setInt_fabric (s : State) (k : Nat) (x : Int) : (s.setInt k x).fabric = s.fabric := rfl
@[simp] theorem State.setInt_memory (s : State) (k : Nat) (x : Int) : (s.setInt k x).memory = s.memory := rfl
@[simp] theorem State.setInt_optics (s : State) (k : Nat) (x : Int) : (s.setInt k x).optics = s.optics := rfl
@[simp] theorem State.setInt_net (s : State) (k : Nat) (x : Int) : (s.setInt k x).net = s.net := rfl
@[simp] theorem State.setInt_power (s : State) (k : Nat) (x : Int) : (s.setInt k x).power = s.power := rfl

/-! ### bump -/

@[simp] theorem State.bump_pending (s : State) (w k n : Nat) : (s.bump w k n).pending = s.pending := rfl
@[simp] theorem State.bump_mem (s : State) (w k n : Nat) : (s.bump w k n).mem = s.mem := rfl
@[simp] theorem State.bump_out (s : State) (w k n : Nat) : (s.bump w k n).out = s.out := rfl
@[simp] theorem State.bump_freeCtr (s : State) (w k n : Nat) : (s.bump w k n).freeCtr = s.freeCtr := rfl
@[simp] theorem State.bump_control (s : State) (w k n : Nat) : (s.bump w k n).control = s.control := rfl
@[simp] theorem State.bump_events (s : State) (w k n : Nat) : (s.bump w k n).events = s.events := rfl
@[simp] theorem State.bump_boot (s : State) (w k n : Nat) : (s.bump w k n).boot = s.boot := rfl
@[simp] theorem State.bump_security (s : State) (w k n : Nat) : (s.bump w k n).security = s.security := rfl
@[simp] theorem State.bump_meter (s : State) (w k n : Nat) : (s.bump w k n).meter = s.meter := rfl
@[simp] theorem State.bump_line (s : State) (w k n : Nat) : (s.bump w k n).line = s.line := rfl
@[simp] theorem State.bump_time (s : State) (w k n : Nat) : (s.bump w k n).time = s.time := rfl
@[simp] theorem State.bump_work (s : State) (w k n : Nat) : (s.bump w k n).work = s.work := rfl
@[simp] theorem State.bump_pools (s : State) (w k n : Nat) : (s.bump w k n).pools = s.pools := rfl
@[simp] theorem State.bump_tiles (s : State) (w k n : Nat) : (s.bump w k n).tiles = s.tiles := rfl
@[simp] theorem State.bump_fabric (s : State) (w k n : Nat) : (s.bump w k n).fabric = s.fabric := rfl
@[simp] theorem State.bump_memory (s : State) (w k n : Nat) : (s.bump w k n).memory = s.memory := rfl
@[simp] theorem State.bump_optics (s : State) (w k n : Nat) : (s.bump w k n).optics = s.optics := rfl
@[simp] theorem State.bump_net (s : State) (w k n : Nat) : (s.bump w k n).net = s.net := rfl
@[simp] theorem State.bump_power (s : State) (w k n : Nat) : (s.bump w k n).power = s.power := rfl

/-! ### lower -/

@[simp] theorem State.lower_pending (s : State) (k n : Nat) : (s.lower k n).pending = s.pending := rfl
@[simp] theorem State.lower_mem (s : State) (k n : Nat) : (s.lower k n).mem = s.mem := rfl
@[simp] theorem State.lower_out (s : State) (k n : Nat) : (s.lower k n).out = s.out := rfl
@[simp] theorem State.lower_freeCtr (s : State) (k n : Nat) : (s.lower k n).freeCtr = s.freeCtr := rfl
@[simp] theorem State.lower_control (s : State) (k n : Nat) : (s.lower k n).control = s.control := rfl
@[simp] theorem State.lower_events (s : State) (k n : Nat) : (s.lower k n).events = s.events := rfl
@[simp] theorem State.lower_boot (s : State) (k n : Nat) : (s.lower k n).boot = s.boot := rfl
@[simp] theorem State.lower_security (s : State) (k n : Nat) : (s.lower k n).security = s.security := rfl
@[simp] theorem State.lower_meter (s : State) (k n : Nat) : (s.lower k n).meter = s.meter := rfl
@[simp] theorem State.lower_line (s : State) (k n : Nat) : (s.lower k n).line = s.line := rfl
@[simp] theorem State.lower_time (s : State) (k n : Nat) : (s.lower k n).time = s.time := rfl
@[simp] theorem State.lower_work (s : State) (k n : Nat) : (s.lower k n).work = s.work := rfl
@[simp] theorem State.lower_pools (s : State) (k n : Nat) : (s.lower k n).pools = s.pools := rfl
@[simp] theorem State.lower_tiles (s : State) (k n : Nat) : (s.lower k n).tiles = s.tiles := rfl
@[simp] theorem State.lower_fabric (s : State) (k n : Nat) : (s.lower k n).fabric = s.fabric := rfl
@[simp] theorem State.lower_memory (s : State) (k n : Nat) : (s.lower k n).memory = s.memory := rfl
@[simp] theorem State.lower_optics (s : State) (k n : Nat) : (s.lower k n).optics = s.optics := rfl
@[simp] theorem State.lower_net (s : State) (k n : Nat) : (s.lower k n).net = s.net := rfl
@[simp] theorem State.lower_power (s : State) (k n : Nat) : (s.lower k n).power = s.power := rfl

/-! ### emit -/

@[simp] theorem State.emit_pending (s : State) (x : Signal) : (s.emit x).pending = s.pending := rfl
@[simp] theorem State.emit_dict (s : State) (x : Signal) : (s.emit x).dict = s.dict := rfl
@[simp] theorem State.emit_mem (s : State) (x : Signal) : (s.emit x).mem = s.mem := rfl
@[simp] theorem State.emit_freeCtr (s : State) (x : Signal) : (s.emit x).freeCtr = s.freeCtr := rfl
@[simp] theorem State.emit_control (s : State) (x : Signal) : (s.emit x).control = s.control := rfl
@[simp] theorem State.emit_events (s : State) (x : Signal) : (s.emit x).events = s.events := rfl
@[simp] theorem State.emit_boot (s : State) (x : Signal) : (s.emit x).boot = s.boot := rfl
@[simp] theorem State.emit_security (s : State) (x : Signal) : (s.emit x).security = s.security := rfl
@[simp] theorem State.emit_meter (s : State) (x : Signal) : (s.emit x).meter = s.meter := rfl
@[simp] theorem State.emit_line (s : State) (x : Signal) : (s.emit x).line = s.line := rfl
@[simp] theorem State.emit_time (s : State) (x : Signal) : (s.emit x).time = s.time := rfl
@[simp] theorem State.emit_work (s : State) (x : Signal) : (s.emit x).work = s.work := rfl
@[simp] theorem State.emit_pools (s : State) (x : Signal) : (s.emit x).pools = s.pools := rfl
@[simp] theorem State.emit_tiles (s : State) (x : Signal) : (s.emit x).tiles = s.tiles := rfl
@[simp] theorem State.emit_fabric (s : State) (x : Signal) : (s.emit x).fabric = s.fabric := rfl
@[simp] theorem State.emit_memory (s : State) (x : Signal) : (s.emit x).memory = s.memory := rfl
@[simp] theorem State.emit_optics (s : State) (x : Signal) : (s.emit x).optics = s.optics := rfl
@[simp] theorem State.emit_net (s : State) (x : Signal) : (s.emit x).net = s.net := rfl
@[simp] theorem State.emit_power (s : State) (x : Signal) : (s.emit x).power = s.power := rfl
@[simp] theorem State.emit_obj (s : State) (x : Signal) (j : Nat) : (s.emit x).obj j = s.obj j := rfl
@[simp] theorem State.emit_num (s : State) (x : Signal) (j : Nat) : (s.emit x).num j = s.num j := rfl
@[simp] theorem State.emit_bytes (s : State) (x : Signal) (j : Nat) : (s.emit x).bytes j = s.bytes j := rfl
@[simp] theorem State.emit_flag (s : State) (x : Signal) (j : Nat) : (s.emit x).flag j = s.flag j := rfl
@[simp] theorem State.emit_int (s : State) (x : Signal) (j : Nat) : (s.emit x).int j = s.int j := rfl

/-! ### tookFree -/

@[simp] theorem State.tookFree_pending (s : State) : (s.tookFree).pending = s.pending := rfl
@[simp] theorem State.tookFree_dict (s : State) : (s.tookFree).dict = s.dict := rfl
@[simp] theorem State.tookFree_mem (s : State) : (s.tookFree).mem = s.mem := rfl
@[simp] theorem State.tookFree_out (s : State) : (s.tookFree).out = s.out := rfl
@[simp] theorem State.tookFree_control (s : State) : (s.tookFree).control = s.control := rfl
@[simp] theorem State.tookFree_events (s : State) : (s.tookFree).events = s.events := rfl
@[simp] theorem State.tookFree_boot (s : State) : (s.tookFree).boot = s.boot := rfl
@[simp] theorem State.tookFree_security (s : State) : (s.tookFree).security = s.security := rfl
@[simp] theorem State.tookFree_meter (s : State) : (s.tookFree).meter = s.meter := rfl
@[simp] theorem State.tookFree_line (s : State) : (s.tookFree).line = s.line := rfl
@[simp] theorem State.tookFree_time (s : State) : (s.tookFree).time = s.time := rfl
@[simp] theorem State.tookFree_work (s : State) : (s.tookFree).work = s.work := rfl
@[simp] theorem State.tookFree_pools (s : State) : (s.tookFree).pools = s.pools := rfl
@[simp] theorem State.tookFree_tiles (s : State) : (s.tookFree).tiles = s.tiles := rfl
@[simp] theorem State.tookFree_fabric (s : State) : (s.tookFree).fabric = s.fabric := rfl
@[simp] theorem State.tookFree_memory (s : State) : (s.tookFree).memory = s.memory := rfl
@[simp] theorem State.tookFree_optics (s : State) : (s.tookFree).optics = s.optics := rfl
@[simp] theorem State.tookFree_net (s : State) : (s.tookFree).net = s.net := rfl
@[simp] theorem State.tookFree_power (s : State) : (s.tookFree).power = s.power := rfl
@[simp] theorem State.tookFree_obj (s : State) (j : Nat) : (s.tookFree).obj j = s.obj j := rfl
@[simp] theorem State.tookFree_num (s : State) (j : Nat) : (s.tookFree).num j = s.num j := rfl
@[simp] theorem State.tookFree_bytes (s : State) (j : Nat) : (s.tookFree).bytes j = s.bytes j := rfl
@[simp] theorem State.tookFree_flag (s : State) (j : Nat) : (s.tookFree).flag j = s.flag j := rfl
@[simp] theorem State.tookFree_int (s : State) (j : Nat) : (s.tookFree).int j = s.int j := rfl

/-! ### store -/

@[simp] theorem State.store_pending (s : State) (a : Nat) (b : Bytes) : (s.store a b).pending = s.pending := rfl
@[simp] theorem State.store_dict (s : State) (a : Nat) (b : Bytes) : (s.store a b).dict = s.dict := rfl
@[simp] theorem State.store_out (s : State) (a : Nat) (b : Bytes) : (s.store a b).out = s.out := rfl
@[simp] theorem State.store_freeCtr (s : State) (a : Nat) (b : Bytes) : (s.store a b).freeCtr = s.freeCtr := rfl
@[simp] theorem State.store_control (s : State) (a : Nat) (b : Bytes) : (s.store a b).control = s.control := rfl
@[simp] theorem State.store_events (s : State) (a : Nat) (b : Bytes) : (s.store a b).events = s.events := rfl
@[simp] theorem State.store_boot (s : State) (a : Nat) (b : Bytes) : (s.store a b).boot = s.boot := rfl
@[simp] theorem State.store_security (s : State) (a : Nat) (b : Bytes) : (s.store a b).security = s.security := rfl
@[simp] theorem State.store_meter (s : State) (a : Nat) (b : Bytes) : (s.store a b).meter = s.meter := rfl
@[simp] theorem State.store_line (s : State) (a : Nat) (b : Bytes) : (s.store a b).line = s.line := rfl
@[simp] theorem State.store_time (s : State) (a : Nat) (b : Bytes) : (s.store a b).time = s.time := rfl
@[simp] theorem State.store_work (s : State) (a : Nat) (b : Bytes) : (s.store a b).work = s.work := rfl
@[simp] theorem State.store_pools (s : State) (a : Nat) (b : Bytes) : (s.store a b).pools = s.pools := rfl
@[simp] theorem State.store_tiles (s : State) (a : Nat) (b : Bytes) : (s.store a b).tiles = s.tiles := rfl
@[simp] theorem State.store_fabric (s : State) (a : Nat) (b : Bytes) : (s.store a b).fabric = s.fabric := rfl
@[simp] theorem State.store_optics (s : State) (a : Nat) (b : Bytes) : (s.store a b).optics = s.optics := rfl
@[simp] theorem State.store_net (s : State) (a : Nat) (b : Bytes) : (s.store a b).net = s.net := rfl
@[simp] theorem State.store_power (s : State) (a : Nat) (b : Bytes) : (s.store a b).power = s.power := rfl
@[simp] theorem State.store_obj (s : State) (a : Nat) (b : Bytes) (j : Nat) : (s.store a b).obj j = s.obj j := rfl
@[simp] theorem State.store_num (s : State) (a : Nat) (b : Bytes) (j : Nat) : (s.store a b).num j = s.num j := rfl
@[simp] theorem State.store_bytes (s : State) (a : Nat) (b : Bytes) (j : Nat) : (s.store a b).bytes j = s.bytes j := rfl
@[simp] theorem State.store_flag (s : State) (a : Nat) (b : Bytes) (j : Nat) : (s.store a b).flag j = s.flag j := rfl
@[simp] theorem State.store_int (s : State) (a : Nat) (b : Bytes) (j : Nat) : (s.store a b).int j = s.int j := rfl

/-! ### setWale -/

@[simp] theorem State.setWale_pending (s : State) (w : Nat) (x : WaleState) : (s.setWale w x).pending = s.pending := rfl
@[simp] theorem State.setWale_dict (s : State) (w : Nat) (x : WaleState) : (s.setWale w x).dict = s.dict := rfl
@[simp] theorem State.setWale_mem (s : State) (w : Nat) (x : WaleState) : (s.setWale w x).mem = s.mem := rfl
@[simp] theorem State.setWale_out (s : State) (w : Nat) (x : WaleState) : (s.setWale w x).out = s.out := rfl
@[simp] theorem State.setWale_freeCtr (s : State) (w : Nat) (x : WaleState) : (s.setWale w x).freeCtr = s.freeCtr := rfl
@[simp] theorem State.setWale_control (s : State) (w : Nat) (x : WaleState) : (s.setWale w x).control = s.control := rfl
@[simp] theorem State.setWale_events (s : State) (w : Nat) (x : WaleState) : (s.setWale w x).events = s.events := rfl
@[simp] theorem State.setWale_boot (s : State) (w : Nat) (x : WaleState) : (s.setWale w x).boot = s.boot := rfl
@[simp] theorem State.setWale_security (s : State) (w : Nat) (x : WaleState) : (s.setWale w x).security = s.security := rfl
@[simp] theorem State.setWale_meter (s : State) (w : Nat) (x : WaleState) : (s.setWale w x).meter = s.meter := rfl
@[simp] theorem State.setWale_time (s : State) (w : Nat) (x : WaleState) : (s.setWale w x).time = s.time := rfl
@[simp] theorem State.setWale_work (s : State) (w : Nat) (x : WaleState) : (s.setWale w x).work = s.work := rfl
@[simp] theorem State.setWale_pools (s : State) (w : Nat) (x : WaleState) : (s.setWale w x).pools = s.pools := rfl
@[simp] theorem State.setWale_tiles (s : State) (w : Nat) (x : WaleState) : (s.setWale w x).tiles = s.tiles := rfl
@[simp] theorem State.setWale_fabric (s : State) (w : Nat) (x : WaleState) : (s.setWale w x).fabric = s.fabric := rfl
@[simp] theorem State.setWale_memory (s : State) (w : Nat) (x : WaleState) : (s.setWale w x).memory = s.memory := rfl
@[simp] theorem State.setWale_optics (s : State) (w : Nat) (x : WaleState) : (s.setWale w x).optics = s.optics := rfl
@[simp] theorem State.setWale_net (s : State) (w : Nat) (x : WaleState) : (s.setWale w x).net = s.net := rfl
@[simp] theorem State.setWale_power (s : State) (w : Nat) (x : WaleState) : (s.setWale w x).power = s.power := rfl
@[simp] theorem State.setWale_obj (s : State) (w : Nat) (x : WaleState) (j : Nat) : (s.setWale w x).obj j = s.obj j := rfl
@[simp] theorem State.setWale_num (s : State) (w : Nat) (x : WaleState) (j : Nat) : (s.setWale w x).num j = s.num j := rfl
@[simp] theorem State.setWale_bytes (s : State) (w : Nat) (x : WaleState) (j : Nat) : (s.setWale w x).bytes j = s.bytes j := rfl
@[simp] theorem State.setWale_flag (s : State) (w : Nat) (x : WaleState) (j : Nat) : (s.setWale w x).flag j = s.flag j := rfl
@[simp] theorem State.setWale_int (s : State) (w : Nat) (x : WaleState) (j : Nat) : (s.setWale w x).int j = s.int j := rfl

/-! ### setLane -/

@[simp] theorem State.setLane_pending (s : State) (k : Nat) (x : LaneState) : (s.setLane k x).pending = s.pending := rfl
@[simp] theorem State.setLane_dict (s : State) (k : Nat) (x : LaneState) : (s.setLane k x).dict = s.dict := rfl
@[simp] theorem State.setLane_mem (s : State) (k : Nat) (x : LaneState) : (s.setLane k x).mem = s.mem := rfl
@[simp] theorem State.setLane_out (s : State) (k : Nat) (x : LaneState) : (s.setLane k x).out = s.out := rfl
@[simp] theorem State.setLane_freeCtr (s : State) (k : Nat) (x : LaneState) : (s.setLane k x).freeCtr = s.freeCtr := rfl
@[simp] theorem State.setLane_control (s : State) (k : Nat) (x : LaneState) : (s.setLane k x).control = s.control := rfl
@[simp] theorem State.setLane_events (s : State) (k : Nat) (x : LaneState) : (s.setLane k x).events = s.events := rfl
@[simp] theorem State.setLane_boot (s : State) (k : Nat) (x : LaneState) : (s.setLane k x).boot = s.boot := rfl
@[simp] theorem State.setLane_security (s : State) (k : Nat) (x : LaneState) : (s.setLane k x).security = s.security := rfl
@[simp] theorem State.setLane_meter (s : State) (k : Nat) (x : LaneState) : (s.setLane k x).meter = s.meter := rfl
@[simp] theorem State.setLane_time (s : State) (k : Nat) (x : LaneState) : (s.setLane k x).time = s.time := rfl
@[simp] theorem State.setLane_work (s : State) (k : Nat) (x : LaneState) : (s.setLane k x).work = s.work := rfl
@[simp] theorem State.setLane_pools (s : State) (k : Nat) (x : LaneState) : (s.setLane k x).pools = s.pools := rfl
@[simp] theorem State.setLane_tiles (s : State) (k : Nat) (x : LaneState) : (s.setLane k x).tiles = s.tiles := rfl
@[simp] theorem State.setLane_fabric (s : State) (k : Nat) (x : LaneState) : (s.setLane k x).fabric = s.fabric := rfl
@[simp] theorem State.setLane_memory (s : State) (k : Nat) (x : LaneState) : (s.setLane k x).memory = s.memory := rfl
@[simp] theorem State.setLane_optics (s : State) (k : Nat) (x : LaneState) : (s.setLane k x).optics = s.optics := rfl
@[simp] theorem State.setLane_net (s : State) (k : Nat) (x : LaneState) : (s.setLane k x).net = s.net := rfl
@[simp] theorem State.setLane_power (s : State) (k : Nat) (x : LaneState) : (s.setLane k x).power = s.power := rfl
@[simp] theorem State.setLane_obj (s : State) (k : Nat) (x : LaneState) (j : Nat) : (s.setLane k x).obj j = s.obj j := rfl
@[simp] theorem State.setLane_num (s : State) (k : Nat) (x : LaneState) (j : Nat) : (s.setLane k x).num j = s.num j := rfl
@[simp] theorem State.setLane_bytes (s : State) (k : Nat) (x : LaneState) (j : Nat) : (s.setLane k x).bytes j = s.bytes j := rfl
@[simp] theorem State.setLane_flag (s : State) (k : Nat) (x : LaneState) (j : Nat) : (s.setLane k x).flag j = s.flag j := rfl
@[simp] theorem State.setLane_int (s : State) (k : Nat) (x : LaneState) (j : Nat) : (s.setLane k x).int j = s.int j := rfl

/-! ### setSession -/

@[simp] theorem State.setSession_pending (s : State) (w n : Nat) (x : LineSession) : (s.setSession w n x).pending = s.pending := rfl
@[simp] theorem State.setSession_dict (s : State) (w n : Nat) (x : LineSession) : (s.setSession w n x).dict = s.dict := rfl
@[simp] theorem State.setSession_mem (s : State) (w n : Nat) (x : LineSession) : (s.setSession w n x).mem = s.mem := rfl
@[simp] theorem State.setSession_out (s : State) (w n : Nat) (x : LineSession) : (s.setSession w n x).out = s.out := rfl
@[simp] theorem State.setSession_freeCtr (s : State) (w n : Nat) (x : LineSession) : (s.setSession w n x).freeCtr = s.freeCtr := rfl
@[simp] theorem State.setSession_control (s : State) (w n : Nat) (x : LineSession) : (s.setSession w n x).control = s.control := rfl
@[simp] theorem State.setSession_events (s : State) (w n : Nat) (x : LineSession) : (s.setSession w n x).events = s.events := rfl
@[simp] theorem State.setSession_boot (s : State) (w n : Nat) (x : LineSession) : (s.setSession w n x).boot = s.boot := rfl
@[simp] theorem State.setSession_security (s : State) (w n : Nat) (x : LineSession) : (s.setSession w n x).security = s.security := rfl
@[simp] theorem State.setSession_meter (s : State) (w n : Nat) (x : LineSession) : (s.setSession w n x).meter = s.meter := rfl
@[simp] theorem State.setSession_time (s : State) (w n : Nat) (x : LineSession) : (s.setSession w n x).time = s.time := rfl
@[simp] theorem State.setSession_work (s : State) (w n : Nat) (x : LineSession) : (s.setSession w n x).work = s.work := rfl
@[simp] theorem State.setSession_pools (s : State) (w n : Nat) (x : LineSession) : (s.setSession w n x).pools = s.pools := rfl
@[simp] theorem State.setSession_tiles (s : State) (w n : Nat) (x : LineSession) : (s.setSession w n x).tiles = s.tiles := rfl
@[simp] theorem State.setSession_fabric (s : State) (w n : Nat) (x : LineSession) : (s.setSession w n x).fabric = s.fabric := rfl
@[simp] theorem State.setSession_memory (s : State) (w n : Nat) (x : LineSession) : (s.setSession w n x).memory = s.memory := rfl
@[simp] theorem State.setSession_optics (s : State) (w n : Nat) (x : LineSession) : (s.setSession w n x).optics = s.optics := rfl
@[simp] theorem State.setSession_net (s : State) (w n : Nat) (x : LineSession) : (s.setSession w n x).net = s.net := rfl
@[simp] theorem State.setSession_power (s : State) (w n : Nat) (x : LineSession) : (s.setSession w n x).power = s.power := rfl
@[simp] theorem State.setSession_obj (s : State) (w n : Nat) (x : LineSession) (j : Nat) : (s.setSession w n x).obj j = s.obj j := rfl
@[simp] theorem State.setSession_num (s : State) (w n : Nat) (x : LineSession) (j : Nat) : (s.setSession w n x).num j = s.num j := rfl
@[simp] theorem State.setSession_bytes (s : State) (w n : Nat) (x : LineSession) (j : Nat) : (s.setSession w n x).bytes j = s.bytes j := rfl
@[simp] theorem State.setSession_flag (s : State) (w n : Nat) (x : LineSession) (j : Nat) : (s.setSession w n x).flag j = s.flag j := rfl
@[simp] theorem State.setSession_int (s : State) (w n : Nat) (x : LineSession) (j : Nat) : (s.setSession w n x).int j = s.int j := rfl

/-! ### setHoop -/

@[simp] theorem State.setHoop_pending (s : State) (h : Nat) (x : HoopData) : (s.setHoop h x).pending = s.pending := rfl
@[simp] theorem State.setHoop_dict (s : State) (h : Nat) (x : HoopData) : (s.setHoop h x).dict = s.dict := rfl
@[simp] theorem State.setHoop_mem (s : State) (h : Nat) (x : HoopData) : (s.setHoop h x).mem = s.mem := rfl
@[simp] theorem State.setHoop_out (s : State) (h : Nat) (x : HoopData) : (s.setHoop h x).out = s.out := rfl
@[simp] theorem State.setHoop_freeCtr (s : State) (h : Nat) (x : HoopData) : (s.setHoop h x).freeCtr = s.freeCtr := rfl
@[simp] theorem State.setHoop_control (s : State) (h : Nat) (x : HoopData) : (s.setHoop h x).control = s.control := rfl
@[simp] theorem State.setHoop_events (s : State) (h : Nat) (x : HoopData) : (s.setHoop h x).events = s.events := rfl
@[simp] theorem State.setHoop_boot (s : State) (h : Nat) (x : HoopData) : (s.setHoop h x).boot = s.boot := rfl
@[simp] theorem State.setHoop_security (s : State) (h : Nat) (x : HoopData) : (s.setHoop h x).security = s.security := rfl
@[simp] theorem State.setHoop_meter (s : State) (h : Nat) (x : HoopData) : (s.setHoop h x).meter = s.meter := rfl
@[simp] theorem State.setHoop_line (s : State) (h : Nat) (x : HoopData) : (s.setHoop h x).line = s.line := rfl
@[simp] theorem State.setHoop_time (s : State) (h : Nat) (x : HoopData) : (s.setHoop h x).time = s.time := rfl
@[simp] theorem State.setHoop_pools (s : State) (h : Nat) (x : HoopData) : (s.setHoop h x).pools = s.pools := rfl
@[simp] theorem State.setHoop_tiles (s : State) (h : Nat) (x : HoopData) : (s.setHoop h x).tiles = s.tiles := rfl
@[simp] theorem State.setHoop_fabric (s : State) (h : Nat) (x : HoopData) : (s.setHoop h x).fabric = s.fabric := rfl
@[simp] theorem State.setHoop_memory (s : State) (h : Nat) (x : HoopData) : (s.setHoop h x).memory = s.memory := rfl
@[simp] theorem State.setHoop_optics (s : State) (h : Nat) (x : HoopData) : (s.setHoop h x).optics = s.optics := rfl
@[simp] theorem State.setHoop_net (s : State) (h : Nat) (x : HoopData) : (s.setHoop h x).net = s.net := rfl
@[simp] theorem State.setHoop_power (s : State) (h : Nat) (x : HoopData) : (s.setHoop h x).power = s.power := rfl
@[simp] theorem State.setHoop_obj (s : State) (h : Nat) (x : HoopData) (j : Nat) : (s.setHoop h x).obj j = s.obj j := rfl
@[simp] theorem State.setHoop_num (s : State) (h : Nat) (x : HoopData) (j : Nat) : (s.setHoop h x).num j = s.num j := rfl
@[simp] theorem State.setHoop_bytes (s : State) (h : Nat) (x : HoopData) (j : Nat) : (s.setHoop h x).bytes j = s.bytes j := rfl
@[simp] theorem State.setHoop_flag (s : State) (h : Nat) (x : HoopData) (j : Nat) : (s.setHoop h x).flag j = s.flag j := rfl
@[simp] theorem State.setHoop_int (s : State) (h : Nat) (x : HoopData) (j : Nat) : (s.setHoop h x).int j = s.int j := rfl

/-! ### setGroup -/

@[simp] theorem State.setGroup_pending (s : State) (g : Nat) (x : GroupData) : (s.setGroup g x).pending = s.pending := rfl
@[simp] theorem State.setGroup_dict (s : State) (g : Nat) (x : GroupData) : (s.setGroup g x).dict = s.dict := rfl
@[simp] theorem State.setGroup_mem (s : State) (g : Nat) (x : GroupData) : (s.setGroup g x).mem = s.mem := rfl
@[simp] theorem State.setGroup_out (s : State) (g : Nat) (x : GroupData) : (s.setGroup g x).out = s.out := rfl
@[simp] theorem State.setGroup_freeCtr (s : State) (g : Nat) (x : GroupData) : (s.setGroup g x).freeCtr = s.freeCtr := rfl
@[simp] theorem State.setGroup_control (s : State) (g : Nat) (x : GroupData) : (s.setGroup g x).control = s.control := rfl
@[simp] theorem State.setGroup_events (s : State) (g : Nat) (x : GroupData) : (s.setGroup g x).events = s.events := rfl
@[simp] theorem State.setGroup_boot (s : State) (g : Nat) (x : GroupData) : (s.setGroup g x).boot = s.boot := rfl
@[simp] theorem State.setGroup_security (s : State) (g : Nat) (x : GroupData) : (s.setGroup g x).security = s.security := rfl
@[simp] theorem State.setGroup_meter (s : State) (g : Nat) (x : GroupData) : (s.setGroup g x).meter = s.meter := rfl
@[simp] theorem State.setGroup_line (s : State) (g : Nat) (x : GroupData) : (s.setGroup g x).line = s.line := rfl
@[simp] theorem State.setGroup_time (s : State) (g : Nat) (x : GroupData) : (s.setGroup g x).time = s.time := rfl
@[simp] theorem State.setGroup_pools (s : State) (g : Nat) (x : GroupData) : (s.setGroup g x).pools = s.pools := rfl
@[simp] theorem State.setGroup_tiles (s : State) (g : Nat) (x : GroupData) : (s.setGroup g x).tiles = s.tiles := rfl
@[simp] theorem State.setGroup_fabric (s : State) (g : Nat) (x : GroupData) : (s.setGroup g x).fabric = s.fabric := rfl
@[simp] theorem State.setGroup_memory (s : State) (g : Nat) (x : GroupData) : (s.setGroup g x).memory = s.memory := rfl
@[simp] theorem State.setGroup_optics (s : State) (g : Nat) (x : GroupData) : (s.setGroup g x).optics = s.optics := rfl
@[simp] theorem State.setGroup_net (s : State) (g : Nat) (x : GroupData) : (s.setGroup g x).net = s.net := rfl
@[simp] theorem State.setGroup_power (s : State) (g : Nat) (x : GroupData) : (s.setGroup g x).power = s.power := rfl
@[simp] theorem State.setGroup_obj (s : State) (g : Nat) (x : GroupData) (j : Nat) : (s.setGroup g x).obj j = s.obj j := rfl
@[simp] theorem State.setGroup_num (s : State) (g : Nat) (x : GroupData) (j : Nat) : (s.setGroup g x).num j = s.num j := rfl
@[simp] theorem State.setGroup_bytes (s : State) (g : Nat) (x : GroupData) (j : Nat) : (s.setGroup g x).bytes j = s.bytes j := rfl
@[simp] theorem State.setGroup_flag (s : State) (g : Nat) (x : GroupData) (j : Nat) : (s.setGroup g x).flag j = s.flag j := rfl
@[simp] theorem State.setGroup_int (s : State) (g : Nat) (x : GroupData) (j : Nat) : (s.setGroup g x).int j = s.int j := rfl

/-! ### setOp -/

@[simp] theorem State.setOp_pending (s : State) (g : Nat) (o : Operation) : (s.setOp g o).pending = s.pending := rfl
@[simp] theorem State.setOp_dict (s : State) (g : Nat) (o : Operation) : (s.setOp g o).dict = s.dict := rfl
@[simp] theorem State.setOp_mem (s : State) (g : Nat) (o : Operation) : (s.setOp g o).mem = s.mem := rfl
@[simp] theorem State.setOp_out (s : State) (g : Nat) (o : Operation) : (s.setOp g o).out = s.out := rfl
@[simp] theorem State.setOp_freeCtr (s : State) (g : Nat) (o : Operation) : (s.setOp g o).freeCtr = s.freeCtr := rfl
@[simp] theorem State.setOp_control (s : State) (g : Nat) (o : Operation) : (s.setOp g o).control = s.control := rfl
@[simp] theorem State.setOp_events (s : State) (g : Nat) (o : Operation) : (s.setOp g o).events = s.events := rfl
@[simp] theorem State.setOp_boot (s : State) (g : Nat) (o : Operation) : (s.setOp g o).boot = s.boot := rfl
@[simp] theorem State.setOp_security (s : State) (g : Nat) (o : Operation) : (s.setOp g o).security = s.security := rfl
@[simp] theorem State.setOp_meter (s : State) (g : Nat) (o : Operation) : (s.setOp g o).meter = s.meter := rfl
@[simp] theorem State.setOp_line (s : State) (g : Nat) (o : Operation) : (s.setOp g o).line = s.line := rfl
@[simp] theorem State.setOp_time (s : State) (g : Nat) (o : Operation) : (s.setOp g o).time = s.time := rfl
@[simp] theorem State.setOp_pools (s : State) (g : Nat) (o : Operation) : (s.setOp g o).pools = s.pools := rfl
@[simp] theorem State.setOp_tiles (s : State) (g : Nat) (o : Operation) : (s.setOp g o).tiles = s.tiles := rfl
@[simp] theorem State.setOp_fabric (s : State) (g : Nat) (o : Operation) : (s.setOp g o).fabric = s.fabric := rfl
@[simp] theorem State.setOp_memory (s : State) (g : Nat) (o : Operation) : (s.setOp g o).memory = s.memory := rfl
@[simp] theorem State.setOp_optics (s : State) (g : Nat) (o : Operation) : (s.setOp g o).optics = s.optics := rfl
@[simp] theorem State.setOp_net (s : State) (g : Nat) (o : Operation) : (s.setOp g o).net = s.net := rfl
@[simp] theorem State.setOp_power (s : State) (g : Nat) (o : Operation) : (s.setOp g o).power = s.power := rfl
@[simp] theorem State.setOp_obj (s : State) (g : Nat) (o : Operation) (j : Nat) : (s.setOp g o).obj j = s.obj j := rfl
@[simp] theorem State.setOp_num (s : State) (g : Nat) (o : Operation) (j : Nat) : (s.setOp g o).num j = s.num j := rfl
@[simp] theorem State.setOp_bytes (s : State) (g : Nat) (o : Operation) (j : Nat) : (s.setOp g o).bytes j = s.bytes j := rfl
@[simp] theorem State.setOp_flag (s : State) (g : Nat) (o : Operation) (j : Nat) : (s.setOp g o).flag j = s.flag j := rfl
@[simp] theorem State.setOp_int (s : State) (g : Nat) (o : Operation) (j : Nat) : (s.setOp g o).int j = s.int j := rfl

/-! ### setChunk -/

@[simp] theorem State.setChunk_pending (s : State) (c : Chunk) : (s.setChunk c).pending = s.pending := rfl
@[simp] theorem State.setChunk_dict (s : State) (c : Chunk) : (s.setChunk c).dict = s.dict := rfl
@[simp] theorem State.setChunk_mem (s : State) (c : Chunk) : (s.setChunk c).mem = s.mem := rfl
@[simp] theorem State.setChunk_out (s : State) (c : Chunk) : (s.setChunk c).out = s.out := rfl
@[simp] theorem State.setChunk_freeCtr (s : State) (c : Chunk) : (s.setChunk c).freeCtr = s.freeCtr := rfl
@[simp] theorem State.setChunk_control (s : State) (c : Chunk) : (s.setChunk c).control = s.control := rfl
@[simp] theorem State.setChunk_events (s : State) (c : Chunk) : (s.setChunk c).events = s.events := rfl
@[simp] theorem State.setChunk_boot (s : State) (c : Chunk) : (s.setChunk c).boot = s.boot := rfl
@[simp] theorem State.setChunk_security (s : State) (c : Chunk) : (s.setChunk c).security = s.security := rfl
@[simp] theorem State.setChunk_meter (s : State) (c : Chunk) : (s.setChunk c).meter = s.meter := rfl
@[simp] theorem State.setChunk_line (s : State) (c : Chunk) : (s.setChunk c).line = s.line := rfl
@[simp] theorem State.setChunk_time (s : State) (c : Chunk) : (s.setChunk c).time = s.time := rfl
@[simp] theorem State.setChunk_pools (s : State) (c : Chunk) : (s.setChunk c).pools = s.pools := rfl
@[simp] theorem State.setChunk_tiles (s : State) (c : Chunk) : (s.setChunk c).tiles = s.tiles := rfl
@[simp] theorem State.setChunk_fabric (s : State) (c : Chunk) : (s.setChunk c).fabric = s.fabric := rfl
@[simp] theorem State.setChunk_memory (s : State) (c : Chunk) : (s.setChunk c).memory = s.memory := rfl
@[simp] theorem State.setChunk_optics (s : State) (c : Chunk) : (s.setChunk c).optics = s.optics := rfl
@[simp] theorem State.setChunk_net (s : State) (c : Chunk) : (s.setChunk c).net = s.net := rfl
@[simp] theorem State.setChunk_power (s : State) (c : Chunk) : (s.setChunk c).power = s.power := rfl
@[simp] theorem State.setChunk_obj (s : State) (c : Chunk) (j : Nat) : (s.setChunk c).obj j = s.obj j := rfl
@[simp] theorem State.setChunk_num (s : State) (c : Chunk) (j : Nat) : (s.setChunk c).num j = s.num j := rfl
@[simp] theorem State.setChunk_bytes (s : State) (c : Chunk) (j : Nat) : (s.setChunk c).bytes j = s.bytes j := rfl
@[simp] theorem State.setChunk_flag (s : State) (c : Chunk) (j : Nat) : (s.setChunk c).flag j = s.flag j := rfl
@[simp] theorem State.setChunk_int (s : State) (c : Chunk) (j : Nat) : (s.setChunk c).int j = s.int j := rfl

/-! ### setStream -/

@[simp] theorem State.setStream_pending (s : State) (x : SiteStream) : (s.setStream x).pending = s.pending := rfl
@[simp] theorem State.setStream_dict (s : State) (x : SiteStream) : (s.setStream x).dict = s.dict := rfl
@[simp] theorem State.setStream_mem (s : State) (x : SiteStream) : (s.setStream x).mem = s.mem := rfl
@[simp] theorem State.setStream_out (s : State) (x : SiteStream) : (s.setStream x).out = s.out := rfl
@[simp] theorem State.setStream_freeCtr (s : State) (x : SiteStream) : (s.setStream x).freeCtr = s.freeCtr := rfl
@[simp] theorem State.setStream_control (s : State) (x : SiteStream) : (s.setStream x).control = s.control := rfl
@[simp] theorem State.setStream_events (s : State) (x : SiteStream) : (s.setStream x).events = s.events := rfl
@[simp] theorem State.setStream_boot (s : State) (x : SiteStream) : (s.setStream x).boot = s.boot := rfl
@[simp] theorem State.setStream_security (s : State) (x : SiteStream) : (s.setStream x).security = s.security := rfl
@[simp] theorem State.setStream_meter (s : State) (x : SiteStream) : (s.setStream x).meter = s.meter := rfl
@[simp] theorem State.setStream_line (s : State) (x : SiteStream) : (s.setStream x).line = s.line := rfl
@[simp] theorem State.setStream_time (s : State) (x : SiteStream) : (s.setStream x).time = s.time := rfl
@[simp] theorem State.setStream_pools (s : State) (x : SiteStream) : (s.setStream x).pools = s.pools := rfl
@[simp] theorem State.setStream_tiles (s : State) (x : SiteStream) : (s.setStream x).tiles = s.tiles := rfl
@[simp] theorem State.setStream_fabric (s : State) (x : SiteStream) : (s.setStream x).fabric = s.fabric := rfl
@[simp] theorem State.setStream_memory (s : State) (x : SiteStream) : (s.setStream x).memory = s.memory := rfl
@[simp] theorem State.setStream_optics (s : State) (x : SiteStream) : (s.setStream x).optics = s.optics := rfl
@[simp] theorem State.setStream_net (s : State) (x : SiteStream) : (s.setStream x).net = s.net := rfl
@[simp] theorem State.setStream_power (s : State) (x : SiteStream) : (s.setStream x).power = s.power := rfl
@[simp] theorem State.setStream_obj (s : State) (x : SiteStream) (j : Nat) : (s.setStream x).obj j = s.obj j := rfl
@[simp] theorem State.setStream_num (s : State) (x : SiteStream) (j : Nat) : (s.setStream x).num j = s.num j := rfl
@[simp] theorem State.setStream_bytes (s : State) (x : SiteStream) (j : Nat) : (s.setStream x).bytes j = s.bytes j := rfl
@[simp] theorem State.setStream_flag (s : State) (x : SiteStream) (j : Nat) : (s.setStream x).flag j = s.flag j := rfl
@[simp] theorem State.setStream_int (s : State) (x : SiteStream) (j : Nat) : (s.setStream x).int j = s.int j := rfl

/-! ### setExchange -/

@[simp] theorem State.setExchange_pending (s : State) (x : Exchange) : (s.setExchange x).pending = s.pending := rfl
@[simp] theorem State.setExchange_dict (s : State) (x : Exchange) : (s.setExchange x).dict = s.dict := rfl
@[simp] theorem State.setExchange_mem (s : State) (x : Exchange) : (s.setExchange x).mem = s.mem := rfl
@[simp] theorem State.setExchange_out (s : State) (x : Exchange) : (s.setExchange x).out = s.out := rfl
@[simp] theorem State.setExchange_freeCtr (s : State) (x : Exchange) : (s.setExchange x).freeCtr = s.freeCtr := rfl
@[simp] theorem State.setExchange_control (s : State) (x : Exchange) : (s.setExchange x).control = s.control := rfl
@[simp] theorem State.setExchange_events (s : State) (x : Exchange) : (s.setExchange x).events = s.events := rfl
@[simp] theorem State.setExchange_boot (s : State) (x : Exchange) : (s.setExchange x).boot = s.boot := rfl
@[simp] theorem State.setExchange_security (s : State) (x : Exchange) : (s.setExchange x).security = s.security := rfl
@[simp] theorem State.setExchange_meter (s : State) (x : Exchange) : (s.setExchange x).meter = s.meter := rfl
@[simp] theorem State.setExchange_line (s : State) (x : Exchange) : (s.setExchange x).line = s.line := rfl
@[simp] theorem State.setExchange_time (s : State) (x : Exchange) : (s.setExchange x).time = s.time := rfl
@[simp] theorem State.setExchange_pools (s : State) (x : Exchange) : (s.setExchange x).pools = s.pools := rfl
@[simp] theorem State.setExchange_tiles (s : State) (x : Exchange) : (s.setExchange x).tiles = s.tiles := rfl
@[simp] theorem State.setExchange_fabric (s : State) (x : Exchange) : (s.setExchange x).fabric = s.fabric := rfl
@[simp] theorem State.setExchange_memory (s : State) (x : Exchange) : (s.setExchange x).memory = s.memory := rfl
@[simp] theorem State.setExchange_optics (s : State) (x : Exchange) : (s.setExchange x).optics = s.optics := rfl
@[simp] theorem State.setExchange_net (s : State) (x : Exchange) : (s.setExchange x).net = s.net := rfl
@[simp] theorem State.setExchange_power (s : State) (x : Exchange) : (s.setExchange x).power = s.power := rfl
@[simp] theorem State.setExchange_obj (s : State) (x : Exchange) (j : Nat) : (s.setExchange x).obj j = s.obj j := rfl
@[simp] theorem State.setExchange_num (s : State) (x : Exchange) (j : Nat) : (s.setExchange x).num j = s.num j := rfl
@[simp] theorem State.setExchange_bytes (s : State) (x : Exchange) (j : Nat) : (s.setExchange x).bytes j = s.bytes j := rfl
@[simp] theorem State.setExchange_flag (s : State) (x : Exchange) (j : Nat) : (s.setExchange x).flag j = s.flag j := rfl
@[simp] theorem State.setExchange_int (s : State) (x : Exchange) (j : Nat) : (s.setExchange x).int j = s.int j := rfl

/-! ### setQp -/

@[simp] theorem State.setQp_pending (s : State) (q : Nat) (x : QpData) : (s.setQp q x).pending = s.pending := rfl
@[simp] theorem State.setQp_dict (s : State) (q : Nat) (x : QpData) : (s.setQp q x).dict = s.dict := rfl
@[simp] theorem State.setQp_mem (s : State) (q : Nat) (x : QpData) : (s.setQp q x).mem = s.mem := rfl
@[simp] theorem State.setQp_out (s : State) (q : Nat) (x : QpData) : (s.setQp q x).out = s.out := rfl
@[simp] theorem State.setQp_freeCtr (s : State) (q : Nat) (x : QpData) : (s.setQp q x).freeCtr = s.freeCtr := rfl
@[simp] theorem State.setQp_control (s : State) (q : Nat) (x : QpData) : (s.setQp q x).control = s.control := rfl
@[simp] theorem State.setQp_events (s : State) (q : Nat) (x : QpData) : (s.setQp q x).events = s.events := rfl
@[simp] theorem State.setQp_boot (s : State) (q : Nat) (x : QpData) : (s.setQp q x).boot = s.boot := rfl
@[simp] theorem State.setQp_security (s : State) (q : Nat) (x : QpData) : (s.setQp q x).security = s.security := rfl
@[simp] theorem State.setQp_meter (s : State) (q : Nat) (x : QpData) : (s.setQp q x).meter = s.meter := rfl
@[simp] theorem State.setQp_line (s : State) (q : Nat) (x : QpData) : (s.setQp q x).line = s.line := rfl
@[simp] theorem State.setQp_time (s : State) (q : Nat) (x : QpData) : (s.setQp q x).time = s.time := rfl
@[simp] theorem State.setQp_work (s : State) (q : Nat) (x : QpData) : (s.setQp q x).work = s.work := rfl
@[simp] theorem State.setQp_pools (s : State) (q : Nat) (x : QpData) : (s.setQp q x).pools = s.pools := rfl
@[simp] theorem State.setQp_tiles (s : State) (q : Nat) (x : QpData) : (s.setQp q x).tiles = s.tiles := rfl
@[simp] theorem State.setQp_memory (s : State) (q : Nat) (x : QpData) : (s.setQp q x).memory = s.memory := rfl
@[simp] theorem State.setQp_optics (s : State) (q : Nat) (x : QpData) : (s.setQp q x).optics = s.optics := rfl
@[simp] theorem State.setQp_net (s : State) (q : Nat) (x : QpData) : (s.setQp q x).net = s.net := rfl
@[simp] theorem State.setQp_power (s : State) (q : Nat) (x : QpData) : (s.setQp q x).power = s.power := rfl
@[simp] theorem State.setQp_obj (s : State) (q : Nat) (x : QpData) (j : Nat) : (s.setQp q x).obj j = s.obj j := rfl
@[simp] theorem State.setQp_num (s : State) (q : Nat) (x : QpData) (j : Nat) : (s.setQp q x).num j = s.num j := rfl
@[simp] theorem State.setQp_bytes (s : State) (q : Nat) (x : QpData) (j : Nat) : (s.setQp q x).bytes j = s.bytes j := rfl
@[simp] theorem State.setQp_flag (s : State) (q : Nat) (x : QpData) (j : Nat) : (s.setQp q x).flag j = s.flag j := rfl
@[simp] theorem State.setQp_int (s : State) (q : Nat) (x : QpData) (j : Nat) : (s.setQp q x).int j = s.int j := rfl

/-! ### setPort -/

@[simp] theorem State.setPort_pending (s : State) (p : Nat) (x : PortData) : (s.setPort p x).pending = s.pending := rfl
@[simp] theorem State.setPort_dict (s : State) (p : Nat) (x : PortData) : (s.setPort p x).dict = s.dict := rfl
@[simp] theorem State.setPort_mem (s : State) (p : Nat) (x : PortData) : (s.setPort p x).mem = s.mem := rfl
@[simp] theorem State.setPort_out (s : State) (p : Nat) (x : PortData) : (s.setPort p x).out = s.out := rfl
@[simp] theorem State.setPort_freeCtr (s : State) (p : Nat) (x : PortData) : (s.setPort p x).freeCtr = s.freeCtr := rfl
@[simp] theorem State.setPort_control (s : State) (p : Nat) (x : PortData) : (s.setPort p x).control = s.control := rfl
@[simp] theorem State.setPort_events (s : State) (p : Nat) (x : PortData) : (s.setPort p x).events = s.events := rfl
@[simp] theorem State.setPort_boot (s : State) (p : Nat) (x : PortData) : (s.setPort p x).boot = s.boot := rfl
@[simp] theorem State.setPort_security (s : State) (p : Nat) (x : PortData) : (s.setPort p x).security = s.security := rfl
@[simp] theorem State.setPort_meter (s : State) (p : Nat) (x : PortData) : (s.setPort p x).meter = s.meter := rfl
@[simp] theorem State.setPort_line (s : State) (p : Nat) (x : PortData) : (s.setPort p x).line = s.line := rfl
@[simp] theorem State.setPort_time (s : State) (p : Nat) (x : PortData) : (s.setPort p x).time = s.time := rfl
@[simp] theorem State.setPort_work (s : State) (p : Nat) (x : PortData) : (s.setPort p x).work = s.work := rfl
@[simp] theorem State.setPort_pools (s : State) (p : Nat) (x : PortData) : (s.setPort p x).pools = s.pools := rfl
@[simp] theorem State.setPort_tiles (s : State) (p : Nat) (x : PortData) : (s.setPort p x).tiles = s.tiles := rfl
@[simp] theorem State.setPort_memory (s : State) (p : Nat) (x : PortData) : (s.setPort p x).memory = s.memory := rfl
@[simp] theorem State.setPort_optics (s : State) (p : Nat) (x : PortData) : (s.setPort p x).optics = s.optics := rfl
@[simp] theorem State.setPort_net (s : State) (p : Nat) (x : PortData) : (s.setPort p x).net = s.net := rfl
@[simp] theorem State.setPort_power (s : State) (p : Nat) (x : PortData) : (s.setPort p x).power = s.power := rfl
@[simp] theorem State.setPort_obj (s : State) (p : Nat) (x : PortData) (j : Nat) : (s.setPort p x).obj j = s.obj j := rfl
@[simp] theorem State.setPort_num (s : State) (p : Nat) (x : PortData) (j : Nat) : (s.setPort p x).num j = s.num j := rfl
@[simp] theorem State.setPort_bytes (s : State) (p : Nat) (x : PortData) (j : Nat) : (s.setPort p x).bytes j = s.bytes j := rfl
@[simp] theorem State.setPort_flag (s : State) (p : Nat) (x : PortData) (j : Nat) : (s.setPort p x).flag j = s.flag j := rfl
@[simp] theorem State.setPort_int (s : State) (p : Nat) (x : PortData) (j : Nat) : (s.setPort p x).int j = s.int j := rfl

/-! ### setFrame -/

@[simp] theorem State.setFrame_pending (s : State) (key : Nat) (f : Option Frame) : (s.setFrame key f).pending = s.pending := rfl
@[simp] theorem State.setFrame_dict (s : State) (key : Nat) (f : Option Frame) : (s.setFrame key f).dict = s.dict := rfl
@[simp] theorem State.setFrame_mem (s : State) (key : Nat) (f : Option Frame) : (s.setFrame key f).mem = s.mem := rfl
@[simp] theorem State.setFrame_out (s : State) (key : Nat) (f : Option Frame) : (s.setFrame key f).out = s.out := rfl
@[simp] theorem State.setFrame_freeCtr (s : State) (key : Nat) (f : Option Frame) : (s.setFrame key f).freeCtr = s.freeCtr := rfl
@[simp] theorem State.setFrame_control (s : State) (key : Nat) (f : Option Frame) : (s.setFrame key f).control = s.control := rfl
@[simp] theorem State.setFrame_events (s : State) (key : Nat) (f : Option Frame) : (s.setFrame key f).events = s.events := rfl
@[simp] theorem State.setFrame_boot (s : State) (key : Nat) (f : Option Frame) : (s.setFrame key f).boot = s.boot := rfl
@[simp] theorem State.setFrame_security (s : State) (key : Nat) (f : Option Frame) : (s.setFrame key f).security = s.security := rfl
@[simp] theorem State.setFrame_meter (s : State) (key : Nat) (f : Option Frame) : (s.setFrame key f).meter = s.meter := rfl
@[simp] theorem State.setFrame_line (s : State) (key : Nat) (f : Option Frame) : (s.setFrame key f).line = s.line := rfl
@[simp] theorem State.setFrame_time (s : State) (key : Nat) (f : Option Frame) : (s.setFrame key f).time = s.time := rfl
@[simp] theorem State.setFrame_work (s : State) (key : Nat) (f : Option Frame) : (s.setFrame key f).work = s.work := rfl
@[simp] theorem State.setFrame_tiles (s : State) (key : Nat) (f : Option Frame) : (s.setFrame key f).tiles = s.tiles := rfl
@[simp] theorem State.setFrame_fabric (s : State) (key : Nat) (f : Option Frame) : (s.setFrame key f).fabric = s.fabric := rfl
@[simp] theorem State.setFrame_memory (s : State) (key : Nat) (f : Option Frame) : (s.setFrame key f).memory = s.memory := rfl
@[simp] theorem State.setFrame_optics (s : State) (key : Nat) (f : Option Frame) : (s.setFrame key f).optics = s.optics := rfl
@[simp] theorem State.setFrame_net (s : State) (key : Nat) (f : Option Frame) : (s.setFrame key f).net = s.net := rfl
@[simp] theorem State.setFrame_power (s : State) (key : Nat) (f : Option Frame) : (s.setFrame key f).power = s.power := rfl
@[simp] theorem State.setFrame_obj (s : State) (key : Nat) (f : Option Frame) (j : Nat) : (s.setFrame key f).obj j = s.obj j := rfl
@[simp] theorem State.setFrame_num (s : State) (key : Nat) (f : Option Frame) (j : Nat) : (s.setFrame key f).num j = s.num j := rfl
@[simp] theorem State.setFrame_bytes (s : State) (key : Nat) (f : Option Frame) (j : Nat) : (s.setFrame key f).bytes j = s.bytes j := rfl
@[simp] theorem State.setFrame_flag (s : State) (key : Nat) (f : Option Frame) (j : Nat) : (s.setFrame key f).flag j = s.flag j := rfl
@[simp] theorem State.setFrame_int (s : State) (key : Nat) (f : Option Frame) (j : Nat) : (s.setFrame key f).int j = s.int j := rfl

/-! ### setTile -/

@[simp] theorem State.setTile_pending (s : State) (t : Nat) (x : TileData) : (s.setTile t x).pending = s.pending := rfl
@[simp] theorem State.setTile_dict (s : State) (t : Nat) (x : TileData) : (s.setTile t x).dict = s.dict := rfl
@[simp] theorem State.setTile_mem (s : State) (t : Nat) (x : TileData) : (s.setTile t x).mem = s.mem := rfl
@[simp] theorem State.setTile_out (s : State) (t : Nat) (x : TileData) : (s.setTile t x).out = s.out := rfl
@[simp] theorem State.setTile_freeCtr (s : State) (t : Nat) (x : TileData) : (s.setTile t x).freeCtr = s.freeCtr := rfl
@[simp] theorem State.setTile_control (s : State) (t : Nat) (x : TileData) : (s.setTile t x).control = s.control := rfl
@[simp] theorem State.setTile_events (s : State) (t : Nat) (x : TileData) : (s.setTile t x).events = s.events := rfl
@[simp] theorem State.setTile_boot (s : State) (t : Nat) (x : TileData) : (s.setTile t x).boot = s.boot := rfl
@[simp] theorem State.setTile_security (s : State) (t : Nat) (x : TileData) : (s.setTile t x).security = s.security := rfl
@[simp] theorem State.setTile_meter (s : State) (t : Nat) (x : TileData) : (s.setTile t x).meter = s.meter := rfl
@[simp] theorem State.setTile_line (s : State) (t : Nat) (x : TileData) : (s.setTile t x).line = s.line := rfl
@[simp] theorem State.setTile_time (s : State) (t : Nat) (x : TileData) : (s.setTile t x).time = s.time := rfl
@[simp] theorem State.setTile_work (s : State) (t : Nat) (x : TileData) : (s.setTile t x).work = s.work := rfl
@[simp] theorem State.setTile_pools (s : State) (t : Nat) (x : TileData) : (s.setTile t x).pools = s.pools := rfl
@[simp] theorem State.setTile_fabric (s : State) (t : Nat) (x : TileData) : (s.setTile t x).fabric = s.fabric := rfl
@[simp] theorem State.setTile_memory (s : State) (t : Nat) (x : TileData) : (s.setTile t x).memory = s.memory := rfl
@[simp] theorem State.setTile_optics (s : State) (t : Nat) (x : TileData) : (s.setTile t x).optics = s.optics := rfl
@[simp] theorem State.setTile_net (s : State) (t : Nat) (x : TileData) : (s.setTile t x).net = s.net := rfl
@[simp] theorem State.setTile_power (s : State) (t : Nat) (x : TileData) : (s.setTile t x).power = s.power := rfl
@[simp] theorem State.setTile_obj (s : State) (t : Nat) (x : TileData) (j : Nat) : (s.setTile t x).obj j = s.obj j := rfl
@[simp] theorem State.setTile_num (s : State) (t : Nat) (x : TileData) (j : Nat) : (s.setTile t x).num j = s.num j := rfl
@[simp] theorem State.setTile_bytes (s : State) (t : Nat) (x : TileData) (j : Nat) : (s.setTile t x).bytes j = s.bytes j := rfl
@[simp] theorem State.setTile_flag (s : State) (t : Nat) (x : TileData) (j : Nat) : (s.setTile t x).flag j = s.flag j := rfl
@[simp] theorem State.setTile_int (s : State) (t : Nat) (x : TileData) (j : Nat) : (s.setTile t x).int j = s.int j := rfl

/-! ### setChannel -/

@[simp] theorem State.setChannel_pending (s : State) (c : Nat) (x : ChannelData) : (s.setChannel c x).pending = s.pending := rfl
@[simp] theorem State.setChannel_dict (s : State) (c : Nat) (x : ChannelData) : (s.setChannel c x).dict = s.dict := rfl
@[simp] theorem State.setChannel_mem (s : State) (c : Nat) (x : ChannelData) : (s.setChannel c x).mem = s.mem := rfl
@[simp] theorem State.setChannel_out (s : State) (c : Nat) (x : ChannelData) : (s.setChannel c x).out = s.out := rfl
@[simp] theorem State.setChannel_freeCtr (s : State) (c : Nat) (x : ChannelData) : (s.setChannel c x).freeCtr = s.freeCtr := rfl
@[simp] theorem State.setChannel_control (s : State) (c : Nat) (x : ChannelData) : (s.setChannel c x).control = s.control := rfl
@[simp] theorem State.setChannel_events (s : State) (c : Nat) (x : ChannelData) : (s.setChannel c x).events = s.events := rfl
@[simp] theorem State.setChannel_boot (s : State) (c : Nat) (x : ChannelData) : (s.setChannel c x).boot = s.boot := rfl
@[simp] theorem State.setChannel_security (s : State) (c : Nat) (x : ChannelData) : (s.setChannel c x).security = s.security := rfl
@[simp] theorem State.setChannel_meter (s : State) (c : Nat) (x : ChannelData) : (s.setChannel c x).meter = s.meter := rfl
@[simp] theorem State.setChannel_line (s : State) (c : Nat) (x : ChannelData) : (s.setChannel c x).line = s.line := rfl
@[simp] theorem State.setChannel_time (s : State) (c : Nat) (x : ChannelData) : (s.setChannel c x).time = s.time := rfl
@[simp] theorem State.setChannel_work (s : State) (c : Nat) (x : ChannelData) : (s.setChannel c x).work = s.work := rfl
@[simp] theorem State.setChannel_pools (s : State) (c : Nat) (x : ChannelData) : (s.setChannel c x).pools = s.pools := rfl
@[simp] theorem State.setChannel_tiles (s : State) (c : Nat) (x : ChannelData) : (s.setChannel c x).tiles = s.tiles := rfl
@[simp] theorem State.setChannel_fabric (s : State) (c : Nat) (x : ChannelData) : (s.setChannel c x).fabric = s.fabric := rfl
@[simp] theorem State.setChannel_optics (s : State) (c : Nat) (x : ChannelData) : (s.setChannel c x).optics = s.optics := rfl
@[simp] theorem State.setChannel_net (s : State) (c : Nat) (x : ChannelData) : (s.setChannel c x).net = s.net := rfl
@[simp] theorem State.setChannel_power (s : State) (c : Nat) (x : ChannelData) : (s.setChannel c x).power = s.power := rfl
@[simp] theorem State.setChannel_obj (s : State) (c : Nat) (x : ChannelData) (j : Nat) : (s.setChannel c x).obj j = s.obj j := rfl
@[simp] theorem State.setChannel_num (s : State) (c : Nat) (x : ChannelData) (j : Nat) : (s.setChannel c x).num j = s.num j := rfl
@[simp] theorem State.setChannel_bytes (s : State) (c : Nat) (x : ChannelData) (j : Nat) : (s.setChannel c x).bytes j = s.bytes j := rfl
@[simp] theorem State.setChannel_flag (s : State) (c : Nat) (x : ChannelData) (j : Nat) : (s.setChannel c x).flag j = s.flag j := rfl
@[simp] theorem State.setChannel_int (s : State) (c : Nat) (x : ChannelData) (j : Nat) : (s.setChannel c x).int j = s.int j := rfl

/-! ### setOptic -/

@[simp] theorem State.setOptic_pending (s : State) (k : Nat) (x : OpticLane) : (s.setOptic k x).pending = s.pending := rfl
@[simp] theorem State.setOptic_dict (s : State) (k : Nat) (x : OpticLane) : (s.setOptic k x).dict = s.dict := rfl
@[simp] theorem State.setOptic_mem (s : State) (k : Nat) (x : OpticLane) : (s.setOptic k x).mem = s.mem := rfl
@[simp] theorem State.setOptic_out (s : State) (k : Nat) (x : OpticLane) : (s.setOptic k x).out = s.out := rfl
@[simp] theorem State.setOptic_freeCtr (s : State) (k : Nat) (x : OpticLane) : (s.setOptic k x).freeCtr = s.freeCtr := rfl
@[simp] theorem State.setOptic_control (s : State) (k : Nat) (x : OpticLane) : (s.setOptic k x).control = s.control := rfl
@[simp] theorem State.setOptic_events (s : State) (k : Nat) (x : OpticLane) : (s.setOptic k x).events = s.events := rfl
@[simp] theorem State.setOptic_boot (s : State) (k : Nat) (x : OpticLane) : (s.setOptic k x).boot = s.boot := rfl
@[simp] theorem State.setOptic_security (s : State) (k : Nat) (x : OpticLane) : (s.setOptic k x).security = s.security := rfl
@[simp] theorem State.setOptic_meter (s : State) (k : Nat) (x : OpticLane) : (s.setOptic k x).meter = s.meter := rfl
@[simp] theorem State.setOptic_line (s : State) (k : Nat) (x : OpticLane) : (s.setOptic k x).line = s.line := rfl
@[simp] theorem State.setOptic_time (s : State) (k : Nat) (x : OpticLane) : (s.setOptic k x).time = s.time := rfl
@[simp] theorem State.setOptic_work (s : State) (k : Nat) (x : OpticLane) : (s.setOptic k x).work = s.work := rfl
@[simp] theorem State.setOptic_pools (s : State) (k : Nat) (x : OpticLane) : (s.setOptic k x).pools = s.pools := rfl
@[simp] theorem State.setOptic_tiles (s : State) (k : Nat) (x : OpticLane) : (s.setOptic k x).tiles = s.tiles := rfl
@[simp] theorem State.setOptic_fabric (s : State) (k : Nat) (x : OpticLane) : (s.setOptic k x).fabric = s.fabric := rfl
@[simp] theorem State.setOptic_memory (s : State) (k : Nat) (x : OpticLane) : (s.setOptic k x).memory = s.memory := rfl
@[simp] theorem State.setOptic_net (s : State) (k : Nat) (x : OpticLane) : (s.setOptic k x).net = s.net := rfl
@[simp] theorem State.setOptic_power (s : State) (k : Nat) (x : OpticLane) : (s.setOptic k x).power = s.power := rfl
@[simp] theorem State.setOptic_obj (s : State) (k : Nat) (x : OpticLane) (j : Nat) : (s.setOptic k x).obj j = s.obj j := rfl
@[simp] theorem State.setOptic_num (s : State) (k : Nat) (x : OpticLane) (j : Nat) : (s.setOptic k x).num j = s.num j := rfl
@[simp] theorem State.setOptic_bytes (s : State) (k : Nat) (x : OpticLane) (j : Nat) : (s.setOptic k x).bytes j = s.bytes j := rfl
@[simp] theorem State.setOptic_flag (s : State) (k : Nat) (x : OpticLane) (j : Nat) : (s.setOptic k x).flag j = s.flag j := rfl
@[simp] theorem State.setOptic_int (s : State) (k : Nat) (x : OpticLane) (j : Nat) : (s.setOptic k x).int j = s.int j := rfl

/-! ### setLaser -/

@[simp] theorem State.setLaser_pending (s : State) (n : Nat) (x : LaserData) : (s.setLaser n x).pending = s.pending := rfl
@[simp] theorem State.setLaser_dict (s : State) (n : Nat) (x : LaserData) : (s.setLaser n x).dict = s.dict := rfl
@[simp] theorem State.setLaser_mem (s : State) (n : Nat) (x : LaserData) : (s.setLaser n x).mem = s.mem := rfl
@[simp] theorem State.setLaser_out (s : State) (n : Nat) (x : LaserData) : (s.setLaser n x).out = s.out := rfl
@[simp] theorem State.setLaser_freeCtr (s : State) (n : Nat) (x : LaserData) : (s.setLaser n x).freeCtr = s.freeCtr := rfl
@[simp] theorem State.setLaser_control (s : State) (n : Nat) (x : LaserData) : (s.setLaser n x).control = s.control := rfl
@[simp] theorem State.setLaser_events (s : State) (n : Nat) (x : LaserData) : (s.setLaser n x).events = s.events := rfl
@[simp] theorem State.setLaser_boot (s : State) (n : Nat) (x : LaserData) : (s.setLaser n x).boot = s.boot := rfl
@[simp] theorem State.setLaser_security (s : State) (n : Nat) (x : LaserData) : (s.setLaser n x).security = s.security := rfl
@[simp] theorem State.setLaser_meter (s : State) (n : Nat) (x : LaserData) : (s.setLaser n x).meter = s.meter := rfl
@[simp] theorem State.setLaser_line (s : State) (n : Nat) (x : LaserData) : (s.setLaser n x).line = s.line := rfl
@[simp] theorem State.setLaser_time (s : State) (n : Nat) (x : LaserData) : (s.setLaser n x).time = s.time := rfl
@[simp] theorem State.setLaser_work (s : State) (n : Nat) (x : LaserData) : (s.setLaser n x).work = s.work := rfl
@[simp] theorem State.setLaser_pools (s : State) (n : Nat) (x : LaserData) : (s.setLaser n x).pools = s.pools := rfl
@[simp] theorem State.setLaser_tiles (s : State) (n : Nat) (x : LaserData) : (s.setLaser n x).tiles = s.tiles := rfl
@[simp] theorem State.setLaser_fabric (s : State) (n : Nat) (x : LaserData) : (s.setLaser n x).fabric = s.fabric := rfl
@[simp] theorem State.setLaser_memory (s : State) (n : Nat) (x : LaserData) : (s.setLaser n x).memory = s.memory := rfl
@[simp] theorem State.setLaser_net (s : State) (n : Nat) (x : LaserData) : (s.setLaser n x).net = s.net := rfl
@[simp] theorem State.setLaser_power (s : State) (n : Nat) (x : LaserData) : (s.setLaser n x).power = s.power := rfl
@[simp] theorem State.setLaser_obj (s : State) (n : Nat) (x : LaserData) (j : Nat) : (s.setLaser n x).obj j = s.obj j := rfl
@[simp] theorem State.setLaser_num (s : State) (n : Nat) (x : LaserData) (j : Nat) : (s.setLaser n x).num j = s.num j := rfl
@[simp] theorem State.setLaser_bytes (s : State) (n : Nat) (x : LaserData) (j : Nat) : (s.setLaser n x).bytes j = s.bytes j := rfl
@[simp] theorem State.setLaser_flag (s : State) (n : Nat) (x : LaserData) (j : Nat) : (s.setLaser n x).flag j = s.flag j := rfl
@[simp] theorem State.setLaser_int (s : State) (n : Nat) (x : LaserData) (j : Nat) : (s.setLaser n x).int j = s.int j := rfl

/-! ### setPdp -/

@[simp] theorem State.setPdp_pending (s : State) (n : Nat) (p : PdpState) : (s.setPdp n p).pending = s.pending := rfl
@[simp] theorem State.setPdp_dict (s : State) (n : Nat) (p : PdpState) : (s.setPdp n p).dict = s.dict := rfl
@[simp] theorem State.setPdp_mem (s : State) (n : Nat) (p : PdpState) : (s.setPdp n p).mem = s.mem := rfl
@[simp] theorem State.setPdp_out (s : State) (n : Nat) (p : PdpState) : (s.setPdp n p).out = s.out := rfl
@[simp] theorem State.setPdp_freeCtr (s : State) (n : Nat) (p : PdpState) : (s.setPdp n p).freeCtr = s.freeCtr := rfl
@[simp] theorem State.setPdp_events (s : State) (n : Nat) (p : PdpState) : (s.setPdp n p).events = s.events := rfl
@[simp] theorem State.setPdp_boot (s : State) (n : Nat) (p : PdpState) : (s.setPdp n p).boot = s.boot := rfl
@[simp] theorem State.setPdp_security (s : State) (n : Nat) (p : PdpState) : (s.setPdp n p).security = s.security := rfl
@[simp] theorem State.setPdp_meter (s : State) (n : Nat) (p : PdpState) : (s.setPdp n p).meter = s.meter := rfl
@[simp] theorem State.setPdp_line (s : State) (n : Nat) (p : PdpState) : (s.setPdp n p).line = s.line := rfl
@[simp] theorem State.setPdp_time (s : State) (n : Nat) (p : PdpState) : (s.setPdp n p).time = s.time := rfl
@[simp] theorem State.setPdp_work (s : State) (n : Nat) (p : PdpState) : (s.setPdp n p).work = s.work := rfl
@[simp] theorem State.setPdp_pools (s : State) (n : Nat) (p : PdpState) : (s.setPdp n p).pools = s.pools := rfl
@[simp] theorem State.setPdp_tiles (s : State) (n : Nat) (p : PdpState) : (s.setPdp n p).tiles = s.tiles := rfl
@[simp] theorem State.setPdp_fabric (s : State) (n : Nat) (p : PdpState) : (s.setPdp n p).fabric = s.fabric := rfl
@[simp] theorem State.setPdp_memory (s : State) (n : Nat) (p : PdpState) : (s.setPdp n p).memory = s.memory := rfl
@[simp] theorem State.setPdp_optics (s : State) (n : Nat) (p : PdpState) : (s.setPdp n p).optics = s.optics := rfl
@[simp] theorem State.setPdp_net (s : State) (n : Nat) (p : PdpState) : (s.setPdp n p).net = s.net := rfl
@[simp] theorem State.setPdp_power (s : State) (n : Nat) (p : PdpState) : (s.setPdp n p).power = s.power := rfl
@[simp] theorem State.setPdp_obj (s : State) (n : Nat) (p : PdpState) (j : Nat) : (s.setPdp n p).obj j = s.obj j := rfl
@[simp] theorem State.setPdp_num (s : State) (n : Nat) (p : PdpState) (j : Nat) : (s.setPdp n p).num j = s.num j := rfl
@[simp] theorem State.setPdp_bytes (s : State) (n : Nat) (p : PdpState) (j : Nat) : (s.setPdp n p).bytes j = s.bytes j := rfl
@[simp] theorem State.setPdp_flag (s : State) (n : Nat) (p : PdpState) (j : Nat) : (s.setPdp n p).flag j = s.flag j := rfl
@[simp] theorem State.setPdp_int (s : State) (n : Nat) (p : PdpState) (j : Nat) : (s.setPdp n p).int j = s.int j := rfl

/-! ### setPtp -/

@[simp] theorem State.setPtp_pending (s : State) (d : Nat) (x : PtpState) : (s.setPtp d x).pending = s.pending := rfl
@[simp] theorem State.setPtp_dict (s : State) (d : Nat) (x : PtpState) : (s.setPtp d x).dict = s.dict := rfl
@[simp] theorem State.setPtp_mem (s : State) (d : Nat) (x : PtpState) : (s.setPtp d x).mem = s.mem := rfl
@[simp] theorem State.setPtp_out (s : State) (d : Nat) (x : PtpState) : (s.setPtp d x).out = s.out := rfl
@[simp] theorem State.setPtp_freeCtr (s : State) (d : Nat) (x : PtpState) : (s.setPtp d x).freeCtr = s.freeCtr := rfl
@[simp] theorem State.setPtp_control (s : State) (d : Nat) (x : PtpState) : (s.setPtp d x).control = s.control := rfl
@[simp] theorem State.setPtp_events (s : State) (d : Nat) (x : PtpState) : (s.setPtp d x).events = s.events := rfl
@[simp] theorem State.setPtp_boot (s : State) (d : Nat) (x : PtpState) : (s.setPtp d x).boot = s.boot := rfl
@[simp] theorem State.setPtp_security (s : State) (d : Nat) (x : PtpState) : (s.setPtp d x).security = s.security := rfl
@[simp] theorem State.setPtp_meter (s : State) (d : Nat) (x : PtpState) : (s.setPtp d x).meter = s.meter := rfl
@[simp] theorem State.setPtp_line (s : State) (d : Nat) (x : PtpState) : (s.setPtp d x).line = s.line := rfl
@[simp] theorem State.setPtp_work (s : State) (d : Nat) (x : PtpState) : (s.setPtp d x).work = s.work := rfl
@[simp] theorem State.setPtp_pools (s : State) (d : Nat) (x : PtpState) : (s.setPtp d x).pools = s.pools := rfl
@[simp] theorem State.setPtp_tiles (s : State) (d : Nat) (x : PtpState) : (s.setPtp d x).tiles = s.tiles := rfl
@[simp] theorem State.setPtp_fabric (s : State) (d : Nat) (x : PtpState) : (s.setPtp d x).fabric = s.fabric := rfl
@[simp] theorem State.setPtp_memory (s : State) (d : Nat) (x : PtpState) : (s.setPtp d x).memory = s.memory := rfl
@[simp] theorem State.setPtp_optics (s : State) (d : Nat) (x : PtpState) : (s.setPtp d x).optics = s.optics := rfl
@[simp] theorem State.setPtp_net (s : State) (d : Nat) (x : PtpState) : (s.setPtp d x).net = s.net := rfl
@[simp] theorem State.setPtp_power (s : State) (d : Nat) (x : PtpState) : (s.setPtp d x).power = s.power := rfl
@[simp] theorem State.setPtp_obj (s : State) (d : Nat) (x : PtpState) (j : Nat) : (s.setPtp d x).obj j = s.obj j := rfl
@[simp] theorem State.setPtp_num (s : State) (d : Nat) (x : PtpState) (j : Nat) : (s.setPtp d x).num j = s.num j := rfl
@[simp] theorem State.setPtp_bytes (s : State) (d : Nat) (x : PtpState) (j : Nat) : (s.setPtp d x).bytes j = s.bytes j := rfl
@[simp] theorem State.setPtp_flag (s : State) (d : Nat) (x : PtpState) (j : Nat) : (s.setPtp d x).flag j = s.flag j := rfl
@[simp] theorem State.setPtp_int (s : State) (d : Nat) (x : PtpState) (j : Nat) : (s.setPtp d x).int j = s.int j := rfl

/-! ### Reading back -/


@[simp] theorem State.wale_setWale_same (s : State) (w : Nat) (x : WaleState) : (s.setWale w x).wale w = x := Map.get_put_same _ _ _ _
theorem State.wale_setWale_other (s : State) {w j : Nat} (x : WaleState) (hj : j ≠ w) : (s.setWale w x).wale j = s.wale j :=
  Map.get_put_other _ _ _ _ hj
@[simp] theorem State.lane_setLane_same (s : State) (k : Nat) (x : LaneState) : (s.setLane k x).lane k = x := Map.get_put_same _ _ _ _
theorem State.lane_setLane_other (s : State) {k j : Nat} (x : LaneState) (hj : j ≠ k) : (s.setLane k x).lane j = s.lane j :=
  Map.get_put_other _ _ _ _ hj
@[simp] theorem State.hoop_setHoop_same (s : State) (h : Nat) (x : HoopData) : (s.setHoop h x).hoop h = x := Map.get_put_same _ _ _ _
theorem State.hoop_setHoop_other (s : State) {h j : Nat} (x : HoopData) (hj : j ≠ h) : (s.setHoop h x).hoop j = s.hoop j :=
  Map.get_put_other _ _ _ _ hj
@[simp] theorem State.group_setGroup_same (s : State) (g : Nat) (x : GroupData) : (s.setGroup g x).group g = x := Map.get_put_same _ _ _ _
theorem State.group_setGroup_other (s : State) {g j : Nat} (x : GroupData) (hj : j ≠ g) : (s.setGroup g x).group j = s.group j :=
  Map.get_put_other _ _ _ _ hj
@[simp] theorem State.qp_setQp_same (s : State) (q : Nat) (x : QpData) : (s.setQp q x).qp q = x := Map.get_put_same _ _ _ _
theorem State.qp_setQp_other (s : State) {q j : Nat} (x : QpData) (hj : j ≠ q) : (s.setQp q x).qp j = s.qp j :=
  Map.get_put_other _ _ _ _ hj
@[simp] theorem State.port_setPort_same (s : State) (p : Nat) (x : PortData) : (s.setPort p x).port p = x := Map.get_put_same _ _ _ _
theorem State.port_setPort_other (s : State) {p j : Nat} (x : PortData) (hj : j ≠ p) : (s.setPort p x).port j = s.port j :=
  Map.get_put_other _ _ _ _ hj
@[simp] theorem State.tile_setTile_same (s : State) (t : Nat) (x : TileData) : (s.setTile t x).tile t = x := Map.get_put_same _ _ _ _
theorem State.tile_setTile_other (s : State) {t j : Nat} (x : TileData) (hj : j ≠ t) : (s.setTile t x).tile j = s.tile j :=
  Map.get_put_other _ _ _ _ hj
@[simp] theorem State.channel_setChannel_same (s : State) (c : Nat) (x : ChannelData) : (s.setChannel c x).channel c = x := Map.get_put_same _ _ _ _
theorem State.channel_setChannel_other (s : State) {c j : Nat} (x : ChannelData) (hj : j ≠ c) : (s.setChannel c x).channel j = s.channel j :=
  Map.get_put_other _ _ _ _ hj
@[simp] theorem State.optic_setOptic_same (s : State) (k : Nat) (x : OpticLane) : (s.setOptic k x).optic k = x := Map.get_put_same _ _ _ _
theorem State.optic_setOptic_other (s : State) {k j : Nat} (x : OpticLane) (hj : j ≠ k) : (s.setOptic k x).optic j = s.optic j :=
  Map.get_put_other _ _ _ _ hj
@[simp] theorem State.laser_setLaser_same (s : State) (n : Nat) (x : LaserData) : (s.setLaser n x).laser n = x := Map.get_put_same _ _ _ _
theorem State.laser_setLaser_other (s : State) {n j : Nat} (x : LaserData) (hj : j ≠ n) : (s.setLaser n x).laser j = s.laser j :=
  Map.get_put_other _ _ _ _ hj
@[simp] theorem State.pdpSession_setPdp_same (s : State) (n : Nat) (x : PdpState) : (s.setPdp n x).pdpSession n = x := Map.get_put_same _ _ _ _
theorem State.pdpSession_setPdp_other (s : State) {n j : Nat} (x : PdpState) (hj : j ≠ n) : (s.setPdp n x).pdpSession j = s.pdpSession j :=
  Map.get_put_other _ _ _ _ hj

end Sys2Proof.Machine
end

