-- ==== Sys2Proof/Laws/Objects.lean ====
section
/-! SUPPORT. Laws of the object store and of the operations that every command shares: what `set`, `setNum` and their like read back
as, what an event and an answer leave alone, and what a request does (R404). -/

namespace Sys2Proof.Machine

open Sys2Proof

/-! ### Objects -/

@[simp] theorem State.obj_set_same (s : State) (k : Nat) (v : Val) : (s.set k v).obj k = v := Map.get_put_same _ _ _ _

theorem State.obj_set_other (s : State) {k j : Nat} (v : Val) (h : j ≠ k) : (s.set k v).obj j = s.obj j :=
  Map.get_put_other _ _ _ _ h

@[simp] theorem State.num_setNum_same (s : State) (k n : Nat) : (s.setNum k n).num k = n := by
  simp [State.num, State.setNum, Val.toNat]

@[simp] theorem State.obj_setNum_same (s : State) (k n : Nat) : (s.setNum k n).obj k = .num n := by
  simp [State.setNum]

theorem State.obj_setNum_other (s : State) {k j : Nat} (n : Nat) (h : j ≠ k) : (s.setNum k n).obj j = s.obj j :=
  State.obj_set_other s _ h

theorem State.num_setNum_other (s : State) {k j : Nat} (n : Nat) (h : j ≠ k) : (s.setNum k n).num j = s.num j := by
  simp [State.num, State.obj_setNum_other s n h]

@[simp] theorem State.bytes_setBytes_same (s : State) (k : Nat) (b : Bytes) : (s.setBytes k b).bytes k = b := by
  simp [State.bytes, State.setBytes, Val.toBytes]

theorem State.obj_setBytes_other (s : State) {k j : Nat} (b : Bytes) (h : j ≠ k) : (s.setBytes k b).obj j = s.obj j :=
  State.obj_set_other s _ h

@[simp] theorem State.flag_setFlag_same (s : State) (k : Nat) (b : Bool) : (s.setFlag k b).flag k = b := by
  cases b <;> simp [State.flag, State.setFlag]

theorem State.obj_setFlag_other (s : State) {k j : Nat} (b : Bool) (h : j ≠ k) : (s.setFlag k b).obj j = s.obj j :=
  State.obj_setNum_other s _ h

theorem State.obj_bump_other (s : State) (w : Nat) {k j : Nat} (n : Nat) (h : j ≠ k) : (s.bump w k n).obj j = s.obj j :=
  State.obj_setNum_other s _ h

@[simp] theorem State.num_bump_same (s : State) (w k n : Nat) : (s.bump w k n).num k = (s.num k + n) % 2 ^ w :=
  State.num_setNum_same s k _

theorem State.obj_lower_other (s : State) {k j : Nat} (n : Nat) (h : j ≠ k) : (s.lower k n).obj j = s.obj j :=
  State.obj_setNum_other s _ h

@[simp] theorem State.num_lower_same (s : State) (k n : Nat) : (s.lower k n).num k = s.num k - n :=
  State.num_setNum_same s k _

/-- A fold of updates keeps what each of them keeps. -/
theorem State.each_keeps {α : Type} (P : State → Prop) (f : State → α → State) (h : ∀ t x, P t → P (f t x)) :
    ∀ (l : List α) (s : State), P s → P (s.each l f)
  | [], _, hs => hs
  | x :: l, s, hs => State.each_keeps P f h l (f s x) (h s x hs)

/-! ### Marks of P and H writes (R422, R475) -/

theorem State.obj_markWrite_other (s : State) (k : Nat) {j : Nat} (h : j ≠ Obj.persistPending) :
    (s.markWrite k).obj j = s.obj j := by
  unfold State.markWrite
  split
  · exact State.obj_bump_other s 32 1 h
  · rfl
  · rfl

theorem State.obj_setP_same (s : State) (k : Nat) (v : Val) (h : k ≠ Obj.persistPending) : (s.setP k v).obj k = v := by
  simp [State.setP, State.obj_markWrite_other _ _ h]

theorem State.obj_setP_other (s : State) {k j : Nat} (v : Val) (h : j ≠ k) (hp : j ≠ Obj.persistPending) :
    (s.setP k v).obj j = s.obj j := by
  simp [State.setP, State.obj_markWrite_other _ _ hp, State.obj_set_other s v h]

/-! ### Vectors, events and answers -/

@[simp] theorem State.vector_dict (s : State) (v : Nat) : (s.vector v).dict = s.dict := by
  unfold State.vector
  split <;> rfl

@[simp] theorem State.vector_mem (s : State) (v : Nat) : (s.vector v).mem = s.mem := by
  unfold State.vector
  split <;> rfl

@[simp] theorem State.vector_obj (s : State) (v j : Nat) : (s.vector v).obj j = s.obj j := by
  simp [State.obj]

theorem State.enterEvent_obj (s : State) (e : EventEntry) {j : Nat} (h : j ∉ eventKeys) : (s.enterEvent e).obj j = s.obj j := by
  simp only [eventKeys, List.mem_cons, not_or] at h
  unfold State.enterEvent
  simp only
  rw [State.obj_setNum_other _ _ h.2.2.1, State.obj_setNum_other _ _ h.2.1]
  split
  · rw [State.obj_bump_other _ _ _ h.1]; rfl
  · rfl

theorem State.signalEvent_obj (s : State) (e : EventEntry) {j : Nat} (h : j ∉ eventKeys) :
    (s.signalEvent e).obj j = s.obj j := by
  simp only [eventKeys, List.mem_cons, not_or] at h
  have hv : ∀ t : State, (if t.num Obj.eventIrqSeverity ≤ e.severity then t.vector 1 else t).obj j = t.obj j := by
    intro t; split <;> simp
  unfold State.signalEvent
  simp only
  split
  · rw [State.emit_obj, State.obj_bump_other _ _ _ h.2.2.2.1]
    exact hv s
  · exact hv s

theorem State.logEvent_obj (s : State) (code : Nat) (a : EventArgs) {j : Nat} (h : j ∉ eventKeys) :
    (s.logEvent code a).obj j = s.obj j := by
  unfold State.logEvent
  simp only
  split
  · rfl
  · rw [State.signalEvent_obj _ _ h, State.enterEvent_obj _ _ h]
    rfl

theorem State.beginCommit_obj (s : State) (rq : Option Requester) {j : Nat} (h : j ∉ eventKeys) :
    (s.beginCommit rq).obj j = s.obj j := by
  have h' := h
  simp only [eventKeys, List.mem_cons, not_or] at h'
  unfold State.beginCommit
  split
  · rfl
  · split
    · rw [State.logEvent_obj _ _ _ h, State.obj_setNum_other _ _ h'.2.2.2.2.2.2.1]
    · change (s.setNum Obj.persistCommandStatus St.busy).obj j = s.obj j
      exact State.obj_setNum_other s _ h'.2.2.2.2.2.2.1

/-- An event changes no object beside the event log's and the commit's. -/
theorem State.raise_obj (s : State) (code : Nat) (a : EventArgs) {j : Nat} (h : j ∉ eventKeys) :
    (s.raise code a).obj j = s.obj j := by
  have h' := h
  simp only [eventKeys, List.mem_cons, not_or] at h'
  unfold State.raise
  simp only
  split
  · exact State.logEvent_obj s code a h
  · rw [State.beginCommit_obj _ _ h, State.obj_setP_other _ _ h'.2.2.2.2.1 h'.2.2.2.2.2.1, State.logEvent_obj s code a h]

theorem State.raise_num (s : State) (code : Nat) (a : EventArgs) {j : Nat} (h : j ∉ eventKeys) :
    (s.raise code a).num j = s.num j := by simp [State.num, State.raise_obj s code a h]

/-- An answer changes the control plane's slots and sessions, the line's queues and the signals sent, and nothing else. -/
theorem State.answer_only (s : State) (rq : Requester) (st fl n : Nat) (b : Bytes) :
    ∃ c l o, s.answer rq st fl n b = { s with control := c, line := l, out := o } := by
  cases rq with
  | pcie slot tag irq =>
    simp only [State.answer, State.vector]
    split_ifs <;> exact ⟨_, _, _, rfl⟩
  | pdp session seq => exact ⟨_, _, _, rfl⟩
  | peer w tag =>
    simp only [State.answer, State.sendModule, State.enqueue]
    split_ifs <;> exact ⟨_, _, _, rfl⟩
  | hubFirmware => exact ⟨_, _, _, rfl⟩

/-- An answer changes no object. -/
@[simp] theorem State.answer_dict (s : State) (rq : Requester) (st fl n : Nat) (b : Bytes) : (s.answer rq st fl n b).dict = s.dict := by
  obtain ⟨_, _, _, h⟩ := s.answer_only rq st fl n b; rw [h]

@[simp] theorem State.answer_mem (s : State) (rq : Requester) (st fl n : Nat) (b : Bytes) : (s.answer rq st fl n b).mem = s.mem := by
  obtain ⟨_, _, _, h⟩ := s.answer_only rq st fl n b; rw [h]

@[simp] theorem State.answer_obj (s : State) (rq : Requester) (st fl n : Nat) (b : Bytes) (j : Nat) :
    (s.answer rq st fl n b).obj j = s.obj j := by simp [State.obj]

@[simp] theorem State.answer_num (s : State) (rq : Requester) (st fl n : Nat) (b : Bytes) (j : Nat) :
    (s.answer rq st fl n b).num j = s.num j := by simp [State.num]

/-! ### Requests (R404) -/

@[simp] theorem State.dropLatch_dict (s : State) (rq : Requester) (k : Nat) : (s.dropLatch rq k).dict = s.dict := by
  unfold State.dropLatch; split <;> rfl

@[simp] theorem State.touch_dict (s : State) (k : Nat) : (s.touch k).dict = s.dict := rfl

@[simp] theorem State.noteH_dict (s old : State) : (s.noteH old).dict = s.dict := by
  unfold State.noteH; split <;> rfl

@[simp] theorem State.noteH_obj (s old : State) (j : Nat) : (s.noteH old).obj j = s.obj j := by simp [State.obj]

@[simp] theorem State.noteH_num (s old : State) (j : Nat) : (s.noteH old).num j = s.num j := by simp [State.num]

/-- The state on which the effect of a request runs: the latched copy of another object is dropped, the blocks that serve the object
run (R376, R403). -/
def State.served (s : State) (rq : Requester) (k : Nat) : State := (s.dropLatch rq k).touch k

@[simp] theorem State.served_dict (s : State) (rq : Requester) (k : Nat) : (s.served rq k).dict = s.dict := by
  simp [State.served]

@[simp] theorem State.served_obj (s : State) (rq : Requester) (k j : Nat) : (s.served rq k).obj j = s.obj j := by
  simp [State.obj]

@[simp] theorem State.served_num (s : State) (rq : Requester) (k j : Nat) : (s.served rq k).num j = s.num j := by
  simp [State.num]

/-- A request that the engine serves and that passes checks 1–6 has its effect and is answered with the effect's status; a token's
Counter becomes SigCounter only then (R402, R404). -/
theorem State.request_accepted (s : State) (rq : Requester) (k : Nat) (v : Val) (token : Option Token) (effect : Effect)
    (hs : s.serves rq = true) (hc : (s.served rq k).writeStatus rq k v token = St.ok) :
    s.request rq k v token effect =
      let r := effect (s.served rq k)
      let t := match token with
        | some t => if r.2 = St.ok then r.1.setP Obj.sigCounter (.num t.counter.toNat) else r.1
        | none => r.1
      (t.noteH (s.served rq k)).answer rq r.2 0 0 [] := by
  unfold State.request State.checked
  simp only [State.served] at hc
  simp [hs, hc, State.served]
  rfl

/-- A request that fails checks 1–6 changes nothing: the refusal is answered, and counted for a peer without authority (R404,
R415). -/
theorem State.request_refused (s : State) (rq : Requester) (k : Nat) (v : Val) (token : Option Token) (effect : Effect)
    (hs : s.serves rq = true) (hc : (s.served rq k).writeStatus rq k v token ≠ St.ok) :
    s.request rq k v token effect =
      ((s.served rq k).countRefusal rq k true).answer rq ((s.served rq k).writeStatus rq k v token) 0 0 [] := by
  unfold State.request State.checked
  simp only [State.served] at hc ⊢
  simp [hs, hc]

/-- A request over a path that the engine does not serve is not answered (R469). -/
theorem State.request_unserved (s : State) (rq : Requester) (k : Nat) (v : Val) (token : Option Token) (effect : Effect)
    (hs : s.serves rq = false) : s.request rq k v token effect = s := by
  simp [State.request, State.checked, hs]

/-- A write that only sets its object. -/
theorem plainWrite_status (k : Nat) (v : Val) (s : State) : (plainWrite k v s).2 = St.ok := rfl

end Sys2Proof.Machine
end

