-- ==== Sys2Proof/Laws/Requests.lean ====
section
/-! SUPPORT. Laws of requests: what an answer, the engine's own bookkeeping and a whole accepted request leave alone (R404). -/

namespace Sys2Proof.Machine

open Sys2Proof

/-! ### What a vector, a signal and an answer leave alone -/

@[simp] theorem State.vector_pending (s : State) (v : Nat) : (s.vector v).pending = s.pending := by unfold State.vector; split <;> rfl
@[simp] theorem State.answer_pending (s : State) (rq : Requester) (st fl n : Nat) (b : Bytes) : (s.answer rq st fl n b).pending = s.pending := by
  obtain ⟨_, _, _, h⟩ := s.answer_only rq st fl n b; rw [h]
@[simp] theorem State.dropLatch_pending (s : State) (rq : Requester) (k : Nat) : (s.dropLatch rq k).pending = s.pending := by
  unfold State.dropLatch; split <;> rfl
@[simp] theorem State.touch_pending (s : State) (k : Nat) : (s.touch k).pending = s.pending := rfl
@[simp] theorem State.noteH_pending (s old : State) : (s.noteH old).pending = s.pending := by unfold State.noteH; split <;> rfl
@[simp] theorem State.served_pending (s : State) (rq : Requester) (k : Nat) : (s.served rq k).pending = s.pending := by simp [State.served]


@[simp] theorem State.dropLatch_mem (s : State) (rq : Requester) (k : Nat) : (s.dropLatch rq k).mem = s.mem := by
  unfold State.dropLatch; split <;> rfl
@[simp] theorem State.touch_mem (s : State) (k : Nat) : (s.touch k).mem = s.mem := rfl
@[simp] theorem State.noteH_mem (s old : State) : (s.noteH old).mem = s.mem := by unfold State.noteH; split <;> rfl
@[simp] theorem State.served_mem (s : State) (rq : Requester) (k : Nat) : (s.served rq k).mem = s.mem := by simp [State.served]
@[simp] theorem State.vector_freeCtr (s : State) (v : Nat) : (s.vector v).freeCtr = s.freeCtr := by unfold State.vector; split <;> rfl
@[simp] theorem State.answer_freeCtr (s : State) (rq : Requester) (st fl n : Nat) (b : Bytes) : (s.answer rq st fl n b).freeCtr = s.freeCtr := by
  obtain ⟨_, _, _, h⟩ := s.answer_only rq st fl n b; rw [h]
@[simp] theorem State.dropLatch_freeCtr (s : State) (rq : Requester) (k : Nat) : (s.dropLatch rq k).freeCtr = s.freeCtr := by
  unfold State.dropLatch; split <;> rfl
@[simp] theorem State.touch_freeCtr (s : State) (k : Nat) : (s.touch k).freeCtr = s.freeCtr := rfl
@[simp] theorem State.noteH_freeCtr (s old : State) : (s.noteH old).freeCtr = s.freeCtr := by unfold State.noteH; split <;> rfl
@[simp] theorem State.served_freeCtr (s : State) (rq : Requester) (k : Nat) : (s.served rq k).freeCtr = s.freeCtr := by simp [State.served]
@[simp] theorem State.vector_events (s : State) (v : Nat) : (s.vector v).events = s.events := by unfold State.vector; split <;> rfl
@[simp] theorem State.answer_events (s : State) (rq : Requester) (st fl n : Nat) (b : Bytes) : (s.answer rq st fl n b).events = s.events := by
  obtain ⟨_, _, _, h⟩ := s.answer_only rq st fl n b; rw [h]
@[simp] theorem State.dropLatch_events (s : State) (rq : Requester) (k : Nat) : (s.dropLatch rq k).events = s.events := by
  unfold State.dropLatch; split <;> rfl
@[simp] theorem State.touch_events (s : State) (k : Nat) : (s.touch k).events = s.events := rfl
@[simp] theorem State.noteH_events (s old : State) : (s.noteH old).events = s.events := by unfold State.noteH; split <;> rfl
@[simp] theorem State.served_events (s : State) (rq : Requester) (k : Nat) : (s.served rq k).events = s.events := by simp [State.served]
@[simp] theorem State.vector_boot (s : State) (v : Nat) : (s.vector v).boot = s.boot := by unfold State.vector; split <;> rfl
@[simp] theorem State.answer_boot (s : State) (rq : Requester) (st fl n : Nat) (b : Bytes) : (s.answer rq st fl n b).boot = s.boot := by
  obtain ⟨_, _, _, h⟩ := s.answer_only rq st fl n b; rw [h]
@[simp] theorem State.dropLatch_boot (s : State) (rq : Requester) (k : Nat) : (s.dropLatch rq k).boot = s.boot := by
  unfold State.dropLatch; split <;> rfl
@[simp] theorem State.touch_boot (s : State) (k : Nat) : (s.touch k).boot = s.boot := rfl
@[simp] theorem State.noteH_boot (s old : State) : (s.noteH old).boot = s.boot := by unfold State.noteH; split <;> rfl
@[simp] theorem State.served_boot (s : State) (rq : Requester) (k : Nat) : (s.served rq k).boot = s.boot := by simp [State.served]
@[simp] theorem State.vector_security (s : State) (v : Nat) : (s.vector v).security = s.security := by unfold State.vector; split <;> rfl
@[simp] theorem State.answer_security (s : State) (rq : Requester) (st fl n : Nat) (b : Bytes) : (s.answer rq st fl n b).security = s.security := by
  obtain ⟨_, _, _, h⟩ := s.answer_only rq st fl n b; rw [h]
@[simp] theorem State.dropLatch_security (s : State) (rq : Requester) (k : Nat) : (s.dropLatch rq k).security = s.security := by
  unfold State.dropLatch; split <;> rfl
@[simp] theorem State.touch_security (s : State) (k : Nat) : (s.touch k).security = s.security := rfl
@[simp] theorem State.noteH_security (s old : State) : (s.noteH old).security = s.security := by unfold State.noteH; split <;> rfl
@[simp] theorem State.served_security (s : State) (rq : Requester) (k : Nat) : (s.served rq k).security = s.security := by simp [State.served]
@[simp] theorem State.vector_meter (s : State) (v : Nat) : (s.vector v).meter = s.meter := by unfold State.vector; split <;> rfl
@[simp] theorem State.answer_meter (s : State) (rq : Requester) (st fl n : Nat) (b : Bytes) : (s.answer rq st fl n b).meter = s.meter := by
  obtain ⟨_, _, _, h⟩ := s.answer_only rq st fl n b; rw [h]
@[simp] theorem State.dropLatch_meter (s : State) (rq : Requester) (k : Nat) : (s.dropLatch rq k).meter = s.meter := by
  unfold State.dropLatch; split <;> rfl
@[simp] theorem State.touch_meter (s : State) (k : Nat) : (s.touch k).meter = s.meter := rfl
@[simp] theorem State.noteH_meter (s old : State) : (s.noteH old).meter = s.meter := by unfold State.noteH; split <;> rfl
@[simp] theorem State.served_meter (s : State) (rq : Requester) (k : Nat) : (s.served rq k).meter = s.meter := by simp [State.served]
@[simp] theorem State.vector_time (s : State) (v : Nat) : (s.vector v).time = s.time := by unfold State.vector; split <;> rfl
@[simp] theorem State.answer_time (s : State) (rq : Requester) (st fl n : Nat) (b : Bytes) : (s.answer rq st fl n b).time = s.time := by
  obtain ⟨_, _, _, h⟩ := s.answer_only rq st fl n b; rw [h]
@[simp] theorem State.dropLatch_time (s : State) (rq : Requester) (k : Nat) : (s.dropLatch rq k).time = s.time := by
  unfold State.dropLatch; split <;> rfl
@[simp] theorem State.touch_time (s : State) (k : Nat) : (s.touch k).time = s.time := rfl
@[simp] theorem State.noteH_time (s old : State) : (s.noteH old).time = s.time := by unfold State.noteH; split <;> rfl
@[simp] theorem State.served_time (s : State) (rq : Requester) (k : Nat) : (s.served rq k).time = s.time := by simp [State.served]
@[simp] theorem State.vector_work (s : State) (v : Nat) : (s.vector v).work = s.work := by unfold State.vector; split <;> rfl
@[simp] theorem State.answer_work (s : State) (rq : Requester) (st fl n : Nat) (b : Bytes) : (s.answer rq st fl n b).work = s.work := by
  obtain ⟨_, _, _, h⟩ := s.answer_only rq st fl n b; rw [h]
@[simp] theorem State.dropLatch_work (s : State) (rq : Requester) (k : Nat) : (s.dropLatch rq k).work = s.work := by
  unfold State.dropLatch; split <;> rfl
@[simp] theorem State.touch_work (s : State) (k : Nat) : (s.touch k).work = s.work := rfl
@[simp] theorem State.noteH_work (s old : State) : (s.noteH old).work = s.work := by unfold State.noteH; split <;> rfl
@[simp] theorem State.served_work (s : State) (rq : Requester) (k : Nat) : (s.served rq k).work = s.work := by simp [State.served]
@[simp] theorem State.vector_pools (s : State) (v : Nat) : (s.vector v).pools = s.pools := by unfold State.vector; split <;> rfl
@[simp] theorem State.answer_pools (s : State) (rq : Requester) (st fl n : Nat) (b : Bytes) : (s.answer rq st fl n b).pools = s.pools := by
  obtain ⟨_, _, _, h⟩ := s.answer_only rq st fl n b; rw [h]
@[simp] theorem State.dropLatch_pools (s : State) (rq : Requester) (k : Nat) : (s.dropLatch rq k).pools = s.pools := by
  unfold State.dropLatch; split <;> rfl
@[simp] theorem State.touch_pools (s : State) (k : Nat) : (s.touch k).pools = s.pools := rfl
@[simp] theorem State.noteH_pools (s old : State) : (s.noteH old).pools = s.pools := by unfold State.noteH; split <;> rfl
@[simp] theorem State.served_pools (s : State) (rq : Requester) (k : Nat) : (s.served rq k).pools = s.pools := by simp [State.served]
@[simp] theorem State.vector_tiles (s : State) (v : Nat) : (s.vector v).tiles = s.tiles := by unfold State.vector; split <;> rfl
@[simp] theorem State.answer_tiles (s : State) (rq : Requester) (st fl n : Nat) (b : Bytes) : (s.answer rq st fl n b).tiles = s.tiles := by
  obtain ⟨_, _, _, h⟩ := s.answer_only rq st fl n b; rw [h]
@[simp] theorem State.dropLatch_tiles (s : State) (rq : Requester) (k : Nat) : (s.dropLatch rq k).tiles = s.tiles := by
  unfold State.dropLatch; split <;> rfl
@[simp] theorem State.touch_tiles (s : State) (k : Nat) : (s.touch k).tiles = s.tiles := rfl
@[simp] theorem State.noteH_tiles (s old : State) : (s.noteH old).tiles = s.tiles := by unfold State.noteH; split <;> rfl
@[simp] theorem State.served_tiles (s : State) (rq : Requester) (k : Nat) : (s.served rq k).tiles = s.tiles := by simp [State.served]
@[simp] theorem State.vector_fabric (s : State) (v : Nat) : (s.vector v).fabric = s.fabric := by unfold State.vector; split <;> rfl
@[simp] theorem State.answer_fabric (s : State) (rq : Requester) (st fl n : Nat) (b : Bytes) : (s.answer rq st fl n b).fabric = s.fabric := by
  obtain ⟨_, _, _, h⟩ := s.answer_only rq st fl n b; rw [h]
@[simp] theorem State.dropLatch_fabric (s : State) (rq : Requester) (k : Nat) : (s.dropLatch rq k).fabric = s.fabric := by
  unfold State.dropLatch; split <;> rfl
@[simp] theorem State.touch_fabric (s : State) (k : Nat) : (s.touch k).fabric = s.fabric := rfl
@[simp] theorem State.noteH_fabric (s old : State) : (s.noteH old).fabric = s.fabric := by unfold State.noteH; split <;> rfl
@[simp] theorem State.served_fabric (s : State) (rq : Requester) (k : Nat) : (s.served rq k).fabric = s.fabric := by simp [State.served]
@[simp] theorem State.vector_memory (s : State) (v : Nat) : (s.vector v).memory = s.memory := by unfold State.vector; split <;> rfl
@[simp] theorem State.answer_memory (s : State) (rq : Requester) (st fl n : Nat) (b : Bytes) : (s.answer rq st fl n b).memory = s.memory := by
  obtain ⟨_, _, _, h⟩ := s.answer_only rq st fl n b; rw [h]
@[simp] theorem State.dropLatch_memory (s : State) (rq : Requester) (k : Nat) : (s.dropLatch rq k).memory = s.memory := by
  unfold State.dropLatch; split <;> rfl
@[simp] theorem State.touch_memory (s : State) (k : Nat) : (s.touch k).memory = s.memory := rfl
@[simp] theorem State.noteH_memory (s old : State) : (s.noteH old).memory = s.memory := by unfold State.noteH; split <;> rfl
@[simp] theorem State.served_memory (s : State) (rq : Requester) (k : Nat) : (s.served rq k).memory = s.memory := by simp [State.served]
@[simp] theorem State.vector_optics (s : State) (v : Nat) : (s.vector v).optics = s.optics := by unfold State.vector; split <;> rfl
@[simp] theorem State.answer_optics (s : State) (rq : Requester) (st fl n : Nat) (b : Bytes) : (s.answer rq st fl n b).optics = s.optics := by
  obtain ⟨_, _, _, h⟩ := s.answer_only rq st fl n b; rw [h]
@[simp] theorem State.dropLatch_optics (s : State) (rq : Requester) (k : Nat) : (s.dropLatch rq k).optics = s.optics := by
  unfold State.dropLatch; split <;> rfl
@[simp] theorem State.touch_optics (s : State) (k : Nat) : (s.touch k).optics = s.optics := rfl
@[simp] theorem State.noteH_optics (s old : State) : (s.noteH old).optics = s.optics := by unfold State.noteH; split <;> rfl
@[simp] theorem State.served_optics (s : State) (rq : Requester) (k : Nat) : (s.served rq k).optics = s.optics := by simp [State.served]
@[simp] theorem State.vector_net (s : State) (v : Nat) : (s.vector v).net = s.net := by unfold State.vector; split <;> rfl
@[simp] theorem State.answer_net (s : State) (rq : Requester) (st fl n : Nat) (b : Bytes) : (s.answer rq st fl n b).net = s.net := by
  obtain ⟨_, _, _, h⟩ := s.answer_only rq st fl n b; rw [h]
@[simp] theorem State.dropLatch_net (s : State) (rq : Requester) (k : Nat) : (s.dropLatch rq k).net = s.net := by
  unfold State.dropLatch; split <;> rfl
@[simp] theorem State.touch_net (s : State) (k : Nat) : (s.touch k).net = s.net := rfl
@[simp] theorem State.noteH_net (s old : State) : (s.noteH old).net = s.net := by unfold State.noteH; split <;> rfl
@[simp] theorem State.served_net (s : State) (rq : Requester) (k : Nat) : (s.served rq k).net = s.net := by simp [State.served]
@[simp] theorem State.served_line (s : State) (rq : Requester) (k : Nat) : (s.served rq k).line = s.line := by
  unfold State.served State.dropLatch; split <;> rfl

/-! ### Reading the answer -/

/-- An answer without data is what the requester then has. -/
theorem State.answered (s : State) (rq : Requester) (st fl n : Nat) : Answered rq st (s.answer rq st fl n []) := by
  cases rq with
  | pcie slot tag irq =>
    have hv : ∀ u : State, (u.vector 0).control.slots = u.control.slots := by
      intro u; unfold State.vector; split <;> rfl
    cases irq
    · simp [State.answer, Answered]
    · simp [State.answer, Answered, hv]
  | pdp session seq =>
    refine ⟨leBytes 2 fl ++ leBytes 4 0 ++ leBytes 4 n ++ [], ?_⟩
    simp [State.answer, State.answerPdp, responseBytes]
  | peer w tag =>
    refine ⟨_, by simp [State.answer, State.sendModule, State.enqueue]; rfl, ?_⟩
    simp [List.take_append]
  | hubFirmware => trivial

/-! ### An accepted request -/

/-- A request that is accepted has its effect on the served state, and is answered with the effect's status. -/
theorem State.request_eq {s : State} {rq : Requester} {k : Nat} {v : Val} (e : Effect) (h : Accepts s rq k v none) :
    s.request rq k v none e =
      ((e (s.served rq k)).1.noteH (s.served rq k)).answer rq (e (s.served rq k)).2 0 0 [] :=
  State.request_accepted s rq k v none e h.1 h.2

/-- The same with a token, whose Counter becomes SigCounter where the effect succeeds (R402). -/
theorem State.request_eq_token {s : State} {rq : Requester} {k : Nat} {v : Val} {token : Token} (e : Effect)
    (h : Accepts s rq k v (some token)) :
    s.request rq k v (some token) e =
      (((if (e (s.served rq k)).2 = St.ok then (e (s.served rq k)).1.setP Obj.sigCounter (.num token.counter.toNat)
        else (e (s.served rq k)).1)).noteH (s.served rq k)).answer rq (e (s.served rq k)).2 0 0 [] :=
  State.request_accepted s rq k v (some token) e h.1 h.2

end Sys2Proof.Machine
end

