-- ==== Sys2Proof/Laws/Canonical.lean ====
section
/-! SUPPORT. The canonical form of the object store and of module memory: which shared operations keep it. -/

namespace Sys2Proof

open Sys2Proof.Machine

/-- The canonical form speaks of the object store and of module memory only. -/
theorem canonical_of {s t : State} (hd : t.dict = s.dict) (hm : t.mem = s.mem) (h : Canonical s) : Canonical t := by
  unfold Canonical
  rw [hd, hm]
  exact h

/-- Leaving out objects keeps the canonical form (R473, R474). -/
theorem canonical_filter {s t : State} (p : Nat × Val → Bool) (hd : t.dict = s.dict.filter p) (hm : t.mem = s.mem) (h : Canonical s) :
    Canonical t := by
  unfold Canonical
  rw [hd, hm]
  exact ⟨Map.wf_filter _ _ h.1, h.2⟩

/-- Leaving out bytes keeps the canonical form (R183, R373). -/
theorem canonical_memory_filter {s t : State} (p : Nat × BitVec 8 → Bool) (hd : t.dict = s.dict) (hm : t.mem = s.mem.filter p)
    (h : Canonical s) : Canonical t := by
  unfold Canonical
  rw [hd, hm]
  exact ⟨h.1, Memory.wf_filter _ h.2⟩

theorem Canonical.set {s : State} (k : Nat) (v : Val) (h : Canonical s) : Canonical (s.set k v) :=
  ⟨Map.wf_put objDefault k v h.1, h.2⟩

theorem Canonical.setNum {s : State} (k n : Nat) (h : Canonical s) : Canonical (s.setNum k n) := h.set k _

theorem Canonical.setBytes {s : State} (k : Nat) (b : Bytes) (h : Canonical s) : Canonical (s.setBytes k b) := h.set k _

theorem Canonical.setFlag {s : State} (k : Nat) (b : Bool) (h : Canonical s) : Canonical (s.setFlag k b) := h.set k _

theorem Canonical.setInt {s : State} (k : Nat) (x : Int) (h : Canonical s) : Canonical (s.setInt k x) := h.set k _

theorem Canonical.bump {s : State} (w k n : Nat) (h : Canonical s) : Canonical (s.bump w k n) := h.set k _

theorem Canonical.lower {s : State} (k n : Nat) (h : Canonical s) : Canonical (s.lower k n) := h.set k _

theorem Canonical.markWrite {s : State} (k : Nat) (h : Canonical s) : Canonical (s.markWrite k) := by
  unfold State.markWrite
  split
  · exact canonical_of (s := s.bump 32 Obj.persistPending 1) rfl rfl (h.bump _ _ _)
  · exact canonical_of rfl rfl h
  · exact h

theorem Canonical.setP {s : State} (k : Nat) (v : Val) (h : Canonical s) : Canonical (s.setP k v) := (h.set k v).markWrite k

theorem Canonical.keepObjects {s : State} (p : Nat → Bool) (h : Canonical s) : Canonical (s.keepObjects p) :=
  canonical_filter _ rfl rfl h

theorem Canonical.vector {s : State} (v : Nat) (h : Canonical s) : Canonical (s.vector v) := canonical_of (by simp) (by simp) h

theorem Canonical.signalEvent {s : State} (e : EventEntry) (h : Canonical s) : Canonical (s.signalEvent e) := by
  have hv : ∀ t : State, Canonical t → Canonical (if t.num Obj.eventIrqSeverity ≤ e.severity then t.vector 1 else t) := by
    intro t ht
    split
    · exact ht.vector 1
    · exact ht
  unfold State.signalEvent
  simp only
  split
  · exact (canonical_of rfl rfl (hv s h)).bump 32 Obj.eventUnacked 1
  · exact hv s h

theorem Canonical.enterEvent {s : State} (e : EventEntry) (h : Canonical s) : Canonical (s.enterEvent e) := by
  unfold State.enterEvent
  simp only
  refine Canonical.setNum _ _ (Canonical.setNum _ _ ?_)
  split
  · exact Canonical.bump _ _ _ (canonical_of rfl rfl h)
  · exact canonical_of rfl rfl h

theorem Canonical.logEvent {s : State} (code : Nat) (a : EventArgs) (h : Canonical s) : Canonical (s.logEvent code a) := by
  unfold State.logEvent
  simp only
  split
  · exact canonical_of rfl rfl h
  · exact Canonical.signalEvent _ (Canonical.enterEvent _ (canonical_of rfl rfl h))

theorem Canonical.beginCommit {s : State} (rq : Option Requester) (h : Canonical s) : Canonical (s.beginCommit rq) := by
  unfold State.beginCommit
  split
  · exact canonical_of rfl rfl h
  · split
    · exact Canonical.logEvent _ _ (h.setNum _ _)
    · exact canonical_of (s := s.setNum Obj.persistCommandStatus St.busy) rfl rfl (h.setNum _ _)

/-- An event keeps the canonical form. -/
theorem Canonical.raise {s : State} (code : Nat) (a : EventArgs) (h : Canonical s) : Canonical (s.raise code a) := by
  unfold State.raise
  simp only
  split
  · exact h.logEvent code a
  · exact Canonical.beginCommit none ((h.logEvent code a).setP _ _)

theorem Canonical.answer {s : State} (rq : Requester) (st fl n : Nat) (b : Bytes) (h : Canonical s) :
    Canonical (s.answer rq st fl n b) := canonical_of (by simp) (by simp) h

theorem Canonical.served {s : State} (rq : Requester) (k : Nat) (h : Canonical s) : Canonical (s.served rq k) :=
  canonical_of (by simp) (by simp) h

theorem Canonical.noteH {s : State} (old : State) (h : Canonical s) : Canonical (s.noteH old) := canonical_of (by simp) (by simp) h

theorem Canonical.countRefusal {s : State} (rq : Requester) (k : Nat) (w : Bool) (h : Canonical s) : Canonical (s.countRefusal rq k w) := by
  unfold State.countRefusal
  split
  · split
    · exact h
    · exact h.bump _ _ _
  · exact h

/-- A fold of updates keeps the canonical form where each of them does. -/
theorem Canonical.each {α : Type} {s : State} (f : State → α → State) (hf : ∀ t x, Canonical t → Canonical (f t x)) (l : List α)
    (h : Canonical s) : Canonical (s.each l f) := State.each_keeps Canonical f hf l s h

/-- A checked write keeps the canonical form where what it does then keeps it (R404). -/
theorem Canonical.checked {s : State} (rq : Requester) (k : Nat) (v : Val) (token : Option Token) (f : State → State)
    (hf : ∀ t, Canonical t → Canonical (f t)) (h : Canonical s) : Canonical (s.checked rq k v token f) := by
  unfold State.checked
  simp only
  split
  · exact h
  · split
    · exact ((h.served rq k).countRefusal rq k true).answer _ _ _ _ _
    · exact hf _ (h.served rq k)

/-- A request keeps the canonical form where its effect does (R404). -/
theorem Canonical.request {s : State} (rq : Requester) (k : Nat) (v : Val) (token : Option Token) (effect : Effect)
    (hf : ∀ t, Canonical t → Canonical (effect t).1) (h : Canonical s) : Canonical (s.request rq k v token effect) := by
  unfold State.request
  refine h.checked rq k v token _ ?_
  intro t ht
  refine Canonical.answer _ _ _ _ _ (Canonical.noteH _ ?_)
  cases token with
  | none => exact hf t ht
  | some x =>
    simp only
    split
    · exact (hf t ht).setP _ _
    · exact hf t ht

/-- A write that only sets its object keeps the canonical form. -/
theorem Canonical.plainWrite {s : State} (k : Nat) (v : Val) (h : Canonical s) : Canonical (plainWrite k v s).1 := (h.set k _).markWrite k

/-- A command that reports in a status object keeps the canonical form where what it does keeps it. -/
theorem Canonical.reported {s : State} (key : Nat) (f : State → State × Nat) (hf : ∀ t, Canonical t → Canonical (f t).1)
    (h : Canonical s) : Canonical (reported key f s).1 := (hf s h).setNum _ _

end Sys2Proof
end

