-- ==== Sys2Proof/Laws/Events.lean ====
section
/-! SUPPORT. Laws of events and commits (R422, R457–R459): a raised event stands in the log, and module memory, the queue and the engines'
data are not an event's to change. -/

namespace Sys2Proof.Machine

open Sys2Proof

/-- An entry counted once more still stands. -/
theorem mem_countRepeat (code : Nat) {e : EventEntry} : ∀ {l : List EventEntry}, e ∈ l →
    ∃ x ∈ countRepeat code l, x.code = e.code ∧ x.hoop = e.hoop ∧ x.unit = e.unit ∧ x.detail = e.detail
  | [], h => by cases h
  | y :: l, h => by
    unfold countRepeat
    rcases List.mem_cons.1 h with rfl | h
    · split
      · exact ⟨_, List.mem_cons_self .., rfl, rfl, rfl, rfl⟩
      · exact ⟨_, List.mem_cons_self .., rfl, rfl, rfl, rfl⟩
    · split
      · exact ⟨e, List.mem_cons_of_mem _ h, rfl, rfl, rfl, rfl⟩
      · obtain ⟨x, hx, hc⟩ := mem_countRepeat code h
        exact ⟨x, List.mem_cons_of_mem _ hx, hc⟩

@[simp] theorem State.vector_log (s : State) (v : Nat) : (s.vector v).events = s.events := by unfold State.vector; split <;> rfl

@[simp] theorem State.signalEvent_log (s : State) (e : EventEntry) : (s.signalEvent e).events.log = s.events.log := by
  have hv : ∀ t : State, (if t.num Obj.eventIrqSeverity ≤ e.severity then t.vector 1 else t).events = t.events := by
    intro t; split <;> simp
  unfold State.signalEvent
  simp only
  split
  · change (if s.num Obj.eventIrqSeverity ≤ e.severity then s.vector 1 else s).events.log = _
    rw [hv s]
  · rw [hv s]

/-- A new entry is the newest, and the older ones beside at most the last stand behind it. -/
theorem State.enterEvent_log (s : State) (e : EventEntry) :
    ∃ l, (s.enterEvent e).events.log = e :: l ∧ (s.events.log.length < 4096 → l = s.events.log) ∧
      (4096 ≤ s.events.log.length → l = s.events.log.dropLast) := by
  unfold State.enterEvent
  by_cases h : 4096 ≤ s.events.log.length
  · exact ⟨s.events.log.dropLast, by simp [h, State.setNum, State.set, State.bump], fun x => absurd h (by omega), fun _ => rfl⟩
  · exact ⟨s.events.log, by simp [h, State.setNum, State.set], fun _ => rfl, fun x => absurd x h⟩

/-- What is logged is in the log. -/
theorem State.logEvent_reported (s : State) (code : Nat) (a : EventArgs) : Reported code a (s.logEvent code a) := by
  unfold State.logEvent
  simp only
  split
  · rename_i hc
    unfold State.coalesces at hc
    split at hc
    · rename_i e he
      have hm := List.mem_of_find?_eq_some he
      have hp := List.find?_some he
      simp only [beq_iff_eq, Bool.and_eq_true] at hp hc
      obtain ⟨x, hx, h1, h2, h3, h4⟩ := mem_countRepeat code hm
      exact ⟨x, hx, h1.trans hp, h2.trans hc.1.1.1, h3.trans hc.1.1.2, h4.trans hc.1.2⟩
    · cases hc
  · obtain ⟨l, hl, _⟩ := State.enterEvent_log { s with events := { s.events with lastSeen := Map.put 0 s.events.lastSeen code s.now } }
      (s.eventEntry code a)
    refine ⟨s.eventEntry code a, ?_, rfl, rfl, rfl, rfl⟩
    rw [State.signalEvent_log, hl]
    exact List.mem_cons_self ..

/-- Logging another event on top of one just entered leaves it in the log. -/
theorem State.logEvent_keeps_head (s : State) (code : Nat) (a : EventArgs) {e : EventEntry} {l : List EventEntry}
    (h : s.events.log = e :: l) :
    ∃ x ∈ (s.logEvent code a).events.log, x.code = e.code ∧ x.hoop = e.hoop ∧ x.unit = e.unit ∧ x.detail = e.detail := by
  unfold State.logEvent
  simp only
  split
  · exact mem_countRepeat code (by rw [h]; exact List.mem_cons_self ..)
  · obtain ⟨r, hr, hs, hb⟩ :=
      State.enterEvent_log { s with events := { s.events with lastSeen := Map.put 0 s.events.lastSeen code s.now } } (s.eventEntry code a)
    refine ⟨e, ?_, rfl, rfl, rfl, rfl⟩
    rw [State.signalEvent_log, hr]
    refine List.mem_cons_of_mem _ ?_
    by_cases hl : 4096 ≤ s.events.log.length
    · rw [hb hl]
      change e ∈ s.events.log.dropLast
      rw [h]
      cases l with
      | nil => rw [h] at hl; simp at hl
      | cons y l => simp [List.dropLast]
    · rw [hs (Nat.lt_of_not_le hl)]
      change e ∈ s.events.log
      rw [h]
      exact List.mem_cons_self ..

/-- Starting a commit leaves an entry that was just entered in the log. -/
theorem State.beginCommit_keeps_head (s : State) (rq : Option Requester) {e : EventEntry} {l : List EventEntry}
    (h : s.events.log = e :: l) :
    ∃ x ∈ (s.beginCommit rq).events.log, x.code = e.code ∧ x.hoop = e.hoop ∧ x.unit = e.unit ∧ x.detail = e.detail := by
  have here : ∀ t : State, t.events.log = s.events.log →
      ∃ x ∈ t.events.log, x.code = e.code ∧ x.hoop = e.hoop ∧ x.unit = e.unit ∧ x.detail = e.detail :=
    fun t ht => ⟨e, by rw [ht, h]; exact List.mem_cons_self .., rfl, rfl, rfl, rfl⟩
  unfold State.beginCommit
  split
  · exact here _ rfl
  · split
    · exact State.logEvent_keeps_head _ _ _ (h : (s.setNum Obj.persistCommandStatus St.refusedNotReady).events.log = e :: l)
    · exact here _ rfl

/-- A raised event is reported (R457–R459). -/
theorem State.raise_reported (s : State) (code : Nat) (a : EventArgs) : Reported code a (s.raise code a) := by
  unfold State.raise
  simp only
  split
  · exact State.logEvent_reported s code a
  · rename_i hc
    have hn : s.coalesces code a = false := by
      cases hx : s.coalesces code a
      · rfl
      · simp [hx] at hc
    have hl : ∃ l, (s.logEvent code a).events.log = s.eventEntry code a :: l := by
      obtain ⟨l, hl, _⟩ :=
        State.enterEvent_log { s with events := { s.events with lastSeen := Map.put 0 s.events.lastSeen code s.now } }
          (s.eventEntry code a)
      refine ⟨l, ?_⟩
      unfold State.logEvent
      simp only [hn]
      exact (State.signalEvent_log _ _).trans hl
    obtain ⟨l, hl⟩ := hl
    have hs : ∀ (u : State) (k : Nat) (v : Val), (u.setP k v).events.log = u.events.log := by
      intro u k v
      unfold State.setP State.markWrite
      split <;> rfl
    obtain ⟨x, hx, h⟩ := State.beginCommit_keeps_head ((s.logEvent code a).setP Obj.eventCriticalRecord _) none ((hs _ _ _).trans hl)
    exact ⟨x, hx, h⟩

@[simp] theorem State.signalEvent_mem (s : State) (e : EventEntry) : (s.signalEvent e).mem = s.mem := by
  have hv : ∀ t : State, (if t.num Obj.eventIrqSeverity ≤ e.severity then t.vector 1 else t).mem = t.mem := by
    intro t; split <;> simp
  unfold State.signalEvent
  simp only
  split
  · change (if s.num Obj.eventIrqSeverity ≤ e.severity then s.vector 1 else s).mem = _
    exact hv s
  · exact hv s

@[simp] theorem State.logEvent_mem (s : State) (code : Nat) (a : EventArgs) : (s.logEvent code a).mem = s.mem := by
  unfold State.logEvent
  simp only
  split
  · rfl
  · rw [State.signalEvent_mem]
    unfold State.enterEvent
    simp only
    split <;> rfl

@[simp] theorem State.beginCommit_mem (s : State) (rq : Option Requester) : (s.beginCommit rq).mem = s.mem := by
  unfold State.beginCommit
  split
  · rfl
  · split
    · rw [State.logEvent_mem]; rfl
    · rfl

/-- An event changes no byte of module memory. -/
@[simp] theorem State.raise_mem (s : State) (code : Nat) (a : EventArgs) : (s.raise code a).mem = s.mem := by
  unfold State.raise
  simp only
  split
  · exact State.logEvent_mem s code a
  · rw [State.beginCommit_mem]
    have hs : ∀ (u : State) (k : Nat) (v : Val), (u.setP k v).mem = u.mem := by
      intro u k v
      unfold State.setP State.markWrite
      split <;> rfl
    rw [hs, State.logEvent_mem]

/-- A raised event is reported, and changes nothing but the objects of the event log and of the commit that may follow. -/
theorem State.raise_logs (s : State) (code : Nat) (a : EventArgs) : Logs code a [] s (s.raise code a) :=
  ⟨State.raise_reported s code a, fun _ hk => State.raise_obj s code a (by simpa using hk), State.raise_mem s code a⟩

end Sys2Proof.Machine
end

