-- ==== Sys2Proof/Laws/Units.lean ====
section
/-! SUPPORT. Keys of the object table (R11, R45): an object of a table that has the unit, and units that differ. -/

namespace Sys2Proof.Machine

theorem linearUnit_of_lt {base sub count i : Nat} (h : i < count) : linearUnit base sub count i = linearKey base sub i := by
  simp [linearUnit, h]

theorem packedUnit_of_lt {base sub count i : Nat} (h : i < count) : packedUnit base sub count i = packedKey base sub i := by
  simp [packedUnit, h]

/-- Two units of one object have different keys. -/
theorem linearUnit_inj {base sub count i j : Nat} (hb : base + count ≤ 2 ^ 16) :
    linearUnit base sub count i = linearUnit base sub count j ↔ i = j := by
  constructor
  · unfold linearUnit linearKey noUnit
    split <;> split <;> omega
  · rintro rfl; rfl

/-- Two units of one packed object have different keys. -/
theorem packedUnit_inj {base sub count i j : Nat} (hb : base + count ≤ 2 ^ 16) :
    packedUnit base sub count i = packedUnit base sub count j ↔ i = j := by
  constructor
  · unfold packedUnit packedKey noUnit
    split <;> split <;> omega
  · rintro rfl; rfl

/-- Objects of different subs have different keys, whatever their units. -/
theorem linearUnit_sub {base base' sub sub' count count' i j : Nat} (hb : base + count ≤ 2 ^ 16) (hb' : base' + count' ≤ 2 ^ 16)
    (hs : sub < 256) (hs' : sub' < 256) (h : sub ≠ sub') : linearUnit base sub count i ≠ linearUnit base' sub' count' j := by
  unfold linearUnit linearKey noUnit
  split <;> split <;> omega

end Sys2Proof.Machine
end

