-- ==== Sys2Proof/Tests/Slice0.lean ====
section
/-! SUPPORT. The model's own tests: the well-formedness smoke, one step per family, and for every statement with hypotheses a
concrete state and operands that meet them, clause by clause. -/

namespace Sys2Proof.Machine

open Sys2Proof

set_option Elab.async false


/-- The state after reset with some objects set to numbers. -/
def put (l : List (Nat × Nat)) : State := l.foldl (fun s x => s.setNum x.1 x.2) State.reset

/-- Hoop 0 in a state, with further objects set. -/
def hoopIn (state : Nat) (l : List (Nat × Nat)) : State := put ((Obj.hoopState 0, state) :: l)

/-- Data of hoop 0 set. -/
def State.with0 (s : State) (x : HoopData) : State := s.setHoop 0 x

/-- Hub firmware sends. -/
abbrev hub : Requester := .hubFirmware

/-- States that meet the hypotheses of StepRunsFrontCommand. -/
theorem witness_StepRunsFrontCommand :
  ({ State.reset with pending := [.ppsInEdge] } : State).pending = [.ppsInEdge] := by decide +kernel

/-- States that meet the hypotheses of EmptyQueueTicks. -/
theorem witness_EmptyQueueTicks :
  State.reset.pending = [] := by decide +kernel

/-- States that meet the hypotheses of EveryStepKeepsCanonicalForm. -/
theorem witness_EveryStepKeepsCanonicalForm :
  Canonical State.reset ∧ ∃ t, step State.reset = .next t := ⟨⟨rfl, rfl⟩, _, rfl⟩

/-- States that meet the hypotheses of RefusedRequestChangesNothing. -/
theorem witness_RefusedRequestChangesNothing :
  ((put [(Obj.moduleState, 3)]).serves hub = false) ∧
  (let s := State.reset
  s.serves hub = true ∧ ((s.dropLatch hub Obj.hoopCount).touch Obj.hoopCount).writeStatus hub Obj.hoopCount (.num 1) none ≠ St.ok) := 
  by and_intros <;> decide +kernel

/-- States that meet the hypotheses of FirstFailingCheckDecides. -/
theorem witness_FirstFailingCheckDecides :
  ((findRow 0).isNone = true) ∧
  ((findRow (Obj.hoopState 15)).isSome = true ∧ State.reset.authorised (.pdp 0 0) (Obj.hoopState 15) true = false) ∧
  (∃ r i, findRow (Obj.hoopState 15) = some (r, i) ∧ State.reset.authorised hub (Obj.hoopState 15) true = true ∧ r.acc = .ro) ∧
  (∃ r i, findRow (Obj.hoopTileMask 0) = some (r, i) ∧ r.acc = .rws ∧ (hoopIn 2 []).ownerHoop (Obj.hoopTileMask 0) = some 0 ∧ (hoopIn 2 []).num (Obj.hoopState 0) = 2) ∧
  (∃ r i, findRow (Obj.lineHoopClearEnableA 0) = some (r, i) ∧ r.acc = .sig ∧ State.reset.num (Obj.domainState 6) ≠ 3) ∧
  (∃ r i, findRow Obj.lineShuffle = some (r, i) ∧ r.acc = .rw ∧ r.fits (.blob []) = false ∧ r.fits (.num 2) = true ∧ r.inRange (.num 2) = false ∧ r.inRange (.num 1) = true) := 
  ⟨by decide +kernel,
   by decide +kernel,
   ⟨_, _, rfl, rfl, rfl⟩,
   ⟨_, _, rfl, rfl, by decide +kernel, by decide +kernel⟩,
   ⟨_, _, rfl, rfl, by decide +kernel⟩,
   ⟨_, _, rfl, rfl, rfl, rfl, rfl, rfl⟩⟩

/-- States that meet the hypotheses of ReservationChecks. -/
theorem witness_ReservationChecks :
  (State.reset.reserveCheck 0 0 0 0 = (St.busy, 0)) ∧
  ((put [(Obj.hoopState 1, 1), (Obj.hoopTileMask 1, 2)]).reserveCheck 0 2 0 0 = (St.busy, 0)) ∧
  (State.reset.hoopMemoryAvailable < State.reset.reservedBeside 0 + (State.reset.hoopMemoryAvailable + 1)) ∧
  (65536 < ((State.reset.otherHoops 0).map fun x => State.reset.num (Obj.hoopContextMinimum x)).sum + 65537) ∧
  (State.reset.reservedBeside 0 + State.reset.hoopMemoryAvailable ≤ State.reset.hoopMemoryAvailable ∧
    ((State.reset.otherHoops 0).map fun x => State.reset.num (Obj.hoopContextMinimum x)).sum + 65536 ≤ 65536 ∧ State.reset.backingFrames 0 ≤ State.reset.hoopMemoryAvailable / frameBytes) := 
  by and_intros <;> decide +kernel

/-- States that meet the hypotheses of HoopCommandsTakeTheirTransitions. -/
theorem witness_HoopCommandsTakeTheirTransitions :
  (let s := put [(Obj.hoopMemoryCapacity 15, 2097152), (Obj.hoopTileMask 15, 2 ^ 47)]
  Accepts s hub (Obj.hoopCommand 15) (.num 1) none ∧ s.num (Obj.hoopState 15) = 0 ∧ s.reserveCheck 15 (2 ^ 47) 2097152 2048 = (St.ok, 0)) ∧
  (Accepts State.reset hub (Obj.hoopCommand 0) (.num 1) none ∧ State.reset.num (Obj.hoopState 0) = 0 ∧ State.reset.reserveCheck 0 0 0 2048 = (St.busy, 0)) ∧
  (let s := (hoopIn 1 [(Obj.jobDeclaredMemory 0, 1)]).with0 { plan := [1] }
  Accepts s hub (Obj.hoopCommand 0) (.num 2) none ∧ s.num (Obj.hoopState 0) = 1 ∧ (s.hoop 0).plan ≠ [] ∧ (s.hoop 0).bound = false ∧ s.num (Obj.hoopMemoryCapacity 0) < s.num (Obj.jobDeclaredMemory 0)) ∧
  (let s := (hoopIn 1 [(Obj.hoopFrameLimit 0, 64)]).with0 { plan := [1] }
  Accepts s hub (Obj.hoopCommand 0) (.num 2) none ∧ s.num (Obj.hoopState 0) = 1 ∧ (s.hoop 0).plan ≠ [] ∧ (s.hoop 0).bound = false ∧ s.num (Obj.jobDeclaredMemory 0) ≤ s.num (Obj.hoopMemoryCapacity 0) ∧
    planFrameCount (s.hoop 0).plan + s.num (Obj.hoopBackingFrames 0) + s.furtherFrames 0 ≤ s.num (Obj.hoopFrameLimit 0)) ∧
  (Accepts (hoopIn 4 []) hub (Obj.hoopCommand 0) (.num 3) none ∧ (hoopIn 4 []).num (Obj.hoopState 0) = 4) ∧
  (let s := (hoopIn 1 []).with0 { plan := [1], bound := true }
  Accepts s hub (Obj.hoopCommand 0) (.num 3) none ∧ s.num (Obj.hoopState 0) = 1 ∧ (s.hoop 0).bound = true ∧ s.slotsFilled 0 = true) ∧
  (Accepts (hoopIn 2 []) hub (Obj.hoopCommand 0) (.num 4) none ∧ (hoopIn 2 []).num (Obj.hoopState 0) = 2) ∧
  (Accepts (hoopIn 4 []) hub (Obj.hoopCommand 0) (.num 6) none ∧ (hoopIn 4 []).num (Obj.hoopState 0) = 4) ∧
  ([1, 4, 6].all (fun n => Accepts (hoopIn n []) hub (Obj.hoopCommand 0) (.num 7) none ∧ (hoopIn n []).num (Obj.hoopState 0) = n ∧ ((hoopIn n []).hoop 0).evacuation = none) = true) := 
  by and_intros <;> decide +kernel

/-- States that meet the hypotheses of HoopCommandWithoutARowIsRefused. -/
theorem witness_HoopCommandWithoutARowIsRefused :
  (Accepts (hoopIn 1 []) hub (Obj.hoopCommand 0) (.num 1) none ∧ (hoopIn 1 []).num (Obj.hoopState 0) = 1) ∧
  (State.reset.num (Obj.hoopState 0) = 0 ∧ (State.reset.hoop 0).evacuation = none ∧ (State.reset.hoop 0).evacuateWhenStopped = false ∧
    [2, 3, 4, 5, 6, 7].all (fun n => Accepts State.reset hub (Obj.hoopCommand 0) (.num n) none) = true) := 
  by and_intros <;> decide +kernel

/-- States that meet the hypotheses of ReservationWritesAndEvacuation. -/
theorem witness_ReservationWritesAndEvacuation :
  ([0, 2 ^ 64 - 1].all (fun n => Accepts State.reset hub (reservationKey 0 .memory) (.num n) none) = true ∧ State.reset.num (Obj.hoopState 0) = 0) ∧
  (let s := hoopIn 1 [(Obj.hoopTileMask 0, 1), (Obj.hoopFramesHeld 0, 1), (Obj.hoopMemoryCapacity 0, 4194304)]
  s.num (Obj.hoopState 0) ≠ 0 ∧ [2097152, 2097151].all (fun n => Accepts s hub (Obj.hoopMemoryCapacity 0) (.num n) none ∧ s.reserveCheck 0 1 n 2048 = (St.ok, 0)) = true ∧
    s.num (Obj.hoopFramesHeld 0) * frameBytes ≤ 2097152 ∧ 2097151 < s.num (Obj.hoopFramesHeld 0) * frameBytes) ∧
  (let s := (hoopIn 1 [(Obj.hoopTileMask 0, 1), (Obj.tileOwner 0, 0)]).setTile 0 { zone0 := some (0, 0, 0) }
  Accepts s hub (Obj.hoopTileMask 0) (.num 2) none ∧ s.num (Obj.hoopState 0) ≠ 0 ∧ s.reserveCheck 0 2 0 2048 = (St.ok, 0) ∧ s.losesBoundTile 0 2 = true) ∧
  (let b (kind : Nat) : Bytes := BitVec.ofNat 8 kind :: List.replicate 31 0
  [0, 2, 3].all (fun n => Accepts State.reset hub (Obj.evacuationTarget 0) (.blob (b n)) none ∧ targetKind (b n) = n) = true ∧ Accepts State.reset hub (Obj.evacuationTarget 0) (.blob [0]) none) ∧
  (let s := ((hoopIn 4 []).set (Obj.evacuationTarget 0) (.blob ([1, 0, 0, 0] ++ List.replicate 12 0 ++ List.replicate 8 255 ++ List.replicate 8 0))).setQp 0 { bound := true }
  let s := s.setNum (Obj.qpState 0) 3
  Accepts s hub (Obj.hoopCommand 0) (.num 5) none ∧ (s.hoop 0).evacuation = none ∧ (s.hoop 0).evacuateWhenStopped = false ∧ s.num (Obj.hoopState 0) = 4 ∧ s.evacuationCheck 0 = St.ok) ∧
  (Accepts (hoopIn 6 []) hub (Obj.hoopCommand 0) (.num 5) none ∧ ((hoopIn 6 []).hoop 0).evacuation = none ∧ ((hoopIn 6 []).hoop 0).evacuateWhenStopped = false ∧ (hoopIn 6 []).num (Obj.hoopState 0) = 6 ∧ (hoopIn 6 []).evacuationCheck 0 ≠ St.ok) ∧
  ((((hoopIn 4 []).with0 { evacuation := some ⟨[], true⟩ }).hoop 0).evacuation = some ⟨[], true⟩ ∧ (((hoopIn 4 []).with0 { evacuation := some ⟨[], false⟩ }).hoop 0).evacuation = some ⟨[], false⟩ ∧ OwnPlan ((hoopIn 4 []).with0 { evacuation := some ⟨[], false⟩ }) 0 ∧ OwnPlan ((hoopIn 4 []).with0 { evacuation := some ⟨[], true⟩ }) 0) ∧
  (let s := State.reset.setSession 31 32 { state := 2, hoop := 15 }
  (s.session 31 32).state = 2 ∧ (s.session 31 32).hoop < 16 ∧ s.mayTake 15 [] = false ∧ OwnPlan s 15) ∧
  (let s := (put [(Obj.shadowState 15, 1)]).setSession 31 32 { state := 2, hoop := 15 }
  (s.session 31 32).state = 2 ∧ (s.session 31 32).hoop < 16 ∧ s.mayTake 15 [] = true ∧ s.num (Obj.shadowState 15) = 1 ∧ OwnPlan s 15) ∧
  (let s := (State.reset.setSession 0 1 { state := 2, hoop := 0 }).with0 { evacuation := some ⟨[], true⟩ }
  (s.session 0 1).state = 2 ∧ (s.session 0 1).hoop < 16 ∧ (s.hoop 0).evacuation.any Evacuation.toPeer = true) := 
  by and_intros <;> decide +kernel

/-- Bytes with little-endian fields at given offsets: (offset, width, value). -/
def fields (n : Nat) (l : List (Nat × Nat × Nat)) : Bytes :=
  l.foldl (fun b x => b.take x.1 ++ leBytes x.2.1 x.2.2 ++ b.drop (x.1 + x.2.1)) (List.replicate n 0)

/-- An image of 16 instructions with an exchange area of 64 bytes, region 0 of 4 KiB read once and written twice, mailbox 0. -/
def labImage : Bytes :=
  fields 640 [(24, 4, 128), (40, 4, 64), (84, 4, 0x100000), (88, 4, 64), (128, 8, 4096), (102, 2, 3), (104, 8, 1), (144, 1, 0), (160, 8, 4096), (176, 1, 1)]

/-- A plan of one buffer and one entry of two chunks. -/
def labPlan : Bytes :=
  fields 664 [(10, 2, 2), (12, 2, 1), (28, 4, 560), (32, 4, 48), (36, 4, 624), (40, 4, 496), (49, 1, 1), (50, 1, 1), (60, 4, 2), (256, 8, 0), (520, 4, 64),
    (560, 8, 4096), (568, 1, 0), (572, 4, 1), (576, 4, 1), (624, 2, 2),
    (632, 2, 0x1000), (634, 2, 0x2000)]

/-- A Running operation of that entry, sequence number 5. -/
def labOp : Operation :=
  { seq := 5, epoch := 0, desc := fields 64 [(0, 1, 1), (4, 4, 5), (12, 1, 1), (14, 2, 1)], order := 0, phase := 1, source := 0, generation := 0, done := [], step := 0 }

/-- Its chunk 0, running on tile 0. -/
def labChunk : Chunk := { group := 0, seq := 5, index := 0, phase := 2, image := labImage }

/-- Hoop 0 Running with that operation in group 0. -/
def labBase : State :=
  let s := (put [(Obj.hoopState 0, 2), (Obj.groupState 0, 1), (Obj.tileState 0, 2), (Obj.tileOwner 0, 0), (Obj.targetLength 0, 4096)]).setHoop 0
    { bound := true, plan := labPlan, planFrames := [[0], [0]], images := [(0, labImage)] }
  { s.setGroup 0 { members := [0x1000, 0x2000], contributors := 2, ops := [labOp] } with work := { (s.setGroup 0 { members := [0x1000, 0x2000], contributors := 2, ops := [labOp] }).work with chunks := [labChunk] }, pools := { frames := [(0, some { hoop := 0, cls := 3, place := 0, logical := 0 })] } }

def labTile : TileData := { zone0 := some (0, 5, 0), running := some (0, 5, 0), image := labImage }

/-- The same with data of tile 0. -/
def lab (y : TileData) : State := { labBase with tiles := [(0, y)] }

def labEntry : Bytes := slice labPlan 48 448

/-- What tile 0 runs there. -/
def labRun (y : TileData) (w : TileWord) : Running := ⟨lab y, 0, w, y, labChunk, labOp, labEntry, chunkRecord labPlan labEntry 0⟩

/-- A tile with an instruction at the start of its code. -/
def coded (op : Nat) (w : TileWord) (y : TileData) : TileData := { y with image := leBytes 8 (tileWord op w) ++ labImage.drop 8 }

/-- What a dispatch asks beside what the tile runs, as a check. -/
def readyOk (op : Nat) (k : Running) (w : TileWord) (f : Fields) (q : Option Nat) : Bool :=
  !k.x.fenced && !k.x.ending && k.x.trapped == none && decide (k.x.pc < codeCount k.x.image) && k.codeWord == tileWord op w &&
    q.all (fun n => decide ((k.x.queue n).length < 16)) && f.ok w && !k.x.awaits (f.sources op w) &&
    (List.range 5).all fun n => (k.x.queue n).head?.all fun j => !j.op.passes

theorem ready_of {s : State} {t : Tile} {op : Nat} {k : Running} {w : TileWord} {f : Fields} {q : Option Nat} (hr : s.running t w = some k)
    (h : readyOk op k w f q = true) : Dispatches s t op w f q k := by
  simp only [readyOk, Bool.and_eq_true, beq_iff_eq, Bool.not_eq_true', decide_eq_true_eq, List.all_eq_true] at h
  obtain ⟨⟨⟨⟨⟨⟨⟨⟨h2, h3⟩, h4⟩, h5⟩, h6⟩, h7⟩, h8⟩, h9⟩, h10⟩ := h
  refine ⟨hr, ⟨h2, h3, h4⟩, h5, h6, ?_, h8, h9, ?_⟩
  · rintro n rfl
    simpa using h7
  · intro n hn j rest hq
    have := h10 n (List.mem_range.2 hn)
    simpa [hq] using this

/-- What a dispatch on tile 0 of the lab asks, as a check. -/
def labOk (op : Nat) (y : TileData) (w : TileWord) (f : Fields) (q : Option Nat) : Bool :=
  y.running == some (0, 5, 0) && readyOk op (labRun y w) w f q

theorem lab_chunk : labBase.chunk (0, 5, 0) = some labChunk := by decide +kernel
theorem lab_operation : labBase.operation 0 5 = some labOp := by decide +kernel
theorem lab_entry : labBase.entryOf 0 labOp = some labEntry := by decide +kernel
theorem lab_record : labBase.recordOf 0 labOp 0 = some (chunkRecord labPlan labEntry 0) := by decide +kernel

theorem lab_running (y : TileData) (w : TileWord) (h : y.running = some (0, 5, 0)) : (lab y).running 0 w = some (labRun y w) := by
  have hx : (lab y).tile 0 = y := rfl
  have h1 : (lab y).chunk (0, 5, 0) = some labChunk := lab_chunk
  have h2 : (lab y).operation 0 5 = some labOp := lab_operation
  have h3 : (lab y).entryOf 0 labOp = some labEntry := lab_entry
  have h4 : (lab y).recordOf 0 labOp 0 = some (chunkRecord labPlan labEntry 0) := lab_record
  simp [State.running, hx, h, h1, h2, h3, h4, labRun]

theorem lab_ready {op : Nat} {y : TileData} {w : TileWord} {f : Fields} {q : Option Nat} (h : labOk op y w f q = true) :
    Dispatches (lab y) 0 op w f q (labRun y w) := by
  simp only [labOk, Bool.and_eq_true, beq_iff_eq] at h
  exact ready_of (lab_running y w h.1) h.2

/-- The plan whose chunk emits nothing. -/
def dryPlan : Bytes := labPlan.take 520 ++ leBytes 4 0 ++ labPlan.drop 524

/-- The lab under that plan. -/
def dryBase : State := labBase.setHoop 0 { labBase.hoop 0 with plan := dryPlan }

def labDry (y : TileData) : State := { dryBase with tiles := [(0, y)] }

def labDryRun (y : TileData) (w : TileWord) : Running := { labRun y w with s := labDry y, r := chunkRecord dryPlan labEntry 0 }

theorem dry_chunk : dryBase.chunk (0, 5, 0) = some labChunk := by decide +kernel
theorem dry_operation : dryBase.operation 0 5 = some labOp := by decide +kernel
theorem dry_entry : dryBase.entryOf 0 labOp = some labEntry := by decide +kernel
theorem dry_record : dryBase.recordOf 0 labOp 0 = some (chunkRecord dryPlan labEntry 0) := by decide +kernel

theorem lab_dry_running (y : TileData) (w : TileWord) (h : y.running = some (0, 5, 0)) :
    (labDry y).running 0 w = some (labDryRun y w) := by
  have hx : (labDry y).tile 0 = y := rfl
  have h1 : (labDry y).chunk (0, 5, 0) = some labChunk := dry_chunk
  have h2 : (labDry y).operation 0 5 = some labOp := dry_operation
  have h3 : (labDry y).entryOf 0 labOp = some labEntry := dry_entry
  have h4 : (labDry y).recordOf 0 labOp 0 = some (chunkRecord dryPlan labEntry 0) := dry_record
  simp [State.running, hx, h, h1, h2, h3, h4, labDryRun, labRun]

/-- The same with given data of module memory and of the pools. -/
def labIn (m : MemoryState) (p : PoolState) (y : TileData) : State := { lab y with memory := m, pools := p }

def labInRun (m : MemoryState) (p : PoolState) (y : TileData) (w : TileWord) : Running := { labRun y w with s := labIn m p y }

theorem lab_in_running (m : MemoryState) (p : PoolState) (y : TileData) (w : TileWord) (h : y.running = some (0, 5, 0)) :
    (labIn m p y).running 0 w = some (labInRun m p y w) := by
  have hx : (labIn m p y).tile 0 = y := rfl
  have h1 : (labIn m p y).chunk (0, 5, 0) = some labChunk := lab_chunk
  have h2 : (labIn m p y).operation 0 5 = some labOp := lab_operation
  have h3 : (labIn m p y).entryOf 0 labOp = some labEntry := lab_entry
  have h4 : (labIn m p y).recordOf 0 labOp 0 = some (chunkRecord labPlan labEntry 0) := lab_record
  simp [State.running, hx, h, h1, h2, h3, h4, labInRun, labRun]

/-- A line of the region reads uncorrectable. -/
def torn : MemoryState := { bad := [0] }

/-- Hoop 1 holds the frame. -/
def others : PoolState := { frames := [(0, some { hoop := 1, cls := 4, place := 0, logical := 0 })] }

/-- A Bulk definition of hoop 0 with one member, an epoch and a first sequence. -/
def oneMember (epoch first : Nat) : Bytes := fields 26 [(0, 4, epoch), (4, 4, first), (10, 2, 64), (12, 1, 1), (14, 2, 1), (16, 2, 1), (24, 2, 0x1000)]

/-- States that meet the hypotheses of GroupsOpenReformAndClose. -/
theorem witness_GroupsOpenReformAndClose :
  (let s := (hoopIn 1 [(Obj.fabricAddress, 0x1000)]).set (Obj.groupDefinition 4095) (.blob (oneMember 1 7))
  Accepts s hub (Obj.groupCommand 4095) (.num 1) none ∧ s.createStatus 4095 = St.ok ∧ (s.setNum (Obj.hoopState 0) 6).createStatus 4095 = St.notPermittedInState) ∧
  (let s := (hoopIn 1 [(Obj.fabricAddress, 0x1000), (Obj.groupState 0, 2), (Obj.groupQueueDepth 0, 64), (Obj.groupContextMinimum 0, 1)]).set (Obj.groupDefinition 0) (.blob (oneMember 1 7))
  Accepts s hub (Obj.groupCommand 0) (.num 2) none ∧ s.reformStatus 0 = St.ok ∧ (s.setNum (Obj.groupEpoch 0) 1).reformStatus 0 = St.fenced ∧ s.producer 0 = s.consumer 0) ∧
  (Accepts labBase hub (Obj.groupCommand 0) (.num 3) none ∧ labBase.num (Obj.groupState 0) ≠ 0 ∧ State.reset.num (Obj.groupState 0) = 0) := 
  by and_intros <;> decide +kernel

/-- States that meet the hypotheses of QueuesAndContexts. -/
theorem witness_QueuesAndContexts :
  (State.reset.groupOfWindow 16383 = none) ∧
  (let s := (put [(Obj.groupState 0, 1), (Obj.groupQueueWindow 0, 7), (Obj.groupQueueDepth 0, 4)]).setGroup 0 { members := [0x1000] }
  s.groupOfWindow 7 = some 0 ∧ (s.qp 0).bound = false ∧ ((s.setQp 1 { bound := true }).qp 1).bound = true ∧ ((s.setQp 1 { bound := true }).qp 1).hoop = s.hoopOfGroup 0 ∧
    s.num (Obj.groupQueueDepth 0) < (5 % 2 ^ 16 + 2 ^ 16 - s.consumer 0) % 2 ^ 16 ∧ (4 % 2 ^ 16 + 2 ^ 16 - s.consumer 0) % 2 ^ 16 ≤ s.num (Obj.groupQueueDepth 0)) ∧
  (let s := put [(Obj.groupState 4095, 1), (Obj.groupQueueDepth 4095, 4)]
  let data := fields 66 [(0, 2, 4095)]
  Accepts s hub Obj.hostSubmit (.blob data) none ∧ field data 0 2 < 4096 ∧ field data 15 1 % 16 ≤ 4 ∧ data.length = 2 + 64 * (1 + field data 15 1 % 16) ∧
    s.num (Obj.groupState (field data 0 2)) ≠ 0 ∧ (s.producer 4095 + 2 ^ 16 - s.consumer 4095) % 2 ^ 16 + 1 ≤ s.num (Obj.groupQueueDepth 4095)) ∧
  (let s := put [(Obj.groupState 0, 1), (Obj.groupQueueDepth 0, 4), (Obj.groupQueueIndices 0, 4 * 2 ^ 16)]
  Accepts s hub Obj.hostSubmit (.blob (fields 66 [])) none ∧ s.num (Obj.groupState 0) ≠ 0 ∧ s.num (Obj.groupQueueDepth 0) < (s.producer 0 + 2 ^ 16 - s.consumer 0) % 2 ^ 16 + 1) ∧
  (State.reset.longestWaiting 0 = false) ∧
  (let d := labOp.desc
  let s := (labBase.setNum (Obj.groupQueueDepth 0) 4).setNum (Obj.groupQueueIndices 0) (2 ^ 16)
  let s := (s.setNum (Obj.groupContextMinimum 0) 1).setNum (Obj.groupNextSequence 0) 5
  let s := ((s.setNum (Obj.qpState 0) 3).setNum (Obj.windowState 0) 1).setNum (Obj.windowPlanEntry 0) 1
  let s := (s.setNum (Obj.targetQp 0) 0).setNum (Obj.windowGroup 0) 0
  let s := s.setGroup 0 { s.group 0 with ops := [], waiting := some 0, ring := Memory.writeBytes [] 0 d }
  s.longestWaiting 0 = true ∧ (s.contextSource 0).isSome = true ∧ s.isSmall 0 = false ∧ dExtSlots (s.ringSlot 0 0) = 0 ∧
    (s.producer 0 + 2 ^ 16 - s.consumer 0) % 2 ^ 16 = 1 ∧ 0 < s.num (Obj.groupQueueDepth 0) ∧
    (s.ringSlot 0 0) = d ∧ s.descriptorStatus 0 d = St.ok ∧ s.badSlots 0 1 = []) := 
  by and_intros <;> decide +kernel

/-- States that meet the hypotheses of OperationsRunAndEnd. -/
theorem witness_OperationsRunAndEnd :
  (let s := labBase.setGroup 0 { ops := [{ labOp with phase := 0 }] }
  s.operation 0 5 = some { labOp with phase := 0 } ∧ labOp.ending = none ∧ s.mayRun 0 { labOp with phase := 0 } = true ∧ s.stepOpen 0 = true ∧
    s.beyondWindow 0 = false ∧ s.memory.bad = [] ∧ s.isSmall 0 = false) ∧
  (let s := (labBase.setGroup 0 { members := [0x1000, 0x2000], ops := [{ labOp with phase := 0 }] }).setNum (Obj.groupKind 0) 1
  s.operation 0 5 = some { labOp with phase := 0 } ∧ s.mayRun 0 { labOp with phase := 0 } = true ∧ s.stepOpen 0 = true ∧ s.beyondWindow 0 = false ∧
    s.memory.bad = [] ∧ s.isSmall 0 = true ∧ (s.group 0).contributions = [] ∧ (s.group 0).members.any (fun m => m != s.ownAddress (s.hoopOfGroup 0)) = true) ∧
  (let s := ((labBase.setGroup 0 { ops := [{ labOp with phase := 0 }] }).setNum (Obj.partitionState 0) 1).setNum (Obj.outerStepCounter 0) 4
  s.operation 0 5 = some { labOp with phase := 0 } ∧ s.mayRun 0 { labOp with phase := 0 } = true ∧ s.stepOpen 0 = true ∧ s.beyondWindow 0 = true ∧ s.num (Obj.hoopState (s.hoopOfGroup 0)) = 2) ∧
  (let s := { labBase with work := { labBase.work with chunks := [{ labChunk with phase := 3 }] } }
  s.operation 0 5 = some labOp ∧ labOp.phase = 1 ∧ labOp.ending = none ∧ s.chunk (0, 5, 0) = some { labChunk with phase := 3 } ∧ labOp.done.contains 0 = false ∧
    s.resultPending 0 5 0 = false ∧ s.pools.misfreed = [] ∧ s.work.landings = [] ∧ s.work.streams = [] ∧ dFlag labOp.desc 0 = false ∧
    labOp.done.length + 1 < (s.workChunks 0 labOp).length) ∧
  (let o := { labOp with done := [1] }
  let s := { labBase with work := { labBase.work with chunks := [{ labChunk with phase := 3 }] } }
  let s := s.setGroup 0 { s.group 0 with ops := [o] }
  s.operation 0 5 = some o ∧ o.phase = 1 ∧ o.ending = none ∧ s.chunk (0, 5, 0) = some { labChunk with phase := 3 } ∧ o.done.contains 0 = false ∧
    s.resultPending 0 5 0 = false ∧ s.pools.misfreed = [] ∧ s.work.landings = [] ∧ s.work.streams = [] ∧ dFlag o.desc 0 = false ∧
    (s.workChunks 0 o).length = o.done.length + 1 ∧ (s.group 0).ops = [o] ∧ (s.group 0).redo = []) ∧
  (let s := { labBase with work := { labBase.work with chunks := [{ labChunk with resupply := true }] } }
  let s := s.setGroup 0 { s.group 0 with contributors := 0 }
  s.operation 0 5 = some labOp ∧ s.chunk (0, 5, 0) = some { labChunk with resupply := true } ∧ s.slotsComplete 0 labOp 0 = true ∧ (s.group 0).ops = [labOp] ∧
    (s.group 0).redo = [] ∧ labOp.seq = 5 ∧ labOp.ending = none) ∧
  (labBase.num (Obj.groupState 0) = 1 ∧ (labBase.group 0).members.contains 0x1000 = true ∧ labBase.cutOff (labBase.hoopOfGroup 0) (siteOf 0x1000) = false) ∧
  (State.reset.num (Obj.groupState 4095) = 0) ∧
  (labBase.num (Obj.groupState 0) ≠ 0 ∧ labBase.segmentFate 0 0 6 ≠ .gone ∧ (labBase.group 0).members.contains 0x2000 = true ∧ labBase.operation 0 6 = none ∧
    (labBase.group 0).contributions = []) ∧
  (let o := { labOp with desc := fields 64 [(0, 1, 5), (4, 4, 5)] }
  let c : Contribution := ⟨0x2000, 5, 0, 5, 0, 0, 0, []⟩
  let s := (labBase.setGroup 0 { members := [0x1000, 0x2000], contributors := 2, ops := [o], contributions := [{ c with member := 0x1000 }] }).setNum (Obj.groupKind 0) 1
  let s1 := s.setGroup 0 { s.group 0 with contributions := (s.group 0).contributions ++ [c] }
  s.num (Obj.groupState 0) ≠ 0 ∧ ((s.group 0).contributions.any fun y => y.member == c.member && y.seq == c.seq && y.epoch == c.epoch) = false ∧
    s.segmentFate 0 c.epoch c.seq ≠ .gone ∧ (s.group 0).members.contains 0x2000 = true ∧ (s.group 0).ops = [o] ∧ (s.group 0).redo = [] ∧ o.seq = 5 ∧
    o.phase = 1 ∧ o.ending = none ∧ (s1.contributionsOf 0 o).any (fun y => y.four != fourOf o.desc) = false ∧ (s1.allPayloads 0 o).isSome = true ∧
    s.resultPending 0 5 0 = false ∧ dOpcode o.desc = 5) ∧
  (labBase.num (Obj.groupState 0) ≠ 0 ∧ (labBase.group 0).members.contains 0x2000 = true) := 
  by and_intros <;> decide +kernel

/-- States that meet the hypotheses of OperationsRunAndEnd. -/
theorem witness_OperationsRunAndEnd_by_hand :
  ([] : Bytes) ≠ labBase.reproDigest 0 ∧ labBase.num Obj.arithmeticVersion = 1 := ⟨by decide +kernel, by decide +kernel⟩

/-- States that meet the hypotheses of TilesBindRunAndLeaveService. -/
theorem witness_TilesBindRunAndLeaveService :
  ((put [(Obj.domainSleepState (tileDomain 47), 6)]).num (Obj.domainSleepState (tileDomain 47)) = 6) ∧
  (let s := put [(Obj.tileState 47, 1)]
  s.num (Obj.domainSleepState (tileDomain 47)) = 0 ∧ (s.tile 47).samples = [] ∧ s.num (Obj.tileState 47) = 1 ∧ s.flag (Obj.tileClockDivided 47) = false) ∧
  ((put [(Obj.tileState 0, 3)]).num (Obj.tileState 0) = 3 ∧ (((put [(Obj.tileState 0, 3)]).tile 0).samples.head?).all (fun l => l.all fun r => decide (r < 950)) = true) ∧
  ((((State.reset.setTile 0 { samples := [[950, 0, 0, 0]] }).tile 0).samples.head?).all (fun l => l.all fun r => decide (r < 950)) = false) ∧
  ((State.reset.nextBinding 15).isNone = true) ∧
  (let s := { (labBase.setNum (Obj.tileState 0) 1) with work := { labBase.work with chunks := [] } }
  (s.nextBinding 0).any (fun x => x.1 == 0 && x.2.2 == 0) = true ∧ s.chooseTile (s.hoopOfGroup 0) = some 0 ∧ (s.tile 0).freeZone = some 0 ∧ s.memory.bad = [] ∧ s.work.landings = [] ∧ (s.exchange 0 5 0).buffers = []) ∧
  ((State.reset.waitingChunk 0).isNone = true) ∧
  (let s := { (labBase.setTile 0 { zone0 := some (0, 5, 0) }) with work := { labBase.work with chunks := [{ labChunk with phase := 1 }] } }
  let s := { s.setGroup 0 { s.group 0 with contributors := 0 } with power := { running := [.tile 0] } }
  s.waitingChunk 0 = some { labChunk with phase := 1 } ∧ s.mayStart 0 { labChunk with phase := 1 } = true ∧ s.num (Obj.hoopState (s.hoopOfGroup 0)) ≠ 6 ∧
    s.mayStart 0 { labChunk with phase := 1, resupply := true } = false ∧ s.memory.bad = [] ∧ OwnPlan s (s.hoopOfGroup 0)) ∧
  ((put [(Obj.tileState 0, 5)]).num (Obj.tileState 0) = 5 ∧ State.reset.num (Obj.tileState 0) ≠ 5) ∧
  (let y : TileData := { running := some (0, 5, 0), queues := [(3, [{ op := .load [] }])] }
  ((State.reset.setTile 0 y).tile 0).running.isSome = true ∧ (((State.reset.setTile 0 y).tile 0).queues.any fun q => q.2.head?.any fun j => !j.op.waits) = true) ∧
  ([0, 5, 2].all (fun n => Accepts (put [(Obj.tileState 0, n)]) hub (Obj.tileCommand 0) (.num 1) none ∧ (put [(Obj.tileState 0, n)]).num (Obj.tileState 0) = n) = true ∧ (State.reset.tile 0).testing = false) ∧
  ([5, 1].all (fun n => Accepts (put [(Obj.tileState 0, n)]) hub (Obj.tileCommand 0) (.num 2) none ∧ (put [(Obj.tileState 0, n)]).num (Obj.tileState 0) = n) = true) ∧
  (((State.reset.setTile 0 { testing := true }).tile 0).testing = true) := 
  by and_intros <;> decide +kernel

/-- States that meet the hypotheses of ScalarArithmetic. -/
theorem witness_ScalarArithmetic :
  (∀ op ∈ [0x10, 0x11, 0x12, 0x13, 0x14, 0x15, 0x16, 0x17, 0x18, 0x19, 0x1A, 0x1B, 0x1C], labOk op (coded op ({ d := 31, a := 31, b := 30, imm := 0xFFFFFFFF } : TileWord) labTile) ({ d := 31, a := 31, b := 30, imm := 0xFFFFFFFF } : TileWord) aluFields (some 0) = true) ∧
  (∀ op ∈ [0x1D], labOk op (coded op ({ d := 31, imm := 0xFFFFFFFF } : TileWord) labTile) ({ d := 31, imm := 0xFFFFFFFF } : TileWord) { d := .s, imm := immAll } (some 0) = true) ∧
  (let w : TileWord := { d := 31, a := 31, b := 30, imm := 0xFFFFFFFF }
  let y := coded 0x10 w labTile
  let k := labRun y w
  Dispatches (lab y) 0 0x10 w aluFields (some 0) k) := by (repeat' apply And.intro) <;> first | decide +kernel | exact lab_ready (by decide +kernel) | exact lab_running _ _ rfl | rfl

/-- States that meet the hypotheses of AddressAndScalarFloat. -/
theorem witness_AddressAndScalarFloat :
  (∀ op ∈ [0x20], labOk op (coded op ({} : TileWord) labTile) ({} : TileWord) { d := .a, a := .s, imm := immAll } (some 0) = true) ∧
  (∀ op ∈ [0x21], labOk op (coded op ({} : TileWord) labTile) ({} : TileWord) { d := .a, a := .a, b := .s, imm := immAll } (some 0) = true) ∧
  (∀ op ∈ [0x22], labOk op (coded op ({} : TileWord) labTile) ({} : TileWord) { d := .s, a := .a } (some 0) = true) ∧
  (let w : TileWord := { d := 1, a := 1, imm := 0xFFFFFFF8 }
  let y := coded 0x23 w { labTile with a := [(1, 0x500000)], defined := [(0x4FFFF8, 0x500000)] }
  let k := labRun y w
  Dispatches (lab y) 0 0x23 w { d := .s, a := .a, imm := immAll } (some 0) k ∧
    k.x.interlocked 0 { reads := (0x4FFFF8, 0x500000) } = false ∧ k.readFault (0x4FFFF8, 0x500000) = none) ∧
  (let w : TileWord := { imm := 0x7FFFF8 }
  let y := coded 0x24 w labTile
  let k := labRun y w
  Dispatches (lab y) 0 0x24 w { a := .a, b := .s, imm := immAll } (some 0) k ∧
    k.x.interlocked 0 { writes := (0x7FFFF8, 0x800000) } = false ∧ k.writeFault (0x7FFFF8, 0x800000) = none) ∧
  (let w : TileWord := { d := 1, imm := 0x01 }
  let y := coded 0x25 w labTile
  let k := labRun y w
  Dispatches (lab y) 0 0x25 w { d := .s, a := .s, imm := 0xFF } (some 0) k ∧
    k.context (w.imm.toNat % 256) = some (some 2)) ∧
  (∀ op ∈ [0x26, 0x27], labOk op (coded op ({} : TileWord) labTile) ({} : TileWord) { d := .s, a := .s, b := .s } (some 0) = true) ∧
  (∀ op ∈ [0x28, 0x29, 0x2A], labOk op (coded op ({} : TileWord) labTile) ({} : TileWord) { d := .s, a := .s } (some 0) = true) := by (repeat' apply And.intro) <;> first | decide +kernel | exact lab_ready (by decide +kernel) | exact lab_running _ _ rfl | rfl

/-- States that meet the hypotheses of TileControlFlow. -/
theorem witness_TileControlFlow :
  (let w : TileWord := {}
  let y := coded 0x00 w labTile
  let k := labRun y w
  Dispatches (lab y) 0 0x00 w {} none k) ∧
  (let w : TileWord := {}
  let y := coded 0x07 w labTile
  let k := labRun y w
  Dispatches (lab y) 0 0x07 w {} none k ∧
    k.x.idle = true) ∧
  (let w : TileWord := {}
  let y := coded 0x08 w labTile
  let k := labRun y w
  Dispatches (lab y) 0 0x08 w {} none k ∧
    k.x.idle = true) ∧
  (let w : TileWord := {}
  let y := coded 0x08 w { labTile with queues := [(3, [{ op := .load [] }])] }
  let k := labRun y w
  Dispatches (lab y) 0 0x08 w {} none k ∧
    k.x.idle = false) ∧
  (let w : TileWord := {}
  let y := coded 0x08 w labTile
  let k := labDryRun y w
  Dispatches (labDry y) 0 0x08 w {} none k ∧
    k.x.idle = true ∧ k.r.emitLength = 0) ∧
  (let w : TileWord := { imm := 15 }
  let y := coded 0x01 w labTile
  let k := labRun y w
  Dispatches (lab y) 0 0x01 w { imm := 0xFFFF } none k ∧
    15 < codeCount k.x.image ∧ k.x.loops = []) ∧
  (let w : TileWord := { a := 1, imm := 15 }
  let y := coded 0x02 w labTile
  let k := labRun y w
  Dispatches (lab y) 0 0x02 w { a := .s, imm := 0xFFFF } none k ∧
    k.sa = 0) ∧
  (let w : TileWord := { a := 1, imm := 15 }
  let y := coded 0x02 w { labTile with s := [(1, 3)] }
  let k := labRun y w
  Dispatches (lab y) 0 0x02 w { a := .s, imm := 0xFFFF } none k ∧
    k.sa = 3) ∧
  (let w : TileWord := { a := 1, imm := 15 }
  let y := coded 0x03 w { labTile with s := [(1, 3)] }
  let k := labRun y w
  Dispatches (lab y) 0 0x03 w { a := .s, imm := 0xFFFF } none k ∧
    k.sa = 3 ∧ 15 < codeCount k.x.image) ∧
  (let w : TileWord := { a := 1, imm := 15 }
  let y := coded 0x03 w labTile
  let k := labRun y w
  Dispatches (lab y) 0 0x03 w { a := .s, imm := 0xFFFF } none k ∧
    k.sa = 0) ∧
  (let w : TileWord := { d := 31, imm := 15 }
  let y := coded 0x04 w labTile
  let k := labRun y w
  Dispatches (lab y) 0 0x04 w { d := .s, imm := 0xFFFF } none k) ∧
  (let w : TileWord := { a := 1 }
  let y := coded 0x05 w { labTile with s := [(1, 15)] }
  let k := labRun y w
  Dispatches (lab y) 0 0x05 w { a := .s } none k ∧
    k.sa = 15 ∧ 15 < codeCount k.x.image) ∧
  (let w : TileWord := { a := 1, imm := 15 }
  let y := coded 0x06 w { labTile with s := [(1, 2 ^ 32 - 1)], loops := [(0, 9, 2), (0, 9, 2), (0, 9, 2)] }
  let k := labRun y w
  Dispatches (lab y) 0 0x06 w { a := .s, imm := 0xFFF } none k ∧
    k.sa = 2 ^ 32 - 1 ∧ 0 + 15 < codeCount k.x.image ∧ k.x.loops.length = 3) ∧
  (((lab { labTile with fenced := true }).tile 0).fenced = true ∧ ((lab { labTile with fenced := true }).tile 0).idle = true) := 
  ⟨by (repeat' apply And.intro) <;> first | decide +kernel | exact lab_ready (by decide +kernel) | exact lab_running _ _ rfl | rfl,
   by (repeat' apply And.intro) <;> first | decide +kernel | exact lab_ready (by decide +kernel) | exact lab_running _ _ rfl | rfl,
   by (repeat' apply And.intro) <;> first | decide +kernel | exact lab_ready (by decide +kernel) | exact lab_running _ _ rfl | rfl,
   by (repeat' apply And.intro) <;> first | decide +kernel | exact lab_ready (by decide +kernel) | exact lab_running _ _ rfl | rfl,
   ⟨ready_of (lab_dry_running _ _ rfl) (by decide +kernel), by decide +kernel, by decide +kernel⟩,
   by (repeat' apply And.intro) <;> first | decide +kernel | exact lab_ready (by decide +kernel) | exact lab_running _ _ rfl | rfl,
   by (repeat' apply And.intro) <;> first | decide +kernel | exact lab_ready (by decide +kernel) | exact lab_running _ _ rfl | rfl,
   by (repeat' apply And.intro) <;> first | decide +kernel | exact lab_ready (by decide +kernel) | exact lab_running _ _ rfl | rfl,
   by (repeat' apply And.intro) <;> first | decide +kernel | exact lab_ready (by decide +kernel) | exact lab_running _ _ rfl | rfl,
   by (repeat' apply And.intro) <;> first | decide +kernel | exact lab_ready (by decide +kernel) | exact lab_running _ _ rfl | rfl,
   by (repeat' apply And.intro) <;> first | decide +kernel | exact lab_ready (by decide +kernel) | exact lab_running _ _ rfl | rfl,
   by (repeat' apply And.intro) <;> first | decide +kernel | exact lab_ready (by decide +kernel) | exact lab_running _ _ rfl | rfl,
   by (repeat' apply And.intro) <;> first | decide +kernel | exact lab_ready (by decide +kernel) | exact lab_running _ _ rfl | rfl,
   by decide +kernel⟩

/-- States that meet the hypotheses of TileExceptionsFaultTheHoop. -/
theorem witness_TileExceptionsFaultTheHoop :
  (let w : TileWord := { imm := 0xFFFF }
  let y := coded 0x09 w labTile
  let k := labRun y w
  Dispatches (lab y) 0 0x09 w { imm := 0xFFFF } none k ∧
    k.x.idle = true ∧ (lab y).num (Obj.hoopState k.h) ≠ 0) ∧
  (let w : TileWord := { imm := 0xFFFF }
  let y := coded 0x09 w { labTile with queues := [(3, [{ op := .load [] }])] }
  let k := labRun y w
  Dispatches (lab y) 0 0x09 w { imm := 0xFFFF } none k ∧
    k.x.idle = false) ∧
  (let w : TileWord := {}
  let y : TileData := { labTile with fenced := true }
  let k := labRun y w
  (lab y).running 0 w = some k ∧ k.x.fenced = true) ∧
  (let w : TileWord := {}
  let y : TileData := coded 0x37 w { labTile with queues := [(3, List.replicate 16 { op := .load [] })] }
  let k := labRun y w
  (lab y).running 0 w = some k ∧ 16 ≤ (k.x.queue 3).length ∧ k.codeWord = tileWord 0x37 w ∧ listedOpcode (wordOpcode k.codeWord) = true ∧ k.x.pc < codeCount k.x.image) ∧
  (let w : TileWord := {}
  let y : TileData := { labTile with pc := 16 }
  let k := labRun y w
  (lab y).running 0 w = some k ∧ codeCount k.x.image ≤ k.x.pc ∧ k.x.idle = true ∧ (lab y).num (Obj.hoopState k.h) ≠ 0) ∧
  (let w : TileWord := {}
  let y : TileData := coded 0xFF w labTile
  let k := labRun y w
  (lab y).running 0 w = some k ∧ listedOpcode (wordOpcode k.codeWord) = false ∧ k.x.pc < codeCount k.x.image ∧ k.x.idle = true) ∧
  (let w : TileWord := { d := 1 }
  let y : TileData := coded 0x00 w labTile
  let k := labRun y w
  (lab y).running 0 w = some k ∧ k.codeWord = tileWord 0x00 w ∧ ({} : Fields).ok w = false ∧ k.codeWord ≠ tileWord 0x10 w) ∧
  (let w : TileWord := { d := 5, a := 0 }
  let y : TileData := coded 0x22 w { labTile with queues := [(0, [{ op := .swait 0 1 }, { op := .held, target := 5 }])] }
  let k := labRun y w
  (lab y).running 0 w = some k ∧ k.codeWord = tileWord 0x22 w ∧ k.x.awaits (({ a := .s } : Fields).sources 0x20 { a := 5 }) = true) ∧
  ((State.reset.running 0 {}).isNone = true) ∧
  (let w : TileWord := {}
  let y : TileData := { labTile with withheld := true, queues := [(2, [{ op := .swait 0 1 }, { op := .swait 0 1 }])] }
  let k := labRun y w
  (lab y).running 0 w = some k ∧ k.x.stuck = true ∧ k.x.paced = true ∧ (∀ q ∈ k.x.queues, ∀ j ∈ q.2, j.op.outside = false) ∧ (labRun labTile {}).x.stuck = false) := by (repeat' apply And.intro) <;> first | decide +kernel | exact lab_ready (by decide +kernel) | exact lab_running _ _ rfl | rfl

/-- States that meet the hypotheses of TileDmaAndLanding. -/
theorem witness_TileDmaAndLanding :
  (({ labRun labTile {} with r := { (labRun labTile {}).r with elementCount := 1 } } : Running).slotsIn 0 1 = false) ∧
  (let p : LoadPiece := ⟨0, 0, 0, 64, 0, []⟩
  let k := labRun labTile {}
  (lab labTile).foreignPlan 0 p.buffer p.parity p.off p.len = none ∧ (lab labTile).badIn ((lab labTile).planExtents 0 0 0 0 64) = [] ∧
    (labIn torn labBase.pools labTile).badIn ((labIn torn labBase.pools labTile).planExtents 0 0 0 0 64) = [0] ∧ k.inputPieces p = [] ∧
    ((labIn {} others labTile).foreignPlan 0 p.buffer p.parity p.off p.len).isSome = true ∧ (lab labTile).num (Obj.hoopState 0) = 2) ∧
  (let s := (lab { labTile with queues := [(3, [{ op := .out 0 0 1 }])] }).setNum (Obj.shadowState 0) 2
  ((s.running 0 {}).any fun k => k.x.queue 3 == [{ op := .out 0 0 1 }] && !k.x.ending && s.shadowSilent k.h) = true) ∧
  (let y : TileData := { labTile with queues := [(3, [{ op := .transfer 0 0 0 1 }])] }
  ((labRun y {}).deliver (lab y) 0 0 [1]).isSome = true) := 
  by and_intros <;> decide +kernel

/-- States that meet the hypotheses of TileDmaAndLanding. -/
theorem witness_TileDmaAndLanding_by_hand :
  (let w : TileWord := { c := 1 }
  let y := coded 0x30 w { labTile with s := [(1, 64)] }
  let k := labRun y w
  Dispatches (lab y) 0 0x30 w { a := .a, b := .a, c := .s, imm := dmaImm } (some 3) k ∧
    k.par ≠ 3 ∧ k.sc = 64 ∧ (k.regionCheck [(0, 64)] false).toOption = some 0 ∧ k.x.interlocked 3 { writes := hull [(0, 64)] } = false ∧ k.writeFault (0, 64) = none) ∧
  (let w : TileWord := { c := 1, imm := 0x21 }
  let y := coded 0x31 w { labTile with s := [(1, 64)], defined := [(0, 64)] }
  let k := labRun y w
  Dispatches (lab y) 0 0x31 w { a := .a, b := .a, c := .s, imm := dmaImm } (some 3) k ∧
    (k.regionCheck [(0, 64)] true).toOption = some 1 ∧ k.x.interlocked 3 { reads := hull [(0, 64)] } = false ∧ k.readFault (0, 64) = none) ∧
  (let w : TileWord := { b := 1, c := 1 }
  let y := coded 0x32 w { labTile with s := [(1, 2)], a := [(1, 4096)], defined := [(4096, 4104)] }
  let k := labRun y w
  Dispatches (lab y) 0 0x32 w { a := .a, b := .a, c := .s, imm := gatherImm } (some 3) k ∧
    k.par ≠ 3 ∧ k.ta = 0 ∧ k.tb = 4096 ∧ k.sc = 2 ∧ k.x.interlocked 3 { reads := hull [(4096, 4104)], writes := hull [(0, 128)] } = false ∧ k.x.queue 3 = [] ∧
    k.readFault (4096, 4104) = none ∧ k.writeFault (0, 128) = none ∧ (k.regionCheck [(0, 64), (0, 64)] false).toOption = some 0) ∧
  (let w : TileWord := { c := 1 }
  let y := coded 0x33 w { labTile with s := [(1, 4096)], defined := [(0, 4096)] }
  let k := labRun y w
  Dispatches (lab y) 0 0x33 w { a := .a, b := .s, c := .s } (some 3) k ∧
    k.sc = 4096 ∧ dDestinationOffset k.o.desc + k.sb + 4096 ≤ k.targetLength ∧ k.x.interlocked 3 { reads := hull [(0, 4096)] } = false ∧ k.readFault (0, 4096) = none) ∧
  (let w : TileWord := { d := 1, c := 2 }
  let y := coded 0x34 w { labTile with s := [(1, 1), (2, 64)], defined := [(0, 64)] }
  let k := labRun y w
  Dispatches (lab y) 0 0x34 w { d := .s, a := .a, b := .s, c := .s } (some 3) k ∧
    k.c.index < k.sd ∧ k.sd < entryChunks k.e ∧ k.sb + k.sc ≤ exchangeSize k.x.image ∧ k.x.interlocked 3 { reads := hull [(0, 64)] } = false ∧ k.readFault (0, 64) = none ∧
    k.sc = 64 ∧ k.transferred k.sd k.sb 64 = false) ∧
  (let w : TileWord := { a := 1 }
  let y := coded 0x35 w { labTile with s := [(1, 64)] }
  let k := labRun y w
  Dispatches (lab y) 0 0x35 w { a := .s } (some 3) k ∧
    k.sa ≤ exchangeSize k.x.image ∧ k.exchangeArrived k.sa = false ∧ (labRun labTile {}).exchangeArrived 0 = true ∧
    k.x.interlocked 3 { writes := (exchangeBase k.x.image, exchangeBase k.x.image + k.sa) } = false) ∧
  (let w : TileWord := { b := 1 }
  let y := coded 0x36 w { labTile with s := [(1, 2)] }
  let k := labRun y w
  Dispatches (lab y) 0 0x36 w { a := .s, b := .s } (some 3) k ∧
    k.sa + k.sb ≤ k.contributors ∧ k.contributors = 2 ∧ k.slotsIn 0 2 = true ∧ k.x.queue 3 = [] ∧ k.x.interlocked 3 { writes := hull (k.slotRanges k.sa k.sb) } = false) ∧
  (let w : TileWord := {}
  let y := coded 0x37 w labTile
  let k := labRun y w
  Dispatches (lab y) 0 0x37 w {} (some 3) k ∧
    k.x.queue 3 = [] ∧ k.x.zone k.c.zone = some k.c.key) ∧
  (let w : TileWord := {}
  let y := coded 0x37 w { labTile with queues := [(3, [{ op := .load [] }])] }
  let k := labRun y w
  Dispatches (lab y) 0 0x37 w {} (some 3) k ∧
    k.x.queue 3 ≠ []) ∧
  (let y (j : TileOp) : TileData := { labTile with queues := [(3, [{ op := j }])] }
  let ready (j : TileOp) := (lab (y j)).running 0 {} = some (labRun (y j) {}) ∧ (labRun (y j) {}).x.queue 3 = { op := j } :: []
  ready (.load [⟨0, 0, 0, 64, 0, []⟩]) ∧ ready (.store 1 0 0 0 64 false) ∧ ready (.claim 0 1) ∧ ready (.exchange 64) ∧ ready (.transfer 1 0 0 64) ∧ OwnPlan (lab labTile) 0) := 
  ⟨by (repeat' apply And.intro) <;> first | decide +kernel | exact lab_ready (by decide +kernel) | exact lab_running _ _ rfl | rfl,
   by (repeat' apply And.intro) <;> first | decide +kernel | exact lab_ready (by decide +kernel) | exact lab_running _ _ rfl | rfl,
   by (repeat' apply And.intro) <;> first | decide +kernel | exact lab_ready (by decide +kernel) | exact lab_running _ _ rfl | rfl,
   by (repeat' apply And.intro) <;> first | decide +kernel | exact lab_ready (by decide +kernel) | exact lab_running _ _ rfl | rfl,
   by (repeat' apply And.intro) <;> first | decide +kernel | exact lab_ready (by decide +kernel) | exact lab_running _ _ rfl | rfl,
   by (repeat' apply And.intro) <;> first | decide +kernel | exact lab_ready (by decide +kernel) | exact lab_running _ _ rfl | rfl,
   by (repeat' apply And.intro) <;> first | decide +kernel | exact lab_ready (by decide +kernel) | exact lab_running _ _ rfl | rfl,
   by (repeat' apply And.intro) <;> first | decide +kernel | exact lab_ready (by decide +kernel) | exact lab_running _ _ rfl | rfl,
   by (repeat' apply And.intro) <;> first | decide +kernel | exact lab_ready (by decide +kernel) | exact lab_running _ _ rfl | rfl,
   ⟨⟨lab_running _ _ rfl, rfl⟩, ⟨lab_running _ _ rfl, rfl⟩, ⟨lab_running _ _ rfl, rfl⟩, ⟨lab_running _ _ rfl, rfl⟩, ⟨lab_running _ _ rfl, rfl⟩, by decide +kernel⟩⟩

/-- States that meet the hypotheses of MeshAndAccumulators. -/
theorem witness_MeshAndAccumulators :
  (let w : TileWord := { b := 1, imm := 0x02000001 }
  let y := coded 0x40 w { labTile with s := [(1, 256)], defined := [(0, 128 * 256)] }
  let k := labRun y w
  Dispatches (lab y) 0 0x40 w { a := .a, b := .s, imm := 0x0F000011 } (some 1) k ∧
    meshFormat (immBits w 27 24) = true ∧ k.sb = 256 ∧ operandBytes 2 ≤ 256 ∧
    k.x.interlocked 1 { reads := hull (rowSpans k.ta 256 128 (operandBytes 2)) } = false ∧ k.accessFault (rowSpans k.ta 256 128 (operandBytes 2)) [] = none) ∧
  (let w : TileWord := { b := 1, c := 2, imm := 0xFFB }
  let y := coded 0x41 w { labTile with s := [(1, 256), (2, 1)], defined := [(0, 256)], slots := [(1, some ⟨2, []⟩)] }
  let k := labRun y w
  Dispatches (lab y) 0 0x41 w { a := .a, b := .s, c := .s, imm := 0xFFF } (some 1) k ∧
    immBits w 11 3 + k.sc = 512 ∧ 0 < k.sc ∧ immBit w 2 = false ∧
    Map.get none k.x.slots (immBits w 0 0) = some ⟨2, []⟩ ∧ k.sb % 8 = 0 ∧ operandBytes 2 ≤ k.sb ∧
    k.x.interlocked 1 { reads := hull (rowSpans k.ta k.sb k.sc (operandBytes 2)) } = false ∧ k.accessFault (rowSpans k.ta k.sb k.sc (operandBytes 2)) [] = none) ∧
  (let w : TileWord := { b := 1, c := 2, imm := 0x3FE }
  let y := coded 0x42 w { labTile with s := [(1, 512), (2, 1)], accum := [(accumKey 0 511, List.replicate 128 0)] }
  let k := labRun y w
  Dispatches (lab y) 0 0x42 w { a := .a, b := .s, c := .s, imm := 0x1FFF } (some 1) k ∧
    immBits w 11 10 = 0 ∧ immBits w 9 1 + k.sc = 512 ∧ 0 < k.sc ∧ k.sb = 512 ∧ k.ta % 8 = 0 ∧
    (Map.get [] k.x.accum (accumKey (immBits w 0 0) (immBits w 9 1 + 0))).length = 128 ∧
    k.x.interlocked 1 { writes := hull (rowSpans k.ta k.sb k.sc 512) } = false ∧ k.accessFault [] (rowSpans k.ta k.sb k.sc 512) = none) := by (repeat' apply And.intro) <;> first | decide +kernel | exact lab_ready (by decide +kernel) | exact lab_running _ _ rfl | rfl

/-- States that meet the hypotheses of VectorIntegerLanes. -/
theorem witness_VectorIntegerLanes :
  (∀ op ∈ [0x60, 0x61, 0x62, 0x63, 0x64, 0x5B], labOk op (coded op ({ d := 63, a := 63, b := 63 } : TileWord) labTile) ({ d := 63, a := 63, b := 63 } : TileWord) { d := .v, a := .v, b := .v } (some 2) = true) ∧
  (∀ op ∈ [0x5C], labOk op (coded op ({ c := 63 } : TileWord) labTile) ({ c := 63 } : TileWord) { d := .v, a := .v, b := .v, c := .v } (some 2) = true) ∧
  (∀ op ∈ [0x65, 0x66], labOk op (coded op ({ imm := 0x1F } : TileWord) labTile) ({ imm := 0x1F } : TileWord) { d := .v, a := .v, imm := 0x1F } (some 2) = true) ∧
  (∀ op ∈ [0x58, 0x59], labOk op (coded op ({} : TileWord) labTile) ({} : TileWord) { d := .v, a := .v } (some 2) = true) ∧
  (∀ op ∈ [0x5D], labOk op (coded op ({ a := 31 } : TileWord) labTile) ({ a := 31 } : TileWord) { d := .v, a := .s } (some 2) = true) ∧
  (∀ op ∈ [0x5E], labOk op (coded op ({} : TileWord) labTile) ({} : TileWord) { d := .v } (some 2) = true) ∧
  (∀ op ∈ [0x67], labOk op (coded op ({ imm := 0x1FF } : TileWord) labTile) ({ imm := 0x1FF } : TileWord) { d := .s, a := .v, imm := 0x1FF } (some 2) = true) := 
  by and_intros <;> decide +kernel

/-- States that meet the hypotheses of VectorFloatLanes. -/
theorem witness_VectorFloatLanes :
  (∀ op ∈ [0x52, 0x53, 0x54, 0x56, 0x57], labOk op (coded op ({ d := 1 } : TileWord) labTile) ({ d := 1 } : TileWord) { d := .v, a := .v, b := .v } (some 2) = true) ∧
  (∀ op ∈ [0x55, 0x83], labOk op (coded op ({ c := 1 } : TileWord) labTile) ({ c := 1 } : TileWord) { d := .v, a := .v, b := .v, c := .v } (some 2) = true) ∧
  (∀ op ∈ [0x5A], labOk op (coded op ({ b := 31 } : TileWord) labTile) ({ b := 31 } : TileWord) { d := .v, a := .v, b := .s } (some 2) = true) ∧
  (∀ op ∈ [0x74, 0x75, 0x80, 0x81, 0x91, 0x92], labOk op (coded op ({} : TileWord) labTile) ({} : TileWord) { d := .v, a := .v } (some 2) = true) ∧
  (∀ op ∈ [0x68, 0x69, 0x84], labOk op (coded op ({ d := 31 } : TileWord) labTile) ({ d := 31 } : TileWord) { d := .s, a := .v } (some 2) = true) ∧
  (∀ op ∈ [0x6A], labOk op (coded op ({} : TileWord) labTile) ({} : TileWord) { d := .s, a := .v, b := .v } (some 2) = true) ∧
  (∀ op ∈ [0x82], labOk op (coded op ({} : TileWord) labTile) ({} : TileWord) { a := .s, b := .s, c := .s } (some 2) = true) ∧
  (let w : TileWord := { a := 1 }
  let y := coded 0x90 w { labTile with s := [(1, 2 ^ 32 - 128)] }
  let k := labRun y w
  Dispatches (lab y) 0 0x90 w { d := .v, a := .s } (some 2) k ∧
    k.sa + 127 < 2 ^ 32) := by (repeat' apply And.intro) <;> first | decide +kernel | exact lab_ready (by decide +kernel) | exact lab_running _ _ rfl | rfl

/-- States that meet the hypotheses of VectorLoadsAndStores. -/
theorem witness_VectorLoadsAndStores :
  (let w : TileWord := { a := 1, imm := 0x80000000 }
  let y := coded 0x50 w { labTile with a := [(1, 2 ^ 23 - 2048)], defined := [(2 ^ 23 - 2048, 2 ^ 23)] }
  let k := labRun y w
  Dispatches (lab y) 0 0x50 w { d := .v, a := .a, imm := vectorImm } (some 2) k ∧
    k.ea = 2 ^ 23 - 2048 ∧ k.x.interlocked 2 { reads := hull [(k.ea, k.ea + 2048)] } = false ∧ k.accessFault [(k.ea, k.ea + 2048)] [] = none) ∧
  (let w : TileWord := { a := 1, imm := 0x80000000 }
  let y := coded 0x51 w { labTile with a := [(1, 2 ^ 23 - 2048)], defined := [(2 ^ 23 - 2048, 2 ^ 23)] }
  let k := labRun y w
  Dispatches (lab y) 0 0x51 w { a := .a, b := .v, imm := vectorImm } (some 2) k ∧
    k.ea = 2 ^ 23 - 2048 ∧ k.x.interlocked 2 { writes := hull [(k.ea, k.ea + 2048)] } = false ∧ k.accessFault [] [(k.ea, k.ea + 2048)] = none) ∧
  (let w : TileWord := { imm := 0x02000000 }
  let y := coded 0x70 w { labTile with defined := [(0, 1024)] }
  let k := labRun y w
  Dispatches (lab y) 0 0x70 w { d := .v, a := .a, imm := convertImm } (some 2) k ∧
    k.ea = 0 ∧ k.narrowFormat.any (fun f => f.width == 16) = true ∧ k.x.interlocked 2 { reads := hull [(0, 1024)] } = false ∧ k.accessFault [(0, 1024)] [] = none) ∧
  (let w : TileWord := { imm := 0x02000000 }
  let y := coded 0x71 w labTile
  let k := labRun y w
  Dispatches (lab y) 0 0x71 w { a := .a, b := .v, imm := convertImm } (some 2) k ∧
    k.ea = 0 ∧ k.narrowFormat.any (fun f => f.width == 16) = true ∧ k.x.interlocked 2 { writes := hull [(0, 1024)] } = false ∧ k.accessFault [] [(0, 1024)] = none) ∧
  (let w : TileWord := { a := 1, imm := 0x05000000 }
  let y := coded 0x72 w { labTile with a := [(1, 4096)] }
  let k := labRun y w
  Dispatches (lab y) 0 0x72 w { a := .a, b := .v, c := .a, imm := mxImm } (some 2) k ∧
    k.mxFault 5 = none ∧ k.x.interlocked 2 { writes := hull (k.mxSpans 5) } = false ∧ k.accessFault [] (k.mxSpans 5) = none ∧
    (quantiseBlock 5 (k.vb.take 32)).1 < 256 ∧ k.mxPlaces 5 ≠ [] ∧ k.tc + 16 ≤ k.ea) ∧
  (let w : TileWord := { a := 1, imm := 0x05000000 }
  let y := coded 0x73 w { labTile with a := [(1, 4096)], defined := [(0, 8192)] }
  let k := labRun y w
  Dispatches (lab y) 0 0x73 w { d := .v, a := .a, c := .a, imm := mxImm } (some 2) k ∧
    k.mxFault 5 = none ∧ k.x.interlocked 2 { reads := hull (k.mxSpans 5) } = false ∧ k.accessFault (k.mxSpans 5) [] = none) := by (repeat' apply And.intro) <;> first | decide +kernel | exact lab_ready (by decide +kernel) | exact lab_running _ _ rfl | rfl

/-- States that meet the hypotheses of SemaphoresMailboxesAndLine. -/
theorem witness_SemaphoresMailboxesAndLine :
  (let w : TileWord := { imm := 0x00FFFFF4 }
  let y := coded 0xA0 w { labTile with semaphores := [(15, 65535)] }
  let k := labRun y w
  Dispatches (lab y) 0 0xA0 w { imm := semaphoreImm } none k ∧
    immBits w 2 0 = 4 ∧ immBits w 23 8 = 65535 ∧ k.x.queue 4 = [] ∧ Map.get 0 k.x.semaphores (immBits w 7 4) = 65535) ∧
  (let w : TileWord := { imm := 0x00FFFFF4 }
  let y := coded 0xA0 w labTile
  let k := labRun y w
  Dispatches (lab y) 0 0xA0 w { imm := semaphoreImm } none k ∧
    Map.get 0 k.x.semaphores (immBits w 7 4) < immBits w 23 8) ∧
  (let w : TileWord := { imm := 0x00FFFFF4 }
  let y := coded 0xA1 w labTile
  let k := labRun y w
  Dispatches (lab y) 0 0xA1 w { imm := semaphoreImm } none k ∧
    Map.get 0 k.x.semaphores (immBits w 7 4) + 65535 ≤ 65535 ∧ k.x.queue 4 = []) ∧
  (let w : TileWord := { imm := 0x00000103 }
  let y := coded 0xA1 w { labTile with queues := [(3, [{ op := .load [] }])] }
  let k := labRun y w
  Dispatches (lab y) 0 0xA1 w { imm := semaphoreImm } none k ∧
    k.x.queue (immBits w 2 0) ≠ []) ∧
  (let w : TileWord := {}
  let y : TileData := { labTile with queues := [(4, [{ op := .swait 15 65535 }])], semaphores := [(15, 65535)] }
  let k := labRun y w
  (lab y).running 0 w = some k ∧ k.x.queue 4 = [{ op := .swait 15 65535 }] ∧ Map.get 0 k.x.semaphores 15 = 65535 ∧ Map.get 0 (labRun labTile {}).x.semaphores 15 < 65535) ∧
  (let w : TileWord := {}
  let y := coded 0xA2 w labTile
  let k := labRun y w
  Dispatches (lab y) 0 0xA2 w { a := .s, imm := 0x3F } (some 0) k ∧
    bitAt (mailboxMask k.x.image) 0 = true ∧ k.x.idle = true ∧ (lab y).mailboxFull 0 = false ∧ (put [(Obj.mailboxState 0, 1)]).mailboxFull 0 = true) ∧
  (let w : TileWord := {}
  let y : TileData := { labTile with queues := [(0, [{ op := .post 63 7, number := 1 }]), (3, [{ op := .load [], number := 2 }])] }
  let k := labRun y w
  (lab y).running 0 w = some k ∧ k.x.queue 0 = [{ op := .post 63 7, number := 1 }] ∧ (k.x.queues.any fun q => q.2.any fun i => decide (i.number < 1)) = false ∧ (lab y).mailboxFull 63 = false) ∧
  (let w : TileWord := { a := 1, b := 1, c := 2 }
  let y := coded 0xB0 w { labTile with s := [(1, 1), (2, 64)], a := [(1, 2 ^ 23 - 64)] }
  let k := labRun y w
  Dispatches (lab y) 0 0xB0 w { a := .s, b := .a, c := .s } (some 4) k ∧
    k.sa < k.peers.length ∧ k.peers.length = 2 ∧ Map.get none k.x.arms k.sa = none ∧ k.sc = k.r.emitLength ∧
    k.tb + k.sc = storeBytes ∧ meetAny [(k.tb, k.tb + k.sc)] k.special = false ∧ (lab y).memory.bad = [] ∧ k.x.interlocked 4 { writes := (k.tb, k.tb + k.sc) } = false ∧
    OwnBuffers (lab y) k.h ((lab y).stream k.c.group k.c.seq (streamIndex k.r k.c.index) (k.peers.getD k.sa 0)).buffers) ∧
  (let w : TileWord := { c := 2, imm := 1 }
  let y := coded 0xB1 w { labTile with s := [(2, 64)], defined := [(0, 64)] }
  let k := labRun y w
  Dispatches (lab y) 0 0xB1 w { a := .a, b := .s, c := .s, imm := 1 } (some 4) k ∧
    k.sb + k.sc = k.r.emitLength ∧ k.sc = 64 ∧ k.x.emits = [] ∧ k.x.queue 4 = [] ∧
    k.x.interlocked 4 { reads := hull [(k.ta, k.ta + k.sc)] } = false ∧ k.x.interlocked 4 { writes := (0, 0) } = false ∧ k.readFault (k.ta, k.ta + k.sc) = none ∧ k.silent k.sb k.sc = false) ∧
  (let w : TileWord := {}
  let y : TileData := { labTile with queues := [(4, [{ op := .emit 3 }])] }
  let k := labRun y w
  (lab y).running 0 w = some k ∧ k.x.queue 4 = [{ op := .emit 3 }] ∧ ((lab y).line.wales.any fun w => w.2.tx.queue.any fun r => r.ticket == some ⟨0, 3⟩) = false) ∧
  (let w : TileWord := {}
  let y := coded 0xB2 w { labTile with arms := [(0, some 0)] }
  let k := labRun y w
  Dispatches (lab y) 0 0xB2 w { a := .s } (some 4) k ∧
    (Map.get none k.x.arms 0).isSome = true ∧ k.siteComplete 0 = false ∧ k.x.interlocked 4 { writes := (k.armed 0).getD (0, 0) } = false ∧
    (labRun { y with ownSlot := [(0, 64)] } {}).siteComplete (labRun y {}).ownPosition = true) ∧
  (let w : TileWord := {}
  let y : TileData := { labTile with queues := [(4, [{ op := .siteWait 1 }])] }
  let k := labRun y w
  (lab y).running 0 w = some k ∧ k.x.queue 4 = [{ op := .siteWait 1 }] ∧ k.siteComplete 1 = false) := by (repeat' apply And.intro) <;> first | decide +kernel | exact lab_ready (by decide +kernel) | exact lab_running _ _ rfl | rfl

/-- Hoop 0 runs an image or plan command. -/
def jobbing (isPlan : Bool) (e : ImageEffect) : State := State.reset.with0 { job := some ⟨isPlan, 0, 0, e⟩ }

/-- States that meet the hypotheses of ImagesAndPlansLoad. -/
theorem witness_ImagesAndPlansLoad :
  (let p : Bytes := fields 5 [(0, 4, 8388607)]
  Accepts (hoopIn 1 []) hub (Obj.imageStageWrite 0) (.blob p) none ∧ ((hoopIn 1 []).hoop 0).job = none ∧ 5 ≤ p.length ∧ field p 0 4 + (p.length - 4) = 8388608) ∧
  ([1, 2, 3, 4].all (fun n => Accepts (hoopIn 1 []) hub (Obj.imageCommand 0) (.num n) none) = true ∧ ((hoopIn 1 []).hoop 0).job = none ∧ (hoopIn 1 []).slotPending 0 0 = []) ∧
  (let s := (hoopIn 1 [(Obj.slotActivateStep 0, 1)]).with0 { pendings := [(0, [1])] }
  Accepts s hub (Obj.imageCommand 0) (.num 3) none ∧ (s.hoop 0).job = none ∧ s.slotPending 0 0 ≠ [] ∧ s.num (Obj.outerStepCounter 0) < s.num (Obj.slotActivateStep 0)) ∧
  (Accepts labBase hub (Obj.imageCommand 0) (.num 4) none ∧ (labBase.hoop 0).job = none ∧ labBase.slotNamed 0 0 = true ∧ labBase.num (Obj.hoopState 0) = 2 ∧ State.reset.slotNamed 0 0 = false) ∧
  ([1, 2].all (fun n => Accepts (hoopIn 1 []) hub (Obj.planCommand 0) (.num n) none) = true ∧ (hoopIn 1 []).num (Obj.hoopState 0) = 1 ∧ ((hoopIn 1 []).hoop 0).bound = false ∧ labBase.num (Obj.hoopState 0) ≠ 1 ∧
    Accepts labBase hub (Obj.planCommand 0) (.num 2) none) ∧
  (Accepts (jobbing false .nothing) hub (Obj.imageCommand 0) (.num 1) none ∧ Accepts (jobbing true .unload) hub (Obj.planCommand 0) (.num 1) none ∧ ((jobbing false .nothing).hoop 0).job.isSome = true) ∧
  (((jobbing false (.current 15 [1])).hoop 0).job = some ⟨false, 0, 0, .current 15 [1]⟩ ∧ ((jobbing false (.pending 0 [1] 7)).hoop 0).job = some ⟨false, 0, 0, .pending 0 [1] 7⟩ ∧
    ((jobbing false (.cancel 0)).hoop 0).job = some ⟨false, 0, 0, .cancel 0⟩ ∧ ((jobbing false (.clear 0)).hoop 0).job = some ⟨false, 0, 0, .clear 0⟩) ∧
  (((jobbing true (.plan [1])).hoop 0).job = some ⟨true, 0, 0, .plan [1]⟩ ∧ ((jobbing true .unload).hoop 0).job = some ⟨true, 0, 0, .unload⟩) ∧
  (State.reset.slotDue 0 15 = false ∧ (State.reset.with0 { pendings := [(0, [1])] }).slotDue 0 0 = true) := 
  by and_intros <;> decide +kernel

/-- States that meet the hypotheses of ScrubAndMapOut. -/
theorem witness_ScrubAndMapOut :
  (State.reset.num (Obj.channelState 639) = 0 ∧ State.reset.migrating 7 = [] ∧ State.reset.manyUncorrectable 639 = false ∧ (State.reset.channel 639).passUncorrectable = 0 ∧
    (State.reset.channel 639).times = [] ∧ (State.reset.channel 639).position < channelLines ∧ decodeWord 639 0 [1] = none) ∧
  (let word := List.replicate 64 0x5A ++ checkBytes 639 0 (List.replicate 64 0x5A)
  decodeWord 639 0 word = some (word, []) ∧ decodeWord 639 0 (0xFF :: word.drop 1) = some (word, [0]) ∧
    (State.reset.dataLine 639 0).any State.reset.memory.bad.contains = false) ∧
  (let s := State.reset.setChannel 0 { position := channelLines }
  s.num (Obj.channelState 0) = 0 ∧ s.migrating 0 = [] ∧ channelLines ≤ (s.channel 0).position ∧ s.manyUncorrectable 0 = false) ∧
  ((put [(Obj.channelState 0, 1)]).num (Obj.channelState 0) ≠ 0) ∧
  (State.reset.num (Obj.channelCorrectedPass 0) < State.reset.num Obj.mapOutCorrectedThreshold ∧ (State.reset.channel 0).pins = []) ∧
  (State.reset.channelLive 0 = true ∧ (put [(Obj.channelState 0, 2)]).channelLive 0 = false) ∧
  (Accepts State.reset hub (Obj.channelCommand 639) (.num 1) none ∧ State.reset.num (Obj.channelState 639) = 0 ∧
    (State.reset.migrating 7).contains 639 = false ∧ State.reset.memory.bad = [] ∧ 64 < (State.reset.liveChannels 7).length - (State.reset.migrating 7).length) ∧
  (Accepts (put [(Obj.channelState 0, 2)]) hub (Obj.channelCommand 0) (.num 1) none ∧ (put [(Obj.channelState 0, 2)]).num (Obj.channelState 0) ≠ 0) ∧
  (let s : State := { State.reset with memory := { migrations := [(7, [639, 560])] } }
  s.migrating 7 = 639 :: [560] ∧ ([560] : List Nat).contains 639 = false ∧ s.memory.bad = []) ∧
  (let s := State.reset.set Obj.mappedOutChannels (.blob (1 :: List.replicate 79 0))
  Accepts s hub (Obj.channelCommand 0) (.num 2) none ∧ (List.finRange 16).all (fun h => s.num (Obj.hoopState h) == 0) = true ∧ bitAt (leNat (s.bytes Obj.mappedOutChannels)) 0 = true) ∧
  (Accepts State.reset hub (Obj.channelCommand 0) (.num 2) none ∧ bitAt (leNat (State.reset.bytes Obj.mappedOutChannels)) 0 = false) := 
  by and_intros <;> decide +kernel

/-- States that meet the hypotheses of PoolsGrantAndFree. -/
theorem witness_PoolsGrantAndFree :
  (classFor 2097152 = some 3 ∧ classFor 1 = some 0) ∧
  (((hoopIn 1 [(Obj.hoopFrameLimit 0, 8)]).poolRequest 0 0 none 0).isSome = true) ∧
  ((State.reset.poolRequest 0 0 none 0).isNone = true ∧ (State.reset.poolRequest 0 1 none 3).isNone = true ∧ (State.reset.poolRequest 0 3 none 3).isNone = true) ∧
  ((State.reset.frameOfLogical (bits (2 ^ 64 - 1) 31 12)).isNone = true) ∧
  ((labBase.frameOfLogical 0).isSome = true ∧ labBase.num (Obj.hoopState 0) ≠ 0) ∧
  (let s := { labBase with pools := { frames := [(0, some { hoop := 0, cls := 3, place := 0, logical := 0, used := [(0, some { owner := 0 })] })] } }
  (s.frameOfLogical (bits (handleOf 3 0 0) 31 12)).any (fun c => c.2.hoop == 0 && c.2.cls == bits (handleOf 3 0 0) 33 32 && (Map.get none c.2.used (handleOf 3 0 0 % 2 ^ 12)).isSome) = true) ∧
  ((State.reset.nextWaiting 15 3).isNone = true) ∧
  (let s : State := { State.reset with pools := { waiting := [⟨0, 0, none, 0, .plain⟩] } }
  s.nextWaiting 0 0 = some ⟨0, 0, none, 0, .plain⟩ ∧ (s.grant 0 0 none 0).isNone = true ∧ ((s.setNum (Obj.hoopFrameLimit 0) 8).grant 0 0 none 0).isSome = true) ∧
  (Accepts State.reset hub (minimumKey 15 1 3) (.num 0) none ∧ Accepts State.reset hub (minimumKey 15 3 3) (.num (2 ^ 32 - 1)) none ∧ State.reset.num (Obj.hoopState 15) = 0) ∧
  (let s := (hoopIn 1 [(Obj.groupState 0, 1)]).setGroup 0 { bufferKib := 128, members := [1] }
  Accepts s hub (minimumKey 0 2 2) (.num 0) none ∧ s.num (Obj.hoopState 0) ≠ 0 ∧ 0 < s.reserveSum 0) ∧
  (Accepts (hoopIn 1 []) hub (minimumKey 0 0 0) (.num 0) none ∧ ((((hoopIn 1 []).touch (minimumKey 0 0 0)).setP (minimumKey 0 0 0) (.num 0)).settleBacking 0).poolsFit 0 = true) ∧
  (Accepts (hoopIn 1 []) hub (minimumKey 0 0 0) (.num 1) none ∧ ((((hoopIn 1 []).touch (minimumKey 0 0 0)).setP (minimumKey 0 0 0) (.num 1)).settleBacking 0).poolsFit 0 = false) := 
  by and_intros <;> decide +kernel

/-- States that meet the hypotheses of PortsTrainAndFail. -/
theorem witness_PortsTrainAndFail :
  (Accepts State.reset hub (Obj.macCommand 7) (.num 1) none) ∧
  (let s := put [(Obj.portState 15, 2)]
  s.num (Obj.portState 15) = 2 ∧ (s.port 15).mode = 0 ∧ State.reset.num (Obj.portState 15) ≠ 2) ∧
  ((State.reset.portOfLane 63).isNone = true) ∧
  (let s := (put [(Obj.portState 0, 3)]).setPort 0 { width := 8, mode := 1 }
  s.portOfLane 0 = some 0 ∧ (s.port 0).width = 8 ∧ s.trainRate 0 = 400 ∧ (∀ j ∈ halfLanes 0 1, ¬ (j = 0 ∨ s.num (Obj.laneState j) = 3)) ∧ 0 ∈ halfLanes 0 0 ∧ (s.port 0).half ≠ some 1) ∧
  (let s := (put [(Obj.portState 0, 3), (Obj.laneState 7, 3)]).setPort 0 { width := 8, mode := 1 }
  s.portOfLane 0 = some 0 ∧ (s.port 0).width = 8 ∧ s.trainRate 0 = 400 ∧ 0 ∈ halfLanes 0 0 ∧ 7 ∈ halfLanes 0 1 ∧ s.num (Obj.laneState 7) = 3) ∧
  (let s := (put [(Obj.portState 1, 3)]).setPort 0 { width := 4, mode := 2 }
  s.portUp 1 = true ∧ State.reset.portUp 1 = false ∧ (s.port 1).width ≠ 8) ∧
  (let s := ((put [(Obj.qpState 0, 3)]).setQp 0 { bound := true, port := 15 })
  s.portUp 15 = false ∧ (s.fabric.qps.any fun c => c.2.bound && c.2.port == 15 && s.num (Obj.qpState c.1) == 3) = true) ∧
  (let s := ((put [(Obj.portState 0, 3)]).setPort 0 { width := 4, mode := 2 })
  s.portOfLane 0 = some 0 ∧ ¬ ((s.port 0).width = 8 ∧ s.trainRate 0 = 400)) ∧
  ((State.reset.frameImplemented 0 (List.replicate 64 0)).1 = false ∧
    State.reset.frameImplemented 0 (List.replicate 12 0 ++ [0x88, 0x08, 1, 1] ++ List.replicate 48 0) = (true, false)) ∧
  (let s := (put [(Obj.portVlan 0, 0xFFFF)]).set (Obj.portAddress 0) (.blob (List.replicate 16 0))
  s.frameImplemented 0 (List.replicate 12 0 ++ [0x86, 0xDD] ++ List.replicate 6 0 ++ [17] ++ List.replicate 35 0 ++ [18, 183] ++ List.replicate 20 0) = (true, true) ∧ s.bytes (Obj.portAddress 0) ≠ []) ∧
  (State.reset.bytes (Obj.portAddress 15) = []) ∧
  (let s := (State.reset.setQp 5 { bound := true, port := 3 }).set (Obj.qpRemoteAddress 5) (.blob (List.replicate 16 1))
  (s.fabric.qps.any fun c => c.2.bound && c.2.port == 3 && s.bytes (Obj.qpRemoteAddress c.1) == List.replicate 16 1) = true) := 
  by and_intros <;> decide +kernel

/-- The far end of queue pair 0. -/
def origin : PacketOrigin := ⟨0, 0x10000, [7], 2⟩

/-- A packet of it with a PSN, an opcode, an address, a key and a length. -/
def packet (psn : BitVec 24) (opcode : BitVec 8) (key length : BitVec 32) (data : Bytes) : RdmaPacket :=
  ⟨origin, psn, opcode, 0, key, length, data, false, false, false⟩

/-- Hoop 0 with queue pair 0 in RTS to that end, a resolved next hop, and window 0 over buffer 0. -/
def qpLab : State :=
  let s := ((labBase.setQp 0 { bound := true }).setNum (Obj.qpState 0) 3).setNum (Obj.windowState 0) 2
  let s := (s.setNum (Obj.windowAccess 0) 3).setNum (Obj.windowLength 0) 4096
  let s := (s.set (Obj.portAddress 0) (.blob [1])).set (Obj.qpRemoteAddress 0) (.blob [7])
  (s.setNum (Obj.qpRemoteQpn 0) 2).setPort 0 { neighbours := [([7], [9])] }

/-- States that meet the hypotheses of ResponderChecksAndPlaces. -/
theorem witness_ResponderChecksAndPlaces :
  (State.reset.packetQp origin = none ∧ implementedOpcode 0x04 = false ∧ implementedOpcode 0x0A = true ∧ State.reset.bytes (Obj.portAddress 0) = [] ∧
    (qpLab.packetQp { origin with sourceQpn := 3 }).isNone = true ∧ qpLab.bytes (Obj.portAddress 0) ≠ []) ∧
  (qpLab.packetQp (packet 0 0x04 0 0 []).toPacketOrigin = some 0 ∧ (packet 0 0x04 0 0 []).ce = false ∧ qpLab.resolved 0 = true) ∧
  ((qpLab.setNum (Obj.qpPsns 0) (5 * 2 ^ 32)).packetQp origin = some 0 ∧ (qpLab.setNum (Obj.qpPsns 0) (5 * 2 ^ 32)).expectedPsn 0 = 5 ∧ (5 + 2 ^ 24 - 4) % 2 ^ 24 ≤ 2 ^ 23) ∧
  (qpLab.expectedPsn 0 = 0 ∧ 2 ^ 23 < (0 + 2 ^ 24 - 1) % 2 ^ 24 ∧ (0 + 2 ^ 24 - 2 ^ 23) % 2 ^ 24 ≤ 2 ^ 23 ∧ (qpLab.qp 0).nakOpen = false ∧
    ((qpLab.setQp 0 { bound := true, nakOpen := true }).qp 0).nakOpen = true) ∧
  ((qpLab.windowCheck 0 0 0xFFFFFFFF 64 false).isNone = true ∧ (qpLab.windowCheck 0 0 0xFFFFFFFF 64 true).isNone = true) ∧
  (qpLab.windowCheck 0 4032 (qpLab.windowKey 0) 64 false = some 0 ∧ qpLab.windowCheck 0 4032 (qpLab.windowKey 0) 64 true = some 0 ∧ qpLab.num (Obj.windowState 0) = 2 ∧ qpLab.num (Obj.windowGroup 0) = 0xFFFF ∧
    qpLab.memory.bad = [] ∧ OwnPlan qpLab (qpLab.num (Obj.windowHoop 0))) := 
  by and_intros <;> decide +kernel

/-- States that meet the hypotheses of RequesterRetriesAndRates. -/
theorem witness_RequesterRetriesAndRates :
  (State.reset.packetQp origin = none ∧ State.reset.num (Obj.qpState 16383) ≠ 3) ∧
  (let s := qpLab.setNum (Obj.qpState 0) 2
  s.packetQp origin = some 0 ∧ s.num (Obj.qpState 0) ≠ 3) ∧
  (qpLab.packetQp origin = some 0 ∧ qpLab.num (Obj.qpState 0) = 3 ∧ psnReached (qpLab.sendPsn 0 + 2 ^ 24 - 1) 0 = false ∧
    psnReached (qpLab.sendPsn 0 + 2 ^ 24 - 1) (2 ^ 24 - 1) = true ∧ (qpLab.qp 0).sent = []) ∧
  (let s := qpLab.setQp 0 { bound := true, sent := [⟨0, 0, 0, 0, 0, [], false, true, none⟩] }
  s.packetQp origin = some 0 ∧ ((s.freeUpTo 0 (2 ^ 24 - 1)).qp 0).retries + 1 < s.num (Obj.qpTimers 0) / 2 ^ 8 % 8 ∧
    s.num (Obj.qpTimers 0) / 2 ^ 16 % 8 = 7 ∧ (s.qp 0).sent ≠ [] ∧ (s.qp 0).retries + 1 < s.num (Obj.qpTimers 0) / 2 ^ 8 % 8) ∧
  (let s := (qpLab.setQp 0 { bound := true, retries := 6, rnrRetries := 1, held := true, unacked := 1, sent := [⟨0, 0, 0, 0, 0, [], false, true, none⟩] }).setNum (Obj.qpTimers 0) 0x10700
  s.num (Obj.qpTimers 0) / 2 ^ 8 % 8 ≤ ((s.freeUpTo 0 (2 ^ 24 - 1)).qp 0).retries + 1 ∧ s.num (Obj.qpTimers 0) / 2 ^ 16 % 8 < ((s.freeUpTo 0 (2 ^ 24 - 1)).qp 0).rnrRetries + 1 ∧
    (s.qp 0).held = true ∧ (s.qp 0).unacked ≠ 0 ∧ (qpLab.qp 0).held = false ∧ (qpLab.qp 0).unacked = 0 ∧ s.resolved 0 = true) := 
  by and_intros <;> decide +kernel

/-- States that meet the hypotheses of QueuePairsWindowsAndTargets. -/
theorem witness_QueuePairsWindowsAndTargets :
  (let s := hoopIn 1 [(Obj.qpHoop 16383, 0), (Obj.qpPort 16383, 15)]
  Accepts s hub (Obj.qpCommand 16383) (.num 1) none ∧ s.num (Obj.qpState 16383) = 0 ∧ s.num (Obj.qpPort 16383) / 8 = 16383 / 8192 ∧ s.num (Obj.hoopState 0) ≠ 0 ∧ s.num (Obj.hoopQpsInUse 0) < s.num (Obj.hoopQpLimit 0)) ∧
  (Accepts State.reset hub (Obj.qpCommand 0) (.num 1) none ∧ State.reset.num (Obj.qpState 0) = 0 ∧ State.reset.num (Obj.hoopState (State.reset.num (Obj.qpHoop 0))) = 0) ∧
  (let s := (put [(Obj.qpState 0, 1), (Obj.qpRemoteQpn 0, 2)]).set (Obj.qpRemoteAddress 0) (.blob (List.replicate 16 0))
  Accepts s hub (Obj.qpCommand 0) (.num 2) none ∧ s.num (Obj.qpState 0) = 1 ∧ 2 ≤ s.num (Obj.qpRemoteQpn 0) % 2 ^ 24 ∧ (s.bytes (Obj.qpRemoteAddress 0)).length = 16) ∧
  ([1, 2, 3, 4, 5].all (fun n => Accepts (put [(Obj.qpState 0, 2)]) hub (Obj.qpCommand 0) (.num n) none) = true ∧ (put [(Obj.qpState 0, 2)]).num (Obj.qpState 0) = 2) ∧
  (Accepts (put [(Obj.qpState 0, 1)]) hub (Obj.qpCommand 0) (.num 2) none ∧ (put [(Obj.qpState 0, 1)]).num (Obj.qpRemoteQpn 0) % 2 ^ 24 < 2) ∧
  (let s := hoopIn 1 []
  [1, 2, 3].all (fun n => Accepts s hub (Obj.windowCommand 0) (.num n) none) = true ∧ s.num (Obj.windowHoop 0) = 0 ∧ s.num (Obj.hoopState 0) ≠ 0 ∧ s.bindingOk 0 0 = true ∧ s.num (Obj.windowState 0) = 0 ∧ (s.hoop 0).bound = false) ∧
  (Accepts labBase hub (Obj.windowCommand 16383) (.num 2) none ∧ (labBase.hoop 0).bound = true ∧ labBase.num (Obj.windowBuffer 16383) < bufferCount (labBase.hoop 0).plan ∧
    labBase.num (Obj.windowBufferOffset 16383) + labBase.num (Obj.windowLength 16383) ≤ (planBuffer (labBase.hoop 0).plan 0).length ∧ labBase.bindingOk 16383 0 = true) ∧
  ([1, 2, 3].all (fun n => Accepts (put [(Obj.windowState 0, n)]) hub (Obj.windowCommand 0) (.num 3) none ∧ (put [(Obj.windowState 0, n)]).num (Obj.windowState 0) = n) = true ∧ State.reset.windowNamed 0 = false ∧ labBase.windowNamed 0 = true) ∧
  ([3, 10].all (fun n => Accepts State.reset hub (packedField 0x6100 16383 n) (.num 0) none) = true ∧ State.reset.num (Obj.windowState 16383) = 0 ∧ qpLab.num (Obj.windowState 0) ≠ 0 ∧
    Accepts qpLab hub (packedField 0x6100 0 3) (.num 0) none) ∧
  ([0, 3].all (fun n => Accepts State.reset hub (packedField 0x6900 (targetIndex 15 1023) n) (.num 0) none) = true ∧ State.reset.targetNamed 15 1023 = false ∧ labBase.targetNamed 0 0 = true ∧
    Accepts labBase hub (packedField 0x6900 (targetIndex 0 0) 0) (.num 0) none) := 
  by and_intros <;> decide +kernel

/-- States that meet the hypotheses of FramesAndDefects. -/
theorem witness_FramesAndDefects :
  (let s := (put [(Obj.waleState 0, 1), (Obj.waleLanes 0, 1), (Obj.lineLaneWale 0, 0)]).setLane 0 { tx := { enabled := true } }
  s.num (Obj.waleState 0) ≠ 0 ∧ (s.lane 0).tx.enabled = true ∧ s.waleOf 0 = some 0 ∧ 0 ∈ s.waleLanes 0 ∧ (s.lane 31).tx.enabled = false) ∧
  (let s := State.reset.setLane 31 { tx := { enabled := true } }
  (s.lane 31).tx.enabled = true ∧ s.waleOf 31 = none ∧ (List.finRange 32).all (fun w => s.num (Obj.waleState w) == 0) = true) ∧
  ((fas ++ List.replicate 10 0).take 6 = fas ∧ (put [(Obj.lineFecLocked 31, 1)]).flag (Obj.lineFecLocked 31) = true ∧ State.reset.hasDefect 31 .los = false ∧ (put [(Obj.lineLaneDefects 31, 2 ^ Defect.bit .los)]).hasDefect 31 .los = true) ∧
  ([0, 1, 2, 3].all (fun n => (put [(Obj.lineLaneAlignState 0, n)]).num (Obj.lineLaneAlignState 0) = n ∧ (put [(Obj.lineLaneAlignState 0, n)]).hasDefect 0 .los = false) = true ∧
    4 ≤ ((State.reset.setLane 0 { rx := { errored := 4 } }).lane 0).rx.errored) ∧
  (let s := (put [(Obj.lineLaneDefects 0, 2 ^ Defect.bit .oof), (Obj.lineLaneAlignState 0, 3), (Obj.lineLaneMode 0, 1), (Obj.lineLaneWale 0, 31)])
  s.hasDefect 0 .oof = true ∧ (s.lane 0).rx.losState = 0 ∧ s.waleOf 0 = some 31 ∧ s.num (Obj.lineLaneAlignState 0) = 3 ∧ s.hasDefect 0 .los = false ∧ s.hasDefect 0 .lof = false) ∧
  (let s := State.reset.setLane 0 { rx := { losState := 1 } }
  (s.lane 0).rx.losState = 1 ∧ (State.reset.lane 0).rx.losState ≠ 1) ∧
  (let s := (put [(Obj.lineLaneAlignState 0, 3)]).setLane 0 { rx := { losState := 2 } }
  (s.lane 0).rx.losState = 2 ∧ s.num (Obj.lineLaneAlignState 0) = 3) ∧
  ((put [(Obj.lineLaneDefects 0, 2 ^ Defect.bit .skew)]).hasDefect 0 .skew = true ∧ State.reset.hasDefect 0 .skew = false) := 
  by and_intros <;> decide +kernel

theorem nodeIdentity_lt : nodeIdentity < 2 ^ 64 := by
  have h := leNat_lt ((sha3Bytes (asciiBytes "kc4810-node" ++ identityKey)).take 8)
  have hl : ((sha3Bytes (asciiBytes "kc4810-node" ++ identityKey)).take 8).length ≤ 8 := List.length_take_le ..
  exact h.trans_le ((Nat.pow_le_pow_right (by decide : 0 < 256) hl).trans (by decide))

/-- Wale 0 Up with an Established session 0, and further objects set. -/
def up0 (l : List (Nat × Nat)) : State :=
  put ([(Obj.waleState 0, 3), (Obj.lineSession0State 0, 3), (Obj.repeatState 0, 1), (Obj.fabricAddress, 0x1001)] ++ l)

/-- Wale 0 with other data. -/
def State.withWale (s : State) (v : WaleState) : State := s.setWale 0 v

/-- A segment's header (R256): VC, flags, session, epoch, counter, length, and fields that are 0. -/
def header (flags session epoch counter length : Nat) : Bytes :=
  beBytes 1 (64 + flags) ++ beBytes 1 epoch ++ beBytes 1 session ++ [0] ++ beBytes 8 counter ++ beBytes 2 length ++ List.replicate 18 0

/-- States that meet the hypotheses of FramesAndDefects. -/
theorem witness_FramesAndDefects_losClear :
  let s := (put [(Obj.moduleState, 2), (Obj.lineLaneEnd 0, 1)]).setLane 0 { rx := { losState := 1 } }
  (s.lane 0).rx.losState = 1 ∧ s.hasOscillator 0 = true := by decide +kernel

/-- States that meet the hypotheses of WalesAndMembership. -/
theorem witness_WalesAndMembership :
  (let s := put [(Obj.waleLanes 31, 2 ^ 31 + 1), (Obj.waleIdentity 31, 1), (Obj.fabricAddress, 1), (Obj.lineLaneEnd 0, 1), (Obj.lineLaneEnd 31, 1)]
  Accepts s hub (Obj.waleCommand 31) (.num 1) none ∧ s.num (Obj.waleState 31) = 0 ∧ s.waleLanes 31 = [0, 31] ∧ (s.waleLanes 31).any (fun j => (s.waleOf j).isSome || s.shareHeld j) = false ∧
    s.breaksR234 (s.waleLanes 31) = false ∧ s.num (Obj.waleIdentity 31) ≠ 0 ∧ s.num Obj.fabricAddress ≠ 0) ∧
  ([1, 2, 3, 4].all (fun n => Accepts State.reset hub (Obj.waleCommand 0) (.num n) none) = true ∧ State.reset.num (Obj.waleState 0) = 0 ∧ State.reset.breaksR234 (State.reset.waleLanes 0) = true) ∧
  (Accepts (up0 []) hub (Obj.waleCommand 0) (.num 1) none ∧ (up0 []).num (Obj.waleState 0) ≠ 0) ∧
  (let s := up0 [(Obj.waleLanes 0, 1), (Obj.lineLaneEnd 0, 1), (Obj.lineLaneEnd 31, 1), (Obj.waleCommandLane 0, 31), (Obj.lineLaneWale 0, 0)]
  Accepts s hub (Obj.waleCommand 0) (.num 2) none ∧ s.waleOf 31 = none ∧ s.shareHeld 31 = false ∧ s.breaksR234 (31 :: s.waleLanes 0) = false) ∧
  (let s := up0 [(Obj.waleLanes 0, 1), (Obj.lineLaneWale 0, 0)]
  Accepts s hub (Obj.waleCommand 0) (.num 2) none ∧ Accepts s hub (Obj.waleCommand 0) (.num 3) none ∧ Accepts s hub (Obj.waleCommand 0) (.num 4) none ∧ (s.waleOf 0).isSome = true ∧
    bitAt (s.num (Obj.waleLanes 0)) 0 = true ∧ s.num (Obj.waleTxMap 0) ≠ 2 ^ s.memberIndex 0 0 ∧ (s.setNum (Obj.waleTxMap 0) 1).num (Obj.waleTxMap 0) = 2 ^ s.memberIndex 0 0) ∧
  (State.reset.waleOf 31 = none) ∧
  (let s := (up0 [(Obj.waleLanes 0, 1), (Obj.lineLaneWale 0, 0)]).setLane 0 { rx := { counted := List.replicate 15 0 ++ [1] ++ List.replicate 8 0 }, tx := { enabled := true } }
  s.waleOf 0 = some 0 ∧ s.mayJoin 0 0 = true ∧ (up0 [(Obj.waleLanes 0, 1), (Obj.lineLaneWale 0, 0)]).mayJoin 0 0 = false) ∧
  (let s := (up0 [(Obj.waleLanes 0, 3), (Obj.lineLaneWale 0, 0), (Obj.lineLaneWale 1, 0), (Obj.waleTxMap 0, 3), (Obj.waleRejoinHold 0, 0)]).withWale { tx := { planA := some 0, protection := true } }
  s.waleOf 1 = some 0 ∧ (s.wale 0).tx.protection = true ∧ (s.restorable 0).head? = some 1 ∧ (s.setNum (Obj.waleRejoinHold 0) 1).restorable 0 = []) ∧
  (let s := (up0 [(Obj.waleLanes 0, 3), (Obj.waleTxMap 0, 3)]).withWale { tx := { planA := some 0, protection := true, restore := some 1 } }
  s.num (Obj.waleState 0) ≠ 0 ∧ (s.wale 0).tx.leaving = [] ∧ (s.wale 0).tx.restore = some 1 ∧ (s.wale 0).tx.planA ≠ none ∧ (s.wale 0).tx.planB = none ∧ (s.wale 0).tx.planA ≠ some 1) ∧
  (let s := (up0 [(Obj.waleLanes 0, 1), (Obj.waleTxMap 0, 1)]).withWale { tx := { leaving := [0] } }
  (s.wale 0).tx.leaving = [0] ∧ 0 ∈ s.mapLanes 0) ∧
  (let s := (up0 [(Obj.waleLanes 0, 1)]).withWale { tx := { unreturned := [31] } }
  31 ∈ (s.wale 0).tx.unreturned ∧ s.num (Obj.repeatTxBytes 0) ≤ (s.waleLanes 0).length * s.num Obj.repeatLaneShareBytes) := 
  by and_intros <;> decide +kernel

/-- States that meet the hypotheses of FecAndRepeat. -/
theorem witness_FecAndRepeat :
  ((put [(Obj.lineFecLocked 31, 1)]).flag (Obj.lineFecLocked 31) = true ∧ State.reset.flag (Obj.lineFecLocked 31) = false ∧ State.reset.flag Obj.opticsEvictOnFecDegrade = false) ∧
  (let s := State.reset.setLane 0 { degradedSeconds := 9, goodSeconds := 9 }
  9 ≤ (s.lane 0).degradedSeconds ∧ (s.lane 0).degraded = false ∧ s.num (Obj.lineFecDegradeThreshold 0) < 8000001 ∧ 9 ≤ (s.lane 0).goodSeconds) ∧
  (let s := (up0 []).withWale { rx := { requests := [(0, 1)] } }
  s.established 0 = true ∧ (s.wale 0).rx.requests ≠ [] ∧ (s.wale 0).rx.lastExtraSack = none ∧ s.num (Obj.repeatState 0) = 1 ∧ State.reset.established 0 = false) ∧
  ([1, 2, 3].all (fun n => (put [(Obj.repeatState 0, n)]).num (Obj.repeatState 0) = n) = true ∧ State.reset.num (Obj.repeatState 0) = 0 ∧ (put [(Obj.repeatState 0, 1)]).memory.bad = []) ∧
  ((readSack (List.replicate 24 0)).isSome = true ∧ (readSack []).isNone = true ∧ (readSack (List.replicate 20 0 ++ [32, 32, 0, 0] ++ List.replicate 512 0)).isSome = true) := 
  by and_intros <;> decide +kernel

/-- States that meet the hypotheses of SegmentsAreCheckedAndDelivered. -/
theorem witness_SegmentsAreCheckedAndDelivered :
  ((State.reset.wale 31).rx.delineated = [] ∧ (State.reset.wale 31).rx.breakMarks = [] ∧ validHeader (header 0 0 0 0 1) = true ∧ validHeader (header 5 0 0 0 1) = false ∧ headerLink (header 0 0 0 0 1) = false) ∧
  (headerSession (header 0 32 1 7 1) = 32 ∧ (State.reset.session 0 32).state = 0 ∧ State.reset.isDuplicate 0 7 = false ∧ validHeader (header 2 32 1 7 1) = true ∧ State.reset.beyondReceive 0 7 = false) ∧
  (headerEpoch (header 0 0 1 0 1) = 1 ∧ Map.get [] (State.reset.session 0 0).rxKeys 1 = []) ∧
  (let s := (up0 []).withWale { sessions := [(0, { state := 2, rxKeys := [(1, [7])] })] }
  Map.get [] (s.session 0 0).rxKeys (headerEpoch (header 3 0 1 0 1)) ≠ [] ∧ ¬ (0 = 0 ∧ headerEpoch (header 3 0 1 0 1) = 0 ∧ s.established 0 = true) ∧ s.isDuplicate 0 0 = false ∧
    seqDist (s.num (Obj.repeatRxCumulative 0)) (2 ^ 20 - 1) < 2 ^ 20 ∧ (s.wale 0).rx.accepted = [] ∧ headerDestination (header 3 0 1 0 1) = 0 ∧ headerVc (header 3 0 1 0 1) = 3 ∧
    (s.setNum (Obj.repeatRxCumulative 0) 1).isDuplicate 0 0 = true) ∧
  (let s := ((up0 []).set (Obj.fenceList 0) (.blob [0, 0])).withWale { sessions := [(1, { state := 2, hoop := 0, rxKeys := [(1, [7])] })] }
  (s.session 0 1).hoop < 16 ∧ s.fencedIn (s.session 0 1).hoop (headerOrigin (header 2 1 1 0 1)) = true ∧ s.net.notices = []) ∧
  (headerVc (header 0 0 1 0 1) = 0 ∧ ((up0 []).wale 0).rx.held0 = [] ∧ ((up0 []).wale 0).rx.held4 = [] ∧ beNat (slice (header 0 0 1 0 1) 16 4) = ((up0 []).wale 0).rx.next0) := 
  by and_intros <;> decide +kernel

/-- States that meet the hypotheses of ModuleSessionIsEstablished. -/
theorem witness_ModuleSessionIsEstablished :
  (State.reset.established 31 = false ∧ (up0 []).established 0 = true ∧ ((up0 []).wale 0).handshake.strays.length < 15) ∧
  (let s := put [(Obj.lineSession0State 31, 2)]
  s.num (Obj.lineSession0State 31) = 2 ∧ s.established 31 = false ∧ (List.replicate 6195 (0 : Byte)).length = 6195 ∧ (List.replicate 4208 (0 : Byte)).length = 4208) ∧
  (let p : Bytes := List.replicate 64 0
  let s := (put [(Obj.lineSession0State 0, 2)]).withWale { handshake := { finishedSent := true, th := p } }
  s.num (Obj.lineSession0State 0) = 2 ∧ (s.wale 0).handshake.finishedSent = true ∧ p.length = 64 ∧ p = (s.wale 0).handshake.th ∧ List.replicate 64 1 ≠ (s.wale 0).handshake.th) ∧
  (let s := put [(Obj.lineSession0State 0, 4), (Obj.waleState 0, 1), (Obj.fabricAddress, 1)]
  s.num (Obj.lineSession0State 0) = 4 ∧ s.num (Obj.waleState 0) ≠ 0 ∧ s.num Obj.fabricAddress ≠ 0 ∧ (s.wale 0).handshake.peerHello = []) := 
  by and_intros <;> decide +kernel

/-- States that meet the hypotheses of HoopSessionsOpenAndRekey. -/
theorem witness_HoopSessionsOpenAndRekey :
  (let p : Bytes := List.replicate 1632 0
  let s := ((up0 [(Obj.hoopState 0, 1)]).set (Obj.planHash 0) (.blob (p.take 64)))
  p.length = 1632 ∧ s.established 0 = true ∧ s.ownOffer 0 (p.take 64) = none ∧ (s.session 0 32).state = 0 ∧ s.hoopOfPlan (p.take 64) = some 0 ∧ s.fencedIn 0 0 = false ∧ s.net.conflicts = [] ∧
    s.clearEnabled 0 = false ∧ (up0 []).hoopOfPlan (p.take 64) = none ∧ (up0 []).flag Obj.lineTransitEnable = false) ∧
  (let p : Bytes := List.replicate 1632 0
  let s := (up0 []).withWale { sessions := [(32, { state := 1, planHash := p.take 64 })] }
  (s.session 0 32).state = 1 ∧ p.length = 1632 ∧ p.take 64 = (s.session 0 32).planHash) ∧
  (let s := (up0 []).withWale { sessions := [(0, { state := 2, txEpoch := 1, rxNew := 1 }), (1, { state := 2, phase := 2 }), (2, { state := 2, phase := 1, txEpoch := 255, rxOld := 5 })] }
  (s.session 0 0).state = 2 ∧ (s.session 0 0).phase = 0 ∧ (s.session 0 0).rxOld = 0 ∧ nextEpoch (s.session 0 0).rxNew < 256 ∧ (s.session 0 1).phase = 2 ∧ (s.session 0 2).phase = 1 ∧ nextEpoch (s.session 0 2).txEpoch < 256 ∧
    (s.session 0 2).rxOld = 5) ∧
  (let s := (up0 [(Obj.hoopState 15, 4), (Obj.lineSessionCommandArg 0, 15 * 256)]).set (Obj.planHash 15) (.blob [1])
  [1, 2, 3].all (fun n => Accepts s hub (Obj.lineSessionCommand 0) (.num n) none) = true ∧ s.num (Obj.lineSessionCommandArg 0) / 256 = 15 ∧ s.num (Obj.hoopState 15) = 4 ∧ s.bytes (Obj.planHash 15) ≠ [] ∧ s.established 0 = true ∧
    (s.session 0 1).state = 0) ∧
  (let s := (up0 [(Obj.lineSessionCommandArg 0, 32)]).withWale { sessions := [(32, { state := 2 })] }
  Accepts s hub (Obj.lineSessionCommand 0) (.num 2) none ∧ Accepts s hub (Obj.lineSessionCommand 0) (.num 3) none ∧ (s.session 0 32).state = 2 ∧ (s.session 0 32).phase = 0) ∧
  (Accepts (up0 [(Obj.lineSessionCommandArg 0, 33)]) hub (Obj.lineSessionCommand 0) (.num 2) none ∧ Accepts (up0 [(Obj.lineSessionCommandArg 0, 16 * 256)]) hub (Obj.lineSessionCommand 0) (.num 1) none) := 
  by and_intros <;> decide +kernel

/-- States that meet the hypotheses of HoopSessionsOpenAndRekey. -/
theorem witness_HoopSessionsOpenAndRekey_by_hand :
  let p : Bytes := List.replicate 1632 0
  let s := (up0 []).withWale { sessions := [(1, { state := 1, planHash := p.take 64 })], handshake := { peerNode := 2 ^ 64 } }
  (s.ownOffer 0 (p.take 64)).isSome = true ∧ s.isLow 0 = true ∧ (s.session 0 1).state ≠ 0 := ⟨by decide +kernel, decide_eq_true (nodeIdentity_lt.trans_le (by decide +kernel)), by decide +kernel⟩

/-- States that meet the hypotheses of ClearModeNeedsBothEnables. -/
theorem witness_ClearModeNeedsBothEnables :
  ((hoopIn 1 []).serves hub = true ∧ (hoopIn 1 []).clearWritable 0 = true ∧ State.reset.clearWritable 0 = false) ∧
  (Accepts (hoopIn 4 []) hub (Obj.lineHoopClearEnableB 0) (.num 0x5AFEC1E0) none ∧ (hoopIn 4 []).clearWritable 0 = true) ∧
  (Accepts State.reset hub (Obj.lineHoopClearEnableB 15) (.num 0x5AFEC1EF) none ∧ State.reset.clearWritable 15 = false) := 
  by and_intros <;> decide +kernel

/-- A request of hoop 0's queue. -/
def emitted (vc : Nat) : EmitRequest := { owner := 0, vc := vc, session := 0, origin := 0, destination := 0, tail := List.replicate 16 0, payload := [1], entered := 0 }

/-- A segment held for resending. -/
def heldOn (vc : Nat) : HeldSegment := ⟨7, vc, 0, 1, header vc 0 1 7 1, [1], [], 0, 0, false⟩

/-- States that meet the hypotheses of SegmentsAreSelectedAndSampled. -/
theorem witness_SegmentsAreSelectedAndSampled :
  (State.reset.num (Obj.repeatState 31) = 0) ∧
  (let s := (up0 []).withWale { tx := { links := [(1, [2])] } }
  s.num (Obj.repeatState 0) = 1 ∧ s.established 0 = true ∧ s.num (Obj.waleState 0) ≠ 4 ∧ (s.wale 0).tx.links = [(1, [2])] ∧ (s.session 0 0).sent < 2 ^ 32) ∧
  (((up0 []).selectFixed 0 0).isNone = true ∧ ((up0 []).selectFixed 0 1).isNone = true ∧ ((up0 []).selectFixed 0 4).isNone = true ∧ ((up0 []).wale 0).tx.links = []) ∧
  (let s := (up0 []).withWale { tx := { outstanding := [heldOn 4], resend := [7] } }
  s.resendHead 0 4 = some (heldOn 4) ∧ (s.selectFixed 0 0).isNone = true ∧ (s.selectFixed 0 1).isNone = true) ∧
  (let s := (up0 [(Obj.repeatShareBytes 0, 2 ^ 30)]).withWale { tx := { queue := [emitted 1] }, sessions := [(0, { state := 2, txEpoch := 1, txKeys := [(1, [7])] })] }
  (s.resendHead 0 1).isNone = true ∧ (s.selectFixed 0 0).isNone = true ∧ (s.pickOwner 0 1).isSome = true ∧ s.windowRoom 0 1 1 = true ∧ (s.setNum (Obj.repeatShareBytes 0) 0).windowRoom 0 1 1 = false) ∧
  ((up0 []).num (Obj.repeatState 0) ≠ 0 ∧ ((up0 []).wale 0).tx.turn = 2 ∧ ((up0 []).wale 0).tx.queue = [] ∧ ((up0 []).wale 0).tx.resend = [] ∧ (up0 []).quantum 0 3 < 2 ^ 32) ∧
  (let s := (up0 [(Obj.waleDeficits 0, 2 ^ 47)]).withWale { tx := { visiting := true, outstanding := [heldOn 2], resend := [7] } }
  (s.pickBulk 0 2).any (fun p => s.streamCharge 0 p.bytes ≤ s.deficit 0 2) = true ∧ s.resendHead 0 2 = some (heldOn 2)) ∧
  (let s := (up0 [(Obj.waleDeficits 0, 2 ^ 47), (Obj.repeatShareBytes 0, 2 ^ 30)]).withWale { tx := { visiting := true, queue := [emitted 2] }, sessions := [(0, { state := 2, txEpoch := 1, txKeys := [(1, [7])] })] }
  (s.pickBulk 0 2).any (fun p => s.streamCharge 0 p.bytes ≤ s.deficit 0 2) = true ∧ (s.resendHead 0 2).isNone = true ∧ s.windowRoom 0 2 1 = true) ∧
  (Accepts State.reset hub (linearKey 0x9040 4 15) (.num 0) none ∧ Accepts State.reset hub (linearKey 0x9040 8 15) (.num 1) none ∧ (State.reset.set (linearKey 0x9040 8 15) (.num 16432)).meterSound 15 = true) ∧
  (let s := put [(Obj.hoopPolicerEnable 0, 1)]
  Accepts s hub (Obj.hoopCbs 0) (.num 16431) none ∧ (s.set (Obj.hoopCbs 0) (.num 16431)).flag (Obj.hoopPolicerEnable 0) = true ∧ (s.set (Obj.hoopCbs 0) (.num 16431)).meterSound 0 = false) ∧
  ((put [(Obj.schedSampleState, 1)]).num Obj.schedSampleState = 1 ∧ State.reset.num Obj.schedSampleState ≠ 1 ∧ (List.finRange 32).all (fun v => ((up0 []).num (Obj.waleState v) != 0) == (v == 0)) = true) ∧
  ([1, 2, 3].all (fun n => Accepts State.reset hub Obj.schedSampleCommand (.num n) none) = true) := 
  by and_intros <;> decide +kernel

/-- States that meet the hypotheses of LanesTakeTheirEnds. -/
theorem witness_LanesTakeTheirEnds :
  ([0, 4].all (fun n => Accepts State.reset hub (Obj.pairSetting 15) (.num n) none) = true) ∧
  (Accepts State.reset hub (Obj.lineLaneMode 31) (.num 2) none ∧ State.reset.inWale 31 = false ∧ ¬ State.reset.num (Obj.lineLaneResolution 31) < 6 - min 2 2 ∧
    Accepts (put [(Obj.lineLaneWale 31, 0)]) hub (Obj.lineLaneMode 31) (.num 0) none ∧ (put [(Obj.lineLaneWale 31, 0)]).inWale 31 = true) ∧
  (Accepts (put [(Obj.lineLaneResolution 0, 4), (Obj.lineLaneMode 0, 2)]) hub (Obj.lineLaneMode 0) (.num 1) none ∧ (put [(Obj.lineLaneResolution 0, 4)]).num (Obj.lineLaneResolution 0) < 6 - min 2 1) ∧
  (Accepts State.reset hub (Obj.lineLaneResolution 0) (.num 6) none ∧ Accepts State.reset hub (Obj.lineLaneResolution 0) (.num 5) none ∧ 5 < 6 - min 2 (State.reset.num (Obj.lineLaneMode 0)) ∧ ¬ 6 < 6 - min 2 (State.reset.num (Obj.lineLaneMode 0))) ∧
  (Accepts State.reset hub (Obj.lineLaneFrequency 31) (.num (State.reset.num (Obj.lineLaneFrequency 31))) none ∧ State.reset.inWale 31 = false) ∧
  (let s := (put [(Obj.lineLaneDefects 0, 2 ^ Defect.bit .los), (Obj.lineLaneEnd 0, 1)]).setOptic 0 { tuning := true }
  (s.optic 0).tuning = true ∧ (State.reset.optic 31).tuning = false ∧ s.hasDefect 0 .los = true ∧ (s.optic 0).apr = false ∧ s.num (Obj.lineLaneEnd 0) = 1 ∧ s.optics.tripped = [] ∧ State.reset.hasDefect 0 .los = false ∧
    (put [(Obj.lineLaneEnd 0, 2)]).num (Obj.lineLaneEnd 0) ≠ 1) ∧
  (let s := put [(Obj.ipPortsPresent 15, 0x0F)]
  [1, 2].all (fun n => Accepts s hub (Obj.ipCommand 15) (.num n) none) = true ∧ bitAt (s.num (Obj.ipPortsPresent 15)) (s.num (Obj.ipTxSelect 15)) = true ∧ bitAt (s.num (Obj.ipPortsPresent 15)) (s.num (Obj.ipRxSelect 15)) = true ∧
    (s.ipLane 15).any s.inWale = false ∧ s.swapping 15 = false) ∧
  (Accepts State.reset hub (Obj.ipCommand 0) (.num 1) none ∧ bitAt (State.reset.num (Obj.ipPortsPresent 0)) (State.reset.num (Obj.ipTxSelect 0)) = false ∧ State.reset.optics.tripped = []) ∧
  (let s := put [(Obj.lineLaneEnd 0, 1), (Obj.lineLaneWale 0, 3)]
  Accepts s hub (Obj.ipCommand 0) (.num 1) none ∧ (s.ipLane 0).any s.inWale = true) ∧
  (0 ∈ ({ State.reset with optics := { tripped := [0] } } : State).optics.tripped ∧ Accepts { State.reset with optics := { tripped := [0] } } hub (Obj.ipCommand 0) (.num 2) none) := 
  by and_intros <;> decide +kernel

/-- States that meet the hypotheses of LasersAgeAndAreSwapped. -/
theorem witness_LasersAgeAndAreSwapped :
  ([1, 2].all (fun n => Accepts State.reset hub (Obj.laserCommand 19) (.num n) none) = true ∧ State.reset.servedBy 19 = none ∧ State.reset.num (Obj.laserState 19) ≠ 5 ∧ (State.reset.laser 19).swapFor = none) ∧
  (let s := put [(Obj.ipLaser 0, 0), (Obj.laserState 0, 1)]
  [1, 2].all (fun n => Accepts s hub (Obj.laserCommand 0) (.num n) none) = true ∧ s.servedBy 0 ≠ none ∧ s.num (Obj.laserState 0) ≠ 5) ∧
  (let s := put [(Obj.laserState 0, 5)]
  Accepts s hub (Obj.laserCommand 0) (.num 2) none ∧ s.num (Obj.laserState 0) = 5 ∧ Accepts s hub (Obj.engineCommand 15) (.num 1) none) ∧
  (let s := (State.reset.setLaser 47 { commissioning := true }).setLaser 19 { commissioning := true, swapFor := some 15 }
  (s.laser (32 + 15)).commissioning = true ∧ (s.laser 19).commissioning = true ∧ (s.laser 19).swapFor = some 15 ∧ s.num (Obj.ipLaser 15) ≠ 19 ∧ (State.reset.laser 0).commissioning = false) ∧
  ((List.replicate 20 (5, (6 : Int)))[19]? = some (5, 6) ∧ (List.replicate 16 (5, (6 : Int)))[15]? = some (5, 6)) ∧
  (let s := (put [(Obj.ipLaser 3, 17)]).setLaser 17 { swapFor := some 3 }
  (s.laser 17).swapFor = some 3 ∧ s.num (Obj.ipLaser 3) = 17 ∧ (s.setNum (Obj.ipLaser 3) 19).num (Obj.ipLaser 3) = 19) := 
  by and_intros <;> decide +kernel

/-- States that meet the hypotheses of AddressesRoutesAndAutoBonds. -/
theorem witness_AddressesRoutesAndAutoBonds :
  ([0, 1, 65535].all (fun n => Accepts State.reset hub Obj.fabricAddress (.num n) none) = true ∧ (List.finRange 16).all (fun h => State.reset.num (Obj.hoopState h) == 0) = true) ∧
  (Accepts (hoopIn 1 []) hub Obj.fabricAddress (.num 1) none ∧ (hoopIn 1 []).num (Obj.hoopState 0) ≠ 0) ∧
  (beNat ((List.replicate 24 (0 : Byte)).take 8) = (State.reset.wale 31).handshake.peerNode ∧ (List.replicate 24 (0 : Byte)).length = 24) ∧
  ((readLinkState [] 0).isNone = true) ∧
  (let s := { (put [(Obj.waleState 5, 1), (Obj.walePeerNode 5, 0), (Obj.waleLanes 5, 1), (Obj.lineLaneEnd 0, 1), (Obj.lineLaneEnd 31, 1)]) with net := { autoWales := [5] } }
  s.net.autoWales = [5] ∧ s.num (Obj.waleState 5) ≠ 0 ∧ s.num (Obj.walePeerNode 5) = 0 ∧ s.num (Obj.lineLaneMode ((s.waleLanes 5).headD 0)) = s.num (Obj.lineLaneMode 31) ∧
    s.shareHeld 31 = false ∧ s.breaksR234 (31 :: s.waleLanes 5) = false ∧ State.reset.qualifies 31 = false) := 
  by and_intros <;> decide +kernel

/-- States that meet the hypotheses of AddressesRoutesAndAutoBonds. -/
theorem witness_AddressesRoutesAndAutoBonds_by_hand :
  (readLinkState (beBytes 8 nodeIdentity ++ List.replicate 10 0) 0 = some ⟨nodeIdentity, 0, 0, [], 0⟩) ∧
  (∃ p x, readLinkState p 0 = some x ∧ x.node ≠ nodeIdentity ∧ State.reset.net.linkStates = []) ∧
  (let t := List.replicate 9 0 ++ [1] ++ List.replicate 10 0 ++ beBytes 8 nodeIdentity ++ [31]
  let s := (put [(Obj.fabricAddress, 1), (Obj.lineLaneEnd 31, 1)]).setLane 31 { rx := { counted := t } }
  s.qualifies 31 = true ∧ s.net.autoWales = [] ∧ s.num (Obj.waleState 0) = 0 ∧ s.shareHeld 31 = false ∧ s.breaksR234 [31] = false) := 
  ⟨by
    have h : beNat (beBytes 8 nodeIdentity) = nodeIdentity := by rw [beNat_beBytes]; exact Nat.mod_eq_of_lt nodeIdentity_lt
    have h2 : readLinkState (beBytes 8 nodeIdentity ++ List.replicate 10 0) 0 = some ⟨beNat (beBytes 8 nodeIdentity), 0, 0, [], 0⟩ := rfl
    rw [h2, h],
   by
    by_cases h : nodeIdentity = 0
    · exact ⟨1 :: List.replicate 17 0, ⟨2 ^ 56, 0, 0, [], 0⟩, by decide +kernel, by rw [h]; decide, rfl⟩
    · exact ⟨List.replicate 18 0, ⟨0, 0, 0, [], 0⟩, by decide +kernel, Ne.symm h, rfl⟩,
   by
    refine ⟨?_, rfl, by decide +kernel, by decide +kernel, by decide +kernel⟩
    have h : beNat (beBytes 8 nodeIdentity) = nodeIdentity := by rw [beNat_beBytes]; exact Nat.mod_eq_of_lt nodeIdentity_lt
    have h1 : slice (List.replicate 9 0 ++ [1] ++ List.replicate 10 0 ++ beBytes 8 nodeIdentity ++ [31]) 20 8 = beBytes 8 nodeIdentity := rfl
    unfold State.qualifies
    change (_ && _ && _ && _ && (beNat (slice (List.replicate 9 0 ++ [1] ++ List.replicate 10 0 ++ beBytes 8 nodeIdentity ++ [31]) 20 8) == nodeIdentity) && _ && _ && _) = true
    rw [h1, h]
    simp only [beq_self_eq_true, Bool.and_true]
    decide +kernel⟩

/-- States that meet the hypotheses of HeartbeatsHealthAndShadow. -/
theorem witness_HeartbeatsHealthAndShadow :
  ((up0 []).established 0 = true ∧ (up0 []).established 31 = false) ∧
  (let p : Bytes := List.replicate 16 0 ++ [1] ++ List.replicate 7 0 ++ [32] ++ List.replicate 15 0
  let s := (up0 []).withWale { sessions := [(32, { state := 2, hoop := 15 })] }
  beNat (slice p 16 1) = 1 ∧ p.length = 40 ∧ beNat (p.take 8) = (s.wale 0).handshake.peerNode ∧ (s.openSessions 0).find? (fun c => c.1 == beNat (slice p 24 1)) = some (32, 15) ∧ s.num (Obj.hoopEpoch 15) = 0) ∧
  ((Map.get none State.reset.net.suspected 0xFFFF).isSome = false ∧ (Map.get none ({ State.reset with net := { suspected := [(1, some 0)] } } : State).net.suspected 1).isSome = true) ∧
  (labBase.watched 0x2000 = true ∧ State.reset.watched 0x2000 = false) ∧
  (State.reset.healthPenalty = 0 ∧ ¬ 1000 - State.reset.healthPenalty < State.reset.num Obj.healthExpelThreshold) ∧
  (let s := put [(Obj.healthExpelThreshold, 1001)]
  1000 - s.healthPenalty < s.num Obj.healthExpelThreshold ∧ s.net.belowSince = none) ∧
  (let s := { (put [(Obj.healthExpelThreshold, 1001)]) with net := { belowSince := some 0 }, time := { acc := [(0, 60000000000 * 2 ^ 32)] } }
  1000 - s.healthPenalty < s.num Obj.healthExpelThreshold ∧ s.net.belowSince = some 0 ∧ s.now = 60000000000 ∧ Map.get none s.net.proposals (siteOf (s.num Obj.fabricAddress)) = none) ∧
  (let s := { (put [(Obj.healthExpelThreshold, 1001), (Obj.fabricAddress, 1)]) with net := { belowSince := some 0, proposals := [(0, some (60000000000, 2))] }, time := { acc := [(0, 60000000000 * 2 ^ 32)] } }
  s.net.belowSince = some 0 ∧ Map.get none s.net.proposals (siteOf (s.num Obj.fabricAddress)) = some (60000000000, 2) ∧ s.now < 60000000000 + s.num Obj.healthExpelInterval * 1000000000 ∧ 2 ≠ s.num Obj.fabricAddress ∧ s.net.heldBack = false) ∧
  (let p : Bytes := beBytes 2 0x1002 ++ List.replicate 6 0
  p.length = 8 ∧ (List.finRange 16).all (fun h => !(up0 []).fencedIn h 0x1002) = true ∧ (up0 []).num Obj.fabricAddress ≠ 0x1002 ∧ Map.get none (up0 []).net.proposals (siteOf 0x1002) = none ∧
    ([] : Bytes).length ≠ 8) ∧
  ([1, 2].all (fun n => Accepts State.reset hub (Obj.shadowCommand 15) (.num n) none) = true ∧ State.reset.num (Obj.shadowState 15) = 0 ∧ (put [(Obj.shadowState 15, 2)]).num (Obj.shadowState 15) ≠ 0 ∧
    Accepts (put [(Obj.shadowState 15, 2)]) hub (Obj.shadowCommand 15) (.num 1) none) ∧
  (let p : Bytes := List.replicate 80 0
  let s := labBase.setHoop 0 { digests := [(0, 0, 0, 0, [1])] }
  p.length = 80 ∧ s.num (Obj.groupState 0) ≠ 0 ∧ s.num (Obj.partitionState (s.hoopOfGroup 0)) = 0 ∧
    ((s.hoop 0).digests.find? fun d => (d.2.1, d.2.2.1, d.2.2.2.1) == (0, 0, 0)) = some (0, 0, 0, 0, [1]) ∧ [1] ≠ p.drop 16 ∧ (labBase.hoop 0).digests = []) := 
  by and_intros <;> decide +kernel

/-- States that meet the hypotheses of PartitionMergeAndFence. -/
theorem witness_PartitionMergeAndFence :
  (let s := (hoopIn 2 [(Obj.fabricAddress, 0x1001)])
  let p (base : Nat) : Bytes := beBytes 4 0 ++ beBytes 2 2 ++ [0, 0] ++ beBytes 4 base ++ List.replicate 4 0
  (p 0).length = 16 ∧ beNat ((p 0).take 4) = s.num (Obj.hoopEpoch 0) ∧ s.num (Obj.hoopAutonomousWindow 0) ≠ 0 ∧ s.num (Obj.hoopState 0) = 2 ∧ bitAt (beNat (slice (p 0) 4 2)) (siteOf (s.ownAddress 0)) = true ∧
    s.num (Obj.partitionState 0) = 0 ∧ s.num (Obj.outerStepCounter 0) = beNat (slice (p 0) 8 4) ∧ s.num (Obj.outerStepCounter 0) < beNat (slice (p 1) 8 4) ∧ (s.setNum (Obj.outerStepCounter 0) 2).num (Obj.outerStepCounter 0) = 2 ∧
    TilesExist s ∧ s.memory.bad = [] ∧ ((s.setNum (Obj.outerStepCounter 0) 1).hoop 0).retained = [] ∧ (s.setNum (Obj.outerStepCounter 0) 1).groupsOf 0 = [] ∧
    (s.setNum (Obj.partitionState 0) 1).num (Obj.partitionState 0) = 1 ∧ [2, 3].all (fun n => (s.setNum (Obj.partitionState 0) n).num (Obj.partitionState 0) = n) = true) ∧
  (let s := { (labBase.setNum Obj.fabricAddress 0x1000) with net := { suspected := [(0x2000, some 0)] } }
  s.num (Obj.hoopAutonomousWindow 0) ≠ 0 ∧ s.num (Obj.hoopState 0) = 2 ∧ s.num (Obj.partitionState 0) < 2 ∧ s.siteMembers 0 2 = [0x2000] ∧ (Map.get none s.net.suspected 0x2000).isSome = true ∧ 2 ≠ siteOf (s.ownAddress 0) ∧
    bitAt (s.currentSide 0) 2 = true ∧ lowest (s.sideMembers 0 (s.sideWithout 0 2 &&& s.currentSide 0)) = some (s.ownAddress 0) ∧ bitAt (s.sideWithout 0 2 &&& s.currentSide 0) (siteOf (s.ownAddress 0)) = true ∧
    (s.sideMembers 0 (s.sideWithout 0 2 &&& s.currentSide 0)).all (fun a => s.counterOf 0 a == s.num (Obj.outerStepCounter 0)) = true ∧ TilesExist s) ∧
  (let s := { ((labBase.setNum Obj.fabricAddress 0x1000).setNum (Obj.partitionState 0) 1).setNum (Obj.partitionSide 0) 0xFFFF with net := { suspected := [(0x2000, some 0)] } }
  s.num (Obj.partitionState 0) = 1 ∧ s.siteMembers 0 2 = [0x2000] ∧ lowest (s.sideMembers 0 (s.sideWithout 0 2 &&& s.currentSide 0)) = some (s.ownAddress 0) ∧ bitAt (s.sideWithout 0 2 &&& s.currentSide 0) (siteOf (s.ownAddress 0)) = true) ∧
  (let s := hoopIn 2 [(Obj.partitionState 0, 1)]
  let p (highest : Nat) : Bytes := beBytes 4 0 ++ List.replicate 8 0 ++ beBytes 4 highest
  (p 3).length = 16 ∧ beNat ((p 3).take 4) = s.num (Obj.hoopEpoch 0) ∧ s.num (Obj.partitionState 0) = 1 ∧ s.net.reports = [] ∧ ¬ s.num (Obj.hoopAutonomousWindow 0) < beNat (slice (p 3) 12 4) + 1 - 0 ∧
    s.num (Obj.hoopAutonomousWindow 0) < beNat (slice (p 4) 12 4) + 1 - 0 ∧ s.groupsOf 0 = [] ∧ (s.hoop 0).retained = []) ∧
  (let s := ((labBase.setNum Obj.fabricAddress 0x1000).setNum (Obj.partitionState 0) 1).setNum (Obj.partitionSide 0) 2
  s.num (Obj.partitionState 0) = 1 ∧ lowest (s.sideMembers 0 2) = some (s.ownAddress 0) ∧
    lowest ((s.hoopMembers 0).filter fun a => !bitAt 2 (siteOf a) && (Map.get none s.net.suspected a).isNone) = some 0x2000 ∧ s.ownAddress 0 ≤ 0x2000 ∧ (s.setNum (Obj.partitionState 0) 3).num (Obj.partitionState 0) = 3) ∧
  (let s := { ((labBase.setNum Obj.fabricAddress 0x1000).setNum (Obj.partitionState 0) 1).setNum (Obj.partitionSide 0) 2 with work := { labBase.work with groups := [(0, { members := [0x1000, 0x2000] })] } }
  s.groupsOf 0 = [0] ∧ (s.group 0).ops = [] ∧ (s.group 0).redo = [] ∧ (s.hoop 0).retained = [] ∧ lowest (s.sideMembers 0 2) = some (s.ownAddress 0) ∧
    lowest ((s.hoopMembers 0).filter fun a => !bitAt 2 (siteOf a) && (Map.get none s.net.suspected a).isNone) = some 0x2000) ∧
  (let s := (hoopIn 5 [(Obj.partitionState 0, 2), (Obj.outerStepCounter 0, 1)]).with0 { reconcile := some ⟨0, 0, 0xFFFF⟩ }
  (s.hoop 0).reconcile = some ⟨0, 0, 0xFFFF⟩ ∧ 0 < s.num (Obj.outerStepCounter 0) ∧ s.num (Obj.partitionState 0) = 2 ∧ s.redoing 0 = false ∧ s.autonomousLeft 0 = false ∧ s.num (Obj.hoopState 0) ≠ 3) ∧
  (State.reset.serves hub = true ∧ (readFence [1]).isNone = true ∧ (readFence (leBytes 4 1 ++ List.replicate 4 0)).isSome = true) ∧
  (let s := ((put [(Obj.fabricAddress, 7)]).set (Obj.hoopControllerKey 0) (.blob [1]))
  let r : Bytes := leBytes 4 1 ++ [0, 0] ++ leBytes 2 1 ++ leBytes 2 7
  s.bytes (Obj.hoopControllerKey 0) ≠ [] ∧ (readFence r).any (fun f => f.2.2.contains (s.num Obj.fabricAddress) && decide (s.num (Obj.hoopEpoch 0) < f.1)) = true ∧
    s.groupsOf 0 = [] ∧ s.pools.misfreed = [] ∧ (s.setNum (Obj.hoopState 0) 1).num (Obj.hoopState 0) = 1) := 
  by and_intros <;> decide +kernel

/-- States that meet the hypotheses of TimeBasesFollowTheirSources. -/
theorem witness_TimeBasesFollowTheirSources :
  ([0, 1, 3].all (fun b => Accepts (put [(Obj.protectedSelect, 1)]) hub (Obj.tbSetTime b) (.num (2 ^ 32)) none) = true ∧ (put [(Obj.protectedSelect, 1)]).protectedNs < 2 ^ 63 ∧ nsOfTime80 (2 ^ 32) < 2 ^ 63) ∧
  (Accepts State.reset hub (Obj.tbIncrement 3) (.num 0x200000000) none ∧ incrementOk 0x200000000 = true ∧ Accepts State.reset hub (Obj.tbIncrement 3) (.num 0) none ∧ incrementOk 0 = false) ∧
  (State.reset.ptpDomains 0 255 = [] ∧ (put [(Obj.timeDomainPort 1, 2), (Obj.timeDomainPort 0, 1)]).ptpDomains 1 0 = [0] ∧ bestMaster [(1, 2, 3)] = some (1, 2, 3)) ∧
  ([0, 1, 2, 3, 4].all (fun n => (put [(Obj.tbState 1, n)]).num (Obj.tbState 1) = n) = true ∧ State.reset.firmwareServo 1 = true ∧ (State.reset.ptp 0).grandmaster = 0) ∧
  (let s := { (put [(Obj.timeDomainPort 0, 0)]) with time := { ptp := [(0, { master := some 7, inThreshold := 15, syncPending := some (0, 99) })] } }
  ((s.ptpDomains 0 0).filter fun d => (s.ptp d).master == some 7) = [0] ∧ (0 : Int) + 99 < s.num Obj.timeLockThreshold ∧ 15 ≤ (s.ptp 0).inThreshold ∧ (s.ptp 0).syncPending = some (0, 99) ∧
    ((s.ptpDomains 0 0).filter fun d => (s.ptp d).master == some 8) = []) ∧
  (let s := put [(Obj.tbState 1, 3), (Obj.tbState 2, 3), (Obj.protectedSelect, 1)]
  s.locked 1 = true ∧ s.locked 2 = true ∧ s.num Obj.protectedSelect = 1 ∧ s.protectedNs < 2 ^ 63 ∧ s.baseNs 2 < 2 ^ 63 ∧ State.reset.locked 2 = false) ∧
  (let s := put [(Obj.protectedSelect, 2), (Obj.tbState 1, 3)]
  s.flag Obj.timeRevertive = true ∧ s.num Obj.protectedSelect ≠ 0 ∧ s.num Obj.protectedSelect ≠ s.num Obj.timePreferred ∧ s.locked (s.num Obj.timePreferred) = true ∧ State.reset.num Obj.protectedSelect = 0) ∧
  ((up0 []).isReference = true ∧ State.reset.isReference = false ∧ State.reset.lineParent = none ∧ (up0 []).established 0 = true) ∧
  (let s := { (up0 [(Obj.timeLinePriority, 200)]) with time := { linePeers := [(0, { hops := 0, reference := 5, priority := 1, address := 5 })] } }
  s.isReference = false ∧ s.lineParent = some (0, { hops := 0, reference := 5, priority := 1, address := 5 })) ∧
  (let p : Bytes := [0, 0] ++ beBytes 2 5 ++ [1] ++ List.replicate 25 0
  let s := (up0 [(Obj.timeLinePriority, 200)]).withWale { txStamps := [(0, 9)], rxStamps := [(0, 11)], handshake := { peerAddress := 5 } }
  let u : State := { s with time := { s.time with linePeers := [(0, { hops := 0, reference := 5, priority := 1, address := 5 })] } }
  p.length = 30 ∧ s.established 0 = true ∧ u.isReference = false ∧ u.lineParent.map (fun c => c.1) = some 0 ∧ (s.wale 0).txStamps.find? (fun c => c.1 == beNat (slice p 18 2)) = some (0, 9) ∧
    (s.wale 0).rxStamps.find? (fun c => c.1 == beNat (slice p 6 2)) = some (0, 11)) ∧
  (let s := put [(Obj.timePpsOutSource, 1)]
  s.num Obj.timePpsOutSource = 1 ∧ s.time.lastPps = none ∧ State.reset.num Obj.timePpsOutSource = 0) ∧
  (State.reset.num (Obj.stepTriggerPeriod 15) = 0) ∧
  (let s := { (put [(Obj.stepTriggerPeriod 0, 1000), (Obj.stepTriggerSource 0, 1)]) with time := { acc := [(1, 5000 * 2 ^ 32)] } }
  s.num (Obj.stepTriggerPeriod 0) ≠ 0 ∧ s.triggerTime 0 = some 5000 ∧ nsOfTime80 (s.num (Obj.stepBoundaryLast 0)) < lastBoundary 5000 (s.num (Obj.stepTriggerPhase 0)) 1000 ∧
    (s.setNum (Obj.stepBoundaryLast 0) 5000).num (Obj.stepBoundaryLast 0) = 5000) := 
  by and_intros <;> decide +kernel

/-- States that meet the hypotheses of ClocksStartSwitchAndFail. -/
theorem witness_ClocksStartSwitchAndFail :
  (let s := put [(Obj.domainState 99, 1), (Obj.domainState 3, 4)]
  s.num (Obj.domainState 99) = 1 ∧ Map.get 0 s.power.source 99 ≠ s.num (Obj.domainSource 99) ∧ s.num (Obj.domainSource 99) = 1 ∧ s.num (Obj.domainState 3) = 4 ∧ s.num (Obj.domainState 0) = 0) ∧
  (State.reset.flag (Obj.sourceReady 1) = false ∧ (put [(Obj.sourceReady 1, 1)]).flag (Obj.sourceReady 1) = true) ∧
  ([1, 2].all (fun n => (put [(Obj.domainState 99, n)]).num (Obj.domainState 99) = n) = true ∧ State.reset.num (Obj.domainState 0) = 0 ∧
    (put [(Obj.domainState 2, 1)]).num (Obj.domainState 2) = 1 ∧ IdleWork (put [(Obj.domainState 2, 1)]) ∧ IdleWork State.reset) ∧
  (Accepts State.reset hub (Obj.domainSource 0) (.num 4) none ∧ State.reset.sourceStatus 0 4 ≠ St.ok) ∧
  (let s := put [(Obj.sourceReady 1, 1), (Obj.domainState 0, 1)]
  Accepts s hub (Obj.domainSource 0) (.num 1) none ∧ s.sourceStatus 0 1 = St.ok ∧ s.num (Obj.domainState 0) = 1) ∧
  ((put [(Obj.domainState 0, 2)]).num (Obj.domainState 0) = 2) ∧
  (let s := put [(Obj.sourceReady 1, 1), (Obj.domainState 8, 3)]
  Accepts s hub (Obj.domainCommand 8) (.num 1) none ∧ s.num (Obj.domainState 8) = 3 ∧ s.flag (Obj.sourceReady (s.num (Obj.domainSource 8))) = true ∧ domainTile 8 = some 0 ∧ domainTile 0 = none ∧
    (put [(Obj.domainState 8, 3)]).flag (Obj.sourceReady 1) = false ∧ Accepts (put [(Obj.domainState 8, 3)]) hub (Obj.domainCommand 8) (.num 1) none) ∧
  (State.reset.num Obj.intoscTrimSource = 1 ∧ State.reset.flag (Obj.sourceReady 2) = false ∧ (put [(Obj.sourceReady 2, 1)]).flag (Obj.sourceReady 2) = true ∧ (put [(Obj.intoscTrimSource, 0)]).num Obj.intoscTrimSource = 0) ∧
  (Accepts State.reset hub (keyOf 0xC000 3) (.num 0xFF) none ∧ clkoutNames 0xFF = true ∧ State.reset.clkoutTooFast 0xFF 1 = false) ∧
  (Accepts State.reset hub (keyOf 0xC000 3) (.num 200) none ∧ clkoutNames 200 = false ∧ Accepts State.reset hub (keyOf 0xC000 4) (.num 2) none) ∧
  (State.reset.blockEnabled (.tile 0) = false ∧ (put [(Obj.tileOwner 0, 0)]).blockEnabled (.tile 0) = true) := 
  by and_intros <;> decide +kernel

/-- States that meet the hypotheses of PowerFollowsVotesAndCeilings. -/
theorem witness_PowerFollowsVotesAndCeilings :
  ([0, 5, 255].all (fun n => Accepts State.reset hub (Obj.domainVoteHost 99) (.num n) none) = true) ∧
  ([6, 8].all (fun n => Accepts State.reset hub (Obj.domainVoteHost 8) (.num n) none ∧ offers (classOf 8) n = true) = true ∧ Accepts State.reset hub (Obj.domainVoteHost 0) (.num 8) none ∧ offers (classOf 0) 8 = false) ∧
  (let s := put [(Obj.tileOwner 47, 15)]
  s.num (Obj.tileOwner 47) = 15 ∧ s.tileBound 47 = false ∧ s.hoopWaitsTile 15 = false ∧ ¬ State.reset.num (Obj.tileOwner 0) < 16) ∧
  ([1, 2, 3, 4, 5, 6, 7].all (fun n => (put [(Obj.domainSleepState 8, n)]).num (Obj.domainSleepState 8) = n) = true ∧ State.reset.boot.resetting = none) ∧
  ([6, 7, 8].all (fun n => (put [(Obj.domainSleepState 8, 1), (Obj.tileOwner 0, 0), (Obj.domainVoteHoop 8, n), (Obj.domainVoteHost 8, n)]).target 8 = n) = true ∧ (put [(Obj.domainVoteHost 8, 0), (Obj.tileOwner 0, 0)]).target 8 < 6) ∧
  ((put [(Obj.domainState 8, 1)]).num (Obj.domainState 8) = 1 ∧ (put [(Obj.domainState 8, 1)]).num (Obj.domainSleepState 8) = 0 ∧ domainTile 8 = some 0 ∧
    0 ∈ ({ put [(Obj.domainState 8, 1)] with power := { returning := [0] } } : State).power.returning) ∧
  (let x : TileData := { labTile with residentHash := [1], staged := some (0, 0, 64) }
  let s := (put [(Obj.domainSleepState 8, 3), (Obj.tileOwner 0, 0), (Obj.domainVoteHoop 8, 7), (Obj.domainVoteHost 8, 7)]).setTile 0 x
  s.num (Obj.domainSleepState 8) = 3 ∧ s.target 8 = 7 ∧ domainTile 8 = some 0 ∧ (s.tile 0).staged = some (0, 0, 64)) ∧
  (State.reset.num Obj.modulePowerLimit * 10 = 18000 ∧ (put [(Obj.hoopPowerCap 0, 1)]).num (Obj.hoopPowerCap 0) = 1 ∧ State.reset.num (Obj.hoopPowerCap 0) = 0) ∧
  (twiceHot [1150] [1150] = true ∧ twiceHot [1150] [1149] = false ∧ State.reset.limp = false ∧ State.reset.power.ceilingMoved = [] ∧ (put [(Obj.dieThermalCeiling 1, 4)]).num (Obj.dieThermalCeiling 1) < 5 ∧ 0 < (put [(Obj.dieThermalCeiling 1, 4)]).num (Obj.dieThermalCeiling 1)) := 
  by and_intros <;> decide +kernel

/-- A token of zeros. -/
def blankToken : Token := ⟨0, 0, 0, 0, 0, List.replicate 4627 0⟩

/-- A commit in progress. -/
def committing (retried : Bool) : CommitJob := ⟨1, 1, [], [], retried, none, 0⟩
theorem groupsOwned_of {s : State}
    (h : ((List.range 64).all fun a => (List.range 64).all fun b => decide (s.num (Obj.groupHoop (64 * a + b)) < 16)) = true) :
    GroupsOwned s := by
  intro g
  simp only [List.all_eq_true, List.mem_range, decide_eq_true_eq] at h
  simpa [Nat.div_add_mod] using h (g / 64) (by omega) (g % 64) (by omega)

/-- States that meet the hypotheses of DictionaryServesRequests. -/
theorem witness_DictionaryServesRequests :
  (let k := keyOf 0x2000 1
  takeOf k = none ∧ State.reset.serves hub = true ∧ (State.reset.touch k).readStatus hub k 0 = St.ok ∧ (State.reset.touch k).gatedObject k = false ∧ (State.reset.touch k).readsFree k = false ∧ takeOf (Obj.mailboxTake 63) = some 63 ∧
    (put [(Obj.moduleState, 3)]).serves hub = false) ∧
  (let k := keyOf 0x2000 1
  (State.reset.touch k).readStatus hub k 1 = St.lenExceeded ∧ (findRow 0).isNone = true) ∧
  (let k := Obj.planHash 0
  let s := { State.reset with control := { latch := [(requesterNumber hub, (k, [1, 2]))] } }
  ((s.dropLatch hub k).touch k).readStatus hub k 1 = St.ok ∧ (Map.get (0, []) s.control.latch (requesterNumber hub)).1 = k ∧ takeOf k = none) ∧
  ((State.reset.touch (Obj.tileMeshBusyCycles 0)).gatedObject (Obj.tileMeshBusyCycles 0) = true ∧ (State.reset.touch (Obj.tileMeshBusyCycles 0)).readStatus hub (Obj.tileMeshBusyCycles 0) 0 = St.ok) ∧
  (let k := Obj.channelCorrected 639
  let s : State := { State.reset with power := { running := [.channel 639] } }
  takeOf k = none ∧ (s.touch k).readStatus hub k 0 = St.ok ∧ (s.touch k).gatedObject k = false ∧ isMeasured k = false ∧
    (s.touch k).countTop k = some (2 ^ 32 - 1) ∧ isCount (keyOf 0x2000 1) = false) ∧
  (State.reset.flag Obj.pdpEnable = true ∧ State.reset.limp = false ∧ (State.reset.pdpEntry []).isNone = true ∧ (put [(Obj.pdpEnable, 0)]).flag Obj.pdpEnable = false) ∧
  (let s := { State.reset with control := { pdp := [(15, { phase := 1 })] } }
  (s.pdpSession 15).phase = 1 ∧ (State.reset.pdpSession 15).phase ≠ 1) ∧
  (let s := { State.reset with control := { pdp := [(15, { phase := 2, responses := [(4, [])] })] } }
  (s.pdpSession 15).phase = 2 ∧ s.flag Obj.pdpEnable = true ∧ s.limp = false ∧ ((s.pdpSession 15).responses.find? (fun r => r.1 == 4)).isSome = true ∧ ((s.pdpSession 15).responses.find? (fun r => r.1 == 2)).isNone = true) ∧
  ((up0 []).established 0 = true ∧ State.reset.established 31 = false ∧ (up0 []).limp = false) := 
  by and_intros <;> decide +kernel

/-- States that meet the hypotheses of DictionaryServesRequests. -/
theorem witness_DictionaryServesRequests_by_hand :
  (∃ r i, findRow Obj.lineShuffle = some (r, i) ∧ r.acc ≠ .sig ∧ State.reset.ownCommand hub r.base r.sub i (.num 0) none = none ∧ r.mask = none ∧
    Accepts State.reset hub Obj.lineShuffle (.num 0) none ∧ writeEffect Obj.lineShuffle r.base r.sub i (.num 0) = plainWrite Obj.lineShuffle (.num 0)) ∧
  (∃ r i, findRow (Obj.hoopCommand 15) = some (r, i) ∧ r.fits (.num 1) = true ∧ (State.reset.ownCommand hub r.base r.sub i (.num 1) none).isSome = true) ∧
  (∃ r i, findRow (keyOf 0x2000 1) = some (r, i) ∧ (State.reset.dropLatch hub (keyOf 0x2000 1)).authorised hub (keyOf 0x2000 1) false = true ∧ State.reset.authorised (.pdp 0 0) (keyOf 0x2000 1) false = false) ∧
  (∃ r i, findRow (Obj.hoopProgramKey 0) = some (r, i) ∧ r.acc = .sig ∧ State.reset.ownCommand hub r.base r.sub i (valueOf r [1]) (some blankToken) = none ∧ r.mask = none ∧
    writeEffect (Obj.hoopProgramKey 0) r.base r.sub i (valueOf r [1]) = plainWrite (Obj.hoopProgramKey 0) (valueOf r [1])) ∧
  (let s := State.reset.set Obj.pdpKeyTable (.blob (sha3Bytes [7] ++ [0xFF, 1] ++ List.replicate 6 0))
  s.pdpEntry [7] = some (255, true) ∧ (s.pdpSession 0).phase = 0) := 
  ⟨⟨_, _, rfl, by decide, rfl, rfl, by decide +kernel, rfl⟩,
   ⟨_, _, rfl, rfl, by decide +kernel⟩,
   ⟨_, _, rfl, by decide +kernel, by decide +kernel⟩,
   ⟨_, _, rfl, rfl, rfl, rfl, rfl⟩,
   by
    refine ⟨?_, rfl⟩
    have h : (State.reset.set Obj.pdpKeyTable (.blob (sha3Bytes [7] ++ [0xFF, 1] ++ List.replicate 6 0))).bytes Obj.pdpKeyTable = sha3Bytes [7] ++ [0xFF, 1] ++ List.replicate 6 0 := by
      simp only [State.bytes, State.obj_set_same]; rfl
    have h1 : entriesOf 72 16 (sha3Bytes [7] ++ [0xFF, 1] ++ List.replicate 6 0) = [sha3Bytes [7] ++ [0xFF, 1] ++ List.replicate 6 0] := rfl
    have h2 : (sha3Bytes [7] ++ [0xFF, 1] ++ List.replicate 6 0).take 64 = sha3Bytes [7] := rfl
    have h3 : field (sha3Bytes [7] ++ [0xFF, 1] ++ List.replicate 6 0) 64 1 = 255 := rfl
    have h4 : bitAt (field (sha3Bytes [7] ++ [0xFF, 1] ++ List.replicate 6 0) 65 1) 0 = true := rfl
    unfold State.pdpEntry
    rw [h, h1, List.find?_cons_of_pos (by rw [h2]; exact beq_self_eq_true _), Option.map_some, h3, h4]⟩

/-- States that meet the hypotheses of MailboxesAndEventLog. -/
theorem witness_MailboxesAndEventLog :
  ((put [(Obj.mailboxState 63, 1)]).mailboxFull 63 = true ∧ State.reset.mailboxFull 63 = false ∧ Accepts State.reset hub (Obj.mailboxPost 63) (.num (2 ^ 32 - 1)) none ∧
    Accepts (put [(Obj.mailboxState 63, 1)]) hub (Obj.mailboxPost 63) (.num 0) none) ∧
  ((put [(Obj.mailboxState 0, 1), (Obj.mailboxReceiver 0, 0)]).num (Obj.mailboxReceiver 0) = 0) ∧
  (((State.reset.dropLatch hub (Obj.mailboxTake 1)).touch (Obj.mailboxTake 1)).readStatus hub (Obj.mailboxTake 1) 0 = St.ok ∧ (State.reset.touch (Obj.mailboxTake 1)).readStatus (.pdp 0 0) (Obj.mailboxTake 1) 0 ≠ St.ok) ∧
  (let s := { (put [(Obj.eventLogNewest, 5)]) with events := { alerts := [5] } }
  Accepts s hub Obj.eventAck (.num 5) none ∧ sequenceReached 5 (s.num Obj.eventLogNewest) = true ∧ (s.events.alerts.filter fun e => !sequenceReached e 5) = [] ∧ Accepts s hub Obj.eventAck (.num 6) none ∧ sequenceReached 6 5 = false) := 
  by and_intros <;> decide +kernel

/-- States that meet the hypotheses of SnapshotsLatchTheModule. -/
theorem witness_SnapshotsLatchTheModule :
  State.reset.flag Obj.snapshotLock = true ∧ State.reset.control.snapshotReleased = true ∧ State.reset.flag Obj.snapshotInEnable = true ∧ (put [(Obj.snapshotInEnable, 0)]).flag Obj.snapshotInEnable = false ∧
    State.reset.control.snapshotArmed = false ∧ ({ State.reset with control := { snapshotArmed := true, snapshotReleased := false } } : State).control.snapshotArmed = true ∧
    [1, 2, 3, 4].all (fun n => Accepts State.reset hub Obj.snapshotCommand (.num n) none) = true := by decide +kernel

/-- States that meet the hypotheses of CommitsReachTheStore. -/
theorem witness_CommitsReachTheStore :
  (let s := { State.reset with control := { uncoveredP := true } }
  s.control.uncoveredP = true ∧ s.control.commit = none ∧ s.slotFor s.nextRecord = some 1 ∧ (s.setNum Obj.persistCopyState 3).slotFor 1 = none) ∧
  (let s := { State.reset with control := { uncoveredH := true, commit := some (committing false) } }
  s.control.uncoveredH = true ∧ s.control.commit.isSome = true) ∧
  (Accepts State.reset hub Obj.persistCommand (.num 1) none ∧ State.reset.control.commit = none ∧ State.reset.storeReachable = true ∧ State.reset.slotFor State.reset.nextRecord = some 1 ∧ (put [(Obj.domainState 7, 3)]).storeReachable = false ∧
    Accepts (put [(Obj.domainState 7, 3)]) hub Obj.persistCommand (.num 1) none ∧ Accepts (put [(Obj.persistCopyState, 3)]) hub Obj.persistCommand (.num 1) none) ∧
  (let s (r : Bool) : State := { State.reset with control := { commit := some (committing r) } }
  (s false).control.commit = some (committing false) ∧ (s false).control.commitDue = false ∧ (s true).control.commit = some (committing true) ∧ ((s true).failCopy (slotDevice 1)).slotFor 1 = some 2 ∧
    (((s true).setNum Obj.persistCopyState 1).failCopy (slotDevice 1)).slotFor 1 = none) := 
  by and_intros <;> decide +kernel

/-- States that meet the hypotheses of LinksOfTheModule. -/
theorem witness_LinksOfTheModule :
  Map.get 0 State.reset.boot.flitFailures (32 * 24 + 0) + 1 < 16 ∧ 16 ≤ Map.get 0 ({ State.reset with boot := { flitFailures := [(33, 15)] } } : State).boot.flitFailures (32 * 1 + 1) + 1 ∧
    IdleWork { State.reset with boot := { flitFailures := [(33, 15)] } } := by decide +kernel

/-- States that meet the hypotheses of FirmwareOwnershipAndQuotes. -/
theorem witness_FirmwareOwnershipAndQuotes :
  (Accepts State.reset hub Obj.firmwareStageWrite (.blob (leBytes 4 33554431 ++ [1])) none ∧ 33554431 + 1 ≤ 33554432 ∧ Accepts State.reset hub Obj.firmwareStageWrite (.blob (leBytes 4 33554432 ++ [1])) none) ∧
  (Accepts State.reset hub Obj.firmwareCommand (.num 1) none ∧ State.reset.security.installing = none ∧ State.reset.num (Obj.domainState 6) ≠ 3 ∧ State.reset.num (Obj.domainState 7) ≠ 3 ∧ State.reset.num Obj.firmwareStageLength < 14576) ∧
  (let s := put [(Obj.firmwareStageLength, 14576)]
  Accepts s hub Obj.firmwareCommand (.num 1) none ∧ s.num Obj.firmwareStageLength = 14576 ∧ field (FirmwareImage.image (s.security.stage.readBytes 0 14576)).trailer 20 4 + 14576 = 14576) ∧
  (let s := { State.reset with security := { installing := some .shipped } }
  s.security.installing = some .shipped ∧ Accepts s hub Obj.firmwareCommand (.num 1) none) ∧
  (let r : Bytes := List.replicate (Obj.ownershipTransfer |> fun k => (findRow k).elim 0 fun r => r.1.size) 0
  Accepts State.reset hub Obj.ownershipTransfer (.blob r) none ∧ State.reset.allHoopsEmpty = true ∧ (hoopIn 1 []).allHoopsEmpty = false ∧ (put [(Obj.domainState 6, 3)]).num (Obj.domainState 6) = 3 ∧
    State.reset.slotFor State.reset.nextRecord ≠ none ∧ State.reset.control.commit = none) ∧
  (State.reset.serves hub = true ∧ Accepts State.reset hub Obj.attestNonce (.blob (List.replicate 32 0)) none ∧ Accepts State.reset hub (Obj.hoopAttestNonce 15) (.blob (List.replicate 32 0)) none) ∧
  (let s := { State.reset with security := { quoting := [(0, [1]), (16, [2])] } }
  Map.get [] s.security.quoting 16 = [2] ∧ Map.get [] s.security.quoting 0 = [1] ∧ s.num (Obj.domainState 6) ≠ 3 ∧ Map.get [] State.reset.security.quoting 15 = []) := 
  by and_intros <;> decide +kernel

/-- States that meet the hypotheses of MeterCountsAndSeals. -/
theorem witness_MeterCountsAndSeals :
  (State.reset.num Obj.meterState = 1 ∧ (put [(Obj.meterState, 0)]).num Obj.meterState = 0 ∧ (put [(Obj.meterState, 2)]).num Obj.meterState = 2) ∧
  (Accepts State.reset hub Obj.meterStageWrite (.blob (leBytes 4 0 ++ [1])) none ∧ Accepts State.reset hub Obj.meterStageWrite (.blob (leBytes 4 0)) none) ∧
  (Accepts State.reset hub Obj.meterCommand (.num 1) none ∧ Accepts (put [(Obj.meterState, 2)]) hub Obj.meterCommand (.num 1) none) := 
  by and_intros <;> decide +kernel

/-- States that meet the hypotheses of StartUpGoesThroughItsStages. -/
theorem witness_StartUpGoesThroughItsStages :
  (let s (stage input : Nat) := put [(Obj.startupStage, stage), (Obj.inputState, input)]
  [1, 2, 3, 4, 5, 6, 7, 8, 9].all (fun n => (s n 1).starting && (s n 1).num Obj.startupStage == n && (s n 1).mainPresent) = true ∧ (s 6 8).mainPresent = false ∧ (s 6 8).starting = true ∧ (s 3 1).copyFailed 0 = false ∧
    ((s 3 1).setNum Obj.persistCopyState 3).copyFailed 0 = true ∧ ((s 3 1).setNum Obj.persistCopyState 3).copyFailed 1 = true ∧ (s 1 0).mainPresent = false ∧ (s 1 0).standbyPresent = false) ∧
  (State.reset.starting = true ∧ (put [(Obj.moduleState, 2)]).starting = false ∧ Map.get 0 State.reset.boot.misses 255 + 1 < 4 ∧ 4 ≤ Map.get 0 ({ State.reset with boot := { misses := [(7, 3)] } } : State).boot.misses 7 + 1) ∧
  (let s := put [(Obj.startupStage, 5)]
  s.starting = true ∧ s.flag (Obj.sourceReady 1) = false ∧ 2 ≤ s.num Obj.startupStage ∧ s.num Obj.startupStage ≤ 5 ∧ ¬ 2 ≤ State.reset.num Obj.startupStage) := 
  by and_intros <;> decide +kernel

/-- States that meet the hypotheses of InputsComeAndGo. -/
theorem witness_InputsComeAndGo :
  (put [(Obj.inputState, 1)]).mainPresent = true ∧ (put [(Obj.inputState, 9)]).standbyPresent = true ∧ (put [(Obj.inputState, 1)]).standbyPresent = false ∧ (put [(Obj.moduleState, 2)]).num Obj.moduleState = 2 ∧
    (put [(Obj.moduleState, 1)]).num Obj.moduleState = 1 := by decide +kernel

/-- States that meet the hypotheses of ResetsActByTheirClass. -/
theorem witness_ResetsActByTheirClass :
  (let s := put [(Obj.moduleState, 2), (Obj.resetTarget, 16)]
  [1, 2, 3, 4, 5].all (fun n => Accepts s hub Obj.resetCommand (.num n) none) = true ∧ s.resetStatus .cold = St.ok ∧ s.resetStatus .warm = St.ok ∧ s.resetStatus .hub = St.ok ∧ s.resetStatus (.die 16) = St.ok ∧
    (put [(Obj.moduleState, 2), (Obj.resetTarget, 15)]).resetStatus (.hoop 15) = St.ok ∧ s.resetStatus (.hoop 16) = St.accessDenied) ∧
  (let s := put [(Obj.moduleState, 2), (Obj.resetTarget, 15)]
  GroupsOwned s ∧ IdleWork s ∧ Accepts s hub Obj.resetCommand (.num 2) none ∧ s.resetStatus .warm = St.ok) ∧
  (let s : State := { (put [(Obj.moduleState, 2)]) with boot := { resetting := some .cold } }
  s.resetStatus .cold = St.busy ∧ s.resetStatus .warm = St.busy ∧ s.resetStatus .hub = St.busy ∧ (put [(Obj.moduleState, 3)]).resetStatus .warm ≠ St.ok) ∧
  (let s (c : ResetClass) : State := { State.reset with boot := { resetting := some c } }
  (s .warm).boot.resetting = some .warm ∧ (s (.die 24)).boot.resetting = some (.die 24) ∧ (s (.hoop 15)).boot.resetting = some (.hoop 15) ∧ IdleWork (s (.hoop 15)) ∧ State.reset.boot.resetting = none) := 
  ⟨by decide +kernel,
   ⟨groupsOwned_of (by decide +kernel), by decide +kernel, by decide +kernel, by decide +kernel⟩,
   by decide +kernel,
   by decide +kernel⟩

theorem test_wellFormed_refuses_short_signatures :
  ((Instr.sigTokenWrite hub 0 0 [] { blankToken with signature := [] }).wellFormed = false) ∧
  ((Instr.fenceRecordWrite hub 0 [] { blankToken with signature := [] }).wellFormed = false) ∧
  ((Instr.fenceNoticeReceived 0 [] { blankToken with signature := [] }).wellFormed = false) ∧
  ((Instr.rollbackFloorWrite hub 0 { blankToken with signature := [] }).wellFormed = false) ∧
  ((Instr.lineHoopClearEnableAWrite hub 0 0 { blankToken with signature := [] }).wellFormed = false) ∧
  ((Instr.sigTokenWrite hub 0 0 [] blankToken).wellFormed = true) := 
  by and_intros <;> decide +kernel

theorem test_wellFormed_refuses_packets_of_wrong_lengths :
  ((Instr.rdmaWriteReceived { packet 0 0x0A 0 0 [] with source := [], sourceQpn := 2 }).wellFormed = false) ∧
  ((Instr.unsupportedOpcodeReceived { packet 0 0 0 0 [] with source := [1], sourceQpn := 2 }).wellFormed = false) ∧
  ((Instr.rdmaReadRequestReceived { packet 0 0x0C 0 0 (List.replicate 4097 0) with source := List.replicate 16 0, sourceQpn := 2 }).wellFormed = false) ∧
  ((Instr.rdmaWriteReceived { packet 0 0x0A 0 0 (List.replicate 4096 0) with source := List.replicate 16 0, sourceQpn := 2 }).wellFormed = true) := 
  by and_intros <;> decide +kernel

theorem test_wellFormed_refuses_segments_and_frames_of_wrong_lengths :
  ((Instr.segmentReceived 0 ⟨List.replicate 31 0, [], List.replicate 16 0, false, false, false⟩).wellFormed = false) ∧
  ((Instr.segmentReceived 0 ⟨List.replicate 32 0, [], List.replicate 15 0, false, false, false⟩).wellFormed = false) ∧
  ((Instr.segmentReceived 0 ⟨List.replicate 32 0, [], List.replicate 16 0, false, false, false⟩).wellFormed = true) ∧
  ((Instr.sarsiaFrameReceived 0 true (List.replicate 16383 0) []).wellFormed = false) ∧
  ((Instr.sarsiaFrameReceived 0 true (List.replicate 16384 0) [16384]).wellFormed = false) ∧
  ((Instr.sarsiaFrameReceived 0 true (List.replicate 16384 0) [16383]).wellFormed = true) ∧
  ((Instr.fabricFrameReceived 0 (List.replicate 13 0) true true).wellFormed = false) := 
  by and_intros <;> decide +kernel

theorem test_wellFormed_refuses_fabric_operands :
  ((Instr.pfcFrameReceived 0 1 (List.replicate 7 0)).wellFormed = false) ∧
  ((Instr.pfcFrameReceived 0 1 (65536 :: List.replicate 7 0)).wellFormed = false) ∧
  ((Instr.pfcFrameReceived 0 1 (65535 :: List.replicate 7 0)).wellFormed = true) ∧
  ((Instr.neighborSolicitationReceived 0 (List.replicate 16 0) []).wellFormed = false) ∧
  ((Instr.neighborAdvertisementReceived 0 (List.replicate 16 0) (List.replicate 5 0)).wellFormed = false) ∧
  ((Instr.echoRequestReceived 0 (List.replicate 15 0) []).wellFormed = false) ∧
  ((Instr.portTrainingComplete 0 (List.replicate 9 (0, false)) false).wellFormed = false) ∧
  ((Instr.portTrainingComplete 0 [(8, false)] false).wellFormed = false) ∧
  ((Instr.portTrainingComplete 0 [(7, true)] true).wellFormed = true) := 
  by and_intros <;> decide +kernel

theorem test_wellFormed_refuses_hoop_and_group_operands :
  ((Instr.evacuationReceived 0 1 (List.replicate 4 []) []).wellFormed = false) ∧
  ((Instr.evacuationReceived 0 1 (List.replicate 5 []) []).wellFormed = true) ∧
  ((Instr.smallContributionReceived 0 0 0 0 6 0 0 0 (List.replicate 257 0)).wellFormed = false) ∧
  ((Instr.smallContributionReceived 0 0 0 0 6 0 0 0 (List.replicate 256 0)).wellFormed = true) ∧
  ((Instr.reproDigestReceived 0 0 (List.replicate 63 0) 1).wellFormed = false) ∧
  ((Instr.poolAllocate 0 1 (some 0) 1).wellFormed = false) ∧
  ((Instr.poolAllocate 0 2 (some 0) 1).wellFormed = true) := 
  by and_intros <;> decide +kernel

theorem test_wellFormed_refuses_sensor_and_meter_operands :
  ((Instr.scrubCodewordRead 0 (List.replicate 71 0)).wellFormed = false) ∧
  ((Instr.scrubCodewordRead 0 (List.replicate 72 0)).wellFormed = true) ∧
  ((Instr.laserHealthSample (List.replicate 19 (0, 0)) (List.replicate 16 (0, 0))).wellFormed = false) ∧
  ((Instr.laserHealthSample (List.replicate 20 (0, 0)) (List.replicate 15 (0, 0))).wellFormed = false) ∧
  ((Instr.powerGovernorStep 0 0 (List.replicate 47 0)).wellFormed = false) ∧
  ((Instr.dieSensorSample 0 []).wellFormed = false) ∧
  ((Instr.meterAdcSample 0 0 (List.replicate 7 0)).wellFormed = false) ∧
  ((Instr.meterLinkFrame 0 true 0 [.counter 0 0 (2 ^ 64)]).wellFormed = false) ∧
  ((Instr.meterLinkFrame 0 true 0 [.meshBusy 0 (2 ^ 64)]).wellFormed = false) ∧
  ((Instr.meterLinkFrame 0 true 0 [.counter 0 0 (2 ^ 64 - 1), .meshBusy 15 (2 ^ 64 - 1)]).wellFormed = true) := 
  by and_intros <;> decide +kernel

theorem test_wellFormed_refuses_requests_outside_their_fields :
  ((Instr.dictRead hub 0 0 (2 ^ 32) 0).wellFormed = false) ∧
  ((Instr.dictReadSnapshot hub 0 0 0 (2 ^ 32)).wellFormed = false) ∧
  ((Instr.dictWrite hub 0 0 (2 ^ 32) []).wellFormed = false) ∧
  ((Instr.dictWrite (.pcie 0 0 false) 0 0 0 (List.replicate 4097 0)).wellFormed = false) ∧
  ((Instr.dictWrite (.pcie 0 0 false) 0 0 0 (List.replicate 4096 0)).wellFormed = true) ∧
  ((Instr.peerReadReceived 0 0 0 1 (2 ^ 32) 0 0).wellFormed = false) ∧
  ((Instr.peerWriteReceived 0 0 0 (2 ^ 32) [] 0).wellFormed = false) ∧
  ((Instr.peerResponseReceived 0 0 0 0 (2 ^ 32) []).wellFormed = false) ∧
  ((Instr.pdpHelloReceived (List.replicate 2591 0) (List.replicate 1568 0) (List.replicate 32 0)).wellFormed = false) ∧
  ((Instr.pdpHelloReceived (List.replicate 2592 0) (List.replicate 1568 0) (List.replicate 32 0)).wellFormed = true) ∧
  ((Instr.pdpConfirmReceived 0 []).wellFormed = false) ∧
  ((Instr.pdpRequestReceived 0 0 1 1 []).wellFormed = false) ∧
  ((Instr.pdpRequestReceived 0 0 0 1 (List.replicate 1233 0)).wellFormed = false) ∧
  ((Instr.pdpRequestReceived 0 0 0 1 (List.replicate 1232 0)).wellFormed = true) := 
  by and_intros <;> decide +kernel

/-- The state that an outcome of `exec` leaves; the reset state where it leaves none. -/
def after (o : Host.Outcome State Fault Refusal) : State :=
  match o with
  | .next t => t
  | _ => State.reset

/-- The fields of an instruction on scalar registers: s[3] from s[1] and s[2]. -/
def s312 : TileWord := { d := 3, a := 1, b := 2 }

/-- Tile 0 with two scalar registers set, about to run the instruction of an opcode and fields. -/
def withScalars (op : Nat) (w : TileWord) (a b : Nat) : State := lab (coded op w { labTile with s := [(1, a), (2, b)] })

/-- Register s[3] of tile 0 after the instruction of an opcode. -/
def s3After (op : Nat) (i : Instr) (a b : Nat) : Nat := Map.get 0 ((after (exec i (withScalars op s312 a b))).tile 0).s 3

theorem test_keys_of_the_worked_examples :
  Obj.groupNextSequence 679 = keyOf 0x312A 0x77 ∧ Obj.channelWorstPin 185 = keyOf 0x510B 0x94 := by decide +kernel

theorem test_tile_words_of_the_worked_example :
  (decodeTileWord 47 0x7020100081000000 = some (.vldc 47 { d := 8, a := 1, imm := 0x81000000 })) ∧
  (decodeTileWord 0 0x5220824000000000 = some (.vadd 0 { d := 8, a := 8, b := 9 })) ∧
  (decodeTileWord 0 0x7200720885000000 = some (.vqmx 0 { a := 7, b := 8, c := 8, imm := 0x85000000 })) ∧
  (decodeTileWord 0 0xB100B30D00000000 = some (.lemit 0 { a := 11, b := 12, c := 13 })) ∧
  (decodeTileWord 0 0xFF00000000000000 = none) := 
  by and_intros <;> decide +kernel

/-- States that meet the hypotheses of TileWordsDecodeToTheirCommands. -/
theorem witness_TileWordsDecodeToTheirCommands :
  (tileOpcodes.map Prod.fst).contains 0x70 = true ∧ (tileOpcodes.map Prod.fst).contains 0xB3 = false ∧ listedOpcode 0xFF = false ∧ 0x7020100081000000 < 2 ^ 64 := by decide +kernel

theorem test_window_key_of_the_worked_example :
  (put [(Obj.windowGeneration 77, 5)]).windowKey 77 = 0x01340005 := by decide +kernel

theorem test_intosc_trim_of_the_worked_example :
  trimCode (2 ^ 35) 4000 8741000 0 = (-1383, -5) := by decide +kernel

theorem test_mx_block_of_the_worked_example :
  ((quantiseBlock 5 ([0x43FA0000, 0x40500000, 0xC1880000, 0x3A83126F, 0x80000000] ++ List.replicate 27 0)).1 = 0x7F) ∧
  ((quantiseBlock 5 ([0x43FA0000, 0x40500000, 0xC1880000, 0x3A83126F, 0x80000000] ++ List.replicate 27 0)).2.1.take 5 = [0x7E, 0x45, 0xD8, 0x01, 0x80]) ∧
  ((quantiseBlock 5 ([0x43FA0000, 0x40500000, 0xC1880000, 0x3A83126F, 0x80000000] ++ List.replicate 27 0)).2.2 = 1) ∧
  ((quantiseBlock 5 (0x7F800000 :: List.replicate 31 0)).1 = 0xFF ∧ decodeMx 5 0xFF 0x45 = 0x7FC00000) ∧
  ((quantiseBlock 6 (0x477FFFFF :: List.replicate 31 0)).2.1.take 1 = [0x7B]) ∧
  ([0x7E, 0x45, 0xD8, 0x01, 0x80].map (decodeMx 5 0x7F) = [0x43E00000, 0x40500000, 0xC1800000, 0x3B000000, 0x80000000]) := 
  by and_intros <;> decide +kernel

theorem test_fold_of_the_worked_example :
  addFp32 (addFp32 0x4B800000 0x3F800000) 0x3F800000 = 0x4B800000 ∧ addFp32 (addFp32 0x3F800000 0x3F800000) 0x4B800000 = 0x4B800001 := by decide +kernel

theorem test_line_place_of_the_worked_example :
  (State.reset.placeLine 2 268435625 = (185, 3834794) ∧ (put [(Obj.channelState 170, 2)]).placeLine 2 268435625 = (185, 3883336)) ∧
  (State.reset.dataLine 185 3834794 = some (2 * 2 ^ 32 + 268435625) ∧ State.reset.dataLine 185 3834799 = none) := 
  by and_intros <;> decide +kernel

theorem test_landing_place_of_the_worked_example :
  0x052B0000 / 33554432 = 2 ∧ 0x052B0000 % 33554432 = 37 * 524288 + 196608 := by decide +kernel

theorem test_segment_iv_of_the_worked_example :
  segmentIv 41 0x2A17 0x8F3C0D21 = [0x29, 0x00, 0x2A, 0x17, 0, 0, 0, 0, 0x8F, 0x3C, 0x0D, 0x21] := by decide +kernel

theorem test_philox_of_zeros :
  philox 0 0 (0, 0, 0, 0) = [0x6627E8D5, 0xE169C58D, 0xBC57AC4C, 0x9B00DBD8] := by decide +kernel

theorem test_admit_shortfall_of_the_worked_example :
  let s := (put [(Obj.hoopState 3, 1), (Obj.hoopMemoryCapacity 3, 154618822656), (Obj.jobDeclaredMemory 3, 157353508864)]).setHoop 3 { plan := [1] }
  (after (exec (.admitJob hub 3) s)).num (Obj.admissionShortfall 3) = 2734686208 := by decide +kernel



theorem test_step_takes_the_front_command :
  (match step { State.reset with pending := [.powerOn true true, .resetComplete] } with | .next t => t.pending | _ => []) = [.resetComplete] := by decide +kernel

theorem test_reset_is_stage_1 :
  State.reset.num Obj.startupStage = 1 ∧ State.reset.num (Obj.hoopState 15) = 0 := by decide +kernel

theorem test_configure_reserves_the_last_tile :
  let s := put [(Obj.hoopMemoryCapacity 15, 2097152), (Obj.hoopTileMask 15, 2 ^ 47), (Obj.hoopContextMinimum 15, 1)]
  (after (exec (.configure hub 15) s)).num (Obj.tileOwner 47) = 15 := by decide +kernel

theorem test_start_runs_the_hoop :
  (after (exec (.start hub 0) (hoopIn 4 []))).num (Obj.hoopState 0) = 2 := by decide +kernel

theorem test_configure_refuses_no_tiles :
  (after (exec (.configure hub 0) (put [(Obj.hoopMemoryCapacity 0, 2097152)]))).num (Obj.hoopState 0) = 0 := by decide +kernel

theorem test_add_wraps :
  s3After 0x10 (.addS 0 s312) (2 ^ 64 - 1) 1 = 0 ∧ s3After 0x11 (.subS 0 s312) 0 1 = 2 ^ 64 - 1 := by decide +kernel

theorem test_mulhu_high_half :
  s3After 0x13 (.mulhu 0 s312) (2 ^ 64 - 1) (2 ^ 64 - 1) = 2 ^ 64 - 2 ∧ s3After 0x12 (.mulS 0 s312) (2 ^ 64 - 1) (2 ^ 64 - 1) = 1 := by decide +kernel

theorem test_compares_sign :
  s3After 0x1B (.slt 0 s312) (2 ^ 64 - 1) 0 = 1 ∧ s3After 0x1A (.sltu 0 s312) (2 ^ 64 - 1) 0 = 0 ∧ s3After 0x1C (.seq 0 s312) 7 7 = 1 := by decide +kernel

theorem test_shift_right_signs :
  s3After 0x19 (.sra 0 s312) (2 ^ 63) 63 = 2 ^ 64 - 1 ∧ s3After 0x18 (.shr 0 s312) (2 ^ 63) 63 = 1 := by decide +kernel

theorem test_branch_taken_and_not :
  ((after (exec (.beqz 0 { a := 1, imm := 4 }) (withScalars 0x02 { a := 1, imm := 4 } 0 0))).tile 0).pc ≠ ((after (exec (.beqz 0 { a := 1, imm := 4 }) (withScalars 0x02 { a := 1, imm := 4 } 1 0))).tile 0).pc := by decide +kernel

theorem test_trap_faults_the_hoop :
  (after (exec (.trap 0 { imm := 9 }) (lab (coded 0x09 { imm := 9 } labTile)))).num (Obj.hoopState 0) = 6 ∧ (after (exec (.trap 0 { imm := 9 }) (lab (coded 0x09 { imm := 9 } labTile)))).num (Obj.hoopState 1) = 0 := by decide +kernel

theorem test_cnp_halves_the_rate :
  (after (exec (.cnpReceived origin) (qpLab.setNum (Obj.qpRate 0) 200000))).num (Obj.qpRate 0) = 100000 := by decide +kernel

theorem test_full_mailbox_keeps_its_word :
  let s := after (exec (.mailboxPostRegisterWrite 63 1) (after (exec (.mailboxPostRegisterWrite 63 0xDEADBEEF) State.reset)))
  s.num (Obj.mailboxWord 63) = 0xDEADBEEF ∧ s.num (Obj.mailboxState 63) = 5 := by decide +kernel

theorem test_take_empties_the_mailbox :
  let s := after (exec (.mailboxTakeRegisterRead 5) (put [(Obj.mailboxState 5, 7), (Obj.mailboxWord 5, 3)]))
  s.num (Obj.mailboxState 5) % 8 = 0 := by decide +kernel

theorem test_cold_reset_enters_stage_2 :
  let s := put [(Obj.moduleState, 2), (Obj.hoopState 4, 2)]
  let t := after (exec (.resetCold hub) { s with boot := { s.boot with resetting := none } })
  t.num Obj.startupStage = 2 ∧ t.num (Obj.hoopState 4) = 0 ∧ t.num Obj.lastResetClass = 1 := by decide +kernel

theorem test_write_takes_effect_whole :
  (after (exec (.dictWrite hub 0x2007 0x03 0 [2, 0, 0]) State.reset)).dict = State.reset.dict := by decide +kernel

theorem test_tb0_refuses_set_time :
  (after (exec (.tbSetTime hub 0 5) State.reset)).time = State.reset.time ∧ (after (exec (.tbSetTime hub 1 5) State.reset)).time ≠ State.reset.time := by decide +kernel

theorem test_unknown_object_is_refused :
  findRow 0x12345 = none := by decide +kernel

theorem test_mgt_link_comes_up :
  (after (exec (.mgtLinkStateChange 1 true) State.reset)).num (Obj.mgtLinkState 1) = 1 ∧ (after (exec (.mgtLinkStateChange 1 true) State.reset)).num (Obj.mgtLinkState 0) = 0 := by decide +kernel

theorem test_clkout_refuses_an_unnamed_source :
  (after (exec (.clkoutWrite hub 3 0x70) State.reset)).num Obj.clkoutSelect = State.reset.num Obj.clkoutSelect := by decide +kernel

theorem test_d3hot_return_sends_pending_vectors :
  (after (exec (.pciePowerStateWrite false) { State.reset with control := { State.reset.control with d3hot := true, msixPending := [3] } })).control.msixPending = [] := by decide +kernel

end Sys2Proof.Machine
end

namespace Sys2Proof

open Sys2Proof.Machine

/-! ## The canonical form is kept

One lemma for each function of the model that changes the state, in the order of the model: `hs.f` says that the function `f`
keeps the canonical form, so that the proof for a function that calls others reads as their composition. What writes neither the
object store nor module memory is `hs.keep`. The last lemmas, `Canonical.exec` and `Canonical.step`, go through the commands. -/

/-- What changes neither the object store nor module memory keeps the canonical form. -/
theorem Canonical.keep {s : State} {pending out freeCtr control events boot security meter line time work pools tiles fabric memory
    optics net power} (hs : Canonical s) : Canonical ⟨pending, s.dict, s.mem, out, freeCtr, control, events, boot, security, meter,
      line, time, work, pools, tiles, fabric, memory, optics, net, power⟩ := hs

theorem canonical_ite {c : Prop} [Decidable c] {s t : State} (hs : Canonical s) (ht : Canonical t) :
    Canonical (if c then s else t) := by
  split
  · exact hs
  · exact ht

theorem Canonical.branch {c : Prop} [Decidable c] {s t u : State} (hs : Canonical s) (ht : Canonical s → Canonical t)
    (hu : Canonical s → Canonical u) : Canonical (if c then t else u) :=
  canonical_ite (ht hs) (hu hs)

theorem Canonical.iteThen {c : Prop} [Decidable c] {s t : State} (hs : Canonical s) (ht : Canonical s → Canonical t) :
    Canonical (if c then t else s) :=
  canonical_ite (ht hs) hs

theorem Canonical.iteElse {c : Prop} [Decidable c] {s t : State} (hs : Canonical s) (ht : Canonical s → Canonical t) :
    Canonical (if c then s else t) :=
  canonical_ite hs (ht hs)

theorem canonical_getD {o : Option State} {s : State} (ho : ∀ t, o = some t → Canonical t) (hs : Canonical s) :
    Canonical (o.getD s) := by
  cases o with
  | none => exact hs
  | some t => exact ho t rfl

theorem canonical_foldl {α β : Type} {f : State × β → α → State × β} (hf : ∀ r x, Canonical r.1 → Canonical (f r x).1)
    (l : List α) {r : State × β} (hr : Canonical r.1) : Canonical (l.foldl f r).1 := by
  induction l generalizing r with
  | nil => exact hr
  | cons x l ih => exact ih (hf r x hr)

/-- Every next state that an outcome answers is canonical. -/
def NextCanonical : Host.Outcome State Fault Refusal → Prop
  | .next t => Canonical t
  | _ => True

theorem nextCanonical_ite {c : Prop} [Decidable c] {x y : Host.Outcome State Fault Refusal} (hx : NextCanonical x)
    (hy : NextCanonical y) : NextCanonical (if c then x else y) := by
  split
  · exact hx
  · exact hy

/-- Where an operation answers a state, it is canonical. -/
def SomeCanonical {α : Type} : Option (State × α) → Prop
  | some r => Canonical r.1
  | none => True

theorem SomeCanonical.bind {α β : Type} {o : Option (State × α)} {f : State × α → Option (State × β)} (ho : SomeCanonical o)
    (hf : ∀ r, Canonical r.1 → SomeCanonical (f r)) : SomeCanonical (o.bind f) := by
  cases o with
  | none => trivial
  | some r => exact hf r ho

theorem SomeCanonical.map {α β : Type} {o : Option (State × α)} {f : State × α → State × β} (ho : SomeCanonical o)
    (hf : ∀ r, (f r).1 = r.1) : SomeCanonical (o.map f) := by
  cases o with
  | none => trivial
  | some r =>
    show Canonical (f r).1
    rw [hf]
    exact ho

theorem someCanonical_foldl {α β : Type} {f : Option (State × β) → α → Option (State × β)}
    (hf : ∀ o x, SomeCanonical o → SomeCanonical (f o x)) (l : List α) {o : Option (State × β)} (ho : SomeCanonical o) :
    SomeCanonical (l.foldl f o) := by
  induction l generalizing o with
  | nil => exact ho
  | cons x l ih => exact ih (hf o x ho)

/-- The state that a placement of bytes in a window leaves is canonical (R217). -/
def PlacingCanonical : Placing → Prop
  | .placed t _ => Canonical t
  | .wait t => Canonical t

theorem PlacingCanonical.of_placed {p : Placing} {t : State} {n : Nat} (hp : PlacingCanonical p) (e : p = .placed t n) :
    Canonical t := by
  subst e
  exact hp

theorem PlacingCanonical.of_wait {p : Placing} {t : State} (hp : PlacingCanonical p) (e : p = .wait t) : Canonical t := by
  subst e
  exact hp

/-- The state that the dispatch of an instruction leaves is canonical (R110). -/
def IssueCanonical : Issue → Prop
  | .ok t _ => Canonical t
  | .enter t _ _ _ => Canonical t
  | .stay t => Canonical t
  | .jump t _ => Canonical t
  | _ => True

/-- The state that a queue's head leaves is canonical (R110, R113). -/
def HeadCanonical : HeadStep → Prop
  | .completed t => Canonical t
  | .becomes t _ => Canonical t
  | _ => True

theorem issueCanonical_ite {c : Prop} [Decidable c] {x y : Issue} (hx : IssueCanonical x) (hy : IssueCanonical y) :
    IssueCanonical (if c then x else y) := by
  split
  · exact hx
  · exact hy

section Ops

/-! ### The functions of Ops -/

variable {s : State} {k w : Nat}

theorem Canonical.countUp {top : Nat} (hs : Canonical s) : Canonical (s.countUp k top) :=
  canonical_ite (hs.setNum _ _ |>.keep) hs

theorem Canonical.store {a : Nat} {b : Bytes} (hs : Canonical s) : Canonical (s.store a b) := by
  refine ⟨hs.1, ?_⟩
  simp only [State.store]
  split
  · exact Memory.wf_writeBytes _ _ hs.2
  · exact hs.2

theorem Canonical.enqueue {r : EmitRequest} (hs : Canonical s) : Canonical (s.enqueue w r) := canonical_ite hs.keep hs.keep

theorem Canonical.sendModule {vc kind : Nat} {rest payload : Bytes} (hs : Canonical s) :
    Canonical (s.sendModule w vc kind rest payload) :=
  hs.enqueue

theorem Canonical.dropLatch {rq : Requester} (hs : Canonical s) : Canonical (s.dropLatch rq k) := canonical_ite hs hs.keep

end Ops

section PoolOps

/-! ### The functions of PoolOps -/

variable {s : State} {handles : List Nat} {c h k key : Nat}

theorem Canonical.returnFrame (hs : Canonical s) : Canonical (s.returnFrame key) := ⟨hs.1, Memory.wf_zero _ _ hs.2⟩

theorem Canonical.countPools (hs : Canonical s) : Canonical (s.countPools h) :=
  hs.setNum _ _ |>.each _ (fun _ _ ht => ht.setNum _ _) _ |>.setNum _ _ |>.setNum _ _ |>.setNum _ _ |>.each _
    (fun _ _ ht => ht.setNum _ _ |>.setNum _ _ |>.setNum _ _ |>.setNum _ _) _

theorem Canonical.takeFrom {f : Frame} {tag : BufferTag} (hs : Canonical s) : Canonical (s.takeFrom key f tag).1 := hs.keep

theorem Canonical.takeBuffer {c : Nat} {tag : BufferTag} {r : State × Nat} (hs : Canonical s)
    (e : s.takeBuffer h c tag = some r) : Canonical r.1 := by
  obtain ⟨m, -, hm⟩ := List.exists_of_findSome?_eq_some e
  obtain ⟨x, -, rfl⟩ := Option.map_eq_some_iff.1 hm
  exact hs.takeFrom

theorem Canonical.carve {owner c : Nat} {r : State × Nat} (hs : Canonical s) (e : s.carve h owner c = some r) :
    Canonical r.1 := by
  obtain ⟨m, -, hm⟩ := List.exists_of_findSome?_eq_some e
  obtain ⟨f, -, rfl⟩ := Option.map_eq_some_iff.1 hm
  exact hs.keep

theorem Canonical.allocated (hs : Canonical s) : Canonical (s.allocated h k) := hs.countPools.setNum _ _

theorem Canonical.grant {group : Option Nat} {c : Nat} {r : State × Nat} (hs : Canonical s)
    (e : s.grant h k group c = some r) : Canonical r.1 := by
  obtain ⟨t, ht, rfl⟩ := Option.map_eq_some_iff.1 e
  refine Canonical.allocated ?_
  split at ht
  · exact hs.takeBuffer ht
  · split at ht
    · obtain ⟨u, hu, ht⟩ := Option.bind_eq_some_iff.1 ht
      exact (hs.carve hu).takeBuffer ht
    · nomatch ht

theorem Canonical.countWaiting (hs : Canonical s) : Canonical (s.countWaiting h k) := hs.setNum _ _

theorem Canonical.beginEpisode {e : Nat} (hs : Canonical s) : Canonical (s.beginEpisode h k e) :=
  hs.keep.bump _ _ _ |>.raise _ _ |>.iteThen (·.raise _ _)

theorem Canonical.startWait {r : PoolRequest} (hs : Canonical s) : Canonical (s.startWait r) :=
  hs.keep.countWaiting.iteElse (·.beginEpisode)

theorem Canonical.deferSegment (hs : Canonical s) : Canonical (s.deferSegment h k) :=
  hs.bump _ _ _ |>.iteThen (·.beginEpisode)

theorem Canonical.endEpisode (hs : Canonical s) : Canonical (s.endEpisode h k) := hs.countWaiting.iteThen (·.keep)

theorem Canonical.poolRequest {group : Option Nat} {c : Nat} {r : State × Nat} (hs : Canonical s)
    (e : s.poolRequest h k group c = some r) : Canonical r.1 := by
  unfold State.poolRequest at e
  split at e
  · nomatch e
  · obtain ⟨t, ht, rfl⟩ := Option.map_eq_some_iff.1 e
    exact (hs.grant ht).endEpisode

theorem Canonical.trimFrame (hs : Canonical s) : Canonical (s.trimFrame h c key) := by
  unfold State.trimFrame
  split
  · exact hs
  · exact canonical_ite hs.returnFrame hs

theorem Canonical.trim (hs : Canonical s) : Canonical (s.trim h c) := hs.each _ (fun _ _ ht => ht.trimFrame) _

theorem Canonical.dropWaiting {p : PoolRequest → Bool} (hs : Canonical s) : Canonical (s.dropWaiting p) :=
  hs.keep.each _ (fun _ _ ht => ht.endEpisode.trim.countPools) _

/-- The kernel compares two unfoldings of a recursion by evaluating what they match on, here `carve`, which searches tables of
2^17 entries. So `carve` stands as a variable of which no more is known than that it keeps the canonical form. -/
theorem Canonical.back {n c : Nat} (hs : Canonical s) : Canonical (State.back n s h c) := by
  have hc (s t) (hs : Canonical s) (e : s.carve h (4 * h + 1) c = some t) : Canonical t.1 := hs.carve e
  obtain ⟨carve, hcarve⟩ : ∃ f, f = State.carve := exists_eq
  delta State.back State.back._f
  rw [← hcarve] at hc ⊢
  induction n generalizing s with
  | zero => exact hs
  | succ n ih =>
    change Canonical (if _ then _ else _)
    split
    · exact hs
    · split
      next e => exact ih (hc _ _ hs e)
      · exact hs

theorem Canonical.settlePool (hs : Canonical s) : Canonical (s.settlePool h c) := hs.back.trim.countPools

theorem Canonical.settleBacking (hs : Canonical s) : Canonical (s.settleBacking h) :=
  hs.each _ (fun _ _ ht => ht.back.trim) _ |>.setNum _ _ |>.countPools

theorem Canonical.refuseFree {handle : Nat} {holder : Option Nat} (hs : Canonical s) :
    Canonical (s.refuseFree h handle holder) := by
  unfold State.refuseFree
  dsimp only
  split
  · exact hs.bump _ _ _ |>.raise _ _ |>.keep
  · exact hs.bump _ _ _ |>.raise _ _

theorem Canonical.freeHandle {handle : Nat} {t : State} (hs : Canonical s) (e : s.freeHandle h handle = .freed t) :
    Canonical t := by
  unfold State.freeHandle at e
  split at e
  · nomatch e
  · dsimp only at e
    split at e
    · nomatch e
    · cases e
      exact hs.keep.trim.countPools

theorem Canonical.freeEach {handles : List Nat} (hs : Canonical s) : Canonical (s.freeEach h handles) := by
  refine hs.each _ (fun _ _ ht => ?_) _
  split
  next e => exact ht.freeHandle e
  · exact ht.refuseFree

theorem Canonical.keepFor {g : Option Nat} (hs : Canonical s) : Canonical (s.keepFor g handles) := by
  unfold State.keepFor
  refine hs.each _ (fun _ _ ht => ?_) _
  split
  · exact ht
  · split
    · exact ht
    · exact ht.keep

theorem Canonical.letGo {keep : Option Nat} (hs : Canonical s) : Canonical (s.letGo h keep handles) :=
  canonical_ite hs.keepFor hs.freeEach

theorem Canonical.returnHoopFrames (hs : Canonical s) : Canonical (s.returnHoopFrames h) :=
  hs.dropWaiting.each _ (fun _ _ ht => ht.returnFrame) _ |>.setNum _ _ |>.countPools

/-- `carve` stands as a variable, as in `Canonical.back`. -/
theorem Canonical.carvePlan {n : Nat} (hs : Canonical s) : Canonical (State.carvePlan n s h).1 := by
  have hc (s t) (hs : Canonical s) (e : s.carve h (4 * h + 1) 4 = some t) : Canonical t.1 := hs.carve e
  obtain ⟨carve, hcarve⟩ : ∃ f, f = State.carve := exists_eq
  delta State.carvePlan State.carvePlan._f
  rw [← hcarve] at hc ⊢
  induction n generalizing s with
  | zero => exact hs
  | succ n ih =>
    dsimp only [Nat.brecOn]
    split
    · exact hs
    next e => exact ih (hc _ _ hs e).keep

theorem Canonical.storePieces {l : List (Nat × Nat)} {b : Bytes} (hs : Canonical s) : Canonical (s.storePieces l b) := by
  induction l generalizing s b with
  | nil => exact hs
  | cons x l ih => exact ih hs.store

theorem Canonical.writeFrames {frames : List Nat} {off : Nat} {b : Bytes} (hs : Canonical s) :
    Canonical (s.writeFrames frames off b) :=
  hs.storePieces

end PoolOps

section PlanOps

/-! ### The functions of PlanOps -/

variable {s : State}

theorem Canonical.writePlan {h b parity off : Nat} {data : Bytes} (hs : Canonical s) :
    Canonical (s.writePlan h b parity off data) :=
  hs.writeFrames

end PlanOps

section FabricOps

/-! ### The functions of FabricOps -/

variable {s : State} {q : Nat}

theorem Canonical.setPsns {expected send : Nat} (hs : Canonical s) : Canonical (s.setPsns q expected send) := hs.setNum _ _

theorem Canonical.solicit (hs : Canonical s) : Canonical (s.solicit q) := canonical_ite hs hs.keep

theorem Canonical.respond {answers : List Signal} (hs : Canonical s) : Canonical (s.respond q answers) :=
  canonical_ite hs (canonical_ite (hs.each _ (fun _ _ ht => ht.keep) _) hs.keep.solicit)

theorem Canonical.sendPacket {x : FabricPacket} (hs : Canonical s) : Canonical (s.sendPacket q x) :=
  hs.keep.bump _ _ _ |>.bump _ _ _

theorem Canonical.sendWhere {p : FabricPacket → Bool} (hs : Canonical s) : Canonical (s.sendWhere q p) :=
  canonical_ite hs (canonical_ite (hs.each _ (fun _ _ ht => ht.sendPacket) _ |>.keep) (hs.keep.iteThen (·.solicit)))

theorem Canonical.flushQp (hs : Canonical s) : Canonical (s.flushQp q) := hs.sendWhere

theorem Canonical.goBack {psn : Nat} (hs : Canonical s) : Canonical (s.goBack q psn) := hs.sendWhere

theorem Canonical.flushPort {p : Nat} (hs : Canonical s) : Canonical (s.flushPort p) :=
  hs.each _ (fun _ _ ht => canonical_ite ht.flushQp ht) _

theorem Canonical.rdmaWrite {address key : Nat} {data : Bytes} {result : Option (Nat × Nat × Nat)} (hs : Canonical s) :
    Canonical (s.rdmaWrite q address key data result) :=
  hs.keep.setPsns.flushQp

theorem Canonical.writeTarget {h t off : Nat} {data : Bytes} {result : Option (Nat × Nat × Nat)} {u : State}
    (hs : Canonical s) (e : s.writeTarget h t off data result = some u) : Canonical u := by
  obtain ⟨q, -, rfl⟩ := Option.map_eq_some_iff.1 e
  exact hs.rdmaWrite

theorem Canonical.endLanding {h w gen i : Nat} {keep : Option Nat} (hs : Canonical s) :
    Canonical (s.endLanding h w gen i keep) :=
  hs.keep.letGo

end FabricOps

section LineOps

/-! ### The functions of LineOps -/

variable {s : State} {b : Bool} {payload : Bytes} {address k kind w : Nat}

theorem Canonical.noteStakes (hs : Canonical s) : Canonical (s.noteStakes w) := hs.setNum _ _

theorem Canonical.setStakes {a b : Option Nat} {p : Bool} (hs : Canonical s) : Canonical (s.setStakes w a b p) :=
  canonical_ite hs (hs.keep.noteStakes.bump _ _ _ |>.raise _ _)

theorem Canonical.redesignate (hs : Canonical s) : Canonical (s.redesignate w) := by
  unfold State.redesignate
  dsimp only
  split
  · exact hs
  · split
    · exact hs.setStakes
    · exact hs.setStakes
    · exact hs.setStakes
  · exact hs.setStakes

theorem Canonical.countWales (hs : Canonical s) : Canonical s.countWales := hs.setNum _ _

theorem Canonical.hold (hs : Canonical s) : Canonical (s.hold w) := canonical_ite (hs.keep.setNum _ _ |>.raise _ _) hs

theorem Canonical.settleWale (hs : Canonical s) : Canonical (s.settleWale w) :=
  hs.setNum _ _ |>.countWales |>.iteThen (·.hold)

theorem Canonical.leaveMap {lanes : List Nat} (hs : Canonical s) : Canonical (s.leaveMap w lanes) :=
  canonical_ite hs (hs.keep.setNum _ _ |>.each _ (fun _ _ ht => ht.raise _ _) _ |>.redesignate |>.settleWale)

theorem Canonical.laneLeaves (hs : Canonical s) : Canonical (s.laneLeaves k) := by
  unfold State.laneLeaves
  split
  · exact canonical_ite hs.keep hs
  · exact hs

theorem Canonical.applyFrameChanges (hs : Canonical s) : Canonical (s.applyFrameChanges w) := by
  unfold State.applyFrameChanges
  dsimp only
  split
  · exact hs.leaveMap.keep.setStakes
  · exact hs.leaveMap.keep.setStakes
  · exact hs.leaveMap.keep

theorem Canonical.setDefect {d : Defect} (hs : Canonical s) : Canonical (s.setDefect k d b) := hs.setNum _ _

theorem Canonical.setAis {cause : AisCause} (hs : Canonical s) : Canonical (s.setAis k cause b) :=
  hs.keep.setDefect.iteThen (·.laneLeaves)

theorem Canonical.sendFabric (hs : Canonical s) : Canonical (s.sendFabric address kind payload).1 := by
  unfold State.sendFabric
  split
  · exact hs
  · exact hs.enqueue

theorem Canonical.sendFabricHello (hs : Canonical s) : Canonical (s.sendFabricHello w) := hs.sendModule

theorem Canonical.flushNotices (hs : Canonical s) : Canonical s.flushNotices :=
  hs.each _ (fun _ _ ht => canonical_ite ht.sendFabric.keep ht) _

theorem Canonical.noteFenced {h : Nat} (hs : Canonical s) : Canonical (s.noteFenced h address) := hs.keep.flushNotices

theorem Canonical.sendKey {session epoch mode : Nat} (hs : Canonical s) :
    Canonical (s.sendKey w kind session epoch mode payload) :=
  hs.sendModule

theorem Canonical.noteSessions (hs : Canonical s) : Canonical (s.noteSessions w) := hs.each _ (fun _ _ ht => ht.setNum _ _) _

theorem Canonical.closeSession {n : Nat} (hs : Canonical s) : Canonical (s.closeSession w n) := hs.keep.noteSessions

theorem Canonical.dropTransit (hs : Canonical s) : Canonical (s.dropTransit w) :=
  hs.each _ (fun _ _ ht => canonical_ite ht.keep ht) _

theorem Canonical.clearRepeat (hs : Canonical s) : Canonical (s.clearRepeat w) :=
  hs.keep.dropTransit.each _ (fun _ _ ht => ht.setNum _ _) _

theorem Canonical.sendReply (hs : Canonical s) : Canonical (s.sendReply w) := hs.keep.setNum _ _ |>.sendKey

theorem Canonical.startHandshake (hs : Canonical s) : Canonical (s.startHandshake w) :=
  canonical_ite hs (hs.keep.noteSessions.clearRepeat.keep.keep.keep.setNum _ _ |>.sendKey |>.iteElse (·.sendReply))

theorem Canonical.sessionRefused {status : Nat} (hs : Canonical s) : Canonical (s.sessionRefused w status) :=
  hs.keep.setNum _ _ |>.setNum _ _ |>.raise _ _

theorem Canonical.loseWale (hs : Canonical s) : Canonical (s.loseWale w) := by
  unfold State.loseWale
  extract_lets v s1 s2 s3
  have h3 : Canonical s3 := hs.keep.noteSessions.clearRepeat.setNum _ _ |>.setNum _ _ |>.raise _ _
  exact canonical_ite h3 h3.startHandshake

theorem Canonical.enterMap (hs : Canonical s) : Canonical (s.enterMap w k) :=
  canonical_ite hs (hs.keep.setNum _ _ |>.raise _ _ |>.iteThen (·.redesignate) |>.settleWale |>.iteThen (·.startHandshake))

theorem Canonical.requestRun {run : Nat × Nat} (hs : Canonical s) : Canonical (s.requestRun w run) := canonical_ite hs hs.keep

theorem Canonical.requestAgain {counter : Nat} (hs : Canonical s) : Canonical (s.requestAgain w counter) := hs.keep.requestRun

end LineOps

section MemoryOps

/-! ### The functions of MemoryOps -/

variable {s : State} {r : Config.Region} {lines : List Nat} {a b c n : Nat}

theorem Canonical.noteUncorrectable (hs : Canonical s) : Canonical (s.noteUncorrectable c) :=
  hs.bump _ _ _ |>.bump _ _ _ |>.keep |>.iteThen (fun h => h.keep.raise _ _)

theorem Canonical.noteBadLines (hs : Canonical s) : Canonical (s.noteBadLines lines) :=
  hs.each _ (fun _ _ ht => ht.noteUncorrectable) _

theorem Canonical.clearLines (hs : Canonical s) : Canonical (s.clearLines lines) := canonical_ite hs hs.keep

theorem Canonical.writeMirrored (hs : Canonical s) : Canonical (s.writeMirrored r a b n) := hs.clearLines

theorem Canonical.readMirrored (hs : Canonical s) : Canonical (s.readMirrored r a b n).1 := by
  unfold State.readMirrored
  split
  · exact hs
  · refine canonical_foldl (fun _ _ ht => ?_) _ hs
    dsimp only
    split
    · exact ht
    · split
      · exact ht.noteBadLines.noteBadLines
      · exact ht.noteBadLines.clearLines.bump _ _ _

theorem Canonical.loseChannel (hs : Canonical s) : Canonical (s.loseChannel c) := by
  unfold State.loseChannel
  extract_lets s1
  have h1 : Canonical s1 := hs.setP _ _
  exact canonical_ite (h1.raise _ _) h1

theorem Canonical.countCapacity (hs : Canonical s) : Canonical s.countCapacity := hs.setNum _ _

end MemoryOps

section HoopOps

/-! ### The functions of HoopOps -/

variable {s : State} {keep : Bool} {cause g gen h i q seq status t unit w : Nat} {o : Operation} {r : Retained}

theorem Canonical.setIndices {p c : Nat} (hs : Canonical s) : Canonical (s.setIndices g p c) := hs.setNum _ _

theorem Canonical.writeRecord {d : Bytes} {type flags : Nat} {chunk : Option Nat} {place chunksDone : Nat}
    (hs : Canonical s) : Canonical (s.writeRecord g d type flags status chunk place chunksDone) := by
  unfold State.writeRecord
  dsimp only
  split
  · exact hs
  · exact hs.rdmaWrite.iteThen (·.rdmaWrite)

theorem Canonical.emitTo {vc address opSequence epochTag : Nat} {tail payload : Bytes} {operation : Option (Nat × Nat × Nat)}
    {ticket : Option EmitTicket} (hs : Canonical s) : Canonical
    (s.emitTo h vc address opSequence epochTag tail payload operation ticket) :=
  hs.enqueue

theorem Canonical.settleTile (hs : Canonical s) : Canonical (s.settleTile t) := canonical_ite (hs.setNum _ _) hs

theorem Canonical.leaveTile {c : Nat × Nat × Nat} (hs : Canonical s) : Canonical (s.leaveTile t c) := hs.keep.settleTile

theorem Canonical.advanceGen (hs : Canonical s) : Canonical (s.advanceGen w i gen) := canonical_ite hs hs.keep

theorem Canonical.dropEmits (hs : Canonical s) : Canonical (s.dropEmits g seq) :=
  hs.each _ (fun _ _ ht => canonical_ite ht.keep ht) _

theorem Canonical.endHoldings (hs : Canonical s) : Canonical (s.endHoldings g o keep) :=
  hs.each _ (fun _ _ ht => ht.leaveTile) _ |>.keep |>.each _ (fun _ _ ht => ht.endLanding) _ |>.keep |>.letGo |>.dropWaiting
    |>.dropEmits |>.keep

theorem Canonical.voidOperation (hs : Canonical s) : Canonical (s.voidOperation g o) := hs.endHoldings

theorem Canonical.endOpWith (hs : Canonical s) : Canonical (s.endOpWith keep g o status) :=
  hs.keep.iteElse (fun h => h.endHoldings.each _ (fun _ _ ht => ht.advanceGen) _)

theorem Canonical.endOp (hs : Canonical s) : Canonical (s.endOp g o status) := hs.endOpWith

theorem Canonical.settleMatch {step : Nat} (hs : Canonical s) : Canonical (s.settleMatch h step) :=
  canonical_ite hs (hs.keep.bump _ _ _ |>.iteThen (fun h => h.setNum _ _ |>.raise _ _))

theorem Canonical.retain (hs : Canonical s) : Canonical (s.retain g o) := canonical_ite hs hs.keep

theorem Canonical.runAgain {side redo : Nat} (hs : Canonical s) : Canonical (s.runAgain r side redo) :=
  canonical_ite hs hs.keep

theorem Canonical.abortOps (hs : Canonical s) : Canonical (s.abortOps g status keep) :=
  hs.each _ (fun _ _ ht => ht.endHoldings) _ |>.keep |>.each _ (fun _ _ ht => ht.endOpWith) _

theorem Canonical.forgetEvacuation (hs : Canonical s) : Canonical (s.forgetEvacuation h) := canonical_ite hs.keep hs

theorem Canonical.enterFault (hs : Canonical s) : Canonical (s.enterFault h cause unit) :=
  canonical_ite hs (hs.raise _ _ |>.iteElse (fun h => h.setNum _ _ |>.setNum _ _ |>.setNum _ _ |>.each _
    (fun _ _ ht => ht.abortOps) _ |>.dropWaiting |>.forgetEvacuation))

theorem Canonical.resendStreams {sites : Nat} (hs : Canonical s) : Canonical (s.resendStreams h g o sites) := by
  unfold State.resendStreams
  dsimp only
  split
  · exact hs
  · exact hs.each _ (fun _ _ ht => canonical_ite ht (canonical_ite ht.noteBadLines.enterFault (ht.each _
      (fun _ _ hu => hu.each _ (fun _ _ hv => hv.emitTo) _) _))) _

theorem Canonical.replay {c : Reconcile} (hs : Canonical s) : Canonical (s.replay h c r) :=
  hs.resendStreams.iteElse (fun h => h.iteElse (·.runAgain))

theorem Canonical.joinReplay (hs : Canonical s) : Canonical (s.joinReplay h g o) := by
  unfold State.joinReplay
  split
  · exact canonical_ite hs.replay hs
  · exact hs

theorem Canonical.freeContext (hs : Canonical s) : Canonical (s.freeContext g o) :=
  hs.keep.lower _ _ |>.lower _ _ |>.lower _ _

theorem Canonical.advanceStep (hs : Canonical s) : Canonical (s.advanceStep g o) :=
  canonical_ite (hs.bump _ _ _ |>.settleMatch |>.iteThen (·.raise _ _)) hs

theorem Canonical.markBroken (hs : Canonical s) : Canonical (s.markBroken g) := canonical_ite (hs.setNum _ _ |>.raise _ _) hs

theorem Canonical.breakOps (hs : Canonical s) : Canonical (s.breakOps g) :=
  hs.markBroken.each _ (fun _ _ ht => canonical_ite ht.endOp ht) _

theorem Canonical.settleOps {n : Nat} (hs : Canonical s) : Canonical (State.settleOps n s g) := by
  induction n generalizing s with
  | zero => exact hs
  | succ n ih =>
    unfold State.settleOps
    split
    · exact hs
    · split
      · exact hs
      · split
        · exact ih hs.endOp.markBroken
        · extract_lets place s1 s2 s3 s4
          have h3 : Canonical s3 := (hs.writeRecord.iteThen (·.retain)).freeContext
          have h4 : Canonical s4 := h3.iteThen (·.voidOperation.advanceStep.joinReplay)
          exact ih h4

theorem Canonical.endRedo (hs : Canonical s) : Canonical (s.endRedo g o) :=
  hs.writeRecord.iteThen (·.retain) |>.voidOperation |>.keep |>.iteThen (·.advanceStep)

theorem Canonical.settleRedo (hs : Canonical s) : Canonical (s.settleRedo g) := hs.each _ (fun _ _ ht => ht.endRedo) _

theorem Canonical.beginEvacuation (hs : Canonical s) : Canonical (s.beginEvacuation h) :=
  canonical_ite (hs.keep.setNum _ _) (hs.keep.setNum _ _ |>.setNum _ _)

theorem Canonical.stopHoop (hs : Canonical s) : Canonical (s.stopHoop h) := hs.setNum _ _ |>.iteThen (·.beginEvacuation)

theorem Canonical.settleHoop (hs : Canonical s) : Canonical (s.settleHoop h) := canonical_ite hs.stopHoop hs

theorem Canonical.settleRecords (hs : Canonical s) : Canonical (s.settleRecords g) := hs.settleOps.settleRedo

theorem Canonical.settleFault (hs : Canonical s) : Canonical (s.settleFault h) :=
  canonical_ite (hs.each _ (fun _ _ ht => ht.settleRecords) _) hs

theorem Canonical.faultHoop (hs : Canonical s) : Canonical (s.faultHoop h cause unit) := hs.enterFault.iteElse (·.settleFault)

theorem Canonical.settleFrees {n : Nat} (hs : Canonical s) : Canonical (State.settleFrees n s) := by
  induction n generalizing s with
  | zero => exact hs
  | succ n ih =>
    unfold State.settleFrees
    split
    · exact hs
    · exact ih (hs.keep.each _ (fun _ _ ht => ht.faultHoop) _)

theorem Canonical.checkFrees (hs : Canonical s) : Canonical s.checkFrees := hs.settleFrees

theorem Canonical.freeAll {handles : List Nat} (hs : Canonical s) : Canonical (s.freeAll h handles) := hs.freeEach.checkFrees

theorem Canonical.dropLanding (hs : Canonical s) : Canonical (s.dropLanding h w gen i) := hs.endLanding.checkFrees

theorem Canonical.settleGroup (hs : Canonical s) : Canonical (s.settleGroup g) :=
  hs.settleRecords.iteElse (·.settleFault) |>.checkFrees |>.settleHoop

theorem Canonical.breakGroup (hs : Canonical s) : Canonical (s.breakGroup g) := hs.breakOps.settleGroup

theorem Canonical.finishOp (hs : Canonical s) : Canonical (s.finishOp g seq status) := by
  unfold State.finishOp
  split
  · exact canonical_ite hs.endOp.settleGroup hs
  · exact hs

theorem Canonical.abortGroup (hs : Canonical s) : Canonical (s.abortGroup g status) := hs.abortOps.settleGroup

theorem Canonical.undeliverable (hs : Canonical s) : Canonical (s.undeliverable g seq) := hs.markBroken.finishOp

theorem Canonical.qpLost (hs : Canonical s) : Canonical (s.qpLost q) :=
  hs.each _ (fun _ _ ht => ht.each _ (fun _ _ hu => hu.endOp) _ |>.markBroken |>.settleGroup) _

theorem Canonical.qpError (hs : Canonical s) : Canonical (s.qpError q cause) :=
  canonical_ite (hs.setNum _ _ |>.setNum _ _ |>.keep |>.raise _ _ |>.iteThen (·.qpLost)) hs

theorem Canonical.enterSplit (hs : Canonical s) : Canonical (s.enterSplit h) := hs.setNum _ _ |>.iteThen (·.setNum _ _)

theorem Canonical.hoopFault (hs : Canonical s) : Canonical (s.hoopFault h cause unit) := hs.faultHoop.checkFrees

theorem Canonical.ownerFault {frame : Nat} (hs : Canonical s) : Canonical (s.ownerFault h frame) := hs.raise _ _ |>.hoopFault

theorem Canonical.deliverPlan {b parity off : Nat} {data : Bytes} (hs : Canonical s) :
    Canonical (s.deliverPlan h b parity off data) := by
  unfold State.deliverPlan
  split
  · exact hs.ownerFault
  · exact hs.writePlan

end HoopOps

section DomainOps

/-! ### The functions of DomainOps -/

variable {s : State} {d h t : Nat}

theorem Canonical.restoreDivider (hs : Canonical s) : Canonical (s.restoreDivider t) := hs.setFlag _ _ |>.keep

theorem Canonical.setSleep {x : Nat} (hs : Canonical s) : Canonical (s.setSleep d x) := hs.setNum _ _

theorem Canonical.abandonEntry (hs : Canonical s) : Canonical (s.abandonEntry d) := hs.setSleep.bump _ _ _

theorem Canonical.wakeDomain (hs : Canonical s) : Canonical (s.wakeDomain d) := by
  unfold State.wakeDomain
  split
  · exact hs.abandonEntry
  · exact hs.abandonEntry
  · exact hs.abandonEntry
  · exact hs.setSleep
  · exact hs.setSleep
  · exact hs.setSleep
  · exact hs

theorem Canonical.settleDomain (hs : Canonical s) : Canonical (s.settleDomain d) := by
  unfold State.settleDomain
  extract_lets _ s1
  have hs1 : Canonical s1 := hs.setNum _ _ |>.setNum _ _ |>.setNum _ _
  split
  · exact hs1
  · split
    · exact canonical_ite hs1.setSleep hs1
    · exact canonical_ite hs1.wakeDomain hs1
    · exact canonical_ite hs1.wakeDomain (canonical_ite (hs1.setSleep.bump _ _ _) hs1)
    · exact canonical_ite hs1.wakeDomain hs1
    · exact canonical_ite hs1.wakeDomain (canonical_ite hs1.setSleep (canonical_ite hs1.setSleep hs1))
    · exact canonical_ite hs1.wakeDomain hs1
    · exact canonical_ite hs1.wakeDomain hs1
    · exact hs1

theorem Canonical.settleTileDomain (hs : Canonical s) : Canonical (s.settleTileDomain t) := hs.settleDomain.settleDomain

theorem Canonical.voteBound (hs : Canonical s) : Canonical (s.voteBound t) :=
  canonical_ite (hs.setNum _ _ |>.settleTileDomain) hs

theorem Canonical.ownTile (hs : Canonical s) : Canonical (s.ownTile h t) :=
  hs.setNum _ _ |>.iteThen (·.setNum _ _) |>.iteThen (·.setNum _ _) |>.setNum _ _ |>.settleTileDomain

theorem Canonical.disownTile (hs : Canonical s) : Canonical (s.disownTile t) :=
  hs.keep.setNum _ _ |>.iteElse (·.setNum _ _) |>.keep |>.iteThen (·.setNum _ _) |>.setNum _ _ |>.settleTileDomain

theorem Canonical.setTiles {mask : Nat} (hs : Canonical s) : Canonical (s.setTiles h mask) :=
  hs.each _ (fun _ _ ht => ht.disownTile) _ |>.each _ (fun _ _ ht => ht.ownTile) _

end DomainOps

section OpticsOps

/-! ### The functions of OpticsOps -/

variable {s : State} {i k : Nat}

theorem Canonical.setPNum {n : Nat} (hs : Canonical s) : Canonical (s.setPNum k n) := hs.setP _ _

theorem Canonical.noteFec (hs : Canonical s) : Canonical (s.noteFec k) := hs.setNum _ _ |>.setNum _ _

theorem Canonical.settleLane (hs : Canonical s) : Canonical (s.settleLane k) :=
  (canonical_ite hs.noteFec hs).keep |>.setNum _ _

theorem Canonical.settlePair (hs : Canonical s) : Canonical (s.settlePair k) := hs.settleLane.settleLane.setNum _ _

theorem Canonical.settleOptics (hs : Canonical s) : Canonical s.settleOptics :=
  hs.each _ (fun _ _ ht => ht.settlePair) _ |>.keep |>.each _ (fun _ _ ht => ht.settleDomain) _

theorem Canonical.placePair (hs : Canonical s) : Canonical (s.placePair k) :=
  hs.setNum _ _ |>.setNum _ _ |>.keep |>.settleOptics

theorem Canonical.beginSwap {spare : Nat} (hs : Canonical s) : Canonical (s.beginSwap i spare) :=
  hs.setPNum.setPNum.setPNum.keep

theorem Canonical.assignSpares (hs : Canonical s) : Canonical s.assignSpares := by
  unfold State.assignSpares
  refine hs.each _ (fun _ _ ht => ?_) _
  split
  · split
    · exact ht.beginSwap
    · exact ht
  · exact ht

theorem Canonical.returnSpare (hs : Canonical s) : Canonical (s.returnSpare i) := by
  unfold State.returnSpare
  split
  · exact canonical_ite hs hs.setPNum.setPNum.keep
  · exact hs

theorem Canonical.evictLane (hs : Canonical s) : Canonical (s.evictLane k) :=
  canonical_ite hs (hs.laneLeaves.keep.settleOptics.raise _ _ |>.iteThen (fun h => h.returnSpare.iteThen (·.setPNum)
    |>.assignSpares))

theorem Canonical.retireServing (hs : Canonical s) : Canonical (s.retireServing i) := by
  unfold State.retireServing
  refine Canonical.setPNum ?_ |>.settleOptics |>.assignSpares
  split
  · exact hs.evictLane
  · exact hs.returnSpare

theorem Canonical.noSpare (hs : Canonical s) : Canonical (s.noSpare i) := hs.setPNum.raise _ _

end OpticsOps

section Scheduling

/-! ### The functions of Scheduling -/

variable {a s : State} {r : EmitRequest} {n vc w : Nat} {rq : Requester}

theorem Canonical.windowWait (hs : Canonical s) : Canonical (s.windowWait w vc) :=
  canonical_ite hs (hs.keep.bump _ _ _ |>.iteThen (·.raise _ _))

theorem Canonical.rekeyDue (hs : Canonical s) : Canonical (s.rekeyDue w n) :=
  canonical_ite hs (canonical_ite hs.keep.sendKey (canonical_ite hs.keep hs))

theorem Canonical.accept {counter : Nat} (hs : Canonical s) : Canonical (s.accept w counter) := hs.keep.setNum _ _

theorem Canonical.acceptTransit (hs : Canonical s) : Canonical (s.acceptTransit r) := by
  unfold State.acceptTransit
  split
  · exact hs.accept
  · exact hs

theorem Canonical.pathFault (hs : Canonical s) : Canonical (s.pathFault w) :=
  (canonical_ite hs hs.keep.setAis).bump _ _ _ |>.raise _ _

theorem Canonical.countSent (hs : Canonical s) : Canonical (s.countSent w n) :=
  hs.keep.iteThen (·.rekeyDue) |>.iteThen (·.raise _ _)

theorem Canonical.sendRequest (hs : Canonical s) : Canonical (s.sendRequest w n r) :=
  hs.writeMirrored.keep.countSent.acceptTransit.setNum _ _ |>.bump _ _ _ |>.bump _ _ _

theorem Canonical.sackSent (hs : Canonical s) : Canonical (s.sackSent w) := hs.keep.bump _ _ _

theorem Canonical.sendLink {kind : Nat} {message : Bytes} (hs : Canonical s) : Canonical (s.sendLink w kind message) :=
  canonical_ite hs (canonical_ite hs.pathFault (hs.keep.countSent.iteThen (·.sackSent)))

theorem Canonical.chargeMeter (hs : Canonical s) : Canonical (s.chargeMeter r) := by
  unfold State.chargeMeter
  split
  · dsimp only
    split
    · exact (canonical_ite hs.keep hs).bump _ _ _
    · exact (canonical_ite hs.keep hs).bump _ _ _
    · exact canonical_ite hs.keep hs
  · exact hs

theorem Canonical.holdRed (hs : Canonical s) : Canonical (s.holdRed w vc) := by
  unfold State.holdRed
  refine hs.each _ (fun _ _ ht => ?_) _
  split
  · exact canonical_ite (ht.keep.bump _ _ _) ht
  · exact ht

theorem Canonical.selectFixed {t : State} (hs : Canonical s) (e : s.selectFixed w vc = some t) : Canonical t := by
  unfold State.selectFixed at e
  split at e
  · cases e
    exact hs.keep
  · split at e
    · nomatch e
    · split at e
      · cases e
        exact canonical_ite hs.pathFault hs.keep.sendRequest
      · cases e
        exact hs.windowWait

theorem Canonical.execFixedVcSelect {w : Wale} (hs : Canonical s) : NextCanonical (execFixedVcSelect w s) := by
  unfold Machine.execFixedVcSelect
  split
  · exact hs
  next e =>
    split
    · exact hs.sendLink
    next e =>
      split
      next e =>
        exact hs.selectFixed e
      next e =>
        split
        next e =>
          exact hs.selectFixed e
        · exact canonical_getD (fun _ e => hs.selectFixed e) hs

theorem Canonical.setDeficit (hs : Canonical s) : Canonical (s.setDeficit w vc n) := hs.setNum _ _

theorem Canonical.sendBulk {p : BulkPick} (hs : Canonical s) : Canonical (s.sendBulk w vc p) := by
  unfold State.sendBulk
  dsimp only
  split
  · exact hs.setDeficit.bump _ _ _ |>.keep
  · exact hs.setDeficit.bump _ _ _ |>.keep |>.chargeMeter |>.sendRequest

theorem Canonical.drr {n : Nat} (hs : Canonical s) : Canonical (State.drr n s w) := by
  induction n generalizing s with
  | zero => exact hs
  | succ n ih =>
    unfold State.drr
    extract_lets vc v tx s1
    have h1 : Canonical s1 := canonical_ite hs hs.keep.setDeficit
    clear_value s1
    split
    · exact ih h1.holdRed.setDeficit.keep
    · split
      · split
        · exact h1.sendBulk
        · exact canonical_ite (canonical_ite h1.pathFault h1.sendBulk) h1.windowWait
      · exact ih h1.keep

theorem Canonical.execBulkStreamSelect {w : Wale} (hs : Canonical s) : NextCanonical (execBulkStreamSelect w s) := by
  unfold Machine.execBulkStreamSelect
  split
  · exact hs
  · exact hs.drr

theorem Canonical.sampleQueue {o : Nat} (hs : Canonical s) : Canonical (s.sampleQueue w o vc) := hs.keep.setNum _ _

theorem Canonical.execQueueSample (hs : Canonical s) : NextCanonical (execQueueSample s) := by
  unfold Machine.execQueueSample
  split
  · exact hs
  · exact hs.each _ (fun _ _ ht => ht.each _ (fun _ _ hu => hu.each _ (fun _ _ hv => hv.sampleQueue) _) _) _ |>.bump _ _ _

theorem Canonical.clearSamples (ha : Canonical a) : Canonical (clearSamples a).1 :=
  ha.keep.each _ (fun _ _ ht => ht.setNum _ _) _ |>.setNum _ _

theorem Canonical.execSampleClear (hs : Canonical s) : NextCanonical (execSampleClear rq s) :=
  hs.request _ _ _ _ _ (fun _ ht => ht.clearSamples)

theorem Canonical.execSampleFreeze (hs : Canonical s) : NextCanonical (execSampleFreeze rq s) :=
  hs.request _ _ _ _ _ (fun _ ht => ht.setNum _ _)

theorem Canonical.execSampleRun (hs : Canonical s) : NextCanonical (execSampleRun rq s) :=
  hs.request _ _ _ _ _ (fun _ ht => ht.setNum _ _)

theorem Canonical.policerEffect {h sub value : Nat} (ha : Canonical a) : Canonical (policerEffect h sub value a).1 := by
  unfold Machine.policerEffect
  dsimp only
  split
  · exact ha
  · exact ha.plainWrite _ _ |>.keep

theorem Canonical.execPolicerWrite {h : Hoop} {object : BitVec 8} {value : BitVec 64} (hs : Canonical s) :
    NextCanonical (execPolicerWrite rq h object value s) := by
  unfold Machine.execPolicerWrite
  split
  · exact hs.request _ _ _ _ _ (fun _ ht => ht.policerEffect)
  · exact hs.answer _ _ _ _ _

end Scheduling

section Repeat

/-! ### The functions of Repeat -/

variable {s : State} {k : Lane} {w : Nat}

theorem Canonical.execFecLock (hs : Canonical s) : NextCanonical (execFecLock k s) := hs.setFlag _ _ |>.noteFec

theorem Canonical.loseFec {k : Nat} (hs : Canonical s) : Canonical (s.loseFec k) :=
  canonical_ite (hs.setFlag _ _ |>.bump _ _ _) hs

theorem Canonical.execFecLockLoss (hs : Canonical s) : NextCanonical (execFecLockLoss k s) := hs.loseFec

theorem Canonical.execFecBerEvaluation {correctedBits uncorrectable ber : Nat} (hs : Canonical s) :
    NextCanonical (execFecBerEvaluation k correctedBits uncorrectable ber s) :=
  hs.bump _ _ _ |>.bump _ _ _ |>.setNum _ _ |>.keep |>.iteThen (·.raise _ _) |>.iteThen (·.evictLane)

theorem Canonical.sendSack (hs : Canonical s) : Canonical (s.sendSack w) := canonical_ite hs hs.keep

theorem Canonical.execPeriodicSack {w : Wale} (hs : Canonical s) : NextCanonical (execPeriodicSack w s) := by
  unfold Machine.execPeriodicSack
  split
  · exact hs.sendSack
  · exact hs

theorem Canonical.execRequestedSack {w : Wale} (hs : Canonical s) : NextCanonical (execRequestedSack w s) :=
  nextCanonical_ite hs.keep.sendSack hs

theorem Canonical.takeSample {sample : Int} (hs : Canonical s) : Canonical (s.takeSample w sample) :=
  hs.keep.setNum _ _ |>.setNum _ _

theorem Canonical.readHeld {x : HeldSegment} (hs : Canonical s) : Canonical (s.readHeld w x).1 := hs.readMirrored

theorem Canonical.eligible {all : List HeldSegment} (hs : Canonical s) : Canonical (s.eligible w all) := by
  unfold State.eligible
  extract_lets l fresh r v
  have hr : Canonical r.1 := canonical_foldl (fun _ _ ht => by exact ht.readHeld) _ hs
  clear_value r
  exact canonical_ite hr.keep (hr.raise _ _).loseWale

theorem Canonical.scanGuards (hs : Canonical s) : Canonical (s.scanGuards w) := hs.eligible

theorem Canonical.execResendGuardScan {w : Wale} (hs : Canonical s) : NextCanonical (execResendGuardScan w s) := by
  unfold Machine.execResendGuardScan
  split
  · exact hs.scanGuards
  · exact hs

theorem Canonical.settleRekey {n : Nat} (hs : Canonical s) : Canonical (s.settleRekey w n) :=
  canonical_ite (hs.keep.sendKey.raise _ _ |>.iteThen (·.rekeyDue)) hs

theorem Canonical.settleRekeys (hs : Canonical s) : Canonical (s.settleRekeys w) := hs.each _ (fun _ _ ht => ht.settleRekey) _

theorem Canonical.applySack {k : Sack} (hs : Canonical s) : Canonical (s.applySack w k) := by
  unfold State.applySack
  refine Canonical.keep ?_ |>.setNum _ _ |>.lower _ _ |>.lower _ _ |>.bump _ _ _ |>.eligible |>.settleRekeys
  split
  · exact hs.takeSample
  · exact hs

theorem Canonical.execSackReceived {w : Wale} {payload : Bytes} (hs : Canonical s) :
    NextCanonical (execSackReceived w payload s) := by
  unfold Machine.execSackReceived
  split
  · exact hs
  · dsimp only
    split
    · exact hs.applySack
    · split
      · split
        · exact hs.applySack
        · exact hs.applySack.setNum _ _ |>.raise _ _ |>.scanGuards
      · exact hs

theorem Canonical.execRepeatSilenceExpiry {w : Wale} (hs : Canonical s) : NextCanonical (execRepeatSilenceExpiry w s) :=
  hs.hold

theorem Canonical.execRepeatDarkHoldExpiry {w : Wale} (hs : Canonical s) : NextCanonical (execRepeatDarkHoldExpiry w s) := by
  unfold Machine.execRepeatDarkHoldExpiry
  split
  · exact hs.loseWale
  · exact hs

end Repeat

section MailboxOps

/-! ### The functions of MailboxOps -/

variable {s : State} {n : Nat}

theorem Canonical.postMailbox {sender word : Nat} (hs : Canonical s) : Canonical (s.postMailbox n sender word) := by
  unfold State.postMailbox
  extract_lets _ s1 _
  have hs1 : Canonical s1 := hs.setNum _ _ |>.setNum _ _
  split
  · exact hs1.keep.vector _
  · exact hs1.keep
  · exact hs1.keep

theorem Canonical.takeMailbox (hs : Canonical s) : Canonical (s.takeMailbox n) := hs.setNum _ _

end MailboxOps

section Pools

/-! ### The functions of Pools -/

variable {s : State} {cls k : Fin 4} {h : Hoop} {r : PoolRequest}

theorem Canonical.giveHandle {handle : Nat} (hs : Canonical s) : Canonical (s.giveHandle r handle) := by
  unfold State.giveHandle
  split
  · exact hs.keep
  · exact hs.keep
  · exact hs.keep

theorem Canonical.refuseRequest (hs : Canonical s) : Canonical (s.refuseRequest r) :=
  canonical_ite hs.startWait (canonical_ite hs.keep hs.deferSegment.keep)

theorem Canonical.execPoolAllocate {group : Option GroupNo} {bytes : Nat} (hs : Canonical s) :
    NextCanonical (execPoolAllocate h k group bytes s) := by
  unfold Machine.execPoolAllocate
  split
  · exact hs.keep
  next e =>
    dsimp only
    split
    next e =>
      exact hs.poolRequest e |>.giveHandle
    · exact hs.refuseRequest

theorem Canonical.execPoolFree {h : Hoop} {handle : BitVec 64} (hs : Canonical s) :
    NextCanonical (execPoolFree h handle s) := by
  unfold Machine.execPoolFree
  split
  next e => exact hs.freeHandle e
  · exact hs.refuseFree.checkFrees

theorem Canonical.execPoolWaitGranted (hs : Canonical s) : NextCanonical (execPoolWaitGranted h cls s) := by
  unfold Machine.execPoolWaitGranted
  split
  · exact hs
  next e =>
    split
    · exact hs
    next e =>
      exact hs.grant e |>.keep |>.endEpisode |>.trim |>.countPools |>.giveHandle

theorem Canonical.poolMinimumEffect {a : State} {h k c v : Nat} (ha : Canonical a) :
    Canonical (poolMinimumEffect h k c v a).1 := by
  unfold Machine.poolMinimumEffect
  dsimp only
  split
  · exact ha
  · split
    · exact ha.plainWrite _ _
    · split
      · exact ha
      · split
        · exact ha.setP _ _ |>.settleBacking
        · exact ha

theorem Canonical.execPoolMinimumWrite {rq : Requester} {value : BitVec 32} (hs : Canonical s) :
    NextCanonical (execPoolMinimumWrite rq h k cls value s) :=
  hs.request _ _ _ _ _ (fun _ ht => ht.poolMinimumEffect)

end Pools

section StreamOps

/-! ### The functions of StreamOps -/

variable {s : State} {g h seq : Nat}

theorem Canonical.placeSegment {counter i origin off : Nat} {payload : Bytes} {t : State} (hs : Canonical s)
    (e : s.placeSegment w counter h g seq i origin off payload = some t) : Canonical t := by
  unfold State.placeSegment at e
  dsimp only at e
  split at e
  · cases e
    exact hs
  · split at e
    · cases e
      exact hs.keep
    · split at e
      next hr =>
        cases e
        obtain ⟨c, -, hr⟩ := Option.bind_eq_some_iff.1 hr
        exact (hs.poolRequest hr).keep
      · nomatch e

theorem Canonical.losePart {x : SiteStream} {p : StreamPart} (hs : Canonical s) : Canonical (s.losePart h x p) := by
  unfold State.losePart
  extract_lets y s1
  have h1 : Canonical s1 := hs.noteBadLines.keep
  exact h1.freeAll.requestAgain

theorem Canonical.dropStreams {i : Nat} (hs : Canonical s) : Canonical (s.dropStreams h g seq i) := hs.keep.freeAll

theorem Canonical.sendContribution {o : Operation} (hs : Canonical s) : Canonical (s.sendContribution g o) :=
  canonical_ite hs (hs.each _ (fun _ _ ht => ht.emitTo) _)

theorem Canonical.keepEmits (hs : Canonical s) : Canonical (s.keepEmits g seq) :=
  hs.each _ (fun _ _ ht => canonical_ite ht.keep ht) _

theorem Canonical.settleSmall (hs : Canonical s) : Canonical (s.settleSmall g seq) := by
  unfold State.settleSmall
  split
  · exact hs
  next e =>
    split
    · exact hs
    next e =>
      split
      · exact (canonical_ite hs.sendContribution hs).keepEmits |>.finishOp
      next e =>
        split
        · exact hs
        next e =>
          split
          · exact hs
          next e =>
            dsimp only
            split
            · exact hs.finishOp
            next e =>
              split
              next e =>
                exact hs.writeTarget e
              · exact hs.undeliverable

theorem Canonical.takeContribution {c : Contribution} (hs : Canonical s) : Canonical (s.takeContribution g c) :=
  canonical_ite hs (canonical_ite hs.keep.settleSmall hs)

theorem Canonical.startExchange (hs : Canonical s) : Canonical (s.startExchange g) :=
  hs.keep.iteElse (fun h => h.each _ (fun _ _ ht => ht.emitTo) _)

end StreamOps

section Acceptance

/-! ### The functions of Acceptance -/

variable {s : State} {d : Bytes} {g slots : Nat}

theorem Canonical.acceptDescriptor {source : Nat} (hs : Canonical s) : Canonical (s.acceptDescriptor g source slots d) :=
  hs.keep.setIndices.bump _ _ _ |>.writeMirrored |>.bump _ _ _ |>.bump _ _ _ |>.bump _ _ _ |>.iteThen (·.settleSmall)

theorem Canonical.refuseDescriptor {status : Nat} (hs : Canonical s) : Canonical (s.refuseDescriptor g slots status d) := by
  unfold State.refuseDescriptor
  dsimp only
  split
  · exact hs.setIndices.bump _ _ _ |>.setNum _ _
  · exact hs.setIndices.bump _ _ _ |>.setNum _ _ |>.iteThen (·.writeRecord)

theorem Canonical.waitContext (hs : Canonical s) : Canonical (s.waitContext g) :=
  hs.keep.setNum _ _ |>.bump _ _ _ |>.bump _ _ _ |>.iteThen (·.raise _ _)

theorem Canonical.slotUnreadable {lines : List Nat} (hs : Canonical s) : Canonical (s.slotUnreadable g lines) :=
  hs.noteBadLines.raise _ _

theorem Canonical.pumpQueue {n : Nat} (hs : Canonical s) : Canonical (State.pumpQueue n s g) := by
  induction n generalizing s with
  | zero => exact hs
  | succ n ih =>
    unfold State.pumpQueue
    extract_lets available ext slots d st
    refine canonical_ite hs (canonical_ite hs.slotUnreadable (canonical_ite hs (canonical_ite hs.slotUnreadable ?_)))
    split
    · exact ih hs.refuseDescriptor
    · split
      · exact ih hs.acceptDescriptor
      · exact hs.waitContext

theorem Canonical.pump (hs : Canonical s) : Canonical (s.pump g) := hs.pumpQueue

theorem Canonical.ringDoorbell {value : Nat} (hs : Canonical s) : Canonical (s.ringDoorbell g value) :=
  canonical_ite (hs.raise _ _) hs.setIndices.pump

theorem Canonical.writeRing {off : Nat} {b : Bytes} (hs : Canonical s) : Canonical (s.writeRing g off b) :=
  hs.keep.iteElse (·.clearLines)

end Acceptance

section Collectives

/-! ### The functions of Collectives -/

variable {s : State} {chunk seq : BitVec 32} {data : Bytes} {member : FabAddr} {g : GroupNo} {h i w : Nat} {o : Operation}
  {rq : Requester}

theorem Canonical.openWindow {type length : Nat} (hs : Canonical s) : Canonical (s.openWindow w type h length) :=
  hs.setNum _ _ |>.bump _ _ _ |>.setNum _ _ |>.setNum _ _ |>.setNum _ _ |>.setNum _ _ |>.bump _ _ _ |>.keep

theorem Canonical.closeWindow (hs : Canonical s) : Canonical (s.closeWindow w) :=
  hs.each _ (fun _ _ ht => ht.dropLanding) _ |>.dropWaiting |>.setNum _ _ |>.lower _ _

theorem Canonical.endShadow {members : List Nat} (hs : Canonical s) : Canonical (s.endShadow h members) :=
  canonical_ite (hs.setNum _ _) hs

theorem Canonical.createGroup {g : Nat} (hs : Canonical s) : Canonical (s.createGroup g).1 := by
  unfold State.createGroup
  dsimp only
  split
  · exact hs
  · exact hs.each _ (fun _ _ ht => ht.setNum _ _) _ |>.openWindow |>.keep |>.bump _ _ _ |>.bump _ _ _ |>.iteThen
      (·.bump _ _ _) |>.settlePool |>.endShadow |>.startExchange

theorem Canonical.deliverHeld {g : Nat} {e : Bytes × Bytes × Option Nat} (hs : Canonical s) :
    Canonical (s.deliverHeld w g e) :=
  canonical_ite hs.takeContribution hs.keep

theorem Canonical.settleEarly {g : Nat} {epoch : Option Nat} (hs : Canonical s) : Canonical (s.settleEarly g epoch) :=
  hs.each _ (fun _ _ ht => canonical_ite ht (ht.keep.each _ (fun _ _ hu => canonical_ite hu.deliverHeld hu.freeAll) _)) _

theorem Canonical.clearGroup {g : Nat} {tag : Option Nat} (hs : Canonical s) : Canonical (s.clearGroup g tag) :=
  hs.keep.freeAll.freeAll.keep

theorem Canonical.reformGroup {g : Nat} (hs : Canonical s) : Canonical (s.reformGroup g).1 := by
  unfold State.reformGroup
  extract_lets st d s1 s2 x s3 h
  have h3 : Canonical s3 := hs.abortGroup.clearGroup.setNum _ _ |>.setNum _ _ |>.setNum _ _ |>.setNum _ _ |>.keep
  clear_value s3
  split
  · exact hs
  · exact h3.endShadow.startExchange.settleEarly.pump

theorem Canonical.freeGroup {g : Nat} (hs : Canonical s) : Canonical (s.freeGroup g) :=
  hs.clearGroup.settleEarly.closeWindow.lower _ _ |>.iteThen (·.lower _ _) |>.lower _ _ |>.each _
    (fun _ _ ht => ht.setNum _ _) _ |>.keep |>.settlePool

theorem Canonical.deleteGroup {g : Nat} (hs : Canonical s) : Canonical (s.deleteGroup g).1 := by
  unfold State.deleteGroup
  split
  · exact hs
  · exact hs.abortGroup.freeGroup

theorem Canonical.execGroupCreate (hs : Canonical s) : NextCanonical (execGroupCreate rq g s) :=
  hs.request _ _ _ _ _ (fun _ ht => ht.reported _ _ (fun _ hu => hu.createGroup))

theorem Canonical.execGroupReform (hs : Canonical s) : NextCanonical (execGroupReform rq g s) :=
  hs.request _ _ _ _ _ (fun _ ht => ht.reported _ _ (fun _ hu => hu.reformGroup))

theorem Canonical.execGroupDelete (hs : Canonical s) : NextCanonical (execGroupDelete rq g s) :=
  hs.request _ _ _ _ _ (fun _ ht => ht.reported _ _ (fun _ hu => hu.deleteGroup))

theorem Canonical.execQueueDoorbell {q : Qp} {w : Window} {value : BitVec 32} (hs : Canonical s) :
    NextCanonical (execQueueDoorbell q w value s) := by
  unfold Machine.execQueueDoorbell
  split
  · exact hs
  · split
    · exact hs.ringDoorbell
    · exact hs

theorem Canonical.hostSubmit (hs : Canonical s) : Canonical (s.hostSubmit data).1 := by
  unfold State.hostSubmit
  dsimp only
  split
  · exact hs
  · split
    · exact hs
    · split
      · exact hs
      · split
        · exact hs
        · exact hs.each _ (fun _ _ ht => ht.writeRing) _ |>.setIndices |>.pump

theorem Canonical.execHostSubmit (hs : Canonical s) : NextCanonical (execHostSubmit rq data s) :=
  hs.request _ _ _ _ _ (fun _ ht => ht.reported _ _ (fun _ hu => hu.hostSubmit))

theorem Canonical.execContextGranted (hs : Canonical s) : NextCanonical (execContextGranted g s) := by
  unfold Machine.execContextGranted
  split
  · exact hs.keep.setNum _ _ |>.pump
  · exact hs

theorem Canonical.countAutonomous (hs : Canonical s) : Canonical (s.countAutonomous h) := hs.setNum _ _

theorem Canonical.execOperationRun (hs : Canonical s) : NextCanonical (execOperationRun g seq s) := by
  unfold Machine.execOperationRun
  split
  · exact hs
  · dsimp only
    split
    · exact hs
    · split
      · exact hs.enterSplit
      · split
        · exact hs.readMirrored
        · split
          · exact hs.readMirrored.keep.iteThen (·.countAutonomous) |>.sendContribution |>.settleSmall
          · exact hs.readMirrored.keep.iteThen (·.countAutonomous)

theorem Canonical.chunkIsDone {g : Nat} (hs : Canonical s) : Canonical (s.chunkIsDone g o i) := by
  unfold State.chunkIsDone
  extract_lets h w o' s1 s2 s3 s4
  have h1 : Canonical s1 := hs.keep
  have h3 : Canonical s3 := (h1.iteThen (·.writeRecord)).dropLanding.advanceGen
  have h4 : Canonical s4 := by
    unfold s4
    split
    · exact h3.iteElse (·.dropStreams)
    · exact h3
  exact canonical_ite h1.undeliverable (canonical_ite h4.finishOp h4)

theorem Canonical.execChunkDone (hs : Canonical s) : NextCanonical (execChunkDone g seq chunk s) := by
  unfold Machine.execChunkDone
  split
  · exact hs
  · dsimp only
    split
    · exact hs.chunkIsDone
    · exact hs

theorem Canonical.inputLost {g : Nat} (hs : Canonical s) : Canonical (s.inputLost g o i) := by
  unfold State.inputLost
  dsimp only
  split
  · exact hs
  · exact hs.dropLanding.keep.iteThen (·.keep) |>.branch (·.writeRecord) (·.undeliverable)

theorem Canonical.execResupplyLanded (hs : Canonical s) : NextCanonical (execResupplyLanded g seq chunk s) := by
  unfold Machine.execResupplyLanded
  split
  · split
    · exact hs.keep
    · exact hs
  · exact hs

theorem Canonical.execResupplyTimeout (hs : Canonical s) : NextCanonical (execResupplyTimeout g seq chunk s) := by
  unfold Machine.execResupplyTimeout
  split
  · exact hs.finishOp
  · exact hs

theorem Canonical.execMemberLost (hs : Canonical s) : NextCanonical (execMemberLost member s) :=
  hs.each _ (fun _ _ ht => ht.breakGroup) _

theorem Canonical.execSmallContributionReceived {epoch : BitVec 32} {opcode elementType reduceOp : BitVec 8}
    {elementCount : BitVec 48} {payload : Bytes} (hs : Canonical s) : NextCanonical
    (execSmallContributionReceived g member epoch seq opcode elementType reduceOp elementCount payload s) :=
  hs.takeContribution

theorem Canonical.execReproDigestReceived {peer : FabAddr} {digest : Bytes} {version : BitVec 32} (hs : Canonical s) :
    NextCanonical (execReproDigestReceived g peer digest version s) := by
  unfold Machine.execReproDigestReceived
  dsimp only
  split
  · exact hs
  · exact hs.keep.iteThen (·.raise _ _)

end Collectives

section Landing

/-! ### The functions of Landing -/

variable {s : State} {data : Bytes} {h w : Nat}

/-- `poolRequest` stands as a variable, as `carve` does in `Canonical.back`. -/
theorem Canonical.spillBuffer {gen i c piece n : Nat} (hs : Canonical s) :
    Canonical (s.spillBuffer h w gen i c piece n).1 := by
  have hp (k g c t n) (e : s.poolRequest h k g c = some (t, n)) : Canonical t := hs.poolRequest e
  unfold State.spillBuffer
  obtain ⟨request, hrequest⟩ : ∃ f, f = State.poolRequest := exists_eq
  rw [← hrequest] at hp ⊢
  extract_lets l r
  split
  · exact hs
  · split
    · exact hs
    · split
      next e => exact (hp _ _ _ _ _ e).giveHandle
      · exact hs.startWait

theorem Canonical.spillBytes {n c off : Nat} {l : Landing} {b : Bytes} (hs : Canonical s) :
    Canonical (State.spillBytes n s l c off b) := by
  induction n generalizing s off b with
  | zero => exact hs
  | succ n ih =>
    unfold State.spillBytes
    refine canonical_ite hs (ih ?_)
    split
    · exact hs.store
    · exact hs

theorem Canonical.discardWrite (hs : Canonical s) : Canonical (s.discardWrite h) :=
  hs.keep.bump _ _ _ |>.iteThen (·.raise _ _)

theorem Canonical.noteSpill (hs : Canonical s) : Canonical (s.noteSpill h) :=
  hs.bump _ _ _ |>.iteElse (fun h => h.keep.raise _ _)

theorem Canonical.settleSpill (hs : Canonical s) : Canonical (s.settleSpill h) := canonical_ite hs.keep hs

theorem Canonical.writeWindow {b parity off : Nat} (hs : Canonical s) : Canonical (s.writeWindow h b parity off data) :=
  hs.writePlan.each _ (fun _ _ ht => ht.keep) _

theorem Canonical.mixed {others : List (Nat × Nat)} {a : Nat} (hs : Canonical s) : Canonical (s.mixed others a data).1 := by
  unfold State.mixed
  split
  · exact hs.keep
  · exact hs

theorem Canonical.placePiece {q parity o : Nat} {e : Bytes} {x : SlotPiece} {bytes : Bytes} {full : Bool} (hs : Canonical s) :
    SomeCanonical (s.placePiece q w parity e x bytes o full) := by
  unfold State.placePiece
  extract_lets h g p r gen n stride slot l fill m data foreign a keep pieces got held
  have hfill {t : State} (ht : Canonical t) : Canonical (fill t) := ht.keep
  split
  · exact hs
  · split
    · exact hs.discardWrite
    · split
      · split
        · exact hs.ownerFault
        · exact hfill hs.mixed.writeWindow
      · split
        · split
          · trivial
          · exact (hfill hs.mixed.keep).keep
        · have hgot : Canonical got.1 := by
            refine canonical_foldl (fun _ _ ht => ?_) _ hs.mixed
            split
            · exact ht.spillBuffer
            · exact ht
          split
          · exact hgot.ownerFault
          · split
            · exact hfill hgot.spillBytes.noteSpill
            · trivial

theorem Canonical.waitForSpills {e : Bytes} {xs : List SlotPiece} (hs : Canonical s) : Canonical (s.waitForSpills w e xs) :=
  hs.each _ (fun _ _ ht => canonical_ite ht (ht.each _ (fun _ _ hu => hu.spillBuffer) _)) _

theorem Canonical.placeQueue {o : Nat} (hs : Canonical s) : Canonical (s.placeQueue w o data) := by
  unfold State.placeQueue
  split
  · exact hs
  · exact canonical_ite ((canonical_ite hs.writeRing hs).ringDoorbell) (canonical_ite hs.writeRing hs)

theorem Canonical.placeInput {q parity o : Nat} {data : Bytes} {full : Bool} (hs : Canonical s) :
    PlacingCanonical (s.placeInput q w parity o data full) := by
  unfold State.placeInput
  split
  · exact hs
  · extract_lets p spans xs r
    have h0 : SomeCanonical (some (s, 0)) := hs
    have hr : SomeCanonical r :=
      someCanonical_foldl (fun _ _ ha => by exact ha.bind fun _ hb => hb.placePiece.map fun _ => rfl) _ h0
    clear_value r
    split
    · exact hr
    · exact hs.waitForSpills

theorem Canonical.placePacket {q parity o : Nat} {data : Bytes} {full : Bool} (hs : Canonical s) :
    PlacingCanonical (s.placePacket q w parity o data full) := by
  unfold State.placePacket
  dsimp only
  split
  · exact hs.placeQueue
  · split
    · exact hs.placeInput
    · split
      · split
        · exact hs.ownerFault
        · exact hs.writeWindow
      · exact hs

end Landing

section Fabric

/-! ### The functions of Fabric -/

variable {a s : State} {value : BitVec 64} {source target : Bytes} {command f psn q v w : Nat} {p : Port} {x : RdmaPacket}
  {rq : Requester}

theorem Canonical.trainPort {p : Nat} (hs : Canonical s) : Canonical (s.trainPort p) :=
  hs.keep.setNum _ _ |>.setNum _ _ |>.setNum _ _ |>.each _ (fun _ _ ht => ht.setNum _ _ |>.setNum _ _) _

theorem Canonical.trainMac {n : Nat} (hs : Canonical s) : Canonical (s.trainMac n) :=
  hs.keep.trainPort.branch (fun h => h.keep.trainPort) (fun h => h.keep.setNum _ _ |>.setNum _ _ |>.setNum _ _)

theorem Canonical.execMacRetrain {n : Mac} (hs : Canonical s) : NextCanonical (execMacRetrain rq n s) :=
  hs.request _ _ _ _ _ (fun _ ht => ht.reported _ _ (fun _ hu => hu.trainMac))

theorem Canonical.execLaneLockTimeout (hs : Canonical s) : NextCanonical (execLaneLockTimeout p s) := by
  unfold Machine.execLaneLockTimeout
  split
  · exact hs.keep
  · exact hs

theorem Canonical.capRates {p : Nat} (hs : Canonical s) : Canonical (s.capRates p) :=
  hs.each _ (fun _ _ ht => canonical_ite (ht.setNum _ _) ht) _

theorem Canonical.execPortTrainingComplete {lanes : List (Nat × Bool)} {reversed : Bool} (hs : Canonical s) :
    NextCanonical (execPortTrainingComplete p lanes reversed s) := by
  unfold Machine.execPortTrainingComplete
  split
  · exact hs
  · exact hs.each _ (fun _ _ ht => ht.setNum _ _ |>.setNum _ _ |>.setNum _ _ |>.setFlag _ _) _ |>.setNum _ _ |>.setNum _ _
      |>.setNum _ _ |>.keep |>.iteThen (·.raise _ _) |>.capRates |>.flushPort

theorem Canonical.execFabricLaneFail {l : FabLane} (hs : Canonical s) : NextCanonical (execFabricLaneFail l s) := by
  unfold Machine.execFabricLaneFail
  extract_lets s1
  have hs1 : Canonical s1 := hs.setNum _ _ |>.raise _ _
  split
  · exact hs1
  · split
    · dsimp only
      split
      · split
        · exact hs1
        · exact hs1.keep.trainPort
      · exact hs1.setNum _ _ |>.setNum _ _ |>.setNum _ _
    · exact hs1.trainPort

theorem Canonical.execFabricLinkHoldExpiry (hs : Canonical s) : NextCanonical (execFabricLinkHoldExpiry p s) := by
  unfold Machine.execFabricLinkHoldExpiry
  split
  · exact hs
  · exact hs.each _ (fun _ _ ht => ht.qpError) _

theorem Canonical.execFabricFrameReceived {frame : Bytes} {fcsOk icrcOk : Bool} (hs : Canonical s) :
    NextCanonical (execFabricFrameReceived p frame fcsOk icrcOk s) := by
  unfold Machine.execFabricFrameReceived
  dsimp only
  split
  · exact hs.bump _ _ _
  · split
    · exact hs.bump _ _ _
    · split
      · exact hs.bump _ _ _
      · exact hs

theorem Canonical.execPfcFrameReceived {enabled : BitVec 8} {quanta : List Nat} (hs : Canonical s) :
    NextCanonical (execPfcFrameReceived p enabled quanta s) :=
  hs.keep.flushPort

theorem Canonical.execPfcPauseExpiry {priority : Fin 8} (hs : Canonical s) :
    NextCanonical (execPfcPauseExpiry p priority s) :=
  hs.keep.flushPort

theorem Canonical.execNeighborSolicitationReceived (hs : Canonical s) :
    NextCanonical (execNeighborSolicitationReceived p target source s) := by
  unfold Machine.execNeighborSolicitationReceived
  dsimp only
  split
  · exact hs.keep
  · exact hs

theorem Canonical.releaseUnsent {p : Nat} {hop : Bytes} (hs : Canonical s) : Canonical (s.releaseUnsent p hop) :=
  hs.keep.each _ (fun _ _ ht => ht.keep) _

theorem Canonical.execNeighborAdvertisementReceived {mac : Bytes} (hs : Canonical s) :
    NextCanonical (execNeighborAdvertisementReceived p target mac s) := by
  unfold Machine.execNeighborAdvertisementReceived
  dsimp only
  split
  · exact hs.keep.releaseUnsent.flushPort
  · exact hs

theorem Canonical.execEchoRequestReceived {payload : Bytes} (hs : Canonical s) :
    NextCanonical (execEchoRequestReceived p source payload s) := by
  unfold Machine.execEchoRequestReceived
  split
  · exact hs
  · exact hs.keep

theorem Canonical.missPacket {x : PacketOrigin} (hs : Canonical s) : Canonical (s.missPacket x) :=
  canonical_ite (hs.bump _ _ _) (hs.bump _ _ _)

theorem Canonical.markCe (hs : Canonical s) : Canonical (s.markCe q x) := canonical_ite (hs.keep.bump _ _ _ |>.respond) hs

theorem Canonical.sendAck (hs : Canonical s) : Canonical (s.sendAck q) := hs.keep.respond

theorem Canonical.sendNak {syndrome : Nat} (hs : Canonical s) : Canonical (s.sendNak q syndrome psn) :=
  hs.bump _ _ _ |>.respond

theorem Canonical.nakInvalid (hs : Canonical s) : Canonical (s.nakInvalid q psn) := hs.sendNak.qpError

theorem Canonical.nakAccess (hs : Canonical s) : Canonical (s.nakAccess q psn) :=
  hs.sendNak.bump _ _ _ |>.raise _ _ |>.qpError

theorem Canonical.sendRnr {port : Nat} (hs : Canonical s) : Canonical (s.sendRnr q port psn) := hs.bump _ _ _ |>.respond

theorem Canonical.psnGap (hs : Canonical s) : Canonical (s.psnGap q) := canonical_ite hs hs.keep.sendNak

theorem Canonical.packetPlaced {i : InboundWrite} {bytes : Nat} (hs : Canonical s) : Canonical (s.packetPlaced q x i bytes) :=
  hs.keep.setPsns.iteElse (fun h => h.bump _ _ _ |>.bump _ _ _ |>.bump _ _ _) |>.iteThen (·.sendAck)

theorem Canonical.beginMessage (hs : Canonical s) : Canonical (s.beginMessage q x) := canonical_ite hs.keep hs

theorem Canonical.execRdmaWriteReceived {x : RdmaPacket} (hs : Canonical s) : NextCanonical (execRdmaWriteReceived x s) := by
  unfold Machine.execRdmaWriteReceived
  split
  · exact hs.missPacket
  · dsimp only
    split
    · exact hs.markCe.sendAck
    · exact hs.markCe.psnGap
    · split
      · exact hs.markCe.nakAccess
      · exact hs.markCe.nakInvalid
      · split
        next e => exact (hs.markCe.beginMessage.placePacket.of_placed e).packetPlaced
        next e => exact (hs.markCe.beginMessage.placePacket.of_wait e).sendRnr

theorem Canonical.sendReads {data : Bytes} (hs : Canonical s) : Canonical (s.sendReads q psn data) :=
  hs.respond.bump _ _ _ |>.bump _ _ _ |>.keep |>.setPsns

theorem Canonical.execRdmaReadRequestReceived {x : RdmaPacket} (hs : Canonical s) :
    NextCanonical (execRdmaReadRequestReceived x s) := by
  unfold Machine.execRdmaReadRequestReceived
  split
  · exact hs.missPacket
  · dsimp only
    split
    · exact hs.markCe.sendAck
    · exact hs.markCe.psnGap
    · split
      · exact hs.markCe.nakAccess
      · split
        · exact hs.markCe.ownerFault
        · split
          · exact hs.markCe.noteBadLines.hoopFault
          · exact hs.markCe.sendReads

theorem Canonical.execUnsupportedOpcodeReceived (hs : Canonical s) : NextCanonical (execUnsupportedOpcodeReceived x s) := by
  unfold Machine.execUnsupportedOpcodeReceived
  split
  · exact hs
  · split
    · exact hs.missPacket
    · exact hs.markCe.nakInvalid

theorem Canonical.settleResults {freed : List FabricPacket} (hs : Canonical s) : Canonical (s.settleResults freed) :=
  hs.each _ (fun _ _ ht => canonical_ite ht.finishOp ht) _

theorem Canonical.freeUpTo (hs : Canonical s) : Canonical (s.freeUpTo q psn) :=
  canonical_ite hs (canonical_ite hs hs.keep.settleResults)

theorem Canonical.execAckReceived {x : PacketOrigin} {psn : BitVec 24} (hs : Canonical s) :
    NextCanonical (execAckReceived x psn s) := by
  unfold Machine.execAckReceived
  split
  · exact hs.missPacket
  · split
    · exact hs.freeUpTo
    · exact hs

theorem Canonical.retryFrom (hs : Canonical s) : Canonical (s.retryFrom q psn) := canonical_ite hs.qpError hs.keep.goBack

theorem Canonical.execNakReceived {x : PacketOrigin} {psn : BitVec 24} {code : Fin 3} (hs : Canonical s) :
    NextCanonical (execNakReceived x psn code s) := by
  unfold Machine.execNakReceived
  split
  · exact hs.missPacket
  · split
    · exact hs
    · split
      · exact hs.freeUpTo.retryFrom
      · exact hs.qpError

theorem Canonical.execRnrNakReceived {x : PacketOrigin} {psn : BitVec 24} (hs : Canonical s) :
    NextCanonical (execRnrNakReceived x psn s) := by
  unfold Machine.execRnrNakReceived
  split
  · exact hs.missPacket
  · split
    · exact hs
    · dsimp only
      split
      · exact hs.freeUpTo.qpError
      · exact hs.freeUpTo.keep

theorem Canonical.execRnrTimerExpiry {q : Qp} (hs : Canonical s) : NextCanonical (execRnrTimerExpiry q s) := by
  unfold Machine.execRnrTimerExpiry
  split
  · exact hs.keep.sendWhere
  · exact hs

theorem Canonical.execRdmaLocalAckTimeout {q : Qp} (hs : Canonical s) : NextCanonical (execRdmaLocalAckTimeout q s) := by
  unfold Machine.execRdmaLocalAckTimeout
  split
  · exact hs
  · split
    · exact hs.retryFrom
    · exact hs

theorem Canonical.execCnpReceived {x : PacketOrigin} (hs : Canonical s) : NextCanonical (execCnpReceived x s) := by
  unfold Machine.execCnpReceived
  split
  · exact hs.missPacket
  · split
    · exact hs.setNum _ _
    · exact hs

theorem Canonical.execRateRecoveryTimer {q : Qp} (hs : Canonical s) : NextCanonical (execRateRecoveryTimer q s) := by
  unfold Machine.execRateRecoveryTimer
  split
  · exact hs.setNum _ _
  · exact hs

theorem Canonical.execAckCoalesceTimer {q : Qp} (hs : Canonical s) : NextCanonical (execAckCoalesceTimer q s) := by
  unfold Machine.execAckCoalesceTimer
  split
  · exact hs
  · exact hs.sendAck

theorem Canonical.qpReset (hs : Canonical s) : Canonical (s.qpReset q) :=
  hs.each _ (fun _ _ ht => ht.setNum _ _) _ |>.iteElse (·.lower _ _) |>.keep |>.iteThen (·.qpLost)

theorem Canonical.qpCommandRow {q : Nat} (hs : Canonical s) : Canonical (s.qpCommandRow q command).1 := by
  unfold State.qpCommandRow
  dsimp only
  split
  · split
    · exact hs
    · split
      · exact hs.setNum _ _ |>.bump _ _ _ |>.keep
      · exact hs
  · split
    · exact hs
    · split
      · exact hs.setNum _ _
      · exact hs
  · split
    · exact hs
    · exact hs.setNum _ _ |>.setNum _ _
  · exact hs.qpReset
  · split
    · exact hs.qpError
    · exact hs

theorem Canonical.qpCommanded (hs : Canonical s) : Canonical (s.qpCommanded rq q command) :=
  hs.request _ _ _ _ _ (fun _ ht => ht.reported _ _ (fun _ hu => hu.qpCommandRow))

theorem Canonical.execQpToInit {q : Qp} (hs : Canonical s) : NextCanonical (execQpToInit rq q s) := hs.qpCommanded

theorem Canonical.execQpToRtr {q : Qp} (hs : Canonical s) : NextCanonical (execQpToRtr rq q s) := hs.qpCommanded

theorem Canonical.execQpToRts {q : Qp} (hs : Canonical s) : NextCanonical (execQpToRts rq q s) := hs.qpCommanded

theorem Canonical.execQpToReset {q : Qp} (hs : Canonical s) : NextCanonical (execQpToReset rq q s) := hs.qpCommanded

theorem Canonical.execQpToError {q : Qp} (hs : Canonical s) : NextCanonical (execQpToError rq q s) := hs.qpCommanded

theorem Canonical.createLanding (hs : Canonical s) : Canonical (s.createLanding w).1 := by
  unfold State.createLanding
  dsimp only
  split
  · exact hs
  · split
    · exact hs
    · exact hs.openWindow

theorem Canonical.createBuffer (hs : Canonical s) : Canonical (s.createBuffer w).1 := by
  unfold State.createBuffer
  dsimp only
  split
  · exact hs
  · split
    · exact hs
    · split
      · exact hs
      · split
        · exact hs
        · exact hs.openWindow

theorem Canonical.deleteWindow (hs : Canonical s) : Canonical (s.deleteWindow w).1 := by
  unfold State.deleteWindow
  dsimp only
  split
  · exact hs
  · split
    · exact hs
    · split
      · exact hs
      · exact hs.closeWindow

theorem Canonical.execWindowCreateLanding {w : Window} (hs : Canonical s) : NextCanonical (execWindowCreateLanding rq w s) :=
  hs.request _ _ _ _ _ (fun _ ht => ht.reported _ _ (fun _ hu => hu.createLanding))

theorem Canonical.execWindowCreateBuffer {w : Window} (hs : Canonical s) : NextCanonical (execWindowCreateBuffer rq w s) :=
  hs.request _ _ _ _ _ (fun _ ht => ht.reported _ _ (fun _ hu => hu.createBuffer))

theorem Canonical.execWindowDelete {w : Window} (hs : Canonical s) : NextCanonical (execWindowDelete rq w s) :=
  hs.request _ _ _ _ _ (fun _ ht => ht.reported _ _ (fun _ hu => hu.deleteWindow))

theorem Canonical.windowConfigEffect (ha : Canonical a) : Canonical (windowConfigEffect w f v a).1 := by
  unfold Machine.windowConfigEffect
  split
  · exact ha
  · exact ha.plainWrite _ _

theorem Canonical.execWindowConfigWrite {w : Window} {object : BitVec 8} (hs : Canonical s) :
    NextCanonical (execWindowConfigWrite rq w object value s) := by
  unfold Machine.execWindowConfigWrite
  split
  · exact hs.request _ _ _ _ _ (fun _ ht => ht.windowConfigEffect)
  · exact hs.answer _ _ _ _ _

theorem Canonical.targetEffect {h t : Nat} (ha : Canonical a) : Canonical (targetEffect h t f v a).1 := by
  unfold Machine.targetEffect
  split
  · exact ha
  · exact ha.plainWrite _ _

theorem Canonical.execTargetWrite {h : Hoop} {n : Fin 1024} {object : Fin 4} (hs : Canonical s) :
    NextCanonical (execTargetWrite rq h n object value s) :=
  hs.request _ _ _ _ _ (fun _ ht => ht.targetEffect)

end Fabric

section Cipher

/-! ### The functions of Cipher -/

variable {s : State} {epoch : BitVec 8} {mode : Bool} {encap payload planHash : Bytes} {h n : Nat} {rq : Requester}
  {session : SessionNo} {w : Wale}

theorem Canonical.keyDiscard {w : Nat} (hs : Canonical s) : Canonical (s.keyDiscard w) := hs.bump _ _ _

theorem Canonical.strayHandshake {w : Nat} (hs : Canonical s) : Canonical (s.strayHandshake w) :=
  hs.keep.bump _ _ _ |>.iteThen (·.loseWale)

theorem Canonical.execHelloReceived (hs : Canonical s) : NextCanonical (execHelloReceived w payload s) := by
  unfold Machine.execHelloReceived
  split
  · exact hs.keyDiscard
  · split
    · exact hs.strayHandshake
    · dsimp only
      split
      · exact hs.sessionRefused
      · exact hs.keep.setBytes _ _ |>.iteThen (·.sendReply)

theorem Canonical.execReplyReceived (hs : Canonical s) : NextCanonical (execReplyReceived w payload s) := by
  unfold Machine.execReplyReceived
  dsimp only
  split
  · exact hs.keyDiscard
  · split
    · exact hs.strayHandshake
    · split
      · exact hs.keyDiscard
      · split
        · exact hs.sessionRefused
        · split
          · exact hs.sessionRefused
          · exact hs.keep.sendKey

theorem Canonical.execFinishedReceived (hs : Canonical s) : NextCanonical (execFinishedReceived w payload s) := by
  unfold Machine.execFinishedReceived
  dsimp only
  split
  · exact hs.keyDiscard
  · split
    · exact hs.keyDiscard
    · split
      · exact hs.sessionRefused
      · exact hs.keep.setNum _ _ |>.sendFabricHello |>.iteThen (·.setNum _ _)

theorem Canonical.execSessionRetryTimer (hs : Canonical s) : NextCanonical (execSessionRetryTimer w s) := by
  unfold Machine.execSessionRetryTimer
  split
  · exact hs.startHandshake
  · exact hs

theorem Canonical.refuseOpen {w status : Nat} (hs : Canonical s) : Canonical (s.refuseOpen w n status) := hs.sendKey

theorem Canonical.acceptOpen {w : Nat} {hoop : Option Nat} (hs : Canonical s) :
    Canonical (s.acceptOpen w n hoop mode planHash encap) :=
  hs.keep.noteSessions.sendKey

theorem Canonical.answerOpen {w : Nat} (hs : Canonical s) : Canonical (s.answerOpen w n mode planHash encap) := by
  unfold State.answerOpen
  dsimp only
  split
  · exact hs.refuseOpen
  · split
    · exact canonical_ite hs.refuseOpen.noteFenced (canonical_ite hs.refuseOpen (canonical_ite hs.acceptOpen hs.refuseOpen))
    · exact canonical_ite hs.acceptOpen hs.refuseOpen

theorem Canonical.execSessionOpenReceived (hs : Canonical s) :
    NextCanonical (execSessionOpenReceived w session mode payload s) := by
  unfold Machine.execSessionOpenReceived
  dsimp only
  split
  · exact hs.keyDiscard
  · split
    · split
      · exact hs
      · exact hs.closeSession.answerOpen
    · exact hs.answerOpen

theorem Canonical.execSessionAcceptReceived (hs : Canonical s) :
    NextCanonical (execSessionAcceptReceived w session payload s) := by
  unfold Machine.execSessionAcceptReceived
  dsimp only
  split
  · exact hs.keyDiscard
  · split
    · exact hs.keyDiscard
    · exact hs.keep.noteSessions

theorem Canonical.execSessionRefuseReceived (hs : Canonical s) :
    NextCanonical (execSessionRefuseReceived w session payload s) := by
  unfold Machine.execSessionRefuseReceived
  dsimp only
  split
  · exact hs.keyDiscard
  · exact hs.closeSession.setNum _ _

theorem Canonical.execSessionCloseReceived (hs : Canonical s) :
    NextCanonical (execSessionCloseReceived w session payload s) := by
  unfold Machine.execSessionCloseReceived
  dsimp only
  split
  · exact hs.keyDiscard
  · exact hs.closeSession

theorem Canonical.endSession {w : Nat} (hs : Canonical s) : Canonical (s.endSession w n) := hs.sendKey.closeSession

theorem Canonical.endHoopSessions (hs : Canonical s) : Canonical (s.endHoopSessions h) :=
  hs.each _ (fun _ _ ht => ht.each _ (fun _ _ hu => hu.endSession) _) _

theorem Canonical.openSession {w : Nat} (hs : Canonical s) : Canonical (s.openSession w).1 := by
  unfold State.openSession
  dsimp only
  split
  · exact hs
  · split
    · exact hs
    · split
      · exact hs
      · split
        · exact hs
        · exact hs.keep.sendKey

theorem Canonical.execLineSessionOpen (hs : Canonical s) : NextCanonical (execLineSessionOpen rq w s) :=
  hs.request _ _ _ _ _ (fun _ ht => ht.reported _ _ (fun _ hu => hu.openSession))

theorem Canonical.closeCommand {w : Nat} (hs : Canonical s) : Canonical (s.closeCommand w).1 := by
  unfold State.closeCommand
  dsimp only
  split
  · exact hs
  · split
    · exact hs
    · exact hs.endSession

theorem Canonical.execLineSessionClose (hs : Canonical s) : NextCanonical (execLineSessionClose rq w s) :=
  hs.request _ _ _ _ _ (fun _ ht => ht.reported _ _ (fun _ hu => hu.closeCommand))

theorem Canonical.rekeyCommand {w : Nat} (hs : Canonical s) : Canonical (s.rekeyCommand w).1 := by
  unfold State.rekeyCommand
  dsimp only
  split
  · exact hs
  · split
    · exact hs
    · exact hs.rekeyDue

theorem Canonical.execLineRekeyTx (hs : Canonical s) : NextCanonical (execLineRekeyTx rq w s) :=
  hs.request _ _ _ _ _ (fun _ ht => ht.reported _ _ (fun _ hu => hu.rekeyCommand))

theorem Canonical.execRekeyIntervalExpiry (hs : Canonical s) : NextCanonical (execRekeyIntervalExpiry w session s) :=
  hs.rekeyDue

theorem Canonical.execRekeyOfferReceived (hs : Canonical s) :
    NextCanonical (execRekeyOfferReceived w session epoch payload s) := by
  unfold Machine.execRekeyOfferReceived
  dsimp only
  split
  · exact hs.keyDiscard
  · exact hs.keep.sendKey

theorem Canonical.execRekeyAcceptReceived (hs : Canonical s) :
    NextCanonical (execRekeyAcceptReceived w session epoch payload s) := by
  unfold Machine.execRekeyAcceptReceived
  dsimp only
  split
  · exact hs.keyDiscard
  · split
    · exact hs.keep.keyDiscard.rekeyDue
    · exact hs.keep.settleRekey

theorem Canonical.execRekeyRetireReceived (hs : Canonical s) :
    NextCanonical (execRekeyRetireReceived w session epoch payload s) := by
  unfold Machine.execRekeyRetireReceived
  dsimp only
  split
  · exact hs.keyDiscard
  · exact hs.keep

theorem Canonical.clearEffect {a : State} {key value : Nat} (ha : Canonical a) : Canonical (clearEffect h key value a).1 := by
  unfold Machine.clearEffect
  split
  · exact ha.setNum _ _ |>.markWrite _
  · exact ha

theorem Canonical.execLineHoopClearEnableAWrite {h : Hoop} {value : BitVec 8} {token : Token} (hs : Canonical s) :
    NextCanonical (execLineHoopClearEnableAWrite rq h value token s) :=
  hs.request _ _ _ _ _ (fun _ ht => ht.clearEffect)

theorem Canonical.execLineHoopClearEnableBWrite {h : Hoop} {value : BitVec 32} (hs : Canonical s) :
    NextCanonical (execLineHoopClearEnableBWrite rq h value s) :=
  hs.request _ _ _ _ _ (fun _ ht => ht.clearEffect)

theorem Canonical.execDualRailDisagreement {l : Fin 2} (hs : Canonical s) : NextCanonical (execDualRailDisagreement l s) :=
  hs.each _ (fun _ _ ht => ht.setNum _ _ |>.setNum _ _) _ |>.raise _ _

end Cipher

section HoopLife

/-! ### The functions of HoopLife -/

variable {a s : State} {h v : Nat}

theorem Canonical.settleMemoryDomains (hs : Canonical s) : Canonical s.settleMemoryDomains :=
  hs.each _ (fun _ _ ht => ht.settleDomain) _

theorem Canonical.configure (hs : Canonical s) : Canonical (s.configure h).1 := by
  unfold State.configure
  extract_lets mask capacity c s0 s1
  have h0 : Canonical s0 := hs.setNum _ _
  have h1 : Canonical s1 := h0.setNum _ _ |>.setNum _ _
  clear_value s1
  split
  · exact hs
  · split
    · exact h0
    · dsimp only
      exact h1.setTiles.settleBacking.countCapacity.settleMemoryDomains

theorem Canonical.memoryEffect (ha : Canonical a) : Canonical (memoryEffect h v a).1 := by
  unfold Machine.memoryEffect
  split
  · exact ha.plainWrite _ _
  · dsimp only
    split
    · exact canonical_ite ha (ha.setNum _ _)
    · split
      · exact ha
      · exact ha.set _ _ |>.markWrite _ |>.setNum _ _ |>.countCapacity

theorem Canonical.tileMaskEffect (ha : Canonical a) : Canonical (tileMaskEffect h v a).1 := by
  unfold Machine.tileMaskEffect
  split
  · exact ha.plainWrite _ _
  · dsimp only
    split
    · exact ha
    · split
      · exact ha
      · exact ha.set _ _ |>.markWrite _ |>.setTiles

theorem Canonical.contextEffect (ha : Canonical a) : Canonical (contextEffect h v a).1 := by
  unfold Machine.contextEffect
  split
  · exact ha.plainWrite _ _
  · dsimp only
    split
    · exact ha
    · split
      · exact ha
      · exact ha.plainWrite _ _

/-- `carvePlan` stands as a variable, as `carve` does in `Canonical.back`. -/
theorem Canonical.allocatePlan (hs : Canonical s) : Canonical (s.allocatePlan h) := by
  have hc (n t) (ht : Canonical t) : Canonical (State.carvePlan n t h).1 := ht.carvePlan
  unfold State.allocatePlan
  obtain ⟨carve, hcarve⟩ : ∃ f, f = State.carvePlan := exists_eq
  rw [← hcarve] at hc ⊢
  extract_lets p r x s1
  have hr : Canonical r.1 := canonical_foldl (fun _ _ ht => by exact hc _ _ ht) _ hs
  have h1 : Canonical s1 := hr.keep
  exact h1.each _ (fun _ _ ht => canonical_ite ht ht.writePlan) _

theorem Canonical.admitJob (hs : Canonical s) : Canonical (s.admitJob h).1 := by
  unfold State.admitJob
  dsimp only
  split
  · exact hs
  · split
    · exact hs.setNum _ _
    · split
      · exact hs.setNum _ _
      · exact hs.allocatePlan.countPools.setNum _ _ |>.each _ (fun _ _ ht => ht.setNum _ _) _

theorem Canonical.start (hs : Canonical s) : Canonical (s.start h).1 := by
  unfold State.start
  dsimp only
  split
  · exact hs.setNum _ _
  · exact hs

theorem Canonical.drain (hs : Canonical s) : Canonical (s.drain h) := hs.setNum _ _

theorem Canonical.drainCommand (hs : Canonical s) : Canonical (s.drainCommand h).1 := by
  unfold State.drainCommand
  split
  · exact hs.drain
  · exact hs

theorem Canonical.evacuateCommand (hs : Canonical s) : Canonical (s.evacuateCommand h).1 := by
  unfold State.evacuateCommand
  dsimp only
  split
  · exact hs
  · split
    · split
      · exact hs.drain.beginEvacuation
      · exact hs.drain.keep
    · split
      · exact hs.beginEvacuation
      · exact hs

theorem Canonical.freePlan (hs : Canonical s) : Canonical (s.freePlan h) :=
  hs.each _ (fun _ _ ht => ht.returnFrame) _ |>.keep |>.countPools

theorem Canonical.unbind (hs : Canonical s) : Canonical (s.unbind h).1 := by
  unfold State.unbind
  split
  · exact hs
  · exact hs.each _ (fun _ _ ht => ht.closeWindow) _ |>.freePlan |>.setNum _ _

theorem Canonical.discardOp {g : Nat} {o : Operation} (hs : Canonical s) : Canonical (s.discardOp g o) :=
  hs.voidOperation.checkFrees.freeContext

theorem Canonical.discardGroups (hs : Canonical s) : Canonical (s.discardGroups h) :=
  hs.each _ (fun _ _ ht => ht.each _ (fun _ _ hu => hu.voidOperation) _ |>.checkFrees |>.each _ (fun _ _ hu => hu.discardOp) _
    |>.freeGroup) _

theorem Canonical.emptyQueues (hs : Canonical s) : Canonical (s.emptyQueues h) := hs.each _ (fun _ _ ht => ht.keep) _ |>.keep

theorem Canonical.unbindQps (hs : Canonical s) : Canonical (s.unbindQps h) := hs.each _ (fun _ _ ht => ht.qpReset.keep) _

theorem Canonical.abortJobs {x : HoopData} (hs : Canonical s) : Canonical (s.abortJobs h x) := by
  unfold State.abortJobs
  refine canonical_ite (Canonical.setNum _ _ ?_) ?_
  · split
    · exact hs.setNum _ _
    · exact hs
  · split
    · exact hs.setNum _ _
    · exact hs

theorem Canonical.filterObjects {p : Nat × Val → Bool} {meter net} (hs : Canonical s) :
    Canonical { s with dict := s.dict.filter p, meter := meter, net := net } :=
  canonical_filter p rfl rfl hs

theorem Canonical.releaseHoop (hs : Canonical s) : Canonical (s.releaseHoop h) := by
  unfold State.releaseHoop
  extract_lets s1 s2 s3 s4 s5 s6
  have h2 : Canonical s2 := hs.discardGroups.emptyQueues.endHoopSessions.unbindQps
  have h3 : Canonical s3 := h2.each _ (fun _ _ ht => ht.closeWindow) _
  have h5 : Canonical s5 := h3.returnHoopFrames.each _ (fun _ _ ht => ht.disownTile) _
  exact h5.filterObjects.keep.abortJobs.countCapacity.settleMemoryDomains

theorem Canonical.release (hs : Canonical s) : Canonical (s.release h).1 := by
  unfold State.release
  dsimp only
  split
  · dsimp only
    exact hs.releaseHoop
  · exact hs

theorem Canonical.takeHoops (hs : Canonical s) : Canonical s.takeHoops :=
  hs.each _ (fun _ _ ht => canonical_ite ((canonical_ite ht ht.hoopFault).returnHoopFrames |>.setNum _ _ |>.keep) ht) _
    |>.countCapacity

theorem Canonical.noteEvacuationReads (hs : Canonical s) : Canonical (s.noteEvacuationReads h) := hs.noteBadLines

theorem Canonical.writeEvacuation {e : Evacuation} (hs : Canonical s) : Canonical (s.writeEvacuation h e) :=
  canonical_ite (hs.each _ (fun _ _ ht => ht.emitTo) _) (canonical_ite hs hs.keep).rdmaWrite

end HoopLife

section ImageOps

/-! ### The functions of ImageOps -/

variable {s : State} {h t : Nat}

theorem Canonical.countSlot (hs : Canonical s) : Canonical (s.countSlot h t) :=
  hs.setNum _ _ |>.setBytes _ _ |>.setBytes _ _ |>.setBytes _ _ |>.iteThen (·.setNum _ _) |>.setNum _ _

theorem Canonical.setSlot {current pending : Bytes} (hs : Canonical s) : Canonical (s.setSlot h t current pending) :=
  hs.keep.countSlot

theorem Canonical.activateSlot (hs : Canonical s) : Canonical (s.activateSlot h t) :=
  hs.setSlot.each _ (fun _ _ ht => ht.startExchange) _

theorem Canonical.activateDue (hs : Canonical s) : Canonical (s.activateDue h) :=
  hs.each _ (fun _ _ ht => canonical_ite ht.activateSlot ht) _

theorem Canonical.startJob {j : ImageJob} (hs : Canonical s) : Canonical (s.startJob h j) := hs.keep.setNum _ _

theorem Canonical.refuseImage (hs : Canonical s) : Canonical (s.refuseImage h) := hs.setNum _ _ |>.setNum _ _

theorem Canonical.jobCommand {h : Nat} {f : State → State} (hs : Canonical s) (hf : ∀ t, Canonical t → Canonical (f t)) :
    Canonical (jobCommand h f s).1 := by
  unfold Machine.jobCommand
  split
  · exact hs
  · exact hf s hs

theorem Canonical.loadImage {pending : Bool} (hs : Canonical s) : Canonical (s.loadImage h pending) :=
  hs.noteBadLines.startJob

theorem Canonical.cancelPending (hs : Canonical s) : Canonical (s.cancelPending h) := canonical_ite hs.refuseImage hs.startJob

theorem Canonical.clearImage (hs : Canonical s) : Canonical (s.clearImage h) := canonical_ite hs.refuseImage hs.startJob

theorem Canonical.loadPlan (hs : Canonical s) : Canonical (s.loadPlan h) := hs.noteBadLines.startJob

theorem Canonical.unloadPlan (hs : Canonical s) : Canonical (s.unloadPlan h) :=
  canonical_ite (hs.setNum _ _ |>.setNum _ _) hs.startJob

theorem Canonical.setPlan {p : Bytes} (hs : Canonical s) : Canonical (s.setPlan h p) :=
  hs.keep.setBytes _ _ |>.setNum _ _ |>.iteElse (fun h => h.setNum _ _ |>.setNum _ _) |>.setNum _ _

theorem Canonical.finishEffect {a : ImageEffect} (hs : Canonical s) : Canonical (s.finishEffect h a) := by
  unfold State.finishEffect
  split
  · exact hs
  · exact hs.setSlot.clearLines
  · exact hs.setNum _ _ |>.setSlot |>.clearLines
  · exact hs.setSlot
  · exact hs.setSlot
  · exact hs.setPlan
  · exact hs.setPlan

theorem Canonical.finishJob {isPlan : Bool} (hs : Canonical s) : Canonical (s.finishJob h isPlan) := by
  unfold State.finishJob
  split
  · exact hs
  · exact canonical_ite hs (hs.keep.finishEffect.branch (fun h => h.setNum _ _ |>.setNum _ _) (fun h => h.setNum _ _
      |>.setNum _ _))

end ImageOps

section TileOps

/-! ### The functions of TileOps -/

variable {s : State} {readable : Bool} {g i t tile : Nat} {key : Nat × Nat × Nat} {o : Operation}

theorem Canonical.fillZone {base : Nat} (hs : Canonical s) : Canonical (s.fillZone g o i tile base) := by
  unfold State.fillZone
  split
  · dsimp only
    split
    · exact hs
    · exact canonical_ite hs.ownerFault (hs.each _ (fun _ _ ht => ht.keep) _ |>.keep |>.freeAll |>.settleSpill |>.iteElse
        (fun h => h.noteBadLines.inputLost))
  · exact hs

theorem Canonical.bindTo {zone : Nat} (hs : Canonical s) : Canonical (s.bindTo g o i tile zone) := by
  unfold State.bindTo
  refine Canonical.dropWaiting ?_ |>.fillZone |>.settleTile |>.voteBound
  split
  · exact hs.keep
  · split
    · exact hs.keep.ownerFault
    · exact hs.keep.freeAll

theorem Canonical.bindChunk (hs : Canonical s) : Canonical (s.bindChunk g o i) := by
  unfold State.bindChunk
  split
  · exact hs
  · split
    · exact hs
    · exact hs.bindTo

theorem Canonical.loadProgram {h : Nat} {image e : Bytes} (hs : Canonical s) : Canonical (s.loadProgram t h o image e) := by
  unfold State.loadProgram
  extract_lets x hash fresh torn s1
  have h1 : Canonical s1 := canonical_ite (hs.keep.bump _ _ _) hs
  clear_value s1
  split
  · exact hs.noteBadLines.hoopFault
  · split
    · exact h1
    · extract_lets differs
      split
      · split
        extract_lets bad other s2 s3
        have h3 : Canonical s3 := h1.keep.iteThen (·.bump _ _ _)
        exact canonical_ite h1.ownerFault (canonical_ite h3 h1.noteBadLines.hoopFault)
      · exact h1

theorem Canonical.startChunk {c : Chunk} (hs : Canonical s) : Canonical (s.startChunk t c) := by
  unfold State.startChunk
  split
  · exact hs
  · exact hs.loadProgram.keep.each _ (fun _ _ ht => ht.keep) _ |>.iteElse (fun h => h.keep.settleTile)

theorem Canonical.moveChunk (hs : Canonical s) : Canonical (s.moveChunk t readable key) := by
  unfold State.moveChunk
  split
  · exact hs.leaveTile.keep.iteThen (·.inputLost)
  · exact hs.leaveTile

theorem Canonical.rebind (hs : Canonical s) : Canonical (s.rebind key) := by
  unfold State.rebind
  split
  · exact canonical_ite hs.bindChunk hs
  · exact hs

theorem Canonical.moveChunks (hs : Canonical s) : Canonical (s.moveChunks t readable) :=
  hs.each _ (fun _ _ ht => ht.moveChunk) _ |>.each _ (fun _ _ ht => ht.rebind) _

theorem Canonical.countFault (hs : Canonical s) : Canonical (s.countFault t).1 := by
  unfold State.countFault
  split
  · exact hs
  · exact hs.keep

theorem Canonical.tileFaults {cause : Nat} (hs : Canonical s) : Canonical (s.tileFaults t cause readable) := by
  unfold State.tileFaults
  split
  · exact hs
  · refine Canonical.setNum _ _ ?_ |>.setNum _ _ |>.raise _ _ |>.iteElse (fun h => h.moveChunks.branch (·.hoopFault)
      (fun h => h.iteThen (·.hoopFault)))
    split
    · exact hs
    · exact hs.countFault

theorem Canonical.tripTile (hs : Canonical s) : Canonical (s.tripTile t) :=
  hs.bump _ _ _ |>.raise _ _ |>.keep |>.iteElse (fun h => h.setNum _ _ |>.moveChunks)

theorem Canonical.dropTile (hs : Canonical s) : Canonical (s.dropTile t) :=
  hs.bump _ _ _ |>.raise _ _ |>.keep |>.branch (·.setFlag _ _) (fun h => h.setNum _ _ |>.iteThen (·.setFlag _ _))

theorem Canonical.thermalVote {d : Nat} {highest : Int} (hs : Canonical s) : Canonical (s.thermalVote d highest) :=
  canonical_ite (hs.setNum _ _) (canonical_ite (hs.setNum _ _) hs)

end TileOps

section ResetOps

/-! ### The functions of ResetOps -/

variable {s : State} {g : Nat}

theorem Canonical.sizeMemory (hs : Canonical s) : Canonical s.sizeMemory :=
  hs.setNum _ _ |>.setNum _ _ |>.each _ (fun _ _ ht => ht.setNum _ _ |>.setNum _ _ |>.setNum _ _) _ |>.setNum _ _
    |>.setNum _ _ |>.each _ (fun _ _ ht => ht.countPools) _ |>.countCapacity

theorem Canonical.listChannels {m : Nat} (hs : Canonical s) : Canonical (s.listChannels m) :=
  hs.each _ (fun _ _ ht => canonical_ite (ht.setNum _ _) ht) _

theorem Canonical.resetOp {o : Operation} (hs : Canonical s) : Canonical (s.resetOp g o) := hs.endOpWith.freeContext

theorem Canonical.resetGroup (hs : Canonical s) : Canonical (s.resetGroup g) :=
  hs.each _ (fun _ _ ht => ht.endHoldings) _ |>.each _ (fun _ _ ht => ht.resetOp) _ |>.keep |>.iteThen (·.setNum _ _)

theorem Canonical.endWork (hs : Canonical s) : Canonical s.endWork :=
  hs.each _ (fun _ _ ht => ht.resetGroup) _ |>.each _ (fun _ _ ht => canonical_ite ((canonical_ite ht.keep ht).setNum _ _)
    (canonical_ite ht.keep ht)) _ |>.each _ (fun _ _ ht => ht.keepFor) _ |>.each _ (fun _ _ ht => ht.keepFor) _ |>.keep

theorem Canonical.countKept (hs : Canonical s) : Canonical s.countKept :=
  hs.setNum _ _ |>.setNum _ _ |>.each _ (fun _ _ ht => ht.setNum _ _ |>.setNum _ _ |>.setNum _ _) _

theorem Canonical.configureAgain {h : Nat} (hs : Canonical s) : Canonical (s.configureAgain h) :=
  hs.configure.iteElse (fun h => h.setNum _ _ |>.hoopFault)

theorem Canonical.deriveAgain (hs : Canonical s) : Canonical s.deriveAgain :=
  hs.each _ (fun _ _ ht => ht.setNum _ _ |>.setNum _ _ |>.keep) _ |>.keep |>.each _ (fun _ _ ht => ht.each _
    (fun _ _ hu => hu.setSlot) _ |>.iteElse (·.setPlan) |>.setNum _ _ |>.setNum _ _ |>.setNum _ _ |>.setNum _ _
    |>.setNum _ _) _ |>.each _ (fun _ _ ht => ht.setNum _ _) _ |>.each _ (fun _ _ ht => ht.bump _ _ _ |>.setNum _ _) _
    |>.sizeMemory |>.each _ (fun _ _ ht => ht.configureAgain) _ |>.countKept

theorem Canonical.readGroups (hs : Canonical s) : Canonical s.readGroups := hs.each _ (fun _ _ ht => ht.keep) _

theorem Canonical.comeUp {ds : List Nat} (hs : Canonical s) : Canonical (s.comeUp ds) :=
  hs.each _ (fun _ _ ht => ht.keep.setNum _ _ |>.setSleep |>.setNum _ _ |>.setNum _ _) _ |>.each _
    (fun _ _ ht => ht.settleDomain) _

theorem Canonical.loseMemory (hs : Canonical s) : Canonical s.loseMemory := ⟨hs.1, Memory.wf_nil⟩

theorem Canonical.loseLine (hs : Canonical s) : Canonical s.loseLine := hs.each _ (fun _ _ ht => ht.returnSpare) _ |>.keep

theorem Canonical.forgetWales (hs : Canonical s) : Canonical s.forgetWales := hs.keepObjects _

theorem Canonical.diesOff (hs : Canonical s) : Canonical s.diesOff :=
  hs.loseMemory.loseLine.keepObjects _ |>.forgetWales |>.deriveAgain |>.each _ (fun _ _ ht => ht.setNum _ _) _ |>.keep
    |>.countWales |>.settleOptics

end ResetOps

section TimeUnit

/-! ### The functions of TimeUnit -/

variable {s : State} {master : BitVec 64} {domain : BitVec 8} {port : Fin 2} {offset t1 t2 : Int} {b d dataset : Nat}
  {rq : Requester}

theorem Canonical.setProtectedD {d : Int} (hs : Canonical s) : Canonical (s.setProtectedD d) := hs.setNum _ _

theorem Canonical.stepBase {ns : Nat} (hs : Canonical s) : Canonical (s.stepBase b ns) :=
  hs.keep.iteThen (·.setProtectedD) |>.bump _ _ _ |>.raise _ _

theorem Canonical.selectSource (hs : Canonical s) : Canonical (s.selectSource b) :=
  hs.setNum _ _ |>.setProtectedD |>.bump _ _ _ |>.raise _ _

theorem Canonical.leftLocked (hs : Canonical s) : Canonical (s.leftLocked b) := hs.raise _ _ |>.iteThen (·.selectSource)

theorem Canonical.reachLocked (hs : Canonical s) : Canonical (s.reachLocked b) :=
  hs.setNum _ _ |>.raise _ _ |>.iteThen (fun h => h.setNum _ _ |>.setProtectedD)

theorem Canonical.setTbState {st : Nat} (hs : Canonical s) : Canonical (s.setTbState b st) :=
  hs.setNum _ _ |>.iteThen (·.leftLocked)

theorem Canonical.servoIncrement (hs : Canonical s) : Canonical (s.servoIncrement b) := hs.setNum _ _ |>.keep

theorem Canonical.correct {step : Bool} (hs : Canonical s) : Canonical (s.correct b offset step) :=
  canonical_ite hs (canonical_ite hs.stepBase hs.servoIncrement)

theorem Canonical.slew (hs : Canonical s) : Canonical s.slew := canonical_ite hs.keep hs.setProtectedD.keep

theorem Canonical.ppsFall (hs : Canonical s) : Canonical s.ppsFall := by
  unfold State.ppsFall
  split
  · exact canonical_ite hs.keep hs
  · exact hs

theorem Canonical.timeTick (hs : Canonical s) : Canonical s.timeTick := hs.keep.slew.ppsFall

theorem Canonical.execTbSetTime {b : Base} {value : BitVec 80} (hs : Canonical s) :
    NextCanonical (execTbSetTime rq b value s) := by
  unfold Machine.execTbSetTime
  refine hs.request _ _ _ _ _ (fun _ ht => ?_)
  split
  · exact ht
  · exact ht.stepBase

theorem Canonical.execTbIncrementWrite {b : Base} {value : BitVec 64} (hs : Canonical s) :
    NextCanonical (execTbIncrementWrite rq b value s) := by
  unfold Machine.execTbIncrementWrite
  refine hs.request _ _ _ _ _ (fun _ ht => ?_)
  split
  · exact ht.setNum _ _
  · exact ht

theorem Canonical.announce {master grandmaster masterTime : Nat} (hs : Canonical s) :
    Canonical (s.announce d master grandmaster dataset masterTime) := by
  unfold State.announce
  dsimp only
  split
  · exact hs
  · exact hs.keep.setBytes _ _ |>.branch (fun h => h.keep.setNum _ _ |>.iteThen (·.stepBase)) (fun h => h.iteThen
      (fun h => h.keep.setTbState))

theorem Canonical.execPtpAnnounceReceived {grandmaster : BitVec 64} {masterTime : BitVec 80} (hs : Canonical s) :
    NextCanonical (execPtpAnnounceReceived port domain master grandmaster dataset masterTime s) :=
  hs.each _ (fun _ _ ht => ht.announce) _

theorem Canonical.ptpSync (hs : Canonical s) : Canonical (s.ptpSync d t1 t2) := by
  unfold State.ptpSync
  extract_lets _ _ _ s0 _ _ _ _
  have hs0 : Canonical s0 := hs.keep.setInt _ _
  split
  · exact hs0.keep.correct.iteThen (·.reachLocked)
  · exact hs0.keep.branch (fun h => h.setTbState.correct) (·.correct)
  · exact hs0.keep.setNum _ _
  · exact hs0

theorem Canonical.execPtpSyncReceived (hs : Canonical s) : NextCanonical (execPtpSyncReceived port domain master t1 t2 s) :=
  hs.each _ (fun _ _ ht => ht.ptpSync) _

theorem Canonical.execPtpDelayResponseReceived {t3 t4 : Int} (hs : Canonical s) :
    NextCanonical (execPtpDelayResponseReceived port domain master t3 t4 s) := by
  unfold Machine.execPtpDelayResponseReceived
  refine hs.each _ (fun _ _ ht => ?_) _
  dsimp only
  split
  · exact ht
  · exact ht.keep.setInt _ _

theorem Canonical.execTimeSourceTimeout {d : Fin 2} (hs : Canonical s) : NextCanonical (execTimeSourceTimeout d s) := by
  unfold Machine.execTimeSourceTimeout
  split
  · exact hs.setTbState
  · exact hs

theorem Canonical.execTimeRevertHoldExpiry (hs : Canonical s) : NextCanonical (execTimeRevertHoldExpiry s) := by
  unfold Machine.execTimeRevertHoldExpiry
  dsimp only
  split
  · exact hs.selectSource
  · exact hs

theorem Canonical.chooseParent (hs : Canonical s) : Canonical s.chooseParent := by
  unfold State.chooseParent
  split
  exact hs.setNum _ _ |>.setNum _ _ |>.setNum _ _

theorem Canonical.steerLine (hs : Canonical s) : Canonical (s.steerLine offset) := hs.correct

theorem Canonical.execTimeSyncSend (hs : Canonical s) : NextCanonical (execTimeSyncSend s) :=
  hs.chooseParent.iteThen (·.steerLine) |>.each _ (fun _ _ ht => ht.sendModule) _

theorem Canonical.execTimeSyncReceived {w : Wale} {payload : Bytes} (hs : Canonical s) :
    NextCanonical (execTimeSyncReceived w payload s) := by
  unfold Machine.execTimeSyncReceived
  split
  · exact hs
  · dsimp only
    split
    · exact hs.keep.chooseParent.setInt _ _ |>.setNum _ _ |>.setInt _ _ |>.steerLine
    · exact hs.keep.chooseParent

theorem Canonical.execPpsInEdge (hs : Canonical s) : NextCanonical (execPpsInEdge s) := hs.setBytes _ _ |>.bump _ _ _

theorem Canonical.execPpsOutEdge (hs : Canonical s) : NextCanonical (execPpsOutEdge s) := nextCanonical_ite hs hs.keep

end TimeUnit

section SafeState

/-! ### The functions of SafeState -/

variable {s : State} {d p regulator : Nat}

theorem Canonical.setModule {st : Nat} (hs : Canonical s) : Canonical (s.setModule st) := hs.setNum _ _ |>.iteThen (·.keep)

theorem Canonical.postStage {stage status : Nat} (hs : Canonical s) : Canonical (s.postStage stage regulator status) :=
  hs.postMailbox

theorem Canonical.enterLimp {cause : Nat} (hs : Canonical s) : Canonical (s.enterLimp cause regulator) :=
  hs.setModule.setNum _ _ |>.diesOff |>.postStage |>.keep |>.setNum _ _ |>.keep

theorem Canonical.shutdown {die : Nat} (hs : Canonical s) : Canonical (s.shutdown die) :=
  canonical_ite hs (hs.each _ (fun _ _ ht => ht.setSleep) _ |>.enterLimp |>.setP _ _ |>.raise _ _)

theorem Canonical.portDown (hs : Canonical s) : Canonical (s.portDown p) :=
  canonical_ite hs (hs.setNum _ _ |>.setNum _ _ |>.setNum _ _ |>.each _ (fun _ _ ht => ht.setNum _ _ |>.setNum _ _) _)

theorem Canonical.memoryAis {m : Nat} {b : Bool} (hs : Canonical s) : Canonical (s.memoryAis m b) :=
  hs.each _ (fun _ _ ht => ht.setAis) _

theorem Canonical.memoryDieLost {m cause : Nat} (hs : Canonical s) : Canonical (s.memoryDieLost m cause) := by
  unfold State.memoryDieLost
  extract_lets x s1
  have h1 : Canonical s1 := canonical_memory_filter (s := s) (fun c => c.1 / 2 ^ 38 != m) rfl rfl hs
  exact h1.memoryAis.each _ (fun _ _ ht => ht.hoopFault) _

theorem Canonical.managementLinkDown (hs : Canonical s) : Canonical (s.managementLinkDown p) :=
  hs.setNum _ _ |>.each _ (fun _ _ ht => canonical_ite ht.setTbState ht) _

theorem Canonical.managementDown (hs : Canonical s) : Canonical s.managementDown := hs.managementLinkDown.managementLinkDown

theorem Canonical.sendAis {l : Nat} (hs : Canonical s) : Canonical (s.sendAis l) := hs.each _ (fun _ _ ht => ht.setAis) _

theorem Canonical.domainSafe (hs : Canonical s) : Canonical (s.domainSafe d) := by
  unfold State.domainSafe
  split
  · exact hs.each _ (fun _ _ ht => ht.portDown) _ |>.settleOptics
  · split
    · exact hs.each _ (fun _ _ ht => ht.breakGroup) _
    · split
      · exact hs.keep
      · split
        · exact hs.managementDown
        · split
          · exact hs.keep
          · split
            · exact hs
            · split
              · exact hs.tileFaults
              · split
                · exact hs.each _ (fun _ _ ht => ht.tileFaults) _
                · exact canonical_ite hs.memoryDieLost (canonical_ite (hs.each _ (fun _ _ ht => ht.portDown) _) (canonical_ite
                    (canonical_ite hs.sendAis hs.settleOptics) (canonical_ite hs.settleOptics (hs.setNum _ _))))

theorem Canonical.enterSafe (hs : Canonical s) : Canonical (s.enterSafe d) := canonical_ite hs (hs.setNum _ _ |>.domainSafe)

theorem Canonical.failDomain (hs : Canonical s) : Canonical (s.failDomain d) :=
  canonical_ite (hs.bump _ _ _ |>.raise _ _ |>.enterSafe) hs

end SafeState

section Clocks

/-! ### The functions of Clocks -/

variable {a s : State} {d : Domain} {value : Nat} {rq : Requester} {c : Source}

theorem Canonical.beginSwitch {d : Nat} (hs : Canonical s) : Canonical (s.beginSwitch d) :=
  hs.setNum _ _ |>.each _ (fun _ _ ht => ht.loseFec) _

theorem Canonical.execXtalReady (hs : Canonical s) : NextCanonical (execXtalReady s) :=
  hs.setFlag _ _ |>.each _ (fun _ _ ht => canonical_ite ht (canonical_ite ht.beginSwitch (canonical_ite ht.keep ht))) _

theorem Canonical.execSourceReady {frequency : BitVec 32} (hs : Canonical s) :
    NextCanonical (execSourceReady c frequency s) := by
  unfold Machine.execSourceReady
  split
  · exact hs
  · exact hs.setFlag _ _ |>.setNum _ _

theorem Canonical.execSourceNotReady (hs : Canonical s) : NextCanonical (execSourceNotReady c s) := hs.setFlag _ _

theorem Canonical.execClockFail {x : ClockUnit} (hs : Canonical s) : NextCanonical (execClockFail x s) := by
  unfold Machine.execClockFail
  split
  · exact hs.failDomain
  · exact hs.setFlag _ _ |>.bump _ _ _ |>.each _ (fun _ _ ht => ht.failDomain) _

theorem Canonical.domainSourceEffect {d : Nat} (ha : Canonical a) : Canonical (domainSourceEffect d value a).1 := by
  unfold Machine.domainSourceEffect
  dsimp only
  split
  · exact ha.setNum _ _
  · split
    · exact ha.setNum _ _ |>.setP _ _ |>.beginSwitch
    · exact ha.setNum _ _ |>.setP _ _ |>.keep

theorem Canonical.execDomainSourceWrite {value : BitVec 8} (hs : Canonical s) :
    NextCanonical (execDomainSourceWrite rq d value s) :=
  hs.request _ _ _ _ _ (fun _ ht => ht.domainSourceEffect)

theorem Canonical.rootLocked {d : Nat} (hs : Canonical s) : Canonical (s.rootLocked d) := hs.keep.setNum _ _

theorem Canonical.execDomainSwitchComplete (hs : Canonical s) : NextCanonical (execDomainSwitchComplete d s) := by
  unfold Machine.execDomainSwitchComplete
  split
  · exact hs.setNum _ _ |>.rootLocked
  · exact hs

theorem Canonical.endAis {l : Nat} (hs : Canonical s) : Canonical (s.endAis l) := hs.each _ (fun _ _ ht => ht.setAis.setAis) _

theorem Canonical.memoryWorks {m : Nat} (hs : Canonical s) : Canonical (s.memoryWorks m) := canonical_ite hs hs.memoryAis

theorem Canonical.restartDomain {d : Nat} (hs : Canonical s) : Canonical (s.restartDomain d) :=
  hs.setNum _ _ |>.rootLocked |>.iteThen (·.endAis) |>.iteThen (·.memoryWorks) |>.iteThen (·.keep) |>.iteThen (·.setNum _ _)
    |>.setSleep |>.settleOptics

theorem Canonical.execDomainRestart (hs : Canonical s) : NextCanonical (execDomainRestart rq d s) := by
  unfold Machine.execDomainRestart
  refine hs.request _ _ _ _ _ (fun _ ht => ht.reported _ _ (fun _ hu => ?_))
  split
  · exact hu
  · split
    · exact hu
    · dsimp only
      exact hu.restartDomain

theorem Canonical.execIntoscTrimMeasure {cycles : Nat} {interrupted : Bool} (hs : Canonical s) :
    NextCanonical (execIntoscTrimMeasure cycles interrupted s) := by
  unfold Machine.execIntoscTrimMeasure
  dsimp only
  split
  · exact hs
  · split
    · exact hs.setNum _ _
    · exact hs.setNum _ _ |>.setNum _ _ |>.setInt _ _

theorem Canonical.clkoutEffect {sub : Nat} (hs : Canonical s) : Canonical (clkoutEffect sub value s).1 := by
  unfold Machine.clkoutEffect
  extract_lets select divisor s1
  have h1 : Canonical s1 := hs.setP _ _
  clear_value select divisor
  split
  · exact hs
  · exact h1.iteThen (·.keep)

theorem Canonical.execClkoutWrite {object : BitVec 8} {value : BitVec 32} (hs : Canonical s) :
    NextCanonical (execClkoutWrite rq object value s) :=
  hs.request _ _ _ _ _ (fun _ ht => ht.clkoutEffect)

theorem Canonical.execAutoGateIdle {block : BitVec 16} (hs : Canonical s) : NextCanonical (execAutoGateIdle d block s) := by
  unfold Machine.execAutoGateIdle
  split
  · exact hs
  · exact hs.keep

theorem Canonical.execBlockEnableComplete {b : LargeBlock} (hs : Canonical s) :
    NextCanonical (execBlockEnableComplete b s) := by
  unfold Machine.execBlockEnableComplete
  split
  · exact hs.keep
  · exact hs

end Clocks

section ReadOps

/-! ### The functions of ReadOps -/

variable {s : State}

theorem Canonical.answerRead {rq : Requester} {k offset length flags : Nat} {value : Bytes} (hs : Canonical s) :
    Canonical (s.answerRead rq k offset length flags value) :=
  canonical_ite (hs.keep.answer _ _ _ _ _) (canonical_ite (hs.answer _ _ _ _ _) (hs.answer _ _ _ _ _))

theorem Canonical.serveRead {rq : Requester} {k offset length : Nat} {f : State → State × Bytes} (hs : Canonical s)
    (hf : ∀ t, Canonical t → Canonical (f t).1) : Canonical (s.serveRead rq k offset length f) := by
  have ht := hs.served rq k
  exact canonical_ite hs (canonical_ite ((ht.countRefusal _ _ _).answer _ _ _ _ _) (hf _ ht).answerRead)

end ReadOps

section NetOps

/-! ### The functions of NetOps -/

variable {s : State} {address : Nat}

theorem Canonical.reportSuspect (hs : Canonical s) : Canonical (s.reportSuspect address) := canonical_ite (hs.raise _ _) hs

theorem Canonical.suspect (hs : Canonical s) : Canonical (s.suspect address) := canonical_ite hs hs.keep.reportSuspect

theorem Canonical.unsuspect (hs : Canonical s) : Canonical (s.unsuspect address) :=
  canonical_ite hs (hs.keep.iteThen (·.raise _ _))

theorem Canonical.settleSuspicion (hs : Canonical s) : Canonical s.settleSuspicion :=
  hs.each _ (fun _ _ ht => canonical_ite ht.unsuspect ht.suspect) _

theorem Canonical.computeRoutes (hs : Canonical s) : Canonical s.computeRoutes := hs.keep.settleSuspicion.flushNotices

theorem Canonical.settleConflict (hs : Canonical s) : Canonical (s.settleConflict address) :=
  canonical_ite hs (canonical_ite (canonical_ite hs (hs.keep.raise _ _ |>.computeRoutes))
    (canonical_ite hs.keep.computeRoutes hs))

theorem Canonical.announced {a : Announcement} (hs : Canonical s) : Canonical (s.announced a) := hs.keep.settleConflict

theorem Canonical.flood {but : Option Nat} {kind : Nat} {payload : Bytes} (hs : Canonical s) :
    Canonical (s.flood but kind payload) :=
  hs.each _ (fun _ _ ht => ht.sendModule) _

end NetOps

section Meter

/-! ### The functions of Meter -/

variable {s : State} {rq : Requester}

theorem Canonical.execMeterLinkFrame {link : Fin 13} {crcOk : Bool} {count : Nat} {increments : List MeterIncrement}
    (hs : Canonical s) : NextCanonical (execMeterLinkFrame link crcOk count increments s) :=
  canonical_ite hs (canonical_ite hs.keep hs.keep)

theorem Canonical.execMeterAdcSample {mainInput standbyInput : Nat} {rails : List Nat} (hs : Canonical s) :
    NextCanonical (execMeterAdcSample mainInput standbyInput rails s) :=
  canonical_ite hs hs.keep

theorem Canonical.execMeterEnergySplit (hs : Canonical s) : NextCanonical (execMeterEnergySplit s) := canonical_ite hs hs.keep

theorem Canonical.writeMeterRecord {powerFail : Bool} (hs : Canonical s) : Canonical (s.writeMeterRecord powerFail) :=
  hs.keep.setNum _ _ |>.setNum _ _

theorem Canonical.execMeterRecord (hs : Canonical s) : NextCanonical (execMeterRecord s) := by
  unfold Machine.execMeterRecord
  split
  · exact hs
  · exact hs.keep
  · exact hs.writeMeterRecord

theorem Canonical.execMeterPowerFailRecord (hs : Canonical s) : NextCanonical (execMeterPowerFailRecord s) :=
  canonical_ite hs.writeMeterRecord hs

theorem Canonical.execMeterStageWrite {offset : BitVec 32} {data : Bytes} (hs : Canonical s) :
    NextCanonical (execMeterStageWrite rq offset data s) := by
  unfold Machine.execMeterStageWrite
  refine hs.request _ _ _ _ _ (fun _ ht => ?_)
  split
  · exact ht
  · exact ht.keep

theorem Canonical.execMeterInstall (hs : Canonical s) : NextCanonical (execMeterInstall rq s) := by
  unfold Machine.execMeterInstall
  refine hs.request _ _ _ _ _ (fun _ ht => ht.reported _ _ (fun _ hu => ?_))
  split
  · exact hu
  · dsimp only
    split
    · exact hu
    · split
      · exact hu
      · exact hu.setNum _ _ |>.keep

theorem Canonical.execMeterRestartComplete (hs : Canonical s) : NextCanonical (execMeterRestartComplete s) :=
  canonical_ite hs (hs.setNum _ _ |>.setNum _ _ |>.setNum _ _ |>.setBytes _ _ |>.iteThen (·.writeMeterRecord))

end Meter

section Security

/-! ### The functions of Security -/

variable {s : State} {nonce : Bytes} {scope status : Nat} {rq : Requester}

theorem Canonical.execFirmwareStageWrite {offset : BitVec 32} {data : Bytes} (hs : Canonical s) :
    NextCanonical (execFirmwareStageWrite rq offset data s) := by
  unfold Machine.execFirmwareStageWrite
  refine hs.request _ _ _ _ _ (fun _ ht => ?_)
  split
  · exact ht
  · exact ht.keep

theorem Canonical.execFirmwareInstall (hs : Canonical s) : NextCanonical (execFirmwareInstall rq s) := by
  unfold Machine.execFirmwareInstall
  refine hs.request _ _ _ _ _ (fun _ ht => ht.reported _ _ (fun _ hu => ?_))
  dsimp only
  split
  · exact hu
  · split
    · exact hu
    · split
      · exact hu
      · split
        · exact hu
        · exact hu.keep

theorem Canonical.execFirmwareInstallComplete {readBackOk : Bool} (hs : Canonical s) :
    NextCanonical (execFirmwareInstallComplete readBackOk s) := by
  unfold Machine.execFirmwareInstallComplete
  split
  · exact hs
  · exact hs.keep.branch (fun h => h.keep.setP _ _ |>.setNum _ _) (·.setNum _ _)

theorem Canonical.takeOwner {key : Bytes} (hs : Canonical s) : Canonical (s.takeOwner key) :=
  hs.setP _ _ |>.setP _ _ |>.setP _ _ |>.setBytes _ _ |>.each _ (fun _ _ ht => ht.setBytes _ _ |>.setBytes _ _
    |>.markWrite _) _

theorem Canonical.execOwnershipTransfer {record : Bytes} (hs : Canonical s) :
    NextCanonical (execOwnershipTransfer rq record s) :=
  hs.checked _ _ _ _ _ (fun _ ht => canonical_ite (ht.answer _ _ _ _ _) (canonical_ite (ht.answer _ _ _ _ _) (canonical_ite
    (ht.answer _ _ _ _ _) (ht.takeOwner.beginCommit _ |>.raise _ _ |>.iteElse (·.answer _ _ _ _ _)))))

theorem Canonical.execRollbackFloorWrite {value : BitVec 32} {token : Token} (hs : Canonical s) :
    NextCanonical (execRollbackFloorWrite rq value token s) := by
  unfold Machine.execRollbackFloorWrite
  refine hs.request _ _ _ _ _ (fun _ ht => ?_)
  dsimp only
  split
  · exact ht
  · exact ht.setP _ _ |>.keep |>.iteThen (·.raise _ _)

theorem Canonical.startQuote (hs : Canonical s) : Canonical (s.startQuote scope status nonce) := hs.setNum _ _ |>.keep

theorem Canonical.nonceEffect {a : State} {nonceKey : Nat} (ha : Canonical a) :
    Canonical (nonceEffect scope nonceKey status nonce a).1 := by
  unfold Machine.nonceEffect
  split
  · exact ha
  · exact ha.setBytes _ _ |>.startQuote

theorem Canonical.execAttestNonceWrite (hs : Canonical s) : NextCanonical (execAttestNonceWrite rq nonce s) :=
  hs.request _ _ _ _ _ (fun _ ht => ht.nonceEffect)

theorem Canonical.execHoopAttestNonceWrite {h : Hoop} (hs : Canonical s) :
    NextCanonical (execHoopAttestNonceWrite rq h nonce s) :=
  hs.request _ _ _ _ _ (fun _ ht => ht.nonceEffect)

theorem Canonical.execQuoteComplete {scope : Option Hoop} (hs : Canonical s) : NextCanonical (execQuoteComplete scope s) :=
  canonical_ite hs (hs.keep.setBytes _ _ |>.setNum _ _)

end Security

section Views

/-! ### The functions of Views -/

variable {s : State} {k : Nat}

theorem Canonical.settleLatch (hs : Canonical s) : Canonical (s.settleLatch k) := by
  unfold State.settleLatch
  split
  · exact hs
  · exact canonical_ite hs (hs.setNum _ _ |>.keep)

theorem Canonical.readObject {rq : Requester} (hs : Canonical s) : Canonical (State.readObject rq k s).1 := by
  unfold State.readObject
  split
  · exact hs.bump _ _ _
  · split
    · exact hs.keep
    · split
      · exact hs.settleLatch.countUp
      · exact hs

end Views

section Control

/-! ### The functions of Control -/

variable {s : State} {word : BitVec 32} {j : CommitJob} {n : Mailbox} {source : Nat} {session : PdpSession} {rq : Requester}

theorem Canonical.execMailboxPostRegisterWrite (hs : Canonical s) : NextCanonical (execMailboxPostRegisterWrite n word s) :=
  canonical_ite (hs.setNum _ _) hs.postMailbox

theorem Canonical.execMailboxPost (hs : Canonical s) : NextCanonical (execMailboxPost rq n word s) := by
  unfold Machine.execMailboxPost
  refine hs.request _ _ _ _ _ (fun _ ht => ?_)
  split
  · exact ht
  · exact ht.postMailbox

theorem Canonical.execMailboxTakeRegisterRead (hs : Canonical s) : NextCanonical (execMailboxTakeRegisterRead n s) :=
  hs.keep.iteThen (·.takeMailbox)

theorem Canonical.execMailboxTake (hs : Canonical s) : NextCanonical (execMailboxTake rq n s) :=
  hs.serveRead (fun _ ht => canonical_ite ht.takeMailbox ht)

theorem Canonical.execMailboxTimeout (hs : Canonical s) : NextCanonical (execMailboxTimeout n s) :=
  canonical_ite (hs.setNum _ _ |>.bump _ _ _ |>.raise _ _) hs

theorem Canonical.execPcieFlr (hs : Canonical s) : NextCanonical (execPcieFlr s) := hs.keep

theorem Canonical.execPerstLAssert (hs : Canonical s) : NextCanonical (execPerstLAssert s) := hs.keep

theorem Canonical.execPciePowerStateWrite {d3hot : Bool} (hs : Canonical s) :
    NextCanonical (execPciePowerStateWrite d3hot s) :=
  hs.keep.iteElse (fun h => h.each _ (fun _ _ ht => ht.vector _) _)

theorem Canonical.execMgtLinkStateChange {port : Fin 2} {up : Bool} (hs : Canonical s) :
    NextCanonical (execMgtLinkStateChange port up s) :=
  canonical_ite (hs.setNum _ _) hs.managementLinkDown

theorem Canonical.execPdpHelloReceived {publicKey encapKey nonce : Bytes} (hs : Canonical s) :
    NextCanonical (execPdpHelloReceived publicKey encapKey nonce s) := by
  unfold Machine.execPdpHelloReceived
  split
  · exact hs
  · split
    · exact hs.keep.bump _ _ _ |>.raise _ _
    · split
      · exact hs.keep
      · exact hs.keep

theorem Canonical.closePdp {n : Nat} (hs : Canonical s) : Canonical (s.closePdp n) := (canonical_ite (hs.lower _ _) hs).keep

theorem Canonical.execPdpConfirmReceived {signature : Bytes} (hs : Canonical s) :
    NextCanonical (execPdpConfirmReceived session signature s) :=
  canonical_ite hs (canonical_ite (hs.keep.bump _ _ _) hs.closePdp.keep)

theorem Canonical.execPdpSessionIdleTimeout (hs : Canonical s) : NextCanonical (execPdpSessionIdleTimeout session s) :=
  hs.closePdp

theorem Canonical.latchSnapshot {s0 : State} (hs0 : Canonical s0) : Canonical (s0.latchSnapshot source) :=
  hs0.each _ (fun _ _ ht => ht.countUp) _ |>.keep |>.setBytes _ _ |>.setNum _ _ |>.bump _ _ _ |>.vector _

theorem Canonical.snapOut (hs : Canonical s) : Canonical s.snapOut := canonical_ite hs.keep hs

theorem Canonical.snapTrigger (hs : Canonical s) : Canonical (s.snapTrigger source) :=
  hs.snapOut.branch (·.bump _ _ _) (·.latchSnapshot)

theorem Canonical.execSnapInEdge (hs : Canonical s) : NextCanonical (execSnapInEdge s) := canonical_ite hs.snapTrigger hs

theorem Canonical.execSnapshotTrigger (hs : Canonical s) : NextCanonical (execSnapshotTrigger rq s) :=
  hs.request _ _ _ _ _ (fun _ ht => ht.snapTrigger)

theorem Canonical.execSnapshotArm (hs : Canonical s) : NextCanonical (execSnapshotArm rq s) :=
  hs.request _ _ _ _ _ (fun _ ht => ht.keep)

theorem Canonical.execSnapshotDisarm (hs : Canonical s) : NextCanonical (execSnapshotDisarm rq s) :=
  hs.request _ _ _ _ _ (fun _ ht => ht.keep)

theorem Canonical.execSnapshotUnlock (hs : Canonical s) : NextCanonical (execSnapshotUnlock rq s) :=
  hs.request _ _ _ _ _ (fun _ ht => ht.keep)

theorem Canonical.execSnapshotArmFire (hs : Canonical s) : NextCanonical (execSnapshotArmFire s) :=
  canonical_ite hs.keep.snapTrigger hs

theorem Canonical.execPersistCommitDelayExpiry (hs : Canonical s) : NextCanonical (execPersistCommitDelayExpiry s) :=
  canonical_ite (hs.beginCommit _) hs

theorem Canonical.execPersistCommit (hs : Canonical s) : NextCanonical (execPersistCommit rq s) := by
  unfold Machine.execPersistCommit
  refine hs.request _ _ _ _ _ (fun _ ht => ?_)
  split
  · exact ht.setNum _ _
  · exact ht.beginCommit _

theorem Canonical.commitDone (hs : Canonical s) : Canonical (s.commitDone j) := by
  unfold State.commitDone
  extract_lets c s1 s2 s3 s4 s5
  have h4 : Canonical s4 := hs.keep.setNum _ _ |>.setNum _ _ |>.lower _ _ |>.bump _ _ _ |>.setNum _ _ |>.vector _
  have h5 : Canonical s5 := by
    unfold s5
    split
    · exact h4.answer _ _ _ _ _
    · exact h4
  exact canonical_ite (h5.beginCommit _) h5

theorem Canonical.failCopy {d : Nat} (hs : Canonical s) : Canonical (s.failCopy d) := hs.setNum _ _

theorem Canonical.commitFailed (hs : Canonical s) : Canonical (s.commitFailed j) := by
  unfold State.commitFailed
  split
  · exact hs.keep
  · extract_lets s1 c1 s2 s3
    have h1 : Canonical s1 := hs.failCopy.raise _ _
    have h3 : Canonical s3 := h1.keep.setNum _ _ |>.vector _
    split
    · exact h1.keep
    · split
      · exact h3.answer _ _ _ _ _
      · exact h3

theorem Canonical.execPersistCommitComplete {readBackOk : Bool} (hs : Canonical s) :
    NextCanonical (execPersistCommitComplete readBackOk s) := by
  unfold Machine.execPersistCommitComplete
  split
  · exact hs
  · exact canonical_ite hs.commitDone hs.commitFailed

end Control

section Framing

/-! ### The functions of Framing -/

variable {s : State} {clean leaves mark pass : Bool} {line trace : Bytes} {d : Defect} {flagged : List Nat}
  {code f k m w : Nat} {rq : Requester}

theorem Canonical.mapFrame {frame : Bytes} (hs : Canonical s) : Canonical (s.mapFrame k frame) :=
  canonical_ite hs.keep hs.keep

theorem Canonical.sendFrame {p : FramePlan} (hs : Canonical s) : Canonical (s.sendFrame k p) := hs.keep.mapFrame

theorem Canonical.sendWaleFrames {s0 : State} (hs0 : Canonical s0) : Canonical (s0.sendWaleFrames w) :=
  hs0.applyFrameChanges.keep.bump _ _ _ |>.each _ (fun _ _ ht => canonical_ite (ht.bump _ _ _ |>.bump _ _ _ |>.bump _ _ _
    |>.sendFrame |>.iteThen (fun h => h.iteThen (·.keep))) ht) _

theorem Canonical.execFrameTransmit (hs : Canonical s) : NextCanonical (execFrameTransmit s) :=
  hs.each _ (fun _ _ ht => ht.sendWaleFrames) _ |>.each _ (fun _ _ ht => ht.sendFrame) _

theorem Canonical.countBreaks (hs : Canonical s) : Canonical (s.countBreaks w) := hs.keep.bump _ _ _

theorem Canonical.drainFrames {n : Nat} (hs : Canonical s) : Canonical (State.drainFrames n s w) := by
  induction n generalizing s with
  | zero => exact hs
  | succ n ih =>
    unfold State.drainFrames
    dsimp only
    split
    · exact hs
    · exact canonical_ite hs (ih hs.noteBadLines.keep.countBreaks)

theorem Canonical.memberAbsent (hs : Canonical s) : Canonical (s.memberAbsent w) := hs.drainFrames.iteThen (·.keep)

theorem Canonical.setAlign {st e : Nat} (hs : Canonical s) : Canonical (s.setAlign k st e) := hs.keep.setNum _ _

theorem Canonical.hunt (hs : Canonical s) : Canonical (s.hunt k) := hs.keep.setAlign

theorem Canonical.declareOof (hs : Canonical s) : Canonical (s.declareOof k) := hs.hunt.setDefect.bump _ _ _

theorem Canonical.align {found : Bool} (hs : Canonical s) : Canonical (s.align k found mark) := by
  unfold State.align
  dsimp only
  split
  · exact canonical_ite hs.setAlign (canonical_ite (hs.bump _ _ _) hs)
  · exact canonical_ite hs.setAlign hs.hunt
  · exact canonical_ite hs.setAlign.setDefect hs.hunt
  · exact canonical_ite hs.setAlign (canonical_ite hs.setAlign hs.declareOof)

theorem Canonical.declareDefect (hs : Canonical s) : Canonical (s.declareDefect k d code leaves) := by
  unfold State.declareDefect
  extract_lets s1 s2
  have h2 : Canonical s2 := hs.setDefect.raise _ _ |>.iteThen (·.laneLeaves)
  clear_value s2
  split
  · exact hs
  · split
    · exact h2
    · split
      · exact h2.memberAbsent
      · exact h2

theorem Canonical.judgeDefect {yes no need clear : Nat} (hs : Canonical s) :
    Canonical (s.judgeDefect k d code yes no need clear leaves) :=
  canonical_ite hs.declareDefect (canonical_ite hs.setDefect hs)

theorem Canonical.reportedMembers (hs : Canonical s) : Canonical (s.reportedMembers w trace) :=
  hs.each _ (fun _ _ ht => ht.laneLeaves) _

theorem Canonical.traceReceived {counts : Bool} (hs : Canonical s) : Canonical (s.traceReceived k trace counts clean) := by
  unfold State.traceReceived
  dsimp only
  split
  · exact hs.setBytes _ _ |>.iteThen (·.keep)
  · exact hs.setBytes _ _ |>.iteThen (·.keep) |>.iteElse (fun h => h.keep.branch (·.declareDefect) (fun h => h.iteThen
      (·.setDefect))) |>.iteThen (·.reportedMembers)

theorem Canonical.labelReceived {p : Nat} {b : Byte} (hs : Canonical s) : Canonical (s.labelReceived k m p b) :=
  canonical_ite hs.keep (hs.keep.iteThen (·.setBytes _ _))

theorem Canonical.judgeLabel (hs : Canonical s) : Canonical (s.judgeLabel k m) := canonical_ite hs.keep hs.keep.judgeDefect

theorem Canonical.noteSkew {skew : Nat} (hs : Canonical s) : Canonical (s.noteSkew w k skew) := hs.setInt _ _ |>.setNum _ _

theorem Canonical.noteArrival {late : Bool} (hs : Canonical s) : Canonical (s.noteArrival w k f late) :=
  canonical_ite hs.noteSkew (canonical_ite hs (canonical_ite hs.declareDefect hs.keep.noteSkew))

theorem Canonical.unitArrives {u : HeldUnit} (hs : Canonical s) : Canonical (s.unitArrives w f u) :=
  hs.noteArrival.iteElse (fun h => h.clearLines.keep.drainFrames)

theorem Canonical.fixedArrives {vc : Nat} {b : Bytes} {flags : List Nat} (hs : Canonical s) :
    Canonical (s.fixedArrives w k vc b flags) :=
  canonical_ite (canonical_ite hs.keep hs.keep) hs

theorem Canonical.slotsReceived {body : Bytes} (hs : Canonical s) : Canonical (s.slotsReceived w k body pass flagged) := by
  unfold State.slotsReceived
  refine hs.each _ (fun _ _ ht => ?_) _ |>.unitArrives
  split
  · exact ht.fixedArrives
  · exact ht

theorem Canonical.noteRxStakes (hs : Canonical s) : Canonical (s.noteRxStakes w) := hs.setNum _ _

theorem Canonical.noteRxMap {counter map : Nat} (hs : Canonical s) : Canonical (s.noteRxMap w counter map) :=
  canonical_ite hs (hs.keep.setNum _ _)

theorem Canonical.statusReceived {status waleId : Nat} (hs : Canonical s) : Canonical (s.statusReceived k status waleId) := by
  unfold State.statusReceived
  dsimp only
  split
  · exact hs.keep.judgeDefect.judgeDefect.iteThen (·.declareDefect)
  · exact hs.keep.judgeDefect.judgeDefect

theorem Canonical.channelReceived {piece : Bytes} {follows : Bool} (hs : Canonical s) :
    Canonical (s.channelReceived k piece pass follows clean) :=
  hs.keep.iteThen (·.traceReceived)

theorem Canonical.frameReceived (hs : Canonical s) : Canonical (s.frameReceived k line flagged) := by
  unfold State.frameReceived
  extract_lets body head pass x next counter member wrong status rx tx s1 s2 s3 clean s4 s5 s6 s7
  have h2 : Canonical s2 := hs.keep.bump _ _ _ |>.bump _ _ _
  have h3 : Canonical s3 := canonical_ite h2 (h2.bump _ _ _)
  have h6 : Canonical s6 := (canonical_ite h3.statusReceived h3).channelReceived |>.iteThen (·.labelReceived)
  have h7 : Canonical s7 := canonical_ite h6.judgeLabel h6
  clear_value s7
  split
  · extract_lets v s8 s9
    have h8 : Canonical s8 := canonical_ite h7.keep h7
    have h9 : Canonical s9 := canonical_ite h8.noteRxMap h8
    exact h9.noteRxStakes.slotsReceived
  · exact h7

theorem Canonical.execSarsiaFrameReceived {k : Lane} (hs : Canonical s) :
    NextCanonical (execSarsiaFrameReceived k mark line flagged s) := by
  unfold Machine.execSarsiaFrameReceived
  split
  · exact hs
  · dsimp only
    split
    · exact hs.align
    · exact hs.align.frameReceived
    · exact hs.align.keep

theorem Canonical.execLosDeclare {k : Lane} (hs : Canonical s) : NextCanonical (execLosDeclare k s) := by
  unfold Machine.execLosDeclare
  dsimp only
  split
  · exact hs
  · exact hs.keep.hunt.setDefect.setDefect.declareDefect

theorem Canonical.execLosClear {k : Lane} (hs : Canonical s) : NextCanonical (execLosClear k s) := by
  unfold Machine.execLosClear
  dsimp only
  split
  · exact hs.keep.setDefect.keep.settleLane
  · exact hs

theorem Canonical.execLofDeclare {k : Lane} (hs : Canonical s) : NextCanonical (execLofDeclare k s) := by
  unfold Machine.execLofDeclare
  dsimp only
  split
  · exact hs.keep.declareDefect
  · exact hs

theorem Canonical.execLofClear {k : Lane} (hs : Canonical s) : NextCanonical (execLofClear k s) := by
  unfold Machine.execLofClear
  dsimp only
  split
  · exact hs.keep.setDefect
  · exact hs

theorem Canonical.execSkewDeclare {k : Lane} (hs : Canonical s) : NextCanonical (execSkewDeclare k s) := by
  unfold Machine.execSkewDeclare
  split
  · exact hs.declareDefect
  · exact hs

theorem Canonical.execSkewClear {k : Lane} (hs : Canonical s) : NextCanonical (execSkewClear k s) := by
  unfold Machine.execSkewClear
  split
  · exact hs.setDefect
  · exact hs

theorem Canonical.execMemberRejoin {k : Lane} (hs : Canonical s) : NextCanonical (execMemberRejoin k s) := by
  unfold Machine.execMemberRejoin
  split
  · exact hs
  · split
    · exact hs.enterMap
    · exact hs

theorem Canonical.execStakeRestore {k : Lane} (hs : Canonical s) : NextCanonical (execStakeRestore k s) := by
  unfold Machine.execStakeRestore
  split
  · exact hs
  · dsimp only
    split
    · exact hs.keep
    · exact hs

theorem Canonical.setShares (hs : Canonical s) : Canonical (s.setShares w) := hs.setNum _ _

theorem Canonical.bindLane (hs : Canonical s) : Canonical (s.bindLane w k) := hs.keep.setNum _ _

theorem Canonical.setIndexes (hs : Canonical s) : Canonical (s.setIndexes w) := hs.each _ (fun _ _ ht => ht.setNum _ _) _

theorem Canonical.setMap {lanes : List Nat} (hs : Canonical s) : Canonical (s.setMap w lanes) := hs.setNum _ _ |>.noteStakes

theorem Canonical.formWale (hs : Canonical s) : Canonical (s.formWale w) :=
  hs.each _ (fun _ _ ht => ht.bindLane) _ |>.keep |>.setIndexes |>.setNum _ _ |>.setNum _ _ |>.setNum _ _ |>.setNum _ _
    |>.setNum _ _ |>.clearRepeat |>.setShares |>.countWales

theorem Canonical.createWale (hs : Canonical s) : Canonical (s.createWale w).1 := by
  unfold State.createWale
  dsimp only
  split
  · exact hs
  · split
    · exact hs
    · split
      · exact hs
      · exact hs.formWale.keep

theorem Canonical.addLane (hs : Canonical s) : Canonical (s.addLane w).1 := by
  unfold State.addLane
  dsimp only
  split
  · exact hs
  · split
    · exact hs
    · split
      · exact hs
      · exact hs.keep.setP _ _ |>.bindLane |>.setIndexes |>.setMap |>.setShares |>.settleWale

theorem Canonical.removeLane (hs : Canonical s) : Canonical (s.removeLane w).1 := by
  unfold State.removeLane
  dsimp only
  split
  · exact hs
  · split
    · exact hs
    · split
      · exact hs
      · exact hs.leaveMap.setP _ _ |>.setNum _ _ |>.setNum _ _ |>.setIndexes |>.setMap |>.keep |>.setShares |>.settleWale

theorem Canonical.deleteWale (hs : Canonical s) : Canonical (s.deleteWale w).1 := by
  unfold State.deleteWale
  split
  · exact hs
  · exact hs.each _ (fun _ _ ht => ht.setNum _ _ |>.setNum _ _) _ |>.keep |>.noteSessions |>.dropTransit |>.each _
      (fun _ _ ht => ht.setNum _ _) _ |>.setNum _ _ |>.setNum _ _ |>.countWales |>.keep

theorem Canonical.execWaleCreate {w : Wale} (hs : Canonical s) : NextCanonical (execWaleCreate rq w s) :=
  hs.request _ _ _ _ _ (fun _ ht => ht.reported _ _ (fun _ hu => hu.createWale))

theorem Canonical.execWaleAddLane {w : Wale} (hs : Canonical s) : NextCanonical (execWaleAddLane rq w s) :=
  hs.request _ _ _ _ _ (fun _ ht => ht.reported _ _ (fun _ hu => hu.addLane))

theorem Canonical.execWaleRemoveLane {w : Wale} (hs : Canonical s) : NextCanonical (execWaleRemoveLane rq w s) :=
  hs.request _ _ _ _ _ (fun _ ht => ht.reported _ _ (fun _ hu => hu.removeLane))

theorem Canonical.execWaleDelete {w : Wale} (hs : Canonical s) : NextCanonical (execWaleDelete rq w s) :=
  hs.request _ _ _ _ _ (fun _ ht => ht.reported _ _ (fun _ hu => hu.deleteWale))

theorem Canonical.execRepeatShareReturn {w : Wale} {k : Lane} (hs : Canonical s) :
    NextCanonical (execRepeatShareReturn w k s) := by
  unfold Machine.execRepeatShareReturn
  dsimp only
  split
  · exact hs.keep.setShares
  · exact hs

end Framing

section Optics

/-! ### The functions of Optics -/

variable {a s : State} {p : FibrePort} {k : Lane} {n : Laser} {i value : Nat} {rq : Requester}

theorem Canonical.pairEffect {k : Nat} (hs : Canonical s) : Canonical (pairEffect k value s).1 := by
  unfold Machine.pairEffect
  dsimp only
  split
  · exact hs.setNum _ _
  · dsimp only
    exact (hs.setNum _ _).setPNum.placePair.assignSpares

theorem Canonical.execPairSettingWrite {k : Pair} {value : BitVec 8} (hs : Canonical s) :
    NextCanonical (execPairSettingWrite rq k value s) :=
  hs.request _ _ _ _ _ (fun _ ht => ht.pairEffect)

theorem Canonical.newMode {k : Nat} (hs : Canonical s) : Canonical (s.newMode k) := hs.keep.noteFec.loseFec

theorem Canonical.laneModeEffect {k : Nat} (ha : Canonical a) : Canonical (laneModeEffect k value a).1 := by
  unfold Machine.laneModeEffect
  split
  · exact ha
  · split
    · exact ha
    · exact ha.setPNum.iteElse (·.newMode)

theorem Canonical.execLineLaneModeWrite {value : BitVec 8} (hs : Canonical s) :
    NextCanonical (execLineLaneModeWrite rq k value s) :=
  hs.request _ _ _ _ _ (fun _ ht => ht.laneModeEffect)

theorem Canonical.resolutionEffect {k : Nat} (ha : Canonical a) : Canonical (resolutionEffect k value a).1 := by
  unfold Machine.resolutionEffect
  split
  · exact ha
  · exact ha.setPNum

theorem Canonical.execLineLaneResolutionWrite {value : BitVec 8} (hs : Canonical s) :
    NextCanonical (execLineLaneResolutionWrite rq k value s) :=
  hs.request _ _ _ _ _ (fun _ ht => ht.resolutionEffect)

theorem Canonical.frequencyEffect {k : Nat} (ha : Canonical a) : Canonical (frequencyEffect k value a).1 := by
  unfold Machine.frequencyEffect
  split
  · exact ha
  · exact ha.setPNum.keep.settlePair

theorem Canonical.execLineLaneFrequencyWrite {value : BitVec 32} (hs : Canonical s) :
    NextCanonical (execLineLaneFrequencyWrite rq k value s) :=
  hs.request _ _ _ _ _ (fun _ ht => ht.frequencyEffect)

theorem Canonical.execLaserTuningComplete (hs : Canonical s) : NextCanonical (execLaserTuningComplete k s) := by
  unfold Machine.execLaserTuningComplete
  dsimp only
  split
  · exact hs.keep.settlePair
  · exact hs

theorem Canonical.execLaserCommission (hs : Canonical s) : NextCanonical (execLaserCommission rq n s) := by
  unfold Machine.execLaserCommission
  refine hs.request _ _ _ _ _ (fun _ ht => ?_)
  split
  · exact ht.keep
  · exact ht

theorem Canonical.retire {n : Nat} (hs : Canonical s) : Canonical (s.retire n) := by
  unfold State.retire
  split
  · exact hs.retireServing
  · split
    · dsimp only
      split
      · exact hs.setPNum.keep.beginSwap
      · exact hs.setPNum.keep.noSpare
    · exact hs.setPNum.setPNum

theorem Canonical.execLaserRetire (hs : Canonical s) : NextCanonical (execLaserRetire rq n s) := by
  unfold Machine.execLaserRetire
  refine hs.request _ _ _ _ _ (fun _ ht => ?_)
  split
  · exact ht
  · exact ht.retire

theorem Canonical.execEngineCommission {k : Engine} (hs : Canonical s) : NextCanonical (execEngineCommission rq k s) := by
  unfold Machine.execEngineCommission
  refine hs.request _ _ _ _ _ (fun _ ht => ?_)
  split
  · exact ht.keep
  · exact ht

theorem Canonical.execLaserCommissionComplete {x : LaserUnit} {bias : BitVec 32} {power : Int} (hs : Canonical s) :
    NextCanonical (execLaserCommissionComplete x bias power s) := by
  unfold Machine.execLaserCommissionComplete
  split
  · dsimp only
    split
    · exact hs.setPNum.setP _ _ |>.keep |>.settlePair
    · exact hs
  · dsimp only
    split
    · split
      · exact hs.setPNum.setP _ _ |>.keep |>.raise _ _
      · exact hs.setPNum.setP _ _ |>.keep
    · exact hs

theorem Canonical.noteLevel {n die unit level levels : Nat} (hs : Canonical s) :
    Canonical (s.noteLevel n die unit level levels) :=
  canonical_ite hs.keep (hs.keep.each _ (fun _ _ ht => ht.raise _ _) _)

theorem Canonical.checkServing (hs : Canonical s) : Canonical (s.checkServing i) := by
  unfold State.checkServing
  extract_lets n level s1 st s2 st2 s3
  have h1 : Canonical s1 := hs.noteLevel
  have h2 : Canonical s2 := h1.branch (·.setPNum) (fun h => h.iteThen (·.setPNum))
  have h3 : Canonical s3 := by
    unfold s3
    split
    · split
      · exact h2.beginSwap
      · exact h2.noSpare
    · exact h2
  exact canonical_ite hs (h3.iteThen (·.retireServing))

theorem Canonical.execLaserHealthSample {lasers engines : List (Nat × Int)} (hs : Canonical s) :
    NextCanonical (execLaserHealthSample lasers engines s) :=
  hs.each _ (fun _ _ ht => ht.keep) _ |>.each _ (fun _ _ ht => ht.keep) _ |>.each _ (fun _ _ ht => ht.setNum _ _
    |>.setInt _ _) _ |>.each _ (fun _ _ ht => ht.setNum _ _ |>.setInt _ _) _ |>.each _ (fun _ _ ht => ht.checkServing) _
    |>.each _ (fun _ _ ht => canonical_ite (ht.noteLevel.setNum _ _) ht) _

theorem Canonical.execSpareLocked (hs : Canonical s) : NextCanonical (execSpareLocked n s) := by
  unfold Machine.execSpareLocked
  split
  · exact hs
  · dsimp only
    split
    · exact hs
    · exact hs.setPNum.setPNum.setPNum.keep.settleOptics

theorem Canonical.execSpareLockTimeout (hs : Canonical s) : NextCanonical (execSpareLockTimeout n s) := by
  unfold Machine.execSpareLockTimeout
  split
  · exact hs
  · split
    · exact hs
    · exact hs.retire

theorem Canonical.selectPorts (hs : Canonical s) : Canonical (s.selectPorts i).1 := by
  unfold State.selectPorts
  dsimp only
  split
  · exact hs
  · split
    · exact hs
    · exact hs.keep.settlePair

theorem Canonical.execIpSelect {i : Ip} (hs : Canonical s) : NextCanonical (execIpSelect rq i s) :=
  hs.request _ _ _ _ _ (fun _ ht => ht.reported _ _ (fun _ hu => hu.selectPorts))

theorem Canonical.execIpClearTrip {i : Ip} {tap : Int} (hs : Canonical s) : NextCanonical (execIpClearTrip rq i tap s) := by
  unfold Machine.execIpClearTrip
  refine hs.request _ _ _ _ _ (fun _ ht => ht.reported _ _ (fun _ hu => ?_))
  split
  · exact hu
  · exact hu.keep.settlePair

theorem Canonical.execAprEntry (hs : Canonical s) : NextCanonical (execAprEntry k s) := by
  unfold Machine.execAprEntry
  dsimp only
  split
  · exact hs.keep.settlePair.raise _ _
  · exact hs

theorem Canonical.execEyeSafetyTrip (hs : Canonical s) : NextCanonical (execEyeSafetyTrip k s) := by
  unfold Machine.execEyeSafetyTrip
  dsimp only
  split
  · exact hs.keep.settlePair.bump _ _ _ |>.raise _ _
  · exact hs

theorem Canonical.setConnector {present : Bool} (hs : Canonical s) : Canonical (s.setConnector p present) := by
  unfold State.setConnector
  split
  · exact hs.setNum _ _ |>.setNum _ _ |>.setNum _ _ |>.settlePair |>.settlePair
  · exact hs.setNum _ _ |>.settlePair

theorem Canonical.execConnectorRemoved (hs : Canonical s) : NextCanonical (execConnectorRemoved p s) := hs.setConnector

theorem Canonical.execConnectorInserted (hs : Canonical s) : NextCanonical (execConnectorInserted p s) := hs.setConnector

end Optics

section Power

/-! ### The functions of Power -/

variable {s : State} {d : Domain} {tilePower : List Nat} {h input standby : Nat}

theorem Canonical.settleWith {d : Nat} (hs : Canonical s) : Canonical (s.settleWith d) := by
  unfold State.settleWith
  split
  · exact hs.settleTileDomain
  · exact hs.settleDomain.iteThen (·.settleDomain)

theorem Canonical.hostVoteEffect {a : State} {d value : Nat} (ha : Canonical a) : Canonical (hostVoteEffect d value a).1 := by
  unfold Machine.hostVoteEffect
  split
  · exact ha.setNum _ _ |>.settleWith
  · exact ha

theorem Canonical.execDomainVoteHostWrite {rq : Requester} {value : BitVec 8} (hs : Canonical s) :
    NextCanonical (execDomainVoteHostWrite rq d value s) :=
  hs.request _ _ _ _ _ (fun _ ht => ht.hostVoteEffect)

theorem Canonical.execTileIdleHoldExpiry {t : Tile} (hs : Canonical s) : NextCanonical (execTileIdleHoldExpiry t s) := by
  unfold Machine.execTileIdleHoldExpiry
  dsimp only
  split
  · exact hs.setNum _ _ |>.settleTileDomain
  · exact hs

theorem Canonical.execQuiesceComplete (hs : Canonical s) : NextCanonical (execQuiesceComplete d s) := by
  unfold Machine.execQuiesceComplete
  split
  · exact hs
  · split
    · exact hs.setSleep.settleWith
    · exact hs.setSleep
    · exact hs.setSleep
    · exact hs.abandonEntry

theorem Canonical.execRetentionSaveComplete (hs : Canonical s) : NextCanonical (execRetentionSaveComplete d s) := by
  unfold Machine.execRetentionSaveComplete
  split
  · exact hs.setSleep
  · exact hs

theorem Canonical.tilePowerOff {t : Nat} {deep : Bool} (hs : Canonical s) : Canonical (s.tilePowerOff t deep) :=
  canonical_ite (hs.keep.each _ (fun _ _ ht => ht.set _ _) _) hs.keep

theorem Canonical.execPowerSwitchOpen (hs : Canonical s) : NextCanonical (execPowerSwitchOpen d s) := by
  unfold Machine.execPowerSwitchOpen
  split
  · exact hs
  · split
    · refine Canonical.settleWith ?_
      split
      · exact hs.setSleep.tilePowerOff
      · exact hs.setSleep
    · refine Canonical.settleWith ?_
      split
      · exact hs.setSleep.tilePowerOff
      · exact hs.setSleep
    · exact hs.abandonEntry

theorem Canonical.execWakeEvent (hs : Canonical s) : NextCanonical (execWakeEvent d s) := by
  unfold Machine.execWakeEvent
  split
  · exact hs
  · exact hs.wakeDomain.keep

theorem Canonical.execWakeComplete (hs : Canonical s) : NextCanonical (execWakeComplete d s) := by
  unfold Machine.execWakeComplete
  split
  · exact hs.setSleep.settleWith
  · exact hs

theorem Canonical.execLevelChangeComplete (hs : Canonical s) : NextCanonical (execLevelChangeComplete d s) := by
  unfold Machine.execLevelChangeComplete
  split
  · exact hs
  · dsimp only
    split
    · exact hs.setNum _ _ |>.setNum _ _ |>.setNum _ _
    · exact hs.setNum _ _ |>.setNum _ _ |>.setNum _ _ |>.iteThen (·.restoreDivider) |>.settleTileDomain

theorem Canonical.governInput (hs : Canonical s) : Canonical (s.governInput input standby) :=
  hs.setNum _ _ |>.setNum _ _ |>.setNum _ _

theorem Canonical.noteHoopPower (hs : Canonical s) : Canonical (s.noteHoopPower tilePower h) := hs.keep.setNum _ _

theorem Canonical.governHoop (hs : Canonical s) : Canonical (s.governHoop h) :=
  canonical_ite hs (canonical_ite (hs.setNum _ _ |>.bump _ _ _) (canonical_ite (hs.setNum _ _) hs))

theorem Canonical.execPowerGovernorStep (hs : Canonical s) :
    NextCanonical (execPowerGovernorStep input standby tilePower s) :=
  hs.governInput.each _ (fun _ _ ht => ht.noteHoopPower) _ |>.each _ (fun _ _ ht => ht.governHoop) _ |>.each _
    (fun _ _ ht => ht.setNum _ _ |>.setNum _ _) _ |>.each _ (fun _ _ ht => ht.settleDomain) _

theorem Canonical.moveCeiling {n : Nat} {highest : Int} (hs : Canonical s) : Canonical (s.moveCeiling n highest) :=
  canonical_ite (hs.setNum _ _ |>.keep) hs

theorem Canonical.execDieSensorSample {n : Die} {readings : List Int} (hs : Canonical s) :
    NextCanonical (execDieSensorSample n readings s) := by
  unfold Machine.execDieSensorSample
  split
  · exact hs
  · dsimp only
    split
    · exact hs.setInt _ _ |>.keep |>.each _ (fun _ _ ht => ht.thermalVote) _ |>.moveCeiling |>.iteThen (·.raise _ _)
        |>.iteThen (·.raise _ _) |>.shutdown
    · exact hs.setInt _ _ |>.keep |>.each _ (fun _ _ ht => ht.thermalVote) _ |>.moveCeiling |>.iteThen (·.raise _ _)
        |>.iteThen (·.raise _ _) |>.each _ (fun _ _ ht => ht.settleDomain) _

end Power

section Boot

/-! ### The functions of Boot -/

variable {s : State} {ok : Bool} {failed : List Nat} {n : Nat} {rq : Requester}

theorem Canonical.setInput {l : List (Nat × Bool)} (hs : Canonical s) : Canonical (s.setInput l) := hs.setNum _ _

theorem Canonical.restore {body : Map Val} (hs : Canonical s) : Canonical (s.restore body) :=
  hs.each _ (fun _ _ ht => ht.set _ _) _

theorem Canonical.loadStore (hs : Canonical s) : Canonical s.loadStore := by
  unfold State.loadStore
  extract_lets s1
  have h1 : Canonical s1 := by
    unfold s1
    split
    · exact hs.restore.setNum _ _
    · exact hs.raise _ _
  split
  · exact h1.restore
  · exact h1.raise _ _

theorem Canonical.runImage (hs : Canonical s) : Canonical (s.runImage n) := by
  unfold State.runImage
  split
  · exact hs
  · dsimp only
    split
    · exact hs.keep
    · exact hs.keep.setNum _ _ |>.setNum _ _

theorem Canonical.beginStage (hs : Canonical s) : Canonical (s.beginStage n) := hs.setNum _ _ |>.postStage

theorem Canonical.failStart {cause regulator event detail : Nat} (hs : Canonical s) :
    Canonical (s.failStart cause regulator event detail) :=
  hs.enterLimp.raise _ _

theorem Canonical.enterStandby (hs : Canonical s) : Canonical s.enterStandby := hs.setNum _ _ |>.setModule |>.keep

theorem Canonical.ownAgain (hs : Canonical s) : Canonical s.ownAgain := hs.each _ (fun _ _ ht => ht.setTiles) _

theorem Canonical.trainFabric {fresh : Bool} (hs : Canonical s) : Canonical (s.trainFabric fresh) :=
  canonical_ite (hs.each _ (fun _ _ ht => ht.trainMac) _) (hs.each _ (fun _ _ ht => ht.trainPort) _)

theorem Canonical.becomeReady {place : Bool} (hs : Canonical s) : Canonical (s.becomeReady place) :=
  hs.setNum _ _ |>.setModule |>.iteThen (fun h => h.each _ (fun _ _ ht => ht.placePair) _) |>.each _
    (fun _ _ ht => ht.formWale) _ |>.settleOptics |>.keep

theorem Canonical.trainChannel {c : Nat} (hs : Canonical s) : Canonical (s.trainChannel failed c) :=
  canonical_ite (canonical_ite (canonical_ite (hs.keep.setNum _ _) (hs.setP _ _ |>.setNum _ _ |>.keep)) (hs.setNum _ _))
    (canonical_ite (hs.loseChannel.setNum _ _ |>.raise _ _ |>.raise _ _) hs)

theorem Canonical.listLeaving (hs : Canonical s) : Canonical s.listLeaving :=
  hs.each _ (fun _ _ ht => ht.loseChannel) _ |>.each _ (fun _ _ ht => ht.keep) _

theorem Canonical.stageDone (hs : Canonical s) : Canonical (s.stageDone ok failed) := by
  unfold State.stageDone
  split
  · exact canonical_ite hs.comeUp.beginStage hs
  · exact hs.beginStage
  · exact canonical_ite hs.failStart (canonical_ite (hs.keep.branch (·.failStart)
      (·.failStart)) hs.loadStore.listLeaving.readGroups.keep.deriveAgain.beginStage)
  · split
    · exact canonical_ite hs.failStart (hs.runImage.iteElse (fun h => h.setP _ _ |>.raise _ _) |>.beginStage)
    · exact hs.failStart
  · exact canonical_ite hs.beginStage hs.failStart
  · exact canonical_ite hs.beginStage hs.enterStandby
  · exact canonical_ite hs.comeUp.ownAgain.beginStage hs.failStart
  · exact hs.listLeaving.each _ (fun _ _ ht => ht.trainChannel) _ |>.sizeMemory |>.takeHoops |>.trainFabric |>.beginStage
  · exact hs.becomeReady
  · exact hs

theorem Canonical.execStartupStageComplete {failedChannels : List Channel} (hs : Canonical s) :
    NextCanonical (execStartupStageComplete ok failedChannels s) :=
  canonical_ite hs.stageDone hs

theorem Canonical.execRegulatorPowerGood {n : BitVec 8} (hs : Canonical s) : NextCanonical (execRegulatorPowerGood n s) :=
  hs.keep

theorem Canonical.execRegulatorTimeout {n : BitVec 8} (hs : Canonical s) : NextCanonical (execRegulatorTimeout n s) :=
  canonical_ite hs (hs.keep.branch (·.bump _ _ _) (fun h => h.setNum _ _ |>.iteElse (·.failStart)))

theorem Canonical.execXtalReadyTimeout (hs : Canonical s) : NextCanonical (execXtalReadyTimeout s) :=
  canonical_ite hs.failStart hs

theorem Canonical.meterObjects (hs : Canonical s) : Canonical s.meterObjects := by
  unfold State.meterObjects
  dsimp only
  split
  · exact hs.setNum _ _ |>.setNum _ _ |>.setNum _ _ |>.setBytes _ _
  · exact hs.setNum _ _ |>.setNum _ _ |>.setNum _ _

theorem Canonical.unpower {inputs : Nat} (hs : Canonical s) : Canonical (s.unpower inputs) := by
  unfold State.unpower
  extract_lets s0 s1
  have h0 : Canonical s0 := hs.setModule.loseMemory
  have h1 : Canonical s1 := ⟨Map.wf_filter _ _ h0.1, Memory.wf_nil⟩
  exact (h1.setNum _ _).meterObjects

theorem Canonical.execPowerOn {main standby : Bool} (hs : Canonical s) : NextCanonical (execPowerOn main standby s) :=
  hs.unpower.beginStage

theorem Canonical.inputsChanged (hs : Canonical s) : Canonical s.inputsChanged :=
  canonical_ite hs.unpower (canonical_ite hs (canonical_ite hs.setModule.diesOff.enterStandby (canonical_ite hs.diesOff hs)))

theorem Canonical.execMainInputLoss (hs : Canonical s) : NextCanonical (execMainInputLoss s) := hs.setInput.inputsChanged

theorem Canonical.execMainInputAppear (hs : Canonical s) : NextCanonical (execMainInputAppear s) :=
  hs.setInput.iteThen (fun h => h.setModule.beginStage)

theorem Canonical.execStandbyInputChange {present : Bool} (hs : Canonical s) :
    NextCanonical (execStandbyInputChange present s) :=
  hs.setInput.inputsChanged

theorem Canonical.execInputFault {input : PowerInput} {kind : InputFault} (hs : Canonical s) :
    NextCanonical (execInputFault input kind s) := by
  unfold Machine.execInputFault
  split
  · exact hs.setInput.inputsChanged.raise _ _
  · exact hs.setInput.inputsChanged
  · exact hs.setInput.inputsChanged.raise _ _
  · exact hs.setInput.inputsChanged

theorem Canonical.finishCommits (hs : Canonical s) : Canonical s.finishCommits := by
  unfold State.finishCommits
  dsimp only
  split
  · refine Canonical.commitDone ?_
    split
    · exact hs.commitDone
    · exact hs
  · split
    · exact hs.commitDone
    · exact hs

theorem Canonical.coldReset (hs : Canonical s) : Canonical s.coldReset :=
  hs.setModule.loseMemory.loseLine.iteElse (·.keep) |>.keepObjects _ |>.keep |>.setNum _ _ |>.comeUp |>.beginStage

theorem Canonical.restartHub {keeps : Nat → Bool} {cls : ResetClass} {number : Nat} (hs : Canonical s) :
    Canonical (s.restartHub keeps cls number) := by
  unfold State.restartHub
  refine Canonical.setNum _ _ ?_ |>.setNum _ _ |>.each _ (fun _ _ ht => ht.setNum _ _) _
  split
  · exact hs.finishCommits.setModule.endWork.keepObjects _ |>.keep |>.setNum _ _
  · exact hs.finishCommits.setModule.endWork.keepObjects _ |>.keep

theorem Canonical.warmReset (hs : Canonical s) : Canonical s.warmReset :=
  hs.loseLine.restartHub.keep.each _ (fun _ _ ht => canonical_ite ht (ht.setNum _ _)) _ |>.bump _ _ _

theorem Canonical.hubReset (hs : Canonical s) : Canonical s.hubReset := hs.restartHub.keep

theorem Canonical.bootAgain {t : State} (hs : Canonical s) (e : s.bootAgain = some t) : Canonical t := by
  obtain ⟨n, -, rfl⟩ := Option.map_eq_some_iff.1 e
  exact hs.runImage.iteElse fun h => (h.setP _ _).raise _ _

theorem Canonical.resetDone {warm : Bool} (hs : Canonical s) : Canonical (s.resetDone warm) := by
  unfold State.resetDone
  split
  · exact hs.failStart
  next e =>
    exact hs.bootAgain e |>.setNum _ _ |>.comeUp |>.branch (fun h => h.sizeMemory.countKept.enterStandby) (fun h => h.iteThen
      (fun h => h.comeUp.ownAgain.trainFabric) |>.sizeMemory |>.countKept |>.becomeReady)

theorem Canonical.resetG {g : Nat} (hs : Canonical s) : Canonical (s.resetG g) :=
  hs.each _ (fun _ _ ht => ht.setNum _ _ |>.setNum _ _) _ |>.each _ (fun _ _ ht => ht.moveChunks) _ |>.keepObjects _ |>.keep
    |>.each _ (fun _ _ ht => canonical_ite ht.hoopFault ht) _

theorem Canonical.resetF {f : Nat} (hs : Canonical s) : Canonical (s.resetF f) :=
  hs.each _ (fun _ _ ht => ht.portDown) _ |>.each _ (fun _ _ ht => ht.qpReset) _ |>.keepObjects _

theorem Canonical.resetOptical (hs : Canonical s) : Canonical (s.resetOptical n) :=
  hs.each _ (fun _ _ ht => ht.laneLeaves) _ |>.keepObjects _ |>.each _ (fun _ _ ht => ht.setNum _ _ |>.setNum _ _
    |>.setNum _ _) _ |>.iteThen (fun h => h.each _ (fun _ _ ht => ht.keep.iteThen (·.setAis)) _) |>.settleOptics

theorem Canonical.dieReset (hs : Canonical s) : Canonical (s.dieReset n) :=
  hs.keep.branch (·.resetG) (fun h => h.branch (fun h => h.memoryDieLost.keepObjects _ |>.keep) (fun h => h.branch (·.resetF)
    (·.resetOptical)))

theorem Canonical.dieRuns (hs : Canonical s) : Canonical (s.dieRuns n) :=
  hs.keep.setNum _ _ |>.comeUp |>.branch (fun h => h.each _ (fun _ _ ht => ht.each _ (fun _ _ hu => hu.ownTile) _) _)
    (fun h => h.branch (fun h => h.listChannels.sizeMemory.memoryWorks) (fun h => h.branch (fun h => h.each _
    (fun _ _ ht => ht.trainPort) _) (·.settleOptics)))

theorem Canonical.resetCommand {rq : Requester} {number : Nat} {c : State → ResetClass} {act : State → State}
    (hs : Canonical s) (hact : ∀ t, Canonical t → Canonical (act t)) : Canonical (s.resetCommand rq number c act) :=
  hs.checked _ _ _ _ _ fun _ ht => (ht.setNum _ _ |>.answer _ _ _ _ _).iteThen fun h => hact _ h

theorem Canonical.execResetCold (hs : Canonical s) : NextCanonical (execResetCold rq s) :=
  hs.resetCommand (fun _ ht => ht.coldReset)

theorem Canonical.execResetWarm (hs : Canonical s) : NextCanonical (execResetWarm rq s) :=
  hs.resetCommand (fun _ ht => ht.warmReset)

theorem Canonical.execResetHub (hs : Canonical s) : NextCanonical (execResetHub rq s) :=
  hs.resetCommand (fun _ ht => ht.hubReset)

theorem Canonical.execResetDie (hs : Canonical s) : NextCanonical (execResetDie rq s) :=
  hs.resetCommand (fun _ ht => ht.setNum _ _ |>.dieReset)

theorem Canonical.execResetHoop (hs : Canonical s) : NextCanonical (execResetHoop rq s) :=
  hs.resetCommand (fun _ ht => ht.setNum _ _ |>.abortJobs |>.discardGroups |>.keep)

theorem Canonical.execResetLAssert (hs : Canonical s) : NextCanonical (execResetLAssert s) := hs.coldReset

theorem Canonical.execResetComplete (hs : Canonical s) : NextCanonical (execResetComplete s) := by
  unfold Machine.execResetComplete
  split
  · exact hs.resetDone
  · exact hs.resetDone
  · exact hs.dieRuns
  · exact hs.releaseHoop.keep.setNum _ _
  · exact hs

theorem Canonical.execDieLinkFlitError {sender receiver : Die} (hs : Canonical s) :
    NextCanonical (execDieLinkFlitError sender receiver s) :=
  canonical_ite hs.keep (hs.keep.bump _ _ _ |>.each _ (fun _ _ ht => ht.enterSafe) _ |>.raise _ _)

/-- `sequenceReached`, which reckons modulo 2^32, stands as a variable, as `carve` does in `Canonical.back`. -/
theorem Canonical.execEventAck {seq : BitVec 32} (hs : Canonical s) : NextCanonical (execEventAck rq seq s) := by
  unfold Machine.execEventAck
  obtain ⟨reached, hreached⟩ : ∃ f, f = sequenceReached := exists_eq
  rw [← hreached]
  refine hs.request _ _ _ _ _ (fun t ht => ?_)
  split
  · exact ht
  · exact ht.keep.setNum _ _ |>.iteThen (·.keep)

end Boot

section Hoops

/-! ### The functions of Hoops -/

variable {a s : State} {value : Bytes} {h : Hoop} {parts : List Bytes} {rq : Requester} {session : SessionNo} {w : Wale}

theorem Canonical.hoopCommand {rq : Requester} {h command : Nat} {f : State → State × Nat} (hs : Canonical s)
    (hf : ∀ t, Canonical t → Canonical (f t).1) : Canonical (s.hoopCommand rq h command f) :=
  hs.request _ _ _ _ _ fun _ ht => ht.reported _ _ hf

theorem Canonical.execConfigure (hs : Canonical s) : NextCanonical (execConfigure rq h s) :=
  hs.hoopCommand (fun _ ht => ht.configure)

theorem Canonical.execAdmit (hs : Canonical s) : NextCanonical (execAdmit rq h s) := hs.hoopCommand (fun _ ht => ht.admitJob)

theorem Canonical.execStart (hs : Canonical s) : NextCanonical (execStart rq h s) := hs.hoopCommand (fun _ ht => ht.start)

theorem Canonical.execDrain (hs : Canonical s) : NextCanonical (execDrain rq h s) :=
  hs.hoopCommand (fun _ ht => ht.drainCommand)

theorem Canonical.execEvacuate (hs : Canonical s) : NextCanonical (execEvacuate rq h s) :=
  hs.hoopCommand (fun _ ht => ht.evacuateCommand)

theorem Canonical.execUnbind (hs : Canonical s) : NextCanonical (execUnbind rq h s) := hs.hoopCommand (fun _ ht => ht.unbind)

theorem Canonical.execRelease (hs : Canonical s) : NextCanonical (execRelease rq h s) :=
  hs.hoopCommand (fun _ ht => ht.release)

theorem Canonical.reservationEffect {h v : Nat} {r : Reservation} (hs : Canonical s) :
    Canonical (reservationEffect h v r s).1 := by
  cases r with
  | memory => exact hs.memoryEffect
  | tiles => exact hs.tileMaskEffect
  | contexts => exact hs.contextEffect
  | pool k c => exact hs.poolMinimumEffect

theorem Canonical.execHoopReservationWrite {object : Reservation} {value : BitVec 64} (hs : Canonical s) :
    NextCanonical (execHoopReservationWrite rq h object value s) :=
  hs.request _ _ _ _ _ (fun _ ht => ht.reservationEffect)

theorem Canonical.evacuationTargetEffect {h : Nat} (ha : Canonical a) : Canonical (evacuationTargetEffect h value a).1 := by
  unfold Machine.evacuationTargetEffect
  split
  · exact ha
  · exact ha.plainWrite _ _

theorem Canonical.execEvacuationTargetWrite (hs : Canonical s) : NextCanonical (execEvacuationTargetWrite rq h value s) :=
  hs.request _ _ _ _ _ (fun _ ht => ht.evacuationTargetEffect)

theorem Canonical.execEvacuationComplete (hs : Canonical s) : NextCanonical (execEvacuationComplete h s) := by
  unfold Machine.execEvacuationComplete
  split
  · exact hs
  · dsimp only
    split
    · exact hs.ownerFault
    · split
      · exact hs.writeEvacuation.noteEvacuationReads.setNum _ _
      · exact hs.writeEvacuation.noteEvacuationReads.setNum _ _ |>.keep |>.setNum _ _

theorem Canonical.endEvacuation {h status : Nat} (hs : Canonical s) : Canonical (s.endEvacuation h status) :=
  hs.keep.setNum _ _

theorem Canonical.execEvacuationTimeout (hs : Canonical s) : NextCanonical (execEvacuationTimeout h s) := by
  unfold Machine.execEvacuationTimeout
  split
  · exact hs.countUp.endEvacuation
  · exact hs

theorem Canonical.takeState {h : Nat} (hs : Canonical s) : Canonical (s.takeState h parts) :=
  hs.each _ (fun _ _ ht => ht.deliverPlan) _ |>.keep |>.iteThen (fun h => h.setNum _ _ |>.setNum _ _)

theorem Canonical.execEvacuationReceived {manifest : Bytes} (hs : Canonical s) :
    NextCanonical (execEvacuationReceived w session parts manifest s) := by
  unfold Machine.execEvacuationReceived
  dsimp only
  split
  · exact hs
  · exact (canonical_ite hs.takeState hs).enqueue

theorem Canonical.execEvacuationStatusReceived {payload : Bytes} (hs : Canonical s) :
    NextCanonical (execEvacuationStatusReceived w session payload s) := by
  unfold Machine.execEvacuationStatusReceived
  dsimp only
  split
  · exact hs
  · split
    · exact (canonical_ite hs.keep hs).endEvacuation
    · exact hs

end Hoops

section Images

/-! ### The functions of Images -/

variable {s : State} {piece : Bytes} {h : Hoop} {rq : Requester}

theorem Canonical.stageEffect {a : State} {h : Nat} (ha : Canonical a) : Canonical (stageEffect h piece a).1 := by
  unfold Machine.stageEffect
  dsimp only
  split
  · exact ha
  · split
    · exact ha
    · exact ha.keep.clearLines

theorem Canonical.execImageStageWrite (hs : Canonical s) : NextCanonical (execImageStageWrite rq h piece s) :=
  hs.request _ _ _ _ _ (fun _ ht => ht.stageEffect)

theorem Canonical.execImageLoad (hs : Canonical s) : NextCanonical (execImageLoad rq h s) :=
  hs.request _ _ _ _ _ (fun _ ht => ht.jobCommand (fun _ hu => hu.loadImage))

theorem Canonical.execImageLoadPending (hs : Canonical s) : NextCanonical (execImageLoadPending rq h s) :=
  hs.request _ _ _ _ _ (fun _ ht => ht.jobCommand (fun _ hu => hu.loadImage))

theorem Canonical.execImageCancelPending (hs : Canonical s) : NextCanonical (execImageCancelPending rq h s) :=
  hs.request _ _ _ _ _ (fun _ ht => ht.jobCommand (fun _ hu => hu.cancelPending))

theorem Canonical.execImageClear (hs : Canonical s) : NextCanonical (execImageClear rq h s) :=
  hs.request _ _ _ _ _ (fun _ ht => ht.jobCommand (fun _ hu => hu.clearImage))

theorem Canonical.execImageCommandComplete (hs : Canonical s) : NextCanonical (execImageCommandComplete h s) := hs.finishJob

theorem Canonical.execPlanLoad (hs : Canonical s) : NextCanonical (execPlanLoad rq h s) :=
  hs.request _ _ _ _ _ (fun _ ht => ht.jobCommand (fun _ hu => hu.loadPlan))

theorem Canonical.execPlanUnload (hs : Canonical s) : NextCanonical (execPlanUnload rq h s) :=
  hs.request _ _ _ _ _ (fun _ ht => ht.jobCommand (fun _ hu => hu.unloadPlan))

theorem Canonical.execPlanCommandComplete (hs : Canonical s) : NextCanonical (execPlanCommandComplete h s) := hs.finishJob

theorem Canonical.execPendingImageActivation {slot : Fin 16} (hs : Canonical s) :
    NextCanonical (execPendingImageActivation h slot s) :=
  canonical_ite hs.activateSlot hs

end Images

section ModuleMemory

/-! ### The functions of ModuleMemory -/

variable {s : State} {word : Bytes} {c line m : Nat} {rq : Requester}

/-- `newPlace` stands as a variable, as `carve` does in `Canonical.back`; the function is unfolded by an equation between functions,
as an equation between its values would evaluate `newPlace` first. -/
theorem Canonical.moveFrame {key : Nat} {f : Frame} (hs : Canonical s) : Canonical (s.moveFrame key f) := by
  have e : @State.moveFrame = @State.moveFrame := rfl
  conv at e => rhs; delta State.moveFrame
  obtain ⟨place, hplace⟩ : ∃ f, f = State.newPlace := exists_eq
  rw [e, ← hplace]
  beta_reduce
  split
  · exact hs
  next new _ =>
    extract_lets a b moved bad s1
    have h1 : Canonical s1 := hs.noteBadLines.bump _ _ _ |>.keep
    exact ⟨h1.1, Memory.wf_writeBytes _ _ (Memory.wf_zero _ _ h1.2)⟩

theorem Canonical.startMapOut (hs : Canonical s) : Canonical (s.startMapOut c) :=
  hs.loseChannel.setNum _ _ |>.beginCommit _ |>.takeHoops |>.lower _ _ |>.each _ (fun _ _ ht => ht.moveFrame) _ |>.each _
    (fun _ _ ht => ht.countPools) _

theorem Canonical.beginMapOut (hs : Canonical s) : Canonical (s.beginMapOut c) := hs.keep.iteThen (·.startMapOut)

theorem Canonical.candidate {operator : Bool} (hs : Canonical s) : Canonical (s.candidate c operator) :=
  hs.raise _ _ |>.iteElse (fun h => h.branch (·.setNum _ _) (·.beginMapOut))

theorem Canonical.execChannelMapOut {c : Channel} (hs : Canonical s) : NextCanonical (execChannelMapOut rq c s) := by
  unfold Machine.execChannelMapOut
  refine hs.request _ _ _ _ _ (fun _ ht => ht.reported _ _ (fun _ hu => ?_))
  split
  · exact hu
  · exact hu.candidate

theorem Canonical.execChannelRestore {c : Channel} (hs : Canonical s) : NextCanonical (execChannelRestore rq c s) := by
  unfold Machine.execChannelRestore
  refine hs.request _ _ _ _ _ (fun _ ht => ht.reported _ _ (fun _ hu => ?_))
  split
  · exact hu
  · exact hu.keep

theorem Canonical.restartScrub (hs : Canonical s) : Canonical (s.restartScrub m) :=
  hs.each _ (fun _ _ ht => (canonical_ite ht ht.keep).setNum _ _ |>.setNum _ _) _

theorem Canonical.copyFails {lines : List Nat} (hs : Canonical s) : Canonical (s.copyFails m lines) := hs.keep.noteBadLines

theorem Canonical.execMigrationComplete {m : MDie} {failed : List Nat} (hs : Canonical s) :
    NextCanonical (execMigrationComplete m failed s) := by
  unfold Machine.execMigrationComplete
  split
  · exact hs
  · dsimp only
    split
    · exact hs.copyFails.keep.setNum _ _ |>.lower _ _ |>.lower _ _ |>.lower _ _ |>.bump _ _ _ |>.setNum _ _ |>.raise _ _
        |>.restartScrub
    · exact hs.copyFails.keep.setNum _ _ |>.lower _ _ |>.lower _ _ |>.lower _ _ |>.bump _ _ _ |>.setNum _ _ |>.raise _ _
        |>.restartScrub |>.startMapOut

theorem Canonical.scrubFails (hs : Canonical s) : Canonical (s.scrubFails c line) := by
  unfold State.scrubFails
  extract_lets x s1 s2 y s3
  have h2 : Canonical s2 := hs.bump _ _ _ |>.bump _ _ _ |>.keep
  have h3 : Canonical s3 := by
    unfold s3
    split
    · exact h2.iteElse (·.keep)
    · exact h2
  exact canonical_ite h3.candidate h3

theorem Canonical.scrubCorrects {wrong : List Nat} (hs : Canonical s) : Canonical (s.scrubCorrects c line word wrong) := by
  unfold State.scrubCorrects
  extract_lets _ _ _ s2
  have hs2 : Canonical s2 := hs.bump _ _ _ |>.bump _ _ _ |>.keep |>.setNum _ _
  split
  · exact hs2.store
  · exact hs2

theorem Canonical.execScrubCodewordRead {c : Channel} (hs : Canonical s) :
    NextCanonical (execScrubCodewordRead c word s) := by
  unfold Machine.execScrubCodewordRead
  dsimp only
  split
  · exact hs
  · split
    · exact hs.keep.scrubFails
    · exact hs.keep.iteElse (·.scrubCorrects)

theorem Canonical.countPasses (hs : Canonical s) : Canonical s.countPasses := hs.setNum _ _

theorem Canonical.execScrubPassComplete {c : Channel} (hs : Canonical s) : NextCanonical (execScrubPassComplete c s) := by
  unfold Machine.execScrubPassComplete
  split
  · exact hs
  · exact (canonical_ite hs.candidate hs).keep |>.setNum _ _ |>.setNum _ _ |>.countPasses

theorem Canonical.execScrubPeriodExpiry {c : Channel} (hs : Canonical s) : NextCanonical (execScrubPeriodExpiry c s) := by
  unfold Machine.execScrubPeriodExpiry
  split
  · exact hs.raise _ _
  · exact hs

end ModuleMemory

section TileIssue

/-! ### The functions of TileIssue -/

variable {s : State} {chunk code n offset pc t word : Nat} {k : Running}

theorem Canonical.runningSendOut {data : Bytes} (hs : Canonical s) : Canonical (Running.sendOut k s offset data) := by
  unfold Running.sendOut
  split
  · exact hs
  next e =>
    split
    next e =>
      exact hs.writeTarget e
    · exact hs.undeliverable

theorem Canonical.noteTransfer {key : Nat × Nat × Nat} (hs : Canonical s) :
    Canonical (s.noteTransfer key chunk offset n) := by
  unfold State.noteTransfer
  split
  · exact hs.keep
  · exact hs

theorem Canonical.runningDeliverUnbound {k : Running} {chunk : Nat} {data : Bytes} {x x' : Exchange} {done : State → State}
    {t : State} (hs : Canonical s) (hdone : ∀ u, Canonical u → Canonical (done u))
    (e : Running.deliver.unbound k s chunk data x x' done = some t) : Canonical t := by
  unfold Running.deliver.unbound at e
  dsimp only at e
  split at e
  · cases e
    exact hdone _ hs.keep
  · split at e
    · nomatch e
    · split at e
      next hr =>
        cases e
        exact hdone _ (hs.poolRequest hr).keep
      · nomatch e

theorem Canonical.runningDeliver {k : Running} {chunk offset : Nat} {data : Bytes} {t : State} (hs : Canonical s)
    (e : k.deliver s chunk offset data = some t) : Canonical t := by
  unfold Running.deliver at e
  dsimp only at e
  have hdone {u : State} (hu : Canonical u) : Canonical (u.noteTransfer k.c.key chunk offset data.length) := hu.noteTransfer
  split at e
  · split at e
    · cases e
      exact hdone hs.keep
    · split at e
      · cases e
        exact hdone hs.keep
      · exact hs.runningDeliverUnbound (fun _ hu => hdone hu) e
  · exact hs.runningDeliverUnbound (fun _ hu => hdone hu) e

theorem Canonical.runningWaitBuffer (hs : Canonical s) : Canonical (Running.waitBuffer k s chunk n) :=
  canonical_ite hs hs.startWait

theorem Canonical.runningRaise (hs : Canonical s) : Canonical (Running.raise k s code pc word) :=
  hs.setNum _ _ |>.setNum _ _ |>.setNum _ _ |>.raise _ _ |>.hoopFault

theorem Canonical.runningTrap (hs : Canonical s) : Canonical (Running.trap k s code pc word) :=
  canonical_ite hs.runningRaise hs.keep

theorem Canonical.runningSendRange {off : Nat} {payload : Bytes} {vc : Nat} (hs : Canonical s) :
    Canonical (Running.sendRange k s off payload vc) := by
  unfold Running.sendRange
  refine Canonical.keep ?_
  split
  · exact hs.each _ (fun _ _ ht => ht.emitTo) _ |>.keep
  · exact hs.each _ (fun _ _ ht => ht.emitTo) _

theorem Canonical.runningHead {k : Running} {j : TileJob} (hs : Canonical s) : HeadCanonical (k.head s j) := by
  unfold Running.head
  dsimp only
  split
  · exact hs
  · split
    · trivial
    · exact hs.keep
  · exact canonical_ite hs.keep hs
  · split
    · exact hs.keep
    · exact hs.keep.runningSendRange
  · trivial

theorem Canonical.runningSettleQueue {k : Running} {q n : Nat} (hs : Canonical s) : Canonical (k.settleQueue q n s).1 := by
  induction n generalizing s with
  | zero => exact hs
  | succ n ih =>
    unfold Running.settleQueue
    split
    · exact hs
    next j rest _ =>
      have hj : HeadCanonical (k.head s j) := hs.runningHead
      split
      · exact hs
      next e =>
        rw [e] at hj
        exact ih hj.keep
      next e =>
        rw [e] at hj
        exact hj.keep
      · exact hs

theorem Canonical.compareDigest {h g seq i : Nat} (hs : Canonical s) : Canonical (s.compareDigest h g seq i) := by
  unfold State.compareDigest
  dsimp only
  split
  · exact hs.keep.iteElse (fun h => h.branch (fun h => h.keep.settleMatch) (fun h => h.bump _ _ _ |>.setNum _ _ |>.raise _ _))
  · exact hs

theorem Canonical.runningNoteDigest (hs : Canonical s) : Canonical (Running.noteDigest k s) :=
  hs.keep.compareDigest.iteThen (·.sendFabric)

theorem Canonical.runningKeepStream (hs : Canonical s) : Canonical (Running.keepStream k s) := canonical_ite hs hs.keep

theorem Canonical.runningEndChunk (hs : Canonical s) : Canonical (Running.endChunk k s) :=
  canonical_ite hs.runningRaise (hs.runningKeepStream.runningNoteDigest.leaveTile.keep.bump _ _ _ |>.bump _ _ _
    |>.activateDue)

theorem Canonical.settleQueues (hs : Canonical s) : Canonical (s.settleQueues t) := by
  unfold State.settleQueues
  split
  · exact hs
  · dsimp only
    split
    · refine (canonical_foldl (fun _ _ ht => ?_) _ hs).runningRaise
      split
      · exact ht
      · exact ht.runningSettleQueue
    · split
      · split
        · refine (canonical_foldl (fun _ _ ht => ?_) _ hs).runningRaise
          split
          · exact ht
          · exact ht.runningSettleQueue
        · refine canonical_ite ((canonical_foldl (fun _ _ ht => ?_) _ hs).runningEndChunk) (canonical_foldl
            (fun _ _ ht => ?_) _ hs)
          · split
            · exact ht
            · exact ht.runningSettleQueue
          · split
            · exact ht
            · exact ht.runningSettleQueue
      · refine canonical_foldl (fun _ _ ht => ?_) _ hs
        split
        · exact ht
        · exact ht.runningSettleQueue

theorem Canonical.stall (hs : Canonical s) : Canonical (s.stall t) := hs.keep.bump _ _ _

theorem Canonical.runningSettle {k : Running} {queue : Option Nat} {target word : Nat} {i : Issue} (hk : Canonical k.s)
    (hi : IssueCanonical i) : Canonical (k.settle queue target word i) := by
  cases i with
  | ok s f =>
    have hs : Canonical s := hi
    exact hs.keep.settleQueues
  | enter s q op f =>
    have hs : Canonical s := hi
    exact hs.keep.settleQueues
  | stay s =>
    have hs : Canonical s := hi
    exact hs.settleQueues
  | jump s target =>
    have hs : Canonical s := hi
    simp only [Running.settle]
    split
    · exact hk.runningTrap
    · exact hs.keep
  | raise code => exact hk.runningTrap
  | hold => exact hk.stall

/-- What a tile runs is seen in the state that it runs in. -/
theorem running_state {t : Nat} {w : TileWord} {k : Running} (e : s.running t w = some k) : k.s = s := by
  obtain ⟨key, -, e⟩ := Option.bind_eq_some_iff.1 e
  obtain ⟨c, -, e⟩ := Option.bind_eq_some_iff.1 e
  obtain ⟨o, -, e⟩ := Option.bind_eq_some_iff.1 e
  obtain ⟨b, -, e⟩ := Option.bind_eq_some_iff.1 e
  obtain ⟨r, -, rfl⟩ := Option.map_eq_some_iff.1 e
  rfl

theorem Canonical.issue {t op : Nat} {w : TileWord} {f : Fields} {queue : Option Nat} {body : Running → Issue}
    (hs : Canonical s) (hbody : ∀ k, Canonical k.s → IssueCanonical (body k)) : Canonical (s.issue t op w f queue body) := by
  unfold State.issue
  split
  · exact hs
  next k e =>
    have hk : Canonical k.s := running_state e ▸ hs
    exact canonical_ite hs (canonical_ite hs.keep.runningTrap (canonical_ite hs.runningTrap (canonical_ite hs
      (canonical_ite hs.stall (canonical_ite hs.runningTrap (canonical_ite hs.stall (hk.runningSettle (hbody k hk))))))))

/-- The accesses of an instruction are refused, withheld, or go on (R108, R111). -/
theorem issueCanonical_access {k : Running} {q : Nat} {reads writes : List (Nat × Nat)} {f : TileData → Footprint → Issue}
    (hf : ∀ y p, IssueCanonical (f y p)) : IssueCanonical (k.access q reads writes f) := by
  unfold Running.access
  dsimp only
  split
  · trivial
  · split
    · trivial
    · exact hf _ _

end TileIssue

section GatewayFabric

/-! ### The functions of GatewayFabric -/

variable {s : State} {payload : Bytes} {h : Hoop} {k : Nat} {rq : Requester} {w : Wale}

theorem Canonical.fabricAddressEffect {a : State} {v : Nat} (ha : Canonical a) : Canonical (fabricAddressEffect v a).1 := by
  unfold Machine.fabricAddressEffect
  split
  · exact ha
  · split
    · exact ha
    · exact ha.plainWrite _ _ |>.iteThen (fun h => h.each _ (fun _ _ ht => ht.startHandshake) _) |>.settleConflict
        |>.settleConflict

theorem Canonical.execFabricAddressWrite {value : FabAddr} (hs : Canonical s) :
    NextCanonical (execFabricAddressWrite rq value s) :=
  hs.request _ _ _ _ _ (fun _ ht => ht.fabricAddressEffect)

theorem Canonical.execAddressConflictEnd {address : FabAddr} {node : BitVec 64} (hs : Canonical s) :
    NextCanonical (execAddressConflictEnd address node s) :=
  hs.keep.settleConflict

theorem Canonical.joinWale {w : Nat} (hs : Canonical s) : Canonical (s.joinWale w k) := hs.setNum _ _ |>.addLane |>.setNum _ _

theorem Canonical.formAuto (hs : Canonical s) : Canonical (s.formAuto k) := by
  unfold State.formAuto
  dsimp only
  split
  · exact hs
  · exact canonical_ite hs (hs.setP _ _ |>.setP _ _ |>.setP _ _ |>.formWale |>.keep)

theorem Canonical.execAutoBond {k : Lane} (hs : Canonical s) : NextCanonical (execAutoBond k s) := by
  unfold Machine.execAutoBond
  split
  · exact hs
  · dsimp only
    split
    · exact hs.joinWale
    · exact hs.formAuto

theorem Canonical.execFabricHelloReceived (hs : Canonical s) : NextCanonical (execFabricHelloReceived w payload s) := by
  unfold Machine.execFabricHelloReceived
  split
  · exact hs
  · exact hs.announced

theorem Canonical.execLinkStateReceived (hs : Canonical s) : NextCanonical (execLinkStateReceived w payload s) := by
  unfold Machine.execLinkStateReceived
  split
  · exact hs
  · dsimp only
    split
    · exact hs
    · exact hs.keep.announced.flood.computeRoutes

theorem Canonical.execLinkStateOriginate (hs : Canonical s) : NextCanonical (execLinkStateOriginate s) :=
  hs.keep.flood.computeRoutes

theorem Canonical.execLinkStateExpiry {origin : BitVec 64} (hs : Canonical s) :
    NextCanonical (execLinkStateExpiry origin s) :=
  hs.keep.computeRoutes

theorem Canonical.sendHeartbeat {w : Nat} (hs : Canonical s) : Canonical (s.sendHeartbeat w) := hs.keep

theorem Canonical.execHeartbeatSend (hs : Canonical s) : NextCanonical (execHeartbeatSend s) :=
  hs.each _ (fun _ _ ht => ht.sendHeartbeat) _ |>.settleSuspicion |>.each _ (fun _ _ ht => ht.reportSuspect) _

theorem Canonical.takeReport {w address : Nat} {e : Bytes} (hs : Canonical s) : Canonical (s.takeReport w address e) := by
  unfold State.takeReport
  split
  · exact hs
  · exact hs.keep.iteThen (·.raise _ _)

theorem Canonical.execHeartbeatReceived (hs : Canonical s) : NextCanonical (execHeartbeatReceived w payload s) := by
  unfold Machine.execHeartbeatReceived
  dsimp only
  split
  · exact hs
  · exact hs.keep.announced.unsuspect.each _ (fun _ _ ht => ht.takeReport) _

theorem Canonical.execPeerSuspect {peer : FabAddr} (hs : Canonical s) : NextCanonical (execPeerSuspect peer s) := hs.suspect

theorem Canonical.proposeExpulsion (hs : Canonical s) : Canonical s.proposeExpulsion :=
  canonical_ite (hs.keep.bump _ _ _ |>.flood |>.raise _ _) (canonical_ite hs (hs.keep.bump _ _ _ |>.raise _ _))

theorem Canonical.execHealthScoreUpdate (hs : Canonical s) : NextCanonical (execHealthScoreUpdate s) := by
  unfold Machine.execHealthScoreUpdate
  dsimp only
  split
  · exact hs.setNum _ _ |>.keep
  · split
    · exact hs.setNum _ _ |>.keep
    · exact hs.setNum _ _ |>.iteThen (·.proposeExpulsion)

theorem Canonical.execExpelProposalReceived (hs : Canonical s) : NextCanonical (execExpelProposalReceived w payload s) := by
  unfold Machine.execExpelProposalReceived
  dsimp only
  split
  · exact hs
  · exact hs.keep.flood.iteThen (·.raise _ _)

theorem Canonical.execShadowStart (hs : Canonical s) : NextCanonical (execShadowStart rq h s) := by
  unfold Machine.execShadowStart
  refine hs.request _ _ _ _ _ (fun _ ht => ?_)
  split
  · exact ht
  · exact ht.setNum _ _

theorem Canonical.execShadowStop (hs : Canonical s) : NextCanonical (execShadowStop rq h s) :=
  hs.request _ _ _ _ _ (fun _ ht => ht.setNum _ _)

theorem Canonical.execShadowDigestReceived {w : Wale} (hs : Canonical s) :
    NextCanonical (execShadowDigestReceived w payload s) := by
  unfold Machine.execShadowDigestReceived
  dsimp only
  split
  · exact hs
  · exact hs.keep.compareDigest

end GatewayFabric

section Partition

/-! ### The functions of Partition -/

variable {s : State} {payload record : Bytes} {b base epoch g h highest sites surviving : Nat} {o : Operation} {token : Token}
  {w : Wale}

theorem Canonical.sendPartition {kind : Nat} {l : List Nat} (hs : Canonical s) :
    Canonical (s.sendPartition h kind payload l) :=
  hs.each _ (fun _ _ ht => ht.emitTo) _

theorem Canonical.restartOp (hs : Canonical s) : Canonical (s.restartOp g o sites) :=
  hs.keep.each _ (fun _ _ ht => ht.moveChunk) _

theorem Canonical.resendStep {step : Nat} (hs : Canonical s) : Canonical (s.resendStep h step sites) :=
  canonical_ite (hs.each _ (fun _ _ ht => ht.resendStreams) _) hs

theorem Canonical.requeue (hs : Canonical s) : Canonical (s.requeue g o) := by
  unfold State.requeue
  dsimp only
  split
  · exact hs.restartOp.keep
  · exact hs.restartOp

theorem Canonical.rollBack (hs : Canonical s) : Canonical (s.rollBack h b sites) :=
  hs.setNum _ _ |>.each _ (fun _ _ ht => ht.requeue) _ |>.each _ (fun _ _ ht => ht.runAgain) _ |>.countAutonomous |>.each _
    (fun _ _ ht => ht.settleRedo) _

theorem Canonical.sideDeclare (hs : Canonical s) : Canonical (s.sideDeclare h epoch sites b) :=
  canonical_ite hs (canonical_ite (hs.setNum _ _ |>.each _ (fun _ _ ht => ht.restartOp) _) (canonical_ite hs
    (canonical_ite hs.enterSplit (canonical_ite hs (hs.setNum _ _ |>.setNum _ _ |>.setNum _ _ |>.resendStep |>.branch
    (·.settleFault) (fun h => h.branch (fun h => h.each _ (fun _ _ ht => ht.restartOp) _ |>.iteElse (·.countAutonomous))
    (·.rollBack)))))))

theorem Canonical.execPartitionHoldExpiry {h : Hoop} {site : Fin 16} (hs : Canonical s) :
    NextCanonical (execPartitionHoldExpiry h site s) := by
  unfold Machine.execPartitionHoldExpiry
  dsimp only
  split
  · exact hs
  · split
    · exact hs
    · exact hs.sendPartition.sideDeclare

theorem Canonical.execSideDeclareReceived {h : Hoop} (hs : Canonical s) :
    NextCanonical (execSideDeclareReceived w h payload s) := by
  unfold Machine.execSideDeclareReceived
  split
  · exact hs
  · exact hs.sideDeclare

theorem Canonical.reconcileSteps (hs : Canonical s) : Canonical (s.reconcileSteps h base highest sites) :=
  hs.setNum _ _ |>.keep |>.each _ (fun _ _ ht => canonical_ite ht ht.replay) _ |>.each _ (fun _ _ ht => ht.settleRedo) _
    |>.settleFault

theorem Canonical.merge (hs : Canonical s) : Canonical (s.merge h epoch base highest) :=
  canonical_ite hs (canonical_ite hs.enterSplit hs.reconcileSteps)

theorem Canonical.execMergeHoldExpiry {h : Hoop} (hs : Canonical s) : NextCanonical (execMergeHoldExpiry h s) := by
  unfold Machine.execMergeHoldExpiry
  dsimp only
  split
  · split
    · exact hs
    · exact hs.sendPartition.merge
  · exact hs

theorem Canonical.execMergeReceived {h : Hoop} (hs : Canonical s) : NextCanonical (execMergeReceived w h payload s) := by
  unfold Machine.execMergeReceived
  split
  · exact hs
  · exact hs.merge

theorem Canonical.joined (hs : Canonical s) : Canonical (s.joined h) := hs.keep.setNum _ _ |>.setNum _ _ |>.setNum _ _

theorem Canonical.execReconciliationComplete {h : Hoop} (hs : Canonical s) :
    NextCanonical (execReconciliationComplete h s) := by
  unfold Machine.execReconciliationComplete
  dsimp only
  split
  · exact hs
  · exact hs.joined.raise _ _ |>.iteThen (fun h => h.setNum _ _ |>.forgetEvacuation) |>.settleHoop

theorem Canonical.settleSplit (hs : Canonical s) : Canonical (s.settleSplit h surviving) :=
  canonical_ite hs (canonical_ite hs.reconcileSteps (hs.each _ (fun _ _ ht => ht.each _ (fun _ _ hu => hu.voidOperation) _
    |>.checkFrees |>.keep) _ |>.keep |>.joined |>.stopHoop))

theorem Canonical.restartReplay (hs : Canonical s) : Canonical (s.restartReplay h) := by
  unfold State.restartReplay
  split
  · exact hs
  · exact hs.each _ (fun _ _ ht => ht.each _ (fun _ _ hu => hu.voidOperation) _ |>.checkFrees |>.keep) _ |>.reconcileSteps

theorem Canonical.breakFenced (hs : Canonical s) : Canonical (s.breakFenced h) :=
  hs.each _ (fun _ _ ht => ht.markBroken.abortGroup) _

theorem Canonical.acceptFence {notice : Bytes} {fenced : List Nat} (hs : Canonical s) :
    Canonical (s.acceptFence h record notice epoch surviving fenced) :=
  hs.setBytes _ _ |>.setNum _ _ |>.setBytes _ _ |>.keep |>.each _ (fun _ _ ht => ht.each _ (fun _ _ hu => hu.endSession) _) _
    |>.breakFenced |>.iteThen (·.restartReplay) |>.settleSplit

theorem Canonical.fenceEffect {a : State} {t : Token} (ha : Canonical a) : Canonical (fenceEffect h record t a).1 := by
  unfold Machine.fenceEffect
  split
  · exact ha
  · split
    · exact ha
    · exact ha.acceptFence

theorem Canonical.execFenceRecordWrite {rq : Requester} {h : Hoop} (hs : Canonical s) :
    NextCanonical (execFenceRecordWrite rq h record token s) :=
  hs.request _ _ _ _ _ (fun _ ht => ht.fenceEffect)

theorem Canonical.execFenceNoticeReceived (hs : Canonical s) : NextCanonical (execFenceNoticeReceived w record token s) := by
  unfold Machine.execFenceNoticeReceived
  dsimp only
  split
  · exact hs
  · split
    · exact hs.raise _ _ |>.iteElse (fun h => h.each _ (fun _ _ ht => ht.abortGroup) _) |>.hoopFault
    · exact hs

end Partition

section Tiles

/-! ### The functions of Tiles -/

variable {s : State} {rq : Requester} {t : Tile}

theorem Canonical.execTileSensorSample {r0 r1 r2 r3 : Int} (hs : Canonical s) :
    NextCanonical (execTileSensorSample t r0 r1 r2 r3 s) := by
  unfold Machine.execTileSensorSample
  dsimp only
  split
  · exact hs
  · exact hs.keep.setInt _ _ |>.iteThen (·.tripTile) |>.iteThen (·.dropTile) |>.thermalVote |>.settleTileDomain |>.iteThen
      (·.shutdown)

theorem Canonical.execTileReturnHoldExpiry (hs : Canonical s) : NextCanonical (execTileReturnHoldExpiry t s) := by
  unfold Machine.execTileReturnHoldExpiry
  dsimp only
  split
  · exact hs
  · split
    · exact hs.keep.setNum _ _ |>.settleTile |>.settleTileDomain
    · split
      · exact hs.restoreDivider.settleTileDomain
      · split
        · exact hs.keep.settleTileDomain
        · exact hs

theorem Canonical.execChunkBind {h : Hoop} (hs : Canonical s) : NextCanonical (execChunkBind h s) := by
  unfold Machine.execChunkBind
  split
  · exact hs
  · exact hs.bindChunk

theorem Canonical.execChunkStart (hs : Canonical s) : NextCanonical (execChunkStart t s) := by
  unfold Machine.execChunkStart
  split
  · exact hs
  · split
    · exact hs.startChunk
    · exact hs

theorem Canonical.execTileFault {cause : BitVec 8} {address : BitVec 23} {readable : Bool} (hs : Canonical s) :
    NextCanonical (execTileFault t cause address readable s) := by
  unfold Machine.execTileFault
  split
  · split
    · exact hs.inputLost
    · exact hs
  · exact hs.tileFaults

theorem Canonical.execSequencerHangTimeout (hs : Canonical s) : NextCanonical (execSequencerHangTimeout t s) := by
  unfold Machine.execSequencerHangTimeout
  dsimp only
  split
  · exact hs.tileFaults
  · exact hs

theorem Canonical.execTileTest (hs : Canonical s) : NextCanonical (execTileTest rq t s) := by
  unfold Machine.execTileTest
  refine hs.request _ _ _ _ _ (fun _ ht => ht.reported _ _ (fun _ hu => ?_))
  dsimp only
  split
  · exact hu
  · split
    · exact hu.keep
    · exact hu

theorem Canonical.execTileOutOfService (hs : Canonical s) : NextCanonical (execTileOutOfService rq t s) := by
  unfold Machine.execTileOutOfService
  refine hs.request _ _ _ _ _ (fun _ ht => ht.reported _ _ (fun _ hu => ?_))
  split
  · exact hu
  · split
    · exact hu
    · exact hu.tileFaults

theorem Canonical.execTileSelfTestDone {pass : Bool} (hs : Canonical s) : NextCanonical (execTileSelfTestDone t pass s) := by
  unfold Machine.execTileSelfTestDone
  dsimp only
  split
  · exact hs
  · split
    · exact hs.keep.iteThen (fun h => h.setNum _ _ |>.setNum _ _) |>.setNum _ _
    · exact hs.keep.setNum _ _ |>.setNum _ _ |>.setNum _ _ |>.keep

end Tiles

section Writes

/-! ### The functions of Writes -/

variable {a s : State} {k : Nat} {v : Val}

theorem Canonical.guarded {ok : State → Bool} {status : Nat} (ha : Canonical a) : Canonical (guarded ok status k v a).1 := by
  unfold Machine.guarded
  split
  · exact ha.plainWrite _ _
  · exact ha

theorem Canonical.followed {f : State → State} (hs : Canonical s) (k : Nat) (v : Val)
    (hf : ∀ t, Canonical t → Canonical (f t)) : Canonical (followed k v f s).1 :=
  hf _ (hs.plainWrite _ _)

theorem Canonical.laneEnableEffect {l : Nat} (ha : Canonical a) : Canonical (laneEnableEffect l k v a).1 :=
  ha.followed _ _ (fun _ ht => (canonical_ite (ht.setNum _ _ |>.setNum _ _ |>.keep) ht).settleDomain |>.settleDomain)

theorem Canonical.evictEffect (ha : Canonical a) : Canonical (evictEffect k v a).1 :=
  ha.followed _ _ (fun _ ht => canonical_ite ht (ht.each _ (fun _ _ hu => canonical_ite hu.evictLane hu) _))

theorem Canonical.hoopVoteEffect {h : Nat} (ha : Canonical a) : Canonical (hoopVoteEffect h k v a).1 :=
  ha.followed _ _ (fun _ ht => ht.each _ (fun _ _ hu => canonical_ite hu (hu.setNum _ _ |>.settleTileDomain)) _)

theorem Canonical.writeEffect {k base sub i : Nat} {v : Val} (hs : Canonical s) :
    Canonical (writeEffect k base sub i v s).1 := by
  unfold Machine.writeEffect
  split
  · exact hs.guarded
  · exact hs.followed _ _ (fun _ ht => ht.activateDue)
  · beta_reduce
    split
    · exact hs.followed _ _ (fun _ ht => ht.sizeMemory)
    · exact hs
  · exact hs.laneEnableEffect
  · exact hs.guarded
  · exact hs.guarded
  · exact hs.guarded
  · exact hs.guarded
  · exact hs.evictEffect
  · exact hs.guarded
  · exact hs.guarded
  · exact hs.hostVoteEffect
  · exact hs.hoopVoteEffect
  · exact hs.hoopVoteEffect
  · exact hs.plainWrite _ _

/-- A command, if there is one, answers canonical states. -/
def CommandKeeps : Option (State → Host.Outcome State Fault Refusal) → Prop
  | some f => ∀ s, Canonical s → NextCanonical (f s)
  | none => True

/-- An outcome, if there is one, answers a canonical state. -/
def OutcomeCanonical : Option (Host.Outcome State Fault Refusal) → Prop
  | some o => NextCanonical o
  | none => True

theorem CommandKeeps.map {c : Option (State → Host.Outcome State Fault Refusal)} (hc : CommandKeeps c) (hs : Canonical s) :
    OutcomeCanonical (c.map fun f => f s) := by
  cases c with
  | none => trivial
  | some f => exact hc s hs

theorem OutcomeCanonical.or {c d : Option (Host.Outcome State Fault Refusal)} (hc : OutcomeCanonical c)
    (hd : OutcomeCanonical d) : OutcomeCanonical (c.or d) := by
  cases c with
  | none => exact hd
  | some o => exact hc

theorem workCommand_keeps {base sub i n : Nat} {b : Bytes} : CommandKeeps (workCommand rq base sub i n b) := by
  unfold workCommand
  split
  · exact fun _ hs => hs.execConfigure
  · exact fun _ hs => hs.execAdmit
  · exact fun _ hs => hs.execStart
  · exact fun _ hs => hs.execDrain
  · exact fun _ hs => hs.execEvacuate
  · exact fun _ hs => hs.execUnbind
  · exact fun _ hs => hs.execRelease
  · exact fun _ hs => hs.execHoopReservationWrite
  · exact fun _ hs => hs.execHoopReservationWrite
  · exact fun _ hs => hs.execHoopReservationWrite
  · exact fun _ hs => hs.execEvacuationTargetWrite
  · exact fun _ hs => hs.execGroupCreate
  · exact fun _ hs => hs.execGroupReform
  · exact fun _ hs => hs.execGroupDelete
  · exact fun _ hs => hs.execHostSubmit
  · exact fun _ hs => hs.execTileTest
  · exact fun _ hs => hs.execTileOutOfService
  · exact fun _ hs => hs.execImageStageWrite
  · exact fun _ hs => hs.execImageLoad
  · exact fun _ hs => hs.execImageLoadPending
  · exact fun _ hs => hs.execImageCancelPending
  · exact fun _ hs => hs.execImageClear
  · exact fun _ hs => hs.execPlanLoad
  · exact fun _ hs => hs.execPlanUnload
  · trivial

theorem fabricCommand_keeps {base sub i n : Nat} : CommandKeeps (fabricCommand rq base sub i n) := by
  unfold fabricCommand
  split
  · exact fun _ hs => hs.execChannelMapOut
  · exact fun _ hs => hs.execChannelRestore
  · exact fun _ hs => hs.execMacRetrain
  · exact fun _ hs => hs.execQpToInit
  · exact fun _ hs => hs.execQpToRtr
  · exact fun _ hs => hs.execQpToRts
  · exact fun _ hs => hs.execQpToReset
  · exact fun _ hs => hs.execQpToError
  · exact fun _ hs => hs.execWindowCreateLanding
  · exact fun _ hs => hs.execWindowCreateBuffer
  · exact fun _ hs => hs.execWindowDelete
  · exact fun _ hs => hs.execTargetWrite
  · exact fun _ hs => hs.execWindowConfigWrite
  · exact fun _ hs => hs.execPoolMinimumWrite
  · trivial

theorem Canonical.lineCommand {base sub i n : Nat} (hs : Canonical s) : OutcomeCanonical (lineCommand rq base sub i n s) := by
  unfold Machine.lineCommand
  split
  · exact hs.execWaleCreate
  · exact hs.execWaleAddLane
  · exact hs.execWaleRemoveLane
  · exact hs.execWaleDelete
  · exact hs.execLineHoopClearEnableBWrite
  · exact hs.execLineSessionOpen
  · exact hs.execLineSessionClose
  · exact hs.execLineRekeyTx
  · exact hs.execPairSettingWrite
  · exact hs.execLineLaneModeWrite
  · exact hs.execLineLaneResolutionWrite
  · exact hs.execLineLaneFrequencyWrite
  · exact hs.execIpSelect
  · exact hs.keep.execIpClearTrip
  · exact hs.execLaserCommission
  · exact hs.execLaserRetire
  · exact hs.execEngineCommission
  · exact hs.execSampleClear
  · exact hs.execSampleFreeze
  · exact hs.execSampleRun
  · exact hs.execFabricAddressWrite
  · exact hs.execShadowStart
  · exact hs.execShadowStop
  · split
    · exact hs.execPolicerWrite
    · trivial
  · trivial

theorem moduleCommand_keeps {base sub i n : Nat} {b : Bytes} : CommandKeeps (moduleCommand rq base sub i n b) := by
  unfold moduleCommand
  split
  · exact fun _ hs => hs.execTbIncrementWrite
  · exact fun _ hs => hs.execTbSetTime
  · exact fun _ hs => hs.execClkoutWrite
  · exact fun _ hs => hs.execClkoutWrite
  · exact fun _ hs => hs.execDomainSourceWrite
  · exact fun _ hs => hs.execDomainRestart
  · exact fun _ hs => hs.execMailboxPost
  · exact fun _ hs => hs.execPersistCommit
  · exact fun _ hs => hs.execSnapshotTrigger
  · exact fun _ hs => hs.execSnapshotArm
  · exact fun _ hs => hs.execSnapshotDisarm
  · exact fun _ hs => hs.execSnapshotUnlock
  · exact fun _ hs => hs.execOwnershipTransfer
  · exact fun _ hs => hs.execFirmwareStageWrite
  · exact fun _ hs => hs.execFirmwareInstall
  · exact fun _ hs => hs.execAttestNonceWrite
  · exact fun _ hs => hs.execHoopAttestNonceWrite
  · exact fun _ hs => hs.execMeterStageWrite
  · exact fun _ hs => hs.execMeterInstall
  · exact fun _ hs => hs.execEventAck
  · exact fun _ hs => hs.execResetCold
  · exact fun _ hs => hs.execResetWarm
  · exact fun _ hs => hs.execResetHub
  · exact fun _ hs => hs.execResetDie
  · exact fun _ hs => hs.execResetHoop
  · trivial

theorem signedCommand_keeps {base sub i n : Nat} {b : Bytes} {t : Token} :
    CommandKeeps (signedCommand rq base sub i n b t) := by
  unfold signedCommand
  split
  · exact fun _ hs => hs.execLineHoopClearEnableAWrite
  · exact fun _ hs => hs.execFenceRecordWrite
  · exact fun _ hs => hs.execRollbackFloorWrite
  · trivial

theorem Canonical.ownCommand {base sub i : Nat} {token : Option Token} (hs : Canonical s) :
    OutcomeCanonical (s.ownCommand rq base sub i v token) := by
  unfold State.ownCommand
  split
  · exact signedCommand_keeps.map hs
  · exact ((workCommand_keeps.map hs).or (fabricCommand_keeps.map hs)).or (hs.lineCommand.or (moduleCommand_keeps.map hs))

theorem Canonical.stateAfter {o : Host.Outcome State Fault Refusal} (hs : Canonical s) (ho : NextCanonical o) :
    Canonical (stateAfter s o) := by
  cases o with
  | next t => exact ho
  | fault _ => exact hs
  | refused _ => exact hs

theorem Canonical.writeVal {k i : Nat} {r : ObjRow} {token : Option Token} (hs : Canonical s) :
    Canonical (s.writeVal rq k r i v token) := by
  unfold State.writeVal
  split
  next o e =>
    have ho : OutcomeCanonical (some o) := by
      rw [← e]
      split
      · exact hs.ownCommand
      · trivial
    exact hs.stateAfter ho
  · exact hs.request _ _ _ _ _ (fun _ ht => ht.writeEffect)

theorem Canonical.writeObject {rq : Requester} {offset : Nat} {b : Bytes} (hs : Canonical s) :
    Canonical (s.writeObject rq k offset b) := by
  unfold State.writeObject
  split
  · exact hs.request _ _ _ _ _ (fun _ ht => ht.plainWrite _ _)
  · exact canonical_ite hs.writeVal hs.writeVal

end Writes

section Dictionary

/-! ### The functions of Dictionary -/

variable {s : State} {index : BitVec 16} {tag : BitVec 32} {sub : BitVec 8} {data value : Bytes} {k length offset seq : Nat}
  {session : PdpSession} {rq : Requester} {token : Token} {wale : Wale}

theorem Canonical.readRequest {k offset length : Nat} (hs : Canonical s) : Canonical (s.readRequest rq k offset length) := by
  unfold State.readRequest
  split
  · exact hs.stateAfter hs.execMailboxTake
  · exact hs.serveRead (fun _ ht => ht.readObject)

theorem Canonical.execDictRead (hs : Canonical s) : NextCanonical (execDictRead rq index sub offset length s) :=
  hs.readRequest

theorem Canonical.execDictWrite (hs : Canonical s) : NextCanonical (execDictWrite rq index sub offset data s) :=
  hs.writeObject

theorem Canonical.describeRequest (hs : Canonical s) : Canonical (s.describeRequest rq k) := by
  unfold State.describeRequest
  split
  · exact hs
  · dsimp only
    split
    · exact hs.dropLatch.answer _ _ _ _ _
    · exact hs.dropLatch.branch (·.answer _ _ _ _ _) (fun h => h.countRefusal _ _ _ |>.answer _ _ _ _ _)

theorem Canonical.execDictDescribe (hs : Canonical s) : NextCanonical (execDictDescribe rq index sub s) := hs.describeRequest

theorem Canonical.snapshotRequest (hs : Canonical s) : Canonical (s.snapshotRequest rq k offset length) :=
  canonical_ite hs (hs.dropLatch.keep.branch (fun h => h.countRefusal _ _ _ |>.answer _ _ _ _ _)
    (fun h => h.settleLatch.answerRead))

theorem Canonical.execDictReadSnapshot (hs : Canonical s) :
    NextCanonical (execDictReadSnapshot rq index sub offset length s) :=
  hs.snapshotRequest

theorem Canonical.signedWrite (hs : Canonical s) : Canonical (s.signedWrite rq k value token) := by
  unfold State.signedWrite
  split
  · exact canonical_ite hs.writeVal hs.writeObject
  · exact hs.writeObject

theorem Canonical.execSigTokenWrite (hs : Canonical s) : NextCanonical (execSigTokenWrite rq index sub value token s) :=
  hs.signedWrite

theorem Canonical.commanded {command : Nat} (hs : Canonical s) : Canonical (s.commanded rq command k offset length data) := by
  unfold State.commanded
  split
  · exact hs.readRequest
  · exact hs.writeObject
  · exact hs.describeRequest
  · exact hs.snapshotRequest
  · exact canonical_ite (hs.answer _ _ _ _ _) hs

theorem Canonical.retirePdp {n : Nat} (hs : Canonical s) : Canonical (s.retirePdp n) := canonical_ite hs.closePdp hs

theorem Canonical.pdpMessage {message : Bytes} (hs : Canonical s) : Canonical (s.pdpMessage session seq message) := by
  unfold State.pdpMessage
  dsimp only
  split
  · exact hs
  · split
    · exact hs.keep
    · exact hs.keep.commanded.retirePdp

theorem Canonical.execPdpRequestReceived {fragment count : Nat} {payload : Bytes} (hs : Canonical s) :
    NextCanonical (execPdpRequestReceived session seq fragment count payload s) :=
  canonical_ite hs (canonical_ite hs.keep.pdpMessage hs.keep)

theorem Canonical.execPeerReadReceived {command : BitVec 8} (hs : Canonical s) :
    NextCanonical (execPeerReadReceived wale index sub command offset length tag s) :=
  canonical_ite hs hs.commanded

theorem Canonical.execPeerWriteReceived (hs : Canonical s) :
    NextCanonical (execPeerWriteReceived wale index sub offset value tag s) :=
  canonical_ite hs hs.commanded

theorem Canonical.execPeerResponseReceived {status flags : BitVec 16} {total : Nat} (hs : Canonical s) :
    NextCanonical (execPeerResponseReceived wale tag status flags total data s) :=
  canonical_ite hs hs.keep

end Dictionary

section Segments

/-! ### The functions of Segments -/

variable {s : State} {header payload : Bytes} {h n w : Nat} {x : RxSegment}

theorem Canonical.requestSegment {h : Bytes} (hs : Canonical s) : Canonical (s.requestSegment w h) :=
  canonical_ite hs hs.requestRun

theorem Canonical.settleMarks (hs : Canonical s) : Canonical (s.settleMarks w) := canonical_ite hs hs.keep

theorem Canonical.afterBreak {h : Bytes} (hs : Canonical s) : Canonical (s.afterBreak w h) :=
  hs.keep.each _ (fun _ _ ht => canonical_ite ht.requestRun ht) _

theorem Canonical.headerError {queued : Bool} (hs : Canonical s) : Canonical (s.headerError w x queued) :=
  hs.bump _ _ _ |>.iteElse (fun h => h.keep.countBreaks)

theorem Canonical.authNotice (hs : Canonical s) : Canonical (s.authNotice h header) := by
  unfold State.authNotice
  dsimp only
  split
  · exact hs
  · split
    · exact hs
    · exact canonical_ite (canonical_ite hs.writeRecord hs.undeliverable) hs

theorem Canonical.reportAuth (hs : Canonical s) : Canonical (s.reportAuth w n) := canonical_ite (hs.keep.raise _ _) hs

theorem Canonical.countAuth (hs : Canonical s) : Canonical (s.countAuth w n) :=
  canonical_ite (hs.keep.raise _ _ |>.branch (·.loseWale) (·.rekeyDue)) hs.keep

theorem Canonical.writeUnverified (hs : Canonical s) : Canonical (s.writeUnverified w h x) := by
  unfold State.writeUnverified
  dsimp only
  split
  · exact hs
  · split
    · exact canonical_ite hs hs.keep
    · exact hs

theorem Canonical.tagFailed (hs : Canonical s) : Canonical (s.tagFailed w x) :=
  hs.requestSegment.iteThen (fun h => h.iteElse (·.writeUnverified) |>.authNotice |>.bump _ _ _) |>.bump _ _ _ |>.reportAuth
    |>.countAuth

theorem Canonical.drainHeld {n : Nat} (hs : Canonical s) : Canonical (State.drainHeld n s w vc) := by
  induction n generalizing s with
  | zero => exact hs
  | succ n ih =>
    unfold State.drainHeld
    dsimp only
    split
    · exact hs
    · exact ih hs.keep

theorem Canonical.takeOrdered {vc : Nat} (hs : Canonical s) : Canonical (s.takeOrdered w vc header payload) :=
  canonical_ite hs hs.keep.accept.drainHeld

theorem Canonical.holdEarly {header payload : Bytes} (hs : Canonical s) : Canonical (s.holdEarly w h header payload) := by
  unfold State.holdEarly
  dsimp only
  split
  · exact hs.keep.accept
  · split
    next e =>
      obtain ⟨c, -, hr⟩ := Option.bind_eq_some_iff.1 e
      exact (hs.poolRequest hr).keep.accept
    · exact hs.deferSegment

theorem Canonical.forwardShadow (hs : Canonical s) : Canonical (s.forwardShadow h header payload) := by
  unfold State.forwardShadow
  split
  · exact hs
  · exact hs.enqueue

theorem Canonical.takeStream (hs : Canonical s) : Canonical (s.takeStream w h header payload) := by
  unfold State.takeStream
  split
  next e =>
    exact hs.placeSegment e |>.forwardShadow |>.accept |>.keep
  · exact hs.deferSegment

theorem Canonical.takeData (hs : Canonical s) : Canonical (s.takeData w h header payload) := by
  unfold State.takeData
  dsimp only
  split
  · exact hs.accept
  · split
    · exact hs.accept
    · exact hs.holdEarly
    · exact canonical_ite hs.accept.keep hs.takeStream

theorem Canonical.takeBulk {w : Nat} {header payload : Bytes} (hs : Canonical s) :
    Canonical (s.takeBulk w h header payload) := by
  unfold State.takeBulk
  split
  · exact canonical_ite hs.takeStream hs.accept
  · split
    next e =>
      obtain ⟨c, -, hr⟩ := Option.bind_eq_some_iff.1 e
      exact (hs.poolRequest hr).keep.accept.keep
    · exact hs.deferSegment

theorem Canonical.forward (hs : Canonical s) : Canonical (s.forward w header payload) := by
  unfold State.forward
  dsimp only
  split
  · exact hs
  · exact canonical_ite hs hs.enqueue

theorem Canonical.takeSegment (hs : Canonical s) : Canonical (s.takeSegment w header payload) :=
  canonical_ite (canonical_ite hs.keep.takeData (hs.bump _ _ _)) (canonical_ite hs (canonical_ite (hs.accept.bump _ _ _
    |>.noteFenced) (canonical_ite hs.forward (canonical_ite hs.takeOrdered (canonical_ite hs.accept.keep
    (canonical_ite hs.takeBulk hs.takeData))))))

theorem Canonical.checkSegment (hs : Canonical s) : Canonical (s.checkSegment w x) := by
  unfold State.checkSegment
  dsimp only
  split
  · exact hs.requestSegment.bump _ _ _
  · split
    · exact canonical_ite hs (canonical_ite (hs.bump _ _ _) (canonical_ite hs (hs.accept.bump _ _ _)))
    · split
      · exact hs.strayHandshake
      · split
        · exact canonical_ite (hs.bump _ _ _) (canonical_ite (hs.bump _ _ _) (hs.requestSegment.bump _ _ _))
        · split
          · exact hs.tagFailed
          · exact canonical_ite hs.keep hs.takeSegment

theorem Canonical.execSegmentReceived {w : Wale} {segment : RxSegment} (hs : Canonical s) :
    NextCanonical (execSegmentReceived w segment s) := by
  unfold Machine.execSegmentReceived
  extract_lets v queued broken s1 s2
  have h1 : Canonical s1 := canonical_ite hs.keep hs
  have h2 : Canonical s2 := canonical_ite h1.headerError (h1.iteThen (·.afterBreak)).checkSegment
  exact h2.settleMarks

end Segments

section TileControl

/-! ### The functions of TileControl -/

variable {s : State} {t : Tile} {x : TileWord}

theorem Canonical.execNop (hs : Canonical s) : NextCanonical (execNop t x s) := hs.issue (fun _ hk => hk)

theorem Canonical.execJmp (hs : Canonical s) : NextCanonical (execJmp t x s) := hs.issue (fun _ hk => hk)

theorem issueCanonical_branchIf {k : Running} {b : Bool} (hk : Canonical k.s) : IssueCanonical (k.branchIf b) :=
  issueCanonical_ite hk hk

theorem Canonical.execBeqz (hs : Canonical s) : NextCanonical (execBeqz t x s) := by
  unfold Machine.execBeqz
  exact hs.issue (fun _ hk => issueCanonical_branchIf hk)

theorem Canonical.execBnez (hs : Canonical s) : NextCanonical (execBnez t x s) := by
  unfold Machine.execBnez
  exact hs.issue (fun _ hk => issueCanonical_branchIf hk)

theorem Canonical.execJal (hs : Canonical s) : NextCanonical (execJal t x s) := hs.issue (fun _ hk => hk.keep)

theorem Canonical.execJr (hs : Canonical s) : NextCanonical (execJr t x s) := hs.issue (fun _ hk => hk)

theorem issueCanonical_loop {k : Running} (hk : Canonical k.s) : IssueCanonical k.loop := by
  unfold Running.loop
  dsimp only
  split
  · trivial
  · split
    · trivial
    · split
      · exact hk.keep
      · exact hk.keep

theorem Canonical.execLoop (hs : Canonical s) : NextCanonical (execLoop t x s) := by
  unfold Machine.execLoop
  exact hs.issue (fun _ hk => issueCanonical_loop hk)

theorem Canonical.execFence (hs : Canonical s) : NextCanonical (execFence t x s) :=
  hs.issue (fun _ hk => canonical_ite hk hk.keep)

theorem Canonical.execCdone (hs : Canonical s) : NextCanonical (execCdone t x s) := hs.issue (fun _ hk => hk.keep)

theorem Canonical.execTrap (hs : Canonical s) : NextCanonical (execTrap t x s) := hs.issue (fun _ _ => trivial)

theorem Canonical.execFenceComplete (hs : Canonical s) : NextCanonical (execFenceComplete t s) := by
  unfold Machine.execFenceComplete
  dsimp only
  split
  · exact hs.keep
  · exact hs

end TileControl

section TileDma

/-! ### The functions of TileDma -/

variable {s : State} {k : Running} {t : Tile} {x : TileWord}

theorem Canonical.execDld (hs : Canonical s) : NextCanonical (execDld t x s) := by
  unfold Machine.execDld
  refine hs.issue (fun _ hk => ?_)
  dsimp only
  split
  · trivial
  · split
    · trivial
    · split
      · trivial
      · exact issueCanonical_access (fun _ _ => hk.keep)

theorem Canonical.execDst (hs : Canonical s) : NextCanonical (execDst t x s) := by
  unfold Machine.execDst
  refine hs.issue (fun _ hk => ?_)
  dsimp only
  split
  · trivial
  · split
    · trivial
    · split
      · trivial
      · exact issueCanonical_access (fun _ _ => hk.keep)

theorem Canonical.execDgath (hs : Canonical s) : NextCanonical (execDgath t x s) := by
  unfold Machine.execDgath
  refine hs.issue (fun _ hk => ?_)
  dsimp only
  split
  · exact trivial
  · split
    · exact trivial
    · split
      · exact trivial
      · split
        · exact trivial
        · refine issueCanonical_access (fun _ _ => ?_)
          split
          · exact trivial
          · exact hk.keep

theorem Canonical.execDout (hs : Canonical s) : NextCanonical (execDout t x s) := by
  unfold Machine.execDout
  refine hs.issue (fun _ hk => ?_)
  dsimp only
  split
  · trivial
  · split
    · trivial
    · exact issueCanonical_access (fun _ _ => hk.keep)

theorem Canonical.execDxfer (hs : Canonical s) : NextCanonical (execDxfer t x s) := by
  unfold Machine.execDxfer
  refine hs.issue (fun _ hk => ?_)
  dsimp only
  split
  · trivial
  · split
    · trivial
    · refine issueCanonical_access (fun _ _ => ?_)
      split
      · exact hk.keep
      · exact hk.keep

theorem Canonical.execDxwait (hs : Canonical s) : NextCanonical (execDxwait t x s) := by
  unfold Machine.execDxwait
  refine hs.issue (fun _ hk => ?_)
  dsimp only
  split
  · exact trivial
  · split
    · exact trivial
    · split
      · exact hk.keep
      · exact hk.keep

theorem Canonical.execDclaim (hs : Canonical s) : NextCanonical (execDclaim t x s) := by
  unfold Machine.execDclaim
  refine hs.issue (fun _ hk => ?_)
  split
  · trivial
  · dsimp only
    split
    · trivial
    · split
      · exact hk.keep
      · exact hk.keep

theorem Canonical.execDrel (hs : Canonical s) : NextCanonical (execDrel t x s) := hs.issue (fun _ hk => hk.keep)

theorem Canonical.popQueue {t q : Nat} (hs : Canonical s) : Canonical (s.popQueue t q) := hs.keep.settleQueues

theorem Canonical.runningPlace {x : LoadPiece} (hs : Canonical s) : Canonical (Running.place k s x) :=
  hs.keep.each _ (fun _ _ ht => ht.keep) _

theorem Canonical.runningLoaded {pieces : List LoadPiece} (hs : Canonical s) : Canonical (Running.loaded k s pieces) := by
  unfold Running.loaded
  dsimp only
  split
  · exact hs.ownerFault
  · exact canonical_ite (hs.each _ (fun _ _ ht => ht.runningPlace) _ |>.popQueue) (hs.noteBadLines.branch (·.inputLost)
      (·.hoopFault))

theorem Canonical.execDmaTransferComplete (hs : Canonical s) : NextCanonical (execDmaTransferComplete t s) := by
  unfold Machine.execDmaTransferComplete
  split
  · exact hs
  next e =>
    split
    · exact hs.runningLoaded
    · exact hs.deliverPlan.popQueue
    · exact hs.keep.runningSendOut.popQueue
    next e =>
      split
      next e =>
        exact hs.runningDeliver e |>.popQueue
      · exact hs.runningWaitBuffer
    · exact hs

theorem Canonical.execDclaimComplete (hs : Canonical s) : NextCanonical (execDclaimComplete t s) := by
  unfold Machine.execDclaimComplete
  split
  · exact hs
  · split
    · exact canonical_ite hs.popQueue hs
    · exact hs

theorem Canonical.execDxwaitComplete (hs : Canonical s) : NextCanonical (execDxwaitComplete t s) := by
  unfold Machine.execDxwaitComplete
  split
  · exact hs
  · split
    · exact canonical_ite hs.popQueue hs
    · exact hs

end TileDma

section TileLine

/-! ### The functions of TileLine -/

variable {s : State} {t : Tile} {x : TileWord}

theorem Canonical.execSwait (hs : Canonical s) : NextCanonical (execSwait t x s) := by
  unfold Machine.execSwait
  refine hs.issue (fun _ hk => ?_)
  dsimp only
  split
  · trivial
  · split
    · trivial
    · split
      · exact hk.keep
      · exact hk

theorem Canonical.execSsig (hs : Canonical s) : NextCanonical (execSsig t x s) := by
  unfold Machine.execSsig
  refine hs.issue (fun _ hk => ?_)
  dsimp only
  split
  · trivial
  · split
    · trivial
    · exact hk

theorem Canonical.execSwaitRelease {q : Fin 5} (hs : Canonical s) : NextCanonical (execSwaitRelease t q s) := by
  unfold Machine.execSwaitRelease
  dsimp only
  split
  · split
    · exact hs.keep.popQueue
    · exact hs
  · exact hs

theorem Canonical.execDeadlockTimeout (hs : Canonical s) : NextCanonical (execDeadlockTimeout t s) := by
  unfold Machine.execDeadlockTimeout
  split
  · exact hs
  · dsimp only
    split
    · exact hs.runningRaise
    · exact hs

theorem Canonical.execMbpost (hs : Canonical s) : NextCanonical (execMbpost t x s) := by
  unfold Machine.execMbpost
  refine hs.issue (fun _ hk => ?_)
  dsimp only
  split
  · trivial
  · split
    · exact hs.postMailbox
    · exact hk

theorem Canonical.execMbpostComplete (hs : Canonical s) : NextCanonical (execMbpostComplete t s) := by
  unfold Machine.execMbpostComplete
  dsimp only
  split
  · split
    · split
      · exact hs.postMailbox.popQueue
      · exact hs
    · exact hs
  · exact hs

theorem Canonical.execLarm (hs : Canonical s) : NextCanonical (execLarm t x s) := by
  unfold Machine.execLarm
  refine hs.issue (fun _ hk => ?_)
  dsimp only
  split
  · exact trivial
  · split
    · exact trivial
    · split
      · exact trivial
      · split
        · exact trivial
        · split
          · exact hk.ownerFault
          · exact hk.keep.each _ (fun _ _ ht => ht.losePart) _

theorem Canonical.execLemit (hs : Canonical s) : NextCanonical (execLemit t x s) := by
  unfold Machine.execLemit
  exact hs.issue (fun _ hk => issueCanonical_ite trivial (issueCanonical_ite trivial (issueCanonical_access
    (fun _ _ => hk.keep))))

theorem Canonical.execLemitComplete (hs : Canonical s) : NextCanonical (execLemitComplete t s) := by
  unfold Machine.execLemitComplete
  split
  · dsimp only
    split
    · exact hs
    · exact hs.popQueue
  · exact hs

theorem Canonical.execLawait (hs : Canonical s) : NextCanonical (execLawait t x s) := by
  unfold Machine.execLawait
  refine hs.issue (fun _ hk => ?_)
  dsimp only
  split
  · exact trivial
  · split
    · exact trivial
    · split
      · exact hk.keep
      · exact hk.keep

theorem Canonical.execLawaitComplete (hs : Canonical s) : NextCanonical (execLawaitComplete t s) := by
  unfold Machine.execLawaitComplete
  split
  · exact hs
  · split
    · exact canonical_ite hs.popQueue hs
    · exact hs

end TileLine

section TileMesh

/-! ### The functions of TileMesh -/

variable {s : State} {t : Tile} {x : TileWord}

theorem Canonical.execMload (hs : Canonical s) : NextCanonical (execMload t x s) := by
  unfold Machine.execMload
  exact hs.issue (fun _ hk => issueCanonical_ite trivial (issueCanonical_ite trivial (issueCanonical_access
    (fun _ _ => hk.keep))))

theorem Canonical.meshBusy {t m : Nat} (hs : Canonical s) : Canonical (s.meshBusy t m) := hs.bump _ _ _

theorem Canonical.execMma (hs : Canonical s) : NextCanonical (execMma t x s) := by
  unfold Machine.execMma
  refine hs.issue (fun _ hk => ?_)
  dsimp only
  split
  · exact trivial
  · split
    · exact trivial
    · split
      · exact trivial
      · split
        · exact trivial
        · exact issueCanonical_access (fun _ _ => hk.keep.meshBusy.bump _ _ _)

theorem Canonical.execMdrain (hs : Canonical s) : NextCanonical (execMdrain t x s) := by
  unfold Machine.execMdrain
  exact hs.issue (fun _ hk => issueCanonical_ite trivial (issueCanonical_ite trivial (issueCanonical_ite trivial
    (issueCanonical_ite trivial (issueCanonical_access (fun _ _ => hk.keep.bump _ _ _))))))

end TileMesh

section TileScalar

/-! ### The functions of TileScalar -/

variable {s : State} {t : Tile} {x : TileWord}

theorem Canonical.execAdd (hs : Canonical s) : NextCanonical (execAdd t x s) := hs.issue (fun _ hk => hk.keep)

theorem Canonical.execSub (hs : Canonical s) : NextCanonical (execSub t x s) := hs.issue (fun _ hk => hk.keep)

theorem Canonical.execMul (hs : Canonical s) : NextCanonical (execMul t x s) := hs.issue (fun _ hk => hk.keep)

theorem Canonical.execMulhu (hs : Canonical s) : NextCanonical (execMulhu t x s) := hs.issue (fun _ hk => hk.keep)

theorem Canonical.execAnd (hs : Canonical s) : NextCanonical (execAnd t x s) := hs.issue (fun _ hk => hk.keep)

theorem Canonical.execOr (hs : Canonical s) : NextCanonical (execOr t x s) := hs.issue (fun _ hk => hk.keep)

theorem Canonical.execXor (hs : Canonical s) : NextCanonical (execXor t x s) := hs.issue (fun _ hk => hk.keep)

theorem Canonical.execShl (hs : Canonical s) : NextCanonical (execShl t x s) := hs.issue (fun _ hk => hk.keep)

theorem Canonical.execShr (hs : Canonical s) : NextCanonical (execShr t x s) := hs.issue (fun _ hk => hk.keep)

theorem Canonical.execSra (hs : Canonical s) : NextCanonical (execSra t x s) := hs.issue (fun _ hk => hk.keep)

theorem Canonical.execSltu (hs : Canonical s) : NextCanonical (execSltu t x s) := hs.issue (fun _ hk => hk.keep)

theorem Canonical.execSlt (hs : Canonical s) : NextCanonical (execSlt t x s) := hs.issue (fun _ hk => hk.keep)

theorem Canonical.execSeq (hs : Canonical s) : NextCanonical (execSeq t x s) := hs.issue (fun _ hk => hk.keep)

theorem Canonical.execLih (hs : Canonical s) : NextCanonical (execLih t x s) := hs.issue (fun _ hk => hk.keep)

theorem Canonical.execAmov (hs : Canonical s) : NextCanonical (execAmov t x s) := hs.issue (fun _ hk => hk.keep)

theorem Canonical.execAadd (hs : Canonical s) : NextCanonical (execAadd t x s) := hs.issue (fun _ hk => hk.keep)

theorem Canonical.execSmova (hs : Canonical s) : NextCanonical (execSmova t x s) := hs.issue (fun _ hk => hk.keep)

theorem Canonical.execSld (hs : Canonical s) : NextCanonical (execSld t x s) := by
  unfold Machine.execSld
  refine hs.issue (fun _ hk => ?_)
  dsimp only
  split
  · trivial
  · exact issueCanonical_access (fun _ _ => hk.keep)

theorem Canonical.execSst (hs : Canonical s) : NextCanonical (execSst t x s) := by
  unfold Machine.execSst
  refine hs.issue (fun _ hk => ?_)
  dsimp only
  split
  · trivial
  · exact issueCanonical_access (fun _ _ => hk.keep)

theorem Canonical.execCtx (hs : Canonical s) : NextCanonical (execCtx t x s) := by
  unfold Machine.execCtx
  refine hs.issue (fun _ hk => ?_)
  split
  · trivial
  · trivial
  · exact hk.keep

theorem Canonical.execFadd (hs : Canonical s) : NextCanonical (execFadd t x s) := hs.issue (fun _ hk => hk.keep)

theorem Canonical.execFmul (hs : Canonical s) : NextCanonical (execFmul t x s) := hs.issue (fun _ hk => hk.keep)

theorem Canonical.execFrsq (hs : Canonical s) : NextCanonical (execFrsq t x s) := hs.issue (fun _ hk => hk.keep)

theorem Canonical.execFrcp (hs : Canonical s) : NextCanonical (execFrcp t x s) := hs.issue (fun _ hk => hk.keep)

theorem Canonical.execFcvti (hs : Canonical s) : NextCanonical (execFcvti t x s) := hs.issue (fun _ hk => hk.keep)

end TileScalar

section TileVector

/-! ### The functions of TileVector -/

variable {s : State} {t : Tile} {x : TileWord}

theorem Canonical.execVadd (hs : Canonical s) : NextCanonical (execVadd t x s) := hs.issue (fun _ hk => hk.keep)

theorem Canonical.execVsub (hs : Canonical s) : NextCanonical (execVsub t x s) := hs.issue (fun _ hk => hk.keep)

theorem Canonical.execVmul (hs : Canonical s) : NextCanonical (execVmul t x s) := hs.issue (fun _ hk => hk.keep)

theorem Canonical.execVfma (hs : Canonical s) : NextCanonical (execVfma t x s) := hs.issue (fun _ hk => hk.keep)

theorem Canonical.execVmax (hs : Canonical s) : NextCanonical (execVmax t x s) := hs.issue (fun _ hk => hk.keep)

theorem Canonical.execVmin (hs : Canonical s) : NextCanonical (execVmin t x s) := hs.issue (fun _ hk => hk.keep)

theorem Canonical.execVabs (hs : Canonical s) : NextCanonical (execVabs t x s) := hs.issue (fun _ hk => hk.keep)

theorem Canonical.execVneg (hs : Canonical s) : NextCanonical (execVneg t x s) := hs.issue (fun _ hk => hk.keep)

theorem Canonical.execVscl (hs : Canonical s) : NextCanonical (execVscl t x s) := hs.issue (fun _ hk => hk.keep)

theorem Canonical.execVcmplt (hs : Canonical s) : NextCanonical (execVcmplt t x s) := hs.issue (fun _ hk => hk.keep)

theorem Canonical.execVsel (hs : Canonical s) : NextCanonical (execVsel t x s) := hs.issue (fun _ hk => hk.keep)

theorem Canonical.execVbcast (hs : Canonical s) : NextCanonical (execVbcast t x s) := hs.issue (fun _ hk => hk.keep)

theorem Canonical.execViota (hs : Canonical s) : NextCanonical (execViota t x s) := hs.issue (fun _ hk => hk.keep)

theorem Canonical.execViadd (hs : Canonical s) : NextCanonical (execViadd t x s) := hs.issue (fun _ hk => hk.keep)

theorem Canonical.execVisub (hs : Canonical s) : NextCanonical (execVisub t x s) := hs.issue (fun _ hk => hk.keep)

theorem Canonical.execVand (hs : Canonical s) : NextCanonical (execVand t x s) := hs.issue (fun _ hk => hk.keep)

theorem Canonical.execVor (hs : Canonical s) : NextCanonical (execVor t x s) := hs.issue (fun _ hk => hk.keep)

theorem Canonical.execVxor (hs : Canonical s) : NextCanonical (execVxor t x s) := hs.issue (fun _ hk => hk.keep)

theorem Canonical.execVshl (hs : Canonical s) : NextCanonical (execVshl t x s) := hs.issue (fun _ hk => hk.keep)

theorem Canonical.execVshr (hs : Canonical s) : NextCanonical (execVshr t x s) := hs.issue (fun _ hk => hk.keep)

theorem Canonical.execVext (hs : Canonical s) : NextCanonical (execVext t x s) := hs.issue (fun _ hk => hk.keep)

theorem Canonical.execVrsum (hs : Canonical s) : NextCanonical (execVrsum t x s) := hs.issue (fun _ hk => hk.keep)

theorem Canonical.execVrmax (hs : Canonical s) : NextCanonical (execVrmax t x s) := hs.issue (fun _ hk => hk.keep)

theorem Canonical.execVdot (hs : Canonical s) : NextCanonical (execVdot t x s) := hs.issue (fun _ hk => hk.keep)

theorem Canonical.execVcvti (hs : Canonical s) : NextCanonical (execVcvti t x s) := hs.issue (fun _ hk => hk.keep)

theorem Canonical.execVcvtf (hs : Canonical s) : NextCanonical (execVcvtf t x s) := hs.issue (fun _ hk => hk.keep)

theorem Canonical.execVrsqrt (hs : Canonical s) : NextCanonical (execVrsqrt t x s) := hs.issue (fun _ hk => hk.keep)

theorem Canonical.execVrcp (hs : Canonical s) : NextCanonical (execVrcp t x s) := hs.issue (fun _ hk => hk.keep)

theorem Canonical.execVnscoef (hs : Canonical s) : NextCanonical (execVnscoef t x s) := hs.issue (fun _ hk => hk.keep)

theorem Canonical.execVnscomb (hs : Canonical s) : NextCanonical (execVnscomb t x s) := hs.issue (fun _ hk => hk.keep)

theorem Canonical.execVsumsq (hs : Canonical s) : NextCanonical (execVsumsq t x s) := hs.issue (fun _ hk => hk.keep)

theorem Canonical.execVruni (hs : Canonical s) : NextCanonical (execVruni t x s) := hs.issue (fun _ hk => hk.keep)

theorem Canonical.execVrsgn (hs : Canonical s) : NextCanonical (execVrsgn t x s) := hs.issue (fun _ hk => hk.keep)

theorem Canonical.execVld (hs : Canonical s) : NextCanonical (execVld t x s) := by
  unfold Machine.execVld
  refine hs.issue (fun _ hk => ?_)
  split
  · trivial
  · exact issueCanonical_access (fun _ _ => hk.keep)

theorem Canonical.runningNoteNan {k : Running} {n : Nat} (hs : Canonical s) : Canonical (Running.noteNan k n s) :=
  hs.bump _ _ _

theorem Canonical.execVst (hs : Canonical s) : NextCanonical (execVst t x s) := by
  unfold Machine.execVst
  refine hs.issue (fun _ hk => ?_)
  split
  · trivial
  · exact issueCanonical_access (fun _ _ => hk.keep.runningNoteNan)

theorem Canonical.execVldc (hs : Canonical s) : NextCanonical (execVldc t x s) := by
  unfold Machine.execVldc
  refine hs.issue (fun _ hk => ?_)
  split
  · trivial
  · dsimp only
    split
    · trivial
    · exact issueCanonical_access (fun _ _ => hk.keep)

theorem Canonical.execVstc (hs : Canonical s) : NextCanonical (execVstc t x s) := by
  unfold Machine.execVstc
  refine hs.issue (fun _ hk => ?_)
  split
  · trivial
  · dsimp only
    split
    · trivial
    · exact issueCanonical_access (fun _ _ => hk.keep.runningNoteNan.bump _ _ _)

theorem Canonical.execVqmx (hs : Canonical s) : NextCanonical (execVqmx t x s) := by
  unfold Machine.execVqmx
  refine hs.issue (fun _ hk => ?_)
  dsimp only
  split
  · trivial
  · exact issueCanonical_access (fun _ _ => hk.keep.runningNoteNan.bump _ _ _)

theorem Canonical.execVdqmx (hs : Canonical s) : NextCanonical (execVdqmx t x s) := by
  unfold Machine.execVdqmx
  refine hs.issue (fun _ hk => ?_)
  dsimp only
  split
  · trivial
  · exact issueCanonical_access (fun _ _ => hk.keep)

theorem Canonical.execVphilox (hs : Canonical s) : NextCanonical (execVphilox t x s) := by
  unfold Machine.execVphilox
  refine hs.issue (fun _ hk => ?_)
  split
  · trivial
  · exact hk.keep

end TileVector

section Triggers

/-! ### The functions of Triggers -/

variable {s : State}

theorem Canonical.execStepBoundary {h : Hoop} (hs : Canonical s) : NextCanonical (execStepBoundary h s) := by
  unfold Machine.execStepBoundary
  dsimp only
  split
  · exact hs
  · split
    · exact hs
    · exact canonical_getD (fun _ e => hs.bump _ _ _ |>.setNum _ _ |>.writeTarget e) (hs.bump _ _ _ |>.setNum _ _)

end Triggers

section Dispatch

/-! ### The functions of Dispatch -/

variable {s : State}

theorem Canonical.exec {s : State} (hs : Canonical s) (i : Instr) : NextCanonical (exec i s) := by
  cases i with
  | configure => exact hs.execConfigure
  | admitJob => exact hs.execAdmit
  | start => exact hs.execStart
  | drain => exact hs.execDrain
  | evacuate => exact hs.execEvacuate
  | unbind => exact hs.execUnbind
  | release => exact hs.execRelease
  | hoopReservationWrite => exact hs.execHoopReservationWrite
  | evacuationTargetWrite => exact hs.execEvacuationTargetWrite
  | evacuationComplete => exact hs.execEvacuationComplete
  | evacuationTimeout => exact hs.execEvacuationTimeout
  | evacuationReceived => exact hs.execEvacuationReceived
  | evacuationStatusReceived => exact hs.execEvacuationStatusReceived
  | groupCreate => exact hs.execGroupCreate
  | groupReform => exact hs.execGroupReform
  | groupDelete => exact hs.execGroupDelete
  | queueDoorbell => exact hs.execQueueDoorbell
  | hostSubmit => exact hs.execHostSubmit
  | contextGranted => exact hs.execContextGranted
  | operationRun => exact hs.execOperationRun
  | chunkDone => exact hs.execChunkDone
  | resupplyLanded => exact hs.execResupplyLanded
  | resupplyTimeout => exact hs.execResupplyTimeout
  | memberLost => exact hs.execMemberLost
  | smallContributionReceived => exact hs.execSmallContributionReceived
  | reproDigestReceived => exact hs.execReproDigestReceived
  | tileSensorSample => exact hs.execTileSensorSample
  | tileReturnHoldExpiry => exact hs.execTileReturnHoldExpiry
  | chunkBind => exact hs.execChunkBind
  | chunkStart => exact hs.execChunkStart
  | tileFault => exact hs.execTileFault
  | sequencerHangTimeout => exact hs.execSequencerHangTimeout
  | tileTest => exact hs.execTileTest
  | tileOutOfService => exact hs.execTileOutOfService
  | tileSelfTestDone => exact hs.execTileSelfTestDone
  | nop => exact hs.execNop
  | jmp => exact hs.execJmp
  | beqz => exact hs.execBeqz
  | bnez => exact hs.execBnez
  | jal => exact hs.execJal
  | jr => exact hs.execJr
  | loopS => exact hs.execLoop
  | fence => exact hs.execFence
  | cdone => exact hs.execCdone
  | trap => exact hs.execTrap
  | addS => exact hs.execAdd
  | subS => exact hs.execSub
  | mulS => exact hs.execMul
  | mulhu => exact hs.execMulhu
  | andS => exact hs.execAnd
  | orS => exact hs.execOr
  | xorS => exact hs.execXor
  | shl => exact hs.execShl
  | shr => exact hs.execShr
  | sra => exact hs.execSra
  | sltu => exact hs.execSltu
  | slt => exact hs.execSlt
  | seq => exact hs.execSeq
  | lih => exact hs.execLih
  | amov => exact hs.execAmov
  | aadd => exact hs.execAadd
  | smova => exact hs.execSmova
  | sld => exact hs.execSld
  | sst => exact hs.execSst
  | ctx => exact hs.execCtx
  | fadd => exact hs.execFadd
  | fmul => exact hs.execFmul
  | frsq => exact hs.execFrsq
  | frcp => exact hs.execFrcp
  | fcvti => exact hs.execFcvti
  | dld => exact hs.execDld
  | dst => exact hs.execDst
  | dgath => exact hs.execDgath
  | dout => exact hs.execDout
  | dxfer => exact hs.execDxfer
  | dxwait => exact hs.execDxwait
  | dclaim => exact hs.execDclaim
  | drel => exact hs.execDrel
  | dmaTransferComplete => exact hs.execDmaTransferComplete
  | dclaimComplete => exact hs.execDclaimComplete
  | dxwaitComplete => exact hs.execDxwaitComplete
  | mload => exact hs.execMload
  | mma => exact hs.execMma
  | mdrain => exact hs.execMdrain
  | vld => exact hs.execVld
  | vst => exact hs.execVst
  | vadd => exact hs.execVadd
  | vsub => exact hs.execVsub
  | vmul => exact hs.execVmul
  | vfma => exact hs.execVfma
  | vmax => exact hs.execVmax
  | vmin => exact hs.execVmin
  | vabs => exact hs.execVabs
  | vneg => exact hs.execVneg
  | vscl => exact hs.execVscl
  | vcmplt => exact hs.execVcmplt
  | vsel => exact hs.execVsel
  | vbcast => exact hs.execVbcast
  | viota => exact hs.execViota
  | viadd => exact hs.execViadd
  | visub => exact hs.execVisub
  | vand => exact hs.execVand
  | vor => exact hs.execVor
  | vxor => exact hs.execVxor
  | vshl => exact hs.execVshl
  | vshr => exact hs.execVshr
  | vext => exact hs.execVext
  | vrsum => exact hs.execVrsum
  | vrmax => exact hs.execVrmax
  | vdot => exact hs.execVdot
  | vldc => exact hs.execVldc
  | vstc => exact hs.execVstc
  | vqmx => exact hs.execVqmx
  | vdqmx => exact hs.execVdqmx
  | vcvti => exact hs.execVcvti
  | vcvtf => exact hs.execVcvtf
  | vrsqrt => exact hs.execVrsqrt
  | vrcp => exact hs.execVrcp
  | vnscoef => exact hs.execVnscoef
  | vnscomb => exact hs.execVnscomb
  | vsumsq => exact hs.execVsumsq
  | vphilox => exact hs.execVphilox
  | vruni => exact hs.execVruni
  | vrsgn => exact hs.execVrsgn
  | swait => exact hs.execSwait
  | ssig => exact hs.execSsig
  | swaitRelease => exact hs.execSwaitRelease
  | mbpost => exact hs.execMbpost
  | mbpostComplete => exact hs.execMbpostComplete
  | larm => exact hs.execLarm
  | lemit => exact hs.execLemit
  | lemitComplete => exact hs.execLemitComplete
  | lawait => exact hs.execLawait
  | lawaitComplete => exact hs.execLawaitComplete
  | fenceComplete => exact hs.execFenceComplete
  | deadlockTimeout => exact hs.execDeadlockTimeout
  | imageStageWrite => exact hs.execImageStageWrite
  | imageLoad => exact hs.execImageLoad
  | imageLoadPending => exact hs.execImageLoadPending
  | imageCancelPending => exact hs.execImageCancelPending
  | imageClear => exact hs.execImageClear
  | imageCommandComplete => exact hs.execImageCommandComplete
  | planLoad => exact hs.execPlanLoad
  | planUnload => exact hs.execPlanUnload
  | planCommandComplete => exact hs.execPlanCommandComplete
  | pendingImageActivation => exact hs.execPendingImageActivation
  | scrubCodewordRead => exact hs.execScrubCodewordRead
  | scrubPassComplete => exact hs.execScrubPassComplete
  | scrubPeriodExpiry => exact hs.execScrubPeriodExpiry
  | channelMapOut => exact hs.execChannelMapOut
  | channelRestore => exact hs.execChannelRestore
  | migrationComplete => exact hs.execMigrationComplete
  | poolAllocate => exact hs.execPoolAllocate
  | poolFree => exact hs.execPoolFree
  | poolWaitGranted => exact hs.execPoolWaitGranted
  | poolMinimumWrite => exact hs.execPoolMinimumWrite
  | macRetrain => exact hs.execMacRetrain
  | laneLockTimeout => exact hs.execLaneLockTimeout
  | portTrainingComplete => exact hs.execPortTrainingComplete
  | fabricLaneFail => exact hs.execFabricLaneFail
  | fabricLinkHoldExpiry => exact hs.execFabricLinkHoldExpiry
  | fabricFrameReceived => exact hs.execFabricFrameReceived
  | pfcFrameReceived => exact hs.execPfcFrameReceived
  | neighborSolicitationReceived => exact hs.execNeighborSolicitationReceived
  | neighborAdvertisementReceived => exact hs.execNeighborAdvertisementReceived
  | echoRequestReceived => exact hs.execEchoRequestReceived
  | rdmaWriteReceived => exact hs.execRdmaWriteReceived
  | rdmaReadRequestReceived => exact hs.execRdmaReadRequestReceived
  | unsupportedOpcodeReceived => exact hs.execUnsupportedOpcodeReceived
  | ackReceived => exact hs.execAckReceived
  | nakReceived => exact hs.execNakReceived
  | rnrNakReceived => exact hs.execRnrNakReceived
  | cnpReceived => exact hs.execCnpReceived
  | rateRecoveryTimer => exact hs.execRateRecoveryTimer
  | ackCoalesceTimer => exact hs.execAckCoalesceTimer
  | rdmaLocalAckTimeout => exact hs.execRdmaLocalAckTimeout
  | rnrTimerExpiry => exact hs.execRnrTimerExpiry
  | qpToInit => exact hs.execQpToInit
  | qpToRtr => exact hs.execQpToRtr
  | qpToRts => exact hs.execQpToRts
  | qpToReset => exact hs.execQpToReset
  | qpToError => exact hs.execQpToError
  | windowCreateLanding => exact hs.execWindowCreateLanding
  | windowCreateBuffer => exact hs.execWindowCreateBuffer
  | windowDelete => exact hs.execWindowDelete
  | windowConfigWrite => exact hs.execWindowConfigWrite
  | targetWrite => exact hs.execTargetWrite
  | frameTransmit => exact hs.execFrameTransmit
  | sarsiaFrameReceived => exact hs.execSarsiaFrameReceived
  | losDeclare => exact hs.execLosDeclare
  | losClear => exact hs.execLosClear
  | lofDeclare => exact hs.execLofDeclare
  | lofClear => exact hs.execLofClear
  | skewDeclare => exact hs.execSkewDeclare
  | skewClear => exact hs.execSkewClear
  | memberRejoin => exact hs.execMemberRejoin
  | stakeRestore => exact hs.execStakeRestore
  | waleCreate => exact hs.execWaleCreate
  | waleAddLane => exact hs.execWaleAddLane
  | waleRemoveLane => exact hs.execWaleRemoveLane
  | waleDelete => exact hs.execWaleDelete
  | repeatShareReturn => exact hs.execRepeatShareReturn
  | fecLock => exact hs.execFecLock
  | fecLockLoss => exact hs.execFecLockLoss
  | fecBerEvaluation => exact hs.execFecBerEvaluation
  | segmentReceived => exact hs.execSegmentReceived
  | sackReceived => exact hs.execSackReceived
  | periodicSack => exact hs.execPeriodicSack
  | requestedSack => exact hs.execRequestedSack
  | resendGuardScan => exact hs.execResendGuardScan
  | repeatSilenceExpiry => exact hs.execRepeatSilenceExpiry
  | repeatDarkHoldExpiry => exact hs.execRepeatDarkHoldExpiry
  | fixedVcSelect => exact hs.execFixedVcSelect
  | bulkStreamSelect => exact hs.execBulkStreamSelect
  | helloReceived => exact hs.execHelloReceived
  | replyReceived => exact hs.execReplyReceived
  | finishedReceived => exact hs.execFinishedReceived
  | sessionRetryTimer => exact hs.execSessionRetryTimer
  | sessionOpenReceived => exact hs.execSessionOpenReceived
  | sessionAcceptReceived => exact hs.execSessionAcceptReceived
  | sessionRefuseReceived => exact hs.execSessionRefuseReceived
  | sessionCloseReceived => exact hs.execSessionCloseReceived
  | lineSessionOpen => exact hs.execLineSessionOpen
  | lineSessionClose => exact hs.execLineSessionClose
  | lineRekeyTx => exact hs.execLineRekeyTx
  | rekeyIntervalExpiry => exact hs.execRekeyIntervalExpiry
  | rekeyOfferReceived => exact hs.execRekeyOfferReceived
  | rekeyAcceptReceived => exact hs.execRekeyAcceptReceived
  | rekeyRetireReceived => exact hs.execRekeyRetireReceived
  | lineHoopClearEnableAWrite => exact hs.execLineHoopClearEnableAWrite
  | lineHoopClearEnableBWrite => exact hs.execLineHoopClearEnableBWrite
  | dualRailDisagreement => exact hs.execDualRailDisagreement
  | pairSettingWrite => exact hs.execPairSettingWrite
  | lineLaneModeWrite => exact hs.execLineLaneModeWrite
  | lineLaneResolutionWrite => exact hs.execLineLaneResolutionWrite
  | lineLaneFrequencyWrite => exact hs.execLineLaneFrequencyWrite
  | laserTuningComplete => exact hs.execLaserTuningComplete
  | laserCommission => exact hs.execLaserCommission
  | laserRetire => exact hs.execLaserRetire
  | engineCommission => exact hs.execEngineCommission
  | laserCommissionComplete => exact hs.execLaserCommissionComplete
  | laserHealthSample => exact hs.execLaserHealthSample
  | spareLocked => exact hs.execSpareLocked
  | spareLockTimeout => exact hs.execSpareLockTimeout
  | ipSelect => exact hs.execIpSelect
  | ipClearTrip => exact hs.execIpClearTrip
  | aprEntry => exact hs.execAprEntry
  | eyeSafetyTrip => exact hs.execEyeSafetyTrip
  | connectorRemoved => exact hs.execConnectorRemoved
  | connectorInserted => exact hs.execConnectorInserted
  | queueSample => exact hs.execQueueSample
  | sampleClear => exact hs.execSampleClear
  | sampleFreeze => exact hs.execSampleFreeze
  | sampleRun => exact hs.execSampleRun
  | policerWrite => exact hs.execPolicerWrite
  | fabricAddressWrite => exact hs.execFabricAddressWrite
  | autoBond => exact hs.execAutoBond
  | fabricHelloReceived => exact hs.execFabricHelloReceived
  | linkStateReceived => exact hs.execLinkStateReceived
  | linkStateOriginate => exact hs.execLinkStateOriginate
  | linkStateExpiry => exact hs.execLinkStateExpiry
  | heartbeatSend => exact hs.execHeartbeatSend
  | heartbeatReceived => exact hs.execHeartbeatReceived
  | peerSuspect => exact hs.execPeerSuspect
  | addressConflictEnd => exact hs.execAddressConflictEnd
  | fenceRecordWrite => exact hs.execFenceRecordWrite
  | fenceNoticeReceived w => exact hs.execFenceNoticeReceived (w := w)
  | healthScoreUpdate => exact hs.execHealthScoreUpdate
  | expelProposalReceived => exact hs.execExpelProposalReceived
  | shadowStart => exact hs.execShadowStart
  | shadowStop => exact hs.execShadowStop
  | shadowDigestReceived w => exact hs.execShadowDigestReceived (w := w)
  | partitionHoldExpiry => exact hs.execPartitionHoldExpiry
  | sideDeclareReceived w => exact hs.execSideDeclareReceived (w := w)
  | mergeHoldExpiry => exact hs.execMergeHoldExpiry
  | mergeReceived w => exact hs.execMergeReceived (w := w)
  | reconciliationComplete => exact hs.execReconciliationComplete
  | tbSetTime => exact hs.execTbSetTime
  | tbIncrementWrite => exact hs.execTbIncrementWrite
  | ptpAnnounceReceived => exact hs.execPtpAnnounceReceived
  | ptpSyncReceived => exact hs.execPtpSyncReceived
  | ptpDelayResponseReceived => exact hs.execPtpDelayResponseReceived
  | timeSourceTimeout => exact hs.execTimeSourceTimeout
  | timeRevertHoldExpiry => exact hs.execTimeRevertHoldExpiry
  | timeSyncSend => exact hs.execTimeSyncSend
  | timeSyncReceived => exact hs.execTimeSyncReceived
  | ppsInEdge => exact hs.execPpsInEdge
  | ppsOutEdge => exact hs.execPpsOutEdge
  | stepBoundary => exact hs.execStepBoundary
  | xtalReady => exact hs.execXtalReady
  | sourceReady => exact hs.execSourceReady
  | clockFail => exact hs.execClockFail
  | domainSourceWrite => exact hs.execDomainSourceWrite
  | domainSwitchComplete => exact hs.execDomainSwitchComplete
  | domainRestart => exact hs.execDomainRestart
  | intoscTrimMeasure => exact hs.execIntoscTrimMeasure
  | clkoutWrite => exact hs.execClkoutWrite
  | autoGateIdle => exact hs.execAutoGateIdle
  | blockEnableComplete => exact hs.execBlockEnableComplete
  | domainVoteHostWrite => exact hs.execDomainVoteHostWrite
  | tileIdleHoldExpiry => exact hs.execTileIdleHoldExpiry
  | quiesceComplete => exact hs.execQuiesceComplete
  | retentionSaveComplete => exact hs.execRetentionSaveComplete
  | powerSwitchOpen => exact hs.execPowerSwitchOpen
  | wakeEvent => exact hs.execWakeEvent
  | wakeComplete => exact hs.execWakeComplete
  | powerGovernorStep => exact hs.execPowerGovernorStep
  | dieSensorSample => exact hs.execDieSensorSample
  | dictRead => exact hs.execDictRead
  | dictWrite => exact hs.execDictWrite
  | dictDescribe => exact hs.execDictDescribe
  | dictReadSnapshot => exact hs.execDictReadSnapshot
  | sigTokenWrite => exact hs.execSigTokenWrite
  | pdpHelloReceived => exact hs.execPdpHelloReceived
  | pdpConfirmReceived => exact hs.execPdpConfirmReceived
  | pdpRequestReceived => exact hs.execPdpRequestReceived
  | pdpSessionIdleTimeout => exact hs.execPdpSessionIdleTimeout
  | peerReadReceived => exact hs.execPeerReadReceived
  | peerWriteReceived => exact hs.execPeerWriteReceived
  | peerResponseReceived => exact hs.execPeerResponseReceived
  | mailboxPostRegisterWrite => exact hs.execMailboxPostRegisterWrite
  | mailboxPost => exact hs.execMailboxPost
  | mailboxTakeRegisterRead => exact hs.execMailboxTakeRegisterRead
  | mailboxTake => exact hs.execMailboxTake
  | mailboxTimeout => exact hs.execMailboxTimeout
  | snapInEdge => exact hs.execSnapInEdge
  | snapshotTrigger => exact hs.execSnapshotTrigger
  | snapshotArm => exact hs.execSnapshotArm
  | snapshotDisarm => exact hs.execSnapshotDisarm
  | snapshotUnlock => exact hs.execSnapshotUnlock
  | snapshotArmFire => exact hs.execSnapshotArmFire
  | persistCommitDelayExpiry => exact hs.execPersistCommitDelayExpiry
  | persistCommit => exact hs.execPersistCommit
  | persistCommitComplete => exact hs.execPersistCommitComplete
  | pcieFlr => exact hs.execPcieFlr
  | perstLAssert => exact hs.execPerstLAssert
  | ownershipTransfer => exact hs.execOwnershipTransfer
  | firmwareStageWrite => exact hs.execFirmwareStageWrite
  | firmwareInstall => exact hs.execFirmwareInstall
  | firmwareInstallComplete => exact hs.execFirmwareInstallComplete
  | rollbackFloorWrite => exact hs.execRollbackFloorWrite
  | attestNonceWrite => exact hs.execAttestNonceWrite
  | hoopAttestNonceWrite => exact hs.execHoopAttestNonceWrite
  | quoteComplete => exact hs.execQuoteComplete
  | meterLinkFrame => exact hs.execMeterLinkFrame
  | meterAdcSample => exact hs.execMeterAdcSample
  | meterEnergySplit => exact hs.execMeterEnergySplit
  | meterRecord => exact hs.execMeterRecord
  | meterPowerFailRecord => exact hs.execMeterPowerFailRecord
  | meterStageWrite => exact hs.execMeterStageWrite
  | meterInstall => exact hs.execMeterInstall
  | dieLinkFlitError => exact hs.execDieLinkFlitError
  | eventAck => exact hs.execEventAck
  | inputFault => exact hs.execInputFault
  | powerOn => exact hs.execPowerOn
  | startupStageComplete => exact hs.execStartupStageComplete
  | regulatorPowerGood => exact hs.execRegulatorPowerGood
  | regulatorTimeout => exact hs.execRegulatorTimeout
  | xtalReadyTimeout => exact hs.execXtalReadyTimeout
  | mainInputAppear => exact hs.execMainInputAppear
  | mainInputLoss => exact hs.execMainInputLoss
  | resetLAssert => exact hs.execResetLAssert
  | resetCold => exact hs.execResetCold
  | resetWarm => exact hs.execResetWarm
  | resetHub => exact hs.execResetHub
  | resetDie => exact hs.execResetDie
  | resetHoop => exact hs.execResetHoop
  | levelChangeComplete => exact hs.execLevelChangeComplete
  | sourceNotReady => exact hs.execSourceNotReady
  | pciePowerStateWrite => exact hs.execPciePowerStateWrite
  | mgtLinkStateChange => exact hs.execMgtLinkStateChange
  | meterRestartComplete => exact hs.execMeterRestartComplete
  | resetComplete => exact hs.execResetComplete
  | pfcPauseExpiry => exact hs.execPfcPauseExpiry
  | standbyInputChange => exact hs.execStandbyInputChange

end Dispatch

section Step

/-! ### The functions of Step -/

variable {s : State}

theorem Canonical.step (hs : Canonical s) : NextCanonical (step s) := by
  unfold Machine.step
  split
  · exact hs.timeTick
  · exact hs.keep.exec _

end Step

/-! ### The obligations -/

/-- Settles O6: the canonical form is an invariant, as every command of `exec` keeps it (`Canonical.exec`) and so does the tick of
an empty queue. -/
theorem everyStepKeepsCanonicalForm : Obligations.EveryStepKeepsCanonicalForm := by
  intro s t hs e
  have ht : NextCanonical (Machine.step s) := hs.step
  rw [e] at ht
  exact ht

/-- Settles O4: the reset state's store and memory are empty maps, and its queue is the empty
list, so each part is true of it by the definition of `State.reset`. -/
theorem resetIsCanonical : Obligations.ResetIsCanonical :=
  ⟨⟨rfl, rfl⟩, rfl, fun _ => rfl⟩

end Sys2Proof

namespace Sys2Proof

open Sys2Proof.Machine

/-! ## The optics: ends, tuning, selectors and eye safety (R291–R295, R304, R305, R310)

What brings lanes in line with their ends writes objects that follow from those ends. `BroughtInLine` says so once for each
function of the model that does; a command's proof then reads its own objects through it. -/

/-! ### Keys of objects -/

/-- Two tables of objects, each as first index, sub and number of units, have units on the key's 24 bits and no key in common. -/
abbrev TablesApart (x y : Nat × Nat × Nat) : Prop :=
  (0 < x.2.2 ∧ x.1 + x.2.2 ≤ 2 ^ 16 ∧ x.2.1 < 256) ∧ (0 < y.2.2 ∧ y.1 + y.2.2 ≤ 2 ^ 16 ∧ y.2.1 < 256) ∧
    (x.2.1 ≠ y.2.1 ∨ x.1 + x.2.2 ≤ y.1 ∨ y.1 + y.2.2 ≤ x.1)

theorem linearUnit_ne {b u n b' u' n' i j : Nat} (h : TablesApart (b, u, n) (b', u', n')) :
    linearUnit b u n i ≠ linearUnit b' u' n' j := by
  dsimp only [TablesApart] at h
  unfold linearUnit linearKey noUnit
  split <;> split <;> omega

/-- The mark of P writes is the one unit of its table. -/
theorem ne_persistPending {b u n i : Nat} (h : TablesApart (b, u, n) (0x1200, 0x02, 1)) : linearUnit b u n i ≠ Obj.persistPending :=
  linearUnit_ne (j := 0) h

/-! ### Requests -/

/-- The engine's bookkeeping before a request's effect writes the control plane and the clocks of the blocks that serve it. -/
theorem Machine.State.served_only (s : State) (rq : Requester) (k : Nat) : ∃ c p, s.served rq k = { s with control := c, power := p } := by
  unfold State.served State.dropLatch State.touch
  split <;> exact ⟨_, _, rfl⟩

/-- `t` is `u` but for the control plane, the line's queues and outward signals, which an answer writes. -/
def AnsweredFrom (u t : State) : Prop := ∃ c l o, t = { u with control := c, line := l, out := o }

/-- An accepted request leaves its effect's state, answered with its effect's status (R404). -/
theorem Completes.of_request {c : Instr} {s u : State} {rq : Requester} {k st : Nat} {v : Val} {e : Effect} {post : State → Prop}
    (hc : exec c s = .next (s.request rq k v none e)) (ha : Accepts s rq k v none) (he : e (s.served rq k) = (u, st))
    (hp : ∀ t, AnsweredFrom u t → Answered rq st t → post t) : Completes c s post := by
  refine ⟨_, hc, ?_⟩
  rw [State.request_eq e ha, he]
  refine hp _ ?_ (State.answered ..)
  obtain ⟨c, l, o, h⟩ := (u.noteH (s.served rq k)).answer_only rq st 0 0 []
  rw [h]
  unfold State.noteH
  split <;> exact ⟨_, _, _, rfl⟩

theorem AnsweredFrom.num {u t : State} (h : AnsweredFrom u t) (j : Nat) : t.num j = u.num j := by
  obtain ⟨_, _, _, rfl⟩ := h
  rfl

theorem AnsweredFrom.mem {u t : State} (h : AnsweredFrom u t) : t.mem = u.mem := by
  obtain ⟨_, _, _, rfl⟩ := h
  rfl

theorem AnsweredFrom.optics {u t : State} (h : AnsweredFrom u t) : t.optics = u.optics := by
  obtain ⟨_, _, _, rfl⟩ := h
  rfl

theorem AnsweredFrom.optic {u t : State} (h : AnsweredFrom u t) (k : Nat) : t.optic k = u.optic k := by
  rw [State.optic, h.optics, State.optic]

/-- What only writes objects before its answer leaves everything else to the bookkeeping of the request. -/
theorem AnsweredFrom.onlyObjects {keys : List Nat} {s u t : State} (h : AnsweredFrom u t) (hu : OnlyObjects keys s u) :
    OnlyObjects keys s t := by
  obtain ⟨_, _, _, rfl⟩ := h
  exact hu

theorem OnlyObjects.served (s : State) (rq : Requester) (k : Nat) (keys : List Nat) : OnlyObjects keys s (s.served rq k) := by
  obtain ⟨c, p, h⟩ := s.served_only rq k
  rw [h]
  exact ⟨fun _ _ => rfl, rfl, rfl, rfl, rfl, rfl, rfl, rfl, rfl, rfl, rfl, rfl, rfl, rfl, rfl, rfl⟩

theorem OnlyObjects.setNum {keys : List Nat} {s t : State} {k : Nat} (h : OnlyObjects keys s t) (hk : k ∈ keys) (n : Nat) :
    OnlyObjects keys s (t.setNum k n) := by
  obtain ⟨hobj, hrest⟩ := h
  refine ⟨fun j hj => ?_, hrest⟩
  rw [State.obj_setNum_other t n fun (e : j = k) => hj (e ▸ hk)]
  exact hobj j hj

theorem OnlyObjects.setPNum {keys : List Nat} {s t : State} {k : Nat} (h : OnlyObjects keys s t) (hk : k ∈ keys)
    (hp : Obj.persistPending ∈ keys) (n : Nat) : OnlyObjects keys s (t.setPNum k n) := by
  have h1 := h.setNum hk n
  unfold State.setPNum State.setP State.markWrite
  split
  · exact h1.setNum hp _
  · exact h1
  · exact h1

theorem OnlyObjects.setLane {keys : List Nat} {s t : State} (h : OnlyObjects keys s t) (k : Nat) (x : LaneState) :
    OnlyObjects keys s (t.setLane k x) := h

/-- A request refused by its effect is answered, and changes no object (R404). -/
theorem Completes.of_refused {c : Instr} {s : State} {rq : Requester} {k st : Nat} {v : Val} {e : Effect}
    (hc : exec c s = .next (s.request rq k v none e)) (ha : Accepts s rq k v none)
    (he : e (s.served rq k) = refuse st (s.served rq k)) : Completes c s fun t => Answered rq st t ∧ OnlyObjects [] s t :=
  .of_request hc ha he fun _ ht hst => ⟨hst, ht.onlyObjects (.served ..)⟩

/-- A command that reports writes its status object beside its effect, and is answered ST_OK (R404). -/
theorem reported_eq {key st : Nat} {f : State → State × Nat} {s u : State} (h : f s = (u, st)) :
    reported key f s = (u.setNum key st, St.ok) := by
  rw [reported, h]

/-- A command that reports a refusal writes its status object only, and is answered ST_OK (R404). -/
theorem Completes.of_reported_refused {c : Instr} {s : State} {rq : Requester} {k key st : Nat} {v : Val} {f : State → State × Nat}
    (hc : exec c s = .next (s.request rq k v none (reported key f))) (ha : Accepts s rq k v none)
    (hf : f (s.served rq k) = refuse st (s.served rq k)) :
    Completes c s fun t => t.num key = st ∧ Answered rq St.ok t ∧ OnlyObjects [key] s t := by
  refine .of_request hc ha (reported_eq hf) fun t ht hst => ⟨?_, hst, ht.onlyObjects ((OnlyObjects.served ..).setNum (by simp) _)⟩
  rw [ht.num, State.num_setNum_same]

/-! ### What a write of class P and an event leave of the optics -/

@[simp] theorem Machine.State.setPNum_mem (s : State) (k n : Nat) : (s.setPNum k n).mem = s.mem := by
  unfold State.setPNum State.setP State.markWrite
  split <;> rfl

@[simp] theorem Machine.State.setP_optics (s : State) (k : Nat) (v : Val) : (s.setP k v).optics = s.optics := by
  unfold State.setP State.markWrite
  split <;> rfl

theorem Machine.State.signalEvent_optics (s : State) (e : EventEntry) : (s.signalEvent e).optics = s.optics := by
  unfold State.signalEvent
  dsimp only
  split_ifs <;> simp

theorem Machine.State.logEvent_optics (s : State) (code : Nat) (a : EventArgs) : (s.logEvent code a).optics = s.optics := by
  unfold State.logEvent
  dsimp only
  split
  · rfl
  · rw [State.signalEvent_optics]
    unfold State.enterEvent
    dsimp only
    split <;> rfl

theorem Machine.State.beginCommit_optics (s : State) (rq : Option Requester) : (s.beginCommit rq).optics = s.optics := by
  unfold State.beginCommit
  split
  · rfl
  · split
    · rw [State.logEvent_optics]
      rfl
    · rfl

@[simp] theorem Machine.State.raise_optics (s : State) (code : Nat) (a : EventArgs) : (s.raise code a).optics = s.optics := by
  unfold State.raise
  dsimp only
  split
  · exact s.logEvent_optics code a
  · rw [State.beginCommit_optics, State.setP_optics, State.logEvent_optics]

/-! ### Writes of class P -/

theorem Machine.State.num_setPNum_same (s : State) {k : Nat} (n : Nat) (h : k ≠ Obj.persistPending) : (s.setPNum k n).num k = n := by
  simp [State.setPNum, State.num, State.obj_setP_same s k _ h, Val.toNat]

theorem Machine.State.num_setPNum_other (s : State) {k j : Nat} (n : Nat) (h : j ≠ k) (hp : j ≠ Obj.persistPending) :
    (s.setPNum k n).num j = s.num j := by
  simp [State.setPNum, State.num, State.obj_setP_other s _ h hp]

/-! ### Lanes brought in line with their ends -/

/-- The objects that follow from the ends of lanes and from the lasers that serve them: what shows the lanes, the engines, the domains
of their large blocks (R297, R310, R311, R386) and the spares (R300), and the mark of P writes. -/
inductive FollowsEnds : Nat → Prop
  | fecMode (n : Nat) : FollowsEnds (Obj.lineFecMode n)
  | mapFrames (n : Nat) : FollowsEnds (Obj.lineMapFrames n)
  | opticalState (n : Nat) : FollowsEnds (Obj.lineLaneOpticalState n)
  | engineState (n : Nat) : FollowsEnds (Obj.engineState n)
  | voteFirmware (n : Nat) : FollowsEnds (Obj.domainVoteFirmware n)
  | target (n : Nat) : FollowsEnds (Obj.domainTarget n)
  | ceiling (n : Nat) : FollowsEnds (Obj.domainCeiling n)
  | sleepState (n : Nat) : FollowsEnds (Obj.domainSleepState n)
  | entryAborts (n : Nat) : FollowsEnds (Obj.domainEntryAborts n)
  | laserState (n : Nat) : FollowsEnds (Obj.laserState n)
  | laserServes (n : Nat) : FollowsEnds (Obj.laserServes n)
  | sparesFree : FollowsEnds Obj.sparesFree
  | persistPending : FollowsEnds Obj.persistPending

/-- The tables of the objects that `FollowsEnds` names, in its order. -/
def followingTables : List (Nat × Nat × Nat) :=
  [(0x7060, 0x01, 32), (0x7060, 0x08, 32), (0x8040, 0x07, 32), (0x8100, 0x01, 16), (0xC400, 0x02, 100), (0xC400, 0x05, 100),
    (0xC400, 0x06, 100), (0xC400, 0x08, 100), (0xC400, 0x09, 100), (0x80C0, 0x01, 20), (0x80C0, 0x02, 20), (0x8000, 0x04, 1),
    (0x1200, 0x02, 1)]

theorem FollowsEnds.table {j : Nat} (h : FollowsEnds j) : ∃ x ∈ followingTables, ∃ n, j = linearUnit x.1 x.2.1 x.2.2 n := by
  cases h with
  | fecMode n => exact ⟨(0x7060, 0x01, 32), by decide, n, rfl⟩
  | mapFrames n => exact ⟨(0x7060, 0x08, 32), by decide, n, rfl⟩
  | opticalState n => exact ⟨(0x8040, 0x07, 32), by decide, n, rfl⟩
  | engineState n => exact ⟨(0x8100, 0x01, 16), by decide, n, rfl⟩
  | voteFirmware n => exact ⟨(0xC400, 0x02, 100), by decide, n, rfl⟩
  | target n => exact ⟨(0xC400, 0x05, 100), by decide, n, rfl⟩
  | ceiling n => exact ⟨(0xC400, 0x06, 100), by decide, n, rfl⟩
  | sleepState n => exact ⟨(0xC400, 0x08, 100), by decide, n, rfl⟩
  | entryAborts n => exact ⟨(0xC400, 0x09, 100), by decide, n, rfl⟩
  | laserState n => exact ⟨(0x80C0, 0x01, 20), by decide, n, rfl⟩
  | laserServes n => exact ⟨(0x80C0, 0x02, 20), by decide, n, rfl⟩
  | sparesFree => exact ⟨(0x8000, 0x04, 1), by decide, 0, rfl⟩
  | persistPending => exact ⟨(0x1200, 0x02, 1), by decide, 0, rfl⟩

/-- An object of a table apart from those does not follow from the ends. -/
theorem not_followsEnds {b u n i : Nat} (h : ∀ x ∈ followingTables, TablesApart (b, u, n) x) : ¬ FollowsEnds (linearUnit b u n i) := by
  intro hj
  obtain ⟨x, hx, m, e⟩ := hj.table
  exact linearUnit_ne (h x hx) e

/-- `t` is `s` with lanes brought in line: beside objects that follow from the ends, and the lasers and the framers of lanes, nothing that a
command of the optics sets has changed. -/
structure BroughtInLine (s t : State) : Prop where
  obj : ∀ j, ¬ FollowsEnds j → t.obj j = s.obj j
  mem : t.mem = s.mem
  lanes : t.optics.lanes = s.optics.lanes
  ports : t.optics.ports = s.optics.ports
  tripped : t.optics.tripped = s.optics.tripped

namespace BroughtInLine

protected theorem rfl {s : State} : BroughtInLine s s := ⟨fun _ _ => rfl, rfl, rfl, rfl, rfl⟩

variable {s t : State}

theorem num (h : BroughtInLine s t) {j : Nat} (hj : ¬ FollowsEnds j) : t.num j = s.num j := congrArg Val.toNat (h.obj j hj)

theorem optic (h : BroughtInLine s t) (k : Nat) : t.optic k = s.optic k := 
  congrArg (fun l => Map.get ({} : OpticLane) l k) h.lanes

theorem setNum (h : BroughtInLine s t) {k : Nat} (hk : FollowsEnds k) (n : Nat) : BroughtInLine s (t.setNum k n) :=
  ⟨fun j hj => (t.obj_setNum_other n fun (e : j = k) => hj (e ▸ hk)).trans (h.obj j hj), h.mem, h.lanes, h.ports, h.tripped⟩

theorem bump (h : BroughtInLine s t) {k : Nat} (hk : FollowsEnds k) (w n : Nat) : BroughtInLine s (t.bump w k n) := h.setNum hk _

/-- What writes neither an object nor memory nor what the optics hold of a lane's ends. -/
theorem keep (h : BroughtInLine s t) {u : State} (hd : u.dict = t.dict) (hm : u.mem = t.mem) (hl : u.optics.lanes = t.optics.lanes)
    (hp : u.optics.ports = t.optics.ports) (ht : u.optics.tripped = t.optics.tripped) : BroughtInLine s u := by
  refine ⟨fun j hj => ?_, hm.trans h.mem, hl.trans h.lanes, hp.trans h.ports, ht.trans h.tripped⟩
  rw [← h.obj j hj, State.obj, State.obj, hd]

theorem setPNum (h : BroughtInLine s t) {k : Nat} (hk : FollowsEnds k) (n : Nat) : BroughtInLine s (t.setPNum k n) := by
  have h1 := h.setNum hk n
  unfold State.setPNum State.setP State.markWrite
  split
  · exact (h1.bump .persistPending 32 1).keep rfl rfl rfl rfl rfl
  · exact h1.keep rfl rfl rfl rfl rfl
  · exact h1

theorem setLane (h : BroughtInLine s t) (k : Nat) (x : LaneState) : BroughtInLine s (t.setLane k x) :=
  h.keep rfl rfl rfl rfl rfl

theorem setLaser (h : BroughtInLine s t) (n : Nat) (x : LaserData) : BroughtInLine s (t.setLaser n x) :=
  h.keep rfl rfl rfl rfl rfl

theorem each {α : Type} (h : BroughtInLine s t) (l : List α) {f : State → α → State}
    (hf : ∀ u x, BroughtInLine s u → BroughtInLine s (f u x)) : BroughtInLine s (t.each l f) :=
  State.each_keeps _ f hf l t h

theorem branch {c : Prop} [Decidable c] {u v : State} (hu : BroughtInLine s u) (hv : BroughtInLine s v) :
    BroughtInLine s (if c then u else v) := by
  split
  · exact hu
  · exact hv

theorem noteFec (h : BroughtInLine s t) (k : Nat) : BroughtInLine s (t.noteFec k) := (h.setNum (.fecMode k) _).setNum (.mapFrames k) _

theorem settleLane (h : BroughtInLine s t) (k : Nat) : BroughtInLine s (t.settleLane k) :=
  ((branch (h.noteFec k) h).setLane k _).setNum (.opticalState k) _

theorem settlePair (h : BroughtInLine s t) (k : Nat) : BroughtInLine s (t.settlePair k) :=
  ((h.settleLane k).settleLane (k + 16)).setNum (.engineState k) _

theorem setSleep (h : BroughtInLine s t) (d x : Nat) : BroughtInLine s (t.setSleep d x) := h.setNum (.sleepState d) x

theorem abandonEntry (h : BroughtInLine s t) (d : Nat) : BroughtInLine s (t.abandonEntry d) :=
  (h.setSleep d 0).bump (.entryAborts d) 32 1

theorem wakeDomain (h : BroughtInLine s t) (d : Nat) : BroughtInLine s (t.wakeDomain d) := by
  unfold State.wakeDomain
  split
  · exact h.abandonEntry d
  · exact h.abandonEntry d
  · exact h.abandonEntry d
  · exact h.setSleep d 0
  · exact h.setSleep d 7
  · exact h.setSleep d 7
  · exact h

theorem settleDomain (h : BroughtInLine s t) (d : Nat) : BroughtInLine s (t.settleDomain d) := by
  unfold State.settleDomain
  extract_lets target t1
  have h1 : BroughtInLine s t1 := ((h.setNum (.voteFirmware d) _).setNum (.target d) _).setNum (.ceiling d) _
  have hw := h1.wakeDomain d
  have habort : BroughtInLine s ((t1.setSleep d 4).bump 32 (Obj.domainEntryAborts d) 1) := (h1.setSleep d 4).bump (.entryAborts d) 32 1
  split
  · exact h1
  · split
    · exact branch (h1.setSleep d 1) h1
    · exact branch hw h1
    · exact branch hw (branch habort h1)
    · exact branch hw h1
    · exact branch hw (branch (h1.setSleep d 2) (branch (h1.setSleep d 3) h1))
    · exact branch hw h1
    · exact branch hw h1
    · exact h1

theorem dropGated (h : BroughtInLine s t) : BroughtInLine s t.dropGated := h.keep rfl rfl rfl rfl rfl

theorem settleOptics (h : BroughtInLine s t) : BroughtInLine s t.settleOptics := by
  have h1 : BroughtInLine s (t.each (List.range 16) State.settlePair) := h.each _ fun _ k hu => hu.settlePair k
  exact h1.dropGated.each _ fun _ d hu => hu.settleDomain d

theorem beginSwap (h : BroughtInLine s t) (i spare : Nat) : BroughtInLine s (t.beginSwap i spare) :=
  (((h.setPNum (.laserState _) _).setPNum .sparesFree _).setPNum (.laserServes _) _).setLaser _ _

theorem assignSpares (h : BroughtInLine s t) : BroughtInLine s t.assignSpares := by
  unfold State.assignSpares
  refine h.each _ fun u i hu => ?_
  split
  · split
    · exact hu.beginSwap i _
    · exact hu
  · exact hu

end BroughtInLine

/-! ### Pair settings (R22, R294) -/

theorem Machine.State.pairStatus_served (s : State) (rq : Requester) (j k n : Nat) :
    (s.served rq j).pairStatus k n = s.pairStatus k n := by
  obtain ⟨c, p, h⟩ := s.served_only rq j
  rw [h]
  rfl

/-- Two lanes' ends are two objects. -/
theorem lineLaneEnd_ne {j k : Nat} (h : j ≠ k) : Obj.lineLaneEnd j ≠ Obj.lineLaneEnd k :=
  fun e => h ((linearUnit_inj (by decide)).1 e)

/-- Placing a pair, and giving the lasers that wait the spares it frees, puts its lanes on the ends that the setting gives and ends
their eviction; beside what follows from that, the other objects are as before. -/
theorem Machine.State.placePair_assignSpares {s t : State} {k : Nat} (ht : t = (s.placePair k).assignSpares) :
    let ends := pairEnds (s.num (Obj.pairSetting k)) (s.num (Obj.pairSingleEnd k))
    (t.num (Obj.lineLaneEnd k) = ends.1 ∧ t.num (Obj.lineLaneEnd (k + 16)) = ends.2) ∧
      ((t.optic k).evicted = false ∧ (t.optic (k + 16)).evicted = false) ∧ t.mem = s.mem ∧
      ∀ j, ¬ FollowsEnds j → j ≠ Obj.lineLaneEnd k → j ≠ Obj.lineLaneEnd (k + 16) → t.num j = s.num j := by
  have h : BroughtInLine _ t := ht ▸ BroughtInLine.rfl.settleOptics.assignSpares
  have hk : k ≠ k + 16 := by omega
  have hend (j : Nat) : ¬ FollowsEnds (Obj.lineLaneEnd j) := not_followsEnds (by decide)
  refine ⟨⟨?_, ?_⟩, ?_, h.mem, fun j hj h1 h2 => ?_⟩
  · rw [h.num (hend k)]
    simp [State.num_setNum_other _ _ (lineLaneEnd_ne hk)]
  · rw [h.num (hend _)]
    simp
  · rw [h.optic, h.optic, State.optic_setOptic_other _ _ hk]
    simp
  · rw [h.num hj]
    simp [State.num_setNum_other _ _ h1, State.num_setNum_other _ _ h2]

/-- The effect of a PairSetting that R294 allows. -/
theorem pairEffect_allowed {s : State} {k value : Nat} (h : s.pairStatus k value = St.ok) :
    let ends := pairEnds value (s.num (Obj.pairSingleEnd k))
    ∃ u, pairEffect k value s = (u, St.ok) ∧ u.num (Obj.pairCommandStatus k) = St.ok ∧ u.mem = s.mem ∧
      u.num (Obj.pairSetting k) = value ∧ u.num (Obj.lineLaneEnd k) = ends.1 ∧ u.num (Obj.lineLaneEnd (k + 16)) = ends.2 ∧
      (u.optic k).evicted = false ∧ (u.optic (k + 16)).evicted = false := by
  intro ends
  let v := (s.setNum (Obj.pairCommandStatus k) St.ok).setPNum (Obj.pairSetting k) value
  have hset : v.num (Obj.pairSetting k) = value := State.num_setPNum_same _ _ (ne_persistPending (by decide))
  have hother {j : Nat} (h1 : j ≠ Obj.pairSetting k) (hp : j ≠ Obj.persistPending) :
      v.num j = (s.setNum (Obj.pairCommandStatus k) St.ok).num j := State.num_setPNum_other _ _ h1 hp
  have hstat : v.num (Obj.pairCommandStatus k) = St.ok :=
    (hother (linearUnit_ne (by decide)) (ne_persistPending (by decide))).trans (State.num_setNum_same ..)
  have hsingle : v.num (Obj.pairSingleEnd k) = s.num (Obj.pairSingleEnd k) :=
    (hother (linearUnit_ne (by decide)) (ne_persistPending (by decide))).trans (State.num_setNum_other _ _ (linearUnit_ne (by decide)))
  obtain ⟨⟨hlow, hhigh⟩, hback, hmem, hkept⟩ := State.placePair_assignSpares (s := v) (k := k) rfl
  rw [hset, hsingle] at hlow hhigh
  refine ⟨_, by simp [pairEffect, h, v], ?_, by simp [hmem, v], ?_, hlow, hhigh, hback⟩
  · exact (hkept _ (not_followsEnds (by decide)) (linearUnit_ne (by decide)) (linearUnit_ne (by decide))).trans hstat
  · exact (hkept _ (not_followsEnds (by decide)) (linearUnit_ne (by decide)) (linearUnit_ne (by decide))).trans hset

/-- An accepted PairSetting (R294). -/
theorem pairSettingWrite_completes {rq : Requester} {k : Pair} {value : BitVec 8} {s : State}
    (ha : Accepts s rq (Obj.pairSetting k) (.num value.toNat) none) :
    let st := s.pairStatus k value.toNat
    let ends := pairEnds value.toNat (s.num (Obj.pairSingleEnd k))
    Completes (.pairSettingWrite rq k value) s fun t => t.num (Obj.pairCommandStatus k) = st ∧ Answered rq st t ∧ t.mem = s.mem ∧
      (st ≠ St.ok → OnlyObjects [Obj.pairCommandStatus k] s t) ∧
      (st = St.ok → t.num (Obj.pairSetting k) = value.toNat ∧ t.num (Obj.lineLaneEnd k) = ends.1 ∧
        t.num (Obj.lineLaneEnd (k + 16)) = ends.2 ∧ (t.optic k).evicted = false ∧ (t.optic (k + 16)).evicted = false) := by
  intro st ends
  have hx : exec (.pairSettingWrite rq k value) s =
      .next (s.request rq (Obj.pairSetting k) (.num value.toNat) none (pairEffect k value.toNat)) := rfl
  have hst (j : Nat) : (s.served rq j).pairStatus k value.toNat = st := s.pairStatus_served ..
  have hsingle : (s.served rq (Obj.pairSetting k)).num (Obj.pairSingleEnd k) = s.num (Obj.pairSingleEnd k) := State.served_num ..
  by_cases hok : st = St.ok
  · obtain ⟨u, he, hstat, hmem, hset, hlow, hhigh, hback⟩ := pairEffect_allowed ((hst _).trans hok)
    rw [hsingle] at hlow hhigh
    rw [hok]
    refine .of_request hx ha he fun t ht hans => ⟨?_, hans, ?_, fun h => absurd rfl h, fun _ => ⟨?_, ?_, ?_, ?_⟩⟩
    · rw [ht.num, hstat]
    · rw [ht.mem, hmem, State.served_mem]
    · rw [ht.num, hset]
    · rw [ht.num, hlow]
    · rw [ht.num, hhigh]
    · rw [ht.optic, ht.optic]
      exact hback
  · have he : pairEffect k value.toNat (s.served rq (Obj.pairSetting k)) =
        ((s.served rq (Obj.pairSetting k)).setNum (Obj.pairCommandStatus k) st, st) := by simp [pairEffect, hst, hok]
    refine .of_request hx ha he fun t ht hans => ⟨?_, hans, ?_, fun _ => ?_, fun h => absurd h hok⟩
    · rw [ht.num, State.num_setNum_same]
    · rw [ht.mem, State.setNum_mem, State.served_mem]
    · exact ht.onlyObjects ((OnlyObjects.served ..).setNum (by simp) _)

/-! ### Modes and resolutions (R291, R292) -/

theorem Machine.State.inWale_served (s : State) (rq : Requester) (j k : Nat) : (s.served rq j).inWale k = s.inWale k := by
  simp [State.inWale, State.waleOf]

theorem Machine.State.loseFec_num_other (s : State) (k : Nat) {j : Nat} (h1 : j ≠ Obj.lineFecLocked k)
    (h2 : j ≠ Obj.lineFecLockLosses k) : (s.loseFec k).num j = s.num j := by
  unfold State.loseFec
  split
  · exact (State.num_setNum_other _ _ h2).trans (State.num_setNum_other _ _ h1)
  · rfl

theorem Machine.State.loseFec_unlocked (s : State) (k : Nat) : (s.loseFec k).flag (Obj.lineFecLocked k) = false := by
  unfold State.loseFec
  split
  · have h : (Obj.lineFecLocked k) ≠ Obj.lineFecLockLosses k := linearUnit_ne (by decide)
    rw [State.flag, State.bump, State.num_setNum_other _ _ h, ← State.flag, State.flag_setFlag_same]
  · next h => simpa using h

/-- A lane that changes its mode holds that mode, is not locked, and shows the mode's FEC and map period (R254, R269). -/
theorem Machine.State.newMode_shows (s : State) (k : Nat) :
    let mode := s.num (Obj.lineLaneMode k)
    (s.newMode k).num (Obj.lineLaneMode k) = mode ∧ (s.newMode k).flag (Obj.lineFecLocked k) = false ∧
      (s.newMode k).num (Obj.lineFecMode k) = fecOfMode mode ∧ (s.newMode k).num (Obj.lineMapFrames k) = mapFrames mode := by
  have hlose {j : Nat} (h1 : j ≠ Obj.lineFecLocked k) (h2 : j ≠ Obj.lineFecLockLosses k) :
      (s.newMode k).num j = (s.noteFec k).num j := State.loseFec_num_other _ _ h1 h2
  refine ⟨?_, State.loseFec_unlocked _ _, ?_, ?_⟩
  · exact (hlose (linearUnit_ne (by decide)) (linearUnit_ne (by decide))).trans
      ((State.num_setNum_other _ _ (linearUnit_ne (by decide))).trans (State.num_setNum_other _ _ (linearUnit_ne (by decide))))
  · exact (hlose (linearUnit_ne (by decide)) (linearUnit_ne (by decide))).trans
      ((State.num_setNum_other _ _ (linearUnit_ne (by decide))).trans (State.num_setNum_same ..))
  · exact (hlose (linearUnit_ne (by decide)) (linearUnit_ne (by decide))).trans (State.num_setNum_same ..)

theorem OnlyObjects.noteFec {keys : List Nat} {s t : State} {k : Nat} (h : OnlyObjects keys s t) (hf : Obj.lineFecMode k ∈ keys)
    (hm : Obj.lineMapFrames k ∈ keys) : OnlyObjects keys s (t.noteFec k) :=
  (h.setNum hf _).setNum hm _

theorem OnlyObjects.loseFec {keys : List Nat} {s t : State} {k : Nat} (h : OnlyObjects keys s t) (hl : Obj.lineFecLocked k ∈ keys)
    (hc : Obj.lineFecLockLosses k ∈ keys) : OnlyObjects keys s (t.loseFec k) := by
  unfold State.loseFec
  split
  · exact (h.setNum hl _).setNum hc _
  · exact h

/-- An accepted LineLaneMode (R291, R292). -/
theorem lineLaneModeWrite_completes {rq : Requester} {k : Lane} {value : BitVec 8} {s : State}
    (ha : Accepts s rq (Obj.lineLaneMode k) (.num value.toNat) none) :
    let mode := Obj.lineLaneMode k
    let low := s.num (Obj.lineLaneResolution k) < 6 - min 2 value.toNat
    let refused (status : Nat) : Prop :=
      Completes (.lineLaneModeWrite rq k value) s fun t => Answered rq status t ∧ OnlyObjects [] s t
    (s.inWale k = true → refused St.busy) ∧ (s.inWale k = false → low → refused St.accessDenied) ∧
      (s.inWale k = false → ¬ low → Completes (.lineLaneModeWrite rq k value) s fun t => t.num mode = value.toNat ∧
        Answered rq St.ok t ∧ OnlyObjects [mode, Obj.persistPending, Obj.lineFecLocked k, Obj.lineFecLockLosses k,
          Obj.lineFecMode k, Obj.lineMapFrames k] s t ∧
        (s.num mode ≠ value.toNat → t.flag (Obj.lineFecLocked k) = false ∧ t.num (Obj.lineFecMode k) = fecOfMode value.toNat ∧
          t.num (Obj.lineMapFrames k) = mapFrames value.toNat)) := by
  intro mode low refused
  have hx : exec (.lineLaneModeWrite rq k value) s =
      .next (s.request rq mode (.num value.toNat) none (laneModeEffect k value.toNat)) := rfl
  have hw := s.inWale_served rq mode k
  refine ⟨fun h => .of_refused hx ha ?_, fun h hlow => .of_refused hx ha ?_, fun h hlow => ?_⟩
  · simp [laneModeEffect, hw, h]
  · simp [laneModeEffect, hw, h, show s.num (Obj.lineLaneResolution k) < _ from hlow]
  · let u := (s.served rq mode).setPNum mode value.toNat
    have hmode : u.num mode = value.toNat := State.num_setPNum_same _ _ (ne_persistPending (by decide))
    have honly : OnlyObjects [mode, Obj.persistPending, Obj.lineFecLocked k, Obj.lineFecLockLosses k, Obj.lineFecMode k,
        Obj.lineMapFrames k] s u := (OnlyObjects.served ..).setPNum (by simp) (by simp) _
    have he : laneModeEffect k value.toNat (s.served rq mode) =
        (if s.num mode = value.toNat then u else u.newMode k, St.ok) := by
      simp [laneModeEffect, hw, h, show ¬ s.num (Obj.lineLaneResolution k) < _ from hlow, u, mode]
    by_cases hold : s.num mode = value.toNat
    · rw [if_pos hold] at he
      exact .of_request hx ha he fun t ht hans =>
        ⟨(ht.num _).trans hmode, hans, ht.onlyObjects honly, absurd hold⟩
    · rw [if_neg hold] at he
      obtain ⟨hkept, hlock, hfec, hmap⟩ := u.newMode_shows k
      rw [hmode] at hkept hfec hmap
      refine .of_request hx ha he fun t ht hans => ⟨(ht.num _).trans hkept, hans, ht.onlyObjects ?_, fun _ => ⟨?_, ?_, ?_⟩⟩
      · exact ((honly.setLane k _).noteFec (by simp) (by simp)).loseFec (by simp) (by simp)
      · rw [State.flag, ht.num, ← State.flag, hlock]
      · rw [ht.num, hfec]
      · rw [ht.num, hmap]

/-- An accepted LineLaneResolution (R292). -/
theorem lineLaneResolutionWrite_completes {rq : Requester} {k : Lane} {value : BitVec 8} {s : State}
    (ha : Accepts s rq (Obj.lineLaneResolution k) (.num value.toNat) none) :
    let bits := Obj.lineLaneResolution k
    let low := value.toNat < 6 - min 2 (s.num (Obj.lineLaneMode k))
    (low → Completes (.lineLaneResolutionWrite rq k value) s fun t => Answered rq St.accessDenied t ∧ OnlyObjects [] s t) ∧
      (¬ low → Completes (.lineLaneResolutionWrite rq k value) s fun t => t.num bits = value.toNat ∧ Answered rq St.ok t ∧
        OnlyObjects [bits, Obj.persistPending] s t) := by
  intro bits low
  have hx : exec (.lineLaneResolutionWrite rq k value) s =
      .next (s.request rq bits (.num value.toNat) none (resolutionEffect k value.toNat)) := rfl
  have he : resolutionEffect k value.toNat (s.served rq bits) =
      if low then refuse St.accessDenied (s.served rq bits) else ((s.served rq bits).setPNum bits value.toNat, St.ok) := by
    simp [resolutionEffect, low, bits]
  refine ⟨fun h => .of_refused hx ha (he.trans (if_pos h)), fun h => .of_request hx ha (he.trans (if_neg h)) fun t ht hans =>
    ⟨?_, hans, ht.onlyObjects ((OnlyObjects.served ..).setPNum (by simp) (by simp) _)⟩⟩
  rw [ht.num]
  exact State.num_setPNum_same _ _ (ne_persistPending (by decide))

/-! ### Tuning (R295) -/

theorem Machine.State.settlePair_inLine (s : State) (k : Nat) : BroughtInLine s (s.settlePair k) := BroughtInLine.rfl.settlePair k

/-- An accepted LineLaneFrequency (R295). -/
theorem lineLaneFrequencyWrite_completes {rq : Requester} {k : Lane} {value : BitVec 32} {s : State}
    (ha : Accepts s rq (Obj.lineLaneFrequency k) (.num value.toNat) none) :
    (s.inWale k = true → Completes (.lineLaneFrequencyWrite rq k value) s fun t => Answered rq St.busy t ∧ OnlyObjects [] s t) ∧
      (s.inWale k = false → Completes (.lineLaneFrequencyWrite rq k value) s fun t => Answered rq St.ok t ∧ t.mem = s.mem ∧
        t.num (Obj.lineLaneFrequency k) = value.toNat ∧ (t.optic k).tuning = decide (s.num (Obj.lineLaneEnd k) ≠ 0)) := by
  have hx : exec (.lineLaneFrequencyWrite rq k value) s =
      .next (s.request rq (Obj.lineLaneFrequency k) (.num value.toNat) none (frequencyEffect k value.toNat)) := rfl
  have hw := s.inWale_served rq (Obj.lineLaneFrequency k) k
  refine ⟨fun h => .of_refused hx ha ?_, fun h => ?_⟩
  · simp [frequencyEffect, hw, h]
  · let u := (s.served rq (Obj.lineLaneFrequency k)).setPNum (Obj.lineLaneFrequency k) value.toNat
    have hend : u.num (Obj.lineLaneEnd k) = s.num (Obj.lineLaneEnd k) :=
      (State.num_setPNum_other _ _ (linearUnit_ne (by decide)) (ne_persistPending (by decide))).trans (State.served_num ..)
    let v := u.setOptic k { u.optic k with tuning := u.num (Obj.lineLaneEnd k) != 0 }
    have he : frequencyEffect k value.toNat (s.served rq (Obj.lineLaneFrequency k)) = (v.settlePair (k % 16), St.ok) := by
      simp [frequencyEffect, hw, h, v, u]
    have hv := v.settlePair_inLine (k % 16)
    refine .of_request hx ha he fun t ht hans => ⟨hans, ?_, ?_, ?_⟩
    · rw [ht.mem, hv.mem]
      simp [v, u]
    · rw [ht.num]
      exact (hv.num (not_followsEnds (by decide))).trans (State.num_setPNum_same _ _ (ne_persistPending (by decide)))
    · rw [ht.optic, hv.optic, State.optic_setOptic_same, hend]
      simp [bne, beq_eq_decide]

/-- A laser that locks ends its lane's tuning (R295). -/
theorem laserTuningComplete_completes (k : Lane) (s : State) :
    ((s.optic k).tuning = false → exec (.laserTuningComplete k) s = .next s) ∧
      ((s.optic k).tuning = true → Completes (.laserTuningComplete k) s fun t =>
        t.optic k = { s.optic k with tuning := false } ∧ t.mem = s.mem) := by
  have hx : exec (.laserTuningComplete k) s = if (s.optic k).tuning then
      .next ((s.setOptic k { s.optic k with tuning := false }).settlePair (k.val % 16)) else .next s := rfl
  refine ⟨fun h => by simp [hx, h], fun h => ⟨_, by rw [hx, if_pos h], ?_⟩⟩
  have hv := (s.setOptic k { s.optic k with tuning := false }).settlePair_inLine (k.val % 16)
  exact ⟨(hv.optic k).trans (State.optic_setOptic_same ..), hv.mem⟩

/-! ### Eye safety (R305) -/

/-- A receive in LOS reduces its lane's launch once (R305). -/
theorem aprEntry_completes (k : Lane) (s : State) :
    let dark := s.hasDefect k .los = true ∧ (s.optic k).apr = false
    (¬ dark → exec (.aprEntry k) s = .next s) ∧
      (dark → Completes (.aprEntry k) s fun t => t.optic k = { s.optic k with apr := true } ∧ t.mem = s.mem ∧
        Reported Ev.aprActive { die := 19 + k / 16, unit := k } t) := by
  intro dark
  have hx : exec (.aprEntry k) s = if s.hasDefect k .los = true ∧ (!(s.optic k).apr) = true then
      .next (((s.setOptic k { s.optic k with apr := true }).settlePair (k.val % 16)).raise Ev.aprActive
        { die := 19 + k.val / 16, unit := k }) else .next s := rfl
  have hc : s.hasDefect k .los = true ∧ (!(s.optic k).apr) = true ↔ dark := by simp [dark]
  refine ⟨fun h => hx.trans (if_neg (hc.not.2 h)), fun h => ⟨_, hx.trans (if_pos (hc.2 h)), ?_⟩⟩
  have hv := (s.setOptic k { s.optic k with apr := true }).settlePair_inLine (k.val % 16)
  refine ⟨?_, ?_, State.raise_reported ..⟩
  · rw [State.optic, State.raise_optics]
    exact (hv.optic k).trans (State.optic_setOptic_same ..)
  · rw [State.raise_mem, hv.mem, State.setOptic_mem]

/-- A lane that is placed on a latched in-package end and not evicted is Tripped (R310). -/
theorem Machine.State.opticalState_tripped {s : State} {k : Nat} (he : (s.optic k).evicted = false)
    (h1 : s.num (Obj.lineLaneEnd k) = 1) (ht : k % 16 ∈ s.optics.tripped) : s.opticalState k = 4 := by
  simp [State.opticalState, State.isTripped, he, h1, ht]

theorem Machine.State.settleLane_opticalState_same (s : State) (k : Nat) :
    (s.settleLane k).num (Obj.lineLaneOpticalState k) = s.opticalState k :=
  State.num_setNum_same ..

theorem Machine.State.settleLane_opticalState_other (s : State) {j k : Nat} (h : j ≠ k) :
    (s.settleLane k).num (Obj.lineLaneOpticalState j) = s.num (Obj.lineLaneOpticalState j) := by
  have hne : Obj.lineLaneOpticalState j ≠ Obj.lineLaneOpticalState k := fun e => h ((linearUnit_inj (by decide)).1 e)
  have hfec : (s.noteFec k).num (Obj.lineLaneOpticalState j) = s.num (Obj.lineLaneOpticalState j) :=
    (State.num_setNum_other _ _ (linearUnit_ne (by decide))).trans (State.num_setNum_other _ _ (linearUnit_ne (by decide)))
  unfold State.settleLane
  dsimp only
  rw [State.num_setNum_other _ _ hne, State.setLane_num]
  split
  · exact hfec
  · rfl

/-- Bringing a pair in line shows a lane of it on a latched in-package end as Tripped (R305, R310). -/
theorem Machine.State.settlePair_tripped {s : State} {k : Nat} (hk : k < 32) (he : (s.optic k).evicted = false)
    (h1 : s.num (Obj.lineLaneEnd k) = 1) (ht : k % 16 ∈ s.optics.tripped) :
    (s.settlePair (k % 16)).num (Obj.lineLaneOpticalState k) = 4 := by
  have hpair : (s.settlePair (k % 16)).num (Obj.lineLaneOpticalState k) =
      ((s.settleLane (k % 16)).settleLane (k % 16 + 16)).num (Obj.lineLaneOpticalState k) :=
    State.num_setNum_other _ _ (linearUnit_ne (by decide))
  rw [hpair]
  by_cases hlow : k < 16
  · rw [State.settleLane_opticalState_other _ (by omega), show k % 16 = k by omega, State.settleLane_opticalState_same]
    exact State.opticalState_tripped he h1 ht
  · have hv : BroughtInLine s (s.settleLane (k % 16)) := BroughtInLine.rfl.settleLane _
    rw [show k % 16 + 16 = k by omega, State.settleLane_opticalState_same]
    refine State.opticalState_tripped ?_ ?_ ?_
    · rw [hv.optic, he]
    · exact (hv.num (not_followsEnds (by decide))).trans h1
    · rw [hv.tripped]
      exact ht

theorem lineLaneOpticalState_notMem_eventKeys : ∀ k : Lane, Obj.lineLaneOpticalState k ∉ eventKeys := by decide

/-- A trip latches the in-package end that the lane drives, is counted and reported (R305). -/
theorem eyeSafetyTrip_completes (k : Lane) (s : State) :
    let driven := s.num (Obj.lineLaneEnd k) = 1 ∧ k.val % 16 ∉ s.optics.tripped
    (¬ driven → exec (.eyeSafetyTrip k) s = .next s) ∧
      (driven → Completes (.eyeSafetyTrip k) s fun t => k.val % 16 ∈ t.optics.tripped ∧ t.mem = s.mem ∧
        t.num Obj.opticsEyeSafetyTrips = (s.num Obj.opticsEyeSafetyTrips + 1) % 2 ^ 32 ∧
        Reported Ev.eyeSafetyTrip { die := 21 + k.val % 16 / 8, unit := k } t ∧
        ((s.optic k).evicted = false → t.num (Obj.lineLaneOpticalState k) = 4)) := by
  intro driven
  let i := k.val % 16
  let s1 : State := { s with optics := { s.optics with tripped := i :: s.optics.tripped } }
  let s2 := (s1.settlePair i).bump 32 Obj.opticsEyeSafetyTrips 1
  have hx : exec (.eyeSafetyTrip k) s = if s.num (Obj.lineLaneEnd k) = 1 ∧ (!s.optics.tripped.contains i) = true then
      .next (s2.raise Ev.eyeSafetyTrip { die := 21 + i / 8, unit := k }) else .next s := rfl
  have hc : s.num (Obj.lineLaneEnd k) = 1 ∧ (!s.optics.tripped.contains i) = true ↔ driven := by simp [driven, i]
  refine ⟨fun h => hx.trans (if_neg (hc.not.2 h)), fun h => ⟨_, hx.trans (if_pos (hc.2 h)), ?_⟩⟩
  have hv := s1.settlePair_inLine i
  have hcount : ¬ FollowsEnds Obj.opticsEyeSafetyTrips := not_followsEnds (b := 0x8000) (u := 5) (n := 1) (i := 0) (by decide)
  refine ⟨?_, ?_, ?_, State.raise_reported .., fun he => ?_⟩
  · rw [State.raise_optics, State.bump_optics, hv.tripped]
    exact List.mem_cons_self
  · rw [State.raise_mem, State.bump_mem, hv.mem]
  · rw [State.raise_num _ _ _ (by decide), State.num_bump_same, hv.num hcount]
    rfl
  · rw [State.raise_num _ _ _ (lineLaneOpticalState_notMem_eventKeys k)]
    refine (State.num_setNum_other _ _ ?_).trans (State.settlePair_tripped k.isLt he h.1 List.mem_cons_self)
    exact linearUnit_ne (j := 0) (b' := 0x8000) (u' := 5) (n' := 1) (by decide)

/-! ### Selectors and connectors (R304, R305) -/

/-- What Select does in a request, by what the module held before it (R304, R308). -/
theorem Machine.State.selectPorts_served (s : State) (rq : Requester) (j i : Nat) :
    let u := s.served rq j
    let chosen := (s.num (Obj.ipTxSelect i), s.num (Obj.ipRxSelect i))
    u.selectPorts i =
      if (s.ipLane i).any s.inWale || s.swapping i then refuse St.busy u
      else if !bitAt (s.num (Obj.ipPortsPresent i)) chosen.1 || !bitAt (s.num (Obj.ipPortsPresent i)) chosen.2 then
        refuse St.refusedNotReady u
      else (State.settlePair { u with optics := { u.optics with ports := Map.put (0, 0) u.optics.ports i chosen } } i, St.ok) := by
  obtain ⟨c, p, h⟩ := s.served_only rq j
  rw [h]
  rfl

/-- An accepted Select (R304, R308). -/
theorem ipSelect_completes {rq : Requester} {i : Ip} {s : State} (ha : Accepts s rq (Obj.ipCommand i) (.num 1) none) :
    let key := Obj.ipCommandStatus i
    let present := s.num (Obj.ipPortsPresent i)
    let tx := s.num (Obj.ipTxSelect i)
    let rx := s.num (Obj.ipRxSelect i)
    let held := (s.ipLane i).any s.inWale = true ∨ s.swapping i = true
    let there := bitAt present tx = true ∧ bitAt present rx = true
    let refused (status : Nat) : Prop :=
      Completes (.ipSelect rq i) s fun t => t.num key = status ∧ Answered rq St.ok t ∧ OnlyObjects [key] s t
    (held → refused St.busy) ∧ (¬ held → ¬ there → refused St.refusedNotReady) ∧
      (¬ held → there → Completes (.ipSelect rq i) s fun t => t.selectors i = (tx, rx) ∧ t.num key = St.ok ∧ t.mem = s.mem) := by
  intro key present tx rx held there refused
  have hx : exec (.ipSelect rq i) s =
      .next (s.request rq (Obj.ipCommand i) (.num 1) none (reported key fun t => t.selectPorts i)) := rfl
  have he := s.selectPorts_served rq (Obj.ipCommand i) i
  have hheld : ((s.ipLane i).any s.inWale || s.swapping i) = true ↔ held := by simp [held]
  have hthere : (!bitAt present tx || !bitAt present rx) = true ↔ ¬ there := by simp [there, imp_iff_not_or]
  refine ⟨fun h => .of_reported_refused hx ha (he.trans (if_pos (hheld.2 h))), fun h hn => .of_reported_refused hx ha ?_, fun h hy => ?_⟩
  · exact he.trans ((if_neg (hheld.not.2 h)).trans (if_pos (hthere.2 hn)))
  · have he' := he.trans ((if_neg (hheld.not.2 h)).trans (if_neg (hthere.not.2 (not_not_intro hy))))
    refine .of_request hx ha (reported_eq he') fun t ht _ => ⟨?_, ?_, ?_⟩
    · rw [State.selectors, ht.optics, State.setNum_optics, (State.settlePair_inLine ..).ports]
      exact Map.get_put_same ..
    · rw [ht.num, State.num_setNum_same]
    · rw [ht.mem, State.setNum_mem, (State.settlePair_inLine ..).mem]
      exact State.served_mem ..

/-- What ClearTrip does: the latch of a comparator ends unless the tap still reads +6.0 dBm or more (R305). -/
def clearTrip (i : Nat) (tap : Int) (t : State) : State × Nat :=
  if t.optics.tripped.contains i ∧ 60 ≤ tap then refuse St.refusedNotReady t
  else (State.settlePair { t with optics := { t.optics with tripped := t.optics.tripped.filter (· != i) } } i, St.ok)

theorem exec_ipClearTrip (rq : Requester) (i : Ip) (tap : Int) (s : State) : exec (.ipClearTrip rq i tap) s =
    .next (s.request rq (Obj.ipCommand i) (.num 2) none (reported (Obj.ipCommandStatus i) (clearTrip i tap))) := rfl

/-- An accepted ClearTrip: the latch ends only with the tap below +6.0 dBm (R305). -/
theorem ipClearTrip_completes {rq : Requester} {i : Ip} {s : State} (ha : Accepts s rq (Obj.ipCommand i) (.num 2) none) (tap : Int) :
    let key := Obj.ipCommandStatus i
    let high := i.val ∈ s.optics.tripped ∧ 60 ≤ tap
    (high → Completes (.ipClearTrip rq i tap) s fun t =>
        t.num key = St.refusedNotReady ∧ Answered rq St.ok t ∧ OnlyObjects [key] s t) ∧
      (¬ high → Completes (.ipClearTrip rq i tap) s fun t => i.val ∉ t.optics.tripped ∧ t.num key = St.ok ∧ t.mem = s.mem) := by
  intro key high
  let u := s.served rq (Obj.ipCommand i)
  let v : State := { u with optics := { u.optics with tripped := u.optics.tripped.filter (· != i.val) } }
  have hhigh : u.optics.tripped.contains i.val = true ∧ 60 ≤ tap ↔ high := by simp [u, high]
  refine ⟨fun h => .of_reported_refused (exec_ipClearTrip ..) ha (if_pos (hhigh.2 h)), fun h => ?_⟩
  have he : clearTrip i tap u = (v.settlePair i, St.ok) := if_neg (hhigh.not.2 h)
  have hv := v.settlePair_inLine i
  refine .of_request (exec_ipClearTrip ..) ha (reported_eq he) fun t ht _ => ⟨?_, ?_, ?_⟩
  · rw [ht.optics, State.setNum_optics, hv.tripped]
    simp [v]
  · rw [ht.num, State.num_setNum_same]
  · rw [ht.mem, State.setNum_mem, hv.mem]
    exact State.served_mem ..

/-- The object that shows the connectors does not follow from the ends of lanes. -/
theorem opticalConnectorsPresent_not_followsEnds : ¬ FollowsEnds Obj.opticalConnectorsPresent :=
  not_followsEnds (b := 0xC700) (u := 7) (n := 1) (i := 0) (by decide)

/-- An OPM's connector shows its presence and that of the four ports of its two in-package lanes (R304, R490). -/
theorem setConnector_opm (s : State) (q : Fin 8) (present : Bool) :
    let t := s.setConnector (.opm q) present
    t.num Obj.opticalConnectorsPresent = setBit (s.num Obj.opticalConnectorsPresent) q present ∧
      t.num (Obj.ipPortsPresent (2 * q)) = (if present then 0x0F else 0) ∧
      t.num (Obj.ipPortsPresent (2 * q + 1)) = (if present then 0x0F else 0) ∧ t.mem = s.mem := by
  intro t
  have h : BroughtInLine _ t := (BroughtInLine.rfl.settlePair (2 * q)).settlePair (2 * q + 1)
  have hports (i : Nat) : Obj.opticalConnectorsPresent ≠ Obj.ipPortsPresent i :=
    linearUnit_ne (b := 0xC700) (u := 7) (n := 1) (i := 0) (by decide)
  have hpair : Obj.ipPortsPresent (2 * q) ≠ Obj.ipPortsPresent (2 * q + 1) := fun e => by
    have := (linearUnit_inj (by decide)).1 e
    omega
  refine ⟨?_, ?_, ?_, h.mem⟩
  · rw [h.num opticalConnectorsPresent_not_followsEnds, State.num_setNum_other _ _ (hports _), State.num_setNum_other _ _ (hports _),
      State.num_setNum_same]
  · exact (h.num (not_followsEnds (by decide))).trans ((State.num_setNum_other _ _ hpair).trans (State.num_setNum_same ..))
  · exact (h.num (not_followsEnds (by decide))).trans (State.num_setNum_same ..)

/-- A board engine's connector shows its presence (R492). -/
theorem setConnector_bep (s : State) (k : Engine) (present : Bool) :
    let t := s.setConnector (.bep k) present
    t.num Obj.opticalConnectorsPresent = setBit (s.num Obj.opticalConnectorsPresent) (16 + k) present ∧ t.mem = s.mem := by
  intro t
  have h : BroughtInLine _ t := BroughtInLine.rfl.settlePair k
  refine ⟨?_, h.mem⟩
  rw [h.num opticalConnectorsPresent_not_followsEnds, State.num_setNum_same]

/-- Settles O43, clause by clause: what each command sets is read back through `BroughtInLine`, as bringing lanes in line with their
ends writes only objects that follow from those ends. -/
theorem lanesTakeTheirEnds : Obligations.LanesTakeTheirEnds := by
  unfold Obligations.LanesTakeTheirEnds
  refine ⟨?_, ?_, ?_, ?_, ?_, ?_⟩
  · intro rq k value s ha
    exact pairSettingWrite_completes ha
  · intro rq k value s
    exact ⟨fun ha => lineLaneModeWrite_completes ha, fun ha => lineLaneResolutionWrite_completes ha⟩
  · intro rq k value s ha
    exact lineLaneFrequencyWrite_completes ha
  · intro k s
    obtain ⟨hidle, hlock⟩ := laserTuningComplete_completes k s
    obtain ⟨hlit, hdark⟩ := aprEntry_completes k s
    exact ⟨hidle, hlock, hlit, hdark, eyeSafetyTrip_completes k s⟩
  · intro rq i s
    exact ⟨fun ha => ipSelect_completes ha, fun ha tap => ipClearTrip_completes ha tap⟩
  · intro present s run shown
    have hx (p : FibrePort) : exec (run p) s = .next (s.setConnector p present) := by
      cases present with
      | false => rfl
      | true => rfl
    exact ⟨fun q => ⟨_, hx _, setConnector_opm s q present⟩, fun k => ⟨_, hx _, setConnector_bep s k present⟩⟩

end Sys2Proof

namespace Sys2Proof

open Sys2Proof.Machine

/-! ## Requests and reservations: the checks (R31, R404)

### Check by check (R404) -/

theorem Machine.State.accessStatus_rw (s : State) {r : ObjRow} (k : Nat) (h : r.acc = .rw) : s.accessStatus r k true = St.ok := by
  simp [State.accessStatus, h]

theorem Machine.State.accessStatus_ro (s : State) {r : ObjRow} (k : Nat) (h : r.acc = .ro) :
    s.accessStatus r k true = St.accessDenied := by
  simp [State.accessStatus, h]

theorem Machine.State.accessStatus_sig (s : State) {r : ObjRow} (k : Nat) (h : r.acc = .sig) : s.accessStatus r k true = St.ok := by
  simp [State.accessStatus, h]

/-- A reservation-bound object of a hoop that is neither Empty, Configured nor Stopped is not writable (R400). -/
theorem Machine.State.accessStatus_rws_bound (s : State) {r : ObjRow} {k h : Nat} (hr : r.acc = .rws) (ho : s.ownerHoop k = some h)
    (h0 : s.num (Obj.hoopState h) ≠ 0) (h1 : s.num (Obj.hoopState h) ≠ 1) (h4 : s.num (Obj.hoopState h) ≠ 4) :
    s.accessStatus r k true = St.notPermittedInState := by
  simp [State.accessStatus, hr, ho, h0, h1, h4]

section
variable {s : State} {rq : Requester} {k i : Nat} {v : Val} {token : Option Token} {r : ObjRow}

/-- Check 3 decides once the requester has authority (R404). -/
theorem Machine.State.writeStatus_of_access (hf : findRow k = some (r, i)) (ha : s.authorised rq k true = true)
    (hs : s.accessStatus r k true ≠ St.ok) : s.writeStatus rq k v token = s.accessStatus r k true := by
  simp [State.writeStatus, hf, ha, hs]

/-- An RW object is left to checks 5 and 6 once the requester has authority (R404). -/
theorem Machine.State.writeStatus_rw (hf : findRow k = some (r, i)) (ha : s.authorised rq k true = true) (hr : r.acc = .rw) :
    s.writeStatus rq k v token =
      if r.fits v = false then r.lengthStatus else if r.inRange v = false then St.accessDenied else St.ok := by
  simp [State.writeStatus, hf, ha, hr, s.accessStatus_rw k hr]

end

/-- Settles O8: each check is decided by the branch of `writeStatus` that stands for it. -/
theorem firstFailingCheckDecides : Obligations.FirstFailingCheckDecides := by
  unfold Obligations.FirstFailingCheckDecides
  intro s rq k v token
  refine ⟨fun hf => by simp [State.writeStatus, hf], fun r i hf => ⟨fun ha => by simp [State.writeStatus, hf, ha], fun ha => ?_⟩⟩
  refine ⟨fun hr => ?ro, fun h hr ho h0 h1 h4 => ?rws, fun hr hd ht => ?sig, fun hr hv => ?length, fun hr hv hi => ?range,
    fun hr hv hi => ?ok⟩
  case ro =>
    have hs := s.accessStatus_ro k hr
    rw [State.writeStatus_of_access hf ha (by rw [hs]; decide), hs]
  case rws =>
    have hs := s.accessStatus_rws_bound hr ho h0 h1 h4
    rw [State.writeStatus_of_access hf ha (by rw [hs]; decide), hs]
  case sig => simp [State.writeStatus, hf, ha, hr, s.accessStatus_sig k hr, hd, ht]
  case length => rw [State.writeStatus_rw hf ha hr, if_pos hv, ObjRow.lengthStatus]
  case range => rw [State.writeStatus_rw hf ha hr, if_neg (by simp [hv]), if_pos hi]
  case ok => rw [State.writeStatus_rw hf ha hr, if_neg (by simp [hv]), if_neg (by simp [hi])]

/-! ### The checks on a reservation (R31) -/

/-- A property of every other hoop that is not Empty, as one of the hoops that the model lists. -/
theorem Machine.State.forall_otherHoops (s : State) (h : Hoop) (p : Nat → Prop) :
    (∀ x ∈ s.otherHoops h, p x) ↔ ∀ x : Hoop, x ≠ h → s.num (Obj.hoopState x) ≠ 0 → p x := by
  simp only [State.otherHoops, List.mem_filter, List.mem_range, Bool.and_eq_true, bne_iff_ne, ne_eq]
  constructor
  · intro hp x hx h0
    exact hp x ⟨x.isLt, fun e => hx (Fin.ext e), h0⟩
  · rintro hp x ⟨hx, hne, h0⟩
    exact hp ⟨x, hx⟩ (fun e => hne (congrArg Fin.val e)) h0

/-- The tile mask passes the first check of R31: it is not 0, names tiles of the module, and shares none with another hoop. -/
theorem Machine.State.tilesFree_iff (s : State) (h : Hoop) (mask : Nat) : s.tilesFree h mask = true ↔
    mask ≠ 0 ∧ mask < 2 ^ 48 ∧ ∀ x : Hoop, x ≠ h → s.num (Obj.hoopState x) ≠ 0 → mask &&& s.num (Obj.hoopTileMask x) = 0 := by
  rw [← s.forall_otherHoops h fun x => mask &&& s.num (Obj.hoopTileMask x) = 0]
  simp [State.tilesFree, and_assoc]

/-- Settles O9: the four clauses are the four branches of `reserveCheck`, the first of them read through `tilesFree_iff`. -/
theorem reservationChecks : Obligations.ReservationChecks := by
  unfold Obligations.ReservationChecks
  intro s h mask capacity contexts
  rw [← s.tilesFree_iff h mask]
  refine ⟨fun ht => ?_, fun ht hneed => ?_, fun ht hneed hmin => ?_, fun ht hneed hmin => ?_⟩
  · simp [State.reserveCheck, ht]
  · simp [State.reserveCheck, ht, hneed]
  · simp only [State.reserveCheck, ht, Bool.not_true, Bool.false_eq_true, if_false]
    rw [if_neg (by omega), if_pos (by omega)]
  · simp only [State.reserveCheck, ht, Bool.not_true, Bool.false_eq_true, if_false]
    rw [if_neg (by omega), if_neg (by omega)]

/-! ## The reset state (R401, R478) -/

/-- The store of the reset state lists no object, so each holds its default. -/
theorem Machine.State.reset_obj (k : Nat) : State.reset.obj k = objDefault k := rfl

/-- Settles O5: no object is listed after reset, and the defaults are read off the tables unit by unit. -/
theorem resetHoldsListedDefaults : Obligations.ResetHoldsListedDefaults := by
  unfold Obligations.ResetHoldsListedDefaults
  refine ⟨State.reset_obj, rfl, rfl, rfl, ?hoops, ?tiles, ?frames, ?free, ?spares, ?stage, ?wales, ?pairs, ?lanes, ?domains, ?mailboxes⟩
  case hoops => decide +kernel
  case tiles => decide +kernel
  case frames => decide +kernel
  case free => decide +kernel
  case spares => decide +kernel
  case stage => decide +kernel
  case wales => decide +kernel
  case pairs => decide +kernel
  case lanes => decide +kernel
  case domains => decide +kernel
  case mailboxes => decide +kernel

end Sys2Proof

namespace Sys2Proof

open Sys2Proof.Machine

/-! ## Hoops and groups: what their commands write (R27–R47)

### Tables of objects

A function of the model that ends operations, frees buffers or brings tiles in line writes objects of many units. What it leaves alone is
said once, by the tables of the objects that it may write. -/

/-- A table of objects: first index, sub and number of units, and whether sixteen units share an index (R11, R45). -/
structure ObjTable where
  base : Nat
  sub : Nat
  count : Nat
  packed : Bool
deriving DecidableEq

namespace ObjTable

/-- Key of unit `i`. -/
def key (x : ObjTable) (i : Nat) : Nat :=
  if x.packed then packedUnit x.base x.sub x.count i else linearUnit x.base x.sub x.count i

/-- Indices that the table takes. -/
def span (x : ObjTable) : Nat := if x.packed then (x.count + 15) / 16 else x.count

/-- The table has units, on indices of 16 bits; its sub leaves the unit its four bits where units share an index. -/
abbrev Sound (x : ObjTable) : Prop := 0 < x.count ∧ x.base + x.span ≤ 2 ^ 16 ∧ x.sub < if x.packed then 16 else 256

/-- Tables that differ in the last four bits of the sub or have no index in common. -/
abbrev Apart (x y : ObjTable) : Prop :=
  x.Sound ∧ y.Sound ∧ (x.sub % 16 ≠ y.sub % 16 ∨ x.base + x.span ≤ y.base ∨ y.base + y.span ≤ x.base)

/-- A key shows the indices and the last four bits of the sub of its table, also where the unit does not exist. -/
theorem key_bounds {x : ObjTable} (h : x.Sound) (i : Nat) :
    x.base ≤ x.key i % 2 ^ 24 / 256 ∧ x.key i % 2 ^ 24 / 256 < x.base + x.span ∧ x.key i % 16 = x.sub % 16 := by
  obtain ⟨base, sub, count, packed⟩ := x
  cases packed with
  | false =>
    dsimp only [Sound, span, key] at h ⊢
    simp only [Bool.false_eq_true, if_false] at h ⊢
    unfold linearUnit linearKey noUnit
    split <;> omega
  | true =>
    dsimp only [Sound, span, key] at h ⊢
    simp only [if_true] at h ⊢
    unfold packedUnit packedKey noUnit
    split <;> omega

/-- Objects of tables that are apart have different keys, whatever their units. -/
theorem key_ne {x y : ObjTable} (h : x.Apart y) (i j : Nat) : x.key i ≠ y.key j := by
  obtain ⟨hx, hy, hd⟩ := h
  have h1 := key_bounds hx i
  have h2 := key_bounds hy j
  intro e
  rw [e] at h1
  omega

end ObjTable

/-- `k` is the key of an object of one of the tables. -/
def Written (l : List ObjTable) (k : Nat) : Prop := ∃ x ∈ l, ∃ i, k = x.key i

namespace Written

variable {l : List ObjTable} {b u n i : Nat}

theorem linear (h : ⟨b, u, n, false⟩ ∈ l) : Written l (linearUnit b u n i) := ⟨_, h, i, rfl⟩

theorem packed (h : ⟨b, u, n, true⟩ ∈ l) : Written l (packedUnit b u n i) := ⟨_, h, i, rfl⟩

theorem single (h : ⟨b, u, 1, false⟩ ∈ l) : Written l (linearKey b u 0) := ⟨_, h, 0, rfl⟩

theorem mono {l' : List ObjTable} {k : Nat} (h : Written l k) (hl : l ⊆ l') : Written l' k := by
  obtain ⟨x, hx, e⟩ := h
  exact ⟨x, hl hx, e⟩

/-- An object of a table that is apart from all of them is not written. -/
theorem not_key {x : ObjTable} (h : ∀ y ∈ l, x.Apart y) (i : Nat) : ¬ Written l (x.key i) := by
  rintro ⟨y, hy, j, e⟩
  exact ObjTable.key_ne (h y hy) i j e

theorem not_linear (h : ∀ y ∈ l, ObjTable.Apart ⟨b, u, n, false⟩ y) : ¬ Written l (linearUnit b u n i) := not_key h i

theorem not_packed (h : ∀ y ∈ l, ObjTable.Apart ⟨b, u, n, true⟩ y) : ¬ Written l (packedUnit b u n i) := not_key h i

end Written

/-- Of the objects, only those of the tables may differ. -/
def WritesIn (l : List ObjTable) (s t : State) : Prop := ∀ j, ¬ Written l j → t.obj j = s.obj j

namespace WritesIn

variable {l : List ObjTable} {s t u : State}

protected theorem rfl : WritesIn l s s := fun _ _ => rfl

theorem trans (h : WritesIn l s t) (h' : WritesIn l t u) : WritesIn l s u := fun j hj => (h' j hj).trans (h j hj)

theorem mono {l' : List ObjTable} (h : WritesIn l s t) (hl : l ⊆ l') : WritesIn l' s t := fun j hj => h j fun hw => hj (hw.mono hl)

theorem num (h : WritesIn l s t) {j : Nat} (hj : ¬ Written l j) : t.num j = s.num j := congrArg Val.toNat (h j hj)

theorem linear (h : WritesIn l s t) {b u n i : Nat} (ha : ∀ y ∈ l, ObjTable.Apart ⟨b, u, n, false⟩ y) :
    t.num (linearUnit b u n i) = s.num (linearUnit b u n i) := h.num (Written.not_linear ha)

theorem packed (h : WritesIn l s t) {b u n i : Nat} (ha : ∀ y ∈ l, ObjTable.Apart ⟨b, u, n, true⟩ y) :
    t.num (packedUnit b u n i) = s.num (packedUnit b u n i) := h.num (Written.not_packed ha)

theorem set (h : WritesIn l s t) {k : Nat} (hk : Written l k) (v : Val) : WritesIn l s (t.set k v) :=
  fun j hj => (t.obj_set_other v fun (e : j = k) => hj (e ▸ hk)).trans (h j hj)

/-- What writes no object. -/
theorem keep (h : WritesIn l s t) (hd : u.dict = t.dict) : WritesIn l s u := by
  intro j hj
  rw [← h j hj, State.obj, State.obj, hd]

end WritesIn

end Sys2Proof

namespace Sys2Proof

open Sys2Proof.Machine

/-! ### Tiles, pools and domains brought in line with the reservations (R26, R197, R205, R386) -/

/-- The objects that follow from what hoops reserve and hold: of the domains (R386, R397), the tiles (R105), the pools (R205, R206),
and the sum of the reservations (R30). -/
def reserveTables : List ObjTable :=
  followingTables.map (fun x => ⟨x.1, x.2.1, x.2.2, false⟩) ++
    [⟨0xC100, 0x02, 100, false⟩, ⟨0xC400, 0x03, 100, false⟩, ⟨0x4100, 0x01, 48, false⟩, ⟨0x4100, 0x02, 48, false⟩,
      ⟨0x5200, 0x01, 1, false⟩, ⟨0x5200, 0x02, 1, false⟩, ⟨0x5210, 0x02, 8, false⟩,
      ⟨0x5220, 0x02, 16, false⟩, ⟨0x5220, 0x03, 16, false⟩, ⟨0x5220, 0x04, 16, false⟩,
      ⟨0x5300, 0x05, 64, false⟩, ⟨0x5300, 0x06, 64, false⟩, ⟨0x5300, 0x07, 64, false⟩, ⟨0x5300, 0x08, 64, false⟩,
      ⟨0x5300, 0x0A, 64, false⟩, ⟨0x5300, 0x0B, 64, false⟩, ⟨0x2000, 0x03, 1, false⟩]

theorem FollowsEnds.written {j : Nat} (h : FollowsEnds j) : Written reserveTables j := by
  obtain ⟨x, hx, n, e⟩ := h.table
  exact ⟨_, List.mem_append_left _ (List.mem_map_of_mem hx), n, e⟩

theorem Machine.State.wakeDomain_work (s : State) (d : Nat) : (s.wakeDomain d).work = s.work := by
  unfold State.wakeDomain
  split <;> rfl

theorem Machine.State.settleDomain_work (s : State) (d : Nat) : (s.settleDomain d).work = s.work := by
  unfold State.settleDomain
  extract_lets target s1
  have h1 : s1.work = s.work := rfl
  have hw : (s1.wakeDomain d).work = s.work := (s1.wakeDomain_work d).trans h1
  have hs (x : Nat) : (s1.setSleep d x).work = s.work := rfl
  have hb : ((s1.setSleep d 4).bump 32 (Obj.domainEntryAborts d) 1).work = s.work := rfl
  split
  · exact h1
  · split <;> (repeat' split) <;> simp only [h1, hw, hs, hb]

/-- What every carving of a frame keeps, carving until a deficit is covered keeps. `carve` stands as a variable: the kernel unfolds the
recursion by evaluating what it matches on, and `carve` searches tables of 2^17 entries. -/
theorem Machine.State.back_keeps (P : State → Prop) {h c : Nat}
    (hc : ∀ s r, P s → s.carve h (4 * h + 1) c = some r → P r.1) (n : Nat) {s : State} (hs : P s) : P (State.back n s h c) := by
  obtain ⟨carve, hcarve⟩ : ∃ f, f = State.carve := exists_eq
  delta State.back State.back._f
  rw [← hcarve] at hc ⊢
  induction n generalizing s with
  | zero => exact hs
  | succ n ih =>
    change P (if _ then _ else _)
    split
    · exact hs
    · split
      next e => exact ih (hc _ _ hs e)
      · exact hs

/-- What every carving of a frame and the rotation after it keep, holding the frames of a plan keeps. `carve` stands as a variable, as
in `back_keeps`. -/
theorem Machine.State.carvePlan_keeps (P : State → Prop) {h : Nat} (hc : ∀ s r, P s → s.carve h (4 * h + 1) 4 = some r → P r.1)
    (hp : ∀ (s : State) dies, P s → P { s with pools := { s.pools with nextDie := dies } }) (n : Nat) {s : State} (hs : P s) :
    P (State.carvePlan n s h).1 := by
  obtain ⟨carve, hcarve⟩ : ∃ f, f = State.carve := exists_eq
  delta State.carvePlan State.carvePlan._f
  rw [← hcarve] at hc ⊢
  induction n generalizing s with
  | zero => exact hs
  | succ n ih =>
    dsimp only [Nat.brecOn]
    split
    · exact hs
    next e => exact ih (hp _ _ (hc _ _ hs e))

/-- Between `s` and `t` tiles, pools and domains have come in line with reservations: other objects, and what hoops and groups hold, are
as they were. -/
structure Reserves (s t : State) : Prop where
  objs : WritesIn reserveTables s t
  work : t.work = s.work

namespace Reserves

variable {s t : State}

protected theorem rfl : Reserves s s := ⟨.rfl, rfl⟩

theorem hoop (h : Reserves s t) (i : Nat) : t.hoop i = s.hoop i := by rw [State.hoop, h.work, State.hoop]

theorem group (h : Reserves s t) (g : Nat) : t.group g = s.group g := by rw [State.group, h.work, State.group]

theorem keep (h : Reserves s t) {u : State} (hd : u.dict = t.dict) (hw : u.work = t.work) : Reserves s u :=
  ⟨h.objs.keep hd, hw.trans h.work⟩

theorem setNum (h : Reserves s t) {k : Nat} (hk : Written reserveTables k) (n : Nat) : Reserves s (t.setNum k n) :=
  ⟨h.objs.set hk _, h.work⟩

theorem branch {c : Prop} [Decidable c] {u v : State} (hu : Reserves s u) (hv : Reserves s v) : Reserves s (if c then u else v) := by
  split
  · exact hu
  · exact hv

theorem each {α : Type} (h : Reserves s t) (l : List α) {f : State → α → State} (hf : ∀ u x, Reserves s u → Reserves s (f u x)) :
    Reserves s (t.each l f) :=
  State.each_keeps _ f hf l t h

theorem settleDomain (h : Reserves s t) (d : Nat) : Reserves s (t.settleDomain d) :=
  ⟨h.objs.trans fun j hj => (BroughtInLine.rfl.settleDomain d).obj j fun hf => hj hf.written, (t.settleDomain_work d).trans h.work⟩

theorem settleMemoryDomains (h : Reserves s t) : Reserves s t.settleMemoryDomains := h.each _ fun _ i hu => hu.settleDomain (64 + i)

theorem settleTileDomain (h : Reserves s t) (i : Nat) : Reserves s (t.settleTileDomain i) := (h.settleDomain _).settleDomain _

theorem ownTile (h : Reserves s t) (x i : Nat) : Reserves s (t.ownTile x i) := by
  unfold State.ownTile
  extract_lets d s1 s2 s3
  have h1 : Reserves s s1 := h.setNum (.linear (by decide)) _
  have h2 : Reserves s s2 := branch (h1.setNum (.linear (by decide)) _) h1
  have h3 : Reserves s s3 := branch (h2.setNum (.linear (by decide)) _) h2
  exact (h3.setNum (.linear (by decide)) _).settleTileDomain i

theorem disownTile (h : Reserves s t) (i : Nat) : Reserves s (t.disownTile i) := by
  unfold State.disownTile
  extract_lets d x s1 s2 power s3 s4
  have h1 : Reserves s s1 := (h.keep (u := t.setTile i _) rfl rfl).setNum (.linear (by decide)) _
  have h2 : Reserves s s2 := branch h1 (h1.setNum (.linear (by decide)) _)
  have h3 : Reserves s s3 := h2.keep rfl rfl
  have h4 : Reserves s s4 := branch (h3.setNum (.linear (by decide)) _) h3
  exact (h4.setNum (.linear (by decide)) _).settleTileDomain i

theorem setTiles (h : Reserves s t) (x mask : Nat) : Reserves s (t.setTiles x mask) :=
  (h.each _ fun _ i hu => hu.disownTile i).each _ fun _ i hu => hu.ownTile x i

theorem countCapacity (h : Reserves s t) : Reserves s t.countCapacity := h.setNum (.single (by decide)) _

theorem countPools (h : Reserves s t) (x : Nat) : Reserves s (t.countPools x) := by
  unfold State.countPools
  refine Reserves.each (((((h.setNum (.single (by decide)) _).each _ ?free).setNum (.single (by decide)) _).setNum
    (.linear (by decide)) _).setNum (.linear (by decide)) _) _ ?inUse
  case free => exact fun _ _ hu => hu.setNum (.linear (by decide)) _
  case inUse =>
    exact fun _ _ hu => (((hu.setNum (.linear (by decide)) _).setNum (.linear (by decide)) _).setNum (.linear (by decide)) _).setNum
      (.linear (by decide)) _

theorem returnFrame (h : Reserves s t) (key : Nat) : Reserves s (t.returnFrame key) := h.keep rfl rfl

theorem trimFrame (h : Reserves s t) (x c key : Nat) : Reserves s (t.trimFrame x c key) := by
  unfold State.trimFrame
  split
  · exact h
  · exact branch (h.returnFrame key) h

theorem trim (h : Reserves s t) (x c : Nat) : Reserves s (t.trim x c) := h.each _ fun _ y hu => hu.trimFrame x c y.1

theorem carve (h : Reserves s t) {x owner c : Nat} {r : State × Nat} (e : t.carve x owner c = some r) : Reserves s r.1 := by
  obtain ⟨m, -, hm⟩ := List.exists_of_findSome?_eq_some e
  obtain ⟨f, -, rfl⟩ := Option.map_eq_some_iff.1 hm
  exact h.keep rfl rfl

theorem back (h : Reserves s t) (n x c : Nat) : Reserves s (State.back n t x c) :=
  State.back_keeps _ (fun _ _ hu e => hu.carve e) n h

theorem carvePlan (h : Reserves s t) (n x : Nat) : Reserves s (State.carvePlan n t x).1 :=
  State.carvePlan_keeps _ (fun _ _ hu e => hu.carve e) (fun _ _ hu => hu.keep rfl rfl) n h

theorem settlePool (h : Reserves s t) (x c : Nat) : Reserves s (t.settlePool x c) := ((h.back _ x c).trim x c).countPools x

theorem settleBacking (h : Reserves s t) (x : Nat) : Reserves s (t.settleBacking x) :=
  ((h.each _ fun _ c hu => (hu.back _ x c).trim x c).setNum (.linear (by decide)) _).countPools x

end Reserves

end Sys2Proof

namespace Sys2Proof

open Sys2Proof.Machine

/-! ### Commands that report in a status object -/

@[simp] theorem Machine.State.served_hoop (s : State) (rq : Requester) (k h : Nat) : (s.served rq k).hoop h = s.hoop h := by
  simp [State.hoop]

@[simp] theorem Machine.State.setNum_hoop (s : State) (k n h : Nat) : (s.setNum k n).hoop h = s.hoop h := rfl

theorem AnsweredFrom.hoop {u t : State} (h : AnsweredFrom u t) (i : Nat) : t.hoop i = u.hoop i := by
  obtain ⟨_, _, _, rfl⟩ := h
  rfl

theorem AnsweredFrom.group {u t : State} (h : AnsweredFrom u t) (g : Nat) : t.group g = u.group g := by
  obtain ⟨_, _, _, rfl⟩ := h
  rfl

/-- A command that reports leaves its own state, its status object and its answer (R404). -/
theorem Completes.of_reported {c : Instr} {s u : State} {rq : Requester} {k key st : Nat} {v : Val} {f : State → State × Nat}
    {post : State → Prop} (hc : exec c s = .next (s.request rq k v none (reported key f))) (ha : Accepts s rq k v none)
    (hf : f (s.served rq k) = (u, st))
    (hp : ∀ t, AnsweredFrom (u.setNum key st) t → t.num key = st → Answered rq St.ok t → post t) : Completes c s post :=
  .of_request hc ha (reported_eq hf) fun t ht hst => hp t ht ((ht.num key).trans (State.num_setNum_same ..)) hst

/-! ### A HoopCommand without a row (R29) -/

/-- Settles O11: in a state without a row each command is refused by its own condition on HoopState, which reports the refusal and
nothing else. -/
theorem hoopCommandWithoutARowIsRefused : Obligations.HoopCommandWithoutARowIsRefused := by
  unfold Obligations.HoopCommandWithoutARowIsRefused
  intro rq h s
  dsimp only
  refine ⟨fun ha h0 => ?configure, fun ha h1 => ?admission, fun ha h1 h4 => ?start, fun ha h2 => ?drain, fun ha h2 h4 h6 he => ?evacuate,
    fun ha h4 => ?unbind, fun ha h1 h4 h6 => ?release⟩
  case configure => exact .of_reported_refused rfl ha (by simp [State.configure, refuse, h0])
  case admission => exact .of_reported_refused rfl ha (by simp [State.admitJob, refuse, h1])
  case start => exact .of_reported_refused rfl ha (by simp [State.start, refuse, h1, h4])
  case drain => exact .of_reported_refused rfl ha (by simp [State.drainCommand, refuse, h2])
  case evacuate =>
    exact .of_reported_refused rfl ha (by simp [State.evacuateCommand, refuse, he, h2, h4, h6])
  case unbind => exact .of_reported_refused rfl ha (by simp [State.unbind, refuse, h4])
  case release => exact .of_reported_refused rfl ha (by simp [State.release, refuse, h1, h4, h6])

end Sys2Proof

namespace Sys2Proof

open Sys2Proof.Machine

/-! ### Configure and Admit (R27, R31, R33, R197) -/

theorem Machine.State.reserveCheck_served (s : State) (rq : Requester) (k h mask capacity contexts : Nat) :
    (s.served rq k).reserveCheck h mask capacity contexts = s.reserveCheck h mask capacity contexts := by
  obtain ⟨c, p, e⟩ := s.served_only rq k
  rw [e]
  rfl

theorem Machine.State.furtherFrames_served (s : State) (rq : Requester) (k h : Nat) :
    (s.served rq k).furtherFrames h = s.furtherFrames h := by
  simp [State.furtherFrames]

/-- Writes of bytes to module memory change memory and the lines that read bad, and nothing else. -/
theorem Machine.State.storePieces_only (l : List (Nat × Nat)) (b : Bytes) (s : State) :
    ∃ m x, s.storePieces l b = { s with mem := m, memory := x } := by
  induction l generalizing s b with
  | nil => exact ⟨_, _, rfl⟩
  | cons e l ih =>
    obtain ⟨m, x, h⟩ := ih (b.drop e.2) (s.store e.1 (b.take e.2))
    exact ⟨m, x, h⟩

theorem Machine.State.writePlan_only (s : State) (h b parity off : Nat) (data : Bytes) :
    ∃ m x, s.writePlan h b parity off data = { s with mem := m, memory := x } :=
  s.storePieces_only _ _

theorem Reserves.foldl {α β : Type} {s : State} {f : State × β → α → State × β}
    (hf : ∀ r x, Reserves s r.1 → Reserves s (f r x).1) (l : List α) {r : State × β} (hr : Reserves s r.1) :
    Reserves s (l.foldl f r).1 := by
  induction l generalizing r with
  | nil => exact hr
  | cons x l ih => exact ih (hf r x hr)

theorem Reserves.writePlan {s t : State} (hs : Reserves s t) (h b parity off : Nat) (data : Bytes) :
    Reserves s (t.writePlan h b parity off data) := by
  obtain ⟨m, x, e⟩ := t.writePlan_only h b parity off data
  exact hs.keep (by rw [e]) (by rw [e])

/-- Holding a plan's frames binds the plan; beside the frames, and what is written to them, the hoop is as it was. `carvePlan` stands as
a variable, as `carve` does in `back_keeps`. -/
theorem Machine.State.allocatePlan_binds (s : State) (h : Nat) :
    ∃ u frames, Reserves s u ∧ Reserves (u.setHoop h { u.hoop h with planFrames := frames, bound := true }) (s.allocatePlan h) := by
  have hc (n t) (ht : Reserves s t) : Reserves s (State.carvePlan n t h).1 := ht.carvePlan n h
  unfold State.allocatePlan
  obtain ⟨carve, hcarve⟩ : ∃ f, f = State.carvePlan := exists_eq
  rw [← hcarve] at hc ⊢
  extract_lets p r s1
  have hr : Reserves s r.1 := Reserves.foldl (fun _ _ hx => by exact hc _ _ hx) _ .rfl
  refine ⟨r.1, r.2, hr, Reserves.each .rfl _ fun u b hu => ?_⟩
  dsimp only
  split
  · exact hu
  · exact hu.writePlan ..

section
variable {s : State} {h : Nat}

/-- Configure where the checks of R31 pass: the hoop is Configured, and the rest brings tiles, pools and domains in line. -/
theorem Machine.State.configure_ok (h0 : s.num (Obj.hoopState h) = 0)
    (hc : s.reserveCheck h (s.num (Obj.hoopTileMask h)) (s.num (Obj.hoopMemoryCapacity h)) (s.num (Obj.hoopContextMinimum h)) =
      (St.ok, 0)) :
    ∃ u, s.configure h = (u, St.ok) ∧
      Reserves (((s.setNum (Obj.admissionShortfall h) 0).setNum (Obj.hoopState h) 1).setNum (Obj.hoopFrameLimit h)
        (s.num (Obj.hoopMemoryCapacity h) / frameBytes)) u := by
  unfold State.configure
  simp only [h0, hc, ne_eq, not_true_eq_false, if_false]
  exact ⟨_, rfl, (((Reserves.rfl.setTiles _ _).settleBacking _).countCapacity).settleMemoryDomains⟩

/-- Configure where a check of R31 fails: AdmissionShortfall shows the excess. -/
theorem Machine.State.configure_fails {st excess : Nat} (h0 : s.num (Obj.hoopState h) = 0)
    (hc : s.reserveCheck h (s.num (Obj.hoopTileMask h)) (s.num (Obj.hoopMemoryCapacity h)) (s.num (Obj.hoopContextMinimum h)) =
      (st, excess)) (hst : st ≠ St.ok) : s.configure h = (s.setNum (Obj.admissionShortfall h) excess, st) := by
  unfold State.configure
  simp [h0, hc, hst]

/-- Admit where the job's need exceeds the capacity (R33). -/
theorem Machine.State.admitJob_short (h1 : s.num (Obj.hoopState h) = 1) (hp : (s.hoop h).plan ≠ []) (hb : (s.hoop h).bound = false)
    (hn : s.num (Obj.hoopMemoryCapacity h) < s.num (Obj.jobDeclaredMemory h)) :
    s.admitJob h = (s.setNum (Obj.admissionShortfall h) (s.num (Obj.jobDeclaredMemory h) - s.num (Obj.hoopMemoryCapacity h)),
      St.capacityShortfall) := by
  unfold State.admitJob
  simp [h1, hp, hb, hn]

/-- Admit where need and frames fit (R33, R197): the plan is bound, and nothing is short. -/
theorem Machine.State.admitJob_ok (h1 : s.num (Obj.hoopState h) = 1) (hp : (s.hoop h).plan ≠ []) (hb : (s.hoop h).bound = false)
    (hn : s.num (Obj.jobDeclaredMemory h) ≤ s.num (Obj.hoopMemoryCapacity h))
    (hf : planFrameCount (s.hoop h).plan + s.num (Obj.hoopBackingFrames h) + s.furtherFrames h ≤ s.num (Obj.hoopFrameLimit h)) :
    ∃ u, s.admitJob h = (u, St.ok) ∧ (u.hoop h).bound = true ∧ (u.hoop h).plan = (s.hoop h).plan ∧
      u.num (Obj.admissionShortfall h) = 0 ∧ u.num (Obj.hoopState h) = s.num (Obj.hoopState h) := by
  obtain ⟨v, frames, hv, hw⟩ := s.allocatePlan_binds h
  have hw := hw.countPools h
  unfold State.admitJob
  simp only [h1, hp, hb, ne_eq, not_true_eq_false, false_or, Bool.false_eq_true, if_false, not_lt.2 hn, not_lt.2 hf]
  generalize (s.allocatePlan h).countPools h = w at hw ⊢
  refine ⟨_, rfl, ?_⟩
  have hu : Reserves (w.setNum (Obj.admissionShortfall h) 0) ((w.setNum (Obj.admissionShortfall h) 0).each (List.range 4) fun t k =>
      t.setNum (Obj.poolHighWater (4 * h + k)) (t.framesAbove h k)) :=
    Reserves.each .rfl _ fun _ _ hx => hx.setNum (.linear (by decide)) _
  have hh : w.hoop h = { v.hoop h with planFrames := frames, bound := true } := by
    rw [hw.hoop, State.hoop_setHoop_same]
  refine ⟨?bound, ?plan, ?short, ?state⟩
  case bound => rw [hu.hoop, State.setNum_hoop, hh]
  case plan => rw [hu.hoop, State.setNum_hoop, hh, hv.hoop]
  case short => exact (hu.objs.linear (by decide)).trans (State.num_setNum_same ..)
  case state =>
    calc
      _ = (w.setNum (Obj.admissionShortfall h) 0).num (Obj.hoopState h) := hu.objs.linear (by decide)
      _ = w.num (Obj.hoopState h) := State.num_setNum_other _ _ (linearUnit_ne (by decide))
      _ = v.num (Obj.hoopState h) := hw.objs.linear (by decide)
      _ = s.num (Obj.hoopState h) := hv.objs.linear (by decide)
      _ = 1 := h1

end

end Sys2Proof

namespace Sys2Proof

open Sys2Proof.Machine

/-! ### Release (R27, R43) -/

/-- An object that Release takes to its default holds it afterwards. -/
theorem obj_of_filtered {s t : State} {p : Nat → Bool} {k : Nat} (hd : t.dict = s.dict.filter fun c => !p c.1) (hk : p k = true) :
    t.obj k = objDefault k := by
  rw [State.obj, hd]
  exact (Map.get_clear _ p s.dict k).trans (if_pos hk)

/-- The objects of R30 belong to their hoop. -/
theorem Machine.State.ownerHoop_hoopTable (s : State) (h : Hoop) {sub : Nat} (hs : sub < 256) :
    s.ownerHoop (linearUnit 0x2100 sub 16 h) = some h.val := by
  have hh := h.isLt
  have hk : linearUnit 0x2100 sub 16 h / 256 = 0x2100 + h := by
    rw [linearUnit_of_lt h.isLt, linearKey]
    omega
  have hb : hoopIndexBases.find? (fun b => decide (b ≤ 0x2100 + h.val ∧ 0x2100 + h.val < b + 16)) = some 0x2100 :=
    List.find?_cons_of_pos (by simp; omega)
  simp only [State.ownerHoop, hk, hb, Nat.add_sub_cancel_left]

/-- Release takes the objects of R30 that are not of class P to their defaults. -/
theorem Machine.State.releasedKey_hoopTable (s : State) (h : Hoop) {sub : Nat} (hs : sub < 256)
    (hr : retentionOf (linearUnit 0x2100 sub 16 h) ≠ .p) : s.releasedKey h (linearUnit 0x2100 sub 16 h) = true := by
  have hk : linearUnit 0x2100 sub 16 h / 256 = 0x2100 + h := by
    rw [linearUnit_of_lt h.isLt, linearKey]
    omega
  have hh := h.isLt
  simp [State.releasedKey, s.ownerHoop_hoopTable h hs, hk, hr]
  omega

/-- HoopState and HoopMemoryCapacity are not of class P, and their defaults are 0 (R30). -/
theorem releasedObjects_rows (h : Hoop) : retentionOf (Obj.hoopState h) ≠ .p ∧ retentionOf (Obj.hoopMemoryCapacity h) ≠ .p ∧
    State.reset.num (Obj.hoopState h) = 0 ∧ State.reset.num (Obj.hoopMemoryCapacity h) = 0 := by
  revert h; decide +kernel

/-- What Release cuts short ends in status objects alone (R159, R476). -/
theorem Machine.State.abortJobs_writes (s : State) (h : Nat) (x : HoopData) :
    WritesIn [⟨0x4200, 0x0A, 16, false⟩, ⟨0x4200, 0x06, 16, false⟩, ⟨0x2100, 0x0D, 16, false⟩] s (s.abortJobs h x) ∧
      (s.abortJobs h x).work = s.work := by
  unfold State.abortJobs
  extract_lets s1
  have h1 : WritesIn [⟨0x4200, 0x0A, 16, false⟩, ⟨0x4200, 0x06, 16, false⟩, ⟨0x2100, 0x0D, 16, false⟩] s s1 ∧ s1.work = s.work := by
    unfold s1
    split
    · split
      · exact ⟨WritesIn.rfl.set (.linear (by decide)) _, rfl⟩
      · exact ⟨WritesIn.rfl.set (.linear (by decide)) _, rfl⟩
    · exact ⟨.rfl, rfl⟩
  split
  · exact ⟨h1.1.set (.linear (by decide)) _, h1.2⟩
  · exact h1

/-- A released hoop is Empty, without a reservation and without data. -/
theorem Machine.State.releaseHoop_empties (s : State) (h : Hoop) :
    (s.releaseHoop h).num (Obj.hoopState h) = 0 ∧ (s.releaseHoop h).num (Obj.hoopMemoryCapacity h) = 0 ∧
      (s.releaseHoop h).hoop h = {} := by
  unfold State.releaseHoop
  extract_lets s1 s2 s3 s4 s5 meter net s6
  obtain ⟨ha, hw⟩ := (s6.setHoop h {}).abortJobs_writes h (s.hoop h)
  have hr : Reserves ((s6.setHoop h {}).abortJobs h (s.hoop h)) _ := Reserves.rfl.countCapacity.settleMemoryDomains
  obtain ⟨hps, hpc, hstate, hcapacity⟩ := releasedObjects_rows h
  have hd : s6.dict = s5.dict.filter fun c => !s.releasedKey h c.1 := rfl
  refine ⟨?state, ?capacity, ?data⟩
  case state =>
    calc
      _ = ((s6.setHoop h {}).abortJobs h (s.hoop h)).num (Obj.hoopState h) := hr.objs.linear (by decide)
      _ = s6.num (Obj.hoopState h) := ha.linear (by decide)
      _ = State.reset.num (Obj.hoopState h) := congrArg Val.toNat
        (obj_of_filtered hd (s.releasedKey_hoopTable h (by decide) hps))
      _ = 0 := hstate
  case capacity =>
    calc
      _ = ((s6.setHoop h {}).abortJobs h (s.hoop h)).num (Obj.hoopMemoryCapacity h) := hr.objs.linear (by decide)
      _ = s6.num (Obj.hoopMemoryCapacity h) := ha.linear (by decide)
      _ = State.reset.num (Obj.hoopMemoryCapacity h) := congrArg Val.toNat
        (obj_of_filtered hd (s.releasedKey_hoopTable h (by decide) hpc))
      _ = 0 := hcapacity
  case data => rw [hr.hoop, State.hoop, hw, ← State.hoop, State.hoop_setHoop_same]

end Sys2Proof

namespace Sys2Proof

open Sys2Proof.Machine

/-! ### What the end of operations leaves alone (R27, R57, R63, R202)

Operations that end, buffers that are freed and hoops that fault call one another. `Settled` says what none of them changes: the objects
beside `endTables`, and the membership of the groups. One lemma for each function of the model, in the model's order. -/

/-- The objects of the event log and of the commit that an event starts (R422, R457). -/
def eventTables : List ObjTable :=
  [⟨0xE000, 0x01, 1, false⟩, ⟨0xE000, 0x02, 1, false⟩, ⟨0xE000, 0x05, 1, false⟩, ⟨0xE000, 0x09, 1, false⟩, ⟨0xE000, 0x0A, 1, false⟩,
    ⟨0x1200, 0x02, 1, false⟩, ⟨0x1200, 0x04, 1, false⟩]

/-- The counts of uncorrectable reads, and the events that report them (R184). -/
def readTables : List ObjTable := eventTables ++ [⟨0x5100, 0x02, 640, true⟩, ⟨0x5000, 0x0E, 1, false⟩]

/-- The objects that the end of operations, the freeing of buffers and a hoop fault may write: beside what follows from the
reservations and what failed reads leave, the states and counters of hoops, groups, contexts and windows (R30, R45, R62, R225),
evacuations and shadows (R30, R339), and queue pairs (R226). -/
def endTables : List ObjTable :=
  reserveTables ++ (readTables ++
    [⟨0x2100, 0x01, 16, false⟩, ⟨0xE020, 0x01, 16, false⟩, ⟨0xE020, 0x02, 16, false⟩, ⟨0x3100, 0x00, 4096, true⟩,
      ⟨0x3100, 0x0D, 4096, true⟩, ⟨0x3000, 0x02, 1, false⟩, ⟨0x3020, 0x02, 16, false⟩, ⟨0x3040, 0x04, 16, false⟩,
      ⟨0x6100, 0x00, 16384, true⟩, ⟨0x6080, 0x03, 16, false⟩, ⟨0x2100, 0x0C, 16, false⟩, ⟨0x2100, 0x0D, 16, false⟩,
      ⟨0xA020, 0x09, 16, false⟩, ⟨0xA020, 0x0A, 16, false⟩, ⟨0x6500, 0x07, 16384, true⟩, ⟨0x6500, 0x0D, 16384, true⟩,
      ⟨0x6080, 0x05, 16, false⟩, ⟨0x5200, 0x04, 1, false⟩])

/-- An event's objects are among those of the tables. -/
theorem written_of_eventKeys {j : Nat} (h : j ∈ eventKeys) : Written eventTables j := by
  simp only [eventKeys, List.mem_cons, List.not_mem_nil, or_false] at h
  rcases h with rfl | rfl | rfl | rfl | rfl | rfl | rfl <;> exact .single (by decide)

theorem Machine.State.vector_only (s : State) (v : Nat) : ∃ c o, s.vector v = { s with control := c, out := o } := by
  unfold State.vector
  split <;> exact ⟨_, _, rfl⟩

theorem Machine.State.signalEvent_only (s : State) (e : EventEntry) :
    ∃ d c v o, s.signalEvent e = { s with dict := d, control := c, events := v, out := o } := by
  have hv : ∃ c o, (if s.num Obj.eventIrqSeverity ≤ e.severity then s.vector 1 else s) = { s with control := c, out := o } := by
    split
    · exact s.vector_only 1
    · exact ⟨_, _, rfl⟩
  obtain ⟨c, o, hv⟩ := hv
  unfold State.signalEvent
  rw [hv]
  dsimp only
  split <;> exact ⟨_, _, _, _, rfl⟩

theorem Machine.State.logEvent_only (s : State) (code : Nat) (a : EventArgs) :
    ∃ d c v o, s.logEvent code a = { s with dict := d, control := c, events := v, out := o } := by
  unfold State.logEvent
  dsimp only
  split
  · exact ⟨_, _, _, _, rfl⟩
  · obtain ⟨d, c, v, o, h⟩ := State.signalEvent_only (State.enterEvent { s with events := { s.events with
      lastSeen := Map.put 0 s.events.lastSeen code s.now } } (s.eventEntry code a)) (s.eventEntry code a)
    rw [h]
    unfold State.enterEvent
    dsimp only
    split <;> exact ⟨_, _, _, _, rfl⟩

theorem Machine.State.beginCommit_only (s : State) (rq : Option Requester) :
    ∃ d c v o, s.beginCommit rq = { s with dict := d, control := c, events := v, out := o } := by
  unfold State.beginCommit
  split
  · exact ⟨_, _, _, _, rfl⟩
  · split
    · exact State.logEvent_only ..
    · exact ⟨_, _, _, _, rfl⟩

theorem Machine.State.setP_only (s : State) (k : Nat) (v : Val) : ∃ d c, s.setP k v = { s with dict := d, control := c } := by
  unfold State.setP State.markWrite
  split <;> exact ⟨_, _, rfl⟩

/-- An event changes objects, the control plane, the event log and the signals sent, and nothing else. -/
theorem Machine.State.raise_only (s : State) (code : Nat) (a : EventArgs) :
    ∃ d c v o, s.raise code a = { s with dict := d, control := c, events := v, out := o } := by
  obtain ⟨d, c, v, o, h⟩ := s.logEvent_only code a
  unfold State.raise
  rw [h]
  dsimp only
  split
  · exact ⟨_, _, _, _, rfl⟩
  · obtain ⟨d', c', h'⟩ := State.setP_only { s with dict := d, control := c, events := v, out := o } Obj.eventCriticalRecord
      (.blob ((State.bytes { s with dict := d, control := c, events := v, out := o } Obj.eventCriticalRecord ++
        (s.eventEntry code a).encode).drop ((State.bytes { s with dict := d, control := c, events := v, out := o }
          Obj.eventCriticalRecord ++ (s.eventEntry code a).encode).length - 512)))
    rw [h']
    exact State.beginCommit_only ..

/-- Of the objects, only those of the tables may differ between `s` and `t`, and every group has the members it had. -/
structure Settled (l : List ObjTable) (s t : State) : Prop where
  objs : WritesIn l s t
  members : ∀ g, (t.group g).members = (s.group g).members

namespace Settled

section Shape

variable {l : List ObjTable} {s t u : State}

protected theorem rfl : Settled l s s := ⟨.rfl, fun _ => rfl⟩

theorem trans (h : Settled l s t) (h' : Settled l t u) : Settled l s u :=
  ⟨h.objs.trans h'.objs, fun g => (h'.members g).trans (h.members g)⟩

theorem mono {l' : List ObjTable} (h : Settled l s t) (hl : l ⊆ l') : Settled l' s t := ⟨h.objs.mono hl, h.members⟩

/-- What writes no object and changes of the work in hand no group. -/
theorem keepGroups {pending mem out freeCtr control events boot security meter line time work pools tiles fabric memory optics net power}
    (h : Settled l s t) (hg : work.groups = t.work.groups) : Settled l s ⟨pending, t.dict, mem, out, freeCtr, control, events,
      boot, security, meter, line, time, work, pools, tiles, fabric, memory, optics, net, power⟩ :=
  ⟨h.objs.keep rfl, fun g => by
    rw [← h.members g, State.group, State.group]
    exact congrArg (fun m => (Map.get ({} : GroupData) m g).members) hg⟩

/-- What writes no object and leaves the work in hand as it was. -/
theorem keep {pending mem out freeCtr control events boot security meter line time pools tiles fabric memory optics net power}
    (h : Settled l s t) : Settled l s ⟨pending, t.dict, mem, out, freeCtr, control, events,
      boot, security, meter, line, time, t.work, pools, tiles, fabric, memory, optics, net, power⟩ := h.keepGroups rfl

theorem set (h : Settled l s t) {k : Nat} (hk : Written l k) (v : Val) : Settled l s (t.set k v) := ⟨h.objs.set hk v, h.members⟩

theorem setNum (h : Settled l s t) {k : Nat} (hk : Written l k) (n : Nat) : Settled l s (t.setNum k n) := h.set hk _

theorem bump (h : Settled l s t) {k : Nat} (hk : Written l k) (w n : Nat) : Settled l s (t.bump w k n) := h.set hk _

theorem lower (h : Settled l s t) {k : Nat} (hk : Written l k) (n : Nat) : Settled l s (t.lower k n) := h.set hk _

theorem setGroup (h : Settled l s t) (g : Nat) {x : GroupData} (hx : x.members = (t.group g).members) :
    Settled l s (t.setGroup g x) := by
  refine ⟨h.objs.keep rfl, fun j => ?_⟩
  by_cases hj : j = g
  · rw [hj, State.group_setGroup_same, hx, h.members]
  · rw [State.group_setGroup_other _ _ hj, h.members]

theorem setHoop {i : Nat} {y : HoopData} (h : Settled l s t) : Settled l s (t.setHoop i y) := h.keepGroups rfl

theorem ite {c : Prop} [Decidable c] {u v : State} (hu : Settled l s u) (hv : Settled l s v) : Settled l s (if c then u else v) := by
  split
  · exact hu
  · exact hv

theorem each {α : Type} (h : Settled l s t) (xs : List α) {f : State → α → State}
    (hf : ∀ u x, Settled l s u → Settled l s (f u x)) : Settled l s (t.each xs f) :=
  State.each_keeps _ f hf xs t h

end Shape

variable {s t : State}

theorem reserves (h : Settled endTables s t) {u : State} (h' : Reserves t u) : Settled endTables s u :=
  h.trans ⟨h'.objs.mono (List.subset_append_left _ _), fun g => by rw [h'.group]⟩

/-- An event, where its objects are among those of the tables. -/
theorem raise_in {l : List ObjTable} (hl : eventTables ⊆ l) (h : Settled l s t) (code : Nat) (a : EventArgs) :
    Settled l s (t.raise code a) := by
  refine h.trans ⟨fun j hj => t.raise_obj code a fun hk => hj ((written_of_eventKeys hk).mono hl), fun g => ?_⟩
  obtain ⟨_, _, _, _, e⟩ := t.raise_only code a
  rw [e]
  rfl

theorem raise (h : Settled endTables s t) (code : Nat) (a : EventArgs) : Settled endTables s (t.raise code a) :=
  h.raise_in (by decide) code a

section Shared

variable {k x c key w q a b n i : Nat}

theorem enqueue {l : List ObjTable} {r : EmitRequest} (h : Settled l s t) : Settled l s (t.enqueue w r) := ite h.keep h.keep

/-! ### The functions of PoolOps and MemoryOps -/

theorem countPools (h : Settled endTables s t) : Settled endTables s (t.countPools x) := h.reserves (Reserves.rfl.countPools x)

theorem trim (h : Settled endTables s t) : Settled endTables s (t.trim x c) := h.reserves (Reserves.rfl.trim x c)

theorem countWaiting (h : Settled endTables s t) : Settled endTables s (t.countWaiting x k) := h.setNum (.linear (by decide)) _

theorem endEpisode (h : Settled endTables s t) : Settled endTables s (t.endEpisode x k) :=
  ite h.countWaiting.keep h.countWaiting

theorem dropWaiting {p : PoolRequest → Bool} (h : Settled endTables s t) : Settled endTables s (t.dropWaiting p) :=
  h.keep.each _ fun _ _ hu => hu.endEpisode.trim.countPools

theorem refuseFree {handle : Nat} {holder : Option Nat} (h : Settled endTables s t) :
    Settled endTables s (t.refuseFree x handle holder) := by
  unfold State.refuseFree
  extract_lets frame die s1
  have h1 : Settled endTables s s1 := (h.bump (.single (by decide)) _ _).raise _ _
  split
  · exact h1.keep
  · exact h1

theorem freeHandle {handle : Nat} {u : State} (h : Settled endTables s t) (e : t.freeHandle x handle = .freed u) :
    Settled endTables s u := by
  unfold State.freeHandle at e
  split at e
  · nomatch e
  · dsimp only at e
    split at e
    · nomatch e
    · cases e
      exact h.keep.trim.countPools

theorem freeEach {handles : List Nat} (h : Settled endTables s t) : Settled endTables s (t.freeEach x handles) := by
  refine h.each _ fun u y hu => ?_
  split
  next e => exact hu.freeHandle e
  · exact hu.refuseFree

theorem keepFor {g : Option Nat} {handles : List Nat} (h : Settled endTables s t) : Settled endTables s (t.keepFor g handles) := by
  refine h.each _ fun u y hu => ?_
  split
  · exact hu
  · split
    · exact hu
    · exact hu.keep

theorem letGo {handles : List Nat} {keep : Option Nat} (h : Settled endTables s t) :
    Settled endTables s (t.letGo x keep handles) := ite h.keepFor h.freeEach

/-- Reads that fail, where their counts and an event's objects are among those of the tables (R184). -/
theorem noteBadLines_in {l : List ObjTable} (hl : readTables ⊆ l) {lines : List Nat} (h : Settled l s t) :
    Settled l s (t.noteBadLines lines) := by
  refine h.each _ fun t line h => ?_
  unfold State.noteUncorrectable
  extract_lets s1 y net memory s2 due
  have h1 : Settled l s s1 := (h.bump (.mono (.packed (by decide)) hl) _ _).bump (.mono (.single (by decide)) hl) _ _
  have h2 : Settled l s s2 := h1.keep
  split
  · exact h2.keep.raise_in (fun x hx => hl (List.mem_append_left _ hx)) _ _
  · exact h2

theorem noteBadLines {lines : List Nat} (h : Settled endTables s t) : Settled endTables s (t.noteBadLines lines) :=
  h.noteBadLines_in (by decide)

theorem clearLines {lines : List Nat} (h : Settled endTables s t) : Settled endTables s (t.clearLines lines) := ite h h.keep

/-! ### The functions of FabricOps -/

theorem solicit (h : Settled endTables s t) : Settled endTables s (t.solicit q) := ite h h.keep

theorem sendPacket {y : FabricPacket} (h : Settled endTables s t) : Settled endTables s (t.sendPacket q y) :=
  (h.keep.bump (.packed (by decide)) _ _).bump (.linear (by decide)) _ _

theorem markLeft {p : FabricPacket → Bool} {left : Bool} (h : Settled endTables s t) : Settled endTables s (t.markLeft q p left) :=
  h.keep

theorem sendWhere {p : FabricPacket → Bool} (h : Settled endTables s t) : Settled endTables s (t.sendWhere q p) :=
  ite h (ite (h.each _ fun _ _ hu => hu.sendPacket).markLeft (ite h.markLeft.solicit h.markLeft))

theorem rdmaWrite {address : Nat} {data : Bytes} {result : Option (Nat × Nat × Nat)} (h : Settled endTables s t) :
    Settled endTables s (t.rdmaWrite q address key data result) :=
  (h.keep.setNum (.packed (by decide)) _).sendWhere

theorem writeTarget {off : Nat} {data : Bytes} {result : Option (Nat × Nat × Nat)} {u : State} (h : Settled endTables s t)
    (e : t.writeTarget x i off data result = some u) : Settled endTables s u := by
  obtain ⟨q, -, rfl⟩ := Option.map_eq_some_iff.1 e
  exact h.rdmaWrite

theorem endLanding {gen : Nat} {keep : Option Nat} (h : Settled endTables s t) : Settled endTables s (t.endLanding x w gen i keep) :=
  (h.keepGroups (by rfl)).letGo

end Shared

end Settled

end Sys2Proof

namespace Sys2Proof

open Sys2Proof.Machine

namespace Settled

variable {s t : State} {cause g gen i q status step unit w x : Nat} {keep : Bool} {o : Operation} {r : Retained}

/-! ### The functions of HoopOps -/

theorem writeRecord {d : Bytes} {type flags : Nat} {chunk : Option Nat} {place chunksDone : Nat} (h : Settled endTables s t) :
    Settled endTables s (t.writeRecord g d type flags status chunk place chunksDone) := by
  unfold State.writeRecord
  dsimp only
  split
  · exact h
  · exact ite h.rdmaWrite.rdmaWrite h.rdmaWrite

theorem emitTo {l : List ObjTable} {vc address opSequence epochTag : Nat} {tail payload : Bytes}
    {operation : Option (Nat × Nat × Nat)} {ticket : Option EmitTicket} (h : Settled l s t) :
    Settled l s (t.emitTo x vc address opSequence epochTag tail payload operation ticket) := h.enqueue

theorem leaveTile {c : Nat × Nat × Nat} (h : Settled endTables s t) : Settled endTables s (t.leaveTile i c) :=
  ite (h.keep.setNum (.linear (by decide)) _) h.keep

theorem setOp (h : Settled endTables s t) : Settled endTables s (t.setOp g o) := h.setGroup g (by rfl)

theorem advanceGen (h : Settled endTables s t) : Settled endTables s (t.advanceGen w i gen) := ite h (h.keepGroups (by rfl))

theorem dropEmits {seq : Nat} (h : Settled endTables s t) : Settled endTables s (t.dropEmits g seq) :=
  h.each _ fun _ _ hu => ite hu.keep hu

theorem dropResults {seq : Nat} (h : Settled endTables s t) : Settled endTables s (t.dropResults g seq) := h.keep

theorem endHoldings (h : Settled endTables s t) : Settled endTables s (t.endHoldings g o keep) := by
  unfold State.endHoldings
  extract_lets hoop window mine s1 work2 s2 gens s3 streams xs work4 s4 s5 waits s6 s7 y
  have h2 : Settled endTables s s2 := (h.each _ fun _ _ hu => hu.leaveTile : Settled endTables s s1).keepGroups (by rfl)
  have h4 : Settled endTables s s4 := (h2.each _ fun _ _ hu => hu.endLanding : Settled endTables s s3).keepGroups (by rfl)
  have h6 : Settled endTables s s6 := h4.letGo.dropWaiting.dropEmits
  exact h6.dropResults.setGroup g (by rfl)

theorem voidOperation (h : Settled endTables s t) : Settled endTables s (t.voidOperation g o) := h.endHoldings

theorem endOpWith (h : Settled endTables s t) : Settled endTables s (t.endOpWith keep g o status) :=
  ite h.setOp (h.setOp.endHoldings.each _ fun _ _ hu => hu.advanceGen)

theorem endOp (h : Settled endTables s t) : Settled endTables s (t.endOp g o status) := h.endOpWith

theorem settleMatch (h : Settled endTables s t) : Settled endTables s (t.settleMatch x step) := by
  unfold State.settleMatch
  extract_lets y mine left key u net s1 s2
  have h2 : Settled endTables s s2 := (h.keepGroups (by rfl) : Settled endTables s s1).bump (.linear (by decide)) _ _
  exact ite h (ite ((h2.setNum (.linear (by decide)) _).raise _ _) h2)

theorem retain (h : Settled endTables s t) : Settled endTables s (t.retain g o) := ite h (h.keepGroups (by rfl))

theorem runAgain {side redo : Nat} (h : Settled endTables s t) : Settled endTables s (t.runAgain r side redo) := by
  unfold State.runAgain
  extract_lets g op o o' y s1 work
  have h1 : Settled endTables s s1 := h.setGroup g (by rfl)
  exact ite h (h1.keepGroups (by rfl))

theorem abortOps (h : Settled endTables s t) : Settled endTables s (t.abortOps g status keep) := by
  unfold State.abortOps
  extract_lets s1 y s2
  have h1 : Settled endTables s s1 := h.each _ fun _ _ hu => hu.endHoldings
  have h2 : Settled endTables s s2 := h1.setGroup g (by rfl)
  exact h2.each _ fun _ _ hu => hu.endOpWith

theorem forgetEvacuation (h : Settled endTables s t) : Settled endTables s (t.forgetEvacuation x) := ite (h.keepGroups (by rfl)) h

theorem enterFault (h : Settled endTables s t) : Settled endTables s (t.enterFault x cause unit) := by
  unfold State.enterFault
  extract_lets st s1 s2 s3
  have h1 : Settled endTables s s1 := h.raise _ _
  have h2 : Settled endTables s s2 :=
    ((h1.setNum (.linear (by decide)) _).setNum (.linear (by decide)) _).setNum (.linear (by decide)) _
  have h3 : Settled endTables s s3 := h2.each _ fun _ _ hu => hu.abortOps
  exact ite h (ite h1 h3.dropWaiting.forgetEvacuation)

theorem resendStreams {sites : Nat} (h : Settled endTables s t) : Settled endTables s (t.resendStreams x g o sites) := by
  unfold State.resendStreams
  dsimp only
  split
  · exact h
  · exact h.each _ fun _ _ hu => ite hu (ite hu.noteBadLines.enterFault
      (hu.each _ fun _ _ hv => hv.each _ fun _ _ hw => hw.emitTo))

theorem replay {c : Reconcile} (h : Settled endTables s t) : Settled endTables s (t.replay x c r) :=
  ite h.resendStreams (ite h.resendStreams h.resendStreams.runAgain)

theorem joinReplay (h : Settled endTables s t) : Settled endTables s (t.joinReplay x g o) := by
  unfold State.joinReplay
  split
  · exact ite h.replay h
  · exact h

theorem freeContext (h : Settled endTables s t) : Settled endTables s (t.freeContext g o) :=
  (((h.setGroup g (by rfl)).lower (.single (by decide)) _).lower (.linear (by decide)) _).lower (.packed (by decide)) _

theorem advanceStep (h : Settled endTables s t) : Settled endTables s (t.advanceStep g o) := by
  have h1 : Settled endTables s ((t.bump 32 (Obj.outerStepCounter (t.hoopOfGroup g)) 1).settleMatch (t.hoopOfGroup g) o.step) :=
    (h.bump (.linear (by decide)) _ _).settleMatch
  exact ite (ite (h1.raise _ _) h1) h

theorem markBroken (h : Settled endTables s t) : Settled endTables s (t.markBroken g) :=
  ite ((h.setNum (.packed (by decide)) _).raise _ _) h

theorem settleOps {n : Nat} (h : Settled endTables s t) : Settled endTables s (State.settleOps n t g) := by
  induction n generalizing t with
  | zero => exact h
  | succ n ih =>
    unfold State.settleOps
    split
    · exact h
    · split
      · exact h
      · split
        · exact ih h.endOp.markBroken
        · extract_lets place s1 s2 s3 s4
          have h1 : Settled endTables s s1 := h.writeRecord
          have h3 : Settled endTables s s3 := (ite h1.retain h1 : Settled endTables s s2).freeContext
          have h4 : Settled endTables s s4 := ite h3.voidOperation.advanceStep.joinReplay h3
          exact ih h4

theorem endRedo (h : Settled endTables s t) : Settled endTables s (t.endRedo g o) := by
  unfold State.endRedo
  extract_lets status chunks s1 s2 s3 y s4
  have h1 : Settled endTables s s1 := h.writeRecord
  have h3 : Settled endTables s s3 := (ite h1.retain h1 : Settled endTables s s2).voidOperation
  clear_value s3
  have h4 : Settled endTables s s4 := h3.setGroup g (by rfl)
  exact ite h4.advanceStep h4

theorem settleRedo (h : Settled endTables s t) : Settled endTables s (t.settleRedo g) := h.each _ fun _ _ hu => hu.endRedo

theorem beginEvacuation (h : Settled endTables s t) : Settled endTables s (t.beginEvacuation x) :=
  ite (h.setHoop.setNum (.linear (by decide)) _) ((h.setHoop.setNum (.linear (by decide)) _).setNum (.linear (by decide)) _)

theorem stopHoop (h : Settled endTables s t) : Settled endTables s (t.stopHoop x) :=
  ite (h.setNum (.linear (by decide)) _).beginEvacuation (h.setNum (.linear (by decide)) _)

theorem settleHoop (h : Settled endTables s t) : Settled endTables s (t.settleHoop x) := ite h.stopHoop h

theorem settleRecords (h : Settled endTables s t) : Settled endTables s (t.settleRecords g) := h.settleOps.settleRedo

theorem settleFault (h : Settled endTables s t) : Settled endTables s (t.settleFault x) :=
  ite (h.each _ fun _ _ hu => hu.settleRecords) h

theorem faultHoop (h : Settled endTables s t) : Settled endTables s (t.faultHoop x cause unit) :=
  ite h.enterFault h.enterFault.settleFault

theorem settleFrees {n : Nat} (h : Settled endTables s t) : Settled endTables s (State.settleFrees n t) := by
  induction n generalizing t with
  | zero => exact h
  | succ n ih =>
    unfold State.settleFrees
    split
    · exact h
    · exact ih (h.keep.each _ fun _ _ hu => hu.faultHoop)

theorem checkFrees (h : Settled endTables s t) : Settled endTables s t.checkFrees := h.settleFrees

theorem freeAll {handles : List Nat} (h : Settled endTables s t) : Settled endTables s (t.freeAll x handles) := h.freeEach.checkFrees

theorem dropLanding (h : Settled endTables s t) : Settled endTables s (t.dropLanding x w gen i) := h.endLanding.checkFrees

theorem settleGroup (h : Settled endTables s t) : Settled endTables s (t.settleGroup g) :=
  have h2 := ite h.settleRecords h.settleRecords.settleFault
  h2.checkFrees.settleHoop

theorem finishOp {seq : Nat} (h : Settled endTables s t) : Settled endTables s (t.finishOp g seq status) := by
  unfold State.finishOp
  split
  · exact ite h.endOp.settleGroup h
  · exact h

theorem abortGroup (h : Settled endTables s t) : Settled endTables s (t.abortGroup g status) := h.abortOps.settleGroup

theorem undeliverable {seq : Nat} (h : Settled endTables s t) : Settled endTables s (t.undeliverable g seq) := h.markBroken.finishOp

/-! ### The functions of StreamOps and Collectives -/

theorem sendContribution (h : Settled endTables s t) : Settled endTables s (t.sendContribution g o) :=
  ite h (h.each _ fun _ _ hu => hu.emitTo)

theorem keepEmits {seq : Nat} (h : Settled endTables s t) : Settled endTables s (t.keepEmits g seq) :=
  h.each _ fun _ _ hu => ite hu.keep hu

theorem settleSmall {seq : Nat} (h : Settled endTables s t) : Settled endTables s (t.settleSmall g seq) := by
  unfold State.settleSmall
  split
  · exact h
  · split
    · exact h
    · split
      · exact finishOp (keepEmits (ite h.sendContribution h))
      · split
        · exact h
        · split
          · exact h
          · dsimp only
            split
            · exact h.finishOp
            · split
              next e => exact h.writeTarget e
              · exact h.undeliverable

theorem takeContribution {c : Contribution} (h : Settled endTables s t) : Settled endTables s (t.takeContribution g c) :=
  ite h (ite (h.setGroup g (by rfl)).settleSmall h)

theorem startExchange {l : List ObjTable} (h : Settled l s t) : Settled l s (t.startExchange g) :=
  ite (h.setGroup g (by rfl)) ((h.setGroup g (by rfl)).each _ fun _ _ hu => hu.emitTo)

theorem closeWindow (h : Settled endTables s t) : Settled endTables s (t.closeWindow w) :=
  ((h.each _ fun _ _ hu => hu.dropLanding).dropWaiting.setNum (.packed (by decide)) _).lower (.linear (by decide)) _

theorem endShadow {members : List Nat} (h : Settled endTables s t) : Settled endTables s (t.endShadow x members) :=
  ite (h.setNum (.linear (by decide)) _) h

theorem deliverHeld {e : Bytes × Bytes × Option Nat} (h : Settled endTables s t) : Settled endTables s (t.deliverHeld w g e) :=
  ite h.takeContribution (h.keepGroups (by rfl))

theorem settleEarly {epoch : Option Nat} (h : Settled endTables s t) : Settled endTables s (t.settleEarly g epoch) :=
  h.each _ fun _ _ hu => ite hu (hu.keep.each _ fun _ _ hv => ite hv.deliverHeld hv.freeAll)

theorem clearGroup {tag : Option Nat} (h : Settled endTables s t) : Settled endTables s (t.clearGroup g tag) :=
  (h.keepGroups (by rfl)).freeAll.freeAll.setGroup g (by rfl)

end Settled

end Sys2Proof

namespace Sys2Proof

open Sys2Proof.Machine

/-! ### The transitions of R27 -/

/-- Freeing a hoop's plan unbinds it, and writes what follows from the frames. -/
theorem Machine.State.freePlan_unbinds (s : State) (h : Nat) :
    WritesIn reserveTables s (s.freePlan h) ∧ ((s.freePlan h).hoop h).bound = false := by
  unfold State.freePlan
  extract_lets s1
  have h1 : Reserves s s1 := Reserves.rfl.each _ fun _ c hu => hu.returnFrame c.1
  have h2 := (Reserves.rfl (s := s1.setHoop h { s1.hoop h with planFrames := [], bound := false })).countPools h
  refine ⟨(h1.objs.keep rfl).trans h2.objs, ?_⟩
  rw [h2.hoop, State.hoop_setHoop_same]

/-- Unbind of a Stopped hoop: windows onto its plan buffers close, the plan goes, the reservation stays. -/
theorem Machine.State.unbind_ok {s : State} {h : Nat} (h4 : s.num (Obj.hoopState h) = 4) :
    ∃ u, s.unbind h = (u, St.ok) ∧ u.num (Obj.hoopState h) = 1 ∧ (u.hoop h).bound = false ∧
      u.num (Obj.hoopMemoryCapacity h) = s.num (Obj.hoopMemoryCapacity h) := by
  unfold State.unbind
  rw [if_neg (not_not.2 h4)]
  extract_lets s1
  have h1 : Settled endTables s s1 := Settled.rfl.each _ fun _ _ hu => hu.closeWindow
  obtain ⟨hf, hb⟩ := s1.freePlan_unbinds h
  refine ⟨_, rfl, State.num_setNum_same .., by rw [State.setNum_hoop, hb], ?_⟩
  calc
    _ = (s1.freePlan h).num (Obj.hoopMemoryCapacity h) := State.num_setNum_other _ _ (linearUnit_ne (by decide))
    _ = s1.num (Obj.hoopMemoryCapacity h) := hf.linear (by decide)
    _ = s.num (Obj.hoopMemoryCapacity h) := h1.objs.linear (by decide)

/-- Every object but the command's status reads as the command left it. -/
theorem AnsweredFrom.num_of_ne {u t : State} {key k st : Nat} (ht : AnsweredFrom (u.setNum key st) t) (hk : k ≠ key) :
    t.num k = u.num k := by
  rw [ht.num, State.num_setNum_other _ _ hk]

theorem hoopState_ne_hoopCommandStatus (h : Nat) : Obj.hoopState h ≠ Obj.hoopCommandStatus h := linearUnit_ne (by decide)

/-- A command that only sets HoopState leaves that state and its status, and no other object. -/
theorem Completes.of_hoopState {c : Instr} {s : State} {rq : Requester} {h x : Nat} {v : Val} {f : State → State × Nat}
    (hc : exec c s = .next (s.request rq (Obj.hoopCommand h) v none (reported (Obj.hoopCommandStatus h) f)))
    (ha : Accepts s rq (Obj.hoopCommand h) v none)
    (hf : f (s.served rq (Obj.hoopCommand h)) = ((s.served rq (Obj.hoopCommand h)).setNum (Obj.hoopState h) x, St.ok)) :
    Completes c s fun t => t.num (Obj.hoopState h) = x ∧ t.num (Obj.hoopCommandStatus h) = St.ok ∧
      OnlyObjects [Obj.hoopState h, Obj.hoopCommandStatus h] s t := by
  refine .of_reported hc ha hf fun t ht hst _ => ⟨?_, hst, ?_⟩
  · rw [ht.num_of_ne (hoopState_ne_hoopCommandStatus h), State.num_setNum_same]
  · exact ht.onlyObjects (((OnlyObjects.served ..).setNum (by simp) _).setNum (by simp) _)

theorem Machine.State.slotsFilled_served (s : State) (rq : Requester) (k h : Nat) :
    (s.served rq k).slotsFilled h = s.slotsFilled h := by
  simp [State.slotsFilled, State.slotImage]

theorem configure_completes {rq : Requester} {h : Hoop} {s : State} (ha : Accepts s rq (Obj.hoopCommand h) (.num 1) none)
    (h0 : s.num (Obj.hoopState h) = 0)
    (hc : s.reserveCheck h (s.num (Obj.hoopTileMask h)) (s.num (Obj.hoopMemoryCapacity h)) (s.num (Obj.hoopContextMinimum h)) =
      (St.ok, 0)) :
    Completes (.configure rq h) s fun t => t.num (Obj.hoopState h) = 1 ∧
      t.num (Obj.hoopFrameLimit h) = s.num (Obj.hoopMemoryCapacity h) / frameBytes ∧
      t.num (Obj.hoopCommandStatus h) = St.ok ∧ Answered rq St.ok t := by
  obtain ⟨u, hu, hr⟩ := State.configure_ok (s := s.served rq (Obj.hoopCommand h)) (h := h)
    (by rw [State.served_num, h0]) (by simp only [State.served_num, State.reserveCheck_served, hc])
  refine .of_reported rfl ha hu fun t ht hst hans => ⟨?_, ?_, hst, hans⟩
  · refine (ht.num_of_ne (hoopState_ne_hoopCommandStatus h)).trans ?_
    refine (hr.objs.linear (by decide)).trans ?_
    exact (State.num_setNum_other _ _ (linearUnit_ne (by decide))).trans (State.num_setNum_same ..)
  · refine (ht.num_of_ne (linearUnit_ne (by decide))).trans ?_
    refine (hr.objs.linear (by decide)).trans ?_
    refine (State.num_setNum_same ..).trans ?_
    rw [State.served_num]

theorem configure_reports {rq : Requester} {h : Hoop} {s : State} (ha : Accepts s rq (Obj.hoopCommand h) (.num 1) none)
    (h0 : s.num (Obj.hoopState h) = 0) {st excess : Nat}
    (hc : s.reserveCheck h (s.num (Obj.hoopTileMask h)) (s.num (Obj.hoopMemoryCapacity h)) (s.num (Obj.hoopContextMinimum h)) =
      (st, excess)) (hst : st ≠ St.ok) :
    Completes (.configure rq h) s fun t => t.num (Obj.hoopState h) = 0 ∧ t.num (Obj.admissionShortfall h) = excess ∧
      t.num (Obj.hoopCommandStatus h) = st ∧ Answered rq St.ok t ∧
      OnlyObjects [Obj.admissionShortfall h, Obj.hoopCommandStatus h] s t := by
  have hf := State.configure_fails (s := s.served rq (Obj.hoopCommand h)) (h := h) (st := st) (excess := excess)
    (by rw [State.served_num, h0]) (by simp only [State.served_num, State.reserveCheck_served, hc]) hst
  refine .of_reported rfl ha hf fun t ht hs hans => ⟨?_, ?_, hs, hans, ?_⟩
  · refine (ht.num_of_ne (hoopState_ne_hoopCommandStatus h)).trans ?_
    exact (State.num_setNum_other _ _ (linearUnit_ne (by decide))).trans ((State.served_num ..).trans h0)
  · exact (ht.num_of_ne (linearUnit_ne (by decide))).trans (State.num_setNum_same ..)
  · exact ht.onlyObjects (((OnlyObjects.served ..).setNum (by simp) _).setNum (by simp) _)

theorem admission_reports {rq : Requester} {h : Hoop} {s : State} (ha : Accepts s rq (Obj.hoopCommand h) (.num 2) none)
    (h1 : s.num (Obj.hoopState h) = 1) (hp : (s.hoop h).plan ≠ []) (hb : (s.hoop h).bound = false)
    (hn : s.num (Obj.hoopMemoryCapacity h) < s.num (Obj.jobDeclaredMemory h)) :
    Completes (.admitJob rq h) s fun t =>
      t.num (Obj.admissionShortfall h) = s.num (Obj.jobDeclaredMemory h) - s.num (Obj.hoopMemoryCapacity h) ∧
      t.num (Obj.hoopCommandStatus h) = St.capacityShortfall ∧
      OnlyObjects [Obj.admissionShortfall h, Obj.hoopCommandStatus h] s t := by
  have hf := State.admitJob_short (s := s.served rq (Obj.hoopCommand h)) (h := h) (by simpa using h1) (by simpa using hp)
    (by simpa using hb) (by simpa using hn)
  refine .of_reported rfl ha hf fun t ht hs _ => ⟨?_, hs, ?_⟩
  · refine (ht.num_of_ne (linearUnit_ne (by decide))).trans ?_
    refine (State.num_setNum_same ..).trans ?_
    rw [State.served_num, State.served_num]
  · exact ht.onlyObjects (((OnlyObjects.served ..).setNum (by simp) _).setNum (by simp) _)

theorem admission_completes {rq : Requester} {h : Hoop} {s : State} (ha : Accepts s rq (Obj.hoopCommand h) (.num 2) none)
    (h1 : s.num (Obj.hoopState h) = 1) (hp : (s.hoop h).plan ≠ []) (hb : (s.hoop h).bound = false)
    (hn : s.num (Obj.jobDeclaredMemory h) ≤ s.num (Obj.hoopMemoryCapacity h))
    (hf : planFrameCount (s.hoop h).plan + s.num (Obj.hoopBackingFrames h) + s.furtherFrames h ≤ s.num (Obj.hoopFrameLimit h)) :
    Completes (.admitJob rq h) s fun t => (t.hoop h).bound = true ∧ (t.hoop h).plan = (s.hoop h).plan ∧
      t.num (Obj.admissionShortfall h) = 0 ∧ t.num (Obj.hoopState h) = 1 ∧ t.num (Obj.hoopCommandStatus h) = St.ok := by
  obtain ⟨u, hu, hbound, hplan, hshort, hstate⟩ := State.admitJob_ok (s := s.served rq (Obj.hoopCommand h)) (h := h)
    (by simpa using h1) (by simpa using hp) (by simpa using hb) (by simpa using hn) (by simpa [State.furtherFrames_served] using hf)
  refine .of_reported rfl ha hu fun t ht hs _ => ⟨?_, ?_, ?_, ?_, hs⟩
  · rw [ht.hoop, State.setNum_hoop, hbound]
  · rw [ht.hoop, State.setNum_hoop, hplan, State.served_hoop]
  · exact (ht.num_of_ne (linearUnit_ne (by decide))).trans hshort
  · rw [ht.num_of_ne (hoopState_ne_hoopCommandStatus h), hstate, State.served_num, h1]

theorem start_completes {rq : Requester} {h : Hoop} {s : State} (ha : Accepts s rq (Obj.hoopCommand h) (.num 3) none)
    (hst : s.num (Obj.hoopState h) = 4 ∨ s.num (Obj.hoopState h) = 1 ∧ (s.hoop h).bound = true ∧ s.slotsFilled h = true) :
    Completes (.start rq h) s fun t => t.num (Obj.hoopState h) = 2 ∧ t.num (Obj.hoopCommandStatus h) = St.ok ∧
      OnlyObjects [Obj.hoopState h, Obj.hoopCommandStatus h] s t :=
  .of_hoopState rfl ha (by
    unfold State.start
    exact if_pos (by simpa [State.slotsFilled_served] using hst))

theorem drain_completes {rq : Requester} {h : Hoop} {s : State} (ha : Accepts s rq (Obj.hoopCommand h) (.num 4) none)
    (h2 : s.num (Obj.hoopState h) = 2) :
    Completes (.drain rq h) s fun t => t.num (Obj.hoopState h) = (if s.num (Obj.hoopContextsInUse h) = 0 then 4 else 3) ∧
      t.num (Obj.hoopCommandStatus h) = St.ok ∧ OnlyObjects [Obj.hoopState h, Obj.hoopCommandStatus h] s t :=
  .of_hoopState rfl ha (by simp [State.drainCommand, State.drain, h2])

theorem unbind_completes {rq : Requester} {h : Hoop} {s : State} (ha : Accepts s rq (Obj.hoopCommand h) (.num 6) none)
    (h4 : s.num (Obj.hoopState h) = 4) :
    Completes (.unbind rq h) s fun t => t.num (Obj.hoopState h) = 1 ∧ (t.hoop h).bound = false ∧
      t.num (Obj.hoopMemoryCapacity h) = s.num (Obj.hoopMemoryCapacity h) ∧ t.num (Obj.hoopCommandStatus h) = St.ok := by
  obtain ⟨u, hu, hstate, hbound, hcap⟩ := State.unbind_ok (s := s.served rq (Obj.hoopCommand h)) (h := h) (by simpa using h4)
  refine .of_reported rfl ha hu fun t ht hs _ => ⟨?_, ?_, ?_, hs⟩
  · rw [ht.num_of_ne (hoopState_ne_hoopCommandStatus h), hstate]
  · rw [ht.hoop, State.setNum_hoop, hbound]
  · refine (ht.num_of_ne (linearUnit_ne (by decide))).trans ?_
    exact hcap.trans (State.served_num ..)

theorem release_completes {rq : Requester} {h : Hoop} {s : State} (ha : Accepts s rq (Obj.hoopCommand h) (.num 7) none)
    (hst : s.num (Obj.hoopState h) = 1 ∨
      (s.num (Obj.hoopState h) = 4 ∨ s.num (Obj.hoopState h) = 6) ∧ (s.hoop h).evacuation = none) :
    Completes (.release rq h) s fun t => t.num (Obj.hoopState h) = 0 ∧ t.hoop h = {} ∧
      t.num (Obj.hoopMemoryCapacity h) = 0 ∧ t.num (Obj.hoopCommandStatus h) = St.ok := by
  have hf : (s.served rq (Obj.hoopCommand h)).release h = ((s.served rq (Obj.hoopCommand h)).releaseHoop h, St.ok) := by
    unfold State.release
    exact if_pos (by simpa using hst)
  obtain ⟨hstate, hcap, hdata⟩ := (s.served rq (Obj.hoopCommand h)).releaseHoop_empties h
  refine .of_reported rfl ha hf fun t ht hs _ => ⟨?_, ?_, ?_, hs⟩
  · rw [ht.num_of_ne (hoopState_ne_hoopCommandStatus h), hstate]
  · rw [ht.hoop, State.setNum_hoop, hdata]
  · exact (ht.num_of_ne (linearUnit_ne (by decide))).trans hcap

/-- Settles O10, command by command: what each does in a state that has its row, read back through the answer. -/
theorem hoopCommandsTakeTheirTransitions : Obligations.HoopCommandsTakeTheirTransitions := by
  unfold Obligations.HoopCommandsTakeTheirTransitions
  refine ⟨fun rq h s ha h0 => ⟨?_, ?_⟩, fun rq h s ha h1 hp hb => ⟨?_, ?_⟩, ?_, ?_, ?_, ?_⟩
  · exact configure_completes ha h0
  · exact fun _ _ hc hst => configure_reports ha h0 hc hst
  · exact admission_reports ha h1 hp hb
  · exact admission_completes ha h1 hp hb
  · exact fun _ _ _ ha hst => start_completes ha hst
  · exact fun _ _ _ ha h2 => drain_completes ha h2
  · exact fun _ _ _ ha h4 => unbind_completes ha h4
  · exact fun _ _ _ ha hst => release_completes ha hst

end Sys2Proof

namespace Sys2Proof

open Sys2Proof.Machine

/-! ## Groups: Create, Reform and Delete (R46, R47, R493) -/

/-! ### A list of objects set at once -/

theorem Machine.State.num_each_setNum_of_notMem {l : List (Nat × Nat)} {k : Nat} (s : State) (hk : k ∉ l.map Prod.fst) :
    (s.each l fun t x => t.setNum x.1 x.2).num k = s.num k := by
  induction l generalizing s with
  | nil => rfl
  | cons x l ih =>
    rw [List.map_cons, List.mem_cons, not_or] at hk
    exact (ih (s.setNum x.1 x.2) hk.2).trans (State.num_setNum_other _ _ hk.1)

/-- Of objects set one after the other, each once, each holds what it was set to. -/
theorem Machine.State.num_each_setNum_of_mem {l : List (Nat × Nat)} {k n : Nat} (s : State) (hl : (l.map Prod.fst).Nodup)
    (hk : (k, n) ∈ l) : (s.each l fun t x => t.setNum x.1 x.2).num k = n := by
  induction l generalizing s with
  | nil => nomatch hk
  | cons x l ih =>
    rw [List.map_cons, List.nodup_cons] at hl
    rcases List.mem_cons.1 hk with rfl | hk
    · exact ((s.setNum k n).num_each_setNum_of_notMem hl.1).trans (State.num_setNum_same ..)
    · exact ih _ hl.2 hk

/-- The table takes no index of the groups' objects (R45). -/
abbrev ObjTable.Elsewhere (y : ObjTable) : Prop := y.Sound ∧ (y.base + y.span ≤ 0x3100 ∨ 0x3200 ≤ y.base)

theorem groupUnit_sound {u : Nat} (hu : u < 16) : ObjTable.Sound ⟨0x3100, u, 4096, true⟩ :=
  ⟨by norm_num, by norm_num [ObjTable.span], hu⟩

theorem groupUnit_apart {u : Nat} (hu : u < 16) {y : ObjTable} (hy : y.Elsewhere) : ObjTable.Apart ⟨0x3100, u, 4096, true⟩ y := by
  obtain ⟨hsound, hspan⟩ := hy
  refine ⟨groupUnit_sound hu, hsound, .inr ?_⟩
  norm_num [ObjTable.span] at hspan ⊢
  omega

/-- The key of a group's object shows the object's sub (R45). -/
theorem groupUnit_mod (g : Nat) {u : Nat} (hu : u < 16) : packedUnit 0x3100 u 4096 g % 16 = u :=
  (ObjTable.key_bounds (groupUnit_sound hu) g).2.2.trans (Nat.mod_eq_of_lt hu)

theorem groupUnits_nodup (g : Nat) {subs : List Nat} (hs : subs.Nodup) (hb : ∀ u ∈ subs, u < 16) :
    (subs.map fun u => packedUnit 0x3100 u 4096 g).Nodup :=
  hs.map_on fun u hu v hv e => by rw [← groupUnit_mod g (hb u hu), e, groupUnit_mod g (hb v hv)]

/-- Objects of a group with two subs are two objects. -/
theorem groupUnit_ne {u v : Nat} (h : ObjTable.Apart ⟨0x3100, u, 4096, true⟩ ⟨0x3100, v, 4096, true⟩) (g : Nat) :
    packedUnit 0x3100 u 4096 g ≠ packedUnit 0x3100 v 4096 g := ObjTable.key_ne h g g

/-! ### What the functions read is as it was before the request -/

section Served

variable (s : State) (rq : Requester) (k : Nat)

@[simp] theorem Machine.State.served_group (g : Nat) : (s.served rq k).group g = s.group g := by simp [State.group]

@[simp] theorem Machine.State.served_bytes (j : Nat) : (s.served rq k).bytes j = s.bytes j := by
  simp [State.bytes]

theorem Machine.State.freeWindow_served (n w : Nat) : State.freeWindow n (s.served rq k) w = State.freeWindow n s w := by
  induction n generalizing w with
  | zero => rfl
  | succ n ih => simp [State.freeWindow, ih]

theorem Machine.State.defMeets_served (h : Nat) (b : Bytes) : (s.served rq k).defMeets h b = s.defMeets h b := by
  simp [State.defMeets, State.ownAddress]

theorem Machine.State.entriesFit_served (h g n : Nat) : (s.served rq k).entriesFit h g n = s.entriesFit h g n := by
  simp [State.entriesFit, State.slotImage]

theorem Machine.State.reserveSum_served (h : Nat) : (s.served rq k).reserveSum h = s.reserveSum h := by
  obtain ⟨_, _, e⟩ := s.served_only rq k
  rw [e]
  rfl

theorem Machine.State.createStatus_served (g : Nat) : (s.served rq k).createStatus g = s.createStatus g := by
  simp [State.createStatus, State.freeWindow_served, State.defMeets_served, State.entriesFit_served, State.reserveSum_served]

theorem Machine.State.reformStatus_served (g : Nat) : (s.served rq k).reformStatus g = s.reformStatus g := by
  simp [State.reformStatus, State.defMeets_served, State.entriesFit_served, State.hoopOfGroup]

end Served

/-! ### Create -/

theorem Machine.State.num_setGroup (s : State) (g : Nat) (x : GroupData) (k : Nat) : (s.setGroup g x).num k = s.num k := rfl

theorem WritesIn.setGroup {l : List ObjTable} {s t : State} (h : WritesIn l s t) (g : Nat) (x : GroupData) :
    WritesIn l s (t.setGroup g x) := h.keep rfl

/-- The objects of a window that its opening sets, its state apart, and the count of its hoop's windows (R217, R225). -/
def windowTables : List ObjTable :=
  [⟨0x6100, 0x0B, 16384, true⟩, ⟨0x6100, 0x0C, 16384, true⟩, ⟨0x6100, 0x03, 16384, true⟩, ⟨0x6100, 0x04, 16384, true⟩,
    ⟨0x6100, 0x0D, 16384, true⟩, ⟨0x6080, 0x03, 16, false⟩]

theorem Machine.State.openWindow_writes (s : State) (w type h length : Nat) :
    WritesIn windowTables (s.setNum (Obj.windowState w) type) (s.openWindow w type h length) := by
  unfold State.openWindow
  extract_lets s1 s2 s3
  have h1 : WritesIn windowTables (s.setNum (Obj.windowState w) type) s1 := WritesIn.rfl.set (.packed (by decide)) _
  have h2 : WritesIn windowTables (s.setNum (Obj.windowState w) type) s2 := (h1.set (.packed (by decide)) _).set (.packed (by decide)) _
  have h3 : WritesIn windowTables (s.setNum (Obj.windowState w) type) s3 :=
    ((h2.set (.packed (by decide)) _).set (.packed (by decide)) _).set (.linear (by decide)) _
  exact h3.keep rfl

/-- What Create writes beside the group's own objects and its window: the counts of R45 and R62, the pool of the hoop, and the state of a
shadow. -/
def creationTables : List ObjTable :=
  reserveTables ++ [⟨0x3000, 0x06, 1, false⟩, ⟨0x3000, 0x07, 1, false⟩, ⟨0x3020, 0x04, 16, false⟩, ⟨0xA020, 0x09, 16, false⟩]


/-- The objects that Create sets of the group, and their values (R45, R47). -/
def createdObjects (g w : Nat) (d : GroupDef) : List (Nat × Nat) :=
  [(Obj.groupState g, 1), (Obj.groupHoop g, d.hoop), (Obj.groupKind g, d.kind), (Obj.groupEpoch g, d.epoch),
    (Obj.groupNextSequence g, d.first), (Obj.groupContextMinimum g, d.contexts), (Obj.groupQueueWindow g, w),
    (Obj.groupQueueDepth g, d.depth), (Obj.groupQueueIndices g, 0), (Obj.groupQueueStatus g, St.ok), (Obj.groupInFlight g, 0),
    (Obj.groupRefusals g, 0), (Obj.groupLastRefusal g, St.ok)]

theorem createdObjects_nodup (g w : Nat) (d : GroupDef) : ((createdObjects g w d).map Prod.fst).Nodup :=
  groupUnits_nodup g (subs := [0x00, 0x04, 0x05, 0x06, 0x07, 0x08, 0x09, 0x0A, 0x0B, 0x0C, 0x0D, 0x0E, 0x0F]) (by decide) (by decide)

theorem createdObjects_keys (g w : Nat) (d : GroupDef) : ∀ p ∈ createdObjects g w d, ∃ u < 16, p.1 = packedUnit 0x3100 u 4096 g := by
  simp only [createdObjects, List.forall_mem_cons]
  exact ⟨⟨0x00, by decide, rfl⟩, ⟨0x04, by decide, rfl⟩, ⟨0x05, by decide, rfl⟩, ⟨0x06, by decide, rfl⟩, ⟨0x07, by decide, rfl⟩,
    ⟨0x08, by decide, rfl⟩, ⟨0x09, by decide, rfl⟩, ⟨0x0A, by decide, rfl⟩, ⟨0x0B, by decide, rfl⟩, ⟨0x0C, by decide, rfl⟩,
    ⟨0x0D, by decide, rfl⟩, ⟨0x0E, by decide, rfl⟩, ⟨0x0F, by decide, rfl⟩, fun _ h => nomatch h⟩

/-- An accepted Create sets the group's objects and its members, and makes a Queue window live. -/
theorem Machine.State.createGroup_ok {s : State} {g : Nat} (hs : s.createStatus g = St.ok) :
    let d := groupDef (s.bytes (Obj.groupDefinition g))
    ∃ u w, s.createGroup g = (u, St.ok) ∧ (u.group g).members = d.members ∧ u.num (Obj.windowState w) = 3 ∧
      ∀ p ∈ createdObjects g w d, u.num p.1 = p.2 := by
  unfold State.createGroup
  extract_lets d st w s1 s2 s3 s4
  have hst : st = St.ok := hs
  have h12 : WritesIn windowTables (s1.setNum (Obj.windowState w) 3) s2 := (s1.openWindow_writes w 3 d.hoop _).setGroup g _
  rw [if_neg (not_not.2 hst)]
  clear_value w
  have h3 : Settled creationTables s2 s3 := (Settled.rfl.bump (.single (by decide)) _ _).bump (.linear (by decide)) _ _
  have h4 : Settled creationTables s2 s4 := .ite (h3.bump (.single (by decide)) _ _) h3
  have h5 : Settled creationTables s2 (s4.settlePool d.hoop 2) := by
    have hp : Reserves s4 (s4.settlePool d.hoop 2) := Reserves.rfl.settlePool d.hoop 2
    exact h4.trans ⟨hp.objs.mono (List.subset_append_left _ _), fun i => by rw [hp.group]⟩
  have h6 : Settled creationTables s2 ((s4.settlePool d.hoop 2).endShadow d.hoop d.members) :=
    .ite (h5.setNum (.linear (by decide)) _) h5
  have h7 := h6.startExchange (g := g)
  refine ⟨_, w, rfl, ?_, ?_, fun p hp => ?_⟩
  · rw [h7.members]
    exact congrArg GroupData.members (State.group_setGroup_same ..)
  · exact (h7.objs.packed (by decide)).trans ((h12.packed (by decide)).trans (State.num_setNum_same ..))
  · obtain ⟨v, hv, hk⟩ := createdObjects_keys g w d p hp
    have elsewhere : ∀ y ∈ creationTables ++ windowTables, y.Elsewhere := by decide
    have hw := groupUnit_apart hv (y := ⟨0x6100, 0x00, 16384, true⟩) (by decide)
    have hl (y) (hy : y ∈ creationTables ++ windowTables) : ObjTable.Apart ⟨0x3100, v, 4096, true⟩ y :=
      groupUnit_apart hv (elsewhere y hy)
    calc
      _ = s2.num p.1 := by rw [hk, h7.objs.packed fun y hy => hl y (List.mem_append_left _ hy)]
      _ = (s1.setNum (Obj.windowState w) 3).num p.1 := by rw [hk, h12.packed fun y hy => hl y (List.mem_append_right _ hy)]
      _ = s1.num p.1 := by rw [hk]; exact State.num_setNum_other _ _ (ObjTable.key_ne hw g w)
      _ = p.2 := s.num_each_setNum_of_mem (createdObjects_nodup g w d) hp

theorem create_completes {rq : Requester} {g : GroupNo} {s : State} (ha : Accepts s rq (Obj.groupCommand g) (.num 1) none)
    (hs : s.createStatus g = St.ok) :
    let d := groupDef (s.bytes (Obj.groupDefinition g))
    Completes (.groupCreate rq g) s fun t =>
      t.num (Obj.groupState g) = 1 ∧ t.num (Obj.groupHoop g) = d.hoop ∧ t.num (Obj.groupKind g) = d.kind ∧
      t.num (Obj.groupEpoch g) = d.epoch ∧ t.num (Obj.groupNextSequence g) = d.first ∧
      t.num (Obj.groupQueueDepth g) = d.depth ∧ (t.group g).members = d.members ∧
      t.num (Obj.windowState (t.num (Obj.groupQueueWindow g))) = 3 ∧ t.num (Obj.groupCommandStatus g) = St.ok ∧
      Answered rq St.ok t := by
  obtain ⟨u, w, hu, hmem, hwin, hobj⟩ := State.createGroup_ok (s := s.served rq (Obj.groupCommand g)) (g := g)
    (by rw [State.createStatus_served, hs])
  rw [State.served_bytes] at hmem hobj
  simp only [createdObjects, List.forall_mem_cons] at hobj
  obtain ⟨hstate, hhoop, hkind, hepoch, hnext, -, hqueue, hdepth, -⟩ := hobj
  refine .of_reported rfl ha hu fun t ht hst hans => ?_
  have hq : t.num (Obj.groupQueueWindow g) = w := (ht.num_of_ne (groupUnit_ne (by decide) g)).trans hqueue
  refine ⟨(ht.num_of_ne (groupUnit_ne (by decide) g)).trans hstate, (ht.num_of_ne (groupUnit_ne (by decide) g)).trans hhoop,
    (ht.num_of_ne (groupUnit_ne (by decide) g)).trans hkind, (ht.num_of_ne (groupUnit_ne (by decide) g)).trans hepoch,
    (ht.num_of_ne (groupUnit_ne (by decide) g)).trans hnext, (ht.num_of_ne (groupUnit_ne (by decide) g)).trans hdepth, ?_, ?_, hst, hans⟩
  · rw [ht.group]
    exact hmem
  · rw [hq]
    have hne : Obj.windowState w ≠ Obj.groupCommandStatus g :=
      ObjTable.key_ne (x := ⟨0x6100, 0x00, 16384, true⟩) (y := ⟨0x3100, 0x02, 4096, true⟩) (by decide) w g
    exact (ht.num_of_ne hne).trans hwin

/-! ### Delete -/

/-- The objects that Delete sets of the group, and their values (R47). -/
def deletedObjects (g : Nat) : List (Nat × Nat) :=
  [(Obj.groupState g, 0), (Obj.groupQueueWindow g, 0xFFFF), (Obj.groupQueueDepth g, 0), (Obj.groupQueueIndices g, 0),
    (Obj.groupQueueStatus g, St.ok), (Obj.groupInFlight g, 0), (Obj.groupContextMinimum g, 0)]

theorem deletedObjects_nodup (g : Nat) : ((deletedObjects g).map Prod.fst).Nodup :=
  groupUnits_nodup g (subs := [0x00, 0x09, 0x0A, 0x0B, 0x0C, 0x0D, 0x08]) (by decide) (by decide)

theorem Machine.State.each_deletedObjects (s : State) (g : Nat) :
    (s.each (deletedObjects g) fun t x => t.setNum x.1 x.2).num (Obj.groupState g) = 0 ∧
      (s.each (deletedObjects g) fun t x => t.setNum x.1 x.2).num (Obj.groupQueueWindow g) = 0xFFFF :=
  ⟨s.num_each_setNum_of_mem (deletedObjects_nodup g) (by simp [deletedObjects]),
    s.num_each_setNum_of_mem (deletedObjects_nodup g) (by simp [deletedObjects])⟩

/-- A group that becomes Free keeps no data, and its state and queue window say so. -/
theorem Machine.State.freeGroup_empties (s : State) (g : Nat) :
    (s.freeGroup g).num (Obj.groupState g) = 0 ∧ (s.freeGroup g).group g = {} ∧
      (s.freeGroup g).num (Obj.groupQueueWindow g) = 0xFFFF := by
  obtain ⟨u, h, hf⟩ : ∃ (u : State) (h : Nat), s.freeGroup g =
      ((u.each (deletedObjects g) fun t x => t.setNum x.1 x.2).setGroup g {}).settlePool h 2 := ⟨_, _, rfl⟩
  obtain ⟨hstate, hwin⟩ := u.each_deletedObjects g
  have hr : Reserves ((u.each (deletedObjects g) fun t x => t.setNum x.1 x.2).setGroup g {}) (s.freeGroup g) :=
    hf ▸ Reserves.rfl.settlePool h 2
  refine ⟨?_, ?_, ?_⟩
  · exact (hr.objs.packed (by decide)).trans ((State.num_setGroup ..).trans hstate)
  · rw [hr.group, State.group_setGroup_same]
  · exact (hr.objs.packed (by decide)).trans ((State.num_setGroup ..).trans hwin)

theorem Machine.State.deleteGroup_ok {s : State} {g : Nat} (hs : s.num (Obj.groupState g) ≠ 0) :
    ∃ u, s.deleteGroup g = (u, St.ok) ∧ u.num (Obj.groupState g) = 0 ∧ u.group g = {} ∧
      u.num (Obj.groupQueueWindow g) = 0xFFFF := by
  unfold State.deleteGroup
  rw [if_neg hs]
  exact ⟨_, rfl, State.freeGroup_empties _ g⟩

theorem delete_completes {rq : Requester} {g : GroupNo} {s : State} (ha : Accepts s rq (Obj.groupCommand g) (.num 3) none)
    (hs : s.num (Obj.groupState g) ≠ 0) :
    Completes (.groupDelete rq g) s fun t => t.num (Obj.groupState g) = 0 ∧ t.group g = {} ∧
      t.num (Obj.groupQueueWindow g) = 0xFFFF ∧ t.num (Obj.groupCommandStatus g) = St.ok := by
  obtain ⟨u, hu, hstate, hdata, hwin⟩ := State.deleteGroup_ok (s := s.served rq (Obj.groupCommand g)) (g := g) (by simpa using hs)
  refine .of_reported rfl ha hu fun t ht hst _ => ⟨(ht.num_of_ne (groupUnit_ne (by decide) g)).trans hstate, ?_,
    (ht.num_of_ne (groupUnit_ne (by decide) g)).trans hwin, hst⟩
  rw [ht.group]
  exact hdata

end Sys2Proof

namespace Sys2Proof

open Sys2Proof.Machine

/-! ### What the examination of a queue may write (R55, R56, R60, R61) -/

/-- Beside the objects of `endTables`: the indices, the sequence and the refusals of groups, and what tells of waits for a context. -/
def pumpTables : List ObjTable :=
  [⟨0x3100, 0x07, 4096, true⟩, ⟨0x3100, 0x0B, 4096, true⟩, ⟨0x3100, 0x0C, 4096, true⟩, ⟨0x3100, 0x0E, 4096, true⟩,
    ⟨0x3100, 0x0F, 4096, true⟩, ⟨0x3000, 0x04, 1, false⟩, ⟨0x3020, 0x03, 16, false⟩] ++ endTables

namespace Settled

variable {s t : State} {g : Nat}

theorem toPump (h : Settled endTables s t) : Settled pumpTables s t := h.mono (List.subset_append_right _ _)

/-- A function that settles operations may follow. -/
theorem andThen (h : Settled pumpTables s t) {u : State} (h' : Settled endTables t u) : Settled pumpTables s u := h.trans h'.toPump

theorem setIndices {p c : Nat} (h : Settled pumpTables s t) : Settled pumpTables s (t.setIndices g p c) :=
  h.setNum (.packed (by decide)) _

theorem writeMirrored {r : Config.Region} {a b n : Nat} (h : Settled endTables s t) : Settled endTables s (t.writeMirrored r a b n) :=
  h.clearLines

theorem acceptDescriptor {source slots : Nat} {d : Bytes} (h : Settled pumpTables s t) :
    Settled pumpTables s (t.acceptDescriptor g source slots d) := by
  unfold State.acceptDescriptor
  extract_lets x w small gen o y s1 work s2 s3 s4
  have h1 : Settled pumpTables s s1 := h.setGroup g (by rfl)
  have h2 : Settled pumpTables s s2 := h1.keepGroups (by rfl)
  have h3 : Settled pumpTables s s3 := h2.setIndices.bump (.packed (by decide)) _ _
  have h4 : Settled pumpTables s s4 := (((h3.andThen Settled.rfl.writeMirrored).bump (.packed (by decide)) _ _).bump
    (.single (by decide)) _ _).bump (.linear (by decide)) _ _
  exact .ite (h4.andThen Settled.rfl.settleSmall) h4

theorem refuseDescriptor {slots status : Nat} {d : Bytes} (h : Settled pumpTables s t) :
    Settled pumpTables s (t.refuseDescriptor g slots status d) := by
  unfold State.refuseDescriptor
  extract_lets x s1 s2
  have h2 : Settled pumpTables s s2 := (h.setIndices.bump (.packed (by decide)) _ _).setNum (.packed (by decide)) _
  split
  · exact h2
  · exact .ite (h2.andThen Settled.rfl.writeRecord) h2

theorem waitContext (h : Settled pumpTables s t) : Settled pumpTables s (t.waitContext g) := by
  unfold State.waitContext
  extract_lets x first y s1 work s2 s3 s4
  have h1 : Settled pumpTables s s1 := h.setGroup g (by rfl)
  have h2 : Settled pumpTables s s2 := h1.keepGroups (by rfl)
  have h4 : Settled pumpTables s s4 := ((h2.setNum (.packed (by decide)) _).bump (.single (by decide)) _ _).bump (.linear (by decide)) _ _
  exact .ite (h4.andThen (Settled.rfl.raise _ _)) h4

theorem slotUnreadable {lines : List Nat} (h : Settled pumpTables s t) : Settled pumpTables s (t.slotUnreadable g lines) :=
  h.andThen (Settled.rfl.noteBadLines.raise _ _)

theorem pumpQueue {n : Nat} (h : Settled pumpTables s t) : Settled pumpTables s (State.pumpQueue n t g) := by
  induction n generalizing t with
  | zero => exact h
  | succ n ih =>
    unfold State.pumpQueue
    extract_lets available ext slots d st
    refine .ite h (.ite h.slotUnreadable (.ite h (.ite h.slotUnreadable ?_)))
    split
    · exact ih h.refuseDescriptor
    · split
      · exact ih h.acceptDescriptor
      · exact h.waitContext

theorem pump (h : Settled pumpTables s t) : Settled pumpTables s (t.pump g) := h.pumpQueue

end Settled

/-- An empty queue holds nothing to examine. -/
theorem Machine.State.pump_of_empty {s : State} {g : Nat} (h : s.producer g = s.consumer g) : s.pump g = s := by
  have hc : s.consumer g < 2 ^ 16 := Nat.mod_lt _ (by decide)
  unfold State.pump State.pumpQueue
  refine if_pos (.inl ?_)
  rw [h]
  omega

/-! ### Reform -/

/-- An accepted Reform sets the group's epoch and members, and its sequence, with which an empty queue goes on. -/
theorem Machine.State.reformGroup_ok {s : State} {g : Nat} (hs : s.reformStatus g = St.ok) :
    let d := groupDef (s.bytes (Obj.groupDefinition g))
    ∃ u, s.reformGroup g = (u, St.ok) ∧ u.num (Obj.groupEpoch g) = d.epoch ∧ (u.group g).members = d.members ∧
      (s.producer g = s.consumer g → u.num (Obj.groupNextSequence g) = d.first) := by
  unfold State.reformGroup
  extract_lets d st s1 s2 x s3 h
  have hst : st = St.ok := hs
  rw [if_neg (not_not.2 hst)]
  have h1 : Settled endTables s s1 := Settled.rfl.abortGroup.clearGroup
  clear_value s1
  have hindices : WritesIn [⟨0x3100, 0x06, 4096, true⟩, ⟨0x3100, 0x07, 4096, true⟩, ⟨0x3100, 0x00, 4096, true⟩,
      ⟨0x3100, 0x0C, 4096, true⟩] s1 s3 := ((((WritesIn.rfl.set (.packed (by decide)) _).set (.packed (by decide)) _).set (.packed (by decide)) _).set
        (.packed (by decide)) _).setGroup g _
  have hepoch : WritesIn [⟨0x3100, 0x07, 4096, true⟩, ⟨0x3100, 0x00, 4096, true⟩, ⟨0x3100, 0x0C, 4096, true⟩]
      (s1.setNum (Obj.groupEpoch g) d.epoch) s3 :=
    (((WritesIn.rfl.set (.packed (by decide)) _).set (.packed (by decide)) _).set (.packed (by decide)) _).setGroup g _
  have hnext : WritesIn [⟨0x3100, 0x00, 4096, true⟩, ⟨0x3100, 0x0C, 4096, true⟩]
      ((s1.setNum (Obj.groupEpoch g) d.epoch).setNum (Obj.groupNextSequence g) d.first) s3 :=
    ((WritesIn.rfl.set (.packed (by decide)) _).set (.packed (by decide)) _).setGroup g _
  have hmem : (s3.group g).members = d.members := congrArg GroupData.members (State.group_setGroup_same ..)
  clear_value s3
  have h4 : Settled endTables s3 (((s3.endShadow h d.members).startExchange g).settleEarly g (some d.epoch)) :=
    Settled.rfl.endShadow.startExchange.settleEarly
  generalize ((s3.endShadow h d.members).startExchange g).settleEarly g (some d.epoch) = t at h4 ⊢
  have h5 : Settled pumpTables s3 (t.pump g) := h4.toPump.pump
  refine ⟨_, rfl, ?_, ?_, fun hempty => ?_⟩
  · exact (h5.objs.packed (by decide)).trans ((hepoch.packed (by decide)).trans (State.num_setNum_same ..))
  · rw [h5.members, hmem]
  · have hi : t.num (Obj.groupQueueIndices g) = s.num (Obj.groupQueueIndices g) :=
      (h4.objs.packed (by decide)).trans ((hindices.packed (by decide)).trans (h1.objs.packed (by decide)))
    have ht : t.producer g = t.consumer g := by rw [State.producer, State.consumer, hi, ← State.producer, hempty, State.consumer]
    rw [State.pump_of_empty ht]
    exact (h4.objs.packed (by decide)).trans ((hnext.packed (by decide)).trans (State.num_setNum_same ..))

theorem reform_completes {rq : Requester} {g : GroupNo} {s : State} (ha : Accepts s rq (Obj.groupCommand g) (.num 2) none)
    (hs : s.reformStatus g = St.ok) :
    let d := groupDef (s.bytes (Obj.groupDefinition g))
    Completes (.groupReform rq g) s fun t =>
      t.num (Obj.groupEpoch g) = d.epoch ∧ (t.group g).members = d.members ∧ t.num (Obj.groupCommandStatus g) = St.ok ∧
      (s.producer g = s.consumer g → t.num (Obj.groupNextSequence g) = d.first) := by
  obtain ⟨u, hu, hepoch, hmem, hnext⟩ := State.reformGroup_ok (s := s.served rq (Obj.groupCommand g)) (g := g)
    (by rw [State.reformStatus_served, hs])
  simp only [State.served_bytes, State.producer, State.consumer, State.served_num] at hepoch hmem hnext
  refine .of_reported rfl ha hu fun t ht hst _ => ⟨(ht.num_of_ne (groupUnit_ne (by decide) g)).trans hepoch, ?_, hst,
    fun he => (ht.num_of_ne (groupUnit_ne (by decide) g)).trans (hnext he)⟩
  rw [ht.group]
  exact hmem

/-- Settles O13: each command's check decides; an accepted one leaves the objects and the data that its own function leaves, a refused
one its status alone. -/
theorem groupsOpenReformAndClose : Obligations.GroupsOpenReformAndClose := by
  unfold Obligations.GroupsOpenReformAndClose
  refine ⟨fun rq g s ha => ⟨create_completes ha, fun hs => ?create⟩, fun rq g s ha => ⟨reform_completes ha, fun hs => ?reform⟩,
    fun rq g s ha => ⟨delete_completes ha, fun h0 => ?delete⟩⟩
  case create =>
    obtain ⟨t, ht, hst, -, hobj⟩ := Completes.of_reported_refused (c := .groupCreate rq g) (st := s.createStatus g) rfl ha
      (by simp [State.createGroup, State.createStatus_served, refuse, hs])
    exact ⟨t, ht, hst, hobj⟩
  case reform =>
    obtain ⟨t, ht, hst, -, hobj⟩ := Completes.of_reported_refused (c := .groupReform rq g) (st := s.reformStatus g) rfl ha
      (by simp [State.reformGroup, State.reformStatus_served, refuse, hs])
    exact ⟨t, ht, hst, hobj⟩
  case delete =>
    obtain ⟨t, ht, hst, -, hobj⟩ := Completes.of_reported_refused (c := .groupDelete rq g) (st := St.notPermittedInState) rfl ha
      (by simp [State.deleteGroup, refuse, h0])
    exact ⟨t, ht, hst, hobj⟩

end Sys2Proof

namespace Sys2Proof

open Sys2Proof.Machine

/-! ## Reservation writes and evacuations (R32, R39–R41) -/

/-! ### Plain writes -/

theorem AnsweredFrom.obj {u t : State} (h : AnsweredFrom u t) (j : Nat) : t.obj j = u.obj j := by
  obtain ⟨_, _, _, rfl⟩ := h
  rfl

theorem OnlyObjects.setP {keys : List Nat} {s t : State} {k : Nat} (h : OnlyObjects keys s t) (hk : k ∈ keys)
    (hp : Obj.persistPending ∈ keys) (v : Val) : OnlyObjects keys s (t.setP k v) := by
  obtain ⟨hobj, hrest⟩ := h
  have h1 : OnlyObjects keys s (t.set k v) :=
    ⟨fun j hj => (State.obj_set_other t v fun (e : j = k) => hj (e ▸ hk)).trans (hobj j hj), hrest⟩
  unfold State.setP State.markWrite
  split
  · exact h1.setNum hp _
  · exact h1
  · exact h1

/-- A write of an object without reserved bits stores its value and nothing else (R10). -/
theorem plainWrite_of_unmasked {k : Nat} (hk : (findRow k).bind (fun r => r.1.mask) = none) (v : Val) (s : State) :
    plainWrite k v s = (s.setP k v, St.ok) := by
  unfold plainWrite State.setP
  rw [hk]
  cases v <;> rfl

theorem plainWrite_blob (k : Nat) (b : Bytes) (s : State) : plainWrite k (.blob b) s = (s.setP k (.blob b), St.ok) := rfl

/-- An accepted request that only sets its object leaves the value, and beside it the count of the writes to be committed (R422). -/
theorem Completes.of_setP {c : Instr} {s : State} {rq : Requester} {k : Nat} {v : Val} {e : Effect}
    (hc : exec c s = .next (s.request rq k v none e)) (ha : Accepts s rq k v none)
    (he : e (s.served rq k) = ((s.served rq k).setP k v, St.ok)) (hk : k ≠ Obj.persistPending) :
    Completes c s fun t => t.obj k = v ∧ Answered rq St.ok t ∧ OnlyObjects [k, Obj.persistPending] s t :=
  .of_request hc ha he fun t ht hst => ⟨(ht.obj k).trans (State.obj_setP_same _ _ _ hk), hst,
    ht.onlyObjects ((OnlyObjects.served ..).setP (by simp) (by simp) _)⟩

/-- The reservation objects have no reserved bits. -/
theorem reservation_unmasked (h : Hoop) : (findRow (Obj.hoopMemoryCapacity h)).bind (fun r => r.1.mask) = none ∧
    (findRow (Obj.hoopTileMask h)).bind (fun r => r.1.mask) = none ∧
    (findRow (Obj.hoopContextMinimum h)).bind (fun r => r.1.mask) = none := by
  revert h; decide +kernel

/-- While the hoop is Empty its reservation takes any value (R32). -/
theorem emptyReservation_completes {rq : Requester} {h : Hoop} {object : Reservation} {value : BitVec 64} {s : State}
    (ha : Accepts s rq (reservationKey h object) (.num value.toNat) none) (h0 : s.num (Obj.hoopState h) = 0)
    (ho : ∀ k c, object ≠ .pool k c) :
    Completes (.hoopReservationWrite rq h object value) s fun t => t.num (reservationKey h object) = value.toNat ∧
      Answered rq St.ok t ∧ OnlyObjects [reservationKey h object, Obj.persistPending] s t := by
  have hs : (s.served rq (reservationKey h object)).num (Obj.hoopState h) = 0 := (State.served_num ..).trans h0
  have he : reservationEffect h value.toNat object (s.served rq (reservationKey h object)) =
      ((s.served rq (reservationKey h object)).setP (reservationKey h object) (.num value.toNat), St.ok) ∧
      reservationKey h object ≠ Obj.persistPending := by
    obtain ⟨hmemory, htiles, hcontexts⟩ := reservation_unmasked h
    cases object with
    | memory => exact ⟨(if_pos hs).trans (plainWrite_of_unmasked hmemory ..), ne_persistPending (by decide)⟩
    | tiles => exact ⟨(if_pos hs).trans (plainWrite_of_unmasked htiles ..), ne_persistPending (by decide)⟩
    | contexts => exact ⟨(if_pos hs).trans (plainWrite_of_unmasked hcontexts ..), ne_persistPending (by decide)⟩
    | pool k c => exact absurd rfl (ho k c)
  obtain ⟨t, ht, hobj, hans, honly⟩ := Completes.of_setP (c := .hoopReservationWrite rq h object value) rfl ha he.1 he.2
  exact ⟨t, ht, congrArg Val.toNat hobj, hans, honly⟩

/-- A capacity that passes and covers the frames held becomes the reservation (R32, R206). -/
theorem capacity_completes {rq : Requester} {h : Hoop} {value : BitVec 64} {s : State}
    (ha : Accepts s rq (Obj.hoopMemoryCapacity h) (.num value.toNat) none) (h0 : s.num (Obj.hoopState h) ≠ 0)
    (hc : s.reserveCheck h (s.num (Obj.hoopTileMask h)) value.toNat (s.num (Obj.hoopContextMinimum h)) = (St.ok, 0))
    (hv : s.num (Obj.hoopFramesHeld h) * frameBytes ≤ value.toNat) :
    Completes (.hoopReservationWrite rq h .memory value) s fun t =>
      t.num (Obj.hoopMemoryCapacity h) = value.toNat ∧ t.num (Obj.hoopFrameLimit h) = value.toNat / frameBytes ∧
      Answered rq St.ok t := by
  have he : memoryEffect h value.toNat (s.served rq (Obj.hoopMemoryCapacity h)) =
      ((((s.served rq (Obj.hoopMemoryCapacity h)).setP (Obj.hoopMemoryCapacity h) (.num value.toNat)).setNum (Obj.hoopFrameLimit h)
        (value.toNat / frameBytes)).countCapacity, St.ok) := by
    unfold memoryEffect
    simp only [State.served_num, State.reserveCheck_served, hc, h0, not_lt.2 hv, if_false, ne_eq, not_true_eq_false]
    rfl
  have hr : Reserves _ (((s.served rq (Obj.hoopMemoryCapacity h)).setP (Obj.hoopMemoryCapacity h) (.num value.toNat)).setNum
    (Obj.hoopFrameLimit h) (value.toNat / frameBytes)).countCapacity := Reserves.rfl.countCapacity
  refine .of_request rfl ha he fun t ht hst => ⟨?_, ?_, hst⟩
  · refine (ht.num _).trans ((hr.objs.linear (by decide)).trans ((State.num_setNum_other _ _ (linearUnit_ne (by decide))).trans ?_))
    exact congrArg Val.toNat (State.obj_setP_same _ _ _ (ne_persistPending (by decide)))
  · exact (ht.num _).trans ((hr.objs.linear (by decide)).trans (State.num_setNum_same ..))

theorem capacity_refused {rq : Requester} {h : Hoop} {value : BitVec 64} {s : State}
    (ha : Accepts s rq (Obj.hoopMemoryCapacity h) (.num value.toNat) none) (h0 : s.num (Obj.hoopState h) ≠ 0)
    (hc : s.reserveCheck h (s.num (Obj.hoopTileMask h)) value.toNat (s.num (Obj.hoopContextMinimum h)) = (St.ok, 0))
    (hv : value.toNat < s.num (Obj.hoopFramesHeld h) * frameBytes) :
    Completes (.hoopReservationWrite rq h .memory value) s fun t => Answered rq St.busy t ∧ OnlyObjects [] s t := by
  refine .of_refused (e := memoryEffect h value.toNat) rfl ha ?_
  unfold memoryEffect
  simp only [State.served_num, State.reserveCheck_served, hc, h0, hv, if_false, if_true, ne_eq, not_true_eq_false]
  rfl

theorem Machine.State.losesBoundTile_served (s : State) (rq : Requester) (k h mask : Nat) :
    (s.served rq k).losesBoundTile h mask = s.losesBoundTile h mask := by
  obtain ⟨_, _, e⟩ := s.served_only rq k
  rw [e]
  rfl

theorem tileMask_refused {rq : Requester} {h : Hoop} {value : BitVec 64} {s : State}
    (ha : Accepts s rq (Obj.hoopTileMask h) (.num value.toNat) none) (h0 : s.num (Obj.hoopState h) ≠ 0)
    (hc : s.reserveCheck h value.toNat (s.num (Obj.hoopMemoryCapacity h)) (s.num (Obj.hoopContextMinimum h)) = (St.ok, 0))
    (hl : s.losesBoundTile h value.toNat = true) :
    Completes (.hoopReservationWrite rq h .tiles value) s fun t => Answered rq St.busy t ∧ OnlyObjects [] s t := by
  refine .of_refused (e := tileMaskEffect h value.toNat) rfl ha ?_
  unfold tileMaskEffect
  simp only [State.served_num, State.reserveCheck_served, State.losesBoundTile_served, hc, h0, hl, if_false, if_true, ne_eq,
    not_true_eq_false]
  rfl

theorem evacuationTarget_completes {rq : Requester} {h : Hoop} {value : Bytes} {s : State}
    (ha : Accepts s rq (Obj.evacuationTarget h) (.blob value) none) (hl : value.length = 32) (hk : targetKind value ≤ 2) :
    Completes (.evacuationTargetWrite rq h value) s fun t => t.obj (Obj.evacuationTarget h) = .blob value ∧ Answered rq St.ok t ∧
      OnlyObjects [Obj.evacuationTarget h, Obj.persistPending] s t :=
  .of_setP rfl ha ((if_neg (by omega)).trans (plainWrite_blob ..)) (ne_persistPending (by decide))

theorem evacuationTarget_refused {rq : Requester} {h : Hoop} {value : Bytes} {s : State}
    (ha : Accepts s rq (Obj.evacuationTarget h) (.blob value) none) (hv : value.length ≠ 32 ∨ 2 < targetKind value) :
    Completes (.evacuationTargetWrite rq h value) s fun t => Answered rq St.accessDenied t ∧ OnlyObjects [] s t :=
  .of_refused rfl ha (if_pos hv)

end Sys2Proof

namespace Sys2Proof

open Sys2Proof.Machine

/-! ### The start of an evacuation (R27, R40) -/

section Served

variable (s : State) (rq : Requester) (k h : Nat)

theorem Machine.State.slotImage_served (slot : Nat) : (s.served rq k).slotImage h slot = s.slotImage h slot := by
  rw [State.slotImage, State.served_hoop, State.slotImage]

theorem Machine.State.evacuationHeader_served : (s.served rq k).evacuationHeader h = s.evacuationHeader h := by
  simp only [State.evacuationHeader, State.slotImage_served, State.served_num, State.served_bytes]

theorem Machine.State.evacuationGroups_served : (s.served rq k).evacuationGroups h = s.evacuationGroups h := by
  simp [State.evacuationGroups, State.groupsOf]

theorem Machine.State.classPieces_served (c : Nat) : (s.served rq k).classPieces h c = s.classPieces h c := by
  simp only [State.classPieces, State.slotImage_served, State.served_hoop]

theorem Machine.State.frameOfLogical_served (l : Nat) : (s.served rq k).frameOfLogical l = s.frameOfLogical l := by
  obtain ⟨_, _, e⟩ := s.served_only rq k
  rw [e]
  rfl

theorem Machine.State.extents_served (n : Nat) (frames : List Nat) (off len : Nat) :
    State.extents n (s.served rq k) frames off len = State.extents n s frames off len := by
  induction n generalizing off len with
  | zero => rfl
  | succ n ih => simp only [State.extents, State.frameOfLogical_served, ih]

theorem Machine.State.planExtents_served (b parity off n : Nat) :
    (s.served rq k).planExtents h b parity off n = s.planExtents h b parity off n := by
  simp only [State.planExtents, State.parityFrames, State.extents_served, State.served_hoop]

theorem Machine.State.extentBad_served : (s.served rq k).extentBad = s.extentBad := by
  obtain ⟨_, _, e⟩ := s.served_only rq k
  rw [e]
  rfl

theorem Machine.State.pieceBad_served : (s.served rq k).pieceBad h = s.pieceBad h := by
  funext x
  simp only [State.pieceBad, State.planExtents_served, State.extentBad_served, State.served_hoop]

theorem Machine.State.evacuationLength_served : (s.served rq k).evacuationLength h = s.evacuationLength h := by
  simp only [State.evacuationLength, State.manifestLength, State.deferredBytes, State.evacuationHeader_served,
    State.evacuationGroups_served, State.classPieces_served, State.pieceBad_served, State.served_hoop]

theorem Machine.State.hoopSession_served (address : Nat) : (s.served rq k).hoopSession h address = s.hoopSession h address := by
  obtain ⟨_, _, e⟩ := s.served_only rq k
  rw [e]
  rfl

theorem Machine.State.rtsOf_served (q : Nat) : (s.served rq k).rtsOf h q = s.rtsOf h q := by
  obtain ⟨_, _, e⟩ := s.served_only rq k
  rw [e]
  rfl

theorem Machine.State.evacuationCheck_served : (s.served rq k).evacuationCheck h = s.evacuationCheck h := by
  simp only [State.evacuationCheck, State.served_bytes, State.rtsOf_served, State.evacuationLength_served, State.hoopSession_served]

end Served

theorem Machine.State.evacuateCommand_begins {s : State} {h : Nat} (hn : (s.hoop h).evacuation = none)
    (hs : s.num (Obj.hoopState h) = 4 ∨ s.num (Obj.hoopState h) = 6) : s.evacuateCommand h = (s.beginEvacuation h, St.ok) := by
  have h2 : s.num (Obj.hoopState h) ≠ 2 := by omega
  unfold State.evacuateCommand
  simp only [hn, h2, hs, Option.isSome_none, Bool.false_eq_true, if_false, if_true]

/-- An evacuation whose target passes runs from here on, with nothing written (R40). -/
theorem Machine.State.beginEvacuation_ok {s : State} {h : Nat} (hc : s.evacuationCheck h = St.ok) :
    ((s.beginEvacuation h).hoop h).evacuation.isSome = true ∧ (s.beginEvacuation h).num (Obj.evacuationStatus h) = St.busy ∧
      (s.beginEvacuation h).num (Obj.evacuationBytesWritten h) = 0 ∧
      (s.beginEvacuation h).num (Obj.hoopState h) = s.num (Obj.hoopState h) := by
  unfold State.beginEvacuation
  extract_lets st x t s1
  have hst : st = St.ok := hc
  rw [if_neg (not_not.2 hst)]
  refine ⟨?_, ?_, State.num_setNum_same .., ?_⟩
  · rw [State.setNum_hoop, State.setNum_hoop, State.hoop_setHoop_same]
    rfl
  · exact (State.num_setNum_other _ _ (linearUnit_ne (by decide))).trans (State.num_setNum_same ..)
  · exact (State.num_setNum_other _ _ (linearUnit_ne (by decide))).trans (State.num_setNum_other _ _ (linearUnit_ne (by decide)))

/-- An evacuation whose target does not pass says what the target lacks, before anything is written (R40). -/
theorem Machine.State.beginEvacuation_fails {s : State} {h : Nat} (hc : s.evacuationCheck h ≠ St.ok) :
    ((s.beginEvacuation h).hoop h).evacuation = (s.hoop h).evacuation ∧
      (s.beginEvacuation h).num (Obj.evacuationStatus h) = s.evacuationCheck h ∧ (s.beginEvacuation h).mem = s.mem := by
  unfold State.beginEvacuation
  rw [if_pos hc]
  refine ⟨?_, State.num_setNum_same .., rfl⟩
  rw [State.setNum_hoop, State.hoop_setHoop_same]

section Evacuate

variable {rq : Requester} {h : Hoop} {s : State}

theorem evacuate_completes (ha : Accepts s rq (Obj.hoopCommand h) (.num 5) none) (hn : (s.hoop h).evacuation = none)
    (hs : s.num (Obj.hoopState h) = 4 ∨ s.num (Obj.hoopState h) = 6) (hc : s.evacuationCheck h = St.ok) :
    Completes (.evacuate rq h) s fun t => (t.hoop h).evacuation.isSome = true ∧
      t.num (Obj.evacuationStatus h) = St.busy ∧ t.num (Obj.evacuationBytesWritten h) = 0 ∧
      t.num (Obj.hoopState h) = s.num (Obj.hoopState h) ∧ t.num (Obj.hoopCommandStatus h) = St.ok := by
  obtain ⟨hrun, hstatus, hwritten, hstate⟩ := State.beginEvacuation_ok (s := s.served rq (Obj.hoopCommand h)) (h := h)
    (by rw [State.evacuationCheck_served, hc])
  refine .of_reported rfl ha (State.evacuateCommand_begins (by simpa using hn) (by simpa using hs)) fun t ht hst _ =>
    ⟨?_, (ht.num_of_ne (linearUnit_ne (by decide))).trans hstatus, (ht.num_of_ne (linearUnit_ne (by decide))).trans hwritten,
      (ht.num_of_ne (linearUnit_ne (by decide))).trans (hstate.trans (State.served_num ..)), hst⟩
  rw [ht.hoop]
  exact hrun

theorem evacuate_reports (ha : Accepts s rq (Obj.hoopCommand h) (.num 5) none) (hn : (s.hoop h).evacuation = none)
    (hs : s.num (Obj.hoopState h) = 4 ∨ s.num (Obj.hoopState h) = 6) (hc : s.evacuationCheck h ≠ St.ok) :
    Completes (.evacuate rq h) s fun t => (t.hoop h).evacuation = none ∧
      t.num (Obj.evacuationStatus h) = s.evacuationCheck h ∧ t.mem = s.mem := by
  obtain ⟨hrun, hstatus, hmem⟩ := State.beginEvacuation_fails (s := s.served rq (Obj.hoopCommand h)) (h := h)
    (by rwa [State.evacuationCheck_served])
  rw [State.served_hoop] at hrun
  rw [State.evacuationCheck_served] at hstatus
  refine .of_reported rfl ha (State.evacuateCommand_begins (by simpa using hn) (by simpa using hs)) fun t ht _ _ =>
    ⟨?_, (ht.num_of_ne (linearUnit_ne (by decide))).trans hstatus, ht.mem.trans (hmem.trans (State.served_mem ..))⟩
  rw [ht.hoop]
  exact hrun.trans hn

end Evacuate

end Sys2Proof

namespace Sys2Proof

open Sys2Proof.Machine

/-! ### The frames of the hoop's own plan (R202) -/

/-- The frames under a plan buffer are frames of the plan. -/
theorem mem_planFrames_of_parityFrames {s : State} {h b parity l : Nat} (hl : l ∈ s.parityFrames h b parity) :
    l ∈ (s.hoop h).planFrames.flatten := by
  have hb : l ∈ (s.hoop h).planFrames[b]?.getD [] := List.mem_of_mem_drop (List.mem_of_mem_take hl)
  cases he : (s.hoop h).planFrames[b]? with
  | none => rw [he] at hb; nomatch hb
  | some frames =>
    rw [he] at hb
    exact List.mem_flatten.2 ⟨frames, List.mem_of_getElem? he, hb⟩

/-- Where the frames of a plan are the hoop's, no bytes of its buffers lie in a frame of another hoop. -/
theorem foreignPlan_of_ownPlan {s : State} {h : Nat} (ho : OwnPlan s h) (b parity off n : Nat) :
    s.foreignPlan h b parity off n = none := by
  unfold State.foreignPlan State.foreignFrame
  split
  · rfl
  · refine List.find?_eq_none.2 fun l hl => ?_
    have hplan := mem_planFrames_of_parityFrames (List.mem_of_mem_drop (List.mem_of_mem_take hl))
    rw [Bool.not_eq_true, Option.any_eq_false]
    intro c hc
    have hlogical : c.2.logical = l := by simpa using List.find?_some hc
    rw [ho c (List.mem_of_find?_eq_some hc) (hlogical ▸ hplan)]
    exact bne_self_eq_false h

theorem evacuationForeign_of_ownPlan {s : State} {h : Nat} (ho : OwnPlan s h) : s.evacuationForeign h = none :=
  List.findSome?_eq_none_iff.2 fun _ _ => foreignPlan_of_ownPlan ho ..

/-! ### Memory under what an evacuation sends and reads -/

theorem Machine.State.enqueue_mem (s : State) (w : Nat) (r : EmitRequest) : (s.enqueue w r).mem = s.mem := by
  unfold State.enqueue
  dsimp only
  split <;> rfl

theorem Machine.State.sendWhere_mem (s : State) (q : Nat) (p : FabricPacket → Bool) : (s.sendWhere q p).mem = s.mem := by
  have hsent (l : List FabricPacket) : (s.each l fun t x => t.sendPacket q x).mem = s.mem :=
    State.each_keeps (fun t => t.mem = s.mem) (fun t x => t.sendPacket q x) (fun _ _ ht => ht) l s rfl
  have hsolicit (t : State) : (t.solicit q).mem = t.mem := by
    unfold State.solicit
    dsimp only
    split <;> rfl
  unfold State.sendWhere
  dsimp only
  split
  · rfl
  · split
    · exact hsent _
    · split
      · exact hsolicit _
      · rfl

theorem Machine.State.noteBadLines_mem (s : State) (lines : List Nat) : (s.noteBadLines lines).mem = s.mem := by
  refine State.each_keeps (fun t => t.mem = s.mem) _ (fun t l ht => ?_) lines s rfl
  rw [← ht]
  unfold State.noteUncorrectable
  dsimp only
  split
  · exact State.raise_mem ..
  · rfl

theorem Machine.State.writeEvacuation_mem (s : State) (h : Nat) (e : Evacuation) : (s.writeEvacuation h e).mem = s.mem := by
  unfold State.writeEvacuation
  dsimp only
  split
  · exact State.each_keeps (fun t => t.mem = s.mem) _ (fun t x ht => (State.enqueue_mem ..).trans ht) _ s rfl
  · refine (State.sendWhere_mem ..).trans ?_
    split <;> rfl

/-- To a peer the parts go into the queue of a wale, which writes no object. -/
theorem Machine.State.writeEvacuation_peer (s : State) (h : Nat) {e : Evacuation} (he : e.toPeer = true) :
    Settled [] s (s.writeEvacuation h e) := by
  unfold State.writeEvacuation
  dsimp only
  rw [if_pos he]
  exact Settled.rfl.each _ fun _ _ hu => hu.emitTo

/-! ### The end of an evacuation -/

theorem evacuationComplete_completes {h : Hoop} {e : Evacuation} {s : State} (he : (s.hoop h).evacuation = some e)
    (ho : OwnPlan s h) : Completes (.evacuationComplete h) s fun t =>
    t.num (Obj.evacuationBytesWritten h) = s.evacuationLength h ∧ t.mem = s.mem ∧
    (e.toPeer = false → (t.hoop h).evacuation = none ∧ t.num (Obj.evacuationStatus h) = St.ok) ∧
    (e.toPeer = true → t.num (Obj.evacuationStatus h) = s.num (Obj.evacuationStatus h)) := by
  have hmem : ((s.writeEvacuation h e).noteEvacuationReads h).mem = s.mem :=
    (State.noteBadLines_mem ..).trans (State.writeEvacuation_mem ..)
  have hset (hp : e.toPeer = true) : Settled readTables s ((s.writeEvacuation h e).noteEvacuationReads h) :=
    ((s.writeEvacuation_peer h hp).mono (List.nil_subset _)).noteBadLines_in (List.Subset.refl _)
  have hx : exec (.evacuationComplete h) s = execEvacuationComplete h s := rfl
  unfold execEvacuationComplete at hx
  simp only [he, evacuationForeign_of_ownPlan ho, Option.isSome_none, Bool.false_eq_true, if_false] at hx
  generalize (s.writeEvacuation h e).noteEvacuationReads h = u at hmem hset hx
  cases hp : e.toPeer with
  | true =>
    rw [hp, if_pos rfl] at hx
    refine ⟨_, hx, State.num_setNum_same .., (State.setNum_mem ..).trans hmem, nofun, fun _ => ?_⟩
    exact (State.num_setNum_other _ _ (linearUnit_ne (by decide))).trans ((hset hp).objs.linear (by decide))
  | false =>
    rw [hp, if_neg Bool.false_ne_true] at hx
    refine ⟨_, hx, ?_, hmem, fun _ => ⟨?_, State.num_setNum_same ..⟩, nofun⟩
    · exact (State.num_setNum_other _ _ (linearUnit_ne (by decide))).trans (State.num_setNum_same ..)
    · rw [State.setNum_hoop, State.hoop_setHoop_same]

/-- An evacuation that ends leaves its status and no more. -/
theorem Machine.State.endEvacuation_ends (s : State) (h status : Nat) :
    ((s.endEvacuation h status).hoop h).evacuation = none ∧ (s.endEvacuation h status).num (Obj.evacuationStatus h) = status ∧
      ((s.endEvacuation h status).hoop h).shadow = (s.hoop h).shadow ∧
      ObjectsKept [Obj.evacuationStatus h] s (s.endEvacuation h status) ∧ (s.endEvacuation h status).mem = s.mem := by
  unfold State.endEvacuation
  refine ⟨?_, State.num_setNum_same .., ?_, fun k hk => ?_, rfl⟩
  · rw [State.setNum_hoop, State.hoop_setHoop_same]
  · rw [State.setNum_hoop, State.hoop_setHoop_same]
  · exact State.obj_setNum_other _ _ (by simpa using hk)

theorem evacuationTimeout_completes {h : Hoop} {s : State} (hs : (s.hoop h).evacuation.isSome = true) :
    Completes (.evacuationTimeout h) s fun t => (t.hoop h).evacuation = none ∧ t.num (Obj.evacuationStatus h) = St.timeout ∧
      ObjectsKept [Obj.evacuationStatus h, Obj.evacuationBytesWritten h] s t ∧ t.mem = s.mem := by
  refine ⟨_, if_pos hs, ?_⟩
  have hup : ObjectsKept [Obj.evacuationBytesWritten h] s (s.countUp (Obj.evacuationBytesWritten h) (s.evacuationLength h)) ∧
      (s.countUp (Obj.evacuationBytesWritten h) (s.evacuationLength h)).mem = s.mem := by
    unfold State.countUp
    split
    · exact ⟨fun k hk => State.obj_setNum_other s _ (by simpa using hk), rfl⟩
    · exact ⟨fun _ _ => rfl, rfl⟩
  obtain ⟨hend, hstatus, -, hobj, hmem⟩ :=
    (s.countUp (Obj.evacuationBytesWritten h) (s.evacuationLength h)).endEvacuation_ends h St.timeout
  refine ⟨hend, hstatus, fun k hk => ?_, hmem.trans hup.2⟩
  rw [List.mem_cons, List.mem_singleton, not_or] at hk
  exact (hobj k (by simpa using hk.1)).trans (hup.1 k (by simpa using hk.2))

theorem evacuationStatus_completes {w : Wale} {n : SessionNo} {payload : Bytes} {s : State} (h2 : (s.session w n).state = 2)
    (hh : (s.session w n).hoop < 16) (hp : (s.hoop (s.session w n).hoop).evacuation.any Evacuation.toPeer = true) :
    let h := (s.session w n).hoop
    Completes (.evacuationStatusReceived w n payload) s fun t =>
      (t.hoop h).evacuation = none ∧ t.num (Obj.evacuationStatus h) = beNat (payload.take 2) ∧
      (beNat (payload.take 2) = St.ok → (t.hoop h).shadow = some (s.wale w).handshake.peerAddress) ∧
      ObjectsKept [Obj.evacuationStatus h] s t ∧ t.mem = s.mem := by
  intro h
  have hx : exec (.evacuationStatusReceived w n payload) s = .next (State.endEvacuation
      (if beNat (payload.take 2) = St.ok then s.setHoop h { s.hoop h with shadow := some (s.wale w).handshake.peerAddress } else s)
      h (beNat (payload.take 2))) := by
    refine (if_neg ?_).trans (if_pos hp)
    omega
  obtain ⟨hend, hstatus, hshadow, hobj, hmem⟩ := State.endEvacuation_ends
    (if beNat (payload.take 2) = St.ok then s.setHoop h { s.hoop h with shadow := some (s.wale w).handshake.peerAddress } else s)
    h (beNat (payload.take 2))
  refine ⟨_, hx, hend, hstatus, fun hok => ?_, fun k hk => (hobj k hk).trans ?_, hmem.trans ?_⟩
  · rw [hshadow, if_pos hok, State.hoop_setHoop_same]
  · split <;> rfl
  · split <;> rfl

end Sys2Proof

namespace Sys2Proof

open Sys2Proof.Machine

/-! ### An evacuated state arrives (R40, R337) -/

/-- Pieces delivered into the hoop's own plan change module memory and no more. -/
theorem Machine.State.each_deliverPlan_only {s : State} {h : Nat} (ho : OwnPlan s h) (l : List (Nat × Nat × Nat × Bytes)) :
    ∃ m x, (s.each l fun t p => t.deliverPlan h p.1 p.2.1 p.2.2.1 p.2.2.2) = { s with mem := m, memory := x } := by
  refine State.each_keeps (fun t => ∃ m x, t = { s with mem := m, memory := x }) _ (fun t p ht => ?_) l s ⟨_, _, rfl⟩
  obtain ⟨m, x, rfl⟩ := ht
  have ht : OwnPlan { s with mem := m, memory := x } h := ho
  unfold State.deliverPlan
  rw [foreignPlan_of_ownPlan ht]
  obtain ⟨m', x', e⟩ := State.writePlan_only { s with mem := m, memory := x } h p.1 p.2.1 p.2.2.1 p.2.2.2
  exact ⟨m', x', e⟩

/-- Taking a state leaves the wales alone; a shadow in Loading compares from the step after the last completed one. -/
theorem Machine.State.takeState_ok {s : State} {h : Nat} (ho : OwnPlan s h) (parts : List Bytes) :
    (s.takeState h parts).line = s.line ∧ (s.num (Obj.shadowState h) = 1 →
      (s.takeState h parts).num (Obj.shadowState h) = 2 ∧
      (s.takeState h parts).num (Obj.outerStepCounter h) = (field (parts.getD 0 []) 8 4 + 1) % 2 ^ 32) := by
  unfold State.takeState
  extract_lets part pieces s1 rest y s2
  obtain ⟨m, x, e⟩ : ∃ m x, s1 = { s with mem := m, memory := x } := State.each_deliverPlan_only ho _
  have hline1 : s1.line = s.line := by rw [e]
  have hline : s2.line = s.line := hline1
  have hnum1 (k : Nat) : s1.num k = s.num k := by
    rw [e]
    rfl
  have hnum (k : Nat) : s2.num k = s.num k := hnum1 k
  clear_value s2
  rw [hnum]
  split
  next h1 =>
    refine ⟨hline, fun _ => ⟨State.num_setNum_same .., ?_⟩⟩
    refine (State.num_setNum_other _ _ (linearUnit_ne (by decide))).trans ((State.num_setNum_same ..).trans ?_)
    simp [part, List.getD_eq_getElem?_getD]
  next h1 => exact ⟨hline, fun h => absurd h h1⟩

/-- A request that fits enters its wale's queue at the end. -/
theorem Machine.State.enqueue_fits {s : State} {w : Nat} {r : EmitRequest} (hr : r.payload.length ≤ 16384) :
    ∃ r', ((s.enqueue w r).wale w).tx.queue = (s.wale w).tx.queue ++ [r'] ∧ r'.vc = r.vc ∧ r'.session = r.session ∧
      r'.payload = r.payload := by
  unfold State.enqueue
  dsimp only
  rw [if_neg (not_lt.2 hr), State.wale_setWale_same]
  exact ⟨_, rfl, rfl, rfl, rfl⟩

theorem Machine.State.enqueue_dict (s : State) (w : Nat) (r : EmitRequest) : (s.enqueue w r).dict = s.dict := by
  unfold State.enqueue
  dsimp only
  split <;> rfl

theorem evacuationReceived_completes {w : Wale} {n : SessionNo} {parts : List Bytes} {manifest : Bytes} {s : State}
    (h2 : (s.session w n).state = 2) (hh : (s.session w n).hoop < 16) :
    let h := (s.session w n).hoop
    let status := if !s.mayTake h (s.session w n).planHash then St.notPermittedInState
      else if !digestsMatch parts manifest then St.uncorrectable else St.ok
    OwnPlan s h → Completes (.evacuationReceived w n parts manifest) s fun t =>
      (∃ r, (t.wale w).tx.queue = (s.wale w).tx.queue ++ [r] ∧ r.vc = 3 ∧ r.session = n.val ∧
        r.payload = beBytes 2 status ++ sha3Bytes manifest) ∧
      (status ≠ St.ok → t.mem = s.mem ∧ t.dict = s.dict) ∧
      (status = St.ok → s.num (Obj.shadowState h) = 1 → t.num (Obj.shadowState h) = 2 ∧
        t.num (Obj.outerStepCounter h) = (field (parts.getD 0 []) 8 4 + 1) % 2 ^ 32) := by
  intro h status ho
  obtain ⟨r, hx, hvc, hsession, hpayload⟩ : ∃ r : EmitRequest, exec (.evacuationReceived w n parts manifest) s =
      .next ((if status = St.ok then s.takeState h parts else s).enqueue w r) ∧ r.vc = 3 ∧ r.session = n.val ∧
      r.payload = beBytes 2 status ++ sha3Bytes manifest := ⟨_, if_neg (by omega), rfl, rfl, rfl⟩
  have hfits : r.payload.length ≤ 16384 := by simp [hpayload, sha3Bytes]
  obtain ⟨hline, hshadow⟩ := State.takeState_ok ho parts
  have hwale : (if status = St.ok then s.takeState h parts else s).wale w = s.wale w := by
    split
    · rw [State.wale, hline, State.wale]
    · rfl
  obtain ⟨r', hqueue, hvc', hsession', hpayload'⟩ :=
    State.enqueue_fits (s := if status = St.ok then s.takeState h parts else s) (w := w) hfits
  rw [hwale] at hqueue
  refine ⟨_, hx, ⟨r', hqueue, hvc'.trans hvc, hsession'.trans hsession, hpayload'.trans hpayload⟩, fun hst => ?_, fun hst h1 => ?_⟩
  · rw [if_neg hst]
    exact ⟨State.enqueue_mem .., State.enqueue_dict ..⟩
  · have hnum (u : State) (k : Nat) : (u.enqueue w r).num k = u.num k := by
      rw [State.num, State.obj, State.enqueue_dict, State.num, State.obj]
    rw [if_pos hst, hnum, hnum]
    exact hshadow h1

/-- Settles O12, part by part: a plain write, the checks of Configure, the start of an evacuation and its ends, and the state that
arrives. -/
theorem reservationWritesAndEvacuation : Obligations.ReservationWritesAndEvacuation := by
  unfold Obligations.ReservationWritesAndEvacuation
  refine ⟨?empty, ?capacity, ?tiles, ?target, ?evacuate, ?complete, ?timeout, ?received, ?status⟩
  case empty => exact fun _ _ _ _ _ => emptyReservation_completes
  case capacity => exact fun _ _ _ _ ha h0 hc => ⟨capacity_completes ha h0 hc, capacity_refused ha h0 hc⟩
  case tiles => exact fun _ _ _ _ => tileMask_refused
  case target => exact fun _ _ _ _ ha => ⟨evacuationTarget_completes ha, evacuationTarget_refused ha⟩
  case evacuate => exact fun _ _ _ ha hn hs => ⟨evacuate_completes ha hn hs, evacuate_reports ha hn hs⟩
  case complete => exact fun _ _ _ => evacuationComplete_completes
  case timeout => exact fun _ _ => evacuationTimeout_completes
  case received => exact fun _ _ _ _ _ => evacuationReceived_completes
  case status => exact fun _ _ _ _ => evacuationStatus_completes

end Sys2Proof

namespace Sys2Proof

open Sys2Proof.Machine

/-! ## Collectives: queues, contexts and the life of operations (R48–R70, R84)

### What the requester writes (R213, R221) -/

/-- The objects that packets of the requester write: send PSNs and the counts of what has left (R224, R226). -/
def requesterTables : List ObjTable := [⟨0x6500, 0x07, 16384, true⟩, ⟨0x6500, 0x0D, 16384, true⟩, ⟨0x6080, 0x05, 16, false⟩]

/-- Between `s` and `t` the requester has queued and sent packets, and done nothing else. -/
structure Posted (s t : State) : Prop where
  objs : WritesIn requesterTables s t
  rest : ∃ d f o, t = { s with dict := d, fabric := f, out := o }

namespace Posted

variable {s t : State}

protected theorem rfl : Posted s s := ⟨.rfl, _, _, _, rfl⟩

theorem keep (h : Posted s t) (f : FabricState) (o : List Signal) : Posted s { t with fabric := f, out := o } := by
  obtain ⟨_, _, _, rfl⟩ := h.rest
  exact ⟨h.objs.keep rfl, _, _, _, rfl⟩

theorem setNum (h : Posted s t) {k : Nat} (hk : Written requesterTables k) (n : Nat) : Posted s (t.setNum k n) := by
  obtain ⟨_, _, _, rfl⟩ := h.rest
  exact ⟨h.objs.set hk _, _, _, _, rfl⟩

theorem ite {c : Prop} [Decidable c] {u v : State} (hu : Posted s u) (hv : Posted s v) : Posted s (if c then u else v) := by
  split
  · exact hu
  · exact hv

theorem sendPacket (h : Posted s t) (q : Nat) (x : FabricPacket) : Posted s (t.sendPacket q x) :=
  ((h.keep t.fabric (.packet q (t.packetHead q) x.opcode x.psn x.address x.key x.data :: t.out)).setNum (.packed (by decide)) _).setNum
    (.linear (by decide)) _

theorem markLeft (h : Posted s t) (q : Nat) (p : FabricPacket → Bool) (left : Bool) : Posted s (t.markLeft q p left) := h.keep _ t.out

theorem solicit (h : Posted s t) (q : Nat) : Posted s (t.solicit q) := ite h (h.keep t.fabric _)

theorem sendWhere (h : Posted s t) (q : Nat) (p : FabricPacket → Bool) : Posted s (t.sendWhere q p) :=
  have hsent : Posted s (t.each ((t.qp q).sent.filter p) fun u x => u.sendPacket q x) :=
    State.each_keeps _ _ (fun _ x hu => hu.sendPacket q x) _ t h
  ite h (ite (hsent.markLeft ..) (ite ((h.markLeft ..).solicit q) (h.markLeft ..)))

theorem rdmaWrite (h : Posted s t) (q address key : Nat) (data : Bytes) (result : Option (Nat × Nat × Nat)) :
    Posted s (t.rdmaWrite q address key data result) :=
  ((h.keep (t.setQp q _).fabric t.out).setNum (.packed (by decide)) _).sendWhere q _

theorem writeRecord (h : Posted s t) (g : Nat) (d : Bytes) (type flags status : Nat) (chunk : Option Nat) (place done : Nat) :
    Posted s (t.writeRecord g d type flags status chunk place done) := by
  unfold State.writeRecord
  dsimp only
  split
  · exact h
  · exact ite ((h.rdmaWrite ..).rdmaWrite ..) (h.rdmaWrite ..)

theorem work (h : Posted s t) : t.work = s.work := by
  obtain ⟨_, _, _, rfl⟩ := h.rest
  rfl

theorem pools (h : Posted s t) : t.pools = s.pools := by
  obtain ⟨_, _, _, rfl⟩ := h.rest
  rfl

end Posted

/-! ### What leaves a group's operations alone -/

/-- The objects of `endTables` but the states of groups. -/
def quietTables : List ObjTable := endTables.filter (· ≠ ⟨0x3100, 0x00, 4096, true⟩)

/-- Between `s` and `t` every group has kept its state and its operations. -/
structure Quiet (s t : State) : Prop where
  objs : WritesIn quietTables s t
  ops : ∀ g, (t.group g).ops = (s.group g).ops

namespace Quiet

section Shape

variable {s t u : State}

protected theorem rfl : Quiet s s := ⟨.rfl, fun _ => rfl⟩

theorem trans (h : Quiet s t) (h' : Quiet t u) : Quiet s u := ⟨h.objs.trans h'.objs, fun g => (h'.ops g).trans (h.ops g)⟩

theorem groupState (h : Quiet s t) (g : Nat) : t.num (Obj.groupState g) = s.num (Obj.groupState g) := h.objs.packed (by decide)

/-- What writes no object and changes of the work in hand no group. -/
theorem keepGroups {pending mem out freeCtr control events boot security meter line time work pools tiles fabric memory optics net power}
    (h : Quiet s t) (hg : work.groups = t.work.groups) : Quiet s ⟨pending, t.dict, mem, out, freeCtr, control, events,
      boot, security, meter, line, time, work, pools, tiles, fabric, memory, optics, net, power⟩ :=
  ⟨h.objs.keep rfl, fun g => by
    rw [← h.ops g, State.group, State.group]
    exact congrArg (fun m => (Map.get ({} : GroupData) m g).ops) hg⟩

/-- What writes no object and leaves the work in hand as it was. -/
theorem keep {pending mem out freeCtr control events boot security meter line time pools tiles fabric memory optics net power}
    (h : Quiet s t) : Quiet s ⟨pending, t.dict, mem, out, freeCtr, control, events,
      boot, security, meter, line, time, t.work, pools, tiles, fabric, memory, optics, net, power⟩ := h.keepGroups rfl

theorem setNum (h : Quiet s t) {k : Nat} (hk : Written quietTables k) (n : Nat) : Quiet s (t.setNum k n) := ⟨h.objs.set hk _, h.ops⟩

theorem setGroup (h : Quiet s t) (g : Nat) {x : GroupData} (hx : x.ops = (t.group g).ops) : Quiet s (t.setGroup g x) := by
  refine ⟨h.objs.keep rfl, fun j => ?_⟩
  by_cases hj : j = g
  · rw [hj, State.group_setGroup_same, hx, h.ops]
  · rw [State.group_setGroup_other _ _ hj, h.ops]

theorem ite {c : Prop} [Decidable c] {u v : State} (hu : Quiet s u) (hv : Quiet s v) : Quiet s (if c then u else v) := by
  split
  · exact hu
  · exact hv

theorem each {α : Type} (h : Quiet s t) (xs : List α) {f : State → α → State} (hf : ∀ u x, Quiet s u → Quiet s (f u x)) :
    Quiet s (t.each xs f) :=
  State.each_keeps _ f hf xs t h

end Shape

variable {s t : State} {h c k g w i gen q status step handle : Nat} {o : Operation}

theorem reserves (hs : Quiet s t) {u : State} (h' : Reserves t u) : Quiet s u :=
  hs.trans ⟨h'.objs.mono (by decide), fun g => by rw [h'.group]⟩

theorem posted (hs : Quiet s t) {u : State} (h' : Posted t u) : Quiet s u :=
  hs.trans ⟨h'.objs.mono (by decide), fun g => by rw [State.group, h'.work, State.group]⟩

theorem settled {l : List ObjTable} (hs : Quiet s t) {u : State} (h' : Settled l t u) (hl : l ⊆ quietTables)
    (hw : u.work.groups = t.work.groups) : Quiet s u :=
  hs.trans ⟨h'.objs.mono hl, fun g => by rw [State.group, hw, State.group]⟩

theorem raise (hs : Quiet s t) (code : Nat) (a : EventArgs) : Quiet s (t.raise code a) :=
  hs.settled (Settled.rfl.raise_in (List.Subset.refl _) code a) (by decide) (by
    obtain ⟨_, _, _, _, e⟩ := t.raise_only code a
    rw [e])

theorem enqueue {r : EmitRequest} (hs : Quiet s t) : Quiet s (t.enqueue w r) := ite hs.keep hs.keep

theorem countPools (hs : Quiet s t) : Quiet s (t.countPools h) := hs.reserves (Reserves.rfl.countPools h)

theorem trim (hs : Quiet s t) : Quiet s (t.trim h c) := hs.reserves (Reserves.rfl.trim h c)

theorem endEpisode (hs : Quiet s t) : Quiet s (t.endEpisode h k) :=
  have hw : Quiet s (t.countWaiting h k) := hs.setNum (.linear (by decide)) _
  ite hw.keep hw

theorem dropWaiting {p : PoolRequest → Bool} (hs : Quiet s t) : Quiet s (t.dropWaiting p) :=
  hs.keep.each _ fun _ _ hu => hu.endEpisode.trim.countPools

theorem refuseFree {holder : Option Nat} (hs : Quiet s t) : Quiet s (t.refuseFree h handle holder) := by
  unfold State.refuseFree
  extract_lets frame die s1
  have h1 : Quiet s s1 := (hs.setNum (.single (by decide)) _).raise _ _
  split
  · exact h1.keep
  · exact h1

theorem freeHandle {u : State} (hs : Quiet s t) (e : t.freeHandle h handle = .freed u) : Quiet s u := by
  unfold State.freeHandle at e
  split at e
  · nomatch e
  · dsimp only at e
    split at e
    · nomatch e
    · cases e
      exact hs.keep.trim.countPools

theorem freeEach {handles : List Nat} (hs : Quiet s t) : Quiet s (t.freeEach h handles) := by
  refine hs.each _ fun u y hu => ?_
  split
  next e => exact hu.freeHandle e
  · exact hu.refuseFree

theorem keepFor {m : Option Nat} {handles : List Nat} (hs : Quiet s t) : Quiet s (t.keepFor m handles) := by
  refine hs.each _ fun u y hu => ?_
  split
  · exact hu
  · split
    · exact hu
    · exact hu.keep

theorem letGo {handles : List Nat} {keep : Option Nat} (hs : Quiet s t) : Quiet s (t.letGo h keep handles) :=
  ite hs.keepFor hs.freeEach

theorem noteUncorrectable (hs : Quiet s t) : Quiet s (t.noteUncorrectable c) := by
  unfold State.noteUncorrectable
  extract_lets s1 y net memory s2 due
  have h1 : Quiet s s1 := (hs.setNum (.packed (by decide)) _).setNum (.single (by decide)) _
  have h2 : Quiet s s2 := h1.keep
  exact ite (h2.keep.raise _ _) h2

theorem noteBadLines {lines : List Nat} (hs : Quiet s t) : Quiet s (t.noteBadLines lines) :=
  hs.each _ fun _ _ hu => hu.noteUncorrectable

theorem endLanding {keep : Option Nat} (hs : Quiet s t) : Quiet s (t.endLanding h w gen i keep) := (hs.keepGroups (by rfl)).letGo

theorem writeRecord {d : Bytes} {type flags place done : Nat} {chunk : Option Nat} (hs : Quiet s t) :
    Quiet s (t.writeRecord g d type flags status chunk place done) := hs.posted (Posted.rfl.writeRecord ..)

theorem leaveTile {c : Nat × Nat × Nat} (hs : Quiet s t) : Quiet s (t.leaveTile i c) :=
  ite (hs.keep.setNum (.linear (by decide)) _) hs.keep

theorem advanceGen (hs : Quiet s t) : Quiet s (t.advanceGen w i gen) := ite hs (hs.keepGroups (by rfl))

theorem dropEmits {seq : Nat} (hs : Quiet s t) : Quiet s (t.dropEmits g seq) := hs.each _ fun _ _ hu => ite hu.keep hu

theorem dropResults {seq : Nat} (hs : Quiet s t) : Quiet s (t.dropResults g seq) := hs.keep

theorem endHoldings {keep : Bool} (hs : Quiet s t) : Quiet s (t.endHoldings g o keep) := by
  unfold State.endHoldings
  extract_lets hoop window mine s1 work2 s2 gens s3 streams xs work4 s4 s5 waits s6 s7 y
  have h2 : Quiet s s2 := (hs.each _ fun _ _ hu => hu.leaveTile : Quiet s s1).keepGroups (by rfl)
  have h4 : Quiet s s4 := (h2.each _ fun _ _ hu => hu.endLanding : Quiet s s3).keepGroups (by rfl)
  have h6 : Quiet s s6 := h4.letGo.dropWaiting.dropEmits
  exact h6.dropResults.setGroup g (by rfl)

theorem voidOperation (hs : Quiet s t) : Quiet s (t.voidOperation g o) := hs.endHoldings

theorem settleMatch (hs : Quiet s t) : Quiet s (t.settleMatch h step) := by
  unfold State.settleMatch
  extract_lets y mine left key u net s1 s2
  have h2 : Quiet s s2 := (hs.keepGroups (by rfl) : Quiet s s1).setNum (.linear (by decide)) _
  exact ite hs (ite ((h2.setNum (.linear (by decide)) _).raise _ _) h2)

theorem retain (hs : Quiet s t) : Quiet s (t.retain g o) := ite hs (hs.keepGroups (by rfl))

theorem runAgain {r : Retained} {side redo : Nat} (hs : Quiet s t) : Quiet s (t.runAgain r side redo) := by
  unfold State.runAgain
  extract_lets g op o o' y s1 work
  have h1 : Quiet s s1 := hs.setGroup g (by rfl)
  exact ite hs (h1.keepGroups (by rfl))

theorem forgetEvacuation (hs : Quiet s t) : Quiet s (t.forgetEvacuation h) := ite (hs.keepGroups (by rfl)) hs

theorem advanceStep (hs : Quiet s t) : Quiet s (t.advanceStep g o) := by
  have h1 : Quiet s ((t.bump 32 (Obj.outerStepCounter (t.hoopOfGroup g)) 1).settleMatch (t.hoopOfGroup g) o.step) :=
    (hs.setNum (.linear (by decide)) _).settleMatch
  exact ite (ite (h1.raise _ _) h1) hs

theorem beginEvacuation (hs : Quiet s t) : Quiet s (t.beginEvacuation h) :=
  have hx {x : HoopData} : Quiet s (t.setHoop h x) := hs.keepGroups (by rfl)
  ite (hx.setNum (.linear (by decide)) _) ((hx.setNum (.linear (by decide)) _).setNum (.linear (by decide)) _)

theorem stopHoop (hs : Quiet s t) : Quiet s (t.stopHoop h) :=
  ite (hs.setNum (.linear (by decide)) _).beginEvacuation (hs.setNum (.linear (by decide)) _)

theorem settleHoop (hs : Quiet s t) : Quiet s (t.settleHoop h) := ite hs.stopHoop hs

end Quiet

end Sys2Proof

namespace Sys2Proof

open Sys2Proof.Machine

/-! ### Operations end, and none begins (R57, R63, R65) -/

/-- Every operation of the group that holds a context has its end decided (R57). -/
def Machine.State.AllEnded (s : State) (g : Nat) : Prop := ∀ o ∈ (s.group g).ops, o.ending.isSome = true

/-- Between `s` and `t` no group has gained an operation, no decided end has been taken back, and a group's state has changed from Open
to Broken at most. -/
structure Dwindles (s t : State) : Prop where
  states : ∀ g, t.num (Obj.groupState g) = s.num (Obj.groupState g) ∨
    s.num (Obj.groupState g) = 1 ∧ t.num (Obj.groupState g) = 2
  fewer : ∀ g, (t.group g).ops.length ≤ (s.group g).ops.length
  ended : ∀ g, s.AllEnded g → t.AllEnded g

/-- An operation of a list replaced by its sequence number, as `setOp` does it. -/
def replaceOp (o y : Operation) : Operation := if y.seq = o.seq then o else y

theorem Machine.State.setOp_ops_same (s : State) (g : Nat) (o : Operation) :
    ((s.setOp g o).group g).ops = (s.group g).ops.map (replaceOp o) := by
  rw [State.setOp, State.group_setGroup_same]
  rfl

theorem Machine.State.setOp_ops_other (s : State) {g j : Nat} (o : Operation) (hj : j ≠ g) :
    ((s.setOp g o).group j).ops = (s.group j).ops := by
  rw [State.setOp, State.group_setGroup_other _ _ hj]

namespace Dwindles

section Shape

variable {s t u : State}

protected theorem rfl : Dwindles s s := ⟨fun _ => .inl rfl, fun _ => le_rfl, fun _ h => h⟩

theorem trans (h : Dwindles s t) (h' : Dwindles t u) : Dwindles s u := by
  refine ⟨fun g => ?_, fun g => (h'.fewer g).trans (h.fewer g), fun g hg => h'.ended g (h.ended g hg)⟩
  have hst := h.states g
  have htu := h'.states g
  omega

theorem quiet (h : Dwindles s t) (h' : Quiet t u) : Dwindles s u :=
  h.trans ⟨fun g => .inl (h'.groupState g), fun g => by rw [h'.ops g], fun g hg o ho => hg o (h'.ops g ▸ ho)⟩

/-- A group without operations stays without. -/
theorem noOps (h : Dwindles s t) {g : Nat} (hs : (s.group g).ops = []) : (t.group g).ops = [] :=
  List.eq_nil_of_length_eq_zero (Nat.le_zero.1 (by simpa [hs] using h.fewer g))

/-- A Broken group stays Broken. -/
theorem broken (h : Dwindles s t) {g : Nat} (hs : s.num (Obj.groupState g) = 2) : t.num (Obj.groupState g) = 2 := by
  have hst := h.states g
  omega

theorem ite {c : Prop} [Decidable c] {u v : State} (hu : Dwindles s u) (hv : Dwindles s v) : Dwindles s (if c then u else v) := by
  split
  · exact hu
  · exact hv

theorem each {α : Type} (h : Dwindles s t) (xs : List α) {f : State → α → State}
    (hf : ∀ u x, Dwindles s u → Dwindles s (f u x)) :
    Dwindles s (t.each xs f) :=
  State.each_keeps _ f hf xs t h

theorem setGroup (h : Dwindles s t) (g : Nat) {x : GroupData} (hx : x.ops.Sublist (t.group g).ops) : Dwindles s (t.setGroup g x) := by
  refine h.trans ⟨fun _ => .inl rfl, fun j => ?_, fun j hj o ho => hj o ?_⟩
  · by_cases hj : j = g
    · rw [hj, State.group_setGroup_same]
      exact hx.length_le
    · rw [State.group_setGroup_other _ _ hj]
  · by_cases e : j = g
    · rw [e, State.group_setGroup_same] at ho
      exact e ▸ hx.subset ho
    · rwa [State.group_setGroup_other _ _ e] at ho

theorem setOp (h : Dwindles s t) (g : Nat) {o : Operation} (ho : o.ending.isSome = true) : Dwindles s (t.setOp g o) := by
  refine h.trans ⟨fun _ => .inl rfl, fun j => ?_, fun j hj y hy => ?_⟩
  · by_cases e : j = g
    · rw [e, State.setOp_ops_same, List.length_map]
    · rw [State.setOp_ops_other _ _ e]
  · by_cases e : j = g
    · rw [e, State.setOp_ops_same] at hy
      obtain ⟨x, hx, rfl⟩ := List.mem_map.1 hy
      unfold replaceOp
      split
      · exact ho
      · exact hj x (e ▸ hx)
    · exact hj y (by rwa [State.setOp_ops_other _ _ e] at hy)

end Shape

variable {s t : State} {h g cause unit status step side redo : Nat} {keep : Bool} {o : Operation} {r : Retained} {c : Reconcile}

theorem endOpWith (hs : Dwindles s t) : Dwindles s (t.endOpWith keep g o status) :=
  have h1 : Dwindles s (t.setOp g { o with ending := some status, phase := 2 }) := hs.setOp g rfl
  ite h1 (h1.quiet (Quiet.rfl.endHoldings.each _ fun _ _ hu => hu.advanceGen))

theorem endOp (hs : Dwindles s t) : Dwindles s (t.endOp g o status) := hs.endOpWith

theorem abortOps (hs : Dwindles s t) : Dwindles s (t.abortOps g status keep) := by
  unfold State.abortOps
  extract_lets s1 y s2
  have h1 : Dwindles s s1 := hs.quiet (Quiet.rfl.each _ fun _ _ hu => hu.endHoldings)
  have h2 : Dwindles s s2 := h1.setGroup g (List.Sublist.refl _)
  exact h2.each _ fun _ _ hu => hu.endOpWith

theorem enterFault (hs : Dwindles s t) : Dwindles s (t.enterFault h cause unit) := by
  unfold State.enterFault
  extract_lets st s1 s2 s3
  have h1 : Quiet t s1 := Quiet.rfl.raise _ _
  have h2 : Quiet t s2 := ((h1.setNum (.linear (by decide)) _).setNum (.linear (by decide)) _).setNum (.linear (by decide)) _
  have h3 : Dwindles s s3 := (hs.quiet h2).each _ fun _ _ hu => hu.abortOps
  exact ite hs (ite (hs.quiet h1) (h3.quiet Quiet.rfl.dropWaiting.forgetEvacuation))

theorem resendStreams {sites : Nat} (hs : Dwindles s t) : Dwindles s (t.resendStreams h g o sites) := by
  unfold State.resendStreams
  dsimp only
  split
  · exact hs
  · refine hs.each _ fun u d hu => ite hu (ite (hu.quiet Quiet.rfl.noteBadLines).enterFault (hu.quiet ?_))
    exact Quiet.rfl.each _ fun _ _ hv => hv.each _ fun _ _ hw => hw.enqueue

theorem replay (hs : Dwindles s t) : Dwindles s (t.replay h c r) :=
  ite hs.resendStreams (ite hs.resendStreams (hs.resendStreams.quiet Quiet.rfl.runAgain))

theorem joinReplay (hs : Dwindles s t) : Dwindles s (t.joinReplay h g o) := by
  unfold State.joinReplay
  split
  · exact ite hs.replay hs
  · exact hs

theorem freeContext (hs : Dwindles s t) : Dwindles s (t.freeContext g o) :=
  (hs.setGroup g List.filter_sublist).quiet
    (((Quiet.rfl.setNum (.single (by decide)) _).setNum (.linear (by decide)) _).setNum (.packed (by decide)) _)

theorem markBroken (hs : Dwindles s t) : Dwindles s (t.markBroken g) := by
  unfold State.markBroken
  split
  next h1 =>
    have h2 : Dwindles t (t.setNum (Obj.groupState g) 2) := by
      refine ⟨fun j => ?_, fun _ => le_rfl, fun _ hj => hj⟩
      by_cases e : j = g
      · rw [e]
        exact .inr ⟨h1, State.num_setNum_same ..⟩
      · exact .inl (State.num_setNum_other _ _ fun he => e ((packedUnit_inj (by decide)).1 he))
    exact (hs.trans h2).quiet (Quiet.rfl.raise _ _)
  · exact hs

theorem settleOps {n : Nat} (hs : Dwindles s t) : Dwindles s (State.settleOps n t g) := by
  induction n generalizing t with
  | zero => exact hs
  | succ n ih =>
    unfold State.settleOps
    split
    · exact hs
    · split
      · exact hs
      · split
        · exact ih hs.endOp.markBroken
        · extract_lets place s1 s2 s3 s4
          have h1 : Quiet t s1 := Quiet.rfl.writeRecord
          have h2 : Quiet t s2 := .ite h1.retain h1
          have h3 : Dwindles s s3 := (hs.quiet h2).freeContext
          exact ih (ite (h3.quiet Quiet.rfl.voidOperation.advanceStep).joinReplay h3)

theorem endRedo (hs : Dwindles s t) : Dwindles s (t.endRedo g o) := by
  unfold State.endRedo
  extract_lets status chunks s1 s2 s3 y s4
  have h1 : Quiet t s1 := Quiet.rfl.writeRecord
  have h3 : Quiet t s3 := (Quiet.ite h1.retain h1 : Quiet t s2).voidOperation
  clear_value s3
  have h4 : Quiet t s4 := h3.setGroup g (by rfl)
  exact hs.quiet (.ite h4.advanceStep h4)

theorem settleRedo (hs : Dwindles s t) : Dwindles s (t.settleRedo g) := hs.each _ fun _ _ hu => hu.endRedo

theorem settleRecords (hs : Dwindles s t) : Dwindles s (t.settleRecords g) := hs.settleOps.settleRedo

theorem settleFault (hs : Dwindles s t) : Dwindles s (t.settleFault h) := ite (hs.each _ fun _ _ hu => hu.settleRecords) hs

theorem faultHoop (hs : Dwindles s t) : Dwindles s (t.faultHoop h cause unit) := ite hs.enterFault hs.enterFault.settleFault

theorem settleFrees {n : Nat} (hs : Dwindles s t) : Dwindles s (State.settleFrees n t) := by
  induction n generalizing t with
  | zero => exact hs
  | succ n ih =>
    unfold State.settleFrees
    split
    · exact hs
    · exact ih ((hs.quiet Quiet.rfl.keep).each _ fun _ _ hu => hu.faultHoop)

theorem checkFrees (hs : Dwindles s t) : Dwindles s t.checkFrees := hs.settleFrees

theorem settleGroup (hs : Dwindles s t) : Dwindles s (t.settleGroup g) :=
  have h2 := ite hs.settleRecords hs.settleRecords.settleFault
  h2.checkFrees.quiet Quiet.rfl.settleHoop

theorem breakOps (hs : Dwindles s t) : Dwindles s (t.breakOps g) := hs.markBroken.each _ fun _ _ hu => ite hu.endOp hu

theorem breakGroup (hs : Dwindles s t) : Dwindles s (t.breakGroup g) := hs.breakOps.settleGroup

end Dwindles

/-! ### A group whose operations have all ended loses them (R57) -/

/-- What the end of an operation leaves of its group's operations. -/
theorem Machine.State.endOp_ops (s : State) (g : Nat) (o : Operation) (status : Nat) :
    ((s.endOp g o status).group g).ops = (s.group g).ops.map (replaceOp { o with ending := some status, phase := 2 }) := by
  rw [← State.setOp_ops_same]
  unfold State.endOp State.endOpWith
  extract_lets s1 s2
  have h2 : Quiet s1 (s2.each (s2.landingOf g o) fun t i => t.advanceGen (dSourceWindow o.desc) i o.generation) :=
    Quiet.rfl.endHoldings.each _ fun _ _ hu => hu.advanceGen
  exact (Quiet.ite .rfl h2).ops g

theorem Machine.State.markBroken_ops (s : State) (g j : Nat) : ((s.markBroken g).group j).ops = (s.group j).ops := by
  unfold State.markBroken
  split
  · exact (Quiet.rfl.raise _ _).ops j
  · rfl

/-- Writing the records of a group's ended operations takes every one of them: two rounds each at most, where the record of a good
one cannot be written. -/
theorem Machine.State.settleOps_empties {g n : Nat} {s : State} (he : s.AllEnded g)
    (hn : 2 * (s.group g).ops.length ≤ n ∨ 2 * (s.group g).ops.length ≤ n + 1 ∧
      ∃ o st, (s.group g).ops.head? = some o ∧ o.ending = some st ∧ st ≠ St.ok) :
    ((State.settleOps n s g).group g).ops = [] := by
  induction n generalizing s with
  | zero =>
    refine List.eq_nil_of_length_eq_zero ?_
    change (s.group g).ops.length = 0
    omega
  | succ n ih =>
    unfold State.settleOps
    split
    next e => exact e
    next o rest e =>
      split
      next hnone => exact absurd (he o (by simp [e])) (by simp [hnone])
      next status hstatus =>
        have hlen : (s.group g).ops.length = rest.length + 1 := by rw [e, List.length_cons]
        split
        next hlost =>
          have hops : (((s.endOp g o St.timeout).markBroken g).group g).ops =
              (s.group g).ops.map (replaceOp { o with ending := some St.timeout, phase := 2 }) := by
            rw [State.markBroken_ops, State.endOp_ops]
          refine ih (Dwindles.rfl.endOp.markBroken.ended g he)
            (.inr ⟨?_, { o with ending := some St.timeout, phase := 2 }, St.timeout, ?_, rfl, by decide⟩)
          · rw [hops, List.length_map]
            rcases hn with hn | ⟨-, y, st, hy, hst, hne⟩
            · exact hn
            · rw [e, List.head?_cons, Option.some_inj] at hy
              rw [hy, hst, Option.some_inj] at hstatus
              exact absurd (hstatus.trans hlost.1) hne
          · rw [hops, e, List.map_cons, List.head?_cons, replaceOp, if_pos rfl]
        next hwritten =>
          extract_lets place s1 s2 s3 s4
          have h1 : Quiet s s1 := Quiet.rfl.writeRecord
          have h2 : Quiet s s2 := .ite h1.retain h1
          have h3 : ((s3.group g).ops) = rest.filter fun y => y.seq != o.seq := by
            refine (congrArg GroupData.ops (State.group_setGroup_same ..)).trans ?_
            change (s2.group g).ops.filter _ = _
            rw [h2.ops, e, List.filter_cons_of_neg (by simp)]
          have hs3 : Dwindles s s3 := (Dwindles.rfl.quiet h2).freeContext
          have h4 : Dwindles s3 s4 := .ite (Dwindles.rfl.quiet Quiet.rfl.voidOperation.advanceStep).joinReplay .rfl
          have hless : (s4.group g).ops.length ≤ rest.length :=
            (h4.fewer g).trans (by rw [h3]; exact List.length_filter_le ..)
          exact ih ((hs3.trans h4).ended g he) (.inl (by omega))

theorem Machine.State.settleGroup_empties {s : State} {g : Nat} (he : s.AllEnded g) : ((s.settleGroup g).group g).ops = [] := by
  have h1 : ((State.settleOps (2 * (s.group g).ops.length + 2) s g).group g).ops = [] := State.settleOps_empties he (.inl (by omega))
  have h2 : ((s.settleRecords g).group g).ops = [] := Dwindles.rfl.settleRedo.noOps h1
  have h3 : Dwindles (s.settleRecords g) (s.settleGroup g) :=
    (Dwindles.ite .rfl Dwindles.rfl.settleFault).checkFrees.quiet Quiet.rfl.settleHoop
  exact h3.noOps h2

/-- The lone operation of a group whose end is decided leaves it. -/
theorem Machine.State.finishOp_empties {s : State} {g seq status : Nat} {o : Operation} (hops : (s.group g).ops = [o])
    (hseq : o.seq = seq) (he : o.ending = none) : ((s.finishOp g seq status).group g).ops = [] := by
  have ho : s.operation g seq = some o := by simp [State.operation, hops, hseq]
  unfold State.finishOp
  rw [ho]
  dsimp only
  rw [if_pos (by rw [he]; rfl)]
  refine State.settleGroup_empties fun y hy => ?_
  rw [State.endOp_ops, hops, List.map_cons, List.map_nil, List.mem_singleton, replaceOp, if_pos rfl] at hy
  rw [hy]
  rfl

/-- A group that breaks has ended each of its operations (R63). -/
theorem Machine.State.breakOps_allEnded (s : State) (g : Nat) : (s.breakOps g).AllEnded g := by
  unfold State.breakOps
  extract_lets s1
  suffices h : ∀ (l : List Operation) (t : State), (∀ y ∈ (t.group g).ops, y.ending.isSome = true ∨ y ∈ l) →
      (t.each l fun t o => if o.ending.isNone then t.endOp g o St.timeout else t).AllEnded g from
    h _ s1 fun _ hy => .inr hy
  intro l
  induction l with
  | nil => exact fun t ht y hy => (ht y hy).resolve_right (List.not_mem_nil)
  | cons o l ih =>
    intro t ht
    refine ih _ fun y hy => ?_
    dsimp only at hy
    split at hy
    · rw [State.endOp_ops] at hy
      obtain ⟨x, hx, rfl⟩ := List.mem_map.1 hy
      unfold replaceOp
      split
      · exact .inl rfl
      next hne =>
        have hxo : x ≠ o := fun e => hne (by rw [e])
        exact (ht x hx).imp_right fun hm => (List.mem_cons.1 hm).resolve_left hxo
    next hsome =>
      refine (ht y hy).elim .inl fun hm => (List.mem_cons.1 hm).imp_left fun e => ?_
      rw [e]
      exact by simpa [Option.isSome_iff_ne_none] using hsome

/-- A group that breaks is Broken and has no operation left (R63). -/
theorem Machine.State.breakGroup_breaks {s : State} {g : Nat} (hs : s.num (Obj.groupState g) = 1 ∨ s.num (Obj.groupState g) = 2) :
    (s.breakGroup g).num (Obj.groupState g) = 2 ∧ ((s.breakGroup g).group g).ops = [] := by
  refine ⟨?_, State.settleGroup_empties (s.breakOps_allEnded g)⟩
  have hmark : (s.markBroken g).num (Obj.groupState g) = 2 := by
    unfold State.markBroken
    split
    next h1 => exact ((Quiet.rfl.raise _ _).groupState g).trans (State.num_setNum_same ..)
    next h1 => exact hs.resolve_left h1
  have h2 : Dwindles (s.markBroken g) (s.breakOps g) := Dwindles.rfl.each _ fun _ _ hu => .ite hu.endOp hu
  exact h2.settleGroup.broken hmark

end Sys2Proof

namespace Sys2Proof

open Sys2Proof.Machine

/-! ### An operation and its group (R57) -/

theorem Machine.State.operation_seq {s : State} {g q : Nat} {o : Operation} (h : s.operation g q = some o) : o.seq = q :=
  beq_iff_eq.1 (List.find?_some h :)

/-- The operation found by its number is the one that `setOp` replaces. -/
theorem Machine.State.operation_setOp {s : State} {g q : Nat} {o o' : Operation} (h : s.operation g q = some o) (hq : o'.seq = q) :
    (s.setOp g o').operation g q = some o' := by
  have hf : (fun y : Operation => y.seq == q) ∘ replaceOp o' = fun y => y.seq == q := by
    funext y
    simp only [Function.comp, replaceOp]
    split
    next e => rw [hq, e, hq]
    · rfl
  have hg : (s.setOp g o').group g = { s.group g with
      ops := (s.group g).ops.map (replaceOp o'), redo := (s.group g).redo.map (replaceOp o') } := State.group_setGroup_same ..
  unfold State.operation at h ⊢
  rw [hg, ← List.map_append, List.find?_map, hf, h, Option.map_some, replaceOp,
    if_pos ((beq_iff_eq.1 (List.find?_some h :)).trans hq.symm)]

theorem Machine.State.operation_of_group {s t : State} {g : Nat} (h : t.group g = s.group g) (q : Nat) :
    t.operation g q = s.operation g q := by
  rw [State.operation, h, State.operation]

theorem Machine.State.group_of_groups {s t : State} (h : t.work.groups = s.work.groups) (g : Nat) : t.group g = s.group g := by
  rw [State.group, h, State.group]

theorem Machine.State.hoop_of_hoops {s t : State} (h : t.work.hoops = s.work.hoops) (i : Nat) : t.hoop i = s.hoop i := by
  rw [State.hoop, h, State.hoop]

/-! ### A Queued operation starts (R57, R63, R342) -/

theorem Machine.State.readMirrored_of_noBad {s : State} (h : s.memory.bad = []) (r : Config.Region) (a b n : Nat) :
    s.readMirrored r a b n = (s, true) := by
  simp [State.readMirrored, State.regionBad, h]

/-- A contribution goes into the queues of the wales, or is refused there. -/
theorem Machine.State.sendContribution_only (s : State) (g : Nat) (o : Operation) :
    ∃ l u, s.sendContribution g o = { s with line := l, out := u } := by
  unfold State.sendContribution
  dsimp only
  split
  · exact ⟨_, _, rfl⟩
  · refine State.each_keeps (fun t => ∃ l u, t = { s with line := l, out := u }) _ (fun t m ht => ?_) _ s ⟨_, _, rfl⟩
    obtain ⟨_, _, rfl⟩ := ht
    unfold State.emitTo State.enqueue
    dsimp only
    split <;> exact ⟨_, _, rfl⟩

/-- While nothing is held of some other member, an operation does not have every payload (R70). -/
theorem Machine.State.allPayloads_of_missing {s : State} {g : Nat} (o : Operation) (hc : (s.group g).contributions = [])
    (hm : (s.group g).members.any (fun m => m != s.ownAddress (s.hoopOfGroup g)) = true) : s.allPayloads g o = none := by
  simp only [State.allPayloads, State.contributionsOf, hc]
  generalize (s.group g).members = l at hm ⊢
  induction l with
  | nil => nomatch hm
  | cons m l ih =>
    rw [List.foldr_cons]
    rw [List.any_cons, Bool.or_eq_true] at hm
    rcases hm with hm | hm
    · simp [bne_iff_ne.1 hm]
    · rw [ih hm, Option.bind_none]

/-- A small collective of which nothing has come in waits. -/
theorem Machine.State.settleSmall_of_missing {s : State} {g q : Nat} {o : Operation} (ho : s.operation g q = some o)
    (hc : (s.group g).contributions = [])
    (hm : (s.group g).members.any (fun m => m != s.ownAddress (s.hoopOfGroup g)) = true) : s.settleSmall g q = s := by
  have hheld : s.contributionsOf g o = [] := by rw [State.contributionsOf, hc, List.filter_nil]
  simp [State.settleSmall, ho, hheld, State.allPayloads_of_missing o hc hm]

/-- The operation as it runs from now on (R57, R342). -/
def Machine.State.started (s : State) (h : Nat) (o : Operation) : Operation :=
  { o with phase := 1, step := s.num (Obj.outerStepCounter h)
           side := if s.num (Obj.partitionState h) = 1 then s.num (Obj.partitionSide h) else 0xFFFF }

/-- The state in which it runs, with its autonomous step counted (R342). -/
def Machine.State.underway (s : State) (g : Nat) (o : Operation) : State :=
  let h := s.hoopOfGroup g
  if s.num (Obj.partitionState h) = 1 then (s.setOp g (s.started h o)).countAutonomous h else s.setOp g (s.started h o)

theorem Machine.State.underway_only (s : State) (g : Nat) (o : Operation) :
    ∃ d, s.underway g o = { s.setOp g (s.started (s.hoopOfGroup g) o) with dict := d } ∧
      WritesIn [⟨0xA020, 0x06, 16, false⟩] s (s.underway g o) := by
  unfold State.underway
  dsimp only
  split
  · exact ⟨_, rfl, WritesIn.rfl.set (.linear (by decide)) _⟩
  · exact ⟨_, rfl, .rfl⟩

/-- The module's address in a hoop's groups is read from three objects (R46). -/
theorem Machine.State.ownAddress_of_writes {l : List ObjTable} {s t : State} (ho : WritesIn l s t)
    (hl : ∀ y ∈ l, ObjTable.Apart ⟨0xA020, 0x09, 16, false⟩ y ∧ ObjTable.Apart ⟨0xA020, 0x08, 16, false⟩ y ∧
      ObjTable.Apart ⟨0xA000, 0x02, 1, false⟩ y) (h : Nat) : t.ownAddress h = s.ownAddress h := by
  have hstate : t.num (Obj.shadowState h) = s.num (Obj.shadowState h) := ho.linear fun y hy => (hl y hy).1
  have hprimary : t.num (Obj.shadowPrimary h) = s.num (Obj.shadowPrimary h) := ho.linear fun y hy => (hl y hy).2.1
  have haddress : t.num Obj.fabricAddress = s.num Obj.fabricAddress :=
    ho.num (Written.not_key (x := ⟨0xA000, 0x02, 1, false⟩) (fun y hy => (hl y hy).2.2) 0)
  rw [State.ownAddress, hstate, hprimary, haddress, State.ownAddress]

section Run

variable {g : GroupNo} {seq : BitVec 32} {o : Operation} {s : State}

theorem operationRun_exec (ho : s.operation g seq.toNat = some o) (hp : o.phase = 0) (he : o.ending = none)
    (hr : s.mayRun g o = true) (hopen : s.stepOpen (s.hoopOfGroup g) = true) (hw : s.beyondWindow (s.hoopOfGroup g) = false)
    (hb : s.memory.bad = []) : exec (.operationRun g seq) s =
      if s.isSmall g then
        .next (((s.underway g o).sendContribution g (s.started (s.hoopOfGroup g) o)).settleSmall g seq.toNat)
      else .next (s.underway g o) := by
  change execOperationRun g seq s = _
  have hseq : o.seq = seq.toNat := State.operation_seq ho
  simp only [execOperationRun, ho, hp, he, hr, hopen, hw, State.readMirrored_of_noBad hb, State.underway, State.started, hseq]
  simp

theorem operationRun_starts (ho : s.operation g seq.toNat = some o) (hp : o.phase = 0) (he : o.ending = none)
    (hr : s.mayRun g o = true) (hopen : s.stepOpen (s.hoopOfGroup g) = true) (hw : s.beyondWindow (s.hoopOfGroup g) = false)
    (hb : s.memory.bad = [])
    (hsmall : s.isSmall g = false ∨ (s.group g).contributions = [] ∧
      (s.group g).members.any (fun m => m != s.ownAddress (s.hoopOfGroup g)) = true) :
    Completes (.operationRun g seq) s fun t =>
      t.operation g seq.toNat = some (s.started (s.hoopOfGroup g) o) ∧ t.mem = s.mem ∧ t.tiles = s.tiles := by
  have hx := operationRun_exec ho hp he hr hopen hw hb
  obtain ⟨d, hu, hobjs⟩ := s.underway_only g o
  have hop : (s.underway g o).operation g seq.toNat = some (s.started (s.hoopOfGroup g) o) := by
    have hseq : o.seq = seq.toNat := State.operation_seq ho
    rw [hu]
    exact State.operation_setOp ho hseq
  have hrest : (s.underway g o).mem = s.mem ∧ (s.underway g o).tiles = s.tiles := by
    rw [hu]
    exact ⟨rfl, rfl⟩
  cases hk : s.isSmall g with
  | false => exact ⟨s.underway g o, by rw [hx, hk, if_neg Bool.false_ne_true], hop, hrest⟩
  | true =>
    obtain ⟨hc, hm⟩ := hsmall.resolve_left (by simp [hk])
    have hsame : ((s.underway g o).group g).contributions = (s.group g).contributions ∧
        ((s.underway g o).group g).members = (s.group g).members := by
      have hgroup : (s.underway g o).group g = (s.setOp g (s.started (s.hoopOfGroup g) o)).group g := by
        rw [hu]
        rfl
      rw [hgroup, State.setOp, State.group_setGroup_same]
      exact ⟨rfl, rfl⟩
    have hhoop : (s.underway g o).hoopOfGroup g = s.hoopOfGroup g := hobjs.packed (by decide)
    have hmissing : ((s.underway g o).group g).members.any
        (fun m => m != (s.underway g o).ownAddress ((s.underway g o).hoopOfGroup g)) = true := by
      rw [hsame.2, hhoop, State.ownAddress_of_writes hobjs (by decide)]
      exact hm
    obtain ⟨l, out, hsent⟩ := (s.underway g o).sendContribution_only g (s.started (s.hoopOfGroup g) o)
    refine ⟨{ s.underway g o with line := l, out := out }, ?_, hop, hrest⟩
    rw [hx, hk, if_pos rfl, hsent]
    exact congrArg _ (State.settleSmall_of_missing hop (hsame.1.trans hc) hmissing)

theorem operationRun_splits (ho : s.operation g seq.toNat = some o) (hp : o.phase = 0) (he : o.ending = none)
    (hr : s.mayRun g o = true) (hopen : s.stepOpen (s.hoopOfGroup g) = true) (hw : s.beyondWindow (s.hoopOfGroup g) = true)
    (h2 : s.num (Obj.hoopState (s.hoopOfGroup g)) = 2) :
    Completes (.operationRun g seq) s fun t => t.num (Obj.hoopState (s.hoopOfGroup g)) = 5 ∧
      t.num (Obj.partitionState (s.hoopOfGroup g)) = 3 ∧ t.operation g seq.toNat = some o := by
  have hx : exec (.operationRun g seq) s = .next (s.enterSplit (s.hoopOfGroup g)) := by
    change execOperationRun g seq s = _
    simp [execOperationRun, ho, hp, he, hr, hopen, hw]
  have hsplit : s.enterSplit (s.hoopOfGroup g) =
      (s.setNum (Obj.partitionState (s.hoopOfGroup g)) 3).setNum (Obj.hoopState (s.hoopOfGroup g)) 5 := if_pos (.inl h2)
  refine ⟨_, hx, ?_⟩
  rw [hsplit]
  exact ⟨State.num_setNum_same .., (State.num_setNum_other _ _ (linearUnit_ne (by decide))).trans (State.num_setNum_same ..), ho⟩

end Run

/-! ### A chunk is done (R63, R68, R155, R220) -/

theorem Machine.State.checkFrees_of_none {s : State} (h : s.pools.misfreed = []) : s.checkFrees = s := if_pos h

theorem Machine.State.advanceGen_only (s : State) (w i gen : Nat) :
    ∃ m, s.advanceGen w i gen = { s with work := { s.work with generation := m } } := by
  unfold State.advanceGen
  split <;> exact ⟨_, rfl⟩

/-- A landing that holds no spill buffer is forgotten without a free (R96). -/
theorem Machine.State.dropLanding_of_empty {s : State} {h w gen i : Nat} (hf : s.pools.misfreed = [])
    (hl : ∀ l ∈ s.work.landings, l.chunk = i → l.buffers = []) :
    ∃ m, s.dropLanding h w gen i = { s with work := { s.work with landings := m } } := by
  have hnone : ((s.work.landings.filter fun x => x.window == w && x.generation == gen && x.chunk == i).flatMap
      fun l => l.buffers.map Prod.snd) = [] := by
    refine List.flatMap_eq_nil_iff.2 fun l hm => ?_
    obtain ⟨hmem, hkey⟩ := List.mem_filter.1 hm
    rw [hl l hmem (by simpa using (Bool.and_eq_true_iff.1 hkey).2), List.map_nil]
  unfold State.dropLanding State.endLanding
  dsimp only
  rw [hnone]
  exact ⟨_, State.checkFrees_of_none hf⟩

/-- Streams that hold no buffer are forgotten without a free (R155). -/
theorem Machine.State.dropStreams_of_empty {s : State} {h g q i : Nat} (hf : s.pools.misfreed = [])
    (hb : ∀ x ∈ s.work.streams, x.group = g → x.seq = q → x.buffers = []) :
    ∃ m, s.dropStreams h g q i = { s with work := { s.work with streams := m } } := by
  have hnone : (s.work.streams.filter fun x => x.group == g && x.seq == q && x.chunk == i).flatMap SiteStream.buffers = [] := by
    refine List.flatMap_eq_nil_iff.2 fun x hm => ?_
    obtain ⟨hmem, hkey⟩ := List.mem_filter.1 hm
    simp only [Bool.and_eq_true, beq_iff_eq] at hkey
    exact hb x hmem hkey.1.1 hkey.1.2
  unfold State.dropStreams
  dsimp only
  rw [hnone]
  exact ⟨_, State.checkFrees_of_none hf⟩

/-- The chunks that an operation runs follow from its group's kind and the hoop's plan. -/
theorem Machine.State.workChunks_congr {s t : State} {g : Nat} (hk : t.num (Obj.groupKind g) = s.num (Obj.groupKind g))
    (hg : t.num (Obj.groupHoop g) = s.num (Obj.groupHoop g)) (hh : t.work.hoops = s.work.hoops) (o : Operation) :
    t.workChunks g o = s.workChunks g o := by
  have hhoop : t.hoopOfGroup g = s.hoopOfGroup g := hg
  have hplan : t.hoop (t.hoopOfGroup g) = s.hoop (s.hoopOfGroup g) := by rw [hhoop, State.hoop_of_hoops hh]
  have hcount : t.chunkCount g o.desc = s.chunkCount g o.desc := by
    unfold State.chunkCount State.isSmall
    rw [hk, hplan]
  unfold State.workChunks
  rw [hcount, hplan]

section ChunkDone

variable {g : Nat} {o : Operation} {i : Nat} {s : State}

/-- A chunk whose landing and streams hold no buffer joins the done chunks with its record, and then the operation is looked at. -/
theorem Machine.State.chunkIsDone_eq (hf : s.pools.misfreed = []) (hl : ∀ l ∈ s.work.landings, l.chunk = i → l.buffers = [])
    (hb : ∀ x ∈ s.work.streams, x.group = g → x.seq = o.seq → x.buffers = [])
    (hr : dFlag o.desc 0 = false ∨ s.recordUsable g o.desc recChunkDone = true) :
    ∃ u, u.group g = (s.setOp g { o with done := o.done ++ [i] }).group g ∧
      s.chunkIsDone g o i =
        if (s.workChunks g o).length ≤ o.done.length + 1 then u.finishOp g o.seq St.ok else u := by
  unfold State.chunkIsDone
  extract_lets h w o' s1 s2 s3 s4
  have husable : (dFlag o.desc 0 && !s1.recordUsable g o.desc recChunkDone) = false := by
    rcases hr with hr | hr
    · rw [hr, Bool.false_and]
    · have : s1.recordUsable g o.desc recChunkDone = true := hr
      rw [this, Bool.not_true, Bool.and_false]
  rw [husable, if_neg Bool.false_ne_true]
  have h2 : Posted s1 s2 := .ite (Posted.rfl.writeRecord ..) .rfl
  have hw2 : s2.work = s1.work := h2.work
  have hf2 : s2.pools.misfreed = [] := by rw [h2.pools]; exact hf
  have hl2 : ∀ l ∈ s2.work.landings, l.chunk = i → l.buffers = [] := by rw [hw2]; exact hl
  obtain ⟨landings, h3⟩ := State.dropLanding_of_empty (h := h) (w := w) (gen := o.generation) hf2 hl2
  obtain ⟨generation, h3'⟩ := (s2.dropLanding h w o.generation i).advanceGen_only w i o.generation
  have hs3 : s3 = { s2 with work := { s2.work with landings := landings, generation := generation } } := by
    rw [show s3 = _ from h3', h3]
  have hs4 : ∃ streams, s4 = { s2 with work := { s2.work with landings := landings, generation := generation, streams := streams } } := by
    have hb3 : ∀ x ∈ s3.work.streams, x.group = g → x.seq = o.seq → x.buffers = [] := by
      rw [hs3]
      change ∀ x ∈ s2.work.streams, _
      rw [hw2]
      exact hb
    unfold s4
    split
    · split
      · exact ⟨_, hs3⟩
      · obtain ⟨m, hm⟩ := State.dropStreams_of_empty (h := h) (i := streamIndex _ i) (by rw [hs3]; exact hf2) hb3
        exact ⟨m, by rw [hm, hs3]⟩
    · exact ⟨_, hs3⟩
  obtain ⟨streams, hs4⟩ := hs4
  have hwork : s4.workChunks g o = s.workChunks g o := by
    rw [hs4]
    exact State.workChunks_congr (h2.objs.packed (by decide)) (h2.objs.packed (by decide)) (congrArg WorkState.hoops hw2) o
  have hlen : o'.done.length = o.done.length + 1 := List.length_append
  refine ⟨s4, ?_, ?_⟩
  · rw [hs4]
    exact State.group_of_groups (congrArg WorkState.groups hw2) g
  · rw [hwork, hlen]

end ChunkDone

section ChunkDone

variable {g : GroupNo} {seq chunk : BitVec 32} {o : Operation} {c : Chunk} {s : State}

theorem chunkDone_exec (ho : s.operation g seq.toNat = some o) (hp : o.phase = 1) (he : o.ending = none)
    (hc : s.chunk (g.val, seq.toNat, chunk.toNat) = some c) (h3 : c.phase = 3) (hn : o.done.contains chunk.toNat = false)
    (hr : s.resultPending g seq.toNat chunk.toNat = false) :
    exec (.chunkDone g seq chunk) s = .next (s.chunkIsDone g o chunk.toNat) := by
  change execChunkDone g seq chunk s = _
  have hseq : o.seq = seq.toNat := State.operation_seq ho
  simp only [execChunkDone, ho, hp, he, hseq, hc, hn, hr]
  simp [h3]

/-- A chunk that ends its work in an operation whose records can be written joins the operation's done chunks, or ends a lone one. -/
theorem chunkDone_completes (ho : s.operation g seq.toNat = some o) (hp : o.phase = 1) (he : o.ending = none)
    (hc : s.chunk (g.val, seq.toNat, chunk.toNat) = some c) (h3 : c.phase = 3) (hn : o.done.contains chunk.toNat = false)
    (hr : s.resultPending g seq.toNat chunk.toNat = false) (hf : s.pools.misfreed = [])
    (hl : ∀ l ∈ s.work.landings, l.chunk = chunk.toNat → l.buffers = [])
    (hb : ∀ x ∈ s.work.streams, x.group = g.val → x.seq = seq.toNat → x.buffers = [])
    (hrec : dFlag o.desc 0 = false ∨ s.recordUsable g o.desc recChunkDone = true) :
    (o.done.length + 1 < (s.workChunks g o).length → Completes (.chunkDone g seq chunk) s fun t =>
      t.operation g seq.toNat = some { o with done := o.done ++ [chunk.toNat] }) ∧
    ((s.workChunks g o).length = o.done.length + 1 → (s.group g).ops = [o] → (s.group g).redo = [] →
      Completes (.chunkDone g seq chunk) s fun t => (t.group g).ops = []) := by
  have hx := chunkDone_exec ho hp he hc h3 hn hr
  have hseq : o.seq = seq.toNat := State.operation_seq ho
  obtain ⟨u, hgroup, hdone⟩ := State.chunkIsDone_eq (g := g) (o := o) hf hl (by rwa [hseq]) hrec
  refine ⟨fun hmore => ⟨u, ?_, ?_⟩, fun hlast hops _ => ⟨u.finishOp g o.seq St.ok, ?_, ?_⟩⟩
  · rw [hx, hdone, if_neg (by omega)]
  · exact (State.operation_of_group hgroup _).trans (State.operation_setOp ho hseq)
  · rw [hx, hdone, if_pos (by omega)]
  · refine State.finishOp_empties (o := { o with done := o.done ++ [chunk.toNat] }) ?_ rfl he
    rw [hgroup, State.setOp_ops_same, hops, List.map_cons, List.map_nil, replaceOp, if_pos rfl]

end ChunkDone

/-! ### Input that lands again, and its time-out (R63) -/

theorem Machine.State.chunk_key {s : State} {k : Nat × Nat × Nat} {c : Chunk} (h : s.chunk k = some c) : c.key = k := by
  have hk := List.find?_some h
  simp only [Bool.and_eq_true, beq_iff_eq] at hk
  obtain ⟨⟨hg, hq⟩, hi⟩ := hk
  rw [Chunk.key, hg, hq, hi]

/-- A chunk's record that is set is the one found under its key. -/
theorem Machine.State.chunk_setChunk_same (s : State) (c : Chunk) : (s.setChunk c).chunk c.key = some c := by
  have hkey (x : Chunk) : (x.group == c.key.1 && x.seq == c.key.2.1 && x.index == c.key.2.2) = (x.key == c.key) := Bool.and_assoc ..
  simp only [State.chunk, State.setChunk, hkey, List.find?_append]
  rw [List.find?_eq_none.2 fun x hx => by simpa using (List.mem_filter.1 hx).2]
  simp

section Resupply

variable {g : GroupNo} {seq chunk : BitVec 32} {o : Operation} {c : Chunk} {s : State}

theorem resupplyLanded_completes (ho : s.operation g seq.toNat = some o)
    (hc : s.chunk (g.val, seq.toNat, chunk.toNat) = some c) (hr : c.resupply = true)
    (hs : s.slotsComplete g o chunk.toNat = true) : Completes (.resupplyLanded g seq chunk) s fun t =>
      t.chunk (g.val, seq.toNat, chunk.toNat) = some { c with resupply := false } ∧ { t with work := s.work } = s := by
  have hkey := State.chunk_key hc
  have hi : c.index = chunk.toNat := congrArg (fun k => k.2.2) hkey
  refine ⟨s.setChunk { c with resupply := false }, ?_, ?_, rfl⟩
  · change execResupplyLanded g seq chunk s = _
    simp only [execResupplyLanded, ho, hc, hr, hi, hs]
    simp
  · rw [← hkey]
    exact s.chunk_setChunk_same { c with resupply := false }

theorem resupplyTimeout_completes (hc : s.chunk (g.val, seq.toNat, chunk.toNat) = some c) (hr : c.resupply = true)
    (hops : (s.group g).ops = [o]) (hseq : o.seq = seq.toNat) (he : o.ending = none) :
    Completes (.resupplyTimeout g seq chunk) s fun t => (t.group g).ops = [] :=
  ⟨_, if_pos (by rw [hc]; exact hr), State.finishOp_empties hops hseq he⟩

end Resupply

/-! ### A lost member (R63, R331) -/

/-- A group with a member is among the groups that are listed. -/
theorem Machine.State.mem_groups_of_member {s : State} {g m : Nat} (h : m ∈ (s.group g).members) :
    g ∈ s.work.groups.map Prod.fst := by
  unfold State.group at h
  generalize s.work.groups = l at h ⊢
  induction l with
  | nil => nomatch h
  | cons x l ih =>
    rw [List.map_cons, List.mem_cons]
    unfold Map.get at h
    split at h
    next e => exact .inl e.symm
    · exact .inr (ih h)

/-- Of groups that break in turn each one is Broken afterwards and has no operation. -/
theorem Machine.State.each_breakGroup_breaks {l : List Nat} {s : State} {g : Nat} (hg : g ∈ l)
    (hs : s.num (Obj.groupState g) = 1 ∨ s.num (Obj.groupState g) = 2) :
    (s.each l fun t x => t.breakGroup x).num (Obj.groupState g) = 2 ∧
      ((s.each l fun t x => t.breakGroup x).group g).ops = [] := by
  induction l generalizing s with
  | nil => nomatch hg
  | cons x l ih =>
    rcases List.mem_cons.1 hg with rfl | hg
    · obtain ⟨hstate, hops⟩ := State.breakGroup_breaks hs
      have hrest : Dwindles (s.breakGroup g) ((s.breakGroup g).each l fun t x => t.breakGroup x) :=
        Dwindles.rfl.each _ fun _ _ hu => hu.breakGroup
      exact ⟨hrest.broken hstate, hrest.noOps hops⟩
    · have hstates := (Dwindles.rfl.breakGroup : Dwindles s (s.breakGroup x)).states g
      have hnext : (s.breakGroup x).num (Obj.groupState g) = 1 ∨ (s.breakGroup x).num (Obj.groupState g) = 2 := by omega
      exact ih hg hnext

theorem memberLost_completes {member : FabAddr} {g : GroupNo} {s : State} (h1 : s.num (Obj.groupState g) = 1)
    (hm : (s.group g).members.contains member.toNat = true)
    (hc : s.cutOff (s.hoopOfGroup g) (siteOf member.toNat) = false) :
    Completes (.memberLost member) s fun t => t.num (Obj.groupState g) = 2 ∧ (t.group g).ops = [] := by
  refine ⟨_, rfl, State.each_breakGroup_breaks (List.mem_filter.2 ⟨List.mem_filter.2 ⟨?_, ?_⟩, ?_⟩) (.inl h1)⟩
  · exact State.mem_groups_of_member (List.contains_iff_mem.1 hm)
  · rw [h1, hm]
    rfl
  · rw [hc]
    rfl

/-! ### Contributions to small collectives (R70, R495) -/

/-- The group with a contribution held. -/
def Machine.State.holding (s : State) (g : Nat) (c : Contribution) : State :=
  s.setGroup g { s.group g with contributions := (s.group g).contributions ++ [c] }

section Contribution

variable {g : Nat} {c : Contribution} {s : State}

theorem Machine.State.takeContribution_dropped
    (h : s.num (Obj.groupState g) = 0 ∨
      (s.group g).contributions.any (fun y => y.member == c.member && y.seq == c.seq && y.epoch == c.epoch) = true ∨
      s.segmentFate g c.epoch c.seq = .gone ∨ (s.group g).members.contains c.member = false) : s.takeContribution g c = s := by
  unfold State.takeContribution
  extract_lets x dup s1
  by_cases hd : s.num (Obj.groupState g) = 0 ∨ dup = true ∨ s.segmentFate g c.epoch c.seq = .gone
  · exact if_pos hd
  · have hm : x.members.contains c.member = false := by
      rcases h with h | h | h | h
      · exact absurd (.inl h) hd
      · exact absurd (.inr (.inl h)) hd
      · exact absurd (.inr (.inr h)) hd
      · exact h
    rw [if_neg hd, hm, if_neg Bool.false_ne_true]

theorem Machine.State.takeContribution_held (h0 : s.num (Obj.groupState g) ≠ 0)
    (hd : (s.group g).contributions.any (fun y => y.member == c.member && y.seq == c.seq && y.epoch == c.epoch) = false)
    (hf : s.segmentFate g c.epoch c.seq ≠ .gone) (hm : (s.group g).members.contains c.member = true) :
    s.takeContribution g c = (s.holding g c).settleSmall g c.seq := by
  unfold State.takeContribution
  extract_lets x dup s1
  have hdup : dup = false := hd
  rw [if_neg (by simp [h0, hdup, hf]), if_pos hm]
  rfl

theorem Machine.State.operation_holding (q : Nat) : (s.holding g c).operation g q = s.operation g q := by
  simp only [State.operation, State.holding, State.group_setGroup_same]

/-- A lone Barrier whose members have all been heard ends (R70). -/
theorem Machine.State.settleSmall_barrier {q : Nat} {o : Operation} (hops : (s.group g).ops = [o]) (hseq : o.seq = q)
    (hp : o.phase = 1) (he : o.ending = none) (hfour : (s.contributionsOf g o).any (fun y => y.four != fourOf o.desc) = false)
    (hall : (s.allPayloads g o).isSome = true) (hr : s.resultPending g q 0 = false) (h5 : dOpcode o.desc = 5) :
    ((s.settleSmall g q).group g).ops = [] := by
  have ho : s.operation g q = some o := by simp [State.operation, hops, hseq]
  obtain ⟨payloads, hpay⟩ := Option.isSome_iff_exists.1 hall
  have hx : s.settleSmall g q = s.finishOp g q St.ok := by
    simp only [State.settleSmall, ho, he, hfour, hp, hr, hpay, h5]
    simp
  rw [hx]
  exact State.finishOp_empties hops hseq he

end Contribution

/-! ### Digests of the exchange (R84, R173) -/

/-- What a group's members agree on is read from objects that no event writes. -/
theorem Machine.State.allAgree_congr {s t : State} {g : Nat} (ho : WritesIn eventTables s t) (hw : t.work.hoops = s.work.hoops)
    (hg : (t.group g).members = (s.group g).members ∧ (t.group g).heard = (s.group g).heard) : t.allAgree g = s.allAgree g := by
  have hhoop : t.hoopOfGroup g = s.hoopOfGroup g := ho.packed (by decide)
  have hown (h : Nat) : t.ownAddress h = s.ownAddress h := State.ownAddress_of_writes ho (by decide) h
  have hversion : t.num Obj.arithmeticVersion = s.num Obj.arithmeticVersion :=
    ho.num (Written.not_key (x := ⟨0x4000, 0x07, 1, false⟩) (by decide) 0)
  have hdigest (h : Nat) : t.reproDigest h = s.reproDigest h := by
    have h1 : t.num (Obj.outerStepCounter h) = s.num (Obj.outerStepCounter h) := ho.linear (by decide)
    have h2 : t.num (Obj.jobSeed h) = s.num (Obj.jobSeed h) := ho.linear (by decide)
    have h3 : t.num (Obj.planRandomTag h) = s.num (Obj.planRandomTag h) := ho.linear (by decide)
    have h4 : t.bytes (Obj.planHash h) = s.bytes (Obj.planHash h) :=
      congrArg Val.toBytes (ho _ (Written.not_linear (by decide)))
    have hnamed : t.slotNamed h = s.slotNamed h := by
      funext i
      rw [State.slotNamed, State.hoop_of_hoops hw, State.slotNamed]
    have himage : t.slotImage h = s.slotImage h := by
      funext i
      rw [State.slotImage, State.hoop_of_hoops hw, State.slotImage]
    have hweave : t.weaveSetHash h = s.weaveSetHash h := by
      unfold State.weaveSetHash
      rw [hnamed, himage]
    unfold State.reproDigest State.reproRecord
    rw [h1, h2, h3, h4, hversion, hweave]
  simp only [State.allAgree, hg.1, hg.2, hhoop, hown, hdigest, hversion]

/-- The digest of a member of the group, kept as the latest of it (R84). -/
def Machine.State.hearing (s : State) (g : Nat) (m : Nat × Bytes × Nat) : State :=
  s.setGroup g { s.group g with heard := (s.group g).heard.filter (fun x => x.1 != m.1) ++ [m] }

/-- A mismatch that it brings stands, or one that stood, until every member agrees (R84). -/
def Machine.State.judging (s : State) (g : Nat) (m : Nat × Bytes × Nat) (bad : Bool) : State :=
  (s.hearing g m).setGroup g { (s.hearing g m).group g with
    stands := ((s.group g).stands || bad) && !(s.hearing g m).allAgree g }

section Judging

variable (s : State) (g : Nat) (m : Nat × Bytes × Nat) (bad : Bool)

theorem Machine.State.judging_group : (s.judging g m bad).group g = { s.group g with
    heard := (s.group g).heard.filter (fun x => x.1 != m.1) ++ [m]
    stands := ((s.group g).stands || bad) && !(s.hearing g m).allAgree g } := by
  have hheard : (s.hearing g m).group g = { s.group g with heard := (s.group g).heard.filter (fun x => x.1 != m.1) ++ [m] } :=
    State.group_setGroup_same ..
  rw [State.judging, State.group_setGroup_same, hheard]

theorem Machine.State.judging_allAgree : (s.judging g m bad).allAgree g = (s.hearing g m).allAgree g := by
  refine State.allAgree_congr .rfl rfl ?_
  rw [State.judging, State.group_setGroup_same]
  exact ⟨rfl, rfl⟩

end Judging

theorem Machine.State.work_raise (s : State) (code : Nat) (a : EventArgs) : (s.raise code a).work = s.work := by
  obtain ⟨_, _, _, _, h⟩ := s.raise_only code a
  rw [h]

theorem Machine.State.group_raise (s : State) (code : Nat) (a : EventArgs) (g : Nat) : (s.raise code a).group g = s.group g :=
  State.group_of_groups (congrArg WorkState.groups (s.work_raise code a)) g

/-- No event changes whether the members agree. -/
theorem Machine.State.allAgree_raise (s : State) (code : Nat) (a : EventArgs) (g : Nat) :
    (s.raise code a).allAgree g = s.allAgree g := by
  refine State.allAgree_congr (Settled.rfl.raise_in (List.Subset.refl _) _ _).objs (congrArg WorkState.hoops (s.work_raise code a)) ?_
  rw [State.group_raise]
  exact ⟨rfl, rfl⟩

section Digest

variable {g : GroupNo} {peer : FabAddr} {digest : Bytes} {version : BitVec 32} {s : State}

theorem reproDigest_dropped (h : s.num (Obj.groupState g) = 0 ∨ (s.group g).members.contains peer.toNat = false) :
    exec (.reproDigestReceived g peer digest version) s = .next s := by
  refine if_pos (h.imp_right fun hm => ?_)
  rw [hm]
  rfl

theorem reproDigest_exec (h0 : s.num (Obj.groupState g) ≠ 0) (hm : (s.group g).members.contains peer.toNat = true) :
    let bad := digest ≠ s.reproDigest (s.hoopOfGroup g) ∨ version.toNat ≠ s.num Obj.arithmeticVersion
    let u := s.judging g (peer.toNat, digest, version.toNat) (decide bad)
    exec (.reproDigestReceived g peer digest version) s =
      .next (if bad then u.raise Ev.reproMismatch { hoop := s.hoopOfGroup g, unit := g, detail := peer.toNat } else u) := by
  intro bad u
  have hdiffers : (digest != s.reproDigest (s.hoopOfGroup g) || version.toNat != s.num Obj.arithmeticVersion) = decide bad := by
    simp only [bad, bne, Bool.decide_or, decide_not, beq_eq_decide]
  refine (if_neg (by rw [hm]; simpa using h0)).trans ?_
  rw [hdiffers]
  simp only [decide_eq_true_eq]
  rfl

theorem reproDigest_completes (h0 : s.num (Obj.groupState g) ≠ 0) (hm : (s.group g).members.contains peer.toNat = true) :
    let bad := digest ≠ s.reproDigest (s.hoopOfGroup g) ∨ version.toNat ≠ s.num Obj.arithmeticVersion
    Completes (.reproDigestReceived g peer digest version) s fun t =>
      (peer.toNat, digest, version.toNat) ∈ (t.group g).heard ∧
      (∀ m ∈ (t.group g).heard, m.1 = peer.toNat → m = (peer.toNat, digest, version.toNat)) ∧
      (t.group g).stands = (((s.group g).stands || decide bad) && !t.allAgree g) ∧
      (¬ bad → t.events = s.events) ∧
      (bad → Reported Ev.reproMismatch { hoop := s.hoopOfGroup g, unit := g, detail := peer.toNat } t) := by
  intro bad
  let u := s.judging g (peer.toNat, digest, version.toNat) (decide bad)
  let t := if bad then u.raise Ev.reproMismatch { hoop := s.hoopOfGroup g, unit := g, detail := peer.toNat } else u
  have hkept : t.group g = u.group g ∧ t.allAgree g = u.allAgree g := by
    unfold t
    split
    · exact ⟨State.group_raise .., State.allAgree_raise ..⟩
    · exact ⟨rfl, rfl⟩
  obtain ⟨hgroup, hagree⟩ := hkept
  rw [State.judging_group] at hgroup
  refine ⟨t, reproDigest_exec h0 hm, ?_, fun m hmem hpeer => ?_, ?_, fun hgood => ?_, fun hbad => ?_⟩
  · rw [hgroup]
    exact List.mem_append_right _ (List.mem_singleton_self _)
  · rw [hgroup, List.mem_append, List.mem_singleton] at hmem
    refine hmem.resolve_left fun hold => ?_
    simpa [hpeer] using (List.mem_filter.1 hold).2
  · rw [hagree, State.judging_allAgree, hgroup]
  · rw [show t = u from if_neg hgood]
    rfl
  · rw [show t = _ from if_pos hbad]
    exact State.raise_reported ..

end Digest

/-! ### The obligation -/

/-- Settles O15, command by command: each ends in the state of its own lemma, and what ends an operation empties its group by
`settleGroup_empties`. -/
theorem operationsRunAndEnd : Obligations.OperationsRunAndEnd := by
  unfold Obligations.OperationsRunAndEnd
  refine ⟨?run, ?done, ?landed, ?timeout, ?lost, ?contribution, ?digest⟩
  case run =>
    exact fun g seq o s ho hp he hr hopen => ⟨fun hw hb hsmall => operationRun_starts ho hp he hr hopen hw hb hsmall,
      fun hw h2 => operationRun_splits ho hp he hr hopen hw h2⟩
  case done => exact fun g seq chunk o c s => chunkDone_completes
  case landed => exact fun g seq chunk o c s => resupplyLanded_completes
  case timeout => exact fun g seq chunk o c s hc hr hops _ => resupplyTimeout_completes hc hr hops
  case lost => exact fun member g s => memberLost_completes
  case contribution =>
    intro g member epoch seq opcode elementType reduceOp elementCount payload s c dup run
    have hx : exec run s = .next (s.takeContribution g c) := rfl
    refine ⟨fun h => by rw [hx, State.takeContribution_dropped h], fun h0 hd hf hm hnone => ?_,
      fun h0 hd hf hm o hops _ hseq hp he => ?_⟩
    · refine ⟨_, hx, ?_⟩
      have hno : (s.holding g c).operation g c.seq = none := by rw [State.operation_holding]; exact hnone
      have hsettle : (s.holding g c).settleSmall g c.seq = s.holding g c := by rw [State.settleSmall, hno]
      rw [State.takeContribution_held h0 hd hf hm, hsettle]
      exact ⟨State.group_setGroup_same .., rfl⟩
    · intro s1 hfour hall hres h5
      refine ⟨_, hx, ?_⟩
      rw [State.takeContribution_held h0 hd hf hm]
      have hops1 : ((s.holding g c).group g).ops = [o] := by
        rw [State.holding, State.group_setGroup_same]
        exact hops
      exact State.settleSmall_barrier hops1 hseq hp he hfour hall hres h5
  case digest => exact fun g peer digest version s => ⟨reproDigest_dropped, reproDigest_completes⟩

end Sys2Proof

namespace Sys2Proof

open Sys2Proof.Machine

/-! ### The indices of a queue (R45, R48, R49) -/

theorem Machine.State.producer_setIndices (s : State) (g p c : Nat) : (s.setIndices g p c).producer g = p % 2 ^ 16 := by
  rw [State.producer, State.setIndices, State.num_setNum_same]
  omega

theorem Machine.State.consumer_setIndices (s : State) (g p c : Nat) : (s.setIndices g p c).consumer g = c % 2 ^ 16 := by
  rw [State.consumer, State.setIndices, State.num_setNum_same]
  omega

theorem Machine.State.producer_lt (s : State) (g : Nat) : s.producer g < 2 ^ 16 := Nat.mod_lt _ (by decide)

theorem Machine.State.consumer_lt (s : State) (g : Nat) : s.consumer g < 2 ^ 16 := Nat.mod_lt _ (by decide)

/-- A queue whose indices object stands has the indices that it had. -/
theorem Machine.State.indices_of_num {s t : State} {g : Nat} (h : t.num (Obj.groupQueueIndices g) = s.num (Obj.groupQueueIndices g)) :
    t.producer g = s.producer g ∧ t.consumer g = s.consumer g := by
  rw [State.producer, State.consumer, h]
  exact ⟨rfl, rfl⟩

/-- The end of operations moves no index. -/
theorem Settled.indices {s t : State} (h : Settled endTables s t) (g : Nat) :
    t.producer g = s.producer g ∧ t.consumer g = s.consumer g :=
  State.indices_of_num (h.objs.packed (by decide))

/-! ### The examination of a queue leaves its producer index (R55, R56, R61) -/

section Pump

variable {s : State} {g : Nat}

/-- What an accepted descriptor writes beside its operation: the queue's indices, the group's sequence, then what other operations
may write as well. -/
theorem Machine.State.acceptDescriptor_settled (s : State) (g source slots : Nat) (d : Bytes) :
    ∃ u : State, u.dict = s.dict ∧ Settled endTables ((u.setIndices g (s.producer g) (s.consumer g + slots)).bump 32
      (Obj.groupNextSequence g) 1) (s.acceptDescriptor g source slots d) := by
  unfold State.acceptDescriptor
  extract_lets h w small gen o y s1 work s2 s3 s4
  have h4 : Settled endTables s3 s4 := (((Settled.rfl.writeMirrored).bump (.packed (by decide)) _ _).bump
    (.single (by decide)) _ _).bump (.linear (by decide)) _ _
  exact ⟨s2, rfl, .ite h4.settleSmall h4⟩

theorem Machine.State.acceptDescriptor_indices (s : State) (g source slots : Nat) (d : Bytes) :
    (s.acceptDescriptor g source slots d).producer g = s.producer g ∧
      (s.acceptDescriptor g source slots d).consumer g = (s.consumer g + slots) % 2 ^ 16 ∧
      (s.acceptDescriptor g source slots d).num (Obj.groupNextSequence g) = (s.num (Obj.groupNextSequence g) + 1) % 2 ^ 32 := by
  obtain ⟨u, hu, hset⟩ := s.acceptDescriptor_settled g source slots d
  obtain ⟨hp, hc⟩ := hset.indices g
  have hne : Obj.groupQueueIndices g ≠ Obj.groupNextSequence g := groupUnit_ne (by decide) g
  have hi := State.indices_of_num (s := u.setIndices g (s.producer g) (s.consumer g + slots)) (State.num_setNum_other _
    (((u.setIndices g (s.producer g) (s.consumer g + slots)).num (Obj.groupNextSequence g) + 1) % 2 ^ 32) hne)
  have hnext : u.num (Obj.groupNextSequence g) = s.num (Obj.groupNextSequence g) := by rw [State.num, State.obj, hu]; rfl
  refine ⟨hp.trans (hi.1.trans ?_), hc.trans (hi.2.trans (State.consumer_setIndices ..)),
    (hset.objs.packed (by decide)).trans ((State.num_setNum_same ..).trans ?_)⟩
  · rw [State.producer_setIndices, Nat.mod_eq_of_lt (s.producer_lt g)]
  · rw [State.setIndices, State.num_setNum_other _ _ hne.symm, hnext]

theorem Machine.State.refuseDescriptor_producer (s : State) (g slots status : Nat) (d : Bytes) :
    (s.refuseDescriptor g slots status d).producer g = s.producer g := by
  unfold State.refuseDescriptor
  extract_lets h s1 s2
  have h1 : s1.producer g = s.producer g := by
    rw [State.producer_setIndices, Nat.mod_eq_of_lt (s.producer_lt g)]
  have hobjs : WritesIn [⟨0x3100, 0x0E, 4096, true⟩, ⟨0x3100, 0x0F, 4096, true⟩] s1 s2 :=
    (WritesIn.rfl.set (.packed (by decide)) _).set (.packed (by decide)) _
  have h2 : s2.producer g = s.producer g := (State.indices_of_num (hobjs.packed (by decide))).1.trans h1
  split
  · exact h2
  · split
    · exact (Settled.rfl.writeRecord.indices g).1.trans h2
    · exact h2

theorem Machine.State.waitContext_producer (s : State) (g : Nat) : (s.waitContext g).producer g = s.producer g := by
  unfold State.waitContext
  extract_lets h first x s1 work s2 s3 s4
  have hobjs : WritesIn [⟨0x3100, 0x0C, 4096, true⟩, ⟨0x3000, 0x04, 1, false⟩, ⟨0x3020, 0x03, 16, false⟩] s2 s4 :=
    ((WritesIn.rfl.set (.packed (by decide)) _).set (.single (by decide)) _).set (.linear (by decide)) _
  have h4 : s4.producer g = s.producer g := (State.indices_of_num (hobjs.packed (by decide))).1
  split
  · exact ((Settled.rfl.raise _ _).indices g).1.trans h4
  · exact h4

theorem Machine.State.slotUnreadable_indices (s : State) (g : Nat) (lines : List Nat) :
    (s.slotUnreadable g lines).producer g = s.producer g ∧ (s.slotUnreadable g lines).consumer g = s.consumer g :=
  (Settled.rfl.noteBadLines.raise _ _).indices g

/-- Whatever becomes of the descriptors, the producer index is the client's (R49). -/
theorem Machine.State.pumpQueue_producer (n : Nat) (s : State) (g : Nat) : (State.pumpQueue n s g).producer g = s.producer g := by
  induction n generalizing s with
  | zero => rfl
  | succ n ih =>
    unfold State.pumpQueue
    extract_lets available ext slots d st
    split
    · rfl
    · split
      · exact (s.slotUnreadable_indices g _).1
      · split
        · rfl
        · split
          · exact (s.slotUnreadable_indices g _).1
          · split
            · exact (ih _).trans (s.refuseDescriptor_producer ..)
            · split
              · exact (ih _).trans (s.acceptDescriptor_indices ..).1
              · exact s.waitContext_producer g

/-- Behind an entry that cannot be read the consumer index stands (R184). -/
theorem Machine.State.pump_of_unreadable (h : s.badSlots g 1 ≠ []) : (s.pump g).consumer g = s.consumer g := by
  unfold State.pump State.pumpQueue
  extract_lets available ext slots d st
  split
  · rfl
  · exact (s.slotUnreadable_indices g _).2

theorem Machine.State.pumpQueue_of_empty (n : Nat) (h : s.producer g = s.consumer g) : State.pumpQueue n s g = s := by
  cases n with
  | zero => rfl
  | succ n =>
    have hc := s.consumer_lt g
    unfold State.pumpQueue
    refine if_pos (.inl ?_)
    rw [h]
    omega

/-! ### Which entries can be read (R184, R189) -/

/-- Whether the lines of a ring read follows from the lines that do not and the size of the repeat buffer in front of it. -/
theorem Machine.State.regionBad_rings_congr {t : State} (hm : t.memory = s.memory)
    (hr : t.num Obj.repeatWindowMs = s.num Obj.repeatWindowMs) : t.regionBad .rings g = s.regionBad .rings g := by
  have hline (a i : Nat) : t.regionLine .rings g a i = s.regionLine .rings g a i := by
    simp only [State.regionLine, State.regionPlace, State.regionPart, State.repeatCopy, hr, reduceCtorEq, if_false]
  funext a n
  unfold State.regionBad State.regionLines
  rw [hm, funext (hline a)]

theorem Machine.State.badSlots_congr {t : State} (hm : t.memory = s.memory)
    (ho : WritesIn [⟨0x3100, 0x0B, 4096, true⟩, ⟨0x3100, 0x0C, 4096, true⟩] s t) (hc : t.consumer g = s.consumer g) (n : Nat) :
    t.badSlots g n = s.badSlots g n := by
  have hr : t.num Obj.repeatWindowMs = s.num Obj.repeatWindowMs :=
    ho.num (Written.not_key (x := ⟨0x5000, 0x0C, 1, false⟩) (by decide) 0)
  have hsmall : t.isSmall g = s.isSmall g := by
    have hk : t.num (Obj.groupKind g) = s.num (Obj.groupKind g) := ho.packed (by decide)
    rw [State.isSmall, hk, State.isSmall]
  have hd : t.num (Obj.groupQueueDepth g) = s.num (Obj.groupQueueDepth g) := ho.packed (by decide)
  unfold State.badSlots
  rw [hm, hsmall, hd, hc, State.regionBad_rings_congr hm hr]

theorem Machine.State.badSlots_one {n : Nat} (hn : 0 < n) (h : s.badSlots g n = []) : s.badSlots g 1 = [] := by
  unfold State.badSlots at h ⊢
  split at h
  next hnone => exact if_pos hnone
  next hsome =>
    rw [if_neg hsome]
    refine List.flatMap_eq_nil_iff.2 fun i hi => List.flatMap_eq_nil_iff.1 h i (List.mem_range.2 ?_)
    have := List.mem_range.1 hi
    omega

end Pump

/-! ### Doorbells and HostSubmit (R48–R50) -/

section Doorbell

variable {q : Qp} {w : Window} {value : BitVec 32} {s : State} {g : Nat}

theorem queueDoorbell_ignored (h : s.groupOfWindow w = none ∨
    ∃ g, s.groupOfWindow w = some g ∧ ((s.qp q).bound = false ∨ (s.qp q).hoop ≠ s.hoopOfGroup g)) :
    exec (.queueDoorbell q w value) s = .next s := by
  change execQueueDoorbell q w value s = _
  unfold execQueueDoorbell
  rcases h with h | ⟨g, h, hq⟩
  · rw [h]
  · rw [h]
    refine if_neg fun ⟨hb, hh⟩ => ?_
    rcases hq with hq | hq
    · rw [hq] at hb
      exact Bool.false_ne_true hb
    · exact hq hh

theorem queueDoorbell_exec (h : s.groupOfWindow w = some g) (hb : (s.qp q).bound = true) (hh : (s.qp q).hoop = s.hoopOfGroup g) :
    exec (.queueDoorbell q w value) s = .next (s.ringDoorbell g value.toNat) := by
  change execQueueDoorbell q w value s = _
  unfold execQueueDoorbell
  rw [h]
  exact if_pos ⟨hb, hh⟩

end Doorbell

theorem Machine.State.ringDoorbell_overruns {s : State} {g value : Nat}
    (h : s.num (Obj.groupQueueDepth g) < (value % 2 ^ 16 + 2 ^ 16 - s.consumer g) % 2 ^ 16) :
    (s.ringDoorbell g value).num (Obj.groupQueueIndices g) = s.num (Obj.groupQueueIndices g) ∧
      (s.ringDoorbell g value).work = s.work ∧
      Reported Ev.queueOverrun { hoop := s.hoopOfGroup g, unit := g } (s.ringDoorbell g value) := by
  have hx : s.ringDoorbell g value = s.raise Ev.queueOverrun { hoop := s.hoopOfGroup g, unit := g } := if_pos h
  rw [hx]
  exact ⟨(Settled.rfl.raise _ _).objs.packed (by decide), State.work_raise .., State.raise_reported ..⟩

theorem Machine.State.ringDoorbell_taken {s : State} {g value : Nat}
    (h : (value % 2 ^ 16 + 2 ^ 16 - s.consumer g) % 2 ^ 16 ≤ s.num (Obj.groupQueueDepth g)) :
    (s.ringDoorbell g value).producer g = value % 2 ^ 16 ∧
      (s.badSlots g 1 ≠ [] → (s.ringDoorbell g value).consumer g = s.consumer g) := by
  have hx : s.ringDoorbell g value = (s.setIndices g (value % 2 ^ 16) (s.consumer g)).pump g := if_neg (not_lt.2 h)
  have hc : (s.setIndices g (value % 2 ^ 16) (s.consumer g)).consumer g = s.consumer g := by
    rw [State.consumer_setIndices, Nat.mod_eq_of_lt (s.consumer_lt g)]
  rw [hx]
  refine ⟨?_, fun hbad => ?_⟩
  · rw [State.pump, State.pumpQueue_producer, State.producer_setIndices, Nat.mod_mod]
  · rw [State.pump_of_unreadable, hc]
    have hsame := State.badSlots_congr (s := s) (t := s.setIndices g (value % 2 ^ 16) (s.consumer g)) rfl
      (WritesIn.rfl.set (.packed (by decide)) _) hc 1
    rwa [hsame]

theorem Machine.State.writeRing_dict (s : State) (g off : Nat) (b : Bytes) : (s.writeRing g off b).dict = s.dict := by
  unfold State.writeRing State.clearLines
  dsimp only
  split
  · rfl
  · split <;> rfl

/-- A HostSubmit that names a group which is not Free and carries a whole descriptor (R50). -/
structure Submits (s : State) (data : Bytes) : Prop where
  group : field data 0 2 < 4096
  slots : field data 15 1 % 16 ≤ 4
  length : data.length = 2 + 64 * (1 + field data 15 1 % 16)
  notFree : s.num (Obj.groupState (field data 0 2)) ≠ 0

section HostSubmit

variable {data : Bytes} {s : State}

/-- Such a HostSubmit is busy without room, else its entries go to the ring behind the producer index, which they move. -/
theorem Machine.State.hostSubmit_of_submits (h : Submits s data) :
    let g := field data 0 2
    let ext := field data 15 1 % 16
    ∃ u : State, u.producer g = s.producer g ∧ s.hostSubmit data =
      if s.num (Obj.groupQueueDepth g) < (s.producer g + 2 ^ 16 - s.consumer g) % 2 ^ 16 + (1 + ext) then refuse St.busy s
      else ((u.setIndices g (u.producer g + (1 + ext)) (u.consumer g)).pump g, St.ok) := by
  obtain ⟨hg, hext, hlen, hfree⟩ := h
  unfold State.hostSubmit
  extract_lets g ext n used depth s1
  have hn : n = 1 + ext := by
    change (data.length - 2) / 64 = 1 + field data 15 1 % 16
    omega
  have hwhole : ¬ (data.length < 66 ∨ 4 < ext ∨ data.length ≠ 2 + 64 * (1 + ext)) := by
    change ¬ (data.length < 66 ∨ 4 < field data 15 1 % 16 ∨ data.length ≠ 2 + 64 * (1 + field data 15 1 % 16))
    omega
  have hdict : s1.dict = s.dict :=
    State.each_keeps (fun t => t.dict = s.dict) _ (fun t _ ht => (State.writeRing_dict t ..).trans ht) _ s rfl
  refine ⟨s1, by rw [State.producer, State.num, State.obj, hdict]; rfl, ?_⟩
  rw [if_neg (not_le.2 hg), if_neg hwhole, if_neg hfree, hn]
  rfl

theorem Machine.State.hostSubmit_fits (h : Submits s data)
    (hroom : (s.producer (field data 0 2) + 2 ^ 16 - s.consumer (field data 0 2)) % 2 ^ 16 + (1 + field data 15 1 % 16) ≤
      s.num (Obj.groupQueueDepth (field data 0 2))) :
    ∃ u, s.hostSubmit data = (u, St.ok) ∧
      u.producer (field data 0 2) = (s.producer (field data 0 2) + (1 + field data 15 1 % 16)) % 2 ^ 16 := by
  obtain ⟨u, hp, hu⟩ := State.hostSubmit_of_submits h
  exact ⟨_, hu.trans (if_neg (not_lt.2 hroom)), by rw [State.pump, State.pumpQueue_producer, State.producer_setIndices, hp]⟩

theorem Machine.State.hostSubmit_full (h : Submits s data)
    (hfull : s.num (Obj.groupQueueDepth (field data 0 2)) <
      (s.producer (field data 0 2) + 2 ^ 16 - s.consumer (field data 0 2)) % 2 ^ 16 + (1 + field data 15 1 % 16)) :
    s.hostSubmit data = refuse St.busy s := by
  obtain ⟨u, -, hu⟩ := State.hostSubmit_of_submits h
  exact hu.trans (if_pos hfull)

theorem hostSubmit_completes {rq : Requester} (ha : Accepts s rq Obj.hostSubmit (.blob data) none) (h : Submits s data) :
    let g := field data 0 2
    let ext := field data 15 1 % 16
    let used := (s.producer g + 2 ^ 16 - s.consumer g) % 2 ^ 16
    (used + (1 + ext) ≤ s.num (Obj.groupQueueDepth g) → Completes (.hostSubmit rq data) s fun t =>
      t.producer g = (s.producer g + (1 + ext)) % 2 ^ 16 ∧ t.num Obj.hostSubmitStatus = St.ok ∧ Answered rq St.ok t) ∧
    (s.num (Obj.groupQueueDepth g) < used + (1 + ext) → Completes (.hostSubmit rq data) s fun t =>
      t.num Obj.hostSubmitStatus = St.busy ∧ OnlyObjects [Obj.hostSubmitStatus] s t) := by
  intro g ext used
  have hserved : Submits (s.served rq Obj.hostSubmit) data := ⟨h.group, h.slots, h.length, by rw [State.served_num]; exact h.notFree⟩
  obtain ⟨hp, hc⟩ := State.indices_of_num (s := s) (g := g) (s.served_num rq Obj.hostSubmit (Obj.groupQueueIndices g))
  have hd := s.served_num rq Obj.hostSubmit (Obj.groupQueueDepth g)
  refine ⟨fun hroom => ?_, fun hfull => ?_⟩
  · obtain ⟨u, hu, hprod⟩ := State.hostSubmit_fits hserved (by rw [hp, hc, hd]; exact hroom)
    refine .of_reported rfl ha hu fun t ht hst hans => ⟨?_, hst, hans⟩
    have hne : Obj.groupQueueIndices g ≠ Obj.hostSubmitStatus :=
      ObjTable.key_ne (x := ⟨0x3100, 0x0B, 4096, true⟩) (y := ⟨0x3001, 0x02, 1, false⟩) (by decide) g 0
    rw [(State.indices_of_num (ht.num_of_ne hne)).1, hprod, hp]
  · obtain ⟨t, ht, hst, -, honly⟩ := Completes.of_reported_refused (c := .hostSubmit rq data) (st := St.busy) rfl ha
      (State.hostSubmit_full hserved (by rw [hp, hc, hd]; exact hfull))
    exact ⟨t, ht, hst, honly⟩

end HostSubmit

end Sys2Proof

namespace Sys2Proof

open Sys2Proof.Machine

/-! ### Sums over a map with one entry put (R60) -/

theorem Machine.Map.insert_perm {β : Type} (k : Nat) (v : β) (m : Map β) : (Map.insert k v m).Perm ((k, v) :: m) := by
  induction m with
  | nil => exact List.Perm.refl _
  | cons e r ih =>
    obtain ⟨a, w⟩ := e
    unfold Map.insert
    split
    · exact List.Perm.refl _
    · exact (ih.cons (a, w)).trans (List.Perm.swap ..)

/-- Beside the entries of a key, its value counts at least once where it is not the default. -/
theorem Machine.Map.sum_clear_add_le {β : Type} (f : Nat × β → Nat) {d : β} {k : Nat} (hd : f (k, d) = 0) (m : Map β) :
    ((Map.clear (fun a => a == k) m).map f).sum + f (k, Map.get d m k) ≤ (m.map f).sum := by
  induction m with
  | nil => simp [Map.clear, Map.get, hd]
  | cons e r ih =>
    obtain ⟨a, v⟩ := e
    simp only [Map.clear] at ih ⊢
    unfold Map.get
    by_cases h : a = k
    · subst h
      simp only [List.filter_cons, beq_self_eq_true, Bool.not_true, Bool.false_eq_true, if_false, if_true, List.map_cons, List.sum_cons]
      omega
    · simp only [List.filter_cons, h, beq_eq_false_iff_ne.2 h, Bool.not_false, if_true, if_false, List.map_cons, List.sum_cons]
      omega

/-- A sum over the entries does not grow when an entry of no greater weight is put. -/
theorem Machine.Map.sum_put_le {β : Type} [DecidableEq β] (f : Nat × β → Nat) {d v : β} {k : Nat} {m : Map β} (hd : f (k, d) = 0)
    (hv : f (k, v) ≤ f (k, Map.get d m k)) : ((Map.put d m k v).map f).sum ≤ (m.map f).sum := by
  have h := Map.sum_clear_add_le f hd m
  unfold Map.put
  split
  · omega
  · rw [((Map.insert_perm k v _).map f).sum_eq, List.map_cons, List.sum_cons]
    omega

/-! ### The head is examined again (R60, R61) -/

/-- The state in which the descriptor that has waited longest is examined again. -/
def Machine.State.reexamined (s : State) (g : Nat) : State :=
  (s.setGroup g { s.group g with waiting := none }).setNum (Obj.groupQueueStatus g) St.ok

section Granted

variable (s : State) (g : Nat)

theorem Machine.State.reexamined_objs : WritesIn [⟨0x3100, 0x0C, 4096, true⟩] s (s.reexamined g) :=
  WritesIn.rfl.set (.packed (by decide)) _

theorem Machine.State.reexamined_group : (s.reexamined g).group g = { s.group g with waiting := none } := State.group_setGroup_same ..

theorem Machine.State.reexamined_hoop (h : Nat) : (s.reexamined g).hoop h = s.hoop h := rfl

theorem Machine.State.reexamined_qp (q : Nat) : (s.reexamined g).qp q = s.qp q := rfl

theorem Machine.State.reexamined_hoopOfGroup (i : Nat) : (s.reexamined g).hoopOfGroup i = s.hoopOfGroup i :=
  (s.reexamined_objs g).packed (by decide)

theorem Machine.State.reexamined_isSmall (i : Nat) : (s.reexamined g).isSmall i = s.isSmall i := by
  have h : (s.reexamined g).num (Obj.groupKind i) = s.num (Obj.groupKind i) := (s.reexamined_objs g).packed (by decide)
  rw [State.isSmall, h, State.isSmall]

theorem Machine.State.reexamined_usableTarget (h t : Nat) : (s.reexamined g).usableTarget h t = s.usableTarget h t := by
  have htarget : (s.reexamined g).num (Obj.targetQp (targetIndex h t)) = s.num (Obj.targetQp (targetIndex h t)) :=
    (s.reexamined_objs g).packed (by decide)
  have hstate (q : Nat) : (s.reexamined g).num (Obj.qpState q) = s.num (Obj.qpState q) := (s.reexamined_objs g).packed (by decide)
  unfold State.usableTarget State.rtsOf
  dsimp only
  rw [htarget, hstate, s.reexamined_qp]

theorem Machine.State.reexamined_windows (w : Nat) : (s.reexamined g).num (Obj.windowState w) = s.num (Obj.windowState w) ∧
    (s.reexamined g).num (Obj.windowHoop w) = s.num (Obj.windowHoop w) ∧
    (s.reexamined g).num (Obj.windowGroup w) = s.num (Obj.windowGroup w) ∧
    (s.reexamined g).num (Obj.windowPlanEntry w) = s.num (Obj.windowPlanEntry w) ∧
    (s.reexamined g).num (Obj.windowSliceBytes w) = s.num (Obj.windowSliceBytes w) ∧
    (s.reexamined g).num (Obj.windowLength w) = s.num (Obj.windowLength w) :=
  have h := s.reexamined_objs g
  ⟨h.packed (by decide), h.packed (by decide), h.packed (by decide), h.packed (by decide), h.packed (by decide), h.packed (by decide)⟩

theorem Machine.State.reexamined_descriptorPermitted (d : Bytes) :
    (s.reexamined g).descriptorPermitted g d = s.descriptorPermitted g d := by
  have hbulk : (s.reexamined g).bulkPermitted g d = s.bulkPermitted g d := by
    obtain ⟨h1, h2, h3, h4, h5, -⟩ := s.reexamined_windows g (dSourceWindow d)
    unfold State.bulkPermitted
    dsimp only
    rw [s.reexamined_hoopOfGroup, s.reexamined_hoop, s.reexamined_group, h1, h2, h3, h4, h5]
  have howns (h w : Nat) : (s.reexamined g).ownsWindow h w = s.ownsWindow h w := by
    obtain ⟨h1, h2, -⟩ := s.reexamined_windows g w
    rw [State.ownsWindow, h1, h2, State.ownsWindow]
  unfold State.descriptorPermitted
  simp only [s.reexamined_hoopOfGroup, s.reexamined_isSmall, s.reexamined_usableTarget, howns, hbulk]

theorem Machine.State.reexamined_descriptorFits (d : Bytes) : (s.reexamined g).descriptorFits g d = s.descriptorFits g d := by
  have hcount : (s.reexamined g).chunkCount g d = s.chunkCount g d := by
    unfold State.chunkCount
    rw [s.reexamined_isSmall, s.reexamined_hoopOfGroup, s.reexamined_hoop]
  have hresult : (s.reexamined g).resultBytes g d = s.resultBytes g d := by
    unfold State.resultBytes
    dsimp only
    rw [s.reexamined_hoopOfGroup, s.reexamined_hoop, s.reexamined_group]
  have htarget (t : Nat) : (s.reexamined g).num (Obj.targetLength t) = s.num (Obj.targetLength t) :=
    (s.reexamined_objs g).packed (by decide)
  obtain ⟨-, -, -, -, -, hlength⟩ := s.reexamined_windows g (dSourceWindow d)
  unfold State.descriptorFits
  dsimp only
  rw [s.reexamined_isSmall, s.reexamined_hoopOfGroup, s.reexamined_group, hcount, hresult, htarget, htarget, hlength]

/-- The checks of R55 do not ask whether the head waits. -/
theorem Machine.State.reexamined_descriptorStatus (d : Bytes) : (s.reexamined g).descriptorStatus g d = s.descriptorStatus g d := by
  have h := s.reexamined_objs g
  have hhoop : (s.reexamined g).num (Obj.hoopState (s.hoopOfGroup g)) = s.num (Obj.hoopState (s.hoopOfGroup g)) :=
    h.num (Written.not_linear (by decide))
  have hstate : (s.reexamined g).num (Obj.groupState g) = s.num (Obj.groupState g) := h.packed (by decide)
  have hepoch : (s.reexamined g).num (Obj.groupEpoch g) = s.num (Obj.groupEpoch g) := h.packed (by decide)
  have hnext : (s.reexamined g).num (Obj.groupNextSequence g) = s.num (Obj.groupNextSequence g) := h.packed (by decide)
  unfold State.descriptorStatus
  rw [s.reexamined_hoopOfGroup, s.reexamined_descriptorPermitted, s.reexamined_descriptorFits, hhoop, hstate, hepoch, hnext]

theorem Machine.State.reexamined_ringSlot (n : Nat) : (s.reexamined g).ringSlot g n = s.ringSlot g n := by
  have h : (s.reexamined g).num (Obj.groupQueueDepth g) = s.num (Obj.groupQueueDepth g) := (s.reexamined_objs g).packed (by decide)
  rw [State.ringSlot, s.reexamined_group, h, State.ringSlot]

theorem Machine.State.reexamined_indices : (s.reexamined g).producer g = s.producer g ∧ (s.reexamined g).consumer g = s.consumer g :=
  State.indices_of_num ((s.reexamined_objs g).packed (by decide))

theorem Machine.State.reexamined_badSlots (n : Nat) : (s.reexamined g).badSlots g n = s.badSlots g n :=
  State.badSlots_congr (s := s) (t := s.reexamined g) rfl ((s.reexamined_objs g).mono (by decide)) (s.reexamined_indices g).2 n

theorem Machine.State.reexamined_contextsFrom_le (source : Nat) (p : Nat → Bool) :
    (s.reexamined g).contextsFrom source p ≤ s.contextsFrom source p := by
  have hsum (l : Map GroupData) : ((l.filter fun c => p c.1).map fun c => (c.2.ops.filter fun o => o.source == source).length).sum =
      (l.map fun c => if p c.1 then (c.2.ops.filter fun o => o.source == source).length else 0).sum := by
    induction l with
    | nil => rfl
    | cons x l ih =>
      rw [List.filter_cons, List.map_cons, List.sum_cons, ← ih]
      split
      · rw [List.map_cons, List.sum_cons]
      · rw [Nat.zero_add]
  unfold State.contextsFrom
  rw [hsum, hsum]
  exact Map.sum_put_le _ (by simp) le_rfl

/-- A group has a context to take exactly where one of the three sources of R60 has one. -/
theorem Machine.State.contextSource_isSome : (s.contextSource g).isSome = true ↔ s.num Obj.contextsInUse < 65536 ∧
    (s.num (Obj.groupInFlight g) < s.num (Obj.groupContextMinimum g) ∨
      s.contextsFrom 1 (fun x => s.hoopOfGroup x == s.hoopOfGroup g) + s.num (Obj.hoopGroupMinimumSum (s.hoopOfGroup g)) <
        s.num (Obj.hoopContextMinimum (s.hoopOfGroup g)) ∨
      s.contextsFrom 2 (fun _ => true) < s.sharedRemainder) := by
  unfold State.contextSource
  dsimp only
  split_ifs <;> simp <;> omega

theorem Machine.State.reexamined_contextSource (h : (s.contextSource g).isSome = true) :
    ((s.reexamined g).contextSource g).isSome = true := by
  have ho := s.reexamined_objs g
  have h1 : (s.reexamined g).num Obj.contextsInUse = s.num Obj.contextsInUse :=
    ho.num (Written.not_key (x := ⟨0x3000, 0x02, 1, false⟩) (by decide) 0)
  have h2 : (s.reexamined g).num (Obj.groupInFlight g) = s.num (Obj.groupInFlight g) := ho.packed (by decide)
  have h3 : (s.reexamined g).num (Obj.groupContextMinimum g) = s.num (Obj.groupContextMinimum g) := ho.packed (by decide)
  have h4 (i : Nat) : (s.reexamined g).num (Obj.hoopGroupMinimumSum i) = s.num (Obj.hoopGroupMinimumSum i) := ho.linear (by decide)
  have h5 (i : Nat) : (s.reexamined g).num (Obj.hoopContextMinimum i) = s.num (Obj.hoopContextMinimum i) := ho.linear (by decide)
  have h6 (i : Nat) : (s.reexamined g).num (Obj.hoopState i) = s.num (Obj.hoopState i) := ho.linear (by decide)
  have hshared : (s.reexamined g).sharedRemainder = s.sharedRemainder := by simp only [State.sharedRemainder, h5, h6]
  have hfrom1 := s.reexamined_contextsFrom_le g 1 fun x => s.hoopOfGroup x == s.hoopOfGroup g
  have hfrom2 := s.reexamined_contextsFrom_le g 2 fun _ => true
  rw [State.contextSource_isSome] at h ⊢
  simp only [s.reexamined_hoopOfGroup, h1, h2, h3, h4, h5, hshared]
  omega

end Granted

/-! ### A granted context (R60, R61) -/

/-- What an accepted Bulk descriptor leaves in its group: one more operation, Queued. -/
theorem Machine.State.acceptDescriptor_group {s : State} {g : Nat} (hsmall : s.isSmall g = false) (source slots : Nat) (d : Bytes) :
    ∃ o, (s.acceptDescriptor g source slots d).group g = { s.group g with ops := (s.group g).ops ++ [o] } ∧
      o.seq = dSequence d ∧ o.desc = d ∧ o.phase = 0 := by
  unfold State.acceptDescriptor
  extract_lets h w small gen o y s1 work s2 s3 s4
  have hs : small = false := hsmall
  have hmirror (t : State) (r : Config.Region) (a b n : Nat) : (t.writeMirrored r a b n).work = t.work := by
    unfold State.writeMirrored State.clearLines
    split <;> rfl
  have h4 : s4.work = s2.work := hmirror s3 ..
  refine ⟨o, ?_, rfl, rfl, rfl⟩
  rw [hs, if_neg Bool.false_ne_true, State.group, h4]
  exact State.group_setGroup_same ..

/-- A whole descriptor at the head that passes the checks is accepted where a context is free. -/
theorem Machine.State.pumpQueue_accepts {s : State} {g n source slots : Nat} {d : Bytes}
    (hslots : 1 + dExtSlots (s.ringSlot g (s.consumer g)) = slots)
    (hd : ((List.range slots).flatMap fun i => s.ringSlot g (s.consumer g + i)) = d) (hle : slots ≤ 5)
    (ha : (s.producer g + 2 ^ 16 - s.consumer g) % 2 ^ 16 = slots) (hw : (s.group g).waiting = none)
    (hg : s.num (Obj.groupState g) ≠ 0) (hb : s.badSlots g slots = []) (hst : s.descriptorStatus g d = St.ok)
    (hc : s.contextSource g = some source) :
    State.pumpQueue (n + 1) s g = State.pumpQueue n (s.acceptDescriptor g source slots d) g := by
  have hb1 : s.badSlots g 1 = [] := State.badSlots_one (by omega) hb
  have hcount : (if dExtSlots (s.ringSlot g (s.consumer g)) ≤ 4 then 1 + dExtSlots (s.ringSlot g (s.consumer g)) else 1) = slots := by
    rw [if_pos (by omega), hslots]
  have hgo : ¬ ((s.producer g + 2 ^ 16 - s.consumer g) % 2 ^ 16 = 0 ∨ (s.group g).waiting.isSome = true ∨
      s.num (Obj.groupState g) = 0) := by
    rintro (h0 | hwait | hfree)
    · omega
    · rw [hw] at hwait
      exact Bool.false_ne_true hwait
    · exact hg hfree
  conv_lhs => unfold State.pumpQueue
  dsimp only
  rw [if_neg hgo, if_neg (not_not.2 hb1), hcount, if_neg (by omega), if_neg (not_not.2 hb), hd, if_neg (not_not.2 hst), hc]

theorem Machine.State.groupState_of_descriptorStatus {s : State} {g : Nat} {d : Bytes} (h : s.descriptorStatus g d = St.ok) :
    s.num (Obj.groupState g) = 1 := by
  by_contra hne
  unfold State.descriptorStatus at h
  dsimp only at h
  split_ifs at h <;> exact absurd h (by decide)

section Grant

variable {g : GroupNo} {s : State}

theorem contextGranted_ignored (h : s.longestWaiting g = false ∨ s.contextSource g = none) : exec (.contextGranted g) s = .next s := by
  refine if_neg fun ⟨hl, hc⟩ => ?_
  rcases h with h | h
  · rw [h] at hl
    exact Bool.false_ne_true hl
  · rw [h] at hc
    exact Bool.false_ne_true hc

theorem contextGranted_completes :
    let slots := 1 + dExtSlots (s.ringSlot g (s.consumer g))
    let d := (List.range slots).flatMap fun i => s.ringSlot g (s.consumer g + i)
    s.longestWaiting g = true → (s.contextSource g).isSome = true → s.isSmall g = false → slots ≤ 5 →
    (s.producer g + 2 ^ 16 - s.consumer g) % 2 ^ 16 = slots → 0 < s.num (Obj.groupQueueDepth g) →
    s.descriptorStatus g d = St.ok → s.badSlots g slots = [] → Completes (.contextGranted g) s fun t =>
      (∃ o, (t.group g).ops = (s.group g).ops ++ [o] ∧ o.seq = dSequence d ∧ o.desc = d ∧ o.phase = 0) ∧
      (t.group g).waiting = none ∧ t.consumer g = t.producer g ∧
      t.num (Obj.groupNextSequence g) = (s.num (Obj.groupNextSequence g) + 1) % 2 ^ 32 := by
  intro slots d hl hc hsmall hslots ha _ hst hb
  obtain ⟨hp, hcons⟩ := s.reexamined_indices g
  obtain ⟨source, hsource⟩ := Option.isSome_iff_exists.1 (s.reexamined_contextSource g hc)
  have hring (n : Nat) := s.reexamined_ringSlot g n
  have hpump (n : Nat) : State.pumpQueue (n + 1) (s.reexamined g) g =
      State.pumpQueue n ((s.reexamined g).acceptDescriptor g source slots d) g := by
    have hstate : (s.reexamined g).num (Obj.groupState g) = s.num (Obj.groupState g) := (s.reexamined_objs g).packed (by decide)
    refine State.pumpQueue_accepts ?_ ?_ hslots ?_ ?_ ?_ ?_ ?_ hsource
    · rw [hcons, hring]
    · rw [hcons, funext fun i => hring (s.consumer g + i)]
    · rw [hp, hcons, ha]
    · rw [s.reexamined_group]
    · rw [hstate, State.groupState_of_descriptorStatus hst]
      decide
    · rw [s.reexamined_badSlots, hb]
    · rw [s.reexamined_descriptorStatus, hst]
  obtain ⟨o, hgroup, hseq, hdesc, hphase⟩ :=
    State.acceptDescriptor_group (s := s.reexamined g) (g := g) (by rw [s.reexamined_isSmall, hsmall]) source slots d
  obtain ⟨hprod, hcons', hnext⟩ := (s.reexamined g).acceptDescriptor_indices g source slots d
  have hempty : ((s.reexamined g).acceptDescriptor g source slots d).producer g =
      ((s.reexamined g).acceptDescriptor g source slots d).consumer g := by
    have := s.producer_lt g
    have := s.consumer_lt g
    rw [hprod, hcons', hp, hcons]
    omega
  refine ⟨(s.reexamined g).acceptDescriptor g source slots d, ?_, ⟨o, ?_, hseq, hdesc, hphase⟩, ?_, hempty.symm, ?_⟩
  · refine (if_pos ⟨hl, hc⟩).trans (congrArg Host.Outcome.next ?_)
    change (s.reexamined g).pump g = _
    rw [State.pump, hpump, State.pumpQueue_of_empty _ hempty]
  · rw [hgroup, s.reexamined_group]
  · rw [hgroup, s.reexamined_group]
  · have hsequence : (s.reexamined g).num (Obj.groupNextSequence g) = s.num (Obj.groupNextSequence g) :=
      (s.reexamined_objs g).packed (by decide)
    rw [hnext, hsequence]

end Grant

/-! ### The obligation -/

/-- Settles O14: a doorbell and a HostSubmit move the producer index alone, which the examination of the queue leaves; a granted
context lets that examination accept the head. -/
theorem queuesAndContexts : Obligations.QueuesAndContexts := by
  unfold Obligations.QueuesAndContexts
  refine ⟨fun q w value s => ⟨fun hnone => queueDoorbell_ignored (.inl hnone),
      fun g hg => ⟨fun hq => ?foreign, fun hb hh => ?own⟩⟩,
    fun rq data s ha => ?submit, fun g s => ⟨contextGranted_ignored, contextGranted_completes⟩⟩
  case foreign => exact queueDoorbell_ignored (.inr ⟨g, hg, hq⟩)
  case own => exact ⟨fun hover => ⟨_, queueDoorbell_exec hg hb hh, State.ringDoorbell_overruns hover⟩,
      fun hfits => ⟨_, queueDoorbell_exec hg hb hh, State.ringDoorbell_taken hfits⟩⟩
  case submit => exact fun hg hext hlen hopen => hostSubmit_completes ha ⟨hg, hext, hlen, hopen⟩

end Sys2Proof

namespace Sys2Proof

open Sys2Proof.Machine

/-! ## Tile instructions: what a dispatch and a completion make of the tile (R110, R113, R115, R116)

An instruction whose dispatch nothing stands against goes through `State.issue` to `Running.settle`. Where every head of a queue waits
for something, the queues then stay as they are (`settleQueues_of_waiting`), so that the tile holds what the instruction gave it, behind
what stands in its queue. -/

theorem Machine.wordOpcode_tileWord (op : Nat) (w : TileWord) : wordOpcode (tileWord op w) = op := by
  have hd := w.d.isLt
  have ha := w.a.isLt
  have hb := w.b.isLt
  have hc := w.c.isLt
  have hi := w.imm.isLt
  unfold wordOpcode tileWord
  omega

/-- What a running chunk says of where it runs. -/
theorem Machine.State.running_some {s : State} {t : Nat} {w : TileWord} {k : Running} (h : s.running t w = some k) :
    k.s = s ∧ k.t = t ∧ k.w = w ∧ k.x = s.tile t := by
  simp only [State.running, Option.bind_eq_some_iff, Option.map_eq_some_iff] at h
  obtain ⟨key, -, c, -, o, -, e, -, r, -, rfl⟩ := h
  exact ⟨rfl, rfl, rfl, rfl⟩

/-! ### Queues whose heads wait (R110, R113) -/

/-- Every instruction at the head of a queue waits for something. -/
def Machine.TileData.HeadsWait (x : TileData) : Prop := ∀ q < 5, ∀ j rest, x.queue q = j :: rest → j.op.passes = false

/-- What stands in the queues, and what waits for them to be empty, is the same. -/
def Machine.TileData.SameQueues (x y : TileData) : Prop := y.queues = x.queues ∧ y.trapped = x.trapped ∧ y.ending = x.ending

theorem Machine.TileData.SameQueues.refl (x : TileData) : x.SameQueues x := ⟨rfl, rfl, rfl⟩

theorem Machine.TileData.sameQueues_setV (x : TileData) (n : Nat) (l : List Nat) : x.SameQueues (x.setV n l) := ⟨rfl, rfl, rfl⟩

theorem Machine.TileData.sameQueues_setS (x : TileData) (n v : Nat) : x.SameQueues (x.setS n v) := by
  unfold TileData.setS
  split
  · exact .refl x
  · exact ⟨rfl, rfl, rfl⟩

theorem Machine.TileData.queue_setQueue_same (x : TileData) (q : Nat) (l : List TileJob) : (x.setQueue q l).queue q = l :=
  Map.get_put_same _ _ _ _

theorem Machine.TileData.queue_setQueue_other (x : TileData) {q r : Nat} (l : List TileJob) (h : r ≠ q) :
    (x.setQueue q l).queue r = x.queue r := Map.get_put_other _ _ _ _ h

theorem Machine.TileData.queue_enter_same (x : TileData) (q : Nat) (op : TileOp) (f : Footprint) (target : Nat) :
    (x.enter q op f target).queue q = x.queue q ++ [{ op := op, number := x.issued, reads := f.reads, writes := f.writes, target := target }] :=
  x.queue_setQueue_same q _

theorem Machine.TileData.queue_enter_other (x : TileData) {q r : Nat} (op : TileOp) (f : Footprint) (target : Nat) (h : r ≠ q) :
    (x.enter q op f target).queue r = x.queue r := x.queue_setQueue_other _ h

/-- What enters a queue that is not empty does not stand at its head. -/
theorem Machine.TileData.HeadsWait.enter {x : TileData} (h : x.HeadsWait) {q : Nat} (hq : x.queue q ≠ []) (op : TileOp) (f : Footprint)
    (target : Nat) : (x.enter q op f target).HeadsWait := by
  intro r hr j rest hj
  by_cases hrq : r = q
  · subst hrq
    obtain ⟨i, more, hi⟩ := List.exists_cons_of_ne_nil hq
    rw [x.queue_enter_same, hi, List.cons_append, List.cons.injEq] at hj
    exact hj.1 ▸ h r hr i more hi
  · rw [x.queue_enter_other _ _ _ hrq] at hj
    exact h r hr j rest hj

theorem Machine.TileData.HeadsWait.behind {x : TileData} (h : x.HeadsWait) (q : Option Nat) (f : Footprint) (target : Nat) :
    (x.behind q f target).HeadsWait := by
  unfold TileData.behind
  split
  · split
    case isTrue => exact h
    case isFalse hq => exact h.enter hq _ _ _
  · exact h

theorem Machine.TileData.HeadsWait.of_sameQueues {x y : TileData} (h : x.HeadsWait) (hy : x.SameQueues y) : y.HeadsWait := by
  unfold TileData.HeadsWait TileData.queue
  rw [hy.1]
  exact h

theorem Machine.TileData.behind_trapped (x : TileData) (q : Option Nat) (f : Footprint) (target : Nat) :
    (x.behind q f target).trapped = x.trapped := by
  unfold TileData.behind
  split
  · split <;> rfl
  · rfl

theorem Machine.TileData.behind_ending (x : TileData) (q : Option Nat) (f : Footprint) (target : Nat) :
    (x.behind q f target).ending = x.ending := by
  unfold TileData.behind
  split
  · split <;> rfl
  · rfl

theorem Machine.Running.head_of_waiting (k : Running) (s : State) {j : TileJob} (h : j.op.passes = false) : k.head s j = .stays := by
  obtain ⟨op, number, reads, writes, target⟩ := j
  cases op with
  | held | ssig _ _ _ _ | release | stream _ _ _ _ => cases h
  | _ => rfl

theorem Machine.Running.settleQueue_of_waiting (k : Running) {s : State} {q : Nat} (hq : q < 5) (h : (s.tile k.t).HeadsWait) (fuel : Nat) :
    k.settleQueue q fuel s = (s, none) := by
  cases fuel with
  | zero => rfl
  | succ n =>
    unfold Running.settleQueue
    split
    · rfl
    · rename_i j rest hj
      rw [k.head_of_waiting s (h q hq j rest hj)]

/-- Queues whose heads all wait stay as they are, where neither an exception nor a CDONE waits for them (R113, R121, R135). -/
theorem Machine.State.settleQueues_of_waiting {s : State} {t : Nat} (h : (s.tile t).HeadsWait) (ht : (s.tile t).trapped = none)
    (he : (s.tile t).ending = false) : s.settleQueues t = s := by
  unfold State.settleQueues
  split
  · rfl
  · rename_i k hk
    obtain ⟨-, htile, -, -⟩ := State.running_some hk
    have hstay (q : Nat) (hq : q < 5) : k.settleQueue q 17 s = (s, none) := k.settleQueue_of_waiting hq (htile ▸ h) 17
    simp [hstay, ht, he]

/-! ### Only the tile changes -/

theorem tileBecomes_setTile (s : State) (t : Nat) (y : TileData) : TileBecomes s t y (s.setTile t y) :=
  ⟨s.tile_setTile_same t y, fun _ hj => s.tile_setTile_other y hj, rfl⟩

theorem TileBecomes.setTile {s u : State} {t : Nat} {x : TileData} (h : TileBecomes s t x u) (y : TileData) :
    TileBecomes s t y (u.setTile t y) :=
  ⟨u.tile_setTile_same t y, fun j hj => (u.tile_setTile_other y hj).trans (h.2.1 j hj), h.2.2⟩

/-! ### Dispatch (R110, R111, R116) -/

section Dispatched

variable {s : State} {t : Tile} {x : TileWord} {k : Running} {op : Nat} {fl : Fields} {q : Option Nat} {body : Running → Issue}

/-- Where nothing stands against the dispatch of a listed opcode, the instruction has the outcome of its own meaning. -/
theorem Dispatches.issue_eq (d : Dispatches s t op x fl q k) (hop : listedOpcode op = true) :
    s.issue t op x fl q body = k.settle q (fl.target op x) k.codeWord (body k) := by
  obtain ⟨hfenced, hending, htrapped⟩ := d.free
  have hroom : (q.any fun n => decide (16 ≤ (k.x.queue n).length)) = false := by
    cases q with
    | none => rfl
    | some n => simpa using d.room n rfl
  have hlisted : listedOpcode (wordOpcode k.codeWord) = true := by rw [d.fetched, wordOpcode_tileWord, hop]
  unfold State.issue
  simp only [d.runs]
  rw [if_neg (by simp [hfenced, hending, htrapped]), if_neg (Nat.not_le.2 d.inCode), if_neg (by simp [hlisted]),
    if_neg (not_not.2 d.fetched), if_neg (by simp [hroom]), if_neg (by simp [d.fields]), if_neg (by simp [d.ready])]

/-- An instruction that only changes registers leaves the tile past it, behind what stands in its queue, and changes nothing else. -/
theorem Dispatches.settle_done (d : Dispatches s t op x fl q k) {y : TileData} (hy : k.x.SameQueues y) (f : Footprint)
    (target word : Nat) : TileBecomes s t ((y.advance k.x.pc).behind q f target) (k.settle q target word (k.done y f)) := by
  obtain ⟨hs, ht, -, -⟩ := State.running_some d.runs
  obtain ⟨-, hending, htrapped⟩ := d.free
  have hwait : ((y.advance k.x.pc).behind q f target).HeadsWait :=
    (TileData.HeadsWait.of_sameQueues d.heads (y := y.advance k.x.pc) hy).behind q f target
  obtain ⟨-, hyt, hye⟩ := hy
  simp only [Running.settle, Running.done, Running.past, Running.set, hs, ht, State.tile_setTile_same]
  rw [State.settleQueues_of_waiting]
  · exact ((tileBecomes_setTile s t y).setTile _).setTile _
  · simpa using hwait
  · rw [State.tile_setTile_same, TileData.behind_trapped]
    exact hyt.trans htrapped
  · rw [State.tile_setTile_same, TileData.behind_ending]
    exact hye.trans hending

/-- A command that dispatches an instruction which only changes registers. -/
theorem Dispatches.completes_done (d : Dispatches s t op x fl q k) {c : Instr} {y : TileData} {f : Footprint}
    (hc : exec c s = .next (s.issue t op x fl q body)) (hop : listedOpcode op = true) (hbody : body k = k.done y f)
    (hy : k.x.SameQueues y) : Completes c s (TileBecomes s t ((y.advance k.x.pc).behind q f (fl.target op x))) := by
  refine ⟨_, hc, ?_⟩
  rw [d.issue_eq hop, hbody]
  exact d.settle_done hy f _ _

/-- A vector instruction that writes v[D]. -/
theorem completes_lanes {c : Instr} {l : Running → List Nat} {v : Nat → Nat}
    (hc : exec c s = .next (s.issue t op x fl q fun k => k.lanes (l k))) (hop : listedOpcode op = true) (htarget : fl.target op x = 0)
    (hl : l k = (List.range 512).map v) (d : Dispatches s t op x fl q k) :
    Completes c s (TileBecomes s t (((k.x.setV x.d.toNat ((List.range 512).map v)).advance k.x.pc).behind q {} 0)) := by
  obtain ⟨-, -, hw, -⟩ := State.running_some d.runs
  have h := d.completes_done hc hop rfl (k.x.sameQueues_setV k.w.d.toNat (l k))
  rwa [htarget, hl, hw] at h

/-- A vector instruction that writes s[D]. -/
theorem completes_scalar {c : Instr} {l : Running → Nat} {v : Nat}
    (hc : exec c s = .next (s.issue t op x fl q fun k => k.scalar (l k))) (hop : listedOpcode op = true)
    (htarget : fl.target op x = x.d.toNat) (hl : l k = v) (d : Dispatches s t op x fl q k) :
    Completes c s (TileBecomes s t (((k.x.setS x.d.toNat v).advance k.x.pc).behind q {} x.d.toNat)) := by
  obtain ⟨-, -, hw, -⟩ := State.running_some d.runs
  have h := d.completes_done hc hop rfl (k.x.sameQueues_setS k.w.d.toNat (l k))
  rwa [htarget, hl, hw] at h

end Dispatched

end Sys2Proof

namespace Sys2Proof

open Sys2Proof.Machine

/-! ## Vector instructions (R129–R131) -/

/-! ### The lanes of a register (R106) -/

theorem Machine.vectorOf_length (l : List Nat) : (vectorOf l).length = 512 := by
  simp only [vectorOf, List.length_map, List.length_append, List.length_take, List.length_replicate]
  omega

theorem Machine.TileData.vreg_length (x : TileData) (n : Nat) : (x.vreg n).length = 512 := vectorOf_length _

/-- A function of each lane of 512. -/
theorem map_lanes {a : List Nat} (ha : a.length = 512) (f : Nat → Nat) :
    a.map f = (List.range 512).map fun i => f (a.getD i 0) := by
  refine List.ext_getElem (by simp [ha]) fun i h _ => ?_
  have hi : i < a.length := by simpa using h
  simp [hi]

theorem zipWith_lanes {a b : List Nat} (ha : a.length = 512) (hb : b.length = 512) (f : Nat → Nat → Nat) :
    List.zipWith f a b = (List.range 512).map fun i => f (a.getD i 0) (b.getD i 0) := by
  refine List.ext_getElem (by simp [ha, hb]) fun i h _ => ?_
  have hi : i < a.length ∧ i < b.length := by simpa using h
  simp [hi]

theorem zip3_lanes {a b c : List Nat} (ha : a.length = 512) (hb : b.length = 512) (hc : c.length = 512) (f : Nat → Nat → Nat → Nat) :
    zip3 f a b c = (List.range 512).map fun i => f (a.getD i 0) (b.getD i 0) (c.getD i 0) := by
  refine List.ext_getElem (by simp [zip3, ha, hb, hc]) fun i h _ => ?_
  have hi : (i < a.length ∧ i < b.length) ∧ i < c.length := by simpa [zip3, and_assoc] using h
  simp [zip3, hi]

/-- The signed value of a 32-bit number (R16). -/
theorem toSigned_eq_toInt (n : Nat) : toSigned 32 n = (BitVec.ofNat 32 n).toInt := by
  rw [BitVec.toInt_eq_toNat_cond, BitVec.toNat_ofNat]
  unfold toSigned
  have hlt := Nat.mod_lt n (show 0 < 2 ^ 32 by decide)
  simp only
  split <;> split <;> omega

/-! ### VPHILOX (R82, R131) -/

/-- The 128 calls of a call index that fits. -/
theorem vphilox_completes {s : State} {t : Tile} {x : TileWord} {k : Running} (hfits : k.sa + 127 < 2 ^ 32)
    (d : Dispatches s t 0x90 x { d := .v, a := .s } (some 2) k) :
    Completes (.vphilox t x) s (TileBecomes s t (((k.x.setV x.d.toNat ((List.range 128).flatMap fun i =>
      philox (s.num (Obj.jobSeed k.h) % 2 ^ 32) ((s.num (Obj.jobSeed k.h) / 2 ^ 32) ^^^ s.num (Obj.planRandomTag k.h))
        (k.sa + i, k.c.index, entryShard k.e, k.o.step))).advance k.x.pc).behind (some 2) {} 0)) := by
  obtain ⟨-, -, hw, -⟩ := State.running_some d.runs
  have h := d.completes_done (c := .vphilox t x) rfl (by decide) (if_neg (by omega)) (k.x.sameQueues_setV k.w.d.toNat _)
  rwa [hw] at h

/-! ### The obligation -/

/-- Settles O24, instruction by instruction: its lanes are those of the list that its meaning makes of its sources, and what its dispatch
leaves is said once by `Dispatches.completes_done`. -/
theorem vectorFloatLanes : Obligations.VectorFloatLanes := by
  unfold Obligations.VectorFloatLanes
  intro t x s k
  have ha : k.va.length = 512 := k.x.vreg_length _
  have hb : k.vb.length = 512 := k.x.vreg_length _
  have hc : k.vc.length = 512 := k.x.vreg_length _
  refine ⟨?vadd, ?vsub, ?vmul, ?vmax, ?vmin, ?vfma, ?vnscomb, ?vscl, ?vcvti, ?vcvtf, ?vrsqrt, ?vrcp, ?vruni, ?vrsgn, ?vrsum, ?vrmax,
    ?vsumsq, ?vdot, ?vnscoef, vphilox_completes⟩
  case vadd | vsub | vmul | vmax | vmin => exact completes_lanes rfl (by decide) rfl (zipWith_lanes ha hb _)
  case vfma => exact completes_lanes rfl (by decide) rfl (zip3_lanes ha hb hc _)
  case vnscomb => exact completes_lanes rfl (by decide) rfl (zip3_lanes ha hb hc (combine k.x.coeff))
  case vcvti =>
    have hsigned : (fun a => fp32OfInt (toSigned 32 a)) = fun a => fp32OfInt (BitVec.ofNat 32 a).toInt :=
      funext fun a => congrArg fp32OfInt (toSigned_eq_toInt a)
    exact completes_lanes rfl (by decide) rfl ((congrArg k.va.map hsigned).trans (map_lanes ha _))
  case vscl | vcvtf | vrsqrt | vrcp | vruni | vrsgn => exact completes_lanes rfl (by decide) rfl (map_lanes ha _)
  case vrsum | vrmax => exact completes_scalar rfl (by decide) rfl rfl
  case vsumsq => exact completes_scalar rfl (by decide) rfl (congrArg (tree addFp32) (map_lanes ha _))
  case vdot => exact completes_scalar rfl (by decide) rfl (congrArg (tree addFp32) (zipWith_lanes ha hb _))
  case vnscoef => exact fun d => d.completes_done rfl (by decide) rfl ⟨rfl, rfl, rfl⟩

end Sys2Proof

namespace Sys2Proof

open Sys2Proof.Machine

/-! ## The post that waits (R113, R132)

MBPOST puts the low 32 bits of s[A] in its job, and the mailbox takes the low 32 bits of the job's word: the two agree for every job that
a dispatch makes. A statement about every job of a queue also speaks of wider words, of which the mailbox keeps less. -/

/-- A queue taken on from its head, where what then stands at the heads waits. -/
theorem Machine.State.popQueue_of_waiting {s : State} {t q : Nat} (h : ((s.tile t).setQueue q (((s.tile t).queue q).drop 1)).HeadsWait)
    (ht : (s.tile t).trapped = none) (he : (s.tile t).ending = false) :
    s.popQueue t q = s.setTile t { (s.tile t).setQueue q (((s.tile t).queue q).drop 1) with withheld := false } := by
  unfold State.popQueue
  apply State.settleQueues_of_waiting <;> rw [State.tile_setTile_same]
  · exact h
  · exact ht
  · exact he

/-- What the receiver of a mailbox is told changes no object. -/
theorem Machine.State.postMailbox_num (s : State) (n sender word j : Nat) : (s.postMailbox n sender word).num j =
    ((s.setNum (Obj.mailboxState n) (setBit (s.num (Obj.mailboxState n) % 256) 0 true + 256 * sender)).setNum (Obj.mailboxWord n)
      (word % 2 ^ 32)).num j := by
  unfold State.postMailbox
  dsimp only
  split
  · exact congrArg Val.toNat (State.vector_obj ..)
  · rfl
  · rfl

/-- A mailbox takes the low 32 bits of what is posted to it. -/
theorem Machine.State.postMailbox_word (s : State) (n sender word : Nat) :
    (s.postMailbox n sender word).num (Obj.mailboxWord n) = word % 2 ^ 32 :=
  (s.postMailbox_num n sender word _).trans (State.num_setNum_same ..)

theorem Machine.State.postMailbox_tile (s : State) (n sender word t : Nat) : (s.postMailbox n sender word).tile t = s.tile t := by
  unfold State.postMailbox State.vector
  dsimp only
  split
  · split <;> rfl
  · rfl
  · rfl

/-- A post that nothing earlier holds up, to an empty mailbox, leaves the scalar queue; the mailbox takes the low 32 bits of its word. -/
theorem mbpostComplete_completes {s : State} {t : Tile} {y : TileData} {j : TileJob} {rest : List TileJob} {n word : Nat}
    (htile : s.tile t = y) (hqueue : y.queue 0 = j :: rest) (hpost : j.op = .post n word)
    (hearlier : (y.queues.any fun q => q.2.any fun i => decide (i.number < j.number)) = false) (hempty : s.mailboxFull n = false)
    (hwait : (y.setQueue 0 rest).HeadsWait) (ht : y.trapped = none) (he : y.ending = false) :
    Completes (.mbpostComplete t) s fun u => u.num (Obj.mailboxWord n) = word % 2 ^ 32 := by
  subst htile
  have hexec : exec (.mbpostComplete t) s = .next ((s.postMailbox n 3 word).popQueue t 0) := by
    change execMbpostComplete t s = _
    unfold execMbpostComplete
    simp only [hqueue, List.head?_cons, hpost, hearlier, hempty]
    rfl
  have hkept := s.postMailbox_tile n 3 word t
  refine ⟨_, hexec, ?_⟩
  dsimp only
  rw [State.popQueue_of_waiting, State.setTile_num, State.postMailbox_word]
  · rw [hkept, hqueue]
    exact hwait
  · rw [hkept, ht]
  · rw [hkept, he]

/-! ### The obligation -/

/-- A tile that runs a chunk, with a post to mailbox 0 of a word of 33 bits alone in its scalar queue. -/
def widePostTile : TileData := { running := some (0, 0, 0), queues := [(0, [{ op := .post 0 (2 ^ 32) }])] }

/-- The operation of that chunk, by a plan entry that the plan of `widePostState` holds. -/
def widePostOperation : Operation :=
  { seq := 0, epoch := 0, desc := List.replicate 64 1, order := 0, phase := 1, source := 0, generation := 0, done := [], step := 0 }

/-- A state in which tile 0 is that tile: the only operation, of group 0, runs its chunk 0. -/
def widePostState : State :=
  { State.reset with
    work := {
      hoops := [(0, { plan := List.replicate 64 1 })],
      groups := [(0, { ops := [widePostOperation] })],
      chunks := [{ group := 0, seq := 0, index := 0, phase := 2 }] },
    tiles := [(0, widePostTile)] }

theorem widePostState_tile : widePostState.tile 0 = widePostTile := rfl

theorem widePostState_running : ∃ k, widePostState.running 0 {} = some k := Option.isSome_iff_exists.1 (by decide +kernel)

theorem widePostState_mailboxFull : widePostState.mailboxFull 0 = false := by decide +kernel

/-- Where the scalar queue is left empty, no other queue holds anything. -/
theorem widePostTile_still (r : Nat) : (if r = 0 then [] else widePostTile.queue r) = [] := by
  split
  case isTrue => rfl
  case isFalse hr => exact if_neg (Ne.symm hr)

theorem widePostTile_popped : (widePostTile.setQueue 0 []).HeadsWait := by
  intro r _ j rest hj
  have hempty : (widePostTile.setQueue 0 []).queue r = [] := rfl
  rw [hempty] at hj
  cases hj

/-- Refutes O26: the statement says that the completion of a waiting MBPOST puts the word of its job, whatever that is, in the mailbox, and
a mailbox holds 32 bits: of the 33-bit word 2^32 in `widePostState` it keeps 0. No dispatch makes such a job. -/
theorem not_semaphoresMailboxesAndLine : ¬ Obligations.SemaphoresMailboxesAndLine := by
  unfold Obligations.SemaphoresMailboxesAndLine
  intro h
  obtain ⟨k, hk⟩ := widePostState_running
  obtain ⟨-, -, -, hx⟩ := State.running_some hk
  replace hx : k.x = widePostTile := hx.trans widePostState_tile
  obtain ⟨-, -, -, -, hcomplete, -⟩ := h 0 {} widePostState k
  rw [hx] at hcomplete
  obtain ⟨u, hu, hclaimed, -⟩ := (hcomplete ⟨hk, rfl, rfl⟩ 0 (2 ^ 32) { op := .post 0 (2 ^ 32) } [] (by decide) rfl rfl
    fun r _ i more hi => absurd (widePostTile_still r ▸ hi) (List.cons_ne_nil i more).symm).1 rfl widePostState_mailboxFull
  obtain ⟨v, hv, hword⟩ := mbpostComplete_completes (t := 0) (n := 0) (word := 2 ^ 32) (j := { op := .post 0 (2 ^ 32) })
    widePostState_tile rfl rfl rfl widePostState_mailboxFull widePostTile_popped rfl rfl
  obtain rfl : u = v := Host.Outcome.next.inj (hu.symm.trans hv)
  exact absurd (hclaimed.symm.trans hword) (by decide)

end Sys2Proof

namespace Sys2Proof

open Sys2Proof.Machine

/-! ## The mesh and its accumulators (R92, R127, R128)

### Bytes of a store read back -/

theorem Machine.Map.get_append_of_absent {β : Type} (d : β) {l : Map β} (m : Map β) {k : Nat} (h : ∀ c ∈ l, c.1 ≠ k) :
    Map.get d (l ++ m) k = Map.get d m k := by
  induction l with
  | nil => rfl
  | cons c l ih =>
    have hc : c.1 ≠ k := h c (List.mem_cons_self ..)
    exact (if_neg hc).trans (ih fun e he => h e (List.mem_cons_of_mem _ he))

theorem Machine.Map.get_of_absent {β : Type} (d : β) {l : Map β} {k : Nat} (h : ∀ c ∈ l, c.1 ≠ k) : Map.get d l k = d := by
  rw [← List.append_nil l, Map.get_append_of_absent d [] h]
  rfl

/-- What no entry of the second part speaks of is read in the first. -/
theorem Machine.Map.get_append_left {β : Type} (d : β) (l : Map β) {m : Map β} {k : Nat} (h : ∀ c ∈ m, c.1 ≠ k) :
    Map.get d (l ++ m) k = Map.get d l k := by
  induction l with
  | nil => exact Map.get_of_absent d h
  | cons c l ih =>
    change (if c.1 = k then c.2 else Map.get d (l ++ m) k) = if c.1 = k then c.2 else Map.get d l k
    rw [ih]

/-- A part of a map chosen by keys reads as the map on them. -/
theorem Machine.Map.get_filter {β : Type} (d : β) (p : Nat → Bool) (m : Map β) {k : Nat} (hk : p k = true) :
    Map.get d (m.filter fun c => p c.1) k = Map.get d m k := by
  have h := Map.get_clear d (fun a => !p a) m k
  simpa [Map.clear, hk] using h

theorem Machine.Memory.read_cells (b : Bytes) (a : Nat) {j : Nat} (ha : a ≤ j) : Map.get 0 (Memory.cells a b) j = b.getD (j - a) 0 := by
  induction b generalizing a with
  | nil => rfl
  | cons v b ih =>
    have hlater {i : Nat} (hi : i < a + 1) : ∀ c ∈ Memory.cells (a + 1) b, c.1 ≠ i := fun c hc => by
      have := ((Memory.cells_spec b (a + 1)).2 c hc).1
      omega
    rcases Nat.eq_or_lt_of_le ha with rfl | hlt
    · simp only [Memory.cells, Nat.sub_self, List.getD_cons_zero]
      split
      next hv => rw [hv, Map.get_of_absent 0 (hlater (Nat.lt_succ_self _))]
      next => exact if_pos rfl
    · obtain ⟨i, rfl⟩ := Nat.exists_eq_add_of_lt hlt
      have hrest := ih (a + 1) (by omega : a + 1 ≤ a + i + 1)
      rw [show a + i + 1 - (a + 1) = i by omega] at hrest
      rw [show a + i + 1 - a = i + 1 by omega, List.getD_cons_succ, ← hrest]
      simp only [Memory.cells]
      split
      · rfl
      · exact if_neg (by omega)

/-- A byte after a write of a string of bytes. -/
theorem Machine.Memory.read_writeBytes (m : Memory) (a : Nat) (b : Bytes) (j : Nat) :
    Memory.read (Memory.writeBytes m a b) j = if a ≤ j ∧ j < a + b.length then b.getD (j - a) 0 else Memory.read m j := by
  have hcells : ∀ c ∈ Memory.cells a b, a ≤ c.1 ∧ c.1 < a + b.length := fun c hc =>
    have h := (Memory.cells_spec b a).2 c hc
    ⟨h.1, h.2.1⟩
  have hlow : a ≤ j → ∀ c ∈ m.filter (fun c => decide (c.1 < a)), c.1 ≠ j := fun ha c hc => by
    have := (List.mem_filter.1 hc).2
    simp only [decide_eq_true_eq] at this
    omega
  have hhigh : j < a + b.length → ∀ c ∈ m.filter (fun c => decide (a + b.length ≤ c.1)), c.1 ≠ j := fun ha c hc => by
    have := (List.mem_filter.1 hc).2
    simp only [decide_eq_true_eq] at this
    omega
  unfold Memory.read Memory.writeBytes
  split
  next h =>
    rw [Map.get_append_of_absent 0 _ (hlow h.1), Map.get_append_left 0 _ (hhigh h.2), Memory.read_cells b a h.1]
  next h =>
    rcases Nat.lt_or_ge j a with hj | hj
    · rw [Map.get_append_left, Map.get_filter 0 (fun x => decide (x < a)) m (decide_eq_true hj)]
      intro c hc
      rcases List.mem_append.1 hc with hc | hc
      · have := hcells c hc
        omega
      · exact hhigh (by omega) c hc
    · have hge : a + b.length ≤ j := by omega
      rw [Map.get_append_of_absent 0 _ (hlow hj), Map.get_append_of_absent 0 _ fun c hc => by have := hcells c hc; omega,
        Map.get_filter 0 (fun x => decide (a + b.length ≤ x)) m (decide_eq_true hge)]

theorem Machine.Memory.readBytes_eq (m : Memory) (a n : Nat) : m.readBytes a n = (List.range n).map fun i => Memory.read m (a + i) := by
  refine List.map_congr_left fun i hi => ?_
  have hi := List.mem_range.1 hi
  exact Map.get_filter 0 (fun x => decide (a ≤ x ∧ x < a + n)) m (decide_eq_true ⟨by omega, by omega⟩)

/-- Bytes just written read back. -/
theorem Machine.Memory.readBytes_writeBytes_same (m : Memory) (a : Nat) {b : Bytes} {n : Nat} (hn : b.length = n) :
    (m.writeBytes a b).readBytes a n = b := by
  subst hn
  rw [Memory.readBytes_eq]
  refine List.ext_getElem (by simp) fun i h _ => ?_
  have hi : i < b.length := by simpa using h
  simp [Memory.read_writeBytes, hi]

/-- Bytes before or behind a write read as they did. -/
theorem Machine.Memory.readBytes_writeBytes_apart (m : Memory) {a a' n : Nat} {b : Bytes} (h : a + n ≤ a' ∨ a' + b.length ≤ a) :
    (m.writeBytes a' b).readBytes a n = m.readBytes a n := by
  rw [Memory.readBytes_eq, Memory.readBytes_eq]
  refine List.map_congr_left fun i hi => ?_
  have hi := List.mem_range.1 hi
  rw [Memory.read_writeBytes, if_neg (by omega)]

/-! ### Dispatch of an instruction that changes more than registers -/

/-- What holds at the start of a loop over 0 … n − 1, and what each turn carries on, holds at its end. -/
theorem foldl_range_keeps {β : Type} {f : β → Nat → β} (P : Nat → β → Prop) {b : β} (h0 : P 0 b)
    (hs : ∀ i b, P i b → P (i + 1) (f b i)) (n : Nat) : P n ((List.range n).foldl f b) := by
  induction n with
  | zero => exact h0
  | succ n ih =>
    rw [List.range_succ, List.foldl_append]
    exact hs n _ ih

/-- An instruction that completes behind others only joins a queue. -/
theorem Machine.TileData.behind_only (x : TileData) (q : Option Nat) (f : Footprint) (target : Nat) :
    ∃ queues issued, x.behind q f target = { x with queues := queues, issued := issued } := by
  unfold TileData.behind
  split
  · split
    · exact ⟨_, _, rfl⟩
    · exact ⟨_, _, rfl⟩
  · exact ⟨_, _, rfl⟩

/-- Accesses that neither R111 withholds nor R108 forbids are made, the words written being defined. -/
theorem Machine.Running.access_ok {k : Running} {q : Nat} {reads writes : List (Nat × Nat)} {f : TileData → Footprint → Issue}
    (hfree : k.x.interlocked q { reads := hull reads, writes := hull writes } = false) (hfault : k.accessFault reads writes = none) :
    k.access q reads writes f = f (writes.foldl TileData.define k.x) { reads := hull reads, writes := hull writes } := by
  simp [Running.access, hfree, hfault]

/-- Words that writes define change nothing else of the tile. -/
theorem Machine.TileData.foldl_define_only (l : List (Nat × Nat)) (x : TileData) :
    ∃ words, l.foldl TileData.define x = { x with defined := words } := by
  induction l generalizing x with
  | nil => exact ⟨_, rfl⟩
  | cons r l ih => exact ih _

section Dispatched

variable {s u : State} {t : Tile} {x : TileWord} {k : Running} {op : Nat} {fl : Fields} {q : Option Nat} {body : Running → Issue}
  {y : TileData}

/-- An instruction that leaves a state with the tile's queues as they were leaves the tile past it, behind what stands in its queue. -/
theorem Dispatches.settle_ok (d : Dispatches s t op x fl q k) (hu : u.tile t = y) (hy : k.x.SameQueues y) (f : Footprint)
    (target word : Nat) : TileBecomes u t ((y.advance k.x.pc).behind q f target) (k.settle q target word (.ok u f)) := by
  obtain ⟨-, ht, -, -⟩ := State.running_some d.runs
  obtain ⟨-, hending, htrapped⟩ := d.free
  have hwait : ((y.advance k.x.pc).behind q f target).HeadsWait :=
    (TileData.HeadsWait.of_sameQueues d.heads (y := y.advance k.x.pc) hy).behind q f target
  obtain ⟨-, hyt, hye⟩ := hy
  simp only [Running.settle, Running.past, ht, hu, State.tile_setTile_same]
  rw [State.settleQueues_of_waiting]
  · exact (tileBecomes_setTile u t _).setTile _
  · simpa using hwait
  · rw [State.tile_setTile_same, TileData.behind_trapped]
    exact hyt.trans htrapped
  · rw [State.tile_setTile_same, TileData.behind_ending]
    exact hye.trans hending

/-- A mesh instruction that changes accumulators, the words of the store and the tile's counters moves the PC on and changes nothing
else. -/
theorem Dispatches.completes_mesh (d : Dispatches s t op x fl q k) {c : Instr} {f : Footprint} {keys : List Nat} {post : State → Prop}
    {dict : Map Val} (hc : exec c s = .next (s.issue t op x fl q body)) (hop : listedOpcode op = true)
    (hbody : body k = .ok { s.setTile t y with dict := dict } f) (hobj : ∀ j, j ∉ keys → Map.get (objDefault j) dict j = s.obj j)
    (hy : k.x.SameQueues y) (hloops : y.loops = k.x.loops)
    (hpost : ∀ v, v.dict = dict → (v.tile t).accum = y.accum → (v.tile t).store = y.store → post v) :
    Completes c s fun v => (ObjectsKept keys s v ∧ v.mem = s.mem ∧ (v.tile t).pc = (k.x.advance k.x.pc).pc ∧
      ∀ j, j ≠ t.val → v.tile j = s.tile j) ∧ post v := by
  obtain ⟨hself, hother, hkept⟩ := d.settle_ok (u := { s.setTile t y with dict := dict }) (s.tile_setTile_same t y) hy f
    (fl.target op x) k.codeWord
  obtain ⟨queues, issued, hbehind⟩ := (y.advance k.x.pc).behind_only q f (fl.target op x)
  rw [hbehind] at hself
  rw [← hbody, ← d.issue_eq hop] at hself hother hkept
  have hdict : (s.issue t op x fl q body).dict = dict := (congrArg State.dict hkept :)
  have hmem : (s.issue t op x fl q body).mem = s.mem := (congrArg State.mem hkept :)
  refine ⟨_, hc, ⟨fun j hj => ?_, hmem, ?_, fun j hj => ?_⟩, hpost _ hdict ?_ ?_⟩
  · rw [State.obj, hdict, hobj j hj]
  · rw [hself]
    exact congrArg (fun l => (afterPc k.x.pc l).1) hloops
  · exact (hother j hj).trans (s.tile_setTile_other y hj)
  · rw [hself]
    rfl
  · rw [hself]
    rfl

end Dispatched

/-! ### MLOAD -/

theorem strideOk_of {stride n : Nat} (h8 : stride % 8 = 0) (hn : n ≤ stride) : strideOk stride n = true := by
  simp [strideOk, h8, hn]

section Mesh

variable {s : State} {t : Tile} {x : TileWord} {k : Running}

/-- The operand that MLOAD makes resident: its format, and its columns as R128 stores them. -/
theorem mload_completes (d : Dispatches s t 0x40 x { a := .a, b := .s, imm := 0x0F000011 } (some 1) k) {n len : Nat}
    (hn : n = if immBit x 4 then meshK (immBits x 27 24) else 128)
    (hlen : len = if immBit x 4 then 256 else operandBytes (immBits x 27 24)) (hfmt : meshFormat (immBits x 27 24) = true)
    (htrans : immBit x 4 = true → immBits x 27 24 < 5) (h8 : k.sb % 8 = 0) (hstride : len ≤ k.sb)
    (hfree : k.x.interlocked 1 { reads := hull (rowSpans k.ta k.sb n len) } = false)
    (hfault : k.accessFault (rowSpans k.ta k.sb n len) [] = none) :
    Completes (.mload t x) s (TileBecomes s t (({ k.x with
      slots := Map.put none k.x.slots (immBits x 0 0) (some ⟨immBits x 27 24, k.x.columns (immBits x 27 24) (immBit x 4) k.ta k.sb⟩)
      }.advance k.x.pc).behind (some 1) { reads := hull (rowSpans k.ta k.sb n len) } 0)) := by
  subst hn hlen
  have hformat : (!meshFormat (immBits x 27 24) || (immBit x 4 && decide (5 ≤ immBits x 27 24))) = false := by
    cases hb : immBit x 4 with
    | false => simp [hfmt]
    | true => simp [hfmt, htrans hb]
  refine d.completes_done rfl (by decide) ?_ ⟨rfl, rfl, rfl⟩
  simp only [hformat, strideOk_of h8 hstride, Bool.not_true, Bool.false_eq_true, if_false]
  exact Running.access_ok hfree hfault

/-! ### MMA -/

/-- Row i of an MMA (R128): the dot products of row i of the first operand, added to the accumulator row where Acc is set. -/
def Machine.Running.mmaSum (k : Running) (operand : Resident) (set r0 : Nat) (acc : Bool) (i : Nat) : List Nat :=
  mmaRow operand.fmt (operand.columns.map (readOperand operand.fmt))
    (if acc then some (Map.get [] k.x.accum (accumKey set (r0 + i))) else none)
    (readOperand operand.fmt (k.x.read (k.ta + i * k.sb) (operandBytes operand.fmt)))

/-- One turn of MMA's loop over the rows, as `execMma` writes it: the tile, and the canonical NaNs counted so far. -/
def Machine.Running.mmaStep (k : Running) (operand : Resident) (set r0 : Nat) (acc : Bool) (a : TileData × Nat) (i : Nat) : TileData × Nat :=
  let key := accumKey set (r0 + i)
  let old := if acc then some (Map.get [] a.1.accum key) else none
  let row := mmaRow operand.fmt (operand.columns.map (readOperand operand.fmt)) old
    (readOperand operand.fmt (k.x.read (k.ta + i * k.sb) (operandBytes operand.fmt)))
  ({ a.1 with accum := Map.put [] a.1.accum key row }, a.2 + countNan row)

/-- After m turns the first m rows hold their sums, and the others what they held. -/
def Machine.Running.MmaDone (k : Running) (operand : Resident) (set r0 : Nat) (acc : Bool) (m : Nat) (a : TileData × Nat) : Prop :=
  ∃ accum n, a = ({ k.x with accum := accum }, n) ∧
    (∀ i < m, Map.get [] accum (accumKey set (r0 + i)) = k.mmaSum operand set r0 acc i) ∧
    ∀ i, m ≤ i → Map.get [] accum (accumKey set (r0 + i)) = Map.get [] k.x.accum (accumKey set (r0 + i))

theorem accumKey_inj {set r r' : Nat} (h : accumKey set r = accumKey set r') : r = r' := by
  unfold accumKey at h
  omega

/-- A row that is put leaves every other row of the set alone. -/
theorem get_put_accum_other (accum : Map (List Nat)) {set r0 i m : Nat} (hi : i ≠ m) (row : List Nat) :
    Map.get [] (Map.put [] accum (accumKey set (r0 + m)) row) (accumKey set (r0 + i)) = Map.get [] accum (accumKey set (r0 + i)) :=
  Map.get_put_other _ _ _ _ fun e => hi (Nat.add_left_cancel (accumKey_inj e))

theorem Machine.Running.MmaDone.step {k : Running} {operand : Resident} {set r0 m : Nat} {acc : Bool} {a : TileData × Nat}
    (h : k.MmaDone operand set r0 acc m a) : k.MmaDone operand set r0 acc (m + 1) (k.mmaStep operand set r0 acc a m) := by
  obtain ⟨accum, n, rfl, hdone, htodo⟩ := h
  refine ⟨_, _, rfl, fun i hi => ?_, fun i hi => ?_⟩
  · rcases Nat.lt_succ_iff_lt_or_eq.1 hi with hlt | rfl
    · exact (get_put_accum_other _ hlt.ne _).trans (hdone i hlt)
    · refine (Map.get_put_same ..).trans ?_
      dsimp only
      rw [htodo i le_rfl, Running.mmaSum]
  · exact (get_put_accum_other _ (by omega) _).trans (htodo i (by omega))

theorem Machine.Running.foldl_mmaStep (k : Running) (operand : Resident) (set r0 : Nat) (acc : Bool) (m : Nat) :
    k.MmaDone operand set r0 acc m ((List.range m).foldl (k.mmaStep operand set r0 acc) (k.x, 0)) :=
  foldl_range_keeps (k.MmaDone operand set r0 acc) ⟨_, _, rfl, fun _ hi => absurd hi (Nat.not_lt_zero _), fun _ _ => rfl⟩
    (fun _ _ h => h.step) m

theorem mma_completes (d : Dispatches s t 0x41 x { a := .a, b := .s, c := .s, imm := 0xFFF } (some 1) k) (hm : 0 < k.sc)
    (hrows : immBits x 11 3 + k.sc ≤ 512) {operand : Resident} (hslot : Map.get none k.x.slots (immBits x 0 0) = some operand)
    (h8 : k.sb % 8 = 0) (hstride : operandBytes operand.fmt ≤ k.sb)
    (hacc : immBit x 2 = true → ∀ i < k.sc, k.x.rowWritten (immBits x 1 1) (immBits x 11 3 + i) = true)
    (hfree : k.x.interlocked 1 { reads := hull (rowSpans k.ta k.sb k.sc (operandBytes operand.fmt)) } = false)
    (hfault : k.accessFault (rowSpans k.ta k.sb k.sc (operandBytes operand.fmt)) [] = none) :
    Completes (.mma t x) s fun u =>
      (ObjectsKept [Obj.tileMeshBusyCycles t, Obj.tileNanResults t] s u ∧ u.mem = s.mem ∧
        (u.tile t).pc = (k.x.advance k.x.pc).pc ∧ ∀ j, j ≠ t.val → u.tile j = s.tile j) ∧
      u.num (Obj.tileMeshBusyCycles t) = (s.num (Obj.tileMeshBusyCycles t) + k.sc) % 2 ^ 64 ∧
      ∀ i < k.sc, Map.get [] (u.tile t).accum (accumKey (immBits x 1 1) (immBits x 11 3 + i)) =
        k.mmaSum operand (immBits x 1 1) (immBits x 11 3) (immBit x 2) i := by
  obtain ⟨hs, ht, -, -⟩ := State.running_some d.runs
  obtain ⟨accum, nans, hfold, hdone, -⟩ := k.foldl_mmaStep operand (immBits x 1 1) (immBits x 11 3) (immBit x 2) k.sc
  have hwritten : (immBit x 2 && !(List.range k.sc).all fun i => k.x.rowWritten (immBits x 1 1) (immBits x 11 3 + i)) = false := by
    cases hb : immBit x 2 with
    | false => rfl
    | true => simpa using hacc hb
  have hkeys : Obj.tileMeshBusyCycles t ≠ Obj.tileNanResults t := linearUnit_ne (by decide)
  refine d.completes_mesh (y := { k.x with accum := accum })
    (dict := ((s.meshBusy t k.sc).bump 64 (Obj.tileNanResults t) nans).dict)
    (f := { reads := hull (rowSpans k.ta k.sb k.sc (operandBytes operand.fmt)) }) rfl (by decide) ?body ?objects ⟨rfl, rfl, rfl⟩ rfl
    ?post
  case body =>
    dsimp only
    rw [if_neg (by omega), hslot]
    simp only [strideOk_of h8 hstride, hwritten, Bool.not_true, Bool.false_eq_true, if_false]
    refine (Running.access_ok hfree hfault).trans (congrArg (fun z : TileData × Nat => Issue.ok
      (((k.set z.1).meshBusy k.t k.sc).bump 64 (Obj.tileNanResults t) z.2) _) hfold |>.trans ?_)
    rw [Running.set, hs, ht]
    rfl
  case objects =>
    intro j hj
    rw [List.mem_cons, List.mem_singleton, not_or] at hj
    exact (State.obj_bump_other _ _ _ hj.2).trans (State.obj_bump_other _ _ _ hj.1)
  case post =>
    intro v hdict haccum _
    refine ⟨?_, fun i hi => ?_⟩
    · rw [State.num, State.obj, hdict, ← State.obj, ← State.num]
      exact (State.num_setNum_other _ _ hkeys).trans (State.num_bump_same ..)
    · rw [haccum]
      exact hdone i hi

/-! ### MDRAIN -/

theorem Machine.drainRow_length (out : Nat) {row : List Nat} (h : row.length = 128) :
    (drainRow out row).1.length = if out = 0 then 512 else 256 := by
  unfold drainRow
  split <;> simp [packBytes, h]

/-- One turn of MDRAIN's loop over the rows, as `execMdrain` writes it: the tile, and the canonical NaNs counted so far. -/
def Machine.Running.drainStep (k : Running) (set r0 out : Nat) (clear : Bool) (a : TileData × Nat) (i : Nat) : TileData × Nat :=
  let key := accumKey set (r0 + i)
  let d := drainRow out (Map.get [] a.1.accum key)
  let w := a.1.write (k.ta + i * k.sb) d.1
  (if clear then { w with accum := Map.put [] w.accum key [] } else w, a.2 + d.2)

/-- A turn writes its row, and discards it where Clear is set. -/
theorem Machine.Running.drainStep_only (k : Running) (set r0 out : Nat) (clear : Bool) (y : TileData) (n i : Nat) :
    ∃ accum m, k.drainStep set r0 out clear (y, n) i = ({ y with
        store := y.store.writeBytes (k.ta + i * k.sb) (drainRow out (Map.get [] y.accum (accumKey set (r0 + i)))).1, accum := accum }, m) ∧
      ∀ j, j ≠ i → Map.get [] accum (accumKey set (r0 + j)) = Map.get [] y.accum (accumKey set (r0 + j)) := by
  cases clear with
  | false => exact ⟨_, _, rfl, fun _ _ => rfl⟩
  | true => exact ⟨_, _, rfl, fun j hj => get_put_accum_other _ hj _⟩

/-- After j turns the first j rows, of `len` bytes each, stand in the store, and the others in the accumulators. -/
def Machine.Running.DrainDone (k : Running) (y : TileData) (set r0 out len j : Nat) (a : TileData × Nat) : Prop :=
  ∃ accum store m, a = ({ y with accum := accum, store := store }, m) ∧
    (∀ i < j, store.readBytes (k.ta + i * k.sb) len = (drainRow out (Map.get [] y.accum (accumKey set (r0 + i)))).1) ∧
    ∀ i, j ≤ i → Map.get [] accum (accumKey set (r0 + i)) = Map.get [] y.accum (accumKey set (r0 + i))

theorem Machine.Running.DrainDone.step {k : Running} {y : TileData} {set r0 out len j : Nat} {a : TileData × Nat} (clear : Bool)
    (h : k.DrainDone y set r0 out len j a) (hlen : (drainRow out (Map.get [] y.accum (accumKey set (r0 + j)))).1.length = len)
    (hstride : len ≤ k.sb) : k.DrainDone y set r0 out len (j + 1) (k.drainStep set r0 out clear a j) := by
  obtain ⟨accum, store, m, rfl, hdone, htodo⟩ := h
  obtain ⟨accum', m', hstep, hother⟩ := k.drainStep_only set r0 out clear { y with accum := accum, store := store } m j
  refine ⟨_, _, _, hstep, fun i hi => ?_, fun i hi => (hother i (by omega)).trans (htodo i (by omega))⟩
  dsimp only
  rw [htodo j le_rfl]
  rcases Nat.lt_succ_iff_lt_or_eq.1 hi with hlt | rfl
  · have hbelow : i * k.sb + k.sb ≤ j * k.sb := by
      rw [← Nat.succ_mul]
      exact Nat.mul_le_mul_right _ hlt
    exact (Memory.readBytes_writeBytes_apart _ (.inl (by omega))).trans (hdone i hlt)
  · exact Memory.readBytes_writeBytes_same _ _ hlen

theorem Machine.Running.foldl_drainStep (k : Running) (y : TileData) (set r0 out : Nat) (clear : Bool) {n len : Nat}
    (hlen : ∀ i < n, (drainRow out (Map.get [] y.accum (accumKey set (r0 + i)))).1.length = len) (hstride : len ≤ k.sb) :
    k.DrainDone y set r0 out len n ((List.range n).foldl (k.drainStep set r0 out clear) (y, 0)) := by
  refine foldl_range_keeps (fun j a => j ≤ n → k.DrainDone y set r0 out len j a)
    (fun _ => ⟨_, _, _, rfl, fun _ hi => absurd hi (Nat.not_lt_zero _), fun _ _ => rfl⟩) (fun j a h hj => ?_) n le_rfl
  exact (h (by omega)).step clear (hlen j (by omega)) hstride

theorem mdrain_completes (d : Dispatches s t 0x42 x { a := .a, b := .s, c := .s, imm := 0x1FFF } (some 1) k) {len : Nat}
    (hlen : len = if immBits x 11 10 = 0 then 512 else 256) (hout : immBits x 11 10 ≠ 3) (hn : 0 < k.sc)
    (hrows : immBits x 9 1 + k.sc ≤ 512) (h8 : k.sb % 8 = 0) (hstride : len ≤ k.sb) (hbase : k.ta % 8 = 0)
    (hrow : ∀ i < k.sc, (Map.get [] k.x.accum (accumKey (immBits x 0 0) (immBits x 9 1 + i))).length = 128)
    (hfree : k.x.interlocked 1 { writes := hull (rowSpans k.ta k.sb k.sc len) } = false)
    (hfault : k.accessFault [] (rowSpans k.ta k.sb k.sc len) = none) :
    Completes (.mdrain t x) s fun u =>
      (ObjectsKept [Obj.tileMeshBusyCycles t, Obj.tileNanResults t] s u ∧ u.mem = s.mem ∧
        (u.tile t).pc = (k.x.advance k.x.pc).pc ∧ ∀ j, j ≠ t.val → u.tile j = s.tile j) ∧
      ∀ i < k.sc, (u.tile t).read (k.ta + i * k.sb) len =
        (drainRow (immBits x 11 10) (Map.get [] k.x.accum (accumKey (immBits x 0 0) (immBits x 9 1 + i)))).1 := by
  obtain ⟨hs, ht, -, -⟩ := State.running_some d.runs
  obtain ⟨words, hdefine⟩ := k.x.foldl_define_only (rowSpans k.ta k.sb k.sc len)
  obtain ⟨accum, store, nans, hfold, hdone, -⟩ := k.foldl_drainStep { k.x with defined := words } (immBits x 0 0) (immBits x 9 1)
    (immBits x 11 10) (immBit x 12) (fun i hi => (drainRow_length _ (hrow i hi)).trans hlen.symm) hstride
  have hwritten : ((List.range k.sc).all fun i => k.x.rowWritten (immBits x 0 0) (immBits x 9 1 + i)) = true := by
    have hne (i : Nat) (hi : i < k.sc) : Map.get [] k.x.accum (accumKey (immBits x 0 0) (immBits x 9 1 + i)) ≠ [] :=
      List.ne_nil_of_length_pos (by rw [hrow i hi]; decide)
    simpa [TileData.rowWritten] using hne
  have hrange : ¬ (k.sc = 0 ∨ 512 < k.sc ∨ 512 < immBits x 9 1 + k.sc ∨ (!strideOk k.sb len) = true) := by
    simp only [strideOk_of h8 hstride, Bool.not_true, Bool.false_eq_true, or_false]
    omega
  refine d.completes_mesh (y := { k.x with defined := words, accum := accum, store := store })
    (dict := (s.bump 64 (Obj.tileNanResults t) nans).dict) (f := { writes := hull (rowSpans k.ta k.sb k.sc len) }) rfl (by decide)
    ?body ?objects ⟨rfl, rfl, rfl⟩ rfl ?post
  case body =>
    dsimp only
    rw [← hlen, if_neg hout, if_neg hrange, hwritten, if_neg (by decide), if_neg (not_not.2 hbase)]
    refine (Running.access_ok hfree hfault).trans ?_
    rw [hdefine]
    refine (congrArg (fun z : TileData × Nat => Issue.ok ((k.set z.1).bump 64 (Obj.tileNanResults t) z.2) _) hfold).trans ?_
    rw [Running.set, hs, ht]
    rfl
  case objects =>
    intro j hj
    rw [List.mem_cons, List.mem_singleton, not_or] at hj
    exact State.obj_bump_other _ _ _ hj.2
  case post =>
    intro v _ _ hstore i hi
    rw [TileData.read, hstore]
    exact hdone i hi

end Mesh

/-! ### The obligation -/

/-- Settles O22, instruction by instruction: MMA and MDRAIN go through their rows one by one, each row with a key and bytes of its own. -/
theorem meshAndAccumulators : Obligations.MeshAndAccumulators := by
  unfold Obligations.MeshAndAccumulators
  intro t x s k
  refine ⟨fun d hfmt htrans h8 hstride hfree hfault => ?mload, fun d hm hrows operand hslot h8 hstride hacc hfree hfault => ?mma,
    fun d hout hn hrows h8 hstride hbase hrow hfree hfault => ?mdrain⟩
  case mload => exact mload_completes d rfl rfl hfmt htrans h8 hstride hfree hfault
  case mma => exact mma_completes d hm hrows hslot h8 hstride hacc hfree hfault
  case mdrain => exact mdrain_completes d rfl hout hn hrows h8 hstride hbase hrow hfree hfault

end Sys2Proof

namespace Sys2Proof

open Sys2Proof.Machine

/-! ## Tile exceptions and dispatch (R101, R110, R114, R134–R136)

### A hoop that has faulted stays Faulted (R27, R453)

A hoop fault ends the operations of the hoop's groups, and their records, replays and freed buffers may fault further hoops. None of this
takes a hoop out of Faulted: beside HoopState, which only a further fault writes, the functions write the objects of `calmTables`. One
lemma for each function of the model, in the model's order. -/

/-- The objects of `endTables` but HoopState. -/
def calmTables : List ObjTable := endTables.filter (· ≠ ⟨0x2100, 0x01, 16, false⟩)

/-- The hoops that are Faulted in `s` are so in `t`. -/
def StaysFaulted (s t : State) : Prop := ∀ i, s.num (Obj.hoopState i) = 6 → t.num (Obj.hoopState i) = 6

namespace StaysFaulted

section Shape

variable {s t u : State} {l : List ObjTable}

protected theorem rfl : StaysFaulted s s := fun _ => id

theorem trans (h : StaysFaulted s t) (h' : StaysFaulted t u) : StaysFaulted s u := fun i hi => h' i (h i hi)

/-- What writes no object. -/
theorem keep {pending mem out freeCtr control events boot security meter line time work pools tiles fabric memory optics net power}
    (h : StaysFaulted s t) : StaysFaulted s ⟨pending, t.dict, mem, out, freeCtr, control, events,
      boot, security, meter, line, time, work, pools, tiles, fabric, memory, optics, net, power⟩ := h

theorem writes (h : StaysFaulted s t) (h' : WritesIn l t u) (hl : l ⊆ calmTables) : StaysFaulted s u := fun i hi =>
  ((h'.mono hl).linear (by decide)).trans (h i hi)

theorem setNum (h : StaysFaulted s t) {k : Nat} (hk : Written calmTables k) (n : Nat) : StaysFaulted s (t.setNum k n) :=
  h.writes (WritesIn.rfl.set hk _) (List.Subset.refl _)

theorem settled (h : StaysFaulted s t) (h' : Settled l t u) (hl : l ⊆ calmTables) : StaysFaulted s u := h.writes h'.objs hl

theorem reserves (h : StaysFaulted s t) (h' : Reserves t u) : StaysFaulted s u := h.writes h'.objs (by decide)

theorem posted (h : StaysFaulted s t) (h' : Posted t u) : StaysFaulted s u := h.writes h'.objs (by decide)

theorem ite {c : Prop} [Decidable c] {u v : State} (hu : StaysFaulted s u) (hv : StaysFaulted s v) :
    StaysFaulted s (if c then u else v) := by
  split
  · exact hu
  · exact hv

theorem each {α : Type} (h : StaysFaulted s t) (xs : List α) {f : State → α → State}
    (hf : ∀ u x, StaysFaulted s u → StaysFaulted s (f u x)) : StaysFaulted s (t.each xs f) :=
  State.each_keeps _ f hf xs t h

end Shape

variable {s t : State} {h c k g w i gen q status step handle cause unit : Nat} {o : Operation} {keep : Bool} {r : Retained}

theorem raise (hs : StaysFaulted s t) (code : Nat) (a : EventArgs) : StaysFaulted s (t.raise code a) :=
  hs.settled (Settled.rfl.raise_in (List.Subset.refl _) code a) (by decide)

theorem noteBadLines {lines : List Nat} (hs : StaysFaulted s t) : StaysFaulted s (t.noteBadLines lines) :=
  hs.settled (Settled.rfl.noteBadLines_in (List.Subset.refl _)) (by decide)

theorem emitTo {vc address opSequence epochTag : Nat} {tail payload : Bytes} {operation : Option (Nat × Nat × Nat)}
    {ticket : Option EmitTicket} (hs : StaysFaulted s t) :
    StaysFaulted s (t.emitTo h vc address opSequence epochTag tail payload operation ticket) :=
  hs.settled (Settled.rfl.emitTo (l := [])) (List.nil_subset _)

theorem writeRecord {d : Bytes} {type flags place done : Nat} {chunk : Option Nat} (hs : StaysFaulted s t) :
    StaysFaulted s (t.writeRecord g d type flags status chunk place done) := hs.posted (Posted.rfl.writeRecord ..)

/-! ### Buffers -/

theorem endEpisode (hs : StaysFaulted s t) : StaysFaulted s (t.endEpisode h k) :=
  have hw : StaysFaulted s (t.countWaiting h k) := hs.setNum (.linear (by decide)) _
  ite (hw.keep) hw

theorem dropWaiting {p : PoolRequest → Bool} (hs : StaysFaulted s t) : StaysFaulted s (t.dropWaiting p) :=
  StaysFaulted.each (hs.keep) _ fun _ _ hu => hu.endEpisode.reserves ((Reserves.rfl.trim _ _).countPools _)

theorem refuseFree {holder : Option Nat} (hs : StaysFaulted s t) : StaysFaulted s (t.refuseFree h handle holder) := by
  unfold State.refuseFree
  extract_lets frame die s1
  have h1 : StaysFaulted s s1 := (hs.setNum (.single (by decide)) _).raise _ _
  split
  · exact h1.keep
  · exact h1

theorem freeHandle {u : State} (hs : StaysFaulted s t) (e : t.freeHandle h handle = .freed u) : StaysFaulted s u := by
  unfold State.freeHandle at e
  split at e
  · nomatch e
  · dsimp only at e
    split at e
    · nomatch e
    · cases e
      exact (hs.keep).reserves ((Reserves.rfl.trim _ _).countPools _)

theorem freeEach {handles : List Nat} (hs : StaysFaulted s t) : StaysFaulted s (t.freeEach h handles) := by
  refine hs.each _ fun u y hu => ?_
  split
  next e => exact hu.freeHandle e
  · exact hu.refuseFree

theorem keepFor {m : Option Nat} {handles : List Nat} (hs : StaysFaulted s t) : StaysFaulted s (t.keepFor m handles) := by
  refine hs.each _ fun u y hu => ?_
  split
  · exact hu
  · split
    · exact hu
    · exact hu.keep

theorem letGo {handles : List Nat} {m : Option Nat} (hs : StaysFaulted s t) : StaysFaulted s (t.letGo h m handles) :=
  ite hs.keepFor hs.freeEach

/-! ### Operations that end -/

theorem endLanding {m : Option Nat} (hs : StaysFaulted s t) : StaysFaulted s (t.endLanding h w gen i m) := letGo (hs.keep)

theorem leaveTile {x : Nat × Nat × Nat} (hs : StaysFaulted s t) : StaysFaulted s (t.leaveTile i x) :=
  ite ((hs.keep : StaysFaulted s (t.setTile i _)).setNum (.linear (by decide)) _) (hs.keep)

theorem dropEmits {seq : Nat} (hs : StaysFaulted s t) : StaysFaulted s (t.dropEmits g seq) :=
  hs.each _ fun _ _ hu => ite (hu.keep) hu

theorem endHoldings (hs : StaysFaulted s t) : StaysFaulted s (t.endHoldings g o keep) := by
  unfold State.endHoldings
  extract_lets hoop window mine s1 work2 s2 gens s3 streams xs work4 s4 s5 waits s6 s7 y
  have h1 : StaysFaulted s s1 := hs.each _ fun _ _ hu => hu.leaveTile
  have h2 : StaysFaulted s s2 := h1.keep
  have h3 : StaysFaulted s s3 := h2.each _ fun _ _ hu => hu.endLanding
  have h6 : StaysFaulted s s6 := (letGo (h3.keep : StaysFaulted s s4)).dropWaiting.dropEmits
  exact h6.keep

theorem endOpWith (hs : StaysFaulted s t) : StaysFaulted s (t.endOpWith keep g o status) :=
  have h1 : StaysFaulted s (t.setOp g { o with ending := some status, phase := 2 }) := hs.keep
  ite h1 (h1.endHoldings.each _ fun _ _ hu => ite hu (hu.keep))

theorem settleMatch (hs : StaysFaulted s t) : StaysFaulted s (t.settleMatch h step) := by
  unfold State.settleMatch
  extract_lets y mine left key u net s1 s2
  have h2 : StaysFaulted s s2 := (hs.keep : StaysFaulted s s1).setNum (.linear (by decide)) _
  exact ite hs (ite ((h2.setNum (.linear (by decide)) _).raise _ _) h2)

theorem retain (hs : StaysFaulted s t) : StaysFaulted s (t.retain g o) := ite hs (hs.keep)

theorem runAgain {side redo : Nat} (hs : StaysFaulted s t) : StaysFaulted s (t.runAgain r side redo) := ite hs (hs.keep)

theorem abortOps (hs : StaysFaulted s t) : StaysFaulted s (t.abortOps g status keep) := by
  unfold State.abortOps
  extract_lets s1 y s2
  have h1 : StaysFaulted s s1 := hs.each _ fun _ _ hu => hu.endHoldings
  exact (h1.keep : StaysFaulted s s2).each _ fun _ _ hu => hu.endOpWith

theorem forgetEvacuation (hs : StaysFaulted s t) : StaysFaulted s (t.forgetEvacuation h) := ite (hs.keep) hs

/-- What a fault does once the hoop is Faulted. -/
theorem stopWork (hs : StaysFaulted s t) (groups : List Nat) (p : PoolRequest → Bool) :
    StaysFaulted s (((t.each groups fun t g => t.abortOps g St.aborted true).dropWaiting p).forgetEvacuation h) :=
  (dropWaiting (hs.each _ fun _ _ hu => hu.abortOps)).forgetEvacuation

theorem enterFault (hs : StaysFaulted s t) : StaysFaulted s (t.enterFault h cause unit) := by
  unfold State.enterFault
  extract_lets st s1 s2 s3
  have h1 : StaysFaulted s s1 := hs.raise _ _
  have h6 : StaysFaulted s (s1.setNum (Obj.hoopState h) 6) := fun j hj => by
    by_cases e : Obj.hoopState j = Obj.hoopState h
    · rw [e]
      exact State.num_setNum_same ..
    · exact (State.num_setNum_other _ _ e).trans (h1 j hj)
  have h2 : StaysFaulted s s2 := (h6.setNum (.linear (by decide)) _).setNum (.linear (by decide)) _
  exact ite hs (ite h1 (h2.stopWork _ _))

theorem resendStreams {sites : Nat} (hs : StaysFaulted s t) : StaysFaulted s (t.resendStreams h g o sites) := by
  unfold State.resendStreams
  dsimp only
  split
  · exact hs
  · exact hs.each _ fun _ _ hu => ite hu (ite hu.noteBadLines.enterFault
      (hu.each _ fun _ _ hv => hv.each _ fun _ _ hw => hw.emitTo))

theorem replay {x : Reconcile} (hs : StaysFaulted s t) : StaysFaulted s (t.replay h x r) :=
  ite hs.resendStreams (ite hs.resendStreams hs.resendStreams.runAgain)

theorem joinReplay (hs : StaysFaulted s t) : StaysFaulted s (t.joinReplay h g o) := by
  unfold State.joinReplay
  split
  · exact ite hs.replay hs
  · exact hs

theorem freeContext (hs : StaysFaulted s t) : StaysFaulted s (t.freeContext g o) :=
  (((hs.keep : StaysFaulted s (t.setGroup g _)).setNum (.single (by decide)) _).setNum (.linear (by decide)) _).setNum (.packed (by decide)) _

theorem advanceStep (hs : StaysFaulted s t) : StaysFaulted s (t.advanceStep g o) := by
  have h1 : StaysFaulted s ((t.bump 32 (Obj.outerStepCounter (t.hoopOfGroup g)) 1).settleMatch (t.hoopOfGroup g) o.step) :=
    (hs.setNum (.linear (by decide)) _).settleMatch
  exact ite (ite (h1.raise _ _) h1) hs

theorem markBroken (hs : StaysFaulted s t) : StaysFaulted s (t.markBroken g) :=
  ite ((hs.setNum (.packed (by decide)) _).raise _ _) hs

theorem settleOps {n : Nat} (hs : StaysFaulted s t) : StaysFaulted s (State.settleOps n t g) := by
  induction n generalizing t with
  | zero => exact hs
  | succ n ih =>
    unfold State.settleOps
    split
    · exact hs
    · split
      · exact hs
      · split
        · exact ih (markBroken (endOpWith hs))
        · extract_lets place s1 s2 s3 s4
          have h1 : StaysFaulted s s1 := hs.writeRecord
          have h3 : StaysFaulted s s3 := (ite h1.retain h1 : StaysFaulted s s2).freeContext
          have h4 : StaysFaulted s s4 := ite h3.endHoldings.advanceStep.joinReplay h3
          exact ih h4

theorem endRedo (hs : StaysFaulted s t) : StaysFaulted s (t.endRedo g o) := by
  unfold State.endRedo
  extract_lets status chunks s1 s2 s3 y s4
  have h1 : StaysFaulted s s1 := hs.writeRecord
  have h3 : StaysFaulted s s3 := (ite h1.retain h1 : StaysFaulted s s2).endHoldings
  clear_value s3
  have h4 : StaysFaulted s s4 := h3.keep
  exact ite h4.advanceStep h4

theorem settleRecords (hs : StaysFaulted s t) : StaysFaulted s (t.settleRecords g) :=
  hs.settleOps.each _ fun _ _ hu => hu.endRedo

theorem settleFault (hs : StaysFaulted s t) : StaysFaulted s (t.settleFault h) :=
  ite (hs.each _ fun _ _ hu => hu.settleRecords) hs

theorem faultHoop (hs : StaysFaulted s t) : StaysFaulted s (t.faultHoop h cause unit) :=
  ite hs.enterFault hs.enterFault.settleFault

theorem settleFrees {n : Nat} (hs : StaysFaulted s t) : StaysFaulted s (State.settleFrees n t) := by
  induction n generalizing t with
  | zero => exact hs
  | succ n ih =>
    unfold State.settleFrees
    split
    · exact hs
    · exact ih (StaysFaulted.each (hs.keep) _ fun _ _ hu => hu.faultHoop)

end StaysFaulted

/-- A hoop with a reservation that faults is Faulted (R27, R453). -/
theorem Machine.State.enterFault_faults {s : State} {h : Nat} (hs : s.num (Obj.hoopState h) ≠ 0) (cause unit : Nat) :
    (s.enterFault h cause unit).num (Obj.hoopState h) = 6 := by
  unfold State.enterFault
  extract_lets st s1 s2 s3
  rw [if_neg hs]
  split
  next h6 => exact StaysFaulted.rfl.raise _ _ h h6
  next =>
    have hset : (s1.setNum (Obj.hoopState h) 6).num (Obj.hoopState h) = 6 := State.num_setNum_same ..
    exact ((StaysFaulted.rfl.setNum (.linear (by decide)) _).setNum (.linear (by decide)) _).stopWork _ _ h hset

theorem Machine.State.hoopFault_faults {s : State} {h : Nat} (hs : s.num (Obj.hoopState h) ≠ 0) (cause unit : Nat) :
    (s.hoopFault h cause unit).num (Obj.hoopState h) = 6 := by
  have hfault := State.enterFault_faults hs cause unit
  refine StaysFaulted.rfl.settleFrees h ?_
  unfold State.faultHoop
  dsimp only
  split
  · exact hfault
  · exact StaysFaulted.rfl.settleFault h hfault

/-! ### An exception (R134–R136) -/

/-- The objects that show a tile's last exception are none of an event's or a hoop fault's. -/
theorem exception_settled {s t : State} (h : Settled endTables s t) (i : Nat) :
    t.num (Obj.tileExceptionCode i) = s.num (Obj.tileExceptionCode i) ∧ t.num (Obj.tileExceptionPc i) = s.num (Obj.tileExceptionPc i) ∧
      t.num (Obj.tileExceptionWord i) = s.num (Obj.tileExceptionWord i) :=
  ⟨h.objs.linear (by decide), h.objs.linear (by decide), h.objs.linear (by decide)⟩

/-- An exception is recorded with PC and word, and the chunk's hoop faults. -/
theorem Machine.Running.raise_records (k : Running) {s : State} (hh : s.num (Obj.hoopState k.h) ≠ 0) (code pc word : Nat) :
    (k.raise s code pc word).num (Obj.tileExceptionCode k.t) = code ∧ (k.raise s code pc word).num (Obj.tileExceptionPc k.t) = pc ∧
      (k.raise s code pc word).num (Obj.tileExceptionWord k.t) = word ∧ (k.raise s code pc word).num (Obj.hoopState k.h) = 6 := by
  unfold Running.raise
  extract_lets s1
  obtain ⟨hcode, hpc, hword⟩ := exception_settled (s := s1) (((Settled.rfl.raise Ev.imageException
    { hoop := k.h, die := 1 + k.t / 6, unit := k.t, detail := code }).faultHoop (x := k.h) (cause := 5) (unit := k.t)).checkFrees) k.t
  refine ⟨hcode.trans ?_, hpc.trans ?_, hword.trans (State.num_setNum_same ..), State.hoopFault_faults ?_ _ _⟩
  · exact (State.num_setNum_other _ _ (linearUnit_ne (by decide))).trans
      ((State.num_setNum_other _ _ (linearUnit_ne (by decide))).trans (State.num_setNum_same ..))
  · exact (State.num_setNum_other _ _ (linearUnit_ne (by decide))).trans (State.num_setNum_same ..)
  · have hcalm : WritesIn [⟨0x4100, 0x0E, 48, false⟩, ⟨0x4100, 0x0F, 48, false⟩, ⟨0x4100, 0x10, 48, false⟩] s s1 :=
      ((WritesIn.rfl.set (.linear (by decide)) _).set (.linear (by decide)) _).set (.linear (by decide)) _
    have hevent : WritesIn eventTables s1 _ := (Settled.rfl.raise_in (List.Subset.refl _) Ev.imageException
      { hoop := k.h, die := 1 + k.t / 6, unit := k.t, detail := code }).objs
    have hkept : _ = s.num (Obj.hoopState k.h) := (hevent.linear (by decide)).trans (hcalm.linear (by decide))
    exact hkept ▸ hh

/-- An exception at dispatch on a tile whose queues are empty is taken at once (R135). -/
theorem Machine.Running.trap_idle {k : Running} {s : State} (hidle : (s.tile k.t).idle = true) (code pc word : Nat) :
    k.trap s code pc word = k.raise s code pc word := by
  simp [Running.trap, hidle]

/-! ### What stands against a dispatch (R110, R116, R120, R136) -/

section Issue

variable {s : State} {t : Tile} {x : TileWord} {k : Running} {op : Nat} {f : Fields} {q : Option Nat} {body : Running → Issue}

theorem Machine.State.issue_none (h : s.running t x = none) : s.issue t op x f q body = s := by
  unfold State.issue
  rw [h]

/-- The checks of a dispatch in their order. -/
theorem Machine.State.issue_some (h : s.running t x = some k) : s.issue t op x f q body =
    if k.x.fenced ∨ k.x.ending ∨ k.x.trapped.isSome then s
    else if codeCount k.x.image ≤ k.x.pc then k.trap s.tookFree Ex.fetch k.x.pc (s.freeNat 64)
    else if !listedOpcode (wordOpcode k.codeWord) then k.trap s Ex.illegal k.x.pc k.codeWord
    else if k.codeWord ≠ tileWord op x then s
    else if q.any fun n => decide (16 ≤ (k.x.queue n).length) then s.stall t
    else if !f.ok x then k.trap s Ex.illegal k.x.pc k.codeWord
    else if k.x.awaits (f.sources op x) then s.stall t
    else k.settle q (f.target op x) k.codeWord (body k) := by
  unfold State.issue
  rw [h]

/-- Dispatch that is withheld counts a cycle, marks the tile and changes nothing else (R136). -/
theorem Machine.State.stall_counts (s : State) (t : Nat) :
    TileBecomes s t { s.tile t with withheld := true } { s.stall t with dict := s.dict } ∧
      ObjectsKept [Obj.tileIssueStalls t] s (s.stall t) ∧
      (s.stall t).num (Obj.tileIssueStalls t) = (s.num (Obj.tileIssueStalls t) + 1) % 2 ^ 64 :=
  ⟨tileBecomes_setTile s t _, fun _ hj => State.obj_bump_other _ _ _ (by simpa using hj), State.num_bump_same ..⟩

/-- A running chunk's exception at dispatch, with the queues empty: recorded on its tile, with a hoop fault. -/
theorem Machine.Running.trap_records (h : s.running t x = some k) {u : State} (htiles : u.tiles = s.tiles) (hdict : u.dict = s.dict)
    (hidle : k.x.idle = true) (hh : s.num (Obj.hoopState k.h) ≠ 0) (code pc word : Nat) :
    (k.trap u code pc word).num (Obj.tileExceptionCode t) = code ∧ (k.trap u code pc word).num (Obj.tileExceptionPc t) = pc ∧
      (k.trap u code pc word).num (Obj.tileExceptionWord t) = word ∧ (k.trap u code pc word).num (Obj.hoopState k.h) = 6 := by
  obtain ⟨-, ht, -, hx⟩ := State.running_some h
  have htile : (u.tile k.t).idle = true := by
    rw [State.tile, htiles, ht, ← State.tile, ← hx]
    exact hidle
  rw [Running.trap_idle htile, ← ht]
  refine k.raise_records ?_ _ _ _
  rw [State.num, State.obj, hdict]
  exact hh

/-- TRAP (R120): the exception is taken at once, or waits for the queues. -/
theorem trap_completes (d : Dispatches s t 0x09 x { imm := 0xFFFF } none k) :
    (k.x.idle = true → s.num (Obj.hoopState k.h) ≠ 0 → Completes (.trap t x) s fun u => u.num (Obj.tileExceptionCode t) = 0x0F ∧
      u.num (Obj.tileExceptionPc t) = k.x.pc ∧ u.num (Obj.tileExceptionWord t) = tileWord 0x09 x ∧
      u.num (Obj.hoopState k.h) = 6) ∧
    (k.x.idle = false →
      Completes (.trap t x) s (TileBecomes s t { k.x with trapped := some (0x0F, k.x.pc, tileWord 0x09 x) })) := by
  obtain ⟨hs, ht, -, hx⟩ := State.running_some d.runs
  have hexec : exec (.trap t x) s = .next (k.trap s Ex.trap k.x.pc (tileWord 0x09 x)) := by
    have hissue := d.issue_eq (body := fun _ => .raise Ex.trap) (by decide)
    rw [d.fetched] at hissue
    change Host.Outcome.next (s.issue t 0x09 x { imm := 0xFFFF } none fun _ => .raise Ex.trap) = _
    rw [hissue, Running.settle, hs]
  refine ⟨fun hidle hh => ⟨_, hexec, k.trap_records d.runs rfl rfl hidle hh _ _ _⟩, fun hbusy => ⟨_, hexec, ?_⟩⟩
  unfold Running.trap
  dsimp only
  rw [ht, ← hx, if_neg (by simp [hbusy])]
  exact tileBecomes_setTile s t _

/-- A deadlock (R114) is an exception with the word at the PC. -/
theorem deadlock_completes (h : s.running t {} = some k) (hstuck : k.x.stuck = true) (hpaced : k.x.paced = true)
    (hinside : ∀ q ∈ k.x.queues, ∀ j ∈ q.2, j.op.outside = false) (hh : s.num (Obj.hoopState k.h) ≠ 0) :
    Completes (.deadlockTimeout t) s fun u => u.num (Obj.tileExceptionCode t) = 0x0C ∧ u.num (Obj.tileExceptionPc t) = k.x.pc ∧
      u.num (Obj.tileExceptionWord t) = k.codeWord ∧ u.num (Obj.hoopState k.h) = 6 := by
  obtain ⟨-, ht, -, -⟩ := State.running_some h
  have hwaits : (k.x.queues.any fun q => q.2.any fun j => j.op.outside) = false := by simpa using hinside
  have hexec : exec (.deadlockTimeout t) s = .next (k.raise s Ex.deadlock k.x.pc k.codeWord) := by
    change execDeadlockTimeout t s = _
    unfold execDeadlockTimeout
    rw [h]
    simp [hstuck, hpaced, hwaits]
  refine ⟨_, hexec, ?_⟩
  rw [← ht]
  exact k.raise_records hh _ _ _

theorem deadlock_ignored (h : s.running t {} = some k) (hstuck : k.x.stuck = false) : exec (.deadlockTimeout t) s = .next s := by
  change execDeadlockTimeout t s = _
  unfold execDeadlockTimeout
  rw [h]
  simp [hstuck]

end Issue

/-! ### The obligation -/

/-- Settles O20: the checks of a dispatch decide in their order (`State.issue_some`), and an exception that is taken leaves its record and
a Faulted hoop (`Running.raise_records`). -/
theorem tileExceptionsFaultTheHoop : Obligations.TileExceptionsFaultTheHoop := by
  unfold Obligations.TileExceptionsFaultTheHoop
  refine ⟨fun t x s k d => trap_completes d, fun t x s k op f q body h => ?checks, fun t x s op f q body h => State.issue_none h,
    fun t s k h hstuck hpaced hinside hh => deadlock_completes h hstuck hpaced hinside hh, fun t s k h => deadlock_ignored h⟩
  case checks =>
    obtain ⟨-, -, -, hx⟩ := State.running_some h
    have hcounts := s.stall_counts t
    rw [← hx] at hcounts
    intro u waits full inside listed takes counts
    have hu : u = _ := State.issue_some h
    refine ⟨fun hw => ?waits, fun hw hi => ?atEnd, fun hw hi hl => ?unlisted, fun hw hi hl hc => ?otherWord,
      fun hw hi hl hc hf => ?full, fun hw hi hl hc hf hok => ?fields, fun hw hi hl hc hf hok ha => ?awaits⟩
    case waits => rw [hu, if_pos hw]
    case atEnd =>
      rw [if_neg hw, if_pos (not_lt.1 hi)] at hu
      intro hidle hh
      obtain ⟨hcode, hpc, -, hhoop⟩ := k.trap_records h (u := s.tookFree) rfl rfl hidle hh Ex.fetch k.x.pc (s.freeNat 64)
      rw [hu]
      exact ⟨hcode, hpc, hhoop⟩
    all_goals rw [if_neg hw, if_neg (not_le.2 hi)] at hu
    case unlisted =>
      rw [if_pos (by simpa [listed] using hl)] at hu
      have hrec (hidle : k.x.idle = true) (hh : s.num (Obj.hoopState k.h) ≠ 0) :=
        k.trap_records h (u := s) rfl rfl hidle hh Ex.illegal k.x.pc k.codeWord
      rw [← hu] at hrec
      refine ⟨fun hidle hh => ?_, fun hidle hh => ?_⟩
      · obtain ⟨hcode, hpc, -, hhoop⟩ := hrec hidle hh
        exact ⟨hcode, hpc, hhoop⟩
      · obtain ⟨-, -, hword, -⟩ := hrec hidle hh
        exact hword
    all_goals rw [if_neg (by simpa [listed] using hl)] at hu
    case otherWord => rw [hu, if_pos hc]
    all_goals rw [if_neg (not_not.2 hc)] at hu
    case full =>
      obtain ⟨n, rfl, hn⟩ := hf
      rw [if_pos (by simpa using hn)] at hu
      rw [← hu] at hcounts
      exact hcounts
    all_goals
      have hroom : ¬ (q.any fun n => decide (16 ≤ (k.x.queue n).length)) = true := fun hq => by
        obtain ⟨n, hn, hle⟩ := (Option.any_eq_true _ _).1 hq
        exact hf ⟨n, hn, of_decide_eq_true hle⟩
      rw [if_neg hroom] at hu
    case fields =>
      rw [if_pos (by simp [hok])] at hu
      intro hidle hh
      obtain ⟨hcode, hpc, -, hhoop⟩ := k.trap_records h (u := s) rfl rfl hidle hh Ex.illegal k.x.pc k.codeWord
      rw [hu]
      exact ⟨hcode, hpc, hhoop⟩
    case awaits =>
      rw [if_neg (by simp [hok]), if_pos ha] at hu
      rw [← hu] at hcounts
      exact hcounts

end Sys2Proof

namespace Sys2Proof

open Sys2Proof.Machine

/-! ## The next chunk is bound (R94, R125)

The exchange data of a chunk leaves its buffers when the chunk is bound (R125). The model looks for a frame of another hoop among all of the
buffers before it frees the first (R202); the statement's `FreesWell` runs the frees one after the other. Where the table of held frames
lists a frame twice, the free of a buffer in it removes both entries, and a later buffer is found where the check did not look. No
`setFrame` makes such a table of one without; the statement does not ask for one entry a frame. -/

/-- CHUNK_BIND of a chunk that has a tile with a free zone. -/
theorem chunkBind_binds {h : Hoop} {s : State} {g i tile zone : Nat} {o : Operation} (hnext : s.nextBinding h = some (g, o, i))
    (htile : s.chooseTile (s.hoopOfGroup g) = some tile) (hzone : (s.tile tile).freeZone = some zone) :
    exec (.chunkBind h) s = .next (s.bindTo g o i tile zone) := by
  change execChunkBind h s = _
  simp only [execChunkBind, hnext, State.bindChunk, htile, hzone]

/-- An operation of plan entry 1 that has begun. -/
def twiceListedOperation : Operation :=
  { seq := 0, epoch := 0, desc := List.replicate 14 0 ++ [1], order := 0, phase := 1, source := 0, generation := 0, done := [], step := 0 }

/-- Frame 5 listed twice, for hoop 0 and for hoop 1, and logical frame 2 in two frames, of hoop 1 and of hoop 0. -/
def twiceListedPools : PoolState :=
  { frames := [
      (5, some { hoop := 0, cls := 0, place := 0, logical := 1, used := [(0, some { owner := 0 })] }),
      (5, some { hoop := 1, cls := 0, place := 0, logical := 2, used := [(0, some { owner := 0 })] }),
      (7, some { hoop := 0, cls := 0, place := 1, logical := 2, used := [(0, some { owner := 0 })] })] }

/-- Hoop 0 runs that operation in group 0, by a plan of one entry of one chunk; its chunk waits to be bound, with exchange data in a buffer
of logical frame 1 and in one of logical frame 2; tile 0 is Idle. -/
def twiceListedState : State :=
  { (((State.reset.setNum (Obj.hoopState 0) 2).setNum (Obj.groupState 0) 1).setNum (Obj.tileState 0) 1).setNum (Obj.tileOwner 0) 0 with
    work := {
      hoops := [(0, { plan := List.replicate 12 0 ++ [1] })],
      groups := [(0, { ops := [twiceListedOperation] })],
      chunks := [{ group := 0, seq := 0, index := 0, phase := 0, image := [1] }],
      exchanges := [{ group := 0, seq := 0, chunk := 0, buffers := [handleOf 0 1 0, handleOf 0 2 0] }] },
    pools := twiceListedPools }

theorem twiceListedState_nextBinding : twiceListedState.nextBinding 0 = some (0, twiceListedOperation, 0) := by decide +kernel

theorem twiceListedState_chooseTile : twiceListedState.chooseTile (twiceListedState.hoopOfGroup 0) = some 0 := by decide +kernel

/-- Freed one after the other, both buffers are the hoop's: the first free takes the entry of hoop 1 away. -/
theorem twiceListedState_freesWell : FreesWell twiceListedState (twiceListedState.hoopOfGroup 0) ((twiceListedState.exchange 0 0 0).buffers ++
    ((twiceListedState.landing (dSourceWindow twiceListedOperation.desc) 0 0).toList.flatMap fun l => l.buffers.map Prod.snd)) := by
  decide +kernel

/-- Binding finds logical frame 2 in the entry of hoop 1: hoop 0 faults, and the operation's chunk is gone. -/
theorem twiceListedState_unbound : (twiceListedState.bindTo 0 twiceListedOperation 0 0 0).chunk (0, 0, 0) = none := by decide +kernel

/-- Refutes O16: `twiceListedState` meets what the statement asks before a chunk is bound, and the chunk is not bound: its hoop faults. The
statement does not say that the table of held frames lists a frame once. -/
theorem not_tilesBindRunAndLeaveService : ¬ Obligations.TilesBindRunAndLeaveService := by
  unfold Obligations.TilesBindRunAndLeaveService
  intro h
  obtain ⟨-, -, hbind, -⟩ := h
  obtain ⟨-, hbound⟩ := hbind 0 twiceListedState
  have hzone : (twiceListedState.tile 0).freeZone = some 0 := rfl
  obtain ⟨u, hu, -, c, hc, -⟩ := hbound 0 twiceListedOperation 0 0 0 twiceListedState_nextBinding twiceListedState_chooseTile hzone rfl
    twiceListedState_freesWell
  obtain rfl : u = twiceListedState.bindTo 0 twiceListedOperation 0 0 0 :=
    Host.Outcome.next.inj (hu.symm.trans (chunkBind_binds twiceListedState_nextBinding twiceListedState_chooseTile hzone))
  exact absurd (twiceListedState_unbound.symm.trans hc) nofun

end Sys2Proof

namespace Sys2Proof

open Sys2Proof.Machine

/-! ## Instruction words of the tile (R115, R116) -/

theorem wordFields_tileWord (op : Nat) (w : TileWord) : wordFields (tileWord op w) = w := by
  obtain ⟨d, a, b, c, imm⟩ := w
  have hd := d.isLt
  have ha := a.isLt
  have hb := b.isLt
  have hc := c.isLt
  have hi := imm.isLt
  simp only [wordFields, tileWord, TileWord.mk.injEq]
  refine ⟨?_, ?_, ?_, ?_, ?_⟩ <;> refine BitVec.eq_of_toNat_eq ?_ <;> rw [BitVec.toNat_ofNat] <;> omega

theorem tileWord_wordFields (n : Nat) : tileWord (wordOpcode n) (wordFields n) = n := by
  simp only [tileWord, wordOpcode, wordFields, BitVec.toNat_ofNat]
  omega

/-- In a table whose keys differ, the entry found for the key of an entry is that entry. -/
theorem find?_fst_of_mem {α : Type} {l : List (Nat × α)} (hl : (l.map Prod.fst).Nodup) {c : Nat × α} (hc : c ∈ l) :
    (l.find? fun e => e.1 == c.1) = some c := by
  induction l with
  | nil => cases hc
  | cons e l ih =>
    obtain ⟨he, hl⟩ := List.nodup_cons.1 hl
    rcases List.mem_cons.1 hc with rfl | hc
    · exact List.find?_cons_of_pos (by simp)
    · have hne : e.1 ≠ c.1 := fun h => he (h ▸ List.mem_map_of_mem hc)
      rw [List.find?_cons_of_neg (by simpa using hne), ih hl hc]

theorem tileOpcodes_nodup : (tileOpcodes.map Prod.fst).Nodup := by decide

theorem decodeTileWord_tileWord (t : Tile) {c : Nat × (Tile → TileWord → Instr)} (hc : c ∈ tileOpcodes) (w : TileWord) :
    decodeTileWord t (tileWord c.1 w) = some (c.2 t w) := by
  rw [decodeTileWord, wordOpcode_tileWord, wordFields_tileWord, find?_fst_of_mem tileOpcodes_nodup hc, Option.map_some]

theorem decodeTileWord_unlisted (t : Tile) {op : Nat} (h : listedOpcode op = false) (w : TileWord) :
    decodeTileWord t (tileWord op w) = none := by
  rw [decodeTileWord, wordOpcode_tileWord, Option.map_eq_none_iff, List.find?_eq_none]
  exact List.any_eq_false.1 h

/-- Settles O27: the fields of a word do not overlap, and the listed opcodes differ, so that the table finds the command of each. -/
theorem tileWordsDecodeToTheirCommands : Obligations.TileWordsDecodeToTheirCommands := by
  unfold Obligations.TileWordsDecodeToTheirCommands
  refine ⟨fun t c w hc => decodeTileWord_tileWord t hc w, fun t op w h => decodeTileWord_unlisted t h w,
    fun n hn => ⟨tileWord_wordFields n, ?_⟩⟩
  unfold wordOpcode
  omega

end Sys2Proof

namespace Sys2Proof

open Sys2Proof.Machine

/-! ## Scalar instructions (R106, R108, R122, R123)

### Immediates and registers as words of 64 bits -/

theorem toSigned_eq_ofNat_toInt {w : Nat} (hw : 0 < w) (n : Nat) : toSigned w n = (BitVec.ofNat w n).toInt := by
  obtain ⟨w, rfl⟩ := Nat.exists_eq_add_of_lt hw
  have hhalf : 2 ^ (w + 1) = 2 * 2 ^ w := Nat.pow_succ'
  rw [BitVec.toInt_eq_toNat_cond, BitVec.toNat_ofNat, toSigned]
  simp only [Nat.zero_add, Nat.add_sub_cancel, hhalf]
  split <;> split <;> omega

theorem ofSigned_eq_ofInt_toNat (w : Nat) (i : Int) : ofSigned w i = (BitVec.ofInt w i).toNat := (BitVec.toNat_ofInt i).symm

/-- Sign extension of the low bits of IMM (R117). -/
theorem immSext_eq (x : TileWord) {n : Nat} (hn : 0 < n) : immSext x n = ((BitVec.ofNat n x.imm.toNat).signExtend 64).toNat := by
  rw [immSext, toSigned_eq_ofNat_toInt hn, ofSigned_eq_ofInt_toNat, BitVec.signExtend]

theorem immSext_word (x : TileWord) : immSext x 32 = (x.imm.signExtend 64).toNat := by
  rw [immSext_eq x (by decide), BitVec.ofNat_toNat, BitVec.setWidth_eq]

/-- A word of 64 bits plus the sign-extended immediate. -/
theorem add_immSext_mod (x : TileWord) (n : Nat) :
    (n + immSext x 32) % 2 ^ 64 = (BitVec.ofNat 64 n + x.imm.signExtend 64).toNat := by
  rw [immSext_word, BitVec.toNat_add, BitVec.toNat_ofNat, Nat.mod_add_mod]

theorem Machine.TileData.sreg_lt (x : TileData) (n : Nat) : x.sreg n < 2 ^ 64 := by
  unfold TileData.sreg
  split
  · decide
  · exact Nat.mod_lt _ (by decide)

theorem Machine.TileData.toNat_ofNat_sreg (x : TileData) (n : Nat) : (BitVec.ofNat 64 (x.sreg n)).toNat = x.sreg n := by
  rw [BitVec.toNat_ofNat, Nat.mod_eq_of_lt (x.sreg_lt n)]

/-- A register takes the low 64 bits of what is written. -/
theorem Machine.TileData.setS_of_mod (x : TileData) (n : Nat) {v w : Nat} (h : v % 2 ^ 64 = w % 2 ^ 64) : x.setS n v = x.setS n w := by
  unfold TileData.setS
  rw [h]

theorem Machine.TileData.setA_of_mod (x : TileData) (n : Nat) {v w : Nat} (h : v % 2 ^ 64 = w % 2 ^ 64) : x.setA n v = x.setA n w := by
  unfold TileData.setA
  rw [h]

/-- An arithmetic operation of the model on numbers is one on words of 64 bits. -/
def IsWordOp (f : Nat → Nat → Nat) (g : BitVec 64 → BitVec 64 → BitVec 64) : Prop :=
  ∀ a b : BitVec 64, f a.toNat b.toNat % 2 ^ 64 = (g a b).toNat

namespace IsWordOp

theorem add : IsWordOp (fun a b => a + b) (fun a b => a + b) := fun a b => (BitVec.toNat_add a b).symm

theorem sub : IsWordOp (fun a b => a + (2 ^ 64 - b)) (fun a b => a - b) := fun a b => by
  rw [BitVec.toNat_sub, Nat.add_comm]

theorem mul : IsWordOp (fun a b => a * b) (fun a b => a * b) := fun a b => (BitVec.toNat_mul a b).symm

theorem mulhu : IsWordOp (fun a b => a * b / 2 ^ 64)
    (fun a b => ((a.zeroExtend 128 * b.zeroExtend 128) >>> 64).truncate 64) := fun a b => by
  have hlt : a.toNat * b.toNat < 2 ^ 128 := Nat.mul_lt_mul'' (c := 2 ^ 64) (d := 2 ^ 64) a.isLt b.isLt
  have ha : a.toNat % 2 ^ 128 = a.toNat := Nat.mod_eq_of_lt (a.isLt.trans (by decide))
  have hb : b.toNat % 2 ^ 128 = b.toNat := Nat.mod_eq_of_lt (b.isLt.trans (by decide))
  simp only [BitVec.truncate_eq_setWidth, BitVec.toNat_setWidth, BitVec.toNat_ushiftRight, BitVec.toNat_mul,
    Nat.shiftRight_eq_div_pow, ha, hb, Nat.mod_eq_of_lt hlt]

theorem and : IsWordOp (fun a b => a &&& b) (fun a b => a &&& b) := fun a b => Nat.mod_eq_of_lt (a &&& b).isLt

theorem or : IsWordOp (fun a b => a ||| b) (fun a b => a ||| b) := fun a b => Nat.mod_eq_of_lt (a ||| b).isLt

theorem xor : IsWordOp (fun a b => a ^^^ b) (fun a b => a ^^^ b) := fun a b => Nat.mod_eq_of_lt (a ^^^ b).isLt

theorem shl : IsWordOp (fun a b => a <<< (b % 64)) (fun a b => a <<< (b.toNat % 64)) := fun _ _ => BitVec.toNat_shiftLeft.symm

theorem shr : IsWordOp (fun a b => a >>> (b % 64)) (fun a b => a >>> (b.toNat % 64)) := fun a b =>
  Nat.mod_eq_of_lt (a >>> (b.toNat % 64)).isLt

theorem sra : IsWordOp (fun a b => ofSigned 64 (toSigned 64 a >>> (b % 64))) (fun a b => a.sshiftRight (b.toNat % 64)) := fun a b => by
  dsimp only
  rw [toSigned_eq_ofNat_toInt (by decide), BitVec.ofNat_toNat, BitVec.setWidth_eq, ofSigned_eq_ofInt_toNat,
    Nat.mod_eq_of_lt (BitVec.isLt _), BitVec.sshiftRight]

theorem sltu : IsWordOp (fun a b => if a < b then 1 else 0) (fun a b => if a.ult b then 1 else 0) := fun a b => by
  simp only [BitVec.ult, decide_eq_true_eq]
  split <;> rfl

theorem slt : IsWordOp (fun a b => if toSigned 64 a < toSigned 64 b then 1 else 0) (fun a b => if a.slt b then 1 else 0) := fun a b => by
  simp only [toSigned_eq_ofNat_toInt (by decide : 0 < 64), BitVec.ofNat_toNat, BitVec.setWidth_eq, BitVec.slt, decide_eq_true_eq]
  split <;> rfl

theorem seq : IsWordOp (fun a b => if a = b then 1 else 0) (fun a b => if a = b then 1 else 0) := fun a b => by
  simp only [BitVec.toNat_inj]
  split <;> rfl

end IsWordOp

section Scalar

variable {s : State} {t : Tile} {x : TileWord} {k : Running} {op : Nat} {fl : Fields}

/-- An instruction that writes s[D] and nothing else. -/
theorem completes_setS {c : Instr} {body : Running → Issue} {v w : Nat} (hc : exec c s = .next (s.issue t op x fl (some 0) body))
    (hop : listedOpcode op = true) (htarget : fl.target op x = x.d.toNat) (hbody : body k = k.done (k.x.setS x.d.toNat v))
    (hv : v % 2 ^ 64 = w % 2 ^ 64) (d : Dispatches s t op x fl (some 0) k) :
    Completes c s (TileBecomes s t (((k.x.setS x.d.toNat w).advance k.x.pc).behind (some 0) {} x.d.toNat)) := by
  rw [k.x.setS_of_mod _ hv] at hbody
  have h := d.completes_done hc hop hbody (k.x.sameQueues_setS _ _)
  rwa [htarget] at h

/-- A scalar ALU instruction writes s[D] by its operation on words (R122). -/
theorem alu_completes {c : Instr} {f : Nat → Nat → Nat} {g : BitVec 64 → BitVec 64 → BitVec 64} (hfg : IsWordOp f g)
    (hc : exec c s = .next (s.issue t op x aluFields (some 0) fun k => k.alu f)) (hop : listedOpcode op = true)
    (htarget : aluFields.target op x = x.d.toNat) (d : Dispatches s t op x aluFields (some 0) k) :
    Completes c s (TileBecomes s t (((k.x.setS x.d.toNat
      (g (BitVec.ofNat 64 k.sa) (BitVec.ofNat 64 k.sb + x.imm.signExtend 64)).toNat).advance k.x.pc).behind (some 0) {} x.d.toNat)) := by
  obtain ⟨-, -, hw, -⟩ := State.running_some d.runs
  have ha : (BitVec.ofNat 64 k.sa).toNat = k.sa := k.x.toNat_ofNat_sreg _
  refine completes_setS hc hop htarget (v := f k.sa ((k.sb + immSext x 32) % 2 ^ 64)) (by rw [← hw]; rfl) ?_ d
  rw [add_immSext_mod, Nat.mod_eq_of_lt (BitVec.isLt (g _ _)), ← hfg, ha]

theorem lih_completes (d : Dispatches s t 0x1D x { d := .s, imm := immAll } (some 0) k) :
    Completes (.lih t x) s (TileBecomes s t (((k.x.setS x.d.toNat (x.imm ++ BitVec.ofNat 32 k.sd).toNat).advance k.x.pc).behind
      (some 0) {} x.d.toNat)) := by
  have happend : (x.imm ++ BitVec.ofNat 32 k.sd).toNat = k.sd % 2 ^ 32 + x.imm.toNat * 2 ^ 32 := by
    rw [BitVec.toNat_append, BitVec.toNat_ofNat, ← Nat.shiftLeft_add_eq_or_of_lt (Nat.mod_lt _ (by decide)), Nat.shiftLeft_eq,
      Nat.add_comm]
  exact completes_setS rfl (by decide) rfl rfl (by rw [happend]) d

end Scalar

/-- Settles O17, instruction by instruction: each is `alu` of an operation on words of 64 bits. -/
theorem scalarArithmetic : Obligations.ScalarArithmetic := by
  unfold Obligations.ScalarArithmetic
  refine ⟨fun t x s k => ?_, fun t x s k d => lih_completes d⟩
  refine ⟨?add, ?sub, ?mul, ?mulhu, ?and, ?or, ?xor, ?shl, ?shr, ?sra, ?sltu, ?slt, ?seq⟩
  case add => exact fun d => (alu_completes (c := .addS t x) .add rfl (by decide) rfl d :)
  case sub => exact fun d => (alu_completes (c := .subS t x) .sub rfl (by decide) rfl d :)
  case mul => exact fun d => (alu_completes (c := .mulS t x) .mul rfl (by decide) rfl d :)
  case mulhu => exact fun d => (alu_completes (c := .mulhu t x) .mulhu rfl (by decide) rfl d :)
  case and => exact fun d => (alu_completes (c := .andS t x) .and rfl (by decide) rfl d :)
  case or => exact fun d => (alu_completes (c := .orS t x) .or rfl (by decide) rfl d :)
  case xor => exact fun d => (alu_completes (c := .xorS t x) .xor rfl (by decide) rfl d :)
  case shl => exact fun d => (alu_completes (c := .shl t x) .shl rfl (by decide) rfl d :)
  case shr => exact fun d => (alu_completes (c := .shr t x) .shr rfl (by decide) rfl d :)
  case sra => exact fun d => (alu_completes (c := .sra t x) .sra rfl (by decide) rfl d :)
  case sltu => exact fun d => (alu_completes (c := .sltu t x) .sltu rfl (by decide) rfl d :)
  case slt => exact fun d => (alu_completes (c := .slt t x) .slt rfl (by decide) rfl d :)
  case seq => exact fun d => (alu_completes (c := .seq t x) .seq rfl (by decide) rfl d :)

end Sys2Proof

namespace Sys2Proof

open Sys2Proof.Machine

/-! ### Accesses to the tile store (R108, R111) -/

theorem hull_nil : hull [] = (0, 0) := rfl

/-- The hull of one range that is not empty is the range. -/
theorem hull_singleton {r : Nat × Nat} (h : r.1 < r.2) : hull [r] = r := by
  simp [hull, h]

theorem Machine.Running.accessFault_read {k : Running} {r : Nat × Nat} (h : k.readFault r = none) : k.accessFault [r] [] = none := by
  simp [Running.accessFault, h]

theorem Machine.Running.accessFault_write {k : Running} {r : Nat × Nat} (h : k.writeFault r = none) : k.accessFault [] [r] = none := by
  simp [Running.accessFault, h]

section Scalar

variable {s : State} {t : Tile} {x : TileWord} {k : Running} {op : Nat} {fl : Fields}

/-- An instruction that writes a[D] and nothing else. -/
theorem completes_setA {c : Instr} {body : Running → Issue} {v w : Nat} (hc : exec c s = .next (s.issue t op x fl (some 0) body))
    (hop : listedOpcode op = true) (htarget : fl.target op x = 0) (hbody : body k = k.done (k.x.setA x.d.toNat v))
    (hv : v % 2 ^ 64 = w % 2 ^ 64) (d : Dispatches s t op x fl (some 0) k) :
    Completes c s (TileBecomes s t (((k.x.setA x.d.toNat w).advance k.x.pc).behind (some 0) {} 0)) := by
  rw [k.x.setA_of_mod _ hv] at hbody
  have h := d.completes_done hc hop hbody ⟨rfl, rfl, rfl⟩
  rwa [htarget] at h

theorem sld_completes {ea : Nat} (hea : (k.ta + immSext x 32) % 2 ^ 64 = ea)
    (d : Dispatches s t 0x23 x { d := .s, a := .a, imm := immAll } (some 0) k)
    (h8 : ea % 8 = 0) (hfree : k.x.interlocked 0 { reads := (ea, ea + 8) } = false) (hfault : k.readFault (ea, ea + 8) = none) :
    Completes (.sld t x) s (TileBecomes s t (((k.x.setS x.d.toNat (leNat (k.x.read ea 8))).advance k.x.pc).behind (some 0)
      { reads := (ea, ea + 8) } x.d.toNat)) := by
  have hhull : hull [(ea, ea + 8)] = (ea, ea + 8) := hull_singleton (Nat.lt_add_of_pos_right (by decide))
  refine d.completes_done rfl (by decide) ?_ (k.x.sameQueues_setS _ _)
  dsimp only
  rw [hea, if_neg (not_not.2 h8), span, Running.access_ok (by rwa [hhull]) (Running.accessFault_read hfault), hhull]
  rfl

theorem sst_completes {ea : Nat} (hea : (k.ta + immSext x 32) % 2 ^ 64 = ea)
    (d : Dispatches s t 0x24 x { a := .a, b := .s, imm := immAll } (some 0) k)
    (h8 : ea % 8 = 0) (hfree : k.x.interlocked 0 { writes := (ea, ea + 8) } = false) (hfault : k.writeFault (ea, ea + 8) = none) :
    Completes (.sst t x) s (TileBecomes s t ((((k.x.define (ea, ea + 8)).write ea (leBytes 8 k.sb)).advance k.x.pc).behind (some 0)
      { writes := (ea, ea + 8) } 0)) := by
  have hhull : hull [(ea, ea + 8)] = (ea, ea + 8) := hull_singleton (Nat.lt_add_of_pos_right (by decide))
  refine d.completes_done rfl (by decide) ?_ ⟨rfl, rfl, rfl⟩
  dsimp only
  rw [hea, if_neg (not_not.2 h8), span, Running.access_ok (by rwa [hhull]) (Running.accessFault_write hfault), hhull]
  rfl

/-- CTX of a selector that has a value (R107). -/
theorem ctx_completes {v : Nat} (hv : k.context (x.imm.toNat % 256) = some (some v))
    (d : Dispatches s t 0x25 x { d := .s, a := .s, imm := 0xFF } (some 0) k) :
    Completes (.ctx t x) s (TileBecomes s t (((k.x.setS x.d.toNat v).advance k.x.pc).behind (some 0) {} x.d.toNat)) := by
  have himm : immBits x 7 0 = x.imm.toNat % 256 := rfl
  refine completes_setS rfl (by decide) rfl ?_ rfl d
  rw [himm, hv]

end Scalar

/-- Settles O18, instruction by instruction. -/
theorem addressAndScalarFloat : Obligations.AddressAndScalarFloat := by
  unfold Obligations.AddressAndScalarFloat
  intro t x s k goes scalar imm ea
  have hea : (k.ta + immSext x 32) % 2 ^ 64 = ea := add_immSext_mod x k.ta
  refine ⟨?amov, ?aadd, ?smova, sld_completes hea, sst_completes hea, fun v hv d => ctx_completes hv d,
    ?fadd, ?fmul, ?frsq, ?frcp, ?fcvti⟩
  case amov => exact completes_setA rfl (by decide) rfl rfl (by rw [add_immSext_mod, Nat.mod_eq_of_lt (BitVec.isLt _)])
  case aadd =>
    refine completes_setA rfl (by decide) rfl rfl ?_
    rw [add_immSext_mod, BitVec.ofNat_add, Nat.mod_eq_of_lt (BitVec.isLt _)]
  case fcvti =>
    refine completes_setS rfl (by decide) rfl rfl ?_
    rw [toSigned_eq_ofNat_toInt (by decide)]
  case smova | fadd | fmul | frsq | frcp => exact completes_setS rfl (by decide) rfl rfl rfl

end Sys2Proof

namespace Sys2Proof

open Sys2Proof.Machine

/-! ## Integer and bitwise vector instructions (R129, R130)

### Lanes as words of 32 bits -/

theorem Machine.vectorOf_lt {l : List Nat} {n : Nat} (h : n ∈ vectorOf l) : n < 2 ^ 32 := by
  obtain ⟨m, -, rfl⟩ := List.mem_map.1 h
  exact Nat.mod_lt _ (by decide)

/-- 512 lanes of 32 bits. -/
structure IsVector (l : List Nat) : Prop where
  length : l.length = 512
  lt : ∀ n ∈ l, n < 2 ^ 32

theorem Machine.TileData.vreg_isVector (x : TileData) (n : Nat) : IsVector (x.vreg n) := ⟨x.vreg_length n, fun _ => vectorOf_lt⟩

/-- Lane i of a vector. -/
def laneOf (l : List Nat) (i : Nat) : BitVec 32 := BitVec.ofNat 32 (l.getD i 0)

theorem IsVector.toNat_laneOf {l : List Nat} (h : IsVector l) (i : Nat) : (laneOf l i).toNat = l.getD i 0 := by
  rw [laneOf, BitVec.toNat_ofNat]
  refine Nat.mod_eq_of_lt ?_
  rcases Nat.lt_or_ge i l.length with hi | hi
  · rw [List.getD_eq_getElem _ _ hi]
    exact h.lt _ (List.getElem_mem hi)
  · rw [List.getD_eq_default _ _ hi]
    decide

/-- An operation on each lane is one on words. -/
theorem IsVector.map_words {a : List Nat} (ha : IsVector a) {f : Nat → Nat} {g : BitVec 32 → BitVec 32}
    (hfg : ∀ a, f a.toNat = (g a).toNat) : a.map f = (List.range 512).map fun i => (g (laneOf a i)).toNat := by
  rw [map_lanes ha.length]
  refine List.map_congr_left fun i _ => ?_
  rw [← hfg, ha.toNat_laneOf]

theorem IsVector.zipWith_words {a b : List Nat} (ha : IsVector a) (hb : IsVector b) {f : Nat → Nat → Nat}
    {g : BitVec 32 → BitVec 32 → BitVec 32} (hfg : ∀ a b, f a.toNat b.toNat = (g a b).toNat) :
    List.zipWith f a b = (List.range 512).map fun i => (g (laneOf a i) (laneOf b i)).toNat := by
  rw [zipWith_lanes ha.length hb.length]
  refine List.map_congr_left fun i _ => ?_
  rw [← hfg, ha.toNat_laneOf, hb.toNat_laneOf]

theorem IsVector.zip3_words {a b c : List Nat} (ha : IsVector a) (hb : IsVector b) (hc : IsVector c) {f : Nat → Nat → Nat → Nat}
    {g : BitVec 32 → BitVec 32 → BitVec 32 → BitVec 32} (hfg : ∀ a b c, f a.toNat b.toNat c.toNat = (g a b c).toNat) :
    zip3 f a b c = (List.range 512).map fun i => (g (laneOf a i) (laneOf b i) (laneOf c i)).toNat := by
  rw [zip3_lanes ha.length hb.length hc.length]
  refine List.map_congr_left fun i _ => ?_
  rw [← hfg, ha.toNat_laneOf, hb.toNat_laneOf, hc.toNat_laneOf]

/-- An immediate that passes the check of R116 has no bit beside those in use. -/
theorem Machine.Fields.imm_le {f : Fields} {w : TileWord} (h : f.ok w = true) : w.imm.toNat ≤ f.imm := by
  simp only [Fields.ok, Bool.and_eq_true, beq_iff_eq] at h
  rw [← h.2]
  exact Nat.and_le_right

/-! ### The operations -/

theorem toNat_lessMask (a b : BitVec 32) : (if ltFp32 a.toNat b.toNat then 2 ^ 32 - 1 else 0) =
    (if ltFp32 a.toNat b.toNat then BitVec.allOnes 32 else 0).toNat := by
  split <;> rfl

theorem toNat_select (a b c : BitVec 32) : (c.toNat &&& a.toNat) ||| ((2 ^ 32 - 1 - c.toNat) &&& b.toNat) =
    ((c &&& a) ||| (~~~c &&& b)).toNat := by
  rw [BitVec.toNat_or, BitVec.toNat_and, BitVec.toNat_and, BitVec.toNat_not]

theorem toNat_clearSign (a : BitVec 32) : a.toNat % 2 ^ 31 = (a &&& 0x7FFFFFFF).toNat := by
  rw [BitVec.toNat_and]
  exact (Nat.and_two_pow_sub_one_eq_mod _ _).symm

theorem toNat_shiftLeft (a : BitVec 32) {m n : Nat} (h : m = n) : (a.toNat <<< m) % 2 ^ 32 = (a <<< n).toNat := by
  rw [h, BitVec.toNat_shiftLeft]

theorem toNat_shiftRight (a : BitVec 32) {m n : Nat} (h : m = n) : a.toNat >>> m = (a >>> n).toNat := by
  rw [h, BitVec.toNat_ushiftRight]

/-- Settles O23, instruction by instruction: its lanes are those of the list that its meaning makes of its sources. -/
theorem vectorIntegerLanes : Obligations.VectorIntegerLanes := by
  unfold Obligations.VectorIntegerLanes
  intro t x s k a b c goes lanes two shift
  have ha : IsVector k.va := k.x.vreg_isVector _
  have hb : IsVector k.vb := k.x.vreg_isVector _
  have hc : IsVector k.vc := k.x.vreg_isVector _
  have hcount (d : shift.ok x = true) : immBits x 4 0 = x.imm.toNat :=
    Nat.mod_eq_of_lt (Nat.lt_of_le_of_lt (Fields.imm_le d) (by decide))
  refine ⟨?viadd, ?visub, ?vand, ?vor, ?vxor, ?vcmplt, ?vsel, ?vshl, ?vshr, ?vabs, ?vneg, ?vbcast, ?viota, ?vext⟩
  case viadd => exact completes_lanes rfl (by decide) rfl (ha.zipWith_words hb fun a b => (BitVec.toNat_add a b).symm)
  case visub =>
    refine completes_lanes rfl (by decide) rfl (ha.zipWith_words hb fun a b => ?_)
    rw [BitVec.toNat_sub, Nat.add_comm]
  case vand => exact completes_lanes rfl (by decide) rfl (ha.zipWith_words hb fun a b => (BitVec.toNat_and a b).symm)
  case vor => exact completes_lanes rfl (by decide) rfl (ha.zipWith_words hb fun a b => (BitVec.toNat_or a b).symm)
  case vxor => exact completes_lanes rfl (by decide) rfl (ha.zipWith_words hb fun a b => (BitVec.toNat_xor a b).symm)
  case vcmplt =>
    exact completes_lanes rfl (by decide) rfl
      (ha.zipWith_words hb (g := fun a b => if ltFp32 a.toNat b.toNat then BitVec.allOnes 32 else 0) toNat_lessMask)
  case vsel =>
    exact completes_lanes rfl (by decide) rfl (ha.zip3_words hb hc (g := fun a b c => (c &&& a) ||| (~~~c &&& b)) toNat_select)
  case vshl =>
    exact fun d => completes_lanes rfl (by decide) rfl
      (ha.map_words (g := fun a => a <<< x.imm.toNat) fun a => toNat_shiftLeft a (hcount d.fields)) d
  case vshr =>
    exact fun d => completes_lanes rfl (by decide) rfl
      (ha.map_words (g := fun a => a >>> x.imm.toNat) fun a => toNat_shiftRight a (hcount d.fields)) d
  case vabs => exact completes_lanes rfl (by decide) rfl (ha.map_words (g := fun a => a &&& 0x7FFFFFFF) toNat_clearSign)
  case vneg =>
    exact completes_lanes rfl (by decide) rfl
      (ha.map_words (g := fun a => a ^^^ 0x80000000) fun a => (BitVec.toNat_xor a 0x80000000).symm)
  case vbcast =>
    refine completes_lanes rfl (by decide) rfl ?_
    rw [← BitVec.toNat_ofNat, List.map_const', List.length_range]
  case viota =>
    refine completes_lanes rfl (by decide) rfl ?_
    refine (List.map_id'' (fun i => rfl) _).symm.trans (List.map_congr_left fun i hi => ?_)
    rw [BitVec.toNat_ofNat, Nat.mod_eq_of_lt ((List.mem_range.1 hi).trans (by decide))]
  case vext =>
    intro d
    have hlane : immBits x 8 0 = x.imm.toNat := Nat.mod_eq_of_lt (Nat.lt_of_le_of_lt (Fields.imm_le d.fields) (by decide))
    refine completes_scalar rfl (by decide) rfl ?_ d
    rw [hlane, ← List.getD_eq_getElem?_getD]
    exact (ha.toNat_laneOf _).symm

end Sys2Proof

namespace Sys2Proof

open Sys2Proof.Machine

/-! ## Control instructions of the tile (R110, R111, R120, R121)

### Queues that nothing leaves, and what then waits for them (R121, R135) -/

/-- A tile that runs the chunk it ran runs it as it did. -/
theorem TileBecomes.running {s u : State} {t : Nat} {w : TileWord} {k : Running} {y : TileData} (hu : TileBecomes s t y u)
    (h : s.running t w = some k) (hy : y.running = k.x.running) (w' : TileWord) :
    u.running t w' = some { k with s := u, w := w', x := y } := by
  obtain ⟨htile, -, hrest⟩ := hu
  simp only [State.running, Option.bind_eq_some_iff, Option.map_eq_some_iff] at h
  obtain ⟨key, hkey, c, hc, o, ho, e, he, r, hr, rfl⟩ := h
  rw [← hrest] at hc ho he hr
  simp only [State.running, htile, Option.bind_eq_some_iff, Option.map_eq_some_iff]
  exact ⟨key, hy.trans hkey, c, hc, o, ho, e, he, r, hr, rfl⟩

/-- The chunk of a tile that runs is the one it says. -/
theorem Machine.State.running_chunk {s : State} {t : Nat} {w : TileWord} {k : Running} (h : s.running t w = some k) :
    k.x.running = some k.c.key ∧ s.chunk k.c.key = some k.c := by
  simp only [State.running, Option.bind_eq_some_iff, Option.map_eq_some_iff] at h
  obtain ⟨key, hkey, c, hc, o, -, e, -, r, -, rfl⟩ := h
  have hck : c.key = key := State.chunk_key hc
  exact ⟨hkey.trans (congrArg some hck.symm), (congrArg s.chunk hck).trans hc⟩

/-- A tile whose queues stay as they are, one of them not empty, stays as it is. -/
theorem Machine.State.settleQueues_of_busy {s : State} {t : Nat} (h : (s.tile t).HeadsWait) (hbusy : (s.tile t).idle = false) :
    s.settleQueues t = s := by
  unfold State.settleQueues
  split
  · rfl
  · rename_i k hk
    obtain ⟨-, htile, -, -⟩ := State.running_some hk
    have hstay (q : Nat) (hq : q < 5) : k.settleQueue q 17 s = (s, none) := k.settleQueue_of_waiting hq (htile ▸ h) 17
    simp [hstay, hbusy]

/-- A CDONE that waits ends its chunk where the queues are empty (R121). -/
theorem Machine.State.settleQueues_of_ending {s : State} {t : Nat} {k : Running} (hrun : s.running t {} = some k)
    (h : (s.tile t).HeadsWait) (hidle : (s.tile t).idle = true) (ht : (s.tile t).trapped = none) (he : (s.tile t).ending = true) :
    s.settleQueues t = k.endChunk s := by
  obtain ⟨hs, htile, -, hx⟩ := State.running_some hrun
  have hstay (q : Nat) (hq : q < 5) : k.settleQueue q 17 s = (s, none) := k.settleQueue_of_waiting hq (htile ▸ h) 17
  have hself : { k with s := s, x := s.tile t } = k := by rw [← hx, ← hs]
  unfold State.settleQueues
  rw [hrun]
  simp [hstay, hidle, ht, he, hself]

/-! ### The end of a chunk leaves its record and its tile (R121, R158, R338) -/

/-- Between `s` and `t` neither the chunks in hand nor the tiles' data have changed. -/
structure ChunksKept (s t : State) : Prop where
  chunks : t.work.chunks = s.work.chunks
  tiles : t.tiles = s.tiles

namespace ChunksKept

section Shape

variable {s t u : State}

protected theorem rfl : ChunksKept s s := ⟨rfl, rfl⟩

theorem trans (h : ChunksKept s t) (h' : ChunksKept t u) : ChunksKept s u := ⟨h'.chunks.trans h.chunks, h'.tiles.trans h.tiles⟩

theorem chunk (h : ChunksKept s t) (c : Nat × Nat × Nat) : t.chunk c = s.chunk c := by rw [State.chunk, h.chunks, State.chunk]

theorem tile (h : ChunksKept s t) (i : Nat) : t.tile i = s.tile i := by rw [State.tile, h.tiles, State.tile]

/-- What changes of the work in hand no chunk, and no tile. -/
theorem keepChunks {pending dict mem out freeCtr control events boot security meter line time work pools fabric memory optics net power}
    (h : ChunksKept s t) (hc : work.chunks = t.work.chunks) : ChunksKept s ⟨pending, dict, mem, out, freeCtr, control, events,
      boot, security, meter, line, time, work, pools, t.tiles, fabric, memory, optics, net, power⟩ := ⟨hc.trans h.chunks, h.tiles⟩

/-- What leaves the work in hand and the tiles as they were. -/
theorem keep {pending dict mem out freeCtr control events boot security meter line time pools fabric memory optics net power}
    (h : ChunksKept s t) : ChunksKept s ⟨pending, dict, mem, out, freeCtr, control, events,
      boot, security, meter, line, time, t.work, pools, t.tiles, fabric, memory, optics, net, power⟩ := h.keepChunks rfl

theorem ite {c : Prop} [Decidable c] (ht : ChunksKept s t) (hu : ChunksKept s u) : ChunksKept s (if c then t else u) := by
  split
  · exact ht
  · exact hu

theorem each {α : Type} (h : ChunksKept s t) (xs : List α) {f : State → α → State} (hf : ∀ u x, ChunksKept s u → ChunksKept s (f u x)) :
    ChunksKept s (t.each xs f) :=
  State.each_keeps _ f hf xs t h

end Shape

variable {s t : State} {h g q i step : Nat}

theorem raise (hs : ChunksKept s t) (code : Nat) (a : EventArgs) : ChunksKept s (t.raise code a) := by
  obtain ⟨_, _, _, _, e⟩ := t.raise_only code a
  rw [e]
  exact hs.keep

theorem enqueue {w : Nat} {r : EmitRequest} (hs : ChunksKept s t) : ChunksKept s (t.enqueue w r) := ite hs.keep hs.keep

theorem emitTo {vc address opSequence epochTag : Nat} {tail payload : Bytes} {operation : Option (Nat × Nat × Nat)}
    {ticket : Option EmitTicket} (hs : ChunksKept s t) :
    ChunksKept s (t.emitTo h vc address opSequence epochTag tail payload operation ticket) := hs.enqueue

theorem sendFabric {address kind : Nat} {payload : Bytes} (hs : ChunksKept s t) : ChunksKept s (t.sendFabric address kind payload).1 := by
  unfold State.sendFabric
  split
  · exact hs
  · exact hs.enqueue

theorem settleMatch (hs : ChunksKept s t) : ChunksKept s (t.settleMatch h step) := by
  unfold State.settleMatch
  extract_lets y mine left key u net s1 s2
  have h2 : ChunksKept s s2 := hs.keepChunks (by rfl)
  exact ite hs (ite ((h2.keep : ChunksKept s (s2.setNum (Obj.shadowState h) 3)).raise _ _) h2)

theorem compareDigest (hs : ChunksKept s t) : ChunksKept s (t.compareDigest h g q i) := by
  unfold State.compareDigest
  extract_lets y own theirs
  cases own with
  | none => exact hs
  | some a =>
    cases theirs with
    | none => exact hs
    | some b =>
      dsimp only
      refine ite (hs.keepChunks (by rfl)) (ite (settleMatch (hs.keepChunks (by rfl))) (raise (hs.keepChunks (by rfl)) _ _))

theorem noteDigest {k : Running} (hs : ChunksKept s t) : ChunksKept s (k.noteDigest t) := by
  unfold Running.noteDigest
  extract_lets digest y mine s0 s1
  have h1 : ChunksKept s s1 := compareDigest (hs.keepChunks (by rfl))
  exact ite h1.sendFabric h1

theorem startExchange (hs : ChunksKept s t) : ChunksKept s (t.startExchange g) := by
  unfold State.startExchange
  extract_lets hoop y own others s1 payload
  have h1 : ChunksKept s s1 := hs.keepChunks (by rfl)
  exact ite h1 (h1.each _ fun _ _ hu => hu.emitTo)

theorem countSlot (hs : ChunksKept s t) : ChunksKept s (t.countSlot h i) := by
  unfold State.countSlot
  extract_lets current pending n s1 s2 s3 s4
  have h3 : ChunksKept s s3 := hs.keep
  have h4 : ChunksKept s s4 := ite h3.keep h3
  exact h4.keep

theorem activateSlot (hs : ChunksKept s t) : ChunksKept s (t.activateSlot h i) :=
  have hset : ChunksKept s (t.setSlot h i (t.slotPending h i) []) := countSlot (hs.keepChunks (by rfl))
  hset.each _ fun _ _ hu => hu.startExchange

theorem activateDue (hs : ChunksKept s t) : ChunksKept s (t.activateDue h) := hs.each _ fun _ _ hu => ite hu.activateSlot hu

end ChunksKept

theorem Machine.State.leaveTile_chunk (s : State) (t : Nat) (c d : Nat × Nat × Nat) : (s.leaveTile t c).chunk d = s.chunk d := by
  unfold State.leaveTile State.settleTile
  extract_lets x x1 x2 x3 st
  split
  · rfl
  · rfl

theorem Machine.State.leaveTile_tile (s : State) (t : Nat) (c : Nat × Nat × Nat) : ∃ zone0 zone1,
    (s.leaveTile t c).tile t = if (s.tile t).running = some c then { s.tile t with zone0 := zone0, zone1 := zone1 }.stop
      else { s.tile t with zone0 := zone0, zone1 := zone1 } := by
  unfold State.leaveTile State.settleTile
  extract_lets x x1 x2 x3 st
  have htile : (s.setTile t x3).tile t = x3 := s.tile_setTile_same t x3
  have hleft : (if st = 1 ∨ st = 2 then (s.setTile t x3).setNum (Obj.tileState t) (if ((s.setTile t x3).tile t).held = [] then 1 else 2)
      else s.setTile t x3).tile t = x3 := by
    split <;> exact htile
  obtain ⟨zone0, h1⟩ : ∃ zone0, x1 = { x with zone0 := zone0 } := by
    unfold x1
    split <;> exact ⟨_, rfl⟩
  obtain ⟨zone1, h2⟩ : ∃ zone1, x2 = { x with zone0 := zone0, zone1 := zone1 } := by
    unfold x2
    rw [h1]
    split <;> exact ⟨_, rfl⟩
  refine ⟨zone0, zone1, hleft.trans ?_⟩
  unfold x3
  rw [h2]

/-- A chunk that leaves its tile runs there no more. -/
theorem Machine.State.leaveTile_running {s : State} {t : Nat} {c : Nat × Nat × Nat} (h : (s.tile t).running = some c) :
    ((s.leaveTile t c).tile t).running = none := by
  obtain ⟨zone0, zone1, htile⟩ := s.leaveTile_tile t c
  rw [htile, if_pos h]
  rfl

/-- A chunk without a stream ends: its tile runs it no more, and its record says so (R121). -/
theorem Machine.Running.endChunk_ends {s : State} {t : Nat} {w : TileWord} {k : Running} (hrun : s.running t w = some k)
    (h0 : k.r.emitLength = 0) :
    ((k.endChunk s).tile t).running = none ∧ ∃ c, (k.endChunk s).chunk k.c.key = some c ∧ c.phase = 3 := by
  obtain ⟨-, ht, -, hx⟩ := State.running_some hrun
  obtain ⟨hrunning, hchunk⟩ := State.running_chunk hrun
  have hstream : k.keepStream s = s := by simp [Running.keepStream, h0]
  have hnote : ChunksKept s (k.noteDigest s) := ChunksKept.rfl.noteDigest
  unfold Running.endChunk
  rw [if_neg (by simp [h0]), hstream, ht]
  extract_lets s1 c
  have hnone : (s1.tile t).running = none := State.leaveTile_running (by rw [hnote.tile, ← hx, hrunning])
  have hfound : s1.chunk k.c.key = some k.c := (State.leaveTile_chunk ..).trans ((hnote.chunk _).trans hchunk)
  have hc : c = k.c := congrArg (fun o => o.getD k.c) hfound
  clear_value c s1
  subst hc
  have hset : (s1.setChunk { k.c with phase := 3 }).chunk k.c.key = some { k.c with phase := 3 } :=
    s1.chunk_setChunk_same { k.c with phase := 3 }
  have hdue := (ChunksKept.rfl (s := ((s1.setChunk { k.c with phase := 3 }).bump 64 (Obj.tileChunksRun t) 1).bump 64
    (Obj.slotChunksRun (16 * k.h + entrySlot k.e)) 1)).activateDue (h := k.h)
  refine ⟨?_, { k.c with phase := 3 }, (hdue.chunk _).trans hset, rfl⟩
  rw [hdue.tile]
  exact hnone

/-! ### Outcomes of a control instruction -/

/-- A branch to a target inside the code and the innermost loop raises nothing (R120). -/
theorem Machine.TileData.branchFault_of_inside {x : TileData} {target : Nat} (hcode : target < codeCount x.image)
    (hloop : ∀ first last left r, x.loops = (first, last, left) :: r → first ≤ target ∧ target ≤ last) :
    x.branchFault target = none := by
  unfold TileData.branchFault
  rw [if_neg (Nat.not_le.2 hcode)]
  split
  · rfl
  next first last left r h => exact if_pos (hloop first last left r h)

section Control

variable {s u : State} {t : Tile} {x : TileWord} {k : Running} {op : Nat} {fl : Fields} {q : Option Nat} {body : Running → Issue}
  {y : TileData} {c : Instr}

/-- An instruction that leaves the state as it is moves on. -/
theorem Dispatches.completes_past (d : Dispatches s t op x fl none k) (hc : exec c s = .next (s.issue t op x fl none body))
    (hop : listedOpcode op = true) (hbody : body k = .ok s {}) : Completes c s (TileBecomes s t (k.x.advance k.x.pc)) := by
  obtain ⟨-, -, -, hx⟩ := State.running_some d.runs
  refine ⟨_, hc, ?_⟩
  rw [d.issue_eq hop, hbody]
  exact d.settle_ok hx.symm (.refl _) _ _ _

/-- A jump to a target inside the code and the innermost loop. -/
theorem Dispatches.completes_jump (d : Dispatches s t op x fl q k) (hc : exec c s = .next (s.issue t op x fl q body))
    (hop : listedOpcode op = true) {target : Nat} (hbody : body k = .jump u target) (hu : TileBecomes s t y u)
    (hin : target < codeCount k.x.image ∧ ∀ first last left r, k.x.loops = (first, last, left) :: r → first ≤ target ∧ target ≤ last) :
    Completes c s (TileBecomes s t { y with pc := target }) := by
  obtain ⟨-, ht, -, -⟩ := State.running_some d.runs
  refine ⟨_, hc, ?_⟩
  rw [d.issue_eq hop, hbody]
  simp only [Running.settle, TileData.branchFault_of_inside hin.1 hin.2, ht, hu.1]
  exact hu.setTile _

/-- What an instruction that stands at its PC has made of the tile. -/
theorem Dispatches.issue_stay (d : Dispatches s t op x fl q k) (hop : listedOpcode op = true) (hbody : body k = .stay (k.set y)) :
    s.issue t op x fl q body = (s.setTile t y).settleQueues t := by
  obtain ⟨hs, ht, -, -⟩ := State.running_some d.runs
  rw [d.issue_eq hop, hbody, Running.settle, Running.set, hs, ht]

/-- An instruction that sets PC and loops itself. -/
theorem Dispatches.completes_stay (d : Dispatches s t op x fl q k) (hc : exec c s = .next (s.issue t op x fl q body))
    (hop : listedOpcode op = true) (hbody : body k = .stay (k.set y)) (hy : k.x.SameQueues y) :
    Completes c s (TileBecomes s t y) := by
  obtain ⟨-, hending, htrapped⟩ := d.free
  have hwait : y.HeadsWait := TileData.HeadsWait.of_sameQueues d.heads hy
  obtain ⟨-, hyt, hye⟩ := hy
  refine ⟨_, hc, ?_⟩
  rw [d.issue_stay hop hbody, State.settleQueues_of_waiting]
  · exact tileBecomes_setTile s t y
  all_goals rw [State.tile_setTile_same]
  · exact hwait
  · exact hyt.trans htrapped
  · exact hye.trans hending

/-- The target of a branch as a word of 64 bits (R120). -/
theorem Machine.Running.target_eq (k : Running) :
    k.target = (BitVec.ofNat 64 k.x.pc + (k.w.imm.truncate 16).signExtend 64).toNat := by
  rw [Running.target, immSext_eq _ (by decide), BitVec.toNat_add, BitVec.toNat_ofNat, Nat.mod_add_mod]
  rfl

theorem fence_completes (d : Dispatches s t 0x07 x {} none k) :
    (k.x.idle = true → Completes (.fence t x) s (TileBecomes s t (k.x.advance k.x.pc))) ∧
    (k.x.idle = false → Completes (.fence t x) s (TileBecomes s t ({ k.x with fenced := true }.advance k.x.pc))) := by
  obtain ⟨hs, -, -, -⟩ := State.running_some d.runs
  refine ⟨fun hidle => d.completes_past rfl (by decide) ?_, fun hbusy => ?_⟩
  · dsimp only
    rw [if_pos hidle, hs]
  · refine d.completes_done (y := { k.x with fenced := true }) (f := {}) rfl (by decide) ?_ ⟨rfl, rfl, rfl⟩
    dsimp only
    rw [if_neg (by simp [hbusy])]
    rfl

theorem cdone_completes (d : Dispatches s t 0x08 x {} none k) :
    (k.x.idle = false → Completes (.cdone t x) s (TileBecomes s t { k.x with ending := true })) ∧
    (k.x.idle = true → k.r.emitLength = 0 → Completes (.cdone t x) s fun u =>
      (u.tile t).running = none ∧ ∃ c, u.chunk k.c.key = some c ∧ c.phase = 3) := by
  have htile : (s.setTile t { k.x with ending := true }).tile t = { k.x with ending := true } := s.tile_setTile_same t _
  have hwait : ((s.setTile t { k.x with ending := true }).tile t).HeadsWait := by
    rw [htile]
    exact d.heads
  have hissue := d.issue_stay (y := { k.x with ending := true }) (body := fun k => .stay (k.set { k.x with ending := true }))
    (by decide) rfl
  obtain ⟨-, -, htrapped⟩ := d.free
  refine ⟨fun hbusy => ⟨_, rfl, ?_⟩, fun hidle h0 => ⟨_, rfl, ?_⟩⟩
  · rw [hissue, State.settleQueues_of_busy hwait (by rw [htile]; exact hbusy)]
    exact tileBecomes_setTile s t _
  · have hrun := (tileBecomes_setTile s t { k.x with ending := true }).running d.runs rfl {}
    rw [hissue, State.settleQueues_of_ending hrun hwait (by rw [htile]; exact hidle) (by rw [htile]; exact htrapped)
      (by rw [htile])]
    exact Running.endChunk_ends hrun h0

theorem loop_completes (d : Dispatches s t 0x06 x { a := .s, imm := 0xFFF } none k) {n : Nat} (hn : immBits x 11 0 = n) (h0 : n ≠ 0)
    (hlast : k.x.pc + n < codeCount k.x.image) (hdepth : k.x.loops.length < 4) (hcount : k.sa < 2 ^ 32) :
    (k.sa = 0 → Completes (.loopS t x) s (TileBecomes s t (k.x.advance (k.x.pc + n)))) ∧
    (k.sa ≠ 0 → Completes (.loopS t x) s
      (TileBecomes s t { k.x with pc := k.x.pc + 1, loops := (k.x.pc + 1, k.x.pc + n, k.sa) :: k.x.loops })) := by
  obtain ⟨-, -, hw, -⟩ := State.running_some d.runs
  have hloop : k.loop = if k.sa = 0 then .stay (k.set (k.x.advance (k.x.pc + n)))
      else .stay (k.set { k.x with pc := k.x.pc + 1, loops := (k.x.pc + 1, k.x.pc + n, k.sa) :: k.x.loops }) := by
    unfold Running.loop
    rw [hw, hn]
    dsimp only
    rw [if_neg (by omega), if_neg (by omega)]
    rfl
  refine ⟨fun hzero => d.completes_stay rfl (by decide) (hloop.trans (if_pos hzero)) ⟨rfl, rfl, rfl⟩,
    fun hmore => d.completes_stay rfl (by decide) (hloop.trans (if_neg hmore)) ⟨rfl, rfl, rfl⟩⟩

theorem fenceComplete_completes (s : State) (t : Tile) :
    ((s.tile t).fenced = true → (s.tile t).idle = true →
      Completes (.fenceComplete t) s (TileBecomes s t { s.tile t with fenced := false })) ∧
    ((s.tile t).fenced = false ∨ (s.tile t).idle = false → exec (.fenceComplete t) s = .next s) := by
  refine ⟨fun hf hi => ⟨_, if_pos ⟨hf, hi⟩, tileBecomes_setTile s t _⟩, fun h => if_neg fun hboth => ?_⟩
  obtain ⟨hf, hi⟩ := hboth
  simp [hf, hi] at h

end Control

/-- Settles O19, instruction by instruction. -/
theorem tileControlFlow : Obligations.TileControlFlow := by
  unfold Obligations.TileControlFlow
  intro t x s k goes ready inside target
  have hbranch {op : Nat} {fl : Fields} (d : ready op fl) : k.s = s ∧ k.target = target ∧ TileBecomes s t k.x s := by
    obtain ⟨hs, -, hw, hx⟩ := State.running_some d.runs
    refine ⟨hs, ?_, hx.symm, fun _ _ => rfl, rfl⟩
    rw [Running.target_eq, hw]
  obtain ⟨hdone, hwaits⟩ := fenceComplete_completes s t
  refine ⟨fun d => ?nop, fun d => fence_completes d, fun d => cdone_completes d, fun d hin => ?jmp, fun d => ?beqz, fun d => ?bnez,
    fun d hin => ?jal, fun d hin => ?jr, fun d h0 hlast hdepth hcount => loop_completes d rfl h0 hlast hdepth hcount, hdone, hwaits⟩
  all_goals obtain ⟨hs, htarget, hself⟩ := hbranch d
  case nop => exact d.completes_past rfl (by decide) (by rw [hs])
  case jmp => exact d.completes_jump rfl (by decide) (by rw [hs, htarget]) hself hin
  case beqz =>
    refine ⟨fun hzero hin => d.completes_jump rfl (by decide) (target := target) ?_ hself hin,
      fun hmore => d.completes_past rfl (by decide) ?_⟩
    · simp [Running.branchIf, hzero, hs, htarget]
    · simp [Running.branchIf, hmore, hs]
  case bnez =>
    refine ⟨fun hmore hin => d.completes_jump rfl (by decide) (target := target) ?_ hself hin,
      fun hzero => d.completes_past rfl (by decide) ?_⟩
    · simp [Running.branchIf, hmore, hs, htarget]
    · simp [Running.branchIf, hzero, hs]
  case jal =>
    obtain ⟨-, ht, -, -⟩ := State.running_some d.runs
    refine d.completes_jump rfl (by decide) (u := s.setTile t (k.x.setS x.d.toNat (k.x.pc + 1))) ?_ (tileBecomes_setTile s t _) hin
    rw [htarget, Running.set, hs, ht]
  case jr => exact d.completes_jump rfl (by decide) (by rw [hs]) hself hin

end Sys2Proof

namespace Sys2Proof

open Sys2Proof.Machine

/-! ## DMA, exchange and landing (R108, R109, R111, R124–R126, R184)

### Input that is lost (R63, R184)

A chunk whose input has read uncorrectable waits for it again. Where the notice of that cannot be written, its operation ends, and with it
whatever follows: chunks may go then, but none comes or changes. One lemma for each function of the model, in the model's order. -/

/-- Between `s` and `t` no chunk has come or changed; some may have gone. -/
def NoNewChunks (s t : State) : Prop := t.work.chunks ⊆ s.work.chunks

namespace NoNewChunks

section Shape

variable {s t u : State}

protected theorem rfl : NoNewChunks s s := List.Subset.refl _

theorem trans (h : NoNewChunks s t) (h' : NoNewChunks t u) : NoNewChunks s u := List.Subset.trans h' h

theorem of_chunks (h : NoNewChunks s t) (hu : u.work.chunks = t.work.chunks) : NoNewChunks s u := by
  rw [NoNewChunks, hu]
  exact h

theorem kept (h : NoNewChunks s t) (h' : ChunksKept t u) : NoNewChunks s u := h.of_chunks h'.chunks

theorem reserves (h : NoNewChunks s t) (h' : Reserves t u) : NoNewChunks s u := h.of_chunks (congrArg WorkState.chunks h'.work)

/-- What changes of the work in hand no chunk. -/
theorem keepChunks {pending dict mem out freeCtr control events boot security meter line time work pools tiles fabric memory optics net
      power}
    (h : NoNewChunks s t) (hc : work.chunks = t.work.chunks) : NoNewChunks s ⟨pending, dict, mem, out, freeCtr, control, events,
      boot, security, meter, line, time, work, pools, tiles, fabric, memory, optics, net, power⟩ := h.of_chunks hc

/-- What leaves the work in hand as it was. -/
theorem keep {pending dict mem out freeCtr control events boot security meter line time pools tiles fabric memory optics net power}
    (h : NoNewChunks s t) : NoNewChunks s ⟨pending, dict, mem, out, freeCtr, control, events,
      boot, security, meter, line, time, t.work, pools, tiles, fabric, memory, optics, net, power⟩ := h

theorem ite {c : Prop} [Decidable c] (ht : NoNewChunks s t) (hu : NoNewChunks s u) : NoNewChunks s (if c then t else u) := by
  split
  · exact ht
  · exact hu

theorem each {α : Type} (h : NoNewChunks s t) (xs : List α) {f : State → α → State}
    (hf : ∀ u x, NoNewChunks s u → NoNewChunks s (f u x)) : NoNewChunks s (t.each xs f) :=
  State.each_keeps _ f hf xs t h

end Shape

variable {s t : State} {h c k g q w i gen seq status step handle cause unit : Nat} {o : Operation} {keep' : Bool} {r : Retained}

theorem raise (hs : NoNewChunks s t) (code : Nat) (a : EventArgs) : NoNewChunks s (t.raise code a) := hs.kept (ChunksKept.rfl.raise _ _)

theorem enqueue {r : EmitRequest} (hs : NoNewChunks s t) : NoNewChunks s (t.enqueue w r) := hs.kept ChunksKept.rfl.enqueue

theorem noteBadLines {lines : List Nat} (hs : NoNewChunks s t) : NoNewChunks s (t.noteBadLines lines) := by
  refine hs.each _ fun u l hu => ?_
  unfold State.noteUncorrectable
  extract_lets s1 y net memory s2 due
  have h2 : NoNewChunks s s2 := hu.keep
  exact ite (h2.keep.raise _ _) h2

theorem writeRecord {d : Bytes} {type flags place done : Nat} {chunk : Option Nat} (hs : NoNewChunks s t) :
    NoNewChunks s (t.writeRecord g d type flags status chunk place done) :=
  hs.of_chunks (congrArg WorkState.chunks (Posted.rfl.writeRecord ..).work)

/-! #### Buffers -/

theorem endEpisode (hs : NoNewChunks s t) : NoNewChunks s (t.endEpisode h k) := ite hs.keep hs.keep

theorem dropWaiting {p : PoolRequest → Bool} (hs : NoNewChunks s t) : NoNewChunks s (t.dropWaiting p) :=
  hs.keep.each _ fun _ _ hu => hu.endEpisode.reserves ((Reserves.rfl.trim _ _).countPools _)

theorem refuseFree {holder : Option Nat} (hs : NoNewChunks s t) : NoNewChunks s (t.refuseFree h handle holder) := by
  unfold State.refuseFree
  extract_lets frame die s1
  have h1 : NoNewChunks s s1 := hs.keep.raise _ _
  split
  · exact h1.keep
  · exact h1

theorem freeHandle {u : State} (hs : NoNewChunks s t) (e : t.freeHandle h handle = .freed u) : NoNewChunks s u := by
  unfold State.freeHandle at e
  split at e
  · nomatch e
  · dsimp only at e
    split at e
    · nomatch e
    · cases e
      exact hs.keep.reserves ((Reserves.rfl.trim _ _).countPools _)

theorem freeEach {handles : List Nat} (hs : NoNewChunks s t) : NoNewChunks s (t.freeEach h handles) := by
  refine hs.each _ fun u y hu => ?_
  split
  next e => exact hu.freeHandle e
  · exact hu.refuseFree

theorem keepFor {m : Option Nat} {handles : List Nat} (hs : NoNewChunks s t) : NoNewChunks s (t.keepFor m handles) := by
  refine hs.each _ fun u y hu => ?_
  split
  · exact hu
  · split
    · exact hu
    · exact hu.keep

theorem letGo {handles : List Nat} {m : Option Nat} (hs : NoNewChunks s t) : NoNewChunks s (t.letGo h m handles) :=
  ite hs.keepFor hs.freeEach

/-! #### Operations that end -/

theorem endLanding {m : Option Nat} (hs : NoNewChunks s t) : NoNewChunks s (t.endLanding h w gen i m) := letGo (hs.keepChunks (by rfl))

theorem leaveTile {x : Nat × Nat × Nat} (hs : NoNewChunks s t) : NoNewChunks s (t.leaveTile i x) := ite hs.keep hs.keep

theorem dropEmits (hs : NoNewChunks s t) : NoNewChunks s (t.dropEmits g seq) := hs.each _ fun _ _ hu => ite (hu.keep) hu

theorem endHoldings (hs : NoNewChunks s t) : NoNewChunks s (t.endHoldings g o keep') := by
  unfold State.endHoldings
  extract_lets hoop window mine s1 work2 s2 gens s3 streams xs work4 s4 s5 waits s6 s7 y
  have h1 : NoNewChunks s s1 := hs.each _ fun _ _ hu => hu.leaveTile
  have h2 : NoNewChunks s s2 := fun _ hc => h1 (List.mem_filter.1 hc).1
  have h3 : NoNewChunks s s3 := h2.each _ fun _ _ hu => hu.endLanding
  have h6 : NoNewChunks s s6 := (letGo (h3.keepChunks (by rfl) : NoNewChunks s s4)).dropWaiting.dropEmits
  exact h6.keepChunks (by rfl)

theorem endOpWith (hs : NoNewChunks s t) : NoNewChunks s (t.endOpWith keep' g o status) :=
  have h1 : NoNewChunks s (t.setOp g { o with ending := some status, phase := 2 }) := hs.keepChunks (by rfl)
  ite h1 (h1.endHoldings.each _ fun _ _ hu => ite hu (hu.keepChunks (by rfl)))

theorem settleMatch (hs : NoNewChunks s t) : NoNewChunks s (t.settleMatch h step) := hs.kept ChunksKept.rfl.settleMatch

theorem retain (hs : NoNewChunks s t) : NoNewChunks s (t.retain g o) := ite hs (hs.keepChunks (by rfl))

theorem runAgain {side redo : Nat} (hs : NoNewChunks s t) : NoNewChunks s (t.runAgain r side redo) := ite hs (hs.keepChunks (by rfl))

theorem abortOps (hs : NoNewChunks s t) : NoNewChunks s (t.abortOps g status keep') := by
  unfold State.abortOps
  extract_lets s1 y s2
  have h1 : NoNewChunks s s1 := hs.each _ fun _ _ hu => hu.endHoldings
  exact (h1.keepChunks (by rfl) : NoNewChunks s s2).each _ fun _ _ hu => hu.endOpWith

theorem forgetEvacuation (hs : NoNewChunks s t) : NoNewChunks s (t.forgetEvacuation h) := ite (hs.keepChunks (by rfl)) hs

theorem enterFault (hs : NoNewChunks s t) : NoNewChunks s (t.enterFault h cause unit) := by
  unfold State.enterFault
  extract_lets st s1 s2 s3
  have h1 : NoNewChunks s s1 := hs.raise _ _
  have h3 : NoNewChunks s s3 := (h1.keep : NoNewChunks s s2).each _ fun _ _ hu => hu.abortOps
  exact ite hs (ite h1 h3.dropWaiting.forgetEvacuation)

theorem resendStreams {sites : Nat} (hs : NoNewChunks s t) : NoNewChunks s (t.resendStreams h g o sites) := by
  unfold State.resendStreams
  dsimp only
  split
  · exact hs
  · exact hs.each _ fun _ _ hu => ite hu (ite hu.noteBadLines.enterFault
      (hu.each _ fun _ _ hv => hv.each _ fun _ _ hw => hw.enqueue))

theorem replay {x : Reconcile} (hs : NoNewChunks s t) : NoNewChunks s (t.replay h x r) :=
  ite hs.resendStreams (ite hs.resendStreams hs.resendStreams.runAgain)

theorem joinReplay (hs : NoNewChunks s t) : NoNewChunks s (t.joinReplay h g o) := by
  unfold State.joinReplay
  split
  · exact ite hs.replay hs
  · exact hs

theorem advanceStep (hs : NoNewChunks s t) : NoNewChunks s (t.advanceStep g o) := by
  have h1 : NoNewChunks s ((t.bump 32 (Obj.outerStepCounter (t.hoopOfGroup g)) 1).settleMatch (t.hoopOfGroup g) o.step) :=
    settleMatch hs.keep
  exact ite (ite (h1.raise _ _) h1) hs

theorem markBroken (hs : NoNewChunks s t) : NoNewChunks s (t.markBroken g) := ite (hs.keep.raise _ _) hs

theorem settleOps {n : Nat} (hs : NoNewChunks s t) : NoNewChunks s (State.settleOps n t g) := by
  induction n generalizing t with
  | zero => exact hs
  | succ n ih =>
    unfold State.settleOps
    split
    · exact hs
    · split
      · exact hs
      · split
        · exact ih (markBroken (endOpWith hs))
        · extract_lets place s1 s2 s3 s4
          have h1 : NoNewChunks s s1 := hs.writeRecord
          have h3 : NoNewChunks s s3 := (ite h1.retain h1 : NoNewChunks s s2).keepChunks (by rfl)
          have h4 : NoNewChunks s s4 := ite h3.endHoldings.advanceStep.joinReplay h3
          exact ih h4

theorem endRedo (hs : NoNewChunks s t) : NoNewChunks s (t.endRedo g o) := by
  unfold State.endRedo
  extract_lets status chunks s1 s2 s3 y s4
  have h1 : NoNewChunks s s1 := hs.writeRecord
  have h3 : NoNewChunks s s3 := (ite h1.retain h1 : NoNewChunks s s2).endHoldings
  clear_value s3
  have h4 : NoNewChunks s s4 := h3.keepChunks (by rfl)
  exact ite h4.advanceStep h4

theorem settleRecords (hs : NoNewChunks s t) : NoNewChunks s (t.settleRecords g) := hs.settleOps.each _ fun _ _ hu => hu.endRedo

theorem settleFault (hs : NoNewChunks s t) : NoNewChunks s (t.settleFault h) :=
  ite (hs.each _ fun _ _ hu => hu.settleRecords) hs

theorem faultHoop (hs : NoNewChunks s t) : NoNewChunks s (t.faultHoop h cause unit) := ite hs.enterFault hs.enterFault.settleFault

theorem settleFrees {n : Nat} (hs : NoNewChunks s t) : NoNewChunks s (State.settleFrees n t) := by
  induction n generalizing t with
  | zero => exact hs
  | succ n ih =>
    unfold State.settleFrees
    split
    · exact hs
    · exact ih (hs.keep.each _ fun _ _ hu => hu.faultHoop)

theorem settleHoop (hs : NoNewChunks s t) : NoNewChunks s (t.settleHoop h) := by
  have hstopped : NoNewChunks s (t.setNum (Obj.hoopState h) 4) := hs.keep
  exact ite (ite (ite (hstopped.keepChunks (by rfl)) (hstopped.keepChunks (by rfl))) hstopped) hs

theorem settleGroup (hs : NoNewChunks s t) : NoNewChunks s (t.settleGroup g) :=
  settleHoop (settleFrees (ite hs.settleRecords hs.settleRecords.settleFault))

theorem undeliverable (hs : NoNewChunks s t) : NoNewChunks s (t.undeliverable g seq) := by
  unfold State.undeliverable State.finishOp
  split
  · exact ite (settleGroup (endOpWith hs.markBroken)) hs.markBroken
  · exact hs.markBroken

end NoNewChunks

/-- A chunk's record that is set is the only one under its key. -/
theorem Machine.State.eq_of_mem_setChunk {s : State} {c x : Chunk} (h : x ∈ (s.setChunk c).work.chunks) (hx : x.key = c.key) : x = c := by
  rcases List.mem_append.1 h with h | h
  · exact absurd hx (by simpa using (List.mem_filter.1 h).2)
  · exact List.mem_singleton.1 h

/-- A chunk whose input is lost waits for it again, where it has not gone with its operation (R63, R184). -/
theorem Machine.State.inputLost_resupply (s : State) (g : Nat) (o : Operation) (i : Nat) {c : Chunk}
    (h : (s.inputLost g o i).chunk (g, o.seq, i) = some c) : c.resupply = true := by
  unfold State.inputLost at h
  dsimp only at h
  split at h
  next hnone => exact absurd (hnone.symm.trans h) nofun
  next c0 h0 =>
    have hkey0 : c0.key = (g, o.seq, i) := State.chunk_key h0
    have hkey : c.key = (g, o.seq, i) := State.chunk_key h
    generalize hc1 : { c0 with resupply := true, phase := if c0.phase = 2 then 1 else c0.phase } = c1 at h
    have hwaits : c1.resupply = true ∧ c1.key = (g, o.seq, i) := by
      rw [← hc1]
      exact ⟨rfl, hkey0⟩
    generalize (s.dropLanding (s.hoopOfGroup g) (dSourceWindow o.desc) o.generation i) = s1 at h
    have hset : NoNewChunks (s1.setChunk c1) (if c0.phase = 2 ∧ ((s1.setChunk c1).tile c0.tile).running = some c0.key then
        (s1.setChunk c1).setTile c0.tile ((s1.setChunk c1).tile c0.tile).stop else s1.setChunk c1) :=
      .ite NoNewChunks.rfl.keep .rfl
    have hmem := NoNewChunks.ite hset.writeRecord hset.undeliverable (List.mem_of_find?_eq_some h)
    rw [State.eq_of_mem_setChunk hmem (hkey.trans hwaits.2.symm)]
    exact hwaits.1

end Sys2Proof

namespace Sys2Proof

open Sys2Proof.Machine

/-! ### Instructions that enter the DMA queue (R110, R111, R124–R126) -/

theorem Machine.TileData.SameQueues.trans {x y z : TileData} (h : x.SameQueues y) (h' : y.SameQueues z) : x.SameQueues z :=
  ⟨h'.1.trans h.1, h'.2.1.trans h.2.1, h'.2.2.trans h.2.2⟩

theorem Machine.TileData.sameQueues_post (x : TileData) (w : TileWord) (n bytes : Nat) : x.SameQueues (x.post w n bytes) := by
  unfold TileData.post
  split
  · exact ⟨rfl, rfl, rfl⟩
  · exact .refl x

theorem Machine.TileData.sameQueues_postBoth (x : TileData) (w : TileWord) (n : Nat) : x.SameQueues (x.postBoth w n) :=
  (x.sameQueues_post w _ n).trans (TileData.sameQueues_post _ w _ n)

/-- An instruction that waits for something may enter an empty queue as well. -/
theorem Machine.TileData.HeadsWait.enter_waiting {x : TileData} (h : x.HeadsWait) (q : Nat) {op : TileOp} (hop : op.passes = false)
    (f : Footprint) (target : Nat) : (x.enter q op f target).HeadsWait := by
  by_cases hq : x.queue q = []
  · intro r hr j rest hj
    by_cases hrq : r = q
    · subst hrq
      rw [x.queue_enter_same, hq, List.nil_append, List.cons.injEq] at hj
      rw [← hj.1]
      exact hop
    · rw [x.queue_enter_other _ _ _ hrq] at hj
      exact h r hr j rest hj
  · exact h.enter hq op f target

theorem Machine.TileData.behind_of_empty {x : TileData} {q : Nat} (h : x.queue q = []) (f : Footprint) (target : Nat) :
    x.behind (some q) f target = x := if_pos h

section Enter

variable {s : State} {t : Tile} {x : TileWord} {k : Running} {op : Nat} {fl : Fields} {q : Option Nat} {body : Running → Issue}
  {y : TileData} {c : Instr} {n : Nat} {job : TileOp} {f : Footprint}

/-- What an instruction that enters a queue makes of the tile, before the queues are looked at. -/
theorem Dispatches.issue_enter (d : Dispatches s t op x fl q k) (hop : listedOpcode op = true) (htarget : fl.target op x = 0)
    (hbody : body k = .enter (k.set y) n job f) : ∃ u, TileBecomes s t ((y.advance k.x.pc).enter n job f 0) u ∧
      s.issue t op x fl q body = u.settleQueues t := by
  obtain ⟨hs, ht, -, -⟩ := State.running_some d.runs
  refine ⟨_, ((tileBecomes_setTile s t y).setTile (y.advance k.x.pc)).setTile _, ?_⟩
  rw [d.issue_eq hop, hbody, htarget]
  simp only [Running.settle, Running.past, Running.set, hs, ht, State.tile_setTile_same]

/-- An instruction that enters a queue and waits there, for what is there or for what stands before it. -/
theorem Dispatches.completes_enter (d : Dispatches s t op x fl q k) (hc : exec c s = .next (s.issue t op x fl q body))
    (hop : listedOpcode op = true) (htarget : fl.target op x = 0) (hbody : body k = .enter (k.set y) n job f)
    (hy : k.x.SameQueues y) (hwaits : job.passes = false ∨ k.x.queue n ≠ []) :
    Completes c s (TileBecomes s t ((y.advance k.x.pc).enter n job f 0)) := by
  obtain ⟨u, hu, hissue⟩ := d.issue_enter hop htarget hbody
  obtain ⟨-, hending, htrapped⟩ := d.free
  have hpast : (y.advance k.x.pc).HeadsWait := .of_sameQueues d.heads (y := y.advance k.x.pc) hy
  have hwait : ((y.advance k.x.pc).enter n job f 0).HeadsWait := by
    rcases hwaits with hjob | hbusy
    · exact hpast.enter_waiting n hjob f 0
    · refine hpast.enter (fun hempty => hbusy ?_) job f 0
      rw [← hempty]
      exact congrArg (fun m => Map.get [] m n) hy.1.symm
  refine ⟨_, hc, ?_⟩
  rw [hissue, State.settleQueues_of_waiting]
  · exact hu
  all_goals rw [hu.1]
  · exact hwait
  · exact hy.2.1.trans htrapped
  · exact hy.2.2.trans hending

/-- A DMA instruction that completes at once, behind nothing. -/
theorem Dispatches.completes_at_once (d : Dispatches s t op x fl (some n) k) (hc : exec c s = .next (s.issue t op x fl (some n) body))
    (hop : listedOpcode op = true) (hbody : body k = k.done y f) (hy : k.x.SameQueues y) (hempty : k.x.queue n = []) :
    Completes c s (TileBecomes s t (y.advance k.x.pc)) := by
  have hqueue : (y.advance k.x.pc).queue n = [] := (congrArg (fun m => Map.get [] m n) hy.1).trans hempty
  have h := d.completes_done hc hop hbody hy
  rwa [TileData.behind_of_empty hqueue] at h

theorem dld_enters (d : Dispatches s t 0x30 x { a := .a, b := .a, c := .s, imm := dmaImm } (some 3) k) (hpar : k.par ≠ 3)
    (ha : k.ta % 64 = 0) (hb : k.ab % 2 ^ 48 % 64 = 0) (hn : k.sc % 64 = 0) {p : Nat}
    (hp : k.regionCheck [(k.ab % 2 ^ 48, k.sc)] false = .ok p)
    (hfree : k.x.interlocked 3 { writes := hull [(k.ta, k.ta + k.sc)] } = false) (hfault : k.writeFault (k.ta, k.ta + k.sc) = none) :
    Completes (.dld t x) s (TileBecomes s t (((((k.x.define (k.ta, k.ta + k.sc)).postBoth x k.sc).advance k.x.pc).enter 3
      (.load (k.loadPieces p [(k.ab % 2 ^ 48, k.sc)])) { writes := hull [(k.ta, k.ta + k.sc)] } 0))) := by
  refine d.completes_enter rfl (by decide) rfl ?_ (TileData.sameQueues_postBoth (k.x.define _) x _) (.inl rfl)
  dsimp only [regionOffset]
  rw [if_neg hpar, if_neg (by omega), hp]
  exact Running.access_ok hfree (Running.accessFault_write hfault)

theorem dst_enters (d : Dispatches s t 0x31 x { a := .a, b := .a, c := .s, imm := dmaImm } (some 3) k) (hpar : k.par ≠ 3)
    (ha : k.ta % 64 = 0) (hb : k.ab % 2 ^ 48 % 64 = 0) (hn : k.sc % 64 = 0) {p : Nat}
    (hp : k.regionCheck [(k.ab % 2 ^ 48, k.sc)] true = .ok p)
    (hfree : k.x.interlocked 3 { reads := hull [(k.ta, k.ta + k.sc)] } = false) (hfault : k.readFault (k.ta, k.ta + k.sc) = none) :
    Completes (.dst t x) s (TileBecomes s t (((k.x.postBoth x k.sc).advance k.x.pc).enter 3
      (.store (k.binding k.region).1 p ((k.binding k.region).2 + k.ab % 2 ^ 48) k.ta k.sc
        (k.o.discards (regionDecl k.x.image k.region).cls)) { reads := hull [(k.ta, k.ta + k.sc)] } 0)) := by
  refine d.completes_enter rfl (by decide) rfl ?_ (TileData.sameQueues_postBoth k.x x _) (.inl rfl)
  dsimp only [regionOffset]
  rw [if_neg hpar, if_neg (by omega), hp]
  exact Running.access_ok hfree (Running.accessFault_read hfault)

/-- The region pieces that a DGATH's list names (R124). -/
def Machine.Running.gathered (k : Running) (size : Nat) : List (Nat × Nat) :=
  (List.range k.sc).map fun e => (leNat (k.x.read (k.tb + 4 * e) 4) * size, size)

theorem dgath_enters (d : Dispatches s t 0x32 x { a := .a, b := .a, c := .s, imm := gatherImm } (some 3) k) (hpar : k.par ≠ 3)
    (ha : k.ta % 64 = 0) (hb : k.tb % 64 = 0) (hn : k.sc ≤ 4096) {size : Nat} (hsize : 64 * (immBits x 15 8 + 1) = size)
    (hfree : k.x.interlocked 3 { reads := hull [(k.tb, k.tb + 4 * k.sc)], writes := hull [(k.ta, k.ta + k.sc * size)] } = false)
    (hlist : ∀ j ∈ k.x.queue 3, meets (k.tb, k.tb + 4 * k.sc) j.writes = false) (hread : k.readFault (k.tb, k.tb + 4 * k.sc) = none)
    (hwrite : k.writeFault (k.ta, k.ta + k.sc * size) = none) {p : Nat} (hp : k.regionCheck (k.gathered size) false = .ok p) :
    Completes (.dgath t x) s (TileBecomes s t ((((k.x.define (k.ta, k.ta + k.sc * size)).post x x.a.toNat (k.sc * size)).advance
      k.x.pc).enter 3 (.load (k.loadPieces p (k.gathered size)))
        { reads := hull [(k.tb, k.tb + 4 * k.sc)], writes := hull [(k.ta, k.ta + k.sc * size)] } 0)) := by
  have hpieces : (((List.range k.sc).map fun e => leNat (k.x.read (k.tb + 4 * e) 4) * size).map fun o => (o, size)) = k.gathered size :=
    List.map_map
  have hhold : ((k.x.queue 3).any fun j => meets (span k.tb (4 * k.sc)) j.writes) = false := List.any_eq_false.2 fun j hj => by
    simpa [span] using hlist j hj
  have hfault : k.accessFault [(k.tb, k.tb + 4 * k.sc)] [(k.ta, k.ta + k.sc * size)] = none := by
    simp [Running.accessFault, hread, hwrite]
  refine d.completes_enter rfl (by decide) rfl ?_ (TileData.sameQueues_post (k.x.define _) x _ _) (.inl rfl)
  dsimp only
  rw [hsize, if_neg hpar, if_neg (by omega), if_neg (Nat.not_lt.2 hn), if_neg (by simp [hhold])]
  refine (Running.access_ok hfree hfault).trans ?_
  rw [hpieces, hp]
  rfl

theorem dout_enters (d : Dispatches s t 0x33 x { a := .a, b := .s, c := .s } (some 3) k) (ha : k.ta % 64 = 0) (h0 : 0 < k.sc)
    (hn : k.sc ≤ 16777216) (hlength : dDestinationOffset k.o.desc + k.sb + k.sc ≤ k.targetLength)
    (hfree : k.x.interlocked 3 { reads := hull [(k.ta, k.ta + k.sc)] } = false) (hfault : k.readFault (k.ta, k.ta + k.sc) = none) :
    Completes (.dout t x) s (TileBecomes s t ((k.x.advance k.x.pc).enter 3 (.out k.sb k.ta k.sc)
      { reads := hull [(k.ta, k.ta + k.sc)] } 0)) := by
  refine d.completes_enter rfl (by decide) rfl ?_ (.refl _) (.inl rfl)
  dsimp only
  rw [if_neg (by omega), if_neg (by omega)]
  exact Running.access_ok hfree (Running.accessFault_read hfault)

theorem dxfer_completes (d : Dispatches s t 0x34 x { d := .s, a := .a, b := .s, c := .s } (some 3) k) (hlater : k.c.index < k.sd)
    (hchunk : k.sd < entryChunks k.e) (ha : k.ta % 64 = 0) (hb : k.sb % 64 = 0) (hn : k.sc % 64 = 0)
    (hplace : k.sb + k.sc ≤ exchangeSize k.x.image) (hfree : k.x.interlocked 3 { reads := hull [(k.ta, k.ta + k.sc)] } = false)
    (hfault : k.readFault (k.ta, k.ta + k.sc) = none) :
    (k.sc ≠ 0 → k.transferred k.sd k.sb k.sc = false → Completes (.dxfer t x) s (TileBecomes s t ((k.x.advance k.x.pc).enter 3
      (.transfer k.sd k.sb k.ta k.sc) { reads := hull [(k.ta, k.ta + k.sc)] } 0))) ∧
    (k.sc = 0 ∨ k.transferred k.sd k.sb k.sc = true → Completes (.dxfer t x) s (TileBecomes s t
      ((k.x.advance k.x.pc).behind (some 3) { reads := hull [(k.ta, k.ta + k.sc)] } 0))) := by
  have hchecks : ¬ (k.sd ≤ k.c.index ∨ entryChunks k.e ≤ k.sd) ∧
      ¬ (k.ta % 64 ≠ 0 ∨ k.sb % 64 ≠ 0 ∨ k.sc % 64 ≠ 0 ∨ exchangeSize k.x.image < k.sb + k.sc) := by omega
  refine ⟨fun h0 hnew => d.completes_enter rfl (by decide) rfl ?_ (.refl _) (.inl rfl),
    fun hold => d.completes_done rfl (by decide) ?_ (.refl _)⟩
  all_goals
    dsimp only
    rw [if_neg hchecks.1, if_neg hchecks.2]
    refine (Running.access_ok hfree (Running.accessFault_read hfault)).trans ?_
  · rw [if_neg (by simp [h0, hnew])]
    rfl
  · rw [if_pos hold]
    rfl

theorem dxwait_completes (d : Dispatches s t 0x35 x { a := .s } (some 3) k) (hn : k.sa ≤ exchangeSize k.x.image)
    (hfree : k.x.interlocked 3 { writes := (exchangeBase k.x.image, exchangeBase k.x.image + k.sa) } = false) :
    (k.exchangeArrived k.sa = true → k.x.queue 3 = [] → Completes (.dxwait t x) s (TileBecomes s t
      ({ k.x with exchanged := max k.x.exchanged k.sa }.advance k.x.pc))) ∧
    (k.exchangeArrived k.sa = false ∨ k.x.queue 3 ≠ [] → Completes (.dxwait t x) s (TileBecomes s t
      (({ k.x with exchanged := max k.x.exchanged k.sa }.advance k.x.pc).enter 3 (.exchange k.sa)
        { writes := (exchangeBase k.x.image, exchangeBase k.x.image + k.sa) } 0))) := by
  have hbody (b : Issue) (hb : b = if k.exchangeArrived k.sa ∧ k.x.queue 3 = [] then
        k.done { k.x with exchanged := max k.x.exchanged k.sa }
      else .enter (k.set { k.x with exchanged := max k.x.exchanged k.sa }) 3 (.exchange k.sa)
        { writes := (exchangeBase k.x.image, exchangeBase k.x.image + k.sa) }) :
      (if exchangeSize k.x.image < k.sa then Issue.raise Ex.range
        else if k.x.interlocked 3 { writes := span (exchangeBase k.x.image) k.sa } then .hold else b) = b := by
    rw [if_neg (Nat.not_lt.2 hn), if_neg (by simp [span, hfree])]
  refine ⟨fun harrived hempty => d.completes_at_once rfl (by decide) ((hbody _ rfl).trans (if_pos ⟨harrived, hempty⟩))
      ⟨rfl, rfl, rfl⟩ hempty,
    fun hwaits => d.completes_enter rfl (by decide) rfl ((hbody _ rfl).trans (if_neg ?_)) ⟨rfl, rfl, rfl⟩ (.inl rfl)⟩
  rintro ⟨harrived, hempty⟩
  exact hwaits.elim (fun h => by simp [h] at harrived) fun h => h hempty

theorem dclaim_completes (d : Dispatches s t 0x36 x { a := .s, b := .s } (some 3) k) (hn : k.sa + k.sb ≤ k.contributors)
    (hfree : k.x.interlocked 3 { writes := hull (k.slotRanges k.sa k.sb) } = false) :
    (k.slotsIn k.sa k.sb = true → k.x.queue 3 = [] → Completes (.dclaim t x) s (TileBecomes s t
      ({ k.x with claims := k.x.claims ++ [(k.sa, k.sb)] }.advance k.x.pc))) ∧
    (k.slotsIn k.sa k.sb = false ∨ k.x.queue 3 ≠ [] → Completes (.dclaim t x) s (TileBecomes s t
      (({ k.x with claims := k.x.claims ++ [(k.sa, k.sb)] }.advance k.x.pc).enter 3 (.claim k.sa k.sb)
        { writes := hull (k.slotRanges k.sa k.sb) } 0))) := by
  have hbody (b : Issue) : (if k.contributors < k.sa + k.sb then Issue.raise Ex.range
      else if k.x.interlocked 3 { writes := hull (k.slotRanges k.sa k.sb) } then .hold else b) = b := by
    rw [if_neg (Nat.not_lt.2 hn), if_neg (by simp [hfree])]
  refine ⟨fun hin hempty => d.completes_at_once rfl (by decide) ((hbody _).trans (if_pos ⟨hin, hempty⟩)) ⟨rfl, rfl, rfl⟩ hempty,
    fun hwaits => d.completes_enter rfl (by decide) rfl ((hbody _).trans (if_neg ?_)) ⟨rfl, rfl, rfl⟩ (.inl rfl)⟩
  rintro ⟨hin, hempty⟩
  exact hwaits.elim (fun h => by simp [h] at hin) fun h => h hempty

end Enter
end Sys2Proof

namespace Sys2Proof

open Sys2Proof.Machine

/-! ### DREL (R126) -/

/-- The tile with the chunk's zone free, where the chunk still has it. -/
def Machine.Running.freed (k : Running) (x : TileData) : TileData :=
  if x.zone k.c.zone = some k.c.key then x.setZone k.c.zone none else x

theorem Machine.TileData.setZone_only (x : TileData) (z : Nat) (c : Option (Nat × Nat × Nat)) :
    ∃ zone0 zone1, x.setZone z c = { x with zone0 := zone0, zone1 := zone1 } := by
  unfold TileData.setZone
  split <;> exact ⟨_, _, rfl⟩

theorem Machine.TileData.zone_setZone (x : TileData) (z : Nat) (c : Option (Nat × Nat × Nat)) : (x.setZone z c).zone z = c := by
  unfold TileData.setZone TileData.zone
  split <;> rfl

theorem Machine.Running.freed_only (k : Running) (x : TileData) :
    ∃ zone0 zone1, k.freed x = { x with zone0 := zone0, zone1 := zone1 } := by
  unfold Running.freed
  split
  · exact x.setZone_only _ _
  · exact ⟨_, _, rfl⟩

theorem Machine.Running.head_release (k : Running) (s : State) {j : TileJob} (hj : j.op = .release) :
    ∃ u, k.head s j = .completed u ∧ TileBecomes s k.t (k.freed (s.tile k.t)) u := by
  unfold Running.freed Running.head
  rw [hj]
  dsimp only
  split
  · exact ⟨_, rfl, tileBecomes_setTile s k.t _⟩
  · exact ⟨s, rfl, rfl, fun _ _ => rfl, rfl⟩

/-- A queue that is empty, or whose head waits, stays as it is. -/
theorem Machine.Running.settleQueue_still (k : Running) {s : State} {q : Nat}
    (h : ∀ j rest, (s.tile k.t).queue q = j :: rest → j.op.passes = false) (n : Nat) : k.settleQueue q n s = (s, none) := by
  cases n with
  | zero => rfl
  | succ n =>
    unfold Running.settleQueue
    split
    · rfl
    next j rest hj => rw [k.head_of_waiting s (h j rest hj)]

/-- A DREL alone in its queue frees the zone and leaves the queue. -/
theorem Machine.Running.settleQueue_release (k : Running) {s : State} {q : Nat} {j : TileJob} (hq : (s.tile k.t).queue q = [j])
    (hj : j.op = .release) (n : Nat) : ∃ u, k.settleQueue q (n + 1) s = (u, none) ∧
      TileBecomes s k.t ((k.freed (s.tile k.t)).setQueue q []) u := by
  obtain ⟨v, hhead, hv⟩ := k.head_release s hj
  refine ⟨_, ?_, hv.setTile _⟩
  rw [Running.settleQueue, hq]
  dsimp only
  rw [hhead]
  dsimp only
  rw [hv.1]
  refine k.settleQueue_still (fun i more hi => ?_) n
  rw [State.tile_setTile_same, TileData.queue_setQueue_same] at hi
  exact absurd hi nofun

/-- The queues of a tile whose DMA queue holds a DREL alone, where every other head waits. -/
theorem Machine.State.settleQueues_release {s : State} {t : Nat} {k : Running} (hrun : s.running t {} = some k) {j : TileJob}
    (hq : k.x.queue 3 = [j]) (hj : j.op = .release)
    (hwait : ∀ q, q ≠ 3 → q < 5 → ∀ i more, k.x.queue q = i :: more → i.op.passes = false)
    (ht : k.x.trapped = none) (he : k.x.ending = false) :
    TileBecomes s t ((k.freed k.x).setQueue 3 []) (s.settleQueues t) := by
  obtain ⟨hs, htile, -, hx⟩ := State.running_some hrun
  have hx' : s.tile k.t = k.x := by rw [htile, hx]
  obtain ⟨u, hu, hbecomes⟩ := k.settleQueue_release (by rw [hx', hq]) hj 16
  rw [hx'] at hbecomes
  obtain ⟨zone0, zone1, hfreed⟩ := k.freed_only k.x
  have hstill (q : Nat) (h3 : q ≠ 3) (h5 : q < 5) : k.settleQueue q 17 s = (s, none) :=
    k.settleQueue_still (by rw [hx']; exact hwait q h3 h5) 17
  have hlast : k.settleQueue 4 17 u = (u, none) := by
    refine k.settleQueue_still (fun i more hi => ?_) 17
    rw [hbecomes.1, TileData.queue_setQueue_other _ _ (by decide), hfreed] at hi
    exact hwait 4 (by decide) (by decide) i more hi
  have hkept : (u.tile k.t).trapped = none ∧ (u.tile k.t).ending = false := by
    rw [hbecomes.1, hfreed]
    exact ⟨ht, he⟩
  have hsettled : s.settleQueues t = u := by
    rw [htile] at hkept
    unfold State.settleQueues
    rw [hrun]
    simp [hstill, hu, hlast, hkept]
  rw [hsettled, ← htile]
  exact hbecomes

section Release

variable {s : State} {t : Tile} {x : TileWord} {k : Running}

theorem drel_completes (d : Dispatches s t 0x37 x {} (some 3) k) :
    (k.x.queue 3 = [] → Completes (.drel t x) s fun u => (u.tile t).released = true ∧
      (k.x.zone k.c.zone = some k.c.key → (u.tile t).zone k.c.zone = none) ∧ { u with tiles := s.tiles } = s) ∧
    (k.x.queue 3 ≠ [] → Completes (.drel t x) s
      (TileBecomes s t (({ k.x with released := true }.advance k.x.pc).enter 3 .release {} 0))) := by
  refine ⟨fun hempty => ⟨_, rfl, ?_⟩, fun hbusy => d.completes_enter rfl (by decide) rfl rfl ⟨rfl, rfl, rfl⟩ (.inr hbusy)⟩
  obtain ⟨u, hu, hissue⟩ := d.issue_enter (y := { k.x with released := true }) (n := 3) (job := .release) (f := {})
    (body := fun k => .enter (k.set { k.x with released := true }) 3 .release {}) (by decide) rfl rfl
  obtain ⟨-, hending, htrapped⟩ := d.free
  have hrun := hu.running d.runs rfl {}
  have hqueue : ({ k.x with released := true }.advance k.x.pc).queue 3 = [] := hempty
  generalize hk : Running.mk u k.t {} _ k.c k.o k.e k.r = k' at hrun
  have hkx : k'.x = ({ k.x with released := true }.advance k.x.pc).enter 3 .release {} 0 := by rw [← hk]
  have hkc : k'.c = k.c := by rw [← hk]
  obtain ⟨hself, -, hrest⟩ := State.settleQueues_release hrun
    (by rw [hkx, TileData.queue_enter_same, hqueue, List.nil_append]) rfl
    (fun q h3 h5 i more hi => by
      rw [hkx, TileData.queue_enter_other _ _ _ _ h3] at hi
      exact d.heads q h5 i more hi)
    (by rw [hkx]; exact htrapped) (by rw [hkx]; exact hending)
  obtain ⟨zone0, zone1, hfreed⟩ := k'.freed_only k'.x
  rw [hissue, hself]
  refine ⟨?_, fun hzone => ?_, ?_⟩
  · rw [hfreed, hkx]
    rfl
  · have hhas : k'.x.zone k'.c.zone = some k'.c.key := by
      rw [hkx, hkc]
      exact hzone
    rw [Running.freed, if_pos hhas, ← hkc]
    exact k'.x.zone_setZone _ _
  · exact (congrArg (fun v : State => { v with tiles := s.tiles }) hrest).trans hu.2.2

end Release

/-! ### The head of the DMA queue completes (R124, R125) -/

/-- Tile t runs a chunk, as `k` says, with `j` at the head of its DMA queue and `rest` behind it; no exception and no CDONE waits, and
nothing that completes by itself is at the head of another queue or comes to the head of this one. -/
structure AtDmaHead (s : State) (t : Tile) (k : Running) (j : TileJob) (rest : List TileJob) : Prop where
  runs : s.running t {} = some k
  notEnding : k.x.ending = false
  notTrapped : k.x.trapped = none
  queue : k.x.queue 3 = j :: rest
  heads : ∀ q < 5, ∀ i more, (if q = 3 then rest else k.x.queue q) = i :: more → i.op.passes = false

/-- The tile with the head of the DMA queue gone: what was withheld may be dispatched (R110). -/
def Machine.TileData.popDma (x : TileData) (rest : List TileJob) : TileData := { x.setQueue 3 rest with withheld := false }

namespace AtDmaHead

variable {s v : State} {t : Tile} {k : Running} {j : TileJob} {rest : List TileJob} {y : TileData}

/-- Taking the head off changes the tile's queue and no more. -/
theorem popQueue (a : AtDmaHead s t k j rest) (hv : v.tile t = y) (hy : k.x.SameQueues y) :
    v.popQueue t 3 = v.setTile t (y.popDma rest) := by
  obtain ⟨hqueues, htrapped, hending⟩ := hy
  have hsame (q : Nat) : y.queue q = k.x.queue q := congrArg (fun m => Map.get [] m q) hqueues
  have hdrop : (y.queue 3).drop 1 = rest := by rw [hsame, a.queue, List.drop_one, List.tail_cons]
  have hwait : (y.setQueue 3 rest).HeadsWait := by
    intro q hq i more hi
    refine a.heads q hq i more ?_
    by_cases h3 : q = 3
    · rw [h3, TileData.queue_setQueue_same] at hi
      rw [if_pos h3, hi]
    · rw [TileData.queue_setQueue_other _ _ h3, hsame] at hi
      rw [if_neg h3, hi]
  rw [State.popQueue_of_waiting] <;> rw [hv]
  · rw [hdrop]
    rfl
  · rw [hdrop]
    exact hwait
  · exact htrapped.trans a.notTrapped
  · exact hending.trans a.notEnding

theorem becomes_popDma (a : AtDmaHead s t k j rest) (hv : TileBecomes s t y v) (hy : k.x.SameQueues y) :
    TileBecomes s t (y.popDma rest) (v.popQueue t 3) := by
  rw [a.popQueue hv.1 hy]
  exact hv.setTile _

theorem tile (a : AtDmaHead s t k j rest) : TileBecomes s t k.x s := by
  obtain ⟨-, -, -, hx⟩ := State.running_some a.runs
  exact ⟨hx.symm, fun _ _ => rfl, rfl⟩

end AtDmaHead

/-! #### A load (R124, R184, R202) -/

theorem Machine.State.extents_of_tiles (n : Nat) (s : State) (m : Map TileData) (frames : List Nat) (off len : Nat) :
    State.extents n { s with tiles := m } frames off len = State.extents n s frames off len := by
  induction n generalizing off len with
  | zero => rfl
  | succ n ih =>
    have hframe (l : Nat) : State.frameOfLogical { s with tiles := m } l = s.frameOfLogical l := rfl
    simp only [State.extents, hframe, ih]

/-- What a tile holds has no part in what a plan buffer reads as. -/
theorem TileBecomes.readPlan {s u : State} {t : Nat} {y : TileData} (hu : TileBecomes s t y u) (h b p o n : Nat) :
    u.readPlan h b p o n = s.readPlan h b p o n := by
  obtain ⟨-, -, hrest⟩ := hu
  refine Eq.trans ?_ (congrArg (fun v : State => v.readPlan h b p o n) hrest)
  simp only [State.readPlan, State.readFrames, State.extents_of_tiles]
  rfl

/-- A load's pieces written to the tile's store in turn, from the module memory of `s`. -/
def Machine.Running.filled (k : Running) (s : State) (pieces : List LoadPiece) (y : TileData) : TileData :=
  pieces.foldl (fun y p => y.write p.place (s.readPlan k.h p.buffer p.parity p.off p.len)) y

theorem Machine.Running.filled_only (k : Running) (s : State) (pieces : List LoadPiece) (y : TileData) :
    ∃ store, k.filled s pieces y = { y with store := store } := by
  induction pieces generalizing y with
  | nil => exact ⟨_, rfl⟩
  | cons p l ih => exact ih _

theorem Machine.Running.filled_popDma (k : Running) (s : State) (pieces : List LoadPiece) (y : TileData) (rest : List TileJob) :
    k.filled s pieces (y.popDma rest) = (k.filled s pieces y).popDma rest :=
  List.foldl_hom (fun y : TileData => y.popDma rest) fun _ _ => rfl

/-- Whole pieces reach the tile's store one after the other. -/
theorem Machine.Running.each_place_becomes (k : Running) {s u : State} {y : TileData} (hu : TileBecomes s k.t y u) {pieces : List LoadPiece}
    (hwhole : ∀ p ∈ pieces, p.torn = []) : TileBecomes s k.t (k.filled s pieces y) (u.each pieces k.place) := by
  induction pieces generalizing u y with
  | nil => exact hu
  | cons p l ih =>
    have hplace : k.place u p = u.setTile k.t (y.write p.place (s.readPlan k.h p.buffer p.parity p.off p.len)) := by
      rw [Running.place, hwhole p (List.mem_cons_self ..), State.storeTile, hu.readPlan, hu.1]
      rfl
    have hnext := hu.setTile (y.write p.place (s.readPlan k.h p.buffer p.parity p.off p.len))
    rw [← hplace] at hnext
    exact ih hnext fun q hq => hwhole q (List.mem_cons_of_mem _ hq)

theorem Machine.State.ownerFault_faults {s : State} {h : Nat} (hs : s.num (Obj.hoopState h) ≠ 0) (frame : Nat) :
    (s.ownerFault h frame).num (Obj.hoopState h) = 6 := by
  have hkept : (s.raise Ev.ownerTagMismatch { hoop := h, unit := frame }).num (Obj.hoopState h) = s.num (Obj.hoopState h) :=
    (Settled.rfl.raise_in (List.Subset.refl _) _ _).objs.linear (by decide)
  exact State.hoopFault_faults (hkept ▸ hs) _ _

/-- A read that fails outside a chunk's input faults the hoop (R184). -/
theorem Machine.State.noteBadLines_hoopFault_faults {s : State} {h : Nat} (hs : s.num (Obj.hoopState h) ≠ 0) (lines : List Nat)
    (cause unit : Nat) : ((s.noteBadLines lines).hoopFault h cause unit).num (Obj.hoopState h) = 6 := by
  have hkept : (s.noteBadLines lines).num (Obj.hoopState h) = s.num (Obj.hoopState h) :=
    (Settled.rfl.noteBadLines_in (List.Subset.refl _)).objs.linear (by decide)
  exact State.hoopFault_faults (hkept ▸ hs) _ _

/-- The lines that read uncorrectable under a piece of a load. -/
def Machine.Running.badUnder (k : Running) (s : State) (p : LoadPiece) : List Nat :=
  s.badIn (s.planExtents k.h p.buffer p.parity p.off p.len)

/-- The frame of another hoop under a piece of a load. -/
def Machine.Running.foreignUnder (k : Running) (s : State) (p : LoadPiece) : Option Nat :=
  s.foreignPlan k.h p.buffer p.parity p.off p.len

section Load

variable {s : State} {t : Tile} {k : Running} {j : TileJob} {rest : List TileJob} {pieces : List LoadPiece}

theorem Machine.Running.loaded_foreign (h : ∃ p ∈ pieces, (k.foreignUnder s p).isSome = true) :
    ∃ frame, k.loaded s pieces = s.ownerFault k.h frame := by
  obtain ⟨frame, hframe⟩ := Option.isSome_iff_exists.1 (List.findSome?_isSome_iff.2 h)
  refine ⟨frame, ?_⟩
  unfold Running.loaded
  extract_lets bad input
  exact hframe ▸ rfl

/-- Where no frame is another hoop's, the lines that read uncorrectable decide. -/
theorem Machine.Running.loaded_own (h : ∀ p ∈ pieces, k.foreignUnder s p = none) {bad : List Nat}
    (hbad : pieces.flatMap (k.badUnder s) = bad) : k.loaded s pieces =
      if bad = [] then (s.each pieces k.place).popQueue k.t 3
      else if bad.all (pieces.flatMap fun x => (k.inputPieces x).flatMap fun r =>
        s.badIn (s.planExtents k.h x.buffer x.parity r.1 r.2)).contains then (s.noteBadLines bad).inputLost k.c.group k.o k.c.index
      else (s.noteBadLines bad).hoopFault k.h 1 (s.channelOf (bad.headD 0 * 64)) := by
  subst hbad
  have hnone : (pieces.findSome? fun x => s.foreignPlan k.h x.buffer x.parity x.off x.len) = none := List.findSome?_eq_none_iff.2 h
  unfold Running.loaded
  dsimp only
  rw [hnone]
  rfl

theorem flatMap_badUnder_ne_nil (h : ∃ p ∈ pieces, k.badUnder s p ≠ []) : pieces.flatMap (k.badUnder s) ≠ [] := fun hnil => by
  obtain ⟨p, hp, hbad⟩ := h
  exact hbad (List.flatMap_eq_nil_iff.1 hnil p hp)

/-- A load of bytes that all read puts them into the tile store. -/
theorem AtDmaHead.load_fills (a : AtDmaHead s t k j rest)
    (h : ∀ p ∈ pieces, p.torn = [] ∧ k.foreignUnder s p = none ∧ k.badUnder s p = []) :
    TileBecomes s t (k.filled s pieces (k.x.popDma rest)) (k.loaded s pieces) := by
  obtain ⟨-, ht, -, -⟩ := State.running_some a.runs
  have hbad : pieces.flatMap (k.badUnder s) = [] := List.flatMap_eq_nil_iff.2 fun p hp => (h p hp).2.2
  obtain ⟨store, hfilled⟩ := k.filled_only s pieces k.x
  have hplaced : TileBecomes s t (k.filled s pieces k.x) (s.each pieces k.place) := by
    rw [← ht]
    refine k.each_place_becomes ?_ fun p hp => (h p hp).1
    rw [ht]
    exact a.tile
  rw [Running.loaded_own (fun p hp => (h p hp).2.1) hbad, if_pos rfl, ht, Running.filled_popDma]
  refine a.becomes_popDma hplaced ?_
  rw [hfilled]
  exact ⟨rfl, rfl, rfl⟩

/-- A load that meets an uncorrectable line, no piece of it being input of the chunk, faults the hoop. -/
theorem loaded_faults (hown : ∀ p ∈ pieces, k.foreignUnder s p = none) (hbad : ∃ p ∈ pieces, k.badUnder s p ≠ [])
    (hinput : ∀ p ∈ pieces, k.inputPieces p = []) (hs : s.num (Obj.hoopState k.h) ≠ 0) :
    (k.loaded s pieces).num (Obj.hoopState k.h) = 6 := by
  have hne := flatMap_badUnder_ne_nil hbad
  have hnone : (pieces.flatMap fun x => (k.inputPieces x).flatMap fun r =>
      s.badIn (s.planExtents k.h x.buffer x.parity r.1 r.2)) = [] :=
    List.flatMap_eq_nil_iff.2 fun p hp => by rw [hinput p hp, List.flatMap_nil]
  obtain ⟨l, hl⟩ := List.exists_mem_of_ne_nil _ hne
  rw [Running.loaded_own hown rfl, if_neg hne, hnone, if_neg]
  · exact State.noteBadLines_hoopFault_faults hs _ _ _
  · exact fun hall => absurd (List.all_eq_true.1 hall l hl) (by simp)

/-- The operation of a tile that runs is its chunk's. -/
theorem Machine.State.running_seq {w : TileWord} (h : s.running t w = some k) : k.o.seq = k.c.seq := by
  simp only [State.running, Option.bind_eq_some_iff, Option.map_eq_some_iff] at h
  obtain ⟨key, -, c, hc, o, ho, -, -, -, -, rfl⟩ := h
  exact (State.operation_seq ho).trans (congrArg (fun n : Nat × Nat × Nat => n.2.1) (State.chunk_key hc)).symm

/-- A load of the chunk's input alone that meets an uncorrectable line asks for the input again. -/
theorem AtDmaHead.loaded_resupply (a : AtDmaHead s t k j rest)
    (hinput : ∀ p ∈ pieces, k.foreignUnder s p = none ∧ k.inputPieces p = [(p.off, p.len)])
    (hbad : ∃ p ∈ pieces, k.badUnder s p ≠ []) {c : Chunk} (hc : (k.loaded s pieces).chunk k.c.key = some c) : c.resupply = true := by
  have hsame : (pieces.flatMap fun x => (k.inputPieces x).flatMap fun r => s.badIn (s.planExtents k.h x.buffer x.parity r.1 r.2)) =
      pieces.flatMap (k.badUnder s) := List.flatMap_congr fun p hp => by
    rw [(hinput p hp).2, List.flatMap_cons, List.flatMap_nil, List.append_nil]
    rfl
  rw [Running.loaded_own (fun p hp => (hinput p hp).1) rfl, if_neg (flatMap_badUnder_ne_nil hbad), hsame, if_pos] at hc
  · have hkey : k.c.key = (k.c.group, k.o.seq, k.c.index) := by
      rw [State.running_seq a.runs]
      rfl
    rw [hkey] at hc
    exact State.inputLost_resupply _ _ _ _ hc
  · exact List.all_eq_true.2 fun l hl => List.contains_iff_mem.2 hl

end Load
end Sys2Proof

namespace Sys2Proof

open Sys2Proof.Machine

/-! #### A delivery to another chunk leaves every queue as it is (R125, R198) -/

/-- Between `s` and `t` no tile has changed. -/
def TilesKept (s t : State) : Prop := t.tiles = s.tiles

namespace TilesKept

variable {s t : State}

theorem setNum (h : TilesKept s t) (k n : Nat) : TilesKept s (t.setNum k n) := h

theorem each {α : Type} (h : TilesKept s t) (l : List α) {f : State → α → State} (hf : ∀ u x, TilesKept s u → TilesKept s (f u x)) :
    TilesKept s (t.each l f) :=
  State.each_keeps _ f hf l t h

theorem countPools (h : TilesKept s t) (x : Nat) : TilesKept s (t.countPools x) := by
  unfold State.countPools
  exact (h.setNum _ _ |>.each _ (fun _ _ hu => hu.setNum _ _)).setNum _ _ |>.setNum _ _ |>.setNum _ _
    |>.each _ fun _ _ hu => hu.setNum _ _ |>.setNum _ _ |>.setNum _ _ |>.setNum _ _

end TilesKept

theorem Machine.State.allocated_tiles (s : State) (h k : Nat) : (s.allocated h k).tiles = s.tiles :=
  ((show TilesKept s s from rfl).countPools h).setNum _ _

theorem Machine.State.endEpisode_tiles (s : State) (h k : Nat) : (s.endEpisode h k).tiles = s.tiles := by
  unfold State.endEpisode
  dsimp only
  split <;> rfl

theorem Machine.State.takeBuffer_tiles {s : State} {h c : Nat} {tag : BufferTag} {r : State × Nat} (e : s.takeBuffer h c tag = some r) :
    r.1.tiles = s.tiles := by
  obtain ⟨m, -, hm⟩ := List.exists_of_findSome?_eq_some e
  obtain ⟨x, -, rfl⟩ := Option.map_eq_some_iff.1 hm
  rfl

theorem Machine.State.carve_tiles {s : State} {h owner c : Nat} {r : State × Nat} (e : s.carve h owner c = some r) :
    r.1.tiles = s.tiles := by
  obtain ⟨m, -, hm⟩ := List.exists_of_findSome?_eq_some e
  obtain ⟨f, -, rfl⟩ := Option.map_eq_some_iff.1 hm
  rfl

theorem Machine.State.grant_tiles {s : State} {h k c : Nat} {group : Option Nat} {r : State × Nat} (e : s.grant h k group c = some r) :
    r.1.tiles = s.tiles := by
  obtain ⟨u, hu, rfl⟩ := Option.map_eq_some_iff.1 e
  refine (u.1.allocated_tiles h k).trans ?_
  split at hu
  · exact State.takeBuffer_tiles hu
  · split at hu
    · obtain ⟨v, hv, hu⟩ := Option.bind_eq_some_iff.1 hu
      exact (State.takeBuffer_tiles hu).trans (State.carve_tiles hv)
    · nomatch hu

/-- A buffer granted changes no tile. -/
theorem Machine.State.poolRequest_tiles {s : State} {h k c : Nat} {group : Option Nat} {r : State × Nat}
    (e : s.poolRequest h k group c = some r) : r.1.tiles = s.tiles := by
  unfold State.poolRequest at e
  split at e
  · nomatch e
  · obtain ⟨u, hu, rfl⟩ := Option.map_eq_some_iff.1 e
    exact (u.1.endEpisode_tiles h k).trans (State.grant_tiles hu)

theorem Machine.State.noteTransfer_tiles (s : State) (key : Nat × Nat × Nat) (chunk offset n : Nat) :
    (s.noteTransfer key chunk offset n).tiles = s.tiles := by
  unfold State.noteTransfer
  split <;> rfl

/-- Bytes written into a tile's store leave every tile's queues as they are. -/
theorem Machine.State.sameQueues_storeTile (s : State) (t a : Nat) (b : Bytes) (i : Nat) :
    (s.tile i).SameQueues ((s.storeTile t a b).tile i) := by
  by_cases hi : i = t
  · subst hi
    rw [State.storeTile, State.tile_setTile_same]
    exact ⟨rfl, rfl, rfl⟩
  · rw [State.storeTile, State.tile_setTile_other _ _ hi]
    exact TileData.SameQueues.refl _

theorem Machine.TileData.SameQueues.of_tiles {s u : State} (h : u.tiles = s.tiles) (i : Nat) : (s.tile i).SameQueues (u.tile i) := by
  rw [State.tile, State.tile, h]
  exact TileData.SameQueues.refl _

theorem Machine.Running.deliver_unbound_tiles {k : Running} {s v : State} {chunk : Nat} {data : Bytes} {x x' : Exchange}
    {done : State → State} (hdone : ∀ u, (done u).tiles = u.tiles) (e : Running.deliver.unbound k s chunk data x x' done = some v) :
    v.tiles = s.tiles := by
  unfold Running.deliver.unbound at e
  dsimp only at e
  split at e
  · cases e
    exact hdone _
  · split at e
    · nomatch e
    · split at e
      next hr =>
        cases e
        exact (hdone _).trans (State.poolRequest_tiles hr)
      · nomatch e

/-- A delivery may write into the store of the chunk's tile; what stands in the queues it leaves. -/
theorem Machine.Running.sameQueues_deliver {k : Running} {s v : State} {chunk offset : Nat} {data : Bytes}
    (e : k.deliver s chunk offset data = some v) (i : Nat) : (s.tile i).SameQueues (v.tile i) := by
  have hnoted (u : State) : (u.noteTransfer k.c.key chunk offset data.length).tiles = u.tiles := u.noteTransfer_tiles ..
  unfold Running.deliver at e
  dsimp only at e
  split at e
  next c =>
    split at e
    · cases e
      exact (State.sameQueues_storeTile _ _ _ _ i).trans (.of_tiles (hnoted _) i)
    · split at e
      · cases e
        exact .of_tiles (hnoted _) i
      · exact .of_tiles (Running.deliver_unbound_tiles hnoted e) i
  · exact .of_tiles (Running.deliver_unbound_tiles hnoted e) i

/-! #### What the completion of each job is -/

namespace AtDmaHead

variable {s : State} {t : Tile} {k : Running} {j : TileJob} {rest : List TileJob}

theorem sameQueues (a : AtDmaHead s t k j rest) {v : State} (h : (s.tile t).SameQueues (v.tile t)) : k.x.SameQueues (v.tile t) :=
  a.tile.1 ▸ h

theorem head (a : AtDmaHead s t k j rest) {op : TileOp} (hj : j.op = op) : (k.x.queue 3).head?.map TileJob.op = some op := by
  rw [a.queue, List.head?_cons, Option.map_some, hj]

theorem exec_load (a : AtDmaHead s t k j rest) {pieces : List LoadPiece} (hj : j.op = .load pieces) :
    exec (.dmaTransferComplete t) s = .next (k.loaded s pieces) := by
  change execDmaTransferComplete t s = _
  rw [execDmaTransferComplete, a.runs]
  dsimp only
  rw [a.head hj]

theorem exec_store (a : AtDmaHead s t k j rest) {b p o m n : Nat} {d : Bool} (hj : j.op = .store b p o m n d) :
    exec (.dmaTransferComplete t) s = .next ((s.deliverPlan k.h b p o (if d then [] else k.x.read m n)).popQueue t 3) := by
  change execDmaTransferComplete t s = _
  rw [execDmaTransferComplete, a.runs]
  dsimp only
  rw [a.head hj]

theorem exec_out (a : AtDmaHead s t k j rest) {o m n : Nat} (hj : j.op = .out o m n) : exec (.dmaTransferComplete t) s =
    .next ((k.sendOut (s.setTile t { k.x with outData := k.x.outData ++ k.x.read m n }) o (k.x.read m n)).popQueue t 3) := by
  change execDmaTransferComplete t s = _
  rw [execDmaTransferComplete, a.runs]
  dsimp only
  rw [a.head hj]

theorem exec_transfer (a : AtDmaHead s t k j rest) {chunk o m n : Nat} {v : State} (hj : j.op = .transfer chunk o m n)
    (hv : k.deliver s chunk o (k.x.read m n) = some v) : exec (.dmaTransferComplete t) s = .next (v.popQueue t 3) := by
  change execDmaTransferComplete t s = _
  rw [execDmaTransferComplete, a.runs]
  dsimp only
  rw [a.head hj]
  dsimp only
  rw [hv]

theorem exec_claim (a : AtDmaHead s t k j rest) {first count : Nat} (hj : j.op = .claim first count) :
    exec (.dclaimComplete t) s = .next (if k.slotsIn first count then s.popQueue t 3 else s) := by
  change execDclaimComplete t s = _
  rw [execDclaimComplete, a.runs]
  dsimp only
  rw [a.head hj]

theorem exec_exchange (a : AtDmaHead s t k j rest) {n : Nat} (hj : j.op = .exchange n) :
    exec (.dxwaitComplete t) s = .next (if k.exchangeArrived n then s.popQueue t 3 else s) := by
  change execDxwaitComplete t s = _
  rw [execDxwaitComplete, a.runs]
  dsimp only
  rw [a.head hj]

/-- A job that needs no more than leaving the queue. -/
theorem leaves (a : AtDmaHead s t k j rest) : TileBecomes s t (k.x.popDma rest) (s.popQueue t 3) :=
  a.becomes_popDma a.tile (TileData.SameQueues.refl _)

/-! #### What the completion of each job does -/

theorem load_completes (a : AtDmaHead s t k j rest) {pieces : List LoadPiece} (hj : j.op = .load pieces) :
    ((∀ p ∈ pieces, p.torn = [] ∧ k.foreignUnder s p = none ∧ k.badUnder s p = []) →
      Completes (.dmaTransferComplete t) s (TileBecomes s t (k.filled s pieces (k.x.popDma rest)))) ∧
    ((∀ p ∈ pieces, k.foreignUnder s p = none) → (∃ p ∈ pieces, k.badUnder s p ≠ [] ∧ k.inputPieces p = []) →
      (∀ p ∈ pieces, k.inputPieces p = []) → s.num (Obj.hoopState k.h) ≠ 0 →
      Completes (.dmaTransferComplete t) s fun u => u.num (Obj.hoopState k.h) = 6) ∧
    ((∀ p ∈ pieces, k.foreignUnder s p = none ∧ k.inputPieces p = [(p.off, p.len)]) → (∃ p ∈ pieces, k.badUnder s p ≠ []) →
      Completes (.dmaTransferComplete t) s fun u => ∀ c, u.chunk k.c.key = some c → c.resupply = true) ∧
    ((∃ p ∈ pieces, (k.foreignUnder s p).isSome = true) → s.num (Obj.hoopState k.h) ≠ 0 →
      Completes (.dmaTransferComplete t) s fun u => u.num (Obj.hoopState k.h) = 6) := by
  refine ⟨fun h => ⟨_, a.exec_load hj, a.load_fills h⟩, fun hown hbad hinput hs => ⟨_, a.exec_load hj, ?_⟩,
    fun hinput hbad => ⟨_, a.exec_load hj, fun _ hc => a.loaded_resupply hinput hbad hc⟩, fun hforeign hs => ⟨_, a.exec_load hj, ?_⟩⟩
  · obtain ⟨p, hp, hlines, -⟩ := hbad
    exact loaded_faults hown ⟨p, hp, hlines⟩ hinput hs
  · obtain ⟨frame, hloaded⟩ := Running.loaded_foreign hforeign
    rw [hloaded]
    exact State.ownerFault_faults hs frame

theorem store_completes (a : AtDmaHead s t k j rest) {b p o m n : Nat} {d : Bool} (hj : j.op = .store b p o m n d) (ho : OwnPlan s k.h) :
    Completes (.dmaTransferComplete t) s fun u => u.mem = (s.writePlan k.h b p o (if d then [] else k.x.read m n)).mem ∧
      u.tile t = k.x.popDma rest ∧ u.dict = s.dict := by
  refine ⟨_, a.exec_store hj, ?_⟩
  obtain ⟨mem, memory, hwritten⟩ := s.writePlan_only k.h b p o (if d then [] else k.x.read m n)
  have hdelivered : s.deliverPlan k.h b p o (if d then [] else k.x.read m n) = s.writePlan k.h b p o (if d then [] else k.x.read m n) := by
    rw [State.deliverPlan, foreignPlan_of_ownPlan ho]
  have htile : (s.writePlan k.h b p o (if d then [] else k.x.read m n)).tile t = k.x := by
    rw [hwritten]
    exact a.tile.1
  rw [hdelivered, a.popQueue htile (TileData.SameQueues.refl _)]
  refine ⟨rfl, State.tile_setTile_same .., ?_⟩
  rw [State.setTile_dict, hwritten]

theorem out_completes (a : AtDmaHead s t k j rest) {o m n : Nat} (hj : j.op = .out o m n) (hsilent : s.shadowSilent k.h = true) :
    Completes (.dmaTransferComplete t) s
      (TileBecomes s t { k.x.popDma rest with outData := k.x.outData ++ k.x.read m n }) := by
  refine ⟨_, a.exec_out hj, ?_⟩
  have hquiet (y : TileData) : (s.setTile t y).shadowSilent k.h = true := hsilent
  rw [Running.sendOut, if_pos (hquiet _)]
  exact a.becomes_popDma (tileBecomes_setTile s t _) ⟨rfl, rfl, rfl⟩

theorem transfer_completes (a : AtDmaHead s t k j rest) {chunk o m n : Nat} {v : State} (hj : j.op = .transfer chunk o m n)
    (hv : k.deliver s chunk o (k.x.read m n) = some v) :
    Completes (.dmaTransferComplete t) s fun u => (u.tile t).queue 3 = rest ∧ u.mem = v.mem ∧ u.dict = v.dict ∧ u.work = v.work := by
  refine ⟨_, a.exec_transfer hj hv, ?_⟩
  rw [a.popQueue rfl (a.sameQueues (Running.sameQueues_deliver hv t))]
  refine ⟨?_, rfl, rfl, rfl⟩
  rw [State.tile_setTile_same]
  exact TileData.queue_setQueue_same ..

theorem claim_completes (a : AtDmaHead s t k j rest) {first count : Nat} (hj : j.op = .claim first count) :
    (k.slotsIn first count = true → Completes (.dclaimComplete t) s (TileBecomes s t (k.x.popDma rest))) ∧
    (k.slotsIn first count = false → exec (.dclaimComplete t) s = .next s) := by
  rw [Completes, a.exec_claim hj]
  refine ⟨fun hin => ⟨_, rfl, ?_⟩, fun hout => by rw [hout]; rfl⟩
  rw [if_pos hin]
  exact a.leaves

theorem exchange_completes (a : AtDmaHead s t k j rest) {n : Nat} (hj : j.op = .exchange n) :
    (k.exchangeArrived n = true → Completes (.dxwaitComplete t) s (TileBecomes s t (k.x.popDma rest))) ∧
    (k.exchangeArrived n = false → exec (.dxwaitComplete t) s = .next s) := by
  rw [Completes, a.exec_exchange hj]
  refine ⟨fun hin => ⟨_, rfl, ?_⟩, fun hout => by rw [hout]; rfl⟩
  rw [if_pos hin]
  exact a.leaves

end AtDmaHead

/-! ### O21 -/

/-- Settles O21: each instruction enters the DMA queue or completes at once (`dld_enters` to `drel_completes`), and each job at the
head of the queue is carried out and taken off (`AtDmaHead`). -/
theorem tileDmaAndLanding : Obligations.TileDmaAndLanding := by
  unfold Obligations.TileDmaAndLanding
  intro t x s k goes off n area read aligned readable enters
  refine ⟨fun hal p hp hfree hok d => dld_enters d hal.1 hal.2.1 hal.2.2.1 hal.2.2.2 hp hfree hok,
    fun hal p hp hr d => dst_enters d hal.1 hal.2.1 hal.2.2.1 hal.2.2.2 hp hr.1 hr.2, ?_, ?_, ?_, ?_, ?_, fun d => drel_completes d, ?_⟩
  · intro d hpar ha hb hn size list place pieces f hfree hlist hread hwrite p hp
    exact dgath_enters d hpar ha hb hn rfl hfree hlist hread hwrite hp
  · intro d ha h0 hn hlength hr
    exact dout_enters d ha h0 hn hlength hr.1 hr.2
  · intro d hlater hchunk ha hb hn hplace hr
    exact dxfer_completes d hlater hchunk ha hb hn hplace hr.1 hr.2
  · intro d hn f y hfree
    exact dxwait_completes d hn hfree
  · intro d hn f y hfree
    exact dclaim_completes d hn hfree
  · intro runs ending trapped j rest queue heads popped
    have a : AtDmaHead s t k j rest := ⟨runs, ending, trapped, queue, heads⟩
    exact ⟨fun _ hj => a.load_completes hj, fun _ _ _ _ _ _ hj ho => a.store_completes hj ho, fun _ _ _ hj hs => a.out_completes hj hs,
      fun _ _ _ _ _ hj hv => a.transfer_completes hj hv, fun _ _ hj => a.claim_completes hj, fun _ hj => a.exchange_completes hj⟩

end Sys2Proof

namespace Sys2Proof

open Sys2Proof.Machine

/-! ## Images and plans: staging, commands and their completion (R147–R149, R153, R158–R160)

A command notes the checks' outcome as the hoop's job (`JobStarts`); the completion carries the job out. What it does beside objects
concerns the images and the plan of its hoop only. -/

/-! ### What leaves hoops and module memory alone -/

/-- Between `s` and `t` neither what hoops hold nor module memory has changed. -/
structure HoopsKept (s t : State) : Prop where
  hoops : t.work.hoops = s.work.hoops
  mem : t.mem = s.mem

namespace HoopsKept

variable {s t u : State} {g h i : Nat}

protected theorem rfl : HoopsKept s s := ⟨rfl, rfl⟩

theorem hoop (hs : HoopsKept s t) (j : Nat) : t.hoop j = s.hoop j := by rw [State.hoop, hs.hoops, State.hoop]

theorem slotImage (hs : HoopsKept s t) (j k : Nat) : t.slotImage j k = s.slotImage j k := by
  rw [State.slotImage, hs.hoop, State.slotImage]

theorem slotPending (hs : HoopsKept s t) (j k : Nat) : t.slotPending j k = s.slotPending j k := by
  rw [State.slotPending, hs.hoop, State.slotPending]

/-- What changes of the work in hand no hoop. -/
theorem keepHoops
    {pending dict out freeCtr control events boot security meter line time work pools tiles fabric memory optics net power}
    (hs : HoopsKept s t) (hw : work.hoops = t.work.hoops) : HoopsKept s ⟨pending, dict, t.mem, out, freeCtr, control, events,
      boot, security, meter, line, time, work, pools, tiles, fabric, memory, optics, net, power⟩ := ⟨hw.trans hs.hoops, hs.mem⟩

/-- What leaves the work in hand and module memory as they were. -/
theorem keep {pending dict out freeCtr control events boot security meter line time pools tiles fabric memory optics net power}
    (hs : HoopsKept s t) : HoopsKept s ⟨pending, dict, t.mem, out, freeCtr, control, events,
      boot, security, meter, line, time, t.work, pools, tiles, fabric, memory, optics, net, power⟩ := hs.keepHoops rfl

theorem ite {c : Prop} [Decidable c] (ht : HoopsKept s t) (hu : HoopsKept s u) : HoopsKept s (if c then t else u) := by
  split
  · exact ht
  · exact hu

theorem each {α : Type} (hs : HoopsKept s t) (xs : List α) {f : State → α → State} (hf : ∀ u x, HoopsKept s u → HoopsKept s (f u x)) :
    HoopsKept s (t.each xs f) :=
  State.each_keeps _ f hf xs t hs

theorem raise (hs : HoopsKept s t) (code : Nat) (a : EventArgs) : HoopsKept s (t.raise code a) := by
  obtain ⟨_, _, _, _, e⟩ := t.raise_only code a
  rw [e]
  exact hs.keep

theorem noteBadLines (hs : HoopsKept s t) (lines : List Nat) : HoopsKept s (t.noteBadLines lines) := by
  refine hs.each _ fun u l hu => ?_
  unfold State.noteUncorrectable
  extract_lets s1 y net memory s2 due
  have h2 : HoopsKept s s2 := hu.keep
  exact ite (h2.keep.raise _ _) h2

theorem clearLines (hs : HoopsKept s t) (lines : List Nat) : HoopsKept s (t.clearLines lines) := ite hs hs.keep

theorem enqueue (hs : HoopsKept s t) (w : Nat) (r : EmitRequest) : HoopsKept s (t.enqueue w r) := ite hs.keep hs.keep

theorem emitTo {vc address opSequence epochTag : Nat} {tail payload : Bytes} {operation : Option (Nat × Nat × Nat)}
    {ticket : Option EmitTicket} (hs : HoopsKept s t) :
    HoopsKept s (t.emitTo h vc address opSequence epochTag tail payload operation ticket) := hs.enqueue _ _

theorem startExchange (hs : HoopsKept s t) : HoopsKept s (t.startExchange g) := by
  unfold State.startExchange
  extract_lets hoop y own others s1 payload
  have h1 : HoopsKept s s1 := hs.keepHoops (by rfl)
  exact ite h1 (h1.each _ fun _ _ hu => hu.emitTo)

theorem countSlot (hs : HoopsKept s t) : HoopsKept s (t.countSlot h i) := by
  unfold State.countSlot
  extract_lets current pending n s1 s2 s3 s4
  have h3 : HoopsKept s s3 := hs.keep
  have h4 : HoopsKept s s4 := ite h3.keep h3
  exact h4.keep

end HoopsKept

theorem Machine.State.obj_clearLines (s : State) (lines : List Nat) (k : Nat) : (s.clearLines lines).obj k = s.obj k := by
  unfold State.clearLines
  split <;> rfl

theorem Machine.State.num_clearLines (s : State) (lines : List Nat) (k : Nat) : (s.clearLines lines).num k = s.num k :=
  congrArg Val.toNat (s.obj_clearLines lines k)

/-! ### A slot set (R146, R158, R160) -/

section SetSlot

variable (s : State) (h k : Nat) (current pending : Bytes)

theorem Machine.State.setSlot_hoop : (s.setSlot h k current pending).hoop h =
    { s.hoop h with images := Map.put [] (s.hoop h).images k current, pendings := Map.put [] (s.hoop h).pendings k pending } :=
  (HoopsKept.rfl.countSlot.hoop h).trans (State.hoop_setHoop_same ..)

theorem Machine.State.setSlot_hoop_other {g : Nat} (hg : g ≠ h) : (s.setSlot h k current pending).hoop g = s.hoop g :=
  (HoopsKept.rfl.countSlot.hoop g).trans (State.hoop_setHoop_other _ _ hg)

@[simp] theorem Machine.State.setSlot_mem : (s.setSlot h k current pending).mem = s.mem := HoopsKept.rfl.countSlot.mem

@[simp] theorem Machine.State.slotImage_setSlot : (s.setSlot h k current pending).slotImage h k = current := by
  rw [State.slotImage, State.setSlot_hoop, Map.get_put_same]

@[simp] theorem Machine.State.slotPending_setSlot : (s.setSlot h k current pending).slotPending h k = pending := by
  rw [State.slotPending, State.setSlot_hoop, Map.get_put_same]

/-- SlotState counts the images of its slot. -/
theorem Machine.State.countSlot_slotState : (s.countSlot h k).num (Obj.slotState (16 * h + k)) =
    if s.slotImage h k = [] then 0 else if s.slotPending h k = [] then 1 else 2 := by
  unfold State.countSlot
  extract_lets current pending n s1 s2 s3 s4
  have h3 : s3.num (Obj.slotState n) = s1.num (Obj.slotState n) := congrArg Val.toNat <|
    (State.obj_setBytes_other _ _ (linearUnit_ne (by decide))).trans <|
      (State.obj_setBytes_other _ _ (linearUnit_ne (by decide))).trans (State.obj_setBytes_other _ _ (linearUnit_ne (by decide)))
  have h4 : s4.num (Obj.slotState n) = s3.num (Obj.slotState n) := by
    unfold s4
    split
    · exact State.num_setNum_other _ _ (linearUnit_ne (by decide))
    · rfl
  exact (State.num_setNum_other _ _ (linearUnit_ne (by decide))).trans (h4.trans (h3.trans (State.num_setNum_same ..)))

/-- While a slot has a pending image its activation step stays. -/
theorem Machine.State.countSlot_activateStep (hp : s.slotPending h k ≠ []) (j : Nat) :
    (s.countSlot h k).num (Obj.slotActivateStep j) = s.num (Obj.slotActivateStep j) := by
  unfold State.countSlot
  extract_lets current pending n s1 s2 s3 s4
  have h4 : s4 = s3 := if_neg hp
  refine congrArg Val.toNat ((State.obj_setNum_other _ _ (linearUnit_ne (by decide))).trans ?_)
  rw [h4]
  refine (State.obj_setBytes_other _ _ (linearUnit_ne (by decide))).trans ?_
  refine (State.obj_setBytes_other _ _ (linearUnit_ne (by decide))).trans ?_
  refine (State.obj_setBytes_other _ _ (linearUnit_ne (by decide))).trans ?_
  exact State.obj_setNum_other _ _ (linearUnit_ne (by decide))

theorem Machine.State.setSlot_slotState : (s.setSlot h k current pending).num (Obj.slotState (16 * h + k)) =
    if current = [] then 0 else if pending = [] then 1 else 2 := by
  rw [State.setSlot, State.countSlot_slotState]
  simp [State.slotImage, State.slotPending]

theorem Machine.State.setSlot_activateStep {pending : Bytes} (hp : pending ≠ []) (j : Nat) :
    (s.setSlot h k current pending).num (Obj.slotActivateStep j) = s.num (Obj.slotActivateStep j) := by
  refine State.countSlot_activateStep _ _ _ ?_ j
  simpa [State.slotPending] using hp

end SetSlot

/-! ### A plan set (R153) -/

section SetPlan

variable (s : State) (h : Nat) (p : Bytes)

theorem Machine.State.setPlan_data : (∀ g, (s.setPlan h p).hoop g = (s.setHoop h { s.hoop h with plan := p }).hoop g) ∧
    (s.setPlan h p).mem = s.mem := by
  unfold State.setPlan
  split <;> exact ⟨fun _ => rfl, rfl⟩

/-- The objects that follow from the plan. -/
theorem Machine.State.setPlan_objects : (s.setPlan h p).obj (Obj.planHash h) = .blob (if p = [] then [] else sha3Bytes p) ∧
    (s.setPlan h p).obj (Obj.planEntryCount h) = .num (entryCount p) ∧
    (p ≠ [] → (s.setPlan h p).obj (Obj.jobDeclaredMemory h) = .num (field p 16 8)) := by
  unfold State.setPlan
  extract_lets x s1 s2 s3
  have hhash : s2.obj (Obj.planHash h) = .blob (if p = [] then [] else sha3Bytes p) :=
    (State.obj_setNum_other _ _ (linearUnit_ne (by decide))).trans (State.obj_set_same ..)
  have hcount : s2.obj (Obj.planEntryCount h) = .num (entryCount p) := State.obj_setNum_same ..
  have h3 {j : Nat} (ht : j ≠ Obj.planRandomTag h) (hm : j ≠ Obj.jobDeclaredMemory h) : s3.obj j = s2.obj j := by
    unfold s3
    split
    · rfl
    · exact (State.obj_setNum_other _ _ hm).trans (State.obj_setNum_other _ _ ht)
  have hmemory (hp : p ≠ []) : s3.obj (Obj.jobDeclaredMemory h) = .num (field p 16 8) := by
    unfold s3
    rw [if_neg hp, State.obj_setNum_same]
  refine ⟨(State.obj_setNum_other _ _ (linearUnit_ne (by decide))).trans ((h3 ?_ ?_).trans hhash),
    (State.obj_setNum_other _ _ (linearUnit_ne (by decide))).trans ((h3 ?_ ?_).trans hcount),
    fun hp => (State.obj_setNum_other _ _ (linearUnit_ne (by decide))).trans (hmemory hp)⟩ <;> exact linearUnit_ne (by decide)

end SetPlan

/-! ### Staging (R147) -/

theorem imageStageWrite_completes {rq : Requester} {h : Hoop} {piece : Bytes} {s : State}
    (ha : Accepts s rq (Obj.imageStageWrite h) (.blob piece) none) (hj : (s.hoop h).job = none) (h5 : 5 ≤ piece.length)
    (hlen : piece.length ≤ 4100) (hroom : field piece 0 4 + (piece.length - 4) ≤ 8388608) :
    Completes (.imageStageWrite rq h piece) s fun t => ObjectsKept [] s t ∧ t.mem = s.mem ∧ Answered rq St.ok t ∧
      t.hoop h = { s.hoop h with stage := (s.hoop h).stage.writeBytes (field piece 0 4) (piece.drop 4) } := by
  have he (u : State) (hu : u.hoop h = s.hoop h) : ∃ lines, stageEffect h piece u = ((u.setHoop h { s.hoop h with
      stage := (s.hoop h).stage.writeBytes (field piece 0 4) (piece.drop 4) }).clearLines lines, St.ok) := by
    unfold stageEffect
    simp only [hu]
    rw [if_neg (by simp [hj]), if_neg (by omega)]
    exact ⟨_, rfl⟩
  obtain ⟨lines, he⟩ := he (s.served rq (Obj.imageStageWrite h)) (State.served_hoop ..)
  refine .of_request rfl ha he fun t ht hst => ⟨fun j _ => ?_, ?_, hst, ?_⟩
  · rw [ht.obj, State.obj_clearLines]
    exact State.served_obj ..
  · rw [ht.mem, (HoopsKept.rfl.clearLines lines).mem]
    exact State.served_mem ..
  · rw [ht.hoop, (HoopsKept.rfl.clearLines lines).hoop, State.hoop_setHoop_same]

/-! ### Commands (R148, R153, R159) -/

section Command

variable {c : Instr} {rq : Requester} {h k : Nat} {v : Val} {s : State} {f : State → State} {post : State → Prop}

/-- While no command of the hoop runs, an accepted one has its effect, and the request answers ST_OK. -/
theorem Completes.of_jobCommand (hc : exec c s = .next (s.request rq k v none (jobCommand h f))) (ha : Accepts s rq k v none)
    (hj : (s.hoop h).job = none) (hp : ∀ t, AnsweredFrom (f (s.served rq k)) t → Answered rq St.ok t → post t) :
    Completes c s post :=
  .of_request hc ha (if_neg (by simp [hj])) hp

/-- While a command of the hoop runs, another is refused at the request. -/
theorem Completes.of_jobCommand_busy (hc : exec c s = .next (s.request rq k v none (jobCommand h f))) (ha : Accepts s rq k v none)
    (hj : (s.hoop h).job.isSome = true) : Completes c s fun t => Answered rq St.busy t ∧ OnlyObjects [] s t :=
  .of_refused hc ha (if_pos (by rw [State.served_hoop, hj]))

/-- A command that is refused for the state of its hoop or slot writes its status and its detail, and no other object. -/
theorem Completes.of_jobCommand_refused {status detail : Nat} (hne : status ≠ detail)
    (hc : exec c s = .next (s.request rq k v none (jobCommand h f))) (ha : Accepts s rq k v none) (hj : (s.hoop h).job = none)
    (hf : f (s.served rq k) = ((s.served rq k).setNum status St.notPermittedInState).setNum detail 0) :
    Completes c s fun t => t.num status = St.notPermittedInState ∧ t.num detail = 0 ∧ OnlyObjects [status, detail] s t := by
  refine .of_jobCommand hc ha hj fun t ht _ => ?_
  rw [hf] at ht
  refine ⟨?_, ?_, ht.onlyObjects (((OnlyObjects.served ..).setNum (by simp) _).setNum (by simp) _)⟩
  · rw [ht.num, State.num_setNum_other _ _ hne, State.num_setNum_same]
  · rw [ht.num, State.num_setNum_same]

end Command

/-- The status object of a kind of command. -/
def jobStatusKey (h : Nat) (isPlan : Bool) : Nat := if isPlan then Obj.planCommandStatus h else Obj.imageCommandStatus h

/-- The detail object of a kind of command. -/
def jobDetailKey (h : Nat) (isPlan : Bool) : Nat := if isPlan then Obj.planCommandDetail h else Obj.imageCommandDetail h

/-- The command's job runs in `t`: its status reads ST_BUSY, and beside the job the hoop's data and memory are those of `s`. -/
structure JobStarts (s : State) (h : Nat) (j : ImageJob) (t : State) : Prop where
  status : t.num (jobStatusKey h j.isPlan) = St.busy
  mem : t.mem = s.mem
  hoop : t.hoop h = { s.hoop h with job := some j }

/-- Reads that failed before it started change no more than their counts and events. -/
theorem Machine.State.startJob_starts (s : State) (h : Nat) (j : ImageJob) (bad : List Nat) :
    JobStarts s h j ((s.noteBadLines bad).startJob h j) ∧
    (bad = [] → ObjectsKept [jobStatusKey h j.isPlan] s ((s.noteBadLines bad).startJob h j)) := by
  have hbad : HoopsKept s (s.noteBadLines bad) := HoopsKept.rfl.noteBadLines bad
  refine ⟨⟨State.num_setNum_same .., hbad.mem, ?_⟩, ?_⟩
  · rw [State.startJob, State.setNum_hoop, State.hoop_setHoop_same, hbad.hoop]
  · rintro rfl i hi
    exact State.obj_setNum_other _ _ (by simpa [jobStatusKey] using hi)

theorem JobStarts.answered {s u t : State} {rq : Requester} {h k : Nat} {j : ImageJob} (hu : JobStarts (s.served rq k) h j u)
    (ht : AnsweredFrom u t) : JobStarts s h j t :=
  ⟨(ht.num _).trans hu.status, ht.mem.trans (hu.mem.trans (State.served_mem ..)), by rw [ht.hoop, hu.hoop, State.served_hoop]⟩

/-- A command without checks starts its job. -/
theorem Completes.of_startJob {c : Instr} {rq : Requester} {h k : Nat} {v : Val} {s : State} {f : State → State} {j : ImageJob}
    (hc : exec c s = .next (s.request rq k v none (jobCommand h f))) (ha : Accepts s rq k v none) (hj : (s.hoop h).job = none)
    (hf : f (s.served rq k) = (s.served rq k).startJob h j) : Completes c s (JobStarts s h j) := by
  refine .of_jobCommand hc ha hj fun t ht _ => ?_
  rw [hf] at ht
  exact ((s.served rq k).startJob_starts h j []).1.answered ht

/-- A load starts its job with the outcome of its checks, and where the staging buffer can be read writes its status only. -/
theorem Completes.of_load {c : Instr} {rq : Requester} {h k : Nat} {v : Val} {s : State} {f : State → State} {j : ImageJob}
    {bad : List Nat} (hc : exec c s = .next (s.request rq k v none (jobCommand h f))) (ha : Accepts s rq k v none)
    (hj : (s.hoop h).job = none) (hf : f (s.served rq k) = ((s.served rq k).noteBadLines bad).startJob h j)
    (hbad : j.status ≠ St.uncorrectable → bad = []) :
    Completes c s fun t => JobStarts s h j t ∧ Answered rq St.ok t ∧
      (j.status ≠ St.uncorrectable → ObjectsKept [jobStatusKey h j.isPlan] s t) := by
  refine .of_jobCommand hc ha hj fun t ht hst => ?_
  rw [hf] at ht
  obtain ⟨hstart, hkept⟩ := (s.served rq k).startJob_starts h j bad
  refine ⟨hstart.answered ht, hst, fun hu i hi => ?_⟩
  rw [ht.obj, hkept (hbad hu) i hi, State.served_obj]

/-- The job of an image load: the outcome of its checks, and the staged image where they pass. -/
def imageLoadJob (s : State) (h : Nat) (pending : Bool) : ImageJob :=
  let slot := s.num (Obj.imageCommandSlot h)
  let check := s.imageStatus h slot pending
  ⟨false, check.1, check.2, if check.1 = St.ok then
    if pending then .pending slot (s.staged h) (s.num (Obj.imageActivateStep h)) else .current slot (s.staged h) else .nothing⟩

/-- The job of a plan load: the outcome of its checks, and the staged plan where they pass. -/
def planLoadJob (s : State) (h : Nat) : ImageJob :=
  let check := s.planStatus h
  ⟨true, check.1, check.2, if check.1 = St.ok then .plan ((s.staged h).take (field (s.stagedHead h) 24 4)) else .nothing⟩

theorem Machine.State.loadImage_served (s : State) (rq : Requester) (k h : Nat) (pending : Bool) : ∃ bad,
    (s.served rq k).loadImage h pending = ((s.served rq k).noteBadLines bad).startJob h (imageLoadJob s h pending) ∧
      ((imageLoadJob s h pending).status ≠ St.uncorrectable → bad = []) := by
  have hjob : imageLoadJob (s.served rq k) h pending = imageLoadJob s h pending := by
    obtain ⟨_, _, e⟩ := s.served_only rq k
    rw [e]
    rfl
  rw [← hjob]
  unfold State.loadImage
  simp only [ite_not]
  exact ⟨_, rfl, fun hu => if_neg hu⟩

theorem Machine.State.loadPlan_served (s : State) (rq : Requester) (k h : Nat) : ∃ bad,
    (s.served rq k).loadPlan h = ((s.served rq k).noteBadLines bad).startJob h (planLoadJob s h) ∧
      ((planLoadJob s h).status ≠ St.uncorrectable → bad = []) := by
  have hjob : planLoadJob (s.served rq k) h = planLoadJob s h := by
    obtain ⟨_, _, e⟩ := s.served_only rq k
    rw [e]
    rfl
  rw [← hjob]
  unfold State.loadPlan
  simp only [ite_not]
  exact ⟨_, rfl, fun hu => if_neg hu⟩

/-! ### The running command completes (R148, R149, R153) -/

/-- The state in which a job is carried out: it runs no more. -/
def Machine.State.jobEnded (s : State) (h : Nat) : State := s.setHoop h { s.hoop h with job := none }

theorem Machine.State.jobEnded_hoop (s : State) (h : Nat) : (s.jobEnded h).hoop h = { s.hoop h with job := none } :=
  State.hoop_setHoop_same ..

theorem Machine.State.jobEnded_slotImage (s : State) (h k : Nat) : (s.jobEnded h).slotImage h k = s.slotImage h k := by
  rw [State.slotImage, State.jobEnded_hoop, State.slotImage]

theorem Machine.State.jobEnded_slotPending (s : State) (h k : Nat) : (s.jobEnded h).slotPending h k = s.slotPending h k := by
  rw [State.slotPending, State.jobEnded_hoop, State.slotPending]

/-- The status and the detail of a kind of command become final. -/
def Machine.State.reportJob (s : State) (h : Nat) (isPlan : Bool) (st check : Nat) : State :=
  (s.setNum (jobStatusKey h isPlan) st).setNum (jobDetailKey h isPlan) check

section Report

variable (s : State) (h : Nat) (isPlan : Bool) (st check : Nat)

theorem Machine.State.reportJob_keeps : HoopsKept s (s.reportJob h isPlan st check) := ⟨rfl, rfl⟩

theorem Machine.State.reportJob_status : (s.reportJob h isPlan st check).num (jobStatusKey h isPlan) = st := by
  have hne : jobStatusKey h isPlan ≠ jobDetailKey h isPlan := by cases isPlan <;> exact linearUnit_ne (by decide)
  rw [State.reportJob, State.num_setNum_other _ _ hne, State.num_setNum_same]

theorem Machine.State.reportJob_detail : (s.reportJob h isPlan st check).num (jobDetailKey h isPlan) = check :=
  State.num_setNum_same ..

/-- Objects of a table apart from both kinds' status and detail stay. -/
theorem Machine.State.reportJob_obj (b c n i : Nat) (ha : ∀ d ∈ [0x06, 0x07, 0x0A, 0x0B], TablesApart (b, c, n) (0x4200, d, 16)) :
    (s.reportJob h isPlan st check).obj (linearUnit b c n i) = s.obj (linearUnit b c n i) := by
  have hne (d : Nat) (hd : d ∈ [0x06, 0x07, 0x0A, 0x0B]) : linearUnit b c n i ≠ linearUnit 0x4200 d 16 h := linearUnit_ne (ha d hd)
  cases isPlan with
  | false => exact (State.obj_setNum_other _ _ (hne 0x07 (by decide))).trans (State.obj_setNum_other _ _ (hne 0x06 (by decide)))
  | true => exact (State.obj_setNum_other _ _ (hne 0x0B (by decide))).trans (State.obj_setNum_other _ _ (hne 0x0A (by decide)))

theorem Machine.State.reportJob_num (b c n i : Nat) (ha : ∀ d ∈ [0x06, 0x07, 0x0A, 0x0B], TablesApart (b, c, n) (0x4200, d, 16)) :
    (s.reportJob h isPlan st check).num (linearUnit b c n i) = s.num (linearUnit b c n i) :=
  congrArg Val.toNat (s.reportJob_obj h isPlan st check b c n i ha)

theorem Machine.State.reportJob_bytes (b c n i : Nat) (ha : ∀ d ∈ [0x06, 0x07, 0x0A, 0x0B], TablesApart (b, c, n) (0x4200, d, 16)) :
    (s.reportJob h isPlan st check).bytes (linearUnit b c n i) = s.bytes (linearUnit b c n i) :=
  congrArg Val.toBytes (s.reportJob_obj h isPlan st check b c n i ha)

end Report

/-- Between `s` and `t` no hoop beside `h` has changed, nor has hoop `h`'s command in progress or module memory. -/
structure HoopWorked (h : Nat) (s t : State) : Prop where
  job : (t.hoop h).job = (s.hoop h).job
  mem : t.mem = s.mem
  others : ∀ g, g ≠ h → t.hoop g = s.hoop g

namespace HoopWorked

variable {h k : Nat} {s t u : State} {current pending p : Bytes}

protected theorem rfl : HoopWorked h s s := ⟨rfl, rfl, fun _ _ => rfl⟩

theorem keep (ht : HoopWorked h s t) (hu : HoopsKept t u) : HoopWorked h s u :=
  ⟨by rw [hu.hoop, ht.job], hu.mem.trans ht.mem, fun g hg => (hu.hoop g).trans (ht.others g hg)⟩

theorem setSlot (ht : HoopWorked h s t) : HoopWorked h s (t.setSlot h k current pending) :=
  ⟨by rw [State.setSlot_hoop, ht.job], (State.setSlot_mem ..).trans ht.mem,
    fun g hg => (State.setSlot_hoop_other _ _ _ _ _ hg).trans (ht.others g hg)⟩

theorem setPlan (ht : HoopWorked h s t) : HoopWorked h s (t.setPlan h p) := by
  obtain ⟨hhoop, hmem⟩ := t.setPlan_data h p
  exact ⟨by rw [hhoop, State.hoop_setHoop_same, ht.job], hmem.trans ht.mem,
    fun g hg => (hhoop g).trans ((State.hoop_setHoop_other _ _ hg).trans (ht.others g hg))⟩

/-- What a job does concerns the slots and the plan of its hoop. -/
theorem finishEffect (s : State) (h : Nat) (e : ImageEffect) : HoopWorked h s (s.finishEffect h e) := by
  cases e with
  | nothing => exact .rfl
  | current k image => exact HoopWorked.rfl.setSlot.keep (HoopsKept.rfl.clearLines _)
  | pending k image step => exact (HoopWorked.rfl.keep HoopsKept.rfl.keep).setSlot.keep (HoopsKept.rfl.clearLines _)
  | cancel k => exact HoopWorked.rfl.setSlot
  | clear k => exact HoopWorked.rfl.setSlot
  | plan p => exact HoopWorked.rfl.setPlan
  | unload => exact HoopWorked.rfl.setPlan

end HoopWorked

/-- What each effect makes of its slot. -/
theorem Machine.State.finishEffect_slots (s : State) (h : Nat) :
    (∀ k image, (s.finishEffect h (.current k image)).slotImage h k = image ∧
      (s.finishEffect h (.current k image)).slotPending h k = s.slotPending h k) ∧
    (∀ k image step, image ≠ [] → (s.finishEffect h (.pending k image step)).slotPending h k = image ∧
      (s.finishEffect h (.pending k image step)).slotImage h k = s.slotImage h k ∧
      (s.finishEffect h (.pending k image step)).num (Obj.slotActivateStep (16 * h + k)) = step) ∧
    (∀ k, (s.finishEffect h (.cancel k)).slotPending h k = [] ∧ (s.finishEffect h (.cancel k)).slotImage h k = s.slotImage h k) ∧
    (∀ k, (s.finishEffect h (.clear k)).slotPending h k = [] ∧ (s.finishEffect h (.clear k)).slotImage h k = [] ∧
      (s.finishEffect h (.clear k)).num (Obj.slotState (16 * h + k)) = 0) := by
  refine ⟨fun k image => ?current, fun k image step hi => ?pending, fun k => ?cancel, fun k => ?clear⟩
  case current =>
    have hk := HoopsKept.rfl.clearLines (s := s.setSlot h k image (s.slotPending h k)) (s.storeLines h image)
    exact ⟨(hk.slotImage h k).trans (State.slotImage_setSlot ..), (hk.slotPending h k).trans (State.slotPending_setSlot ..)⟩
  case pending =>
    have hk := HoopsKept.rfl.clearLines (s := (s.setNum (Obj.slotActivateStep (16 * h + k)) step).setSlot h k (s.slotImage h k) image)
      (s.storeLines h image)
    refine ⟨(hk.slotPending h k).trans (State.slotPending_setSlot ..), (hk.slotImage h k).trans (State.slotImage_setSlot ..), ?_⟩
    rw [State.finishEffect, State.num_clearLines, State.setSlot_activateStep _ _ _ _ hi, State.num_setNum_same]
  case cancel => exact ⟨State.slotPending_setSlot .., State.slotImage_setSlot ..⟩
  case clear => exact ⟨State.slotPending_setSlot .., State.slotImage_setSlot .., State.setSlot_slotState ..⟩

/-- The running command is carried out, and its status and detail become final. -/
theorem Machine.State.finishJob_eq {s : State} {h st check : Nat} {isPlan : Bool} {e : ImageEffect}
    (hj : (s.hoop h).job = some ⟨isPlan, st, check, e⟩) :
    s.finishJob h isPlan = ((s.jobEnded h).finishEffect h e).reportJob h isPlan st check := by
  unfold State.finishJob
  rw [hj]
  cases isPlan <;> rfl

theorem Machine.State.finishJob_ends {s : State} {h st check : Nat} {isPlan : Bool} {e : ImageEffect}
    (hj : (s.hoop h).job = some ⟨isPlan, st, check, e⟩) :
    ((s.finishJob h isPlan).hoop h).job = none ∧ (s.finishJob h isPlan).mem = s.mem ∧
      (s.finishJob h isPlan).num (jobStatusKey h isPlan) = st ∧ (s.finishJob h isPlan).num (jobDetailKey h isPlan) = check ∧
      ∀ g, g ≠ h → (s.finishJob h isPlan).hoop g = s.hoop g := by
  obtain ⟨hjob, hmem, hother⟩ := HoopWorked.finishEffect (s.jobEnded h) h e
  rw [State.finishJob_eq hj]
  have hkept := ((s.jobEnded h).finishEffect h e).reportJob_keeps h isPlan st check
  refine ⟨?_, hkept.mem.trans hmem, State.reportJob_status .., State.reportJob_detail .., fun g hg => ?_⟩
  · rw [hkept.hoop, hjob, State.jobEnded_hoop]
  · exact (hkept.hoop g).trans <| (hother g hg).trans (State.hoop_setHoop_other _ _ hg)

theorem imageCommandComplete_completes {h : Hoop} {s : State} {st check : Nat} {e : ImageEffect}
    (hj : (s.hoop h).job = some ⟨false, st, check, e⟩) :
    Completes (.imageCommandComplete h) s fun t => (t.hoop h).job = none ∧ t.mem = s.mem ∧
      t.num (Obj.imageCommandStatus h) = st ∧ t.num (Obj.imageCommandDetail h) = check ∧
      (∀ g : Hoop, g ≠ h → t.hoop g = s.hoop g) ∧
      (e = .nothing → ∀ k, t.slotImage h k = s.slotImage h k ∧ t.slotPending h k = s.slotPending h k) ∧
      (∀ k image, e = .current k image → t.slotImage h k = image ∧ t.slotPending h k = s.slotPending h k) ∧
      (∀ k image step, e = .pending k image step → image ≠ [] → t.slotPending h k = image ∧
        t.slotImage h k = s.slotImage h k ∧ t.num (Obj.slotActivateStep (16 * h + k)) = step) ∧
      (∀ k, e = .cancel k → t.slotPending h k = [] ∧ t.slotImage h k = s.slotImage h k) ∧
      (∀ k, e = .clear k → t.slotPending h k = [] ∧ t.slotImage h k = [] ∧ t.num (Obj.slotState (16 * h + k)) = 0) := by
  obtain ⟨hjob, hmem, hstatus, hdetail, hother⟩ := State.finishJob_ends hj
  obtain ⟨hcurrent, hpending, hcancel, hclear⟩ := (s.jobEnded h).finishEffect_slots h
  have hkept := ((s.jobEnded h).finishEffect h e).reportJob_keeps h false st check
  refine ⟨s.finishJob h false, rfl, hjob, hmem, hstatus, hdetail, fun g hg => hother g fun e => hg (Fin.ext e), ?_⟩
  simp only [State.finishJob_eq hj, hkept.slotImage, hkept.slotPending]
  refine ⟨?nothing, ?current, ?pending, ?cancel, ?clear⟩
  case nothing =>
    rintro rfl k
    exact ⟨s.jobEnded_slotImage h k, s.jobEnded_slotPending h k⟩
  case current =>
    rintro k image rfl
    exact ⟨(hcurrent k image).1, (hcurrent k image).2.trans (s.jobEnded_slotPending h k)⟩
  case pending =>
    rintro k image step rfl hi
    obtain ⟨hp, hc, hstep⟩ := hpending k image step hi
    exact ⟨hp, hc.trans (s.jobEnded_slotImage h k), (State.reportJob_num _ _ _ _ _ 0x4300 0x05 256 _ (by decide)).trans hstep⟩
  case cancel =>
    rintro k rfl
    exact ⟨(hcancel k).1, (hcancel k).2.trans (s.jobEnded_slotImage h k)⟩
  case clear =>
    rintro k rfl
    obtain ⟨hp, hc, hstate⟩ := hclear k
    exact ⟨hp, hc, (State.reportJob_num _ _ _ _ _ 0x4300 0x01 256 _ (by decide)).trans hstate⟩

theorem planCommandComplete_completes {h : Hoop} {s : State} {st check : Nat} {e : ImageEffect}
    (hj : (s.hoop h).job = some ⟨true, st, check, e⟩) :
    Completes (.planCommandComplete h) s fun t => (t.hoop h).job = none ∧ t.mem = s.mem ∧
      t.num (Obj.planCommandStatus h) = st ∧ t.num (Obj.planCommandDetail h) = check ∧
      (∀ p, e = .plan p → p ≠ [] → (t.hoop h).plan = p ∧ t.bytes (Obj.planHash h) = sha3Bytes p ∧
        t.num (Obj.jobDeclaredMemory h) = field p 16 8 ∧ t.num (Obj.planEntryCount h) = entryCount p) ∧
      (e = .unload → (t.hoop h).plan = [] ∧ t.bytes (Obj.planHash h) = []) := by
  obtain ⟨hjob, hmem, hstatus, hdetail, -⟩ := State.finishJob_ends hj
  have hkept := ((s.jobEnded h).finishEffect h e).reportJob_keeps h true st check
  have hplan (p : Bytes) : (((s.jobEnded h).setPlan h p).hoop h).plan = p := by
    rw [((s.jobEnded h).setPlan_data h p).1, State.hoop_setHoop_same]
  refine ⟨s.finishJob h true, rfl, hjob, hmem, hstatus, hdetail, ?_⟩
  simp only [State.finishJob_eq hj, hkept.hoop]
  refine ⟨?plan, ?unload⟩
  case plan =>
    rintro p rfl hp
    obtain ⟨hhash, hcount, hmemory⟩ := (s.jobEnded h).setPlan_objects h p
    rw [if_neg hp] at hhash
    exact ⟨hplan p, (State.reportJob_bytes _ _ _ _ _ 0x3040 0x03 16 _ (by decide)).trans (congrArg Val.toBytes hhash),
      (State.reportJob_num _ _ _ _ _ 0x2100 0x07 16 _ (by decide)).trans (congrArg Val.toNat (hmemory hp)),
      (State.reportJob_num _ _ _ _ _ 0x4200 0x0C 16 _ (by decide)).trans (congrArg Val.toNat hcount)⟩
  case unload =>
    rintro rfl
    obtain ⟨hhash, -, -⟩ := (s.jobEnded h).setPlan_objects h []
    exact ⟨hplan [], (State.reportJob_bytes _ _ _ _ _ 0x3040 0x03 16 _ (by decide)).trans (congrArg Val.toBytes hhash)⟩

/-! ### A pending image becomes current (R158) -/

theorem pendingImageActivation_completes {h : Hoop} {slot : Fin 16} {s : State} (hdue : s.slotDue h slot = true) :
    Completes (.pendingImageActivation h slot) s fun t => t.slotImage h slot = s.slotPending h slot ∧ t.slotPending h slot = [] ∧
      t.num (Obj.slotState (16 * h + slot)) = 1 ∧ t.mem = s.mem ∧ t.tiles = s.tiles := by
  have hp : s.slotPending h slot ≠ [] := by
    simp only [State.slotDue, Bool.and_eq_true, bne_iff_ne] at hdue
    obtain ⟨⟨hp, -⟩, -⟩ := hdue
    exact hp
  refine ⟨s.activateSlot h slot, congrArg Host.Outcome.next (if_pos hdue), ?_⟩
  have hkept : HoopsKept (s.setSlot h slot (s.slotPending h slot) []) (s.activateSlot h slot) :=
    HoopsKept.rfl.each _ fun _ _ hu => hu.startExchange
  have hobjs : Settled [] (s.setSlot h slot (s.slotPending h slot) []) (s.activateSlot h slot) :=
    Settled.rfl.each _ fun _ _ hu => hu.startExchange
  refine ⟨(hkept.slotImage ..).trans (State.slotImage_setSlot ..), (hkept.slotPending ..).trans (State.slotPending_setSlot ..), ?_,
    hkept.mem.trans (State.setSlot_mem ..), ChunksKept.rfl.activateSlot.tiles⟩
  rw [hobjs.objs.num (by rintro ⟨_, hx, _⟩; cases hx), State.setSlot_slotState, if_neg hp, if_pos rfl]

/-! ### The obligation -/

/-- Settles O28: a command starts its job or is refused (`Completes.of_load`, `Completes.of_startJob`, `Completes.of_jobCommand_refused`),
and the completion carries the job out (`imageCommandComplete_completes`, `planCommandComplete_completes`). -/
theorem imagesAndPlansLoad : Obligations.ImagesAndPlansLoad := by
  unfold Obligations.ImagesAndPlansLoad
  refine ⟨fun _ _ _ _ ha hj h5 hlen hroom => imageStageWrite_completes ha hj h5 hlen hroom, ?load, ?loadPending, ?cancelPending, ?clear,
    ?planLoad, ?planUnload, fun rq h s hj => ⟨fun ha => .of_jobCommand_busy rfl ha hj, fun ha => .of_jobCommand_busy rfl ha hj⟩,
    fun _ _ _ _ _ hj => imageCommandComplete_completes hj, fun _ _ _ _ _ hj => planCommandComplete_completes hj,
    fun h slot s => ⟨fun hd => ?idle, pendingImageActivation_completes⟩⟩
  case load =>
    intro rq h s ha hj
    obtain ⟨bad, hf, hbad⟩ := s.loadImage_served rq (Obj.imageCommand h) h false
    obtain ⟨t, ht, hstart, hans, hkept⟩ := Completes.of_load (c := .imageLoad rq h) rfl ha hj hf hbad
    exact ⟨t, ht, hstart.status, hans, hkept, hstart.mem, hstart.hoop⟩
  case loadPending =>
    intro rq h s ha hj
    obtain ⟨bad, hf, hbad⟩ := s.loadImage_served rq (Obj.imageCommand h) h true
    obtain ⟨t, ht, hstart, hans, hkept⟩ := Completes.of_load (c := .imageLoadPending rq h) rfl ha hj hf hbad
    exact ⟨t, ht, hstart.status, hans, hkept, hstart.mem, hstart.hoop⟩
  case cancelPending =>
    intro rq h s ha hj
    refine ⟨fun hb => .of_jobCommand_refused (linearUnit_ne (by decide)) rfl ha hj ?_, fun hb => ?_⟩
    · exact if_pos (by simpa [State.slotPending] using hb)
    · obtain ⟨t, ht, hstart⟩ := Completes.of_startJob (c := .imageCancelPending rq h)
        (j := ⟨false, St.ok, 0, .cancel (s.num (Obj.imageCommandSlot h))⟩) rfl ha hj
        ((if_neg (by simpa [State.slotPending] using hb)).trans (by rw [State.served_num]))
      exact ⟨t, ht, hstart.status, hstart.hoop⟩
  case clear =>
    intro rq h s ha hj
    refine ⟨fun hb => .of_jobCommand_refused (linearUnit_ne (by decide)) rfl ha hj ?_, fun hb => ?_⟩
    · exact if_pos (by simpa [State.slotNamed] using hb)
    · obtain ⟨t, ht, hstart⟩ := Completes.of_startJob (c := .imageClear rq h)
        (j := ⟨false, St.ok, 0, .clear (s.num (Obj.imageCommandSlot h))⟩) rfl ha hj
        ((if_neg (by simpa [State.slotNamed] using hb)).trans (by rw [State.served_num]))
      exact ⟨t, ht, hstart.status, hstart.hoop⟩
  case planLoad =>
    intro rq h s ha hj
    obtain ⟨bad, hf, hbad⟩ := s.loadPlan_served rq (Obj.planCommand h) h
    obtain ⟨t, ht, hstart, hans, hkept⟩ := Completes.of_load (c := .planLoad rq h) rfl ha hj hf hbad
    exact ⟨t, ht, hstart.status, hans, hkept, hstart.mem, hstart.hoop⟩
  case planUnload =>
    intro rq h s ha hj
    refine ⟨fun hb => ?_, fun hb => .of_jobCommand_refused (linearUnit_ne (by decide)) rfl ha hj ?_⟩
    · obtain ⟨t, ht, hstart⟩ := Completes.of_startJob (c := .planUnload rq h) (j := ⟨true, St.ok, 0, .unload⟩) rfl ha hj
        (if_neg (by simpa using hb))
      exact ⟨t, ht, hstart.status, hstart.hoop⟩
    · exact if_pos (by simpa [or_iff_not_imp_left] using hb)
  case idle => exact congrArg Host.Outcome.next (if_neg (by simp [hd]))

end Sys2Proof

namespace Sys2Proof

open Sys2Proof.Machine

/-! ## Module memory: scrub, map-out and restore (R183–R190)

### What leaves the map-outs of the dies alone (R31, R187, R188)

A map-out may cost capacity that hoops have reserved, and a hoop that is taken for it faults and ends its operations (R31, R453). None
of this adds or ends a map-out. One lemma for each function of the model, in the model's order. -/

/-- The dies migrate in `t` the channels that they migrate in `s`. -/
def MigrationsKept (s t : State) : Prop := t.memory.migrations = s.memory.migrations

namespace MigrationsKept

section Shape

variable {s t u : State}

protected theorem rfl : MigrationsKept s s := Eq.refl _

theorem trans (h : MigrationsKept s t) (h' : MigrationsKept t u) : MigrationsKept s u := Eq.trans h' h

theorem migrating (h : MigrationsKept s t) (m : Nat) : t.migrating m = s.migrating m := congrArg (Map.get [] · m) h

theorem ite {c : Prop} [Decidable c] {u v : State} (hu : MigrationsKept s u) (hv : MigrationsKept s v) :
    MigrationsKept s (if c then u else v) := by
  split
  · exact hu
  · exact hv

theorem each {α : Type} (h : MigrationsKept s t) (xs : List α) {f : State → α → State}
    (hf : ∀ u x, MigrationsKept s u → MigrationsKept s (f u x)) : MigrationsKept s (t.each xs f) :=
  State.each_keeps _ f hf xs t h

/-- What leaves the map-outs alone where it changes other data of module memory. -/
theorem keepMemory {pending dict mem out freeCtr control events boot security meter line time work pools tiles fabric memory optics net power}
    (h : MigrationsKept s t) (hm : memory.migrations = t.memory.migrations) : MigrationsKept s ⟨pending, dict, mem, out, freeCtr,
      control, events, boot, security, meter, line, time, work, pools, tiles, fabric, memory, optics, net, power⟩ := hm.trans h

/-- What leaves the data of module memory as they were. -/
theorem keep {pending dict mem out freeCtr control events boot security meter line time work pools tiles fabric optics net power}
    (h : MigrationsKept s t) : MigrationsKept s ⟨pending, dict, mem, out, freeCtr, control, events, boot, security, meter, line,
      time, work, pools, tiles, fabric, t.memory, optics, net, power⟩ := h

theorem setNum (h : MigrationsKept s t) (k n : Nat) : MigrationsKept s (t.setNum k n) := h

theorem posted (h : MigrationsKept s t) (h' : Posted t u) : MigrationsKept s u := by
  obtain ⟨_, _, _, rfl⟩ := h'.rest
  exact h

end Shape

variable {s t : State} {h c k g w i gen q status step handle cause unit : Nat} {o : Operation} {keep : Bool} {r : Retained}

theorem raise (hs : MigrationsKept s t) (code : Nat) (a : EventArgs) : MigrationsKept s (t.raise code a) := by
  obtain ⟨_, _, _, _, e⟩ := t.raise_only code a
  rw [e]
  exact hs

theorem beginCommit (hs : MigrationsKept s t) (rq : Option Requester) : MigrationsKept s (t.beginCommit rq) := by
  obtain ⟨_, _, _, _, e⟩ := t.beginCommit_only rq
  rw [e]
  exact hs

theorem setP (hs : MigrationsKept s t) (k : Nat) (v : Val) : MigrationsKept s (t.setP k v) := by
  obtain ⟨_, _, e⟩ := t.setP_only k v
  rw [e]
  exact hs

theorem noteBadLines {lines : List Nat} (hs : MigrationsKept s t) : MigrationsKept s (t.noteBadLines lines) := by
  refine hs.each _ fun u l hu => ?_
  unfold State.noteUncorrectable
  extract_lets s1 y net memory s2 due
  have h2 : MigrationsKept s s2 := hu.keepMemory (by rfl)
  exact ite ((h2.keepMemory (by rfl)).raise _ _) h2

theorem emitTo {vc address opSequence epochTag : Nat} {tail payload : Bytes} {operation : Option (Nat × Nat × Nat)}
    {ticket : Option EmitTicket} (hs : MigrationsKept s t) :
    MigrationsKept s (t.emitTo h vc address opSequence epochTag tail payload operation ticket) := ite hs.keep hs.keep

/-! #### Buffers and frames -/

theorem countPools (hs : MigrationsKept s t) : MigrationsKept s (t.countPools h) := by
  unfold State.countPools
  extract_lets held s1 s2 s3 own s4
  have h2 : MigrationsKept s s2 := (hs.setNum _ _ : MigrationsKept s s1).each _ fun _ _ hu => hu.setNum _ _
  have h4 : MigrationsKept s s4 := ((h2.setNum _ _).setNum _ _).setNum _ _
  exact h4.each _ fun _ _ hu => (((hu.setNum _ _).setNum _ _).setNum _ _).setNum _ _

theorem trim (hs : MigrationsKept s t) : MigrationsKept s (t.trim h c) := by
  refine hs.each _ fun u x hu => ?_
  unfold State.trimFrame
  split
  · exact hu
  · exact ite (hu.keepMemory (by rfl)) hu

theorem endEpisode (hs : MigrationsKept s t) : MigrationsKept s (t.endEpisode h k) := ite (hs.setNum _ _).keep (hs.setNum _ _)

theorem dropWaiting {p : PoolRequest → Bool} (hs : MigrationsKept s t) : MigrationsKept s (t.dropWaiting p) :=
  each hs.keep _ fun _ _ hu => hu.endEpisode.trim.countPools

theorem refuseFree {holder : Option Nat} (hs : MigrationsKept s t) : MigrationsKept s (t.refuseFree h handle holder) := by
  unfold State.refuseFree
  extract_lets frame die s1
  have h1 : MigrationsKept s s1 := (hs.setNum _ _).raise _ _
  split
  · exact h1.keep
  · exact h1

theorem freeHandle {u : State} (hs : MigrationsKept s t) (e : t.freeHandle h handle = .freed u) : MigrationsKept s u := by
  unfold State.freeHandle at e
  split at e
  · nomatch e
  · dsimp only at e
    split at e
    · nomatch e
    · cases e
      exact hs.keep.trim.countPools

theorem freeEach {handles : List Nat} (hs : MigrationsKept s t) : MigrationsKept s (t.freeEach h handles) := by
  refine hs.each _ fun u y hu => ?_
  split
  next e => exact hu.freeHandle e
  · exact hu.refuseFree

theorem keepFor {m : Option Nat} {handles : List Nat} (hs : MigrationsKept s t) : MigrationsKept s (t.keepFor m handles) := by
  refine hs.each _ fun u y hu => ?_
  split
  · exact hu
  · split
    · exact hu
    · exact hu.keep

theorem letGo {handles : List Nat} {m : Option Nat} (hs : MigrationsKept s t) : MigrationsKept s (t.letGo h m handles) :=
  ite hs.keepFor hs.freeEach

theorem returnHoopFrames (hs : MigrationsKept s t) : MigrationsKept s (t.returnHoopFrames h) :=
  ((hs.dropWaiting.each _ fun _ _ hu => hu.keepMemory (by rfl)).setNum _ _).countPools

/-! #### Operations that end -/

theorem dropEmits {seq : Nat} (hs : MigrationsKept s t) : MigrationsKept s (t.dropEmits g seq) :=
  hs.each _ fun _ _ hu => ite hu.keep hu

theorem leaveTile {x : Nat × Nat × Nat} (hs : MigrationsKept s t) : MigrationsKept s (t.leaveTile i x) :=
  ite (hs.keep.setNum _ _) hs.keep

theorem endLanding {m : Option Nat} (hs : MigrationsKept s t) : MigrationsKept s (t.endLanding h w gen i m) := letGo hs.keep

theorem endHoldings (hs : MigrationsKept s t) : MigrationsKept s (t.endHoldings g o keep) := by
  unfold State.endHoldings
  extract_lets hoop window mine s1 work2 s2 gens s3 streams xs work4 s4 s5 waits s6 s7 y
  have h1 : MigrationsKept s s1 := hs.each _ fun _ _ hu => hu.leaveTile
  have h2 : MigrationsKept s s2 := h1.keep
  have h3 : MigrationsKept s s3 := h2.each _ fun _ _ hu => hu.endLanding
  have h6 : MigrationsKept s s6 := (letGo (h3.keep : MigrationsKept s s4)).dropWaiting.dropEmits
  exact h6.keep

theorem endOpWith (hs : MigrationsKept s t) : MigrationsKept s (t.endOpWith keep g o status) :=
  have h1 : MigrationsKept s (t.setOp g { o with ending := some status, phase := 2 }) := hs.keep
  ite h1 (h1.endHoldings.each _ fun _ _ hu => ite hu hu.keep)

theorem settleMatch (hs : MigrationsKept s t) : MigrationsKept s (t.settleMatch h step) := by
  unfold State.settleMatch
  extract_lets y mine left key u net s1 s2
  have h2 : MigrationsKept s s2 := (hs.keep : MigrationsKept s s1).setNum _ _
  exact ite hs (ite ((h2.setNum _ _).raise _ _) h2)

theorem retain (hs : MigrationsKept s t) : MigrationsKept s (t.retain g o) := ite hs hs.keep

theorem runAgain {side redo : Nat} (hs : MigrationsKept s t) : MigrationsKept s (t.runAgain r side redo) := ite hs hs.keep

theorem abortOps (hs : MigrationsKept s t) : MigrationsKept s (t.abortOps g status keep) := by
  unfold State.abortOps
  extract_lets s1 y s2
  have h1 : MigrationsKept s s1 := hs.each _ fun _ _ hu => hu.endHoldings
  exact (h1.keep : MigrationsKept s s2).each _ fun _ _ hu => hu.endOpWith

theorem forgetEvacuation (hs : MigrationsKept s t) : MigrationsKept s (t.forgetEvacuation h) := ite hs.keep hs

theorem enterFault (hs : MigrationsKept s t) : MigrationsKept s (t.enterFault h cause unit) := by
  unfold State.enterFault
  extract_lets st s1 s2 s3
  have h1 : MigrationsKept s s1 := hs.raise _ _
  have h2 : MigrationsKept s s2 := ((h1.setNum _ _).setNum _ _).setNum _ _
  have h3 : MigrationsKept s s3 := h2.each _ fun _ _ hu => hu.abortOps
  exact ite hs (ite h1 h3.dropWaiting.forgetEvacuation)

theorem resendStreams {sites : Nat} (hs : MigrationsKept s t) : MigrationsKept s (t.resendStreams h g o sites) := by
  unfold State.resendStreams
  dsimp only
  split
  · exact hs
  · exact hs.each _ fun _ _ hu => ite hu (ite hu.noteBadLines.enterFault
      (hu.each _ fun _ _ hv => hv.each _ fun _ _ hw => hw.emitTo))

theorem replay {x : Reconcile} (hs : MigrationsKept s t) : MigrationsKept s (t.replay h x r) :=
  ite hs.resendStreams (ite hs.resendStreams hs.resendStreams.runAgain)

theorem joinReplay (hs : MigrationsKept s t) : MigrationsKept s (t.joinReplay h g o) := by
  unfold State.joinReplay
  split
  · exact ite hs.replay hs
  · exact hs

theorem freeContext (hs : MigrationsKept s t) : MigrationsKept s (t.freeContext g o) :=
  (((hs.keep : MigrationsKept s (t.setGroup g _)).setNum _ _).setNum _ _).setNum _ _

theorem advanceStep (hs : MigrationsKept s t) : MigrationsKept s (t.advanceStep g o) := by
  have h1 : MigrationsKept s ((t.bump 32 (Obj.outerStepCounter (t.hoopOfGroup g)) 1).settleMatch (t.hoopOfGroup g) o.step) :=
    (hs.setNum _ _).settleMatch
  exact ite (ite (h1.raise _ _) h1) hs

theorem markBroken (hs : MigrationsKept s t) : MigrationsKept s (t.markBroken g) := ite ((hs.setNum _ _).raise _ _) hs

theorem settleOps {n : Nat} (hs : MigrationsKept s t) : MigrationsKept s (State.settleOps n t g) := by
  induction n generalizing t with
  | zero => exact hs
  | succ n ih =>
    unfold State.settleOps
    split
    · exact hs
    · split
      · exact hs
      · split
        · exact ih (endOpWith hs).markBroken
        · extract_lets place s1 s2 s3 s4
          have h1 : MigrationsKept s s1 := hs.posted (Posted.rfl.writeRecord ..)
          have h3 : MigrationsKept s s3 := (ite h1.retain h1 : MigrationsKept s s2).freeContext
          have h4 : MigrationsKept s s4 := ite h3.endHoldings.advanceStep.joinReplay h3
          exact ih h4

theorem endRedo (hs : MigrationsKept s t) : MigrationsKept s (t.endRedo g o) := by
  unfold State.endRedo
  extract_lets status chunks s1 s2 s3 y s4
  have h1 : MigrationsKept s s1 := hs.posted (Posted.rfl.writeRecord ..)
  have h3 : MigrationsKept s s3 := (ite h1.retain h1 : MigrationsKept s s2).endHoldings
  clear_value s3
  have h4 : MigrationsKept s s4 := h3.keep
  exact ite h4.advanceStep h4

theorem settleFault (hs : MigrationsKept s t) : MigrationsKept s (t.settleFault h) :=
  ite (hs.each _ fun _ _ hu => hu.settleOps.each _ fun _ _ hv => hv.endRedo) hs

theorem faultHoop (hs : MigrationsKept s t) : MigrationsKept s (t.faultHoop h cause unit) := ite hs.enterFault hs.enterFault.settleFault

theorem settleFrees {n : Nat} (hs : MigrationsKept s t) : MigrationsKept s (State.settleFrees n t) := by
  induction n generalizing t with
  | zero => exact hs
  | succ n ih =>
    unfold State.settleFrees
    split
    · exact hs
    · exact ih (each hs.keep _ fun _ _ hu => hu.faultHoop)

theorem hoopFault (hs : MigrationsKept s t) : MigrationsKept s (t.hoopFault h cause unit) := hs.faultHoop.settleFrees

end MigrationsKept

/-! ### What a map-out's first step writes (R31, R187, R203) -/

/-- The objects that taking hoops for lost capacity and moving frames may write: beside those of hoop faults, the frame limits of the
hoops taken, the frames of the die and the frames moved. -/
def mapOutTables : List ObjTable :=
  endTables ++ [⟨0x5220, 0x01, 16, false⟩, ⟨0x5210, 0x01, 8, false⟩, ⟨0x5200, 0x03, 1, false⟩]

/-- Between `s` and `t` hoops and frames have made way for a map-out, which has changed no object beside `mapOutTables` and no die's
list of map-outs. -/
structure MakesWay (s t : State) : Prop where
  objs : WritesIn mapOutTables s t
  migrations : MigrationsKept s t

namespace MakesWay

variable {s t u : State} {c h m k : Nat}

protected theorem rfl : MakesWay s s := ⟨.rfl, .rfl⟩

theorem settled (hs : MakesWay s t) (hu : Settled endTables t u) (hm : MigrationsKept s u) : MakesWay s u :=
  ⟨hs.objs.trans (hu.objs.mono (List.subset_append_left ..)), hm⟩

theorem setNum (hs : MakesWay s t) (hk : Written mapOutTables k) (n : Nat) : MakesWay s (t.setNum k n) := ⟨hs.objs.set hk _, hs.migrations⟩

/-- What writes no object and adds or ends no map-out. -/
theorem keep (hs : MakesWay s t) (hd : u.dict = t.dict) (hm : u.memory.migrations = t.memory.migrations) : MakesWay s u :=
  ⟨hs.objs.keep hd, hm.trans hs.migrations⟩

theorem ite {p : Prop} [Decidable p] (ht : MakesWay s t) (hu : MakesWay s u) : MakesWay s (if p then t else u) := by
  split
  · exact ht
  · exact hu

theorem each {α : Type} (hs : MakesWay s t) (xs : List α) {f : State → α → State} (hf : ∀ u x, MakesWay s u → MakesWay s (f u x)) :
    MakesWay s (t.each xs f) :=
  State.each_keeps _ f hf xs t hs

theorem beginCommit (hs : MakesWay s t) (rq : Option Requester) : MakesWay s (t.beginCommit rq) :=
  ⟨hs.objs.trans fun _ hj => t.beginCommit_obj rq fun hk => hj ((written_of_eventKeys hk).mono (by decide)),
    hs.migrations.beginCommit rq⟩

theorem countPools (hs : MakesWay s t) : MakesWay s (t.countPools h) := hs.settled Settled.rfl.countPools hs.migrations.countPools

theorem setHoop {y : HoopData} (hs : MakesWay s t) : MakesWay s (t.setHoop h y) := hs.keep rfl rfl

theorem returnHoopFrames (hs : MakesWay s t) : MakesWay s (t.returnHoopFrames h) :=
  hs.settled (((Settled.rfl.dropWaiting.each _ fun _ _ hu => hu.keep).setNum (.linear (by decide)) _).countPools)
    hs.migrations.returnHoopFrames

theorem hoopFault {cause unit : Nat} (hs : MakesWay s t) : MakesWay s (t.hoopFault h cause unit) :=
  hs.settled Settled.rfl.faultHoop.checkFrees hs.migrations.hoopFault

theorem countCapacity (hs : MakesWay s t) : MakesWay s t.countCapacity :=
  hs.settled (Settled.rfl.reserves Reserves.rfl.countCapacity) (hs.migrations.setNum _ _)

theorem takeHoops (hs : MakesWay s t) : MakesWay s t.takeHoops :=
  countCapacity (hs.each (List.range 16).reverse fun u h hu => ite
    (setHoop (setNum (returnHoopFrames (ite hu hu.hoopFault)) (.linear (i := h) (b := 0x5220) (u := 0x01) (n := 16) (by decide)) _)) hu)

theorem setFrame {f : Option Frame} (hs : MakesWay s t) : MakesWay s (t.setFrame k f) := hs.keep rfl rfl

/-- The place that is found for the frame stands as a variable, as in `Canonical.moveFrame`. -/
theorem moveFrame {f : Frame} (hs : MakesWay s t) : MakesWay s (t.moveFrame k f) := by
  have e : @State.moveFrame = @State.moveFrame := rfl
  conv at e => rhs; delta State.moveFrame
  obtain ⟨place, hplace⟩ : ∃ f, f = State.newPlace := exists_eq
  rw [e, ← hplace]
  beta_reduce
  split
  · exact hs
  next new _ =>
    extract_lets a b moved bad s1
    have hcount : MakesWay s ((t.noteBadLines (t.badLines a frameBytes)).bump 64 Obj.poolFramesMoved 1) :=
      (hs.settled Settled.rfl.noteBadLines hs.migrations.noteBadLines).setNum (.single (by decide)) _
    have h1 : MakesWay s s1 := hcount.setFrame.setFrame
    clear_value s1
    exact h1.keep rfl rfl

end MakesWay

namespace Machine.State

variable (s : State) (c : Nat)

/-- Beside the mark of the channel, the first step of its map-out only makes way for it (R187). -/
theorem startMapOut_makesWay : MakesWay ((s.loseChannel c).setNum (Obj.channelState c) 1) (s.startMapOut c) := by
  unfold startMapOut
  extract_lets m s1 s2 bound s3
  have h1 : MakesWay ((s.loseChannel c).setNum (Obj.channelState c) 1) s1 := (MakesWay.rfl.beginCommit none).takeHoops
  have h3 : MakesWay ((s.loseChannel c).setNum (Obj.channelState c) 1) s3 :=
    (h1.setNum (.linear (by decide)) _).each _ fun _ _ hu => hu.moveFrame
  exact h3.each _ fun _ _ hu => hu.countPools

/-- The list of mapped-out channels joined by one more (R183). -/
def joinedList : Bytes := leBytes 80 (setBit (leNat (s.bytes Obj.mappedOutChannels)) c true)

/-- Beside the list, losing a channel writes what an event does (R31). -/
theorem loseChannel_settled :
    Settled eventTables (s.setP Obj.mappedOutChannels (.blob (s.joinedList c))) (s.loseChannel c) := by
  unfold joinedList loseChannel
  extract_lets s1
  exact .ite (Settled.rfl.raise_in (List.Subset.refl _) _ _) .rfl

theorem loseChannel_migrations : MigrationsKept s (s.loseChannel c) := by
  unfold loseChannel
  extract_lets s1
  have h1 : MigrationsKept s s1 := MigrationsKept.rfl.setP _ _
  exact .ite (h1.raise _ _) h1

theorem startMapOut_migrations : MigrationsKept s (s.startMapOut c) :=
  ((s.loseChannel_migrations c).setNum _ _).trans (s.startMapOut_makesWay c).migrations

theorem startMapOut_channelState : (s.startMapOut c).num (Obj.channelState c) = 1 :=
  ((s.startMapOut_makesWay c).objs.packed (b := 0x5100) (u := 0) (n := 640) (by decide)).trans (num_setNum_same ..)

theorem startMapOut_num {k : Nat} (hk : ¬ Written mapOutTables k) (hl : k ≠ Obj.mappedOutChannels) (hc : k ≠ Obj.channelState c) :
    (s.startMapOut c).num k = s.num k :=
  have hp : k ≠ Obj.persistPending := fun e => hk (e ▸ .single (by decide))
  ((s.startMapOut_makesWay c).objs.num hk).trans ((num_setNum_other _ _ hc).trans
    (((s.loseChannel_settled c).objs.num fun he => hk (he.mono (by decide))).trans (congrArg Val.toNat (obj_setP_other _ _ hl hp))))

theorem startMapOut_list : (s.startMapOut c).obj Obj.mappedOutChannels = .blob (s.joinedList c) :=
  calc (s.startMapOut c).obj Obj.mappedOutChannels
    _ = ((s.loseChannel c).setNum (Obj.channelState c) 1).obj Obj.mappedOutChannels :=
      (s.startMapOut_makesWay c).objs _ (Written.not_key (x := ⟨0x5000, 0x04, 1, false⟩) (by decide) 0)
    _ = (s.loseChannel c).obj Obj.mappedOutChannels :=
      obj_setNum_other _ _ (ObjTable.key_ne (x := ⟨0x5000, 0x04, 1, false⟩) (y := ⟨0x5100, 0x00, 640, true⟩) (by decide) 0 c)
    _ = (s.setP Obj.mappedOutChannels (.blob (s.joinedList c))).obj Obj.mappedOutChannels :=
      (s.loseChannel_settled c).objs _ (Written.not_key (x := ⟨0x5000, 0x04, 1, false⟩) (by decide) 0)
    _ = .blob (s.joinedList c) := obj_setP_same _ _ _ (by decide)

/-- The channel is on the list of mapped-out channels, which a cold reset reads (R183, R187). -/
theorem startMapOut_listed (hc : c < 640) : bitAt (leNat ((s.startMapOut c).bytes Obj.mappedOutChannels)) c = true := by
  rw [bytes, startMapOut_list]
  change bitAt (leNat (leBytes 80 (setBit (leNat (s.bytes Obj.mappedOutChannels)) c true))) c = true
  rw [leNat_leBytes, bitAt, show 256 ^ 80 = 2 ^ 640 by rw [show 256 = 2 ^ 8 from rfl, ← pow_mul], Nat.testBit_mod_two_pow]
  simp [hc, setBit]

end Machine.State

/-! ### Channels and their lines (R176) -/

theorem packedUnit_ne {b u n b' u' n' i j : Nat} (h : ObjTable.Apart ⟨b, u, n, true⟩ ⟨b', u', n', true⟩) :
    packedUnit b u n i ≠ packedUnit b' u' n' j := ObjTable.key_ne h i j

theorem packedUnit_ne_single {b u n b' u' i : Nat} (h : ObjTable.Apart ⟨b, u, n, true⟩ ⟨b', u', 1, false⟩) :
    packedUnit b u n i ≠ linearKey b' u' 0 := ObjTable.key_ne h i 0

theorem linearUnit_ne_single {b u n b' u' i : Nat} (h : ObjTable.Apart ⟨b, u, n, false⟩ ⟨b', u', 1, false⟩) :
    linearUnit b u n i ≠ linearKey b' u' 0 := ObjTable.key_ne h i 0

theorem linearUnit_ne_packed {b u n b' u' n' i j : Nat} (h : ObjTable.Apart ⟨b, u, n, false⟩ ⟨b', u', n', true⟩) :
    linearUnit b u n i ≠ packedUnit b' u' n' j := ObjTable.key_ne h i j

theorem ObjectsKept.setNum {keys : List Nat} {s t : State} {k : Nat} (h : ObjectsKept keys s t) (hk : k ∈ keys) (n : Nat) :
    ObjectsKept keys s (t.setNum k n) :=
  fun j hj => (t.obj_setNum_other n fun (e : j = k) => hj (e ▸ hk)).trans (h j hj)

/-- Between `s` and `t` a line of a channel has been corrected: its channel counts it, and the line alone is written back (R185). -/
structure LineCorrected (c line : Nat) (s t : State) : Prop where
  count : t.num (Obj.channelCorrected c) = (s.num (Obj.channelCorrected c) + 1) % 2 ^ 32
  passCount : t.num (Obj.channelCorrectedPass c) = (s.num (Obj.channelCorrectedPass c) + 1) % 2 ^ 32
  position : (t.channel c).position = (s.channel c).position
  objs : ObjectsKept [Obj.channelCorrected c, Obj.channelCorrectedPass c, Obj.channelWorstPin c] s t
  mem : ∀ a, (∀ l, s.dataLine c line = some l → ¬ (l * 64 ≤ a ∧ a < l * 64 + 64)) → t.mem.read a = s.mem.read a

/-- Between `s` and `t` a line of a channel could not be corrected: the channel and the module count it, and it reads uncorrectable
(R184, R185). -/
structure LineFailed (c line : Nat) (s t : State) : Prop where
  count : t.num (Obj.channelUncorrectable c) = (s.num (Obj.channelUncorrectable c) + 1) % 2 ^ 32
  moduleCount : t.num Obj.scrubUncorrectable = (s.num Obj.scrubUncorrectable + 1) % 2 ^ 64
  position : (t.channel c).position = (s.channel c).position
  bad : ∀ l, s.dataLine c line = some l → l ∈ t.memory.bad
  objs : ObjectsKept [Obj.channelUncorrectable c, Obj.scrubUncorrectable] s t
  mem : t.mem = s.mem

namespace Machine.State

variable (s : State) (c : Nat)

@[simp] theorem setNum_channel (k n : Nat) : (s.setNum k n).channel c = s.channel c := rfl

@[simp] theorem store_channel (a : Nat) (b : Bytes) : (s.store a b).channel c = s.channel c := rfl

variable {s} in
/-- Where a line of a channel lies follows from the states of the channels alone. -/
theorem dataLine_kept {t : State} {keys : List Nat} (h : ObjectsKept keys s t) (hk : ∀ i, Obj.channelState i ∉ keys) (c line : Nat) :
    t.dataLine c line = s.dataLine c line := by
  have hlive : t.channelLive = s.channelLive := funext fun i =>
    congrArg (fun v => decide (Val.toNat v < 2)) (h _ (hk i))
  unfold dataLine liveChannels
  rw [hlive]

/-- A store leaves every byte outside its bytes. -/
theorem store_read_other {a j : Nat} {b : Bytes} (h : j < a ∨ a + b.length ≤ j) : (s.store a b).mem.read j = s.mem.read j := by
  unfold store
  dsimp only
  split
  · rw [Memory.read_writeBytes, if_neg (by omega)]
  · rfl

/-! ### Scrub (R185, R186) -/

/-- Noting a channel's pins leaves its other objects. -/
theorem setChannel_setWorstPin_num (x : ChannelData) (n : Nat) {u : Nat}
    (hu : ObjTable.Apart ⟨0x5100, u, 640, true⟩ ⟨0x5100, 0x04, 640, true⟩) :
    ((s.setChannel c x).setNum (Obj.channelWorstPin c) n).num (packedUnit 0x5100 u 640 c) = s.num (packedUnit 0x5100 u 640 c) :=
  num_setNum_other (k := Obj.channelWorstPin c) (s.setChannel c x) n (packedUnit_ne hu)

/-- A corrected codeword counts in its channel and in its pins, and its line alone is written back (R185). -/
theorem scrubCorrects_corrects (line : Nat) (word : Bytes) (wrong : List Nat) :
    LineCorrected c line s (s.scrubCorrects c line word wrong) := by
  unfold scrubCorrects
  extract_lets x pins s1 s2
  have hcorrected : s1.num (Obj.channelCorrected c) = (s.num (Obj.channelCorrected c) + 1) % 2 ^ 32 :=
    (num_setNum_other _ _ (packedUnit_ne (by decide))).trans (num_bump_same ..)
  have hpass : s1.num (Obj.channelCorrectedPass c) = (s.num (Obj.channelCorrectedPass c) + 1) % 2 ^ 32 :=
    (num_bump_same ..).trans (congrArg (fun n => (n + 1) % 2 ^ 32) (num_setNum_other _ _ (packedUnit_ne (by decide))))
  have h1 : ObjectsKept [Obj.channelCorrected c, Obj.channelCorrectedPass c, Obj.channelWorstPin c] s s1 :=
    (ObjectsKept.setNum (fun _ _ => rfl) (by simp) _).setNum (by simp) _
  have hmem : s1.mem = s.mem := rfl
  clear_value pins s1
  have hcounts {u : Nat} (hu : ObjTable.Apart ⟨0x5100, u, 640, true⟩ ⟨0x5100, 0x04, 640, true⟩) :
      s2.num (packedUnit 0x5100 u 640 c) = s1.num (packedUnit 0x5100 u 640 c) := s1.setChannel_setWorstPin_num _ _ _ hu
  have hposition : (s2.channel c).position = x.position := by
    rw [show s2.channel c = { x with pins := pins } from (setNum_channel ..).trans (channel_setChannel_same ..)]
  have h2 : ObjectsKept [Obj.channelCorrected c, Obj.channelCorrectedPass c, Obj.channelWorstPin c] s s2 :=
    ObjectsKept.setNum (fun j hj => (setChannel_obj s1 c { x with pins := pins } j).trans (h1 j hj)) (by simp) _
  have hline : s2.dataLine c line = s.dataLine c line := dataLine_kept h2 (fun i => by
    simp only [List.mem_cons, List.not_mem_nil, or_false, not_or]
    exact ⟨packedUnit_ne (by decide), packedUnit_ne (by decide), packedUnit_ne (by decide)⟩) c line
  have hmem2 : s2.mem = s.mem := hmem
  clear_value s2
  split
  next l hl =>
    refine ⟨(store_num ..).trans ((hcounts (by decide)).trans hcorrected), (store_num ..).trans ((hcounts (by decide)).trans hpass),
      hposition, fun j hj => (store_obj ..).trans (h2 j hj), fun a ha => (s2.store_read_other ?_).trans (by rw [hmem2])⟩
    have hout := ha l (hline.symm.trans hl)
    have hlen : (word.take 64).length ≤ 64 := List.length_take_le ..
    omega
  · exact ⟨(hcounts (by decide)).trans hcorrected, (hcounts (by decide)).trans hpass, hposition, h2, fun _ _ => by rw [hmem2]⟩

/-- Below the thresholds one more uncorrectable codeword does not reach them (R186). -/
theorem not_manyUncorrectable_succ {t : State} (hp : (s.channel c).passUncorrectable < 15) (ht : (s.channel c).times.length < 15)
    (hp' : (t.channel c).passUncorrectable = (s.channel c).passUncorrectable + 1)
    (ht' : (t.channel c).times.length = (s.channel c).times.length + 1) : t.manyUncorrectable c = false := by
  have hlen := List.length_filter_le (fun u => decide (t.now ≤ u + 86400 * 1000000000)) (t.channel c).times
  unfold manyUncorrectable
  simp only [Bool.or_eq_false_iff, decide_eq_false_iff_not]
  omega

/-- A codeword that cannot be corrected counts in its channel and in the module, and its line reads uncorrectable (R184, R185). -/
theorem scrubFails_counts (line : Nat) (hp : (s.channel c).passUncorrectable < 15) (ht : (s.channel c).times.length < 15) :
    LineFailed c line s (s.scrubFails c line) := by
  unfold scrubFails
  extract_lets x s1 s2 memory s3
  have h1 : ObjectsKept [Obj.channelUncorrectable c, Obj.scrubUncorrectable] s s1 :=
    (ObjectsKept.setNum (fun _ _ => rfl) (by simp) _).setNum (by simp) _
  have hchannel : s1.num (Obj.channelUncorrectable c) = (s.num (Obj.channelUncorrectable c) + 1) % 2 ^ 32 :=
    (num_setNum_other _ _ (packedUnit_ne_single (by decide))).trans (num_bump_same ..)
  have hmodule : s1.num Obj.scrubUncorrectable = (s.num Obj.scrubUncorrectable + 1) % 2 ^ 64 :=
    (num_bump_same ..).trans (congrArg (fun n => (n + 1) % 2 ^ 64) (num_setNum_other _ _ (packedUnit_ne_single (by decide)).symm))
  have hline : s2.dataLine c line = s.dataLine c line := dataLine_kept h1 (fun i => by
    simp only [List.mem_cons, List.not_mem_nil, or_false, not_or]
    exact ⟨packedUnit_ne (by decide), packedUnit_ne_single (by decide)⟩) c line
  have h2 : s2.channel c = { x with passUncorrectable := x.passUncorrectable + 1, times := s.now :: x.times } :=
    channel_setChannel_same ..
  obtain ⟨bad, e, hbad⟩ : ∃ bad, s3 = { s2 with memory := { s2.memory with bad := bad } } ∧ ∀ l, s2.dataLine c line = some l → l ∈ bad := by
    cases hl : s2.dataLine c line with
    | none => exact ⟨s2.memory.bad, by simp only [s3, hl], nofun⟩
    | some l =>
      by_cases hin : s2.memory.bad.contains l = true
      · exact ⟨s2.memory.bad, by simp only [s3, hl, if_pos hin], fun _ e => Option.some.inj e ▸ List.contains_iff_mem.1 hin⟩
      · exact ⟨l :: s2.memory.bad, by simp only [s3, hl, if_neg hin, memory], fun _ e => Option.some.inj e ▸ List.mem_cons_self⟩
  have h3' : State.channel { s2 with memory := { s2.memory with bad := bad } } c = s2.channel c := rfl
  have h3 : s3.channel c = s2.channel c := by rw [e, h3']
  have hfew : s3.manyUncorrectable c = false :=
    s.not_manyUncorrectable_succ c hp ht (by rw [h3, h2]) (by rw [h3, h2]; rfl)
  rw [if_neg (by rw [hfew]; decide), e]
  exact ⟨hchannel, hmodule, by rw [h3', h2], fun l hl => hbad l (hline.trans hl), h1, rfl⟩

end Machine.State

/-! ### The commands of the scrub (R185, R186) -/

section Scrub

variable {c : Channel} {word : Bytes} {s : State}

/-- The channel is scrubbed: it is Active, its die does not migrate, and a line of the pass is left (R185). -/
def Machine.State.Scrubs (s : State) (c : Channel) : Prop :=
  s.num (Obj.channelState c) = 0 ∧ s.migrating (c / 80) = [] ∧ (s.channel c).position < channelLines

/-- The state in which the scrub has gone on to the next line of the channel. -/
def Machine.State.scrubbed (s : State) (c : Nat) : State := s.setChannel c { s.channel c with position := nextLine (s.channel c).position }

theorem Machine.State.scrubbed_position (s : State) (c : Nat) : ((s.scrubbed c).channel c).position = nextLine (s.channel c).position := by
  rw [State.scrubbed, State.channel_setChannel_same]

theorem scrubCodewordRead_idle (h : ¬ s.Scrubs c) : exec (.scrubCodewordRead c word) s = .next s := if_pos (by
  unfold State.Scrubs at h
  by_contra hn
  push Not at hn
  exact h ⟨hn.1, hn.2.1, hn.2.2⟩)

/-- What the decoder makes of the codeword that is read decides (R185); a line that reads uncorrectable has no codeword (R184). -/
theorem scrubCodewordRead_exec (h : s.Scrubs c) : exec (.scrubCodewordRead c word) s =
    match (if (s.dataLine c (s.channel c).position).any s.memory.bad.contains = true then none
      else decodeWord c (s.channel c).position word : Option (Bytes × List Nat)) with
    | none => .next ((s.scrubbed c).scrubFails c (s.channel c).position)
    | some (fixed, wrong) => .next (if wrong = [] then s.scrubbed c
        else (s.scrubbed c).scrubCorrects c (s.channel c).position fixed wrong) := by
  obtain ⟨h0, hm, hl⟩ := h
  exact if_neg (by simp [h0, hm, hl])

theorem scrubCodewordRead_decoded {fixed : Bytes} {wrong : List Nat} (h : s.Scrubs c)
    (hb : ¬ (s.dataLine c (s.channel c).position).any s.memory.bad.contains = true)
    (hd : decodeWord c (s.channel c).position word = some (fixed, wrong)) : exec (.scrubCodewordRead c word) s =
      .next (if wrong = [] then s.scrubbed c else (s.scrubbed c).scrubCorrects c (s.channel c).position fixed wrong) := by
  rw [scrubCodewordRead_exec h, if_neg hb, hd]

theorem scrubCodewordRead_fails (h : s.Scrubs c)
    (hb : (s.dataLine c (s.channel c).position).any s.memory.bad.contains = true ∨ decodeWord c (s.channel c).position word = none) :
    exec (.scrubCodewordRead c word) s = .next ((s.scrubbed c).scrubFails c (s.channel c).position) := by
  have hnone : (if (s.dataLine c (s.channel c).position).any s.memory.bad.contains = true then none
      else decodeWord c (s.channel c).position word : Option (Bytes × List Nat)) = none := by
    split
    · rfl
    next hn => exact hb.resolve_left hn
  rw [scrubCodewordRead_exec h, hnone]

theorem scrubCodewordRead_completes_intact {fixed : Bytes} (h : s.Scrubs c)
    (hb : ¬ (s.dataLine c (s.channel c).position).any s.memory.bad.contains = true)
    (hd : decodeWord c (s.channel c).position word = some (fixed, [])) : Completes (.scrubCodewordRead c word) s fun t =>
      (t.channel c).position = nextLine (s.channel c).position ∧ ObjectsKept [] s t ∧ t.mem = s.mem :=
  ⟨_, scrubCodewordRead_decoded h hb hd, s.scrubbed_position c, fun _ _ => rfl, rfl⟩

theorem scrubCodewordRead_completes_corrected {fixed : Bytes} {wrong : List Nat} (h : s.Scrubs c)
    (hb : ¬ (s.dataLine c (s.channel c).position).any s.memory.bad.contains = true)
    (hd : decodeWord c (s.channel c).position word = some (fixed, wrong)) (hw : wrong ≠ []) :
    Completes (.scrubCodewordRead c word) s fun t =>
      t.num (Obj.channelCorrected c) = (s.num (Obj.channelCorrected c) + 1) % 2 ^ 32 ∧
      t.num (Obj.channelCorrectedPass c) = (s.num (Obj.channelCorrectedPass c) + 1) % 2 ^ 32 ∧
      (t.channel c).position = nextLine (s.channel c).position ∧
      ObjectsKept [Obj.channelCorrected c, Obj.channelCorrectedPass c, Obj.channelWorstPin c] s t ∧
      ∀ a, (∀ l, s.dataLine c (s.channel c).position = some l → ¬ (l * 64 ≤ a ∧ a < l * 64 + 64)) → t.mem.read a = s.mem.read a := by
  obtain ⟨hcount, hpass, hposition, hobjs, hmem⟩ := (s.scrubbed c).scrubCorrects_corrects c (s.channel c).position fixed wrong
  exact ⟨_, (scrubCodewordRead_decoded h hb hd).trans (by rw [if_neg hw]), hcount, hpass, hposition.trans (s.scrubbed_position c),
    hobjs, hmem⟩

theorem scrubCodewordRead_completes_failed (h : s.Scrubs c)
    (hb : (s.dataLine c (s.channel c).position).any s.memory.bad.contains = true ∨ decodeWord c (s.channel c).position word = none)
    (hp : (s.channel c).passUncorrectable < 15) (ht : (s.channel c).times.length < 15) :
    Completes (.scrubCodewordRead c word) s fun t =>
      t.num (Obj.channelUncorrectable c) = (s.num (Obj.channelUncorrectable c) + 1) % 2 ^ 32 ∧
      t.num Obj.scrubUncorrectable = (s.num Obj.scrubUncorrectable + 1) % 2 ^ 64 ∧
      (t.channel c).position = nextLine (s.channel c).position ∧
      (∀ l, s.dataLine c (s.channel c).position = some l → l ∈ t.memory.bad) ∧
      ObjectsKept [Obj.channelUncorrectable c, Obj.scrubUncorrectable] s t ∧ t.mem = s.mem := by
  have hchannel : (s.scrubbed c).channel c = { s.channel c with position := nextLine (s.channel c).position } :=
    State.channel_setChannel_same ..
  obtain ⟨hcount, hmodule, hposition, hbad, hobjs, hmem⟩ :=
    (s.scrubbed c).scrubFails_counts c (s.channel c).position (by rw [hchannel]; exact hp) (by rw [hchannel]; exact ht)
  exact ⟨_, scrubCodewordRead_fails h hb, hcount, hmodule, hposition.trans (s.scrubbed_position c), hbad, hobjs, hmem⟩

/-- The state in which the channel's pass has ended: its counts are cleared, and the pass counts (R185). -/
def Machine.State.passEnded (s : State) (c : Nat) : State :=
  ((s.setChannel c { s.channel c with pins := [], passUncorrectable := 0, position := 0, passes := (s.channel c).passes + 1 }).setNum
    (Obj.channelCorrectedPass c) 0).setNum (Obj.channelWorstPin c) 0xFF

theorem Machine.State.passEnded_kept (s : State) (c : Nat) :
    ObjectsKept [Obj.channelCorrectedPass c, Obj.channelWorstPin c] s (s.passEnded c) :=
  (ObjectsKept.setNum (fun _ _ => State.setChannel_obj ..) (by simp) _).setNum (by simp) _

theorem Machine.State.passEnded_passCount (s : State) (c : Nat) : (s.passEnded c).num (Obj.channelCorrectedPass c) = 0 :=
  (State.num_setNum_other _ _ (packedUnit_ne (by decide))).trans (State.num_setNum_same ..)

theorem Machine.State.passEnded_worstPin (s : State) (c : Nat) : (s.passEnded c).num (Obj.channelWorstPin c) = 0xFF :=
  State.num_setNum_same ..

theorem Machine.State.passEnded_channel (s : State) (c : Nat) : (s.passEnded c).channel c =
    { s.channel c with pins := [], passUncorrectable := 0, position := 0, passes := (s.channel c).passes + 1 } :=
  State.channel_setChannel_same ..

/-- Counting the passes writes one object (R190). -/
theorem Machine.State.countPasses_eq (s : State) : ∃ n, s.countPasses = s.setNum Obj.scrubPassCount n := ⟨_, rfl⟩

/-- A pass that has read every line and stays under the thresholds is counted and its counts are cleared (R185, R186). -/
theorem scrubPassComplete_completes (h0 : s.num (Obj.channelState c) = 0) (hm : s.migrating (c / 80) = [])
    (hp : channelLines ≤ (s.channel c).position) (hc : s.num (Obj.channelCorrectedPass c) < s.num Obj.mapOutCorrectedThreshold)
    (hu : s.manyUncorrectable c = false) (hpins : (s.channel c).pins.all (fun p => decide (p.2 < s.num Obj.mapOutPinThreshold)) = true) :
    Completes (.scrubPassComplete c) s fun t =>
      t.num (Obj.channelCorrectedPass c) = 0 ∧ t.num (Obj.channelWorstPin c) = 0xFF ∧
      t.channel c = { s.channel c with pins := [], passUncorrectable := 0, position := 0, passes := (s.channel c).passes + 1 } ∧
      ObjectsKept [Obj.channelCorrectedPass c, Obj.channelWorstPin c, Obj.scrubPassCount] s t ∧ t.mem = s.mem := by
  have hgood : (decide (s.num Obj.mapOutCorrectedThreshold ≤ s.num (Obj.channelCorrectedPass c)) ||
      (s.channel c).pins.any (fun p => decide (s.num Obj.mapOutPinThreshold ≤ p.2)) || s.manyUncorrectable c) = false := by
    simp only [Bool.or_eq_false_iff, decide_eq_false_iff_not, List.any_eq_false, decide_eq_true_eq, List.all_eq_true, not_le] at hpins ⊢
    exact ⟨⟨hc, hpins⟩, hu⟩
  obtain ⟨n, hn⟩ := (s.passEnded c).countPasses_eq
  have hexec : exec (.scrubPassComplete c) s = .next ((s.passEnded c).setNum Obj.scrubPassCount n) := by
    refine (if_neg fun h => h.elim (· h0) (·.elim (· hm) (Nat.not_lt.2 hp))).trans ?_
    dsimp only
    rw [if_neg (by rw [hgood]; decide), ← hn]
    rfl
  refine ⟨_, hexec, (State.num_setNum_other _ _ (packedUnit_ne_single (by decide))).trans (s.passEnded_passCount c),
    (State.num_setNum_other _ _ (packedUnit_ne_single (by decide))).trans (s.passEnded_worstPin c),
    (State.setNum_channel ..).trans (s.passEnded_channel c), ObjectsKept.setNum (fun j hj => s.passEnded_kept c j fun hk =>
      hj (List.mem_append_left [Obj.scrubPassCount] hk)) (by simp) _, rfl⟩

/-- A late pass of a live channel is reported (R185). -/
theorem scrubPeriodExpiry_completes (h : s.channelLive c = true) :
    Completes (.scrubPeriodExpiry c) s (Logs Ev.scrubLate { die := 9 + c.val / 80, unit := c } [] s) :=
  ⟨_, if_pos h, s.raise_logs ..⟩

theorem scrubPeriodExpiry_idle (h : s.channelLive c = false) : exec (.scrubPeriodExpiry c) s = .next s := if_neg (by simp [h])

end Scrub

/-! ### A map-out and a restore are asked for (R186–R188) -/

theorem AnsweredFrom.migrating {u t : State} (h : AnsweredFrom u t) (m : Nat) : t.migrating m = u.migrating m := by
  obtain ⟨_, _, _, rfl⟩ := h
  rfl

theorem AnsweredFrom.channel {u t : State} (h : AnsweredFrom u t) (c : Nat) : t.channel c = u.channel c := by
  obtain ⟨_, _, _, rfl⟩ := h
  rfl

namespace Machine.State

variable (s : State) (c : Nat)

@[simp] theorem setNum_migrating (k n m : Nat) : (s.setNum k n).migrating m = s.migrating m := rfl

@[simp] theorem served_migrating (rq : Requester) (k m : Nat) : (s.served rq k).migrating m = s.migrating m := by simp [migrating]

theorem raise_migrating (code : Nat) (a : EventArgs) (m : Nat) : (s.raise code a).migrating m = s.migrating m :=
  (MigrationsKept.rfl.raise code a).migrating m

theorem mapOutRefused_eq_false_iff : s.mapOutRefused c = false ↔ s.num (Obj.channelState c) = 0 ∧
    (s.migrating (c / 80)).contains c = false ∧ 64 < (s.liveChannels (c / 80)).length - (s.migrating (c / 80)).length := by
  simp only [mapOutRefused, Bool.or_eq_false_iff, bne_eq_false_iff_eq, decide_eq_false_iff_not, not_le, and_assoc]

theorem mapOutRefused_served (rq : Requester) (k : Nat) : (s.served rq k).mapOutRefused c = s.mapOutRefused c := by
  obtain ⟨_, _, e⟩ := s.served_only rq k
  rw [e]
  rfl

theorem raise_channelState (code : Nat) (a : EventArgs) (i : Nat) : (s.raise code a).num (Obj.channelState i) = s.num (Obj.channelState i) :=
  (Settled.rfl.raise_in (List.Subset.refl _) code a).objs.packed (by decide)

theorem raise_channelLive (code : Nat) (a : EventArgs) : (s.raise code a).channelLive = s.channelLive :=
  funext fun i => congrArg (fun n => decide (n < 2)) (s.raise_channelState code a i)

theorem mapOutRefused_raise (code : Nat) (a : EventArgs) : (s.raise code a).mapOutRefused c = s.mapOutRefused c := by
  unfold mapOutRefused liveChannels
  dsimp only
  rw [raise_channelLive, raise_channelState, raise_migrating]

/-- An operator's request takes a channel out or is refused; either way the channel is reported as a candidate (R186). -/
theorem candidate_operator : s.candidate c true =
    if s.mapOutRefused c = true then
      (s.raise Ev.channelMapOut { die := 9 + c / 80, unit := c }).setNum (Obj.channelCommandStatus c) St.notPermittedInState
    else (s.raise Ev.channelMapOut { die := 9 + c / 80, unit := c }).beginMapOut c := by
  simp only [candidate, mapOutRefused_raise, Bool.not_true, Bool.false_and, Bool.false_eq_true, if_false]

/-- The state in which a map-out has joined its die's list (R188). -/
def queuesMapOut : State :=
  { s with memory := { s.memory with migrations := Map.put [] s.memory.migrations (c / 80) (s.migrating (c / 80) ++ [c]) } }

theorem queuesMapOut_migrating : (s.queuesMapOut c).migrating (c / 80) = s.migrating (c / 80) ++ [c] := Map.get_put_same ..

theorem beginMapOut_starts (h : s.migrating (c / 80) = []) : s.beginMapOut c = (s.queuesMapOut c).startMapOut c := if_pos h

theorem beginMapOut_waits (h : s.migrating (c / 80) ≠ []) : s.beginMapOut c = s.queuesMapOut c := if_neg h

theorem beginMapOut_migrating : (s.beginMapOut c).migrating (c / 80) = s.migrating (c / 80) ++ [c] := by
  by_cases h : s.migrating (c / 80) = []
  · rw [beginMapOut_starts s c h, ((s.queuesMapOut c).startMapOut_migrations c).migrating, queuesMapOut_migrating]
  · rw [beginMapOut_waits s c h, queuesMapOut_migrating]

end Machine.State

theorem channelState_ne_commandStatus (c : Nat) : Obj.channelState c ≠ Obj.channelCommandStatus c := packedUnit_ne (by decide)

section Command

variable {rq : Requester} {c : Channel} {s : State}

/-- What CHANNEL_MAP_OUT makes of the state that serves it, with its status (R186). -/
def mapOutEffect (c : Nat) (t : State) : State × Nat :=
  if t.num (Obj.channelState c) ≠ 0 ∨ (t.migrating (c / 80)).contains c then (t, St.notPermittedInState)
  else (t.candidate c true, if t.mapOutRefused c then St.notPermittedInState else St.ok)

theorem mapOutEffect_allowed {s : State} {c : Nat} (h : s.mapOutRefused c = false) :
    mapOutEffect c s = ((s.raise Ev.channelMapOut { die := 9 + c / 80, unit := c }).beginMapOut c, St.ok) := by
  obtain ⟨h0, hm, -⟩ := (s.mapOutRefused_eq_false_iff c).1 h
  rw [mapOutEffect, if_neg (by rw [hm]; simp [h0]), s.candidate_operator, h, if_neg (by decide), if_neg (by decide)]

/-- A request that is refused is at most reported (R186). -/
theorem mapOutEffect_refused {s : State} {c : Nat} (h : s.mapOutRefused c = true) : ∃ u, mapOutEffect c s = (u, St.notPermittedInState) ∧
    u.num (Obj.channelState c) = s.num (Obj.channelState c) ∧ u.mem = s.mem := by
  unfold mapOutEffect
  split
  · exact ⟨s, rfl, rfl, rfl⟩
  · refine ⟨_, rfl, ?_, ?_⟩
    · rw [s.candidate_operator, if_pos h, State.num_setNum_other _ _ (channelState_ne_commandStatus c), State.raise_channelState]
    · rw [s.candidate_operator, if_pos h, State.setNum_mem, State.raise_mem]

theorem channelMapOut_exec : exec (.channelMapOut rq c) s =
    .next (s.request rq (Obj.channelCommand c) (.num 1) none (reported (Obj.channelCommandStatus c) (mapOutEffect c))) := rfl

theorem channelMapOut_completes_allowed (ha : Accepts s rq (Obj.channelCommand c) (.num 1) none)
    (h : s.mapOutRefused c = false) : Completes (.channelMapOut rq c) s fun t =>
      t.num (Obj.channelCommandStatus c) = St.ok ∧ t.migrating (c / 80) = s.migrating (c / 80) ++ [c.val] ∧
      (s.migrating (c / 80) = [] → t.num (Obj.channelState c) = 1 ∧ bitAt (leNat (t.bytes Obj.mappedOutChannels)) c = true) ∧
      (s.migrating (c / 80) ≠ [] → t.num (Obj.channelState c) = 0 ∧ t.mem = s.mem) ∧ Answered rq St.ok t := by
  have h0 := ((s.mapOutRefused_eq_false_iff c).1 h).1
  refine .of_reported channelMapOut_exec ha (mapOutEffect_allowed (by rw [State.mapOutRefused_served, h])) fun t ht hst hans => ?_
  generalize hr : (s.served rq (Obj.channelCommand c)).raise Ev.channelMapOut { die := 9 + c.val / 80, unit := c.val } = r at ht
  have hm : ∀ m, r.migrating m = s.migrating m := fun m => by rw [← hr, State.raise_migrating, State.served_migrating]
  have hstate : t.num (Obj.channelState c) = (r.beginMapOut c).num (Obj.channelState c) :=
    (ht.num _).trans (State.num_setNum_other _ _ (channelState_ne_commandStatus c))
  refine ⟨hst, ?_, fun hn => ?_, fun hn => ?_, hans⟩
  · rw [ht.migrating, State.setNum_migrating, State.beginMapOut_migrating, hm]
  · have hstarts := r.beginMapOut_starts c ((hm _).trans hn)
    have hlist : t.bytes Obj.mappedOutChannels = (r.beginMapOut c).bytes Obj.mappedOutChannels :=
      congrArg Val.toBytes ((ht.obj _).trans (State.obj_setNum_other _ _ (packedUnit_ne_single (by decide)).symm))
    rw [hstate, hlist, hstarts]
    exact ⟨State.startMapOut_channelState .., State.startMapOut_listed _ _ c.isLt⟩
  · have hwaits := r.beginMapOut_waits c (by rw [hm]; exact hn)
    rw [hstate, ht.mem, State.setNum_mem, hwaits]
    subst hr
    exact ⟨(State.raise_channelState ..).trans ((State.served_num ..).trans h0), (State.raise_mem ..).trans (State.served_mem ..)⟩

theorem channelMapOut_completes_inactive (ha : Accepts s rq (Obj.channelCommand c) (.num 1) none)
    (h : s.num (Obj.channelState c) ≠ 0) : Completes (.channelMapOut rq c) s fun t =>
      t.num (Obj.channelCommandStatus c) = St.notPermittedInState ∧ OnlyObjects [Obj.channelCommandStatus c] s t := by
  obtain ⟨t, ht, hst, -, honly⟩ := Completes.of_reported_refused channelMapOut_exec ha
    (if_pos (.inl (by rw [State.served_num]; exact h)) : mapOutEffect c _ = _)
  exact ⟨t, ht, hst, honly⟩

theorem channelMapOut_completes_refused (ha : Accepts s rq (Obj.channelCommand c) (.num 1) none)
    (h : s.mapOutRefused c = true) : Completes (.channelMapOut rq c) s fun t =>
      t.num (Obj.channelCommandStatus c) = St.notPermittedInState ∧ t.num (Obj.channelState c) = s.num (Obj.channelState c) ∧
      t.mem = s.mem := by
  obtain ⟨u, hu, hstate, hmem⟩ :=
    mapOutEffect_refused (s := s.served rq (Obj.channelCommand c)) (c := c) (by rw [State.mapOutRefused_served, h])
  refine .of_reported channelMapOut_exec ha hu fun t ht hst _ => ⟨hst, ?_, ?_⟩
  · rw [ht.num, State.num_setNum_other _ _ (channelState_ne_commandStatus c), hstate, State.served_num]
  · rw [ht.mem, State.setNum_mem, hmem, State.served_mem]

/-- What CHANNEL_RESTORE makes of the state that serves it, with its status (R188). -/
def restoreEffect (c : Nat) (t : State) : State × Nat :=
  if (List.range 16).any (fun h => t.num (Obj.hoopState h) != 0) ∨ !bitAt (leNat (t.bytes Obj.mappedOutChannels)) c then
    (t, St.notPermittedInState)
  else (t.setChannel c { t.channel c with restore := true }, St.ok)

theorem channelRestore_exec : exec (.channelRestore rq c) s =
    .next (s.request rq (Obj.channelCommand c) (.num 2) none (reported (Obj.channelCommandStatus c) (restoreEffect c))) := rfl

/-- A restore is refused where a hoop is not Empty or the channel is not on the list (R188). -/
theorem restoreRefused_iff : ((List.range 16).any (fun h => s.num (Obj.hoopState h) != 0) = true ∨
    (!bitAt (leNat (s.bytes Obj.mappedOutChannels)) c) = true) ↔
    ¬ ((∀ h : Hoop, s.num (Obj.hoopState h) = 0) ∧ bitAt (leNat (s.bytes Obj.mappedOutChannels)) c = true) := by
  have hhoops : (List.range 16).any (fun h => s.num (Obj.hoopState h) != 0) = true ↔ ¬ ∀ h : Hoop, s.num (Obj.hoopState h) = 0 := by
    simp only [List.any_eq_true, List.mem_range, bne_iff_ne, ne_eq, not_forall]
    exact ⟨fun ⟨h, hlt, hne⟩ => ⟨⟨h, hlt⟩, hne⟩, fun ⟨h, hne⟩ => ⟨h, h.isLt, hne⟩⟩
  rw [hhoops, Bool.not_eq_true', ← Bool.not_eq_true, ← not_and_or]

theorem channelRestore_completes (ha : Accepts s rq (Obj.channelCommand c) (.num 2) none)
    (h : (∀ h : Hoop, s.num (Obj.hoopState h) = 0) ∧ bitAt (leNat (s.bytes Obj.mappedOutChannels)) c = true) :
    Completes (.channelRestore rq c) s fun t => t.channel c = { s.channel c with restore := true } ∧
      t.num (Obj.channelCommandStatus c) = St.ok ∧ ObjectsKept [Obj.channelCommandStatus c] s t ∧ t.mem = s.mem ∧
      Answered rq St.ok t := by
  have hf : restoreEffect c (s.served rq (Obj.channelCommand c)) =
      ((s.served rq (Obj.channelCommand c)).setChannel c { (s.served rq (Obj.channelCommand c)).channel c with restore := true }, St.ok) :=
    if_neg (by simp only [State.served_num, State.served_bytes]; exact fun hr => restoreRefused_iff.1 hr h)
  refine .of_reported channelRestore_exec ha hf fun t ht hst hans => ⟨?_, hst, fun j hj => ?_, ?_, hans⟩
  · rw [ht.channel, State.setNum_channel, State.channel_setChannel_same]
    simp only [State.channel, State.served_memory]
  · rw [ht.obj, State.obj_setNum_other _ _ (by simpa using hj), State.setChannel_obj, State.served_obj]
  · rw [ht.mem, State.setNum_mem, State.setChannel_mem, State.served_mem]

theorem channelRestore_completes_refused (ha : Accepts s rq (Obj.channelCommand c) (.num 2) none)
    (h : ¬ ((∀ h : Hoop, s.num (Obj.hoopState h) = 0) ∧ bitAt (leNat (s.bytes Obj.mappedOutChannels)) c = true)) :
    Completes (.channelRestore rq c) s fun t =>
      t.num (Obj.channelCommandStatus c) = St.notPermittedInState ∧ OnlyObjects [Obj.channelCommandStatus c] s t := by
  obtain ⟨t, ht, hst, -, honly⟩ := Completes.of_reported_refused channelRestore_exec ha
    (if_pos (by simp only [State.served_num, State.served_bytes]; exact restoreRefused_iff.2 h) : restoreEffect c _ = _)
  exact ⟨t, ht, hst, honly⟩

end Command

/-! ### Several objects updated, each from what it held -/

/-- Objects of tables that are apart from one another have different keys. -/
theorem ObjTable.keys_nodup {l : List (ObjTable × Nat)} (h : (l.map Prod.fst).Pairwise ObjTable.Apart) :
    (l.map fun x => x.1.key x.2).Nodup :=
  List.pairwise_map.2 ((List.pairwise_map.1 h).imp fun ha => ObjTable.key_ne ha _ _)

/-- The state with an object's number taken through a function. -/
def Machine.State.update (s : State) (x : Nat × (Nat → Nat)) : State := s.setNum x.1 (x.2 (s.num x.1))

theorem Machine.State.num_each_update_of_notMem {l : List (Nat × (Nat → Nat))} {k : Nat} (s : State) (h : k ∉ l.map Prod.fst) :
    (s.each l State.update).num k = s.num k := by
  induction l generalizing s with
  | nil => rfl
  | cons x l ih =>
    simp only [List.map_cons, List.mem_cons, not_or] at h
    exact (ih (s.update x) h.2).trans (State.num_setNum_other _ _ h.1)

theorem Machine.State.num_each_update {l : List (Nat × (Nat → Nat))} {k : Nat} {f : Nat → Nat} (s : State)
    (hl : (l.map Prod.fst).Nodup) (h : (k, f) ∈ l) : (s.each l State.update).num k = f (s.num k) := by
  induction l generalizing s with
  | nil => nomatch h
  | cons x l ih =>
    obtain ⟨hx, hl⟩ := List.nodup_cons.1 hl
    rcases List.mem_cons.1 h with rfl | h
    · exact (State.num_each_update_of_notMem (s.update (k, f)) hx).trans (State.num_setNum_same ..)
    · have hne : k ≠ x.1 := fun e => hx (e ▸ List.mem_map_of_mem h)
      exact (ih (s.update x) hl h).trans (congrArg f (State.num_setNum_other _ _ hne))

/-! ### The end of a migration (R184, R187, R188) -/

@[simp] theorem Machine.State.raise_memory (s : State) (code : Nat) (a : EventArgs) : (s.raise code a).memory = s.memory := by
  obtain ⟨_, _, _, _, e⟩ := s.raise_only code a
  rw [e]

theorem Machine.State.noteBadLines_bad (s : State) (lines : List Nat) : (s.noteBadLines lines).memory.bad = s.memory.bad := by
  refine State.each_keeps (fun t => t.memory.bad = s.memory.bad) _ (fun t l ht => ?_) lines s rfl
  unfold State.noteUncorrectable
  extract_lets s1 x net memory s2 due
  have h2 : s2.memory.bad = s.memory.bad := ht
  clear_value s2
  split
  · rw [State.raise_memory]
    exact h2
  · exact h2

namespace Machine.State

variable (s : State) (c m : Nat) (failed rest : List Nat)

/-- The lines of a die's new address space that the copy could not correct and that did not read uncorrectable before (R187). -/
def readsFailed : List Nat :=
  failed.filter fun l => (l / 2 ^ 32 == m && decide (l % 2 ^ 32 < (s.num (Obj.dieUsableBytes m) - channelBytes) / 64)) &&
    !s.memory.bad.contains l

/-- The state in which the lines that the copy could not correct are marked. -/
def marksFailed : State := { s with memory := { s.memory with bad := s.readsFailed m failed ++ s.memory.bad } }

/-- The copy's failed reads count, and what they mark stays (R184, R187). -/
theorem copyFails_eq : ∃ lines, s.copyFails m failed = (s.marksFailed m failed).noteBadLines lines := ⟨_, rfl⟩

theorem copyFails_writes : WritesIn readTables s (s.copyFails m failed) := by
  obtain ⟨lines, e⟩ := s.copyFails_eq m failed
  rw [e]
  exact (Settled.noteBadLines_in (List.Subset.refl _) (Settled.keep .rfl)).objs

theorem copyFails_mem : (s.copyFails m failed).mem = s.mem := by
  obtain ⟨lines, e⟩ := s.copyFails_eq m failed
  rw [e, noteBadLines_mem]
  rfl

theorem copyFails_bad : (s.copyFails m failed).memory.bad = s.readsFailed m failed ++ s.memory.bad := by
  obtain ⟨lines, e⟩ := s.copyFails_eq m failed
  rw [e, noteBadLines_bad]
  rfl

/-- The state in which the first map-out of die m is off its list (R188). -/
def leavesQueue : State := { s with memory := { s.memory with migrations := Map.put [] s.memory.migrations m rest } }

theorem leavesQueue_mem : (s.leavesQueue m rest).mem = s.mem := rfl

theorem leavesQueue_bad : (s.leavesQueue m rest).memory.bad = s.memory.bad := rfl

theorem leavesQueue_migrating : (s.leavesQueue m rest).migrating m = rest := Map.get_put_same ..

theorem each_update_memory (l : List (Nat × (Nat → Nat))) : (s.each l update).memory = s.memory :=
  each_keeps (fun t => t.memory = s.memory) update (fun _ _ ht => ht) l s rfl

theorem each_update_mem (l : List (Nat × (Nat → Nat))) : (s.each l update).mem = s.mem :=
  each_keeps (fun t => t.mem = s.mem) update (fun _ _ ht => (setNum_mem ..).trans ht) l s rfl

theorem leavesQueue_num (k : Nat) : (s.leavesQueue m rest).num k = s.num k := rfl

/-- What step 3 of a map-out of channel c on die m makes of the objects (R187). -/
def mapOutUpdates : List (Nat × (Nat → Nat)) :=
  [(Obj.channelState c, fun _ => 2), (Obj.dieLiveChannels m, (· - 1)), (Obj.dieUsableBytes m, (· - channelBytes)),
    (Obj.memoryUsableBytes, (· - channelBytes)), (Obj.channelsMappedOut, fun n => (n + 1) % 2 ^ 16),
    (Obj.dieMigrationProgress m, fun _ => 0)]

theorem mapOutUpdates_nodup : ((mapOutUpdates c m).map Prod.fst).Nodup :=
  ObjTable.keys_nodup (l := [(⟨0x5100, 0x00, 640, true⟩, c), (⟨0x5010, 0x01, 8, false⟩, m), (⟨0x5010, 0x02, 8, false⟩, m),
    (⟨0x5000, 0x02, 1, false⟩, 0), (⟨0x5000, 0x03, 1, false⟩, 0), (⟨0x5010, 0x03, 8, false⟩, m)])
    (by simp only [List.map_cons, List.map_nil]; decide)

/-- The objects of a channel's scrub pass (R185). -/
def passTables : List ObjTable := [⟨0x5100, 0x03, 640, true⟩, ⟨0x5100, 0x04, 640, true⟩]

/-- A new pass of the scrub changes what the channels of the die have of their passes, and no more (R185, R187). -/
theorem restartScrub_only : WritesIn passTables s (s.restartScrub m) ∧
    ∃ d x, s.restartScrub m = { s with dict := d, memory := { s.memory with channels := x } } := by
  refine State.each_keeps (fun t => WritesIn passTables s t ∧ ∃ d x, t = { s with dict := d, memory := { s.memory with channels := x } })
    _ (fun t j ⟨hw, hs⟩ => ?_) (List.range 80) s ⟨.rfl, _, _, rfl⟩
  extract_lets c x t1
  have h1 : WritesIn passTables s t1 ∧ ∃ d y, t1 = { s with dict := d, memory := { s.memory with channels := y } } := by
    obtain ⟨d, y, e⟩ := hs
    unfold t1
    split
    · exact ⟨hw, d, y, e⟩
    · exact ⟨hw.keep rfl, d, _, by rw [e]; rfl⟩
  clear_value t1
  obtain ⟨hw1, d, y, e⟩ := h1
  exact ⟨(hw1.set (.packed (by decide)) _).set (.packed (by decide)) _, _, y, by rw [e]; rfl⟩

/-- The state in which channel c of die m is mapped out and the next map-out of the die may begin (R187, R188). -/
def mapOutEnds : State :=
  ((((s.copyFails m failed).leavesQueue m rest).each (mapOutUpdates c m) update).raise Ev.channelMappedOut
    { die := 9 + m, unit := c }).restartScrub m

theorem mapOutEnds_num {k : Nat} {f : Nat → Nat} (hk : ¬ Written (readTables ++ passTables) k) (hf : (k, f) ∈ mapOutUpdates c m) :
    (s.mapOutEnds c m failed rest).num k = f (s.num k) := by
  have hpass : ¬ Written passTables k := fun h => hk (h.mono (by decide))
  have hevent : ¬ Written eventTables k := fun h => hk (h.mono (by decide))
  have hread : ¬ Written readTables k := fun h => hk (h.mono (by decide))
  have hfailed := (s.copyFails_writes m failed).num hread
  unfold mapOutEnds
  generalize s.copyFails m failed = u at hfailed ⊢
  rw [(restartScrub_only ..).1.num hpass, (Settled.rfl.raise_in (List.Subset.refl _) _ _).objs.num hevent,
    num_each_update _ (mapOutUpdates_nodup c m) hf, leavesQueue_num, hfailed]

theorem mapOutEnds_memory : (s.mapOutEnds c m failed rest).memory.bad = s.readsFailed m failed ++ s.memory.bad ∧
    (s.mapOutEnds c m failed rest).migrating m = rest ∧ (s.mapOutEnds c m failed rest).mem = s.mem ∧
    Reported Ev.channelMappedOut { die := 9 + m, unit := c } (s.mapOutEnds c m failed rest) := by
  unfold mapOutEnds
  generalize hu : ((s.copyFails m failed).leavesQueue m rest).each (mapOutUpdates c m) update = u
  have hbad : u.memory.bad = s.readsFailed m failed ++ s.memory.bad := by
    rw [← hu, each_update_memory, leavesQueue_bad, copyFails_bad]
  have hqueue : u.migrating m = rest := by
    rw [← hu, migrating, each_update_memory, ← migrating, leavesQueue_migrating]
  have hmem : u.mem = s.mem := by rw [← hu, each_update_mem, leavesQueue_mem, copyFails_mem]
  have hlog := u.raise_reported Ev.channelMappedOut { die := 9 + m, unit := c }
  have hkeep := u.raise_memory Ev.channelMappedOut { die := 9 + m, unit := c }
  have hkeep' := u.raise_mem Ev.channelMappedOut { die := 9 + m, unit := c }
  generalize u.raise Ev.channelMappedOut { die := 9 + m, unit := c } = r at hlog hkeep hkeep'
  obtain ⟨d, x, e⟩ := (r.restartScrub_only m).2
  rw [e]
  refine ⟨?_, ?_, hkeep'.trans hmem, hlog⟩
  · exact (congrArg MemoryState.bad hkeep).trans hbad
  · exact (congrArg (fun y : MemoryState => Map.get [] y.migrations m) hkeep).trans hqueue

/-- The state in which the next map-out that waits, where there is one, has begun (R188). -/
def nextMapOut (s : State) : List Nat → State
  | [] => s
  | next :: _ => s.startMapOut next

theorem nextMapOut_migrations : MigrationsKept s (s.nextMapOut rest) := by
  cases rest with
  | nil => exact .rfl
  | cons next after => exact s.startMapOut_migrations next

theorem nextMapOut_num {k : Nat} (hk : ¬ Written mapOutTables k) (hl : k ≠ Obj.mappedOutChannels)
    (hc : ∀ next ∈ rest, k ≠ Obj.channelState next) : (s.nextMapOut rest).num k = s.num k := by
  cases rest with
  | nil => rfl
  | cons next after => exact s.startMapOut_num next hk hl (hc next List.mem_cons_self)

end Machine.State

section Migration

variable {m : MDie} {failed rest : List Nat} {c : Channel} {s : State}

theorem migrationComplete_idle (h : s.migrating m = []) : exec (.migrationComplete m failed) s = .next s := by
  change execMigrationComplete m failed s = .next s
  rw [execMigrationComplete, h]

theorem migrationComplete_exec (h : s.migrating m = c.val :: rest) : exec (.migrationComplete m failed) s =
    .next ((s.mapOutEnds c m failed rest).nextMapOut rest) := by
  change execMigrationComplete m failed s = _
  rw [execMigrationComplete, h]
  cases rest <;> rfl

/-- What the end of a migration has made of the objects of step 3 stands when the next map-out has begun (R187, R188). -/
theorem migrationEnds_num {k : Nat} {f : Nat → Nat} (hf : (k, f) ∈ State.mapOutUpdates c m)
    (hk : ¬ Written (mapOutTables ++ State.passTables) k) (hl : k ≠ Obj.mappedOutChannels)
    (hc : ∀ next ∈ rest, k ≠ Obj.channelState next) :
    ((s.mapOutEnds c m failed rest).nextMapOut rest).num k = f (s.num k) :=
  (State.nextMapOut_num _ _ (fun h => hk (h.mono (List.subset_append_left ..))) hl hc).trans
    (s.mapOutEnds_num c m failed rest (fun h => hk (h.mono (by decide))) hf)

/-- No line reads uncorrectable before, so every failed line of the die's new address space is marked (R187). -/
theorem mem_readsFailed (hbad : s.memory.bad = []) {l : Nat} (hl : l ∈ failed) (hdie : l / 2 ^ 32 = m)
    (htop : l % 2 ^ 32 < (s.num (Obj.dieUsableBytes m) - channelBytes) / 64) : l ∈ s.readsFailed m failed := by
  simp only [State.readsFailed, hbad, List.mem_filter, Bool.and_eq_true, beq_iff_eq, decide_eq_true_eq]
  exact ⟨hl, ⟨hdie, htop⟩, rfl⟩

theorem migrationComplete_completes (hm : s.migrating m = c.val :: rest) (hc : rest.contains c.val = false)
    (hbad : s.memory.bad = []) : Completes (.migrationComplete m failed) s fun t =>
      t.num (Obj.channelState c) = 2 ∧ t.migrating m = rest ∧
      t.num (Obj.dieLiveChannels m) = s.num (Obj.dieLiveChannels m) - 1 ∧
      t.num (Obj.dieUsableBytes m) = s.num (Obj.dieUsableBytes m) - channelBytes ∧
      t.num Obj.memoryUsableBytes = s.num Obj.memoryUsableBytes - channelBytes ∧
      t.num Obj.channelsMappedOut = (s.num Obj.channelsMappedOut + 1) % 2 ^ 16 ∧
      (∀ next after, rest = next :: after → t.num (Obj.channelState next) = 1) ∧
      (rest = [] → Reported Ev.channelMappedOut { die := 9 + m.val, unit := c } t ∧ t.mem = s.mem ∧
        ∀ l ∈ failed, l / 2 ^ 32 = m → l % 2 ^ 32 < (s.num (Obj.dieUsableBytes m) - channelBytes) / 64 → l ∈ t.memory.bad) := by
  obtain ⟨hmarked, hqueue, hmem, hreport⟩ := s.mapOutEnds_memory c m failed rest
  refine ⟨_, migrationComplete_exec hm, ?_, ?_, ?_, ?_, ?_, ?_, ?_, ?_⟩
  · exact migrationEnds_num (f := fun _ => 2) (by simp [State.mapOutUpdates]) (Written.not_packed (by decide))
      (packedUnit_ne_single (by decide)) fun next hnext e => by
        rw [(packedUnit_inj (by decide)).1 e] at hc
        simp [hnext] at hc
  · exact ((s.mapOutEnds c m failed rest).nextMapOut_migrations rest).migrating m |>.trans hqueue
  · exact migrationEnds_num (f := (· - 1)) (by simp [State.mapOutUpdates]) (Written.not_linear (by decide))
      (linearUnit_ne_single (by decide)) fun _ _ => linearUnit_ne_packed (by decide)
  · exact migrationEnds_num (f := (· - channelBytes)) (by simp [State.mapOutUpdates]) (Written.not_linear (by decide))
      (linearUnit_ne_single (by decide)) fun _ _ => linearUnit_ne_packed (by decide)
  · exact migrationEnds_num (f := (· - channelBytes)) (by simp [State.mapOutUpdates])
      (Written.not_key (x := ⟨0x5000, 0x02, 1, false⟩) (by decide) 0) (by decide) fun _ _ => (packedUnit_ne_single (by decide)).symm
  · exact migrationEnds_num (f := fun n => (n + 1) % 2 ^ 16) (by simp [State.mapOutUpdates])
      (Written.not_key (x := ⟨0x5000, 0x03, 1, false⟩) (by decide) 0) (by decide) fun _ _ => (packedUnit_ne_single (by decide)).symm
  · rintro next after rfl
    exact State.startMapOut_channelState ..
  · rintro rfl
    refine ⟨hreport, hmem, fun l hl hdie htop => ?_⟩
    exact hmarked ▸ List.mem_append_left _ (mem_readsFailed hbad hl hdie htop)

end Migration

/-- Settles O29: the statement follows clause by clause from what each command does where its checks pass (`…_completes…`) and where
they do not (`…_idle`, `…_refused`); the checks of a map-out are those of `State.mapOutRefused`. -/
theorem scrubAndMapOut : Obligations.ScrubAndMapOut := by
  unfold Obligations.ScrubAndMapOut
  refine ⟨fun c word s => ⟨scrubCodewordRead_idle, fun hs hb fixed hd => ?_, fun hs hb fixed wrong hd hw => ?_,
      fun hs hb _ hp ht => scrubCodewordRead_completes_failed hs hb hp ht⟩,
    fun c s => scrubPassComplete_completes,
    fun c s => ⟨scrubPeriodExpiry_completes, scrubPeriodExpiry_idle⟩,
    fun rq c s ha => ⟨fun h _ => channelMapOut_completes_allowed ha ((s.mapOutRefused_eq_false_iff c).2 h),
      channelMapOut_completes_inactive ha, fun h => channelMapOut_completes_refused ha ?_⟩,
    fun m failed s => ⟨migrationComplete_idle, fun c rest hm hc _ hbad _ => migrationComplete_completes hm hc hbad⟩,
    fun rq c s ha => ⟨channelRestore_completes ha, channelRestore_completes_refused ha⟩⟩
  · exact scrubCodewordRead_completes_intact hs (fun h => hb (.inl h)) hd
  · exact scrubCodewordRead_completes_corrected hs (fun h => hb (.inl h)) hd hw
  · exact Bool.eq_true_of_not_eq_false fun hr => h ((s.mapOutRefused_eq_false_iff c).1 hr)

end Sys2Proof
